-- ==== Sys2Proof/Word.lean ====
section
/-! DEFINITION. The word types of the model: bytes, register words, ticks of the pattern time base; and the plain data that the
commands carry as operands. -/
namespace Sys2Proof

/-- One byte of a memory, a store block or a payload. -/
abbrev Byte := BitVec 8
/-- One 32-bit register word (R3). -/
abbrev Word := BitVec 32
/-- One 64-bit value: a PTB tick (R160), a processor register. -/
abbrev DWord := BitVec 64

/-- Pin voltages of a word, in microvolts (a pair: P − N): at each strobe, UI j or entry j; and the least and the greatest within
the window of entry j. The comparator's results follow from the thresholds (R58, R59). A strobe without an entry reads 0. -/
structure Seen where
  uv : List Int
  least : List Int
  most : List Int
  deriving DecidableEq, Repr

/-- Who sends a memory-space request (R398), the host's functions and DMA channels told apart. Numbers are package numbers. -/
inductive Ini where
  | psq (n : Fin 16) | fcu (d : Fin 4) | rae (n : Fin 8) | sac (n : Fin 64) | sp (n : Fin 16) | fabric (r : Fin 256)
  | cfe (d : Fin 4) | owl (d : Fin 4) | den (d : Fin 4) | pf | vf (n : Fin 16) | dma (c : Fin 32) | gsl (g : Fin 24)
  deriving DecidableEq, Repr

/-- The atomic operations of the SPs (R397 AMO). -/
inductive Amo where
  | swap | add | xor | or | and | min | max | minu | maxu
  deriving DecidableEq, Repr

/-- What a request asks of its target (R397): a read or write of `len` bytes, a write of masked bytes of a line, an atomic
line-OR, an atomic of 4 or 8 bytes, a message to a fabric port. -/
inductive MemOp where
  | rd | wr | wrp (mask : BitVec 64) | aor | amo (f : Amo) | msg (region : Fin 256)
  deriving DecidableEq, Repr

/-- A request packet (R397): initiator, class (pattern or service), site tag, operation, address, length in bytes, payload with
its poison bits (one per 8 bytes of the line), the device number of a global address (R46). The payload's byte 0 belongs to `addr`;
for WRP and AOR to the line. -/
structure MemReq where
  ini : Ini
  service : Bool
  site : Option (Fin 16)
  op : MemOp
  addr : BitVec 40
  len : Nat
  data : BitVec 512
  pois : BitVec 8
  dev : Option (BitVec 14)
  deriving DecidableEq, Repr

/-- The memories with an ECC group of their own (08_stored_data_integrity.md, Register map). -/
inductive EGroup where
  | store (r : Fin 256) | mp (m : Fin 8) | tcm (n : Fin 16) | sacPm (c : Fin 64) | sacDm (c : Fin 64) | ls (p : Fin 16)
  | owl (d : Fin 4)
  deriving DecidableEq, Repr

/-- How the training of a memory port ends (R427, R428): done, with what the SPD reports (a module kind of R426's table, ranks, x8 devices,
device density in Gb); no DIMM answers; failed. -/
inductive DimmEnd where
  | done (kind : Bool) (ranks : Fin 4) (x8 : Bool) (dens : BitVec 8)
  | noDimm
  | failed
  deriving DecidableEq, Repr

/-- What a fixed slot of a service bundle carries (R416): a site's fail flag, a site's match bits for an input PCLK, a site
override, a TRIG event, a PTB decision. -/
inductive SlotKind where
  | failFlag (site : Fin 16)
  | matchBits (site : Fin 16) (c : Nat)
  | override
  | trig
  | ptb
  deriving DecidableEq, Repr

/-- The four sides of a fabric cluster, in the silicon frame (R30). -/
inductive Side where
  | n | s | e | w
  deriving DecidableEq, Repr

/-- What a cluster input takes (R240): of the segments of one level that lead to the cluster from a side, number `i` driven `k` + 1 clusters
away (L1: the adjacent cluster); or a global line, horizontal or vertical, eastward and southward or `back`. -/
inductive Tap where
  | l1 (side : Side) (i : Fin 32)
  | l4 (side : Side) (k : Fin 4) (i : Fin 16)
  | l16 (side : Side) (k : Fin 16) (i : Fin 8)
  | line (vertical back : Bool) (i : Fin 256)
  deriving DecidableEq, Repr

/-- What drives a global line in a region, or a bus of a crossing port: a cell, a global line, or a hard-block port into the fabric: a
bus of a pattern bus, TAKE of a die's bank, a read-data bus of a store block, a bus of a fabric crossing (R240 to R245). -/
inductive BusSrc where
  | cell (col : Fin 32) (row pos : Fin 16)
  | line (vertical back : Bool) (i : Fin 256)
  | pattern (psq : Fin 16) (bus : Fin 12)
  | take (bank : Fin 18)
  | store (block : Fin 32) (portB : Bool) (bus : Fin 8)
  | crossing (edge : Fin 2) (bus : Fin 320)
  deriving DecidableEq, Repr

/-- What reaches a fabric cell in a cycle: its four inputs and its cluster's context bus at the edge that ends the cycle, nine bits
each with the poison wire on top (R227, R236). -/
structure CellIn where
  in0 : BitVec 9
  in1 : BitVec 9
  in2 : BitVec 9
  in3 : BitVec 9
  ctx : BitVec 9
  deriving DecidableEq, Repr

/-- What a store-block port samples at an edge: control, two address buses, eight data buses of nine bits (R247). -/
structure PortIn where
  ctl : BitVec 9
  addr0 : BitVec 9
  addr1 : BitVec 9
  data : BitVec 72
  deriving DecidableEq, Repr

/-- The answer to a request: data with its poison bits, an acknowledgement, or an error with its status (R397). -/
inductive Rsp where
  | data (v pois : Nat)
  | ack
  | decode
  | denied
  | link
  deriving DecidableEq, Repr

/-- A NoC packet in a DATA frame: a request or a response, with the number its initiator gave it. -/
inductive GPkt where
  | req (tag : Nat) (q : MemReq)
  | rsp (tag : Nat) (r : Rsp)
  deriving DecidableEq, Repr

/-- A frame of a link port (R468, R469): TYPE (0 IDLE, 1 DATA, 2 STOP, 3 PTB, 4 RELAY, 5 LMGT), virtual channel, devices, age in µs,
the packets of a DATA frame, group, STOP_AT and origin of a STOP, bytes of a RELAY frame; once sent, SEQ and the key slot;
`born` and `at_` are the model's own: the number of the next request when the frame was matched against the route table (R12), and when
this device has last brought AGE up to date (tick + 1, 0 never). -/
structure GFrame where
  type : Nat
  vc : Nat := 0
  dst : Nat := 0
  src : Nat := 0
  age : Nat := 0
  pkts : List GPkt := []
  gid : Nat := 0
  stopAt : Nat := 0
  data : List (BitVec 8) := []
  seq : Nat := 0
  key : Option Nat := none
  born : Nat := 0
  at_ : Nat := 0
  deriving DecidableEq, Repr

/-- What the header of a received frame says beside its payload (R468, R470): SEQ, ACK, NAK, credits returned, encryption and key slot,
codewords corrected in it. -/
structure GHdr where
  seq : BitVec 16
  ack : BitVec 16
  nak : Bool
  crvc : Fin 4
  crn : BitVec 6
  enc : Bool
  key : Fin 4
  fecc : BitVec 8
  deriving DecidableEq, Repr

/-- A link management exchange (R465, R469, R475, R485): a training or SESSION exchange, the partner's epochs, its announcement of
down, a key request, a far-end loopback request, an answer. -/
inductive LmgtMsg where
  | session (session : BitVec 32) (dev : BitVec 14)
  | epochs (epoch minpeer : BitVec 16)
  | down
  | key
  | farLoop
  | answer
  deriving DecidableEq, Repr

/-- How a training of a link port ends (R464, R465): rate code, polarities, lane order, the partner's SESSION, device number and epochs,
the measured ASYM_PHY. -/
structure LinkUp where
  rate : Fin 6
  pol : BitVec 4
  order : BitVec 8
  session : BitVec 32
  dev : BitVec 14
  epoch : BitVec 16
  minpeer : BitVec 16
  asym : BitVec 16
  deriving DecidableEq, Repr

/-- A memory TLP to a BAR (R492): function (none the PF), BAR 0, 2 or 4, offset, read or write, bytes, poison. -/
structure Tlp where
  fn : Option (Fin 16)
  bar : Fin 3
  offset : BitVec 36
  write : Bool
  len : Nat
  data : List (BitVec 8)
  pois : Bool
  deriving DecidableEq, Repr

/-- A configuration request (R490 to R492): a read or write of a dword; a write that sets VF Enable, resizes BAR2 to 2^n GiB, or moves
the function to D3hot or D0. -/
inductive CfgReq where
  | read (dword : BitVec 10)
  | write (dword : BitVec 10) (v : BitVec 32)
  | vfEnable
  | bar2 (n : Fin 7)
  | power (d3 : Bool)
  deriving DecidableEq, Repr

/-- What ends Hibernate (R511): PERST_N deasserted after its assertion, a rising level on an LD0 service pin, a DBGACC operation. -/
inductive Wake where
  | perst | pin (n : Fin 16) | dbgacc
  deriving DecidableEq, Repr

/-- What a guest port's link has negotiated (R98, R103): its rate code, and 16 lanes or 8. -/
structure GuestLink where
  rate : BitVec 2
  x16 : Bool
  deriving DecidableEq, Repr

/-- Of a REPEAT of a sequencer, at most `most` issues. -/
structure RepeatPart where
  psq : Fin 16
  most : Nat
  deriving DecidableEq, Repr

/-- PCLK `c` of a site's run, for the pins of a bank that belong to the site (R94). -/
structure DriftPoint where
  bank : Fin 72
  site : Fin 16
  c : Nat
  deriving DecidableEq, Repr

/-- What a retention scan finds (R304, R308): blocks that fail the margin read, and lines with bit errors and their number. -/
structure ScanFound where
  weak : List (Fin 2048)
  errs : List (Fin 2097152 × Nat)
  deriving DecidableEq, Repr

end Sys2Proof
end

