-- ==== Sys2Proof/Syntax.lean ====
section
/-! DEFINITION. The commands that the block takes: one constructor per row of spec/opcode_table.json, in the table's order. -/
namespace Sys2Proof

/-- The commands of the block. The operands say which unit, and what arrives from outside it. -/
inductive Instr where
  /-- A write to a register that has no row of its own sets its fields, ignoring reserved bits and setting RSVW (R15). -/
  | registerWrite (ini : Ini) (a : BitVec 40) (wide : Bool) (v : BitVec 64) (remote : Rsp)
  /-- A register access of wrong size or alignment reads zero, changes nothing and raises the reserved-write source (R3). -/
  | badSizeAccess (ini : Ini) (write : Bool) (a : BitVec 40)
  /-- BLK_COMMIT.GO checks all staged values together and makes them active or sets COMMIT_ERR (R9). -/
  | commitGo (ini : Ini) (a : BitVec 40)
  /-- BLK_COMMIT.DISCARD copies active values back into the staged values and clears PEND (R11). -/
  | commitDiscard (ini : Ini) (a : BitVec 40)
  /-- A passed TCB commit takes effect at the first PCLK in which no owning site runs a pattern, starting any blanking (R88). -/
  | tcbCommitApply (b : Fin 72)
  /-- A supply leaving its POR window or POR_N low asserts POR and forces every channel safe (R544). -/
  | porAssert
  /-- At POR release each die samples its ROT straps, LD0 samples its boot straps, and the mode becomes START (R25). -/
  | porRelease (straps : BitVec 16)
  /-- Every 10 µs the Owl updates the DCTL_READY bits and readiness summaries of its die (R50). -/
  | readyPoll (d : Fin 4)
  /-- The first write to DCTL_DEVNUM after POR sets DEVNUM and LOCKED; later writes set LOCKW (R47). -/
  | devnumWrite (d : Fin 4) (v : Word)
  /-- A die that sees SAFE_P or SAFE_Q low enters device-safe (R36). -/
  | safeNetLow (p q : Bool)
  /-- When SAFE_P and SAFE_Q disagree for more than 1 µs every die raises the SAFE net mismatch source (R36). -/
  | safeNetMismatch
  /-- When all TGMs are locked LD0 pulses EPOCH and every die loads 0 into its PTB and sets DCTL_READY.PTB (R162). -/
  | epochStartPulse
  /-- At every PTB[19:0] = 0 LD0 pulses EPOCH and each die checks its alignment (R163). -/
  | epochPulse
  /-- Each logic die starts the guest sideband and runs the admission sequence on its guest port (R98). -/
  | guestDiscovery (d : Fin 4)
  /-- A guest port with no sideband answer by t0 + 20 ms is parked (R100). -/
  | guestSidebandTimeout (d : Fin 4)
  /-- Admission completes, setting PRESENT, GPT and ARP ready, or is refused and parks the port (R98). -/
  | guestAdmissionDone (d : Fin 4) (id : BitVec 16) (gver banks : BitVec 8) (caps : Nat) (trained : Bool) (link : GuestLink)
  /-- The guest mainband goes down in service and the ARP holds its DACs (R103). -/
  | arpLinkDown (d : Fin 4)
  /-- After 100 µs without a sideband heartbeat the ARP turns off its PMUs and sets OFF (R103). -/
  | arpHeartbeatTimeout (d : Fin 4)
  /-- A guest retrain through steps 3 to 5 ends, setting DCTL_READY.ARP again on success (R103). -/
  | arpRetrainDone (d : Fin 4) (up : Option GuestLink)
  /-- An ARP sensor above 110 °C turns off all its PMUs and raises ARP over temperature (R119). -/
  | arpOverTemperature (d : Fin 4) (temp : BitVec 16)
  /-- Every 1 ms the ARP temperature registers are updated (R96). -/
  | arpTempSample (d : Fin 4) (t0 t1 t2 t3 : BitVec 16)
  /-- VCCB leaving TCB_VWIN clears VCCB_OK, latches the bank's enabled pins safe and raises its fault source (R53). -/
  | vccbOutOfWindow (b : Fin 72) (mv : BitVec 11)
  /-- VCCB returning 10 mV inside the window sets VCCB_OK again (R53). -/
  | vccbReturn (b : Fin 72) (mv : BitVec 11)
  /-- VTT current above 200 mA for 10 µs clears VTT_OK, latches the bank safe and raises VTT overcurrent (R55). -/
  | vttOvercurrent (b : Fin 72) (ma : BitVec 11)
  /-- VTT current within 200 mA for 10 µs sets VTT_OK again (R55). -/
  | vttRecover (b : Fin 72) (ma : BitVec 11)
  /-- In a PCLK its bank's cadence takes, a channel executes its input word as drive, compare or capture (R61). -/
  | channelWordTake (ch : Fin 2304) (w : BitVec 40) (poison : BitVec 5) (c : Nat) (v : Seen)
  /-- A channel's fail word reaches the FCU and the site fail flag reaches the PSQ in PCLK P_end + 16 (R77). -/
  | failWordDelivery
  /-- A write to CH_ROLE starts a break-before-make role transition, records the role, or is rejected (R78). -/
  | roleWrite (ch : Fin 2304) (v : Word)
  /-- One microsecond into a PARAM transition the analog switch closes or the termination reconnects (R79). -/
  | roleMidpoint (ch : Fin 2304)
  /-- At the end of the transition or enable time CUR takes the new role and BUSY clears (R79). -/
  | roleTransitionDone (ch : Fin 2304)
  /-- A TCB_EN write enables pins, starting their enable time, once DCTL_READY.TCB = 1 (R85). -/
  | tcbEnWrite (b : Fin 72) (v : Word)
  /-- Writing 1 to a TCB_SAFE bit releases the pin's latch when no cause covering it is present (R84). -/
  | tcbSafeWrite (b : Fin 72) (v : Word)
  /-- A blanking interval ends and compares on the bank or pin are evaluated again (R86). -/
  | blankEnd (b : Fin 72) (pin : Option (Fin 32))
  /-- A write to CH_CAPPTR sets PTR and FULL or is discarded as a reserved encoding (R89). -/
  | capptrWrite (ch : Fin 2304) (v : Word)
  /-- TCB_ETC_GO.GO starts an equivalent-time capture on the pins in TCB_ETC_PINS (R90). -/
  | etcGo (b : Fin 72)
  /-- TCB_ETC_GO.ACK releases the ETC result and buffers (R91). -/
  | etcAck (b : Fin 72)
  /-- Each ECTRIG or REFLECT launch trigger strobes one bin of the sweep (R90). -/
  | etcTrigger (b : Fin 72) (uv : List Int)
  /-- The REFLECT driver launches a rising step each period and a falling step at its half (R90). -/
  | reflectStepLaunch (ch : Fin 2304) (rising : Bool)
  /-- An ETC run ends OK or ABORTED, writing counts and setting PTR (R91). -/
  | etcDone (b : Fin 72)
  /-- An ETC run with no trigger for 2^24 PCLK ends with TIMEOUT (R91). -/
  | etcTimeout (b : Fin 72)
  /-- A TCB_CNT_CLR write clears the counters of the pins whose bits are set (R87). -/
  | tcbCntClr (b : Fin 72) (v : Word)
  /-- Every 100 µs drift tracking measures each bank's timing generators against the replica path (R94). -/
  | driftMeasure (b : Fin 72) (need : Int)
  /-- A pending drift correction of at most 4 steps is applied at an idle PCLK or MARK (R94). -/
  | driftApply (point : DriftPoint)
  /-- A correction deferred past 1 ms advances LATE_CNT per further ms and raises its fault source (R95). -/
  | driftLate (b : Fin 72)
  /-- At start-up the Owl applies each bank calibration record or loads defaults and sets CAL_DEFAULT (R93). -/
  | calRecordLoad (b : Fin 72) (errs : List (Fin 2097152 × Nat))
  /-- A write to AB_VTT sets the bank's VTT code at once (R104). -/
  | vttWrite (b : Fin 72) (v : Word)
  /-- A write to AB_VREFB within the range window sets VREFB and blanks the bank (R105). -/
  | vrefbWrite (b : Fin 72) (v : Word)
  /-- A passed ARP mirror commit takes effect for all bank services within 1 µs (R108). -/
  | arpCommitApply (d : Fin 4)
  /-- PMU_CTL.GO starts a measurement or is refused with PMU_STAT.REJ (R113). -/
  | pmuGo (b : Fin 72)
  /-- PMU_CTL.ACK sets ACKD = 1 for the last result (R115). -/
  | pmuAck (b : Fin 72)
  /-- The SETTLE time of a measurement ends and conversions begin (R113). -/
  | pmuSettleEnd (b : Fin 72)
  /-- A measurement completes, writing CODE, STATUS and ACKD = 0 (R114). -/
  | pmuMeasureDone (b : Fin 72) (amps volts uv code : Int)
  /-- One microsecond into a range or mode change the old range or loop is disconnected (R118). -/
  | pmuOldRangeDisconnect (b : Fin 72)
  /-- The range or mode change settles and RCHG falls (R118). -/
  | pmuRangeSettled (b : Fin 72)
  /-- SITE_CTL.RESET requests a site reset, stopping the PSQ and forcing the site's channels safe (R125). -/
  | siteReset (st : Fin 16)
  /-- Nothing tagged with the site remains in flight and the site becomes QUIESCED (R126). -/
  | siteQuiesced (st : Fin 16)
  /-- SITE_CTL.RELEASE in QUIESCED sets the site ACTIVE or FREE per SITE_CFG.EN (R130). -/
  | siteRelease (st : Fin 16)
  /-- NEXT issues once and continues (R135). -/
  | psqNext (p : Fin 16)
  /-- REPEAT issues its word n times and continues (R135). -/
  | psqRepeat (r : RepeatPart)
  /-- LOOP issues once and pushes a loop entry with count n (R135). -/
  | psqLoop (p : Fin 16)
  /-- ENDLOOP decrements the top loop entry and branches to the body or pops (R135). -/
  | psqEndloop (p : Fin 16)
  /-- JUMP continues at a local target, leaving any stream (R135). -/
  | psqJump (p : Fin 16)
  /-- CALL pushes the return point and continues at a local target (R135). -/
  | psqCall (p : Fin 16)
  /-- RET pops the return point and continues there (R135). -/
  | psqRet (p : Fin 16)
  /-- The HALT word issues once and halts the run with STATUS = HALT (R135). -/
  | psqHalt (p : Fin 16)
  /-- JFAIL branches when SFF = 1, optionally clearing SFF (R137). -/
  | psqJfail (p : Fin 16)
  /-- JPASS branches when SFF = 0, optionally clearing SFF (R137). -/
  | psqJpass (p : Fin 16)
  /-- CLRF clears SFF of every delivery up to its PCLK (R137). -/
  | psqClrf (p : Fin 16)
  /-- MATCH issues each PCLK until a passing match result or its timeout count (R139). -/
  | psqMatch (p : Fin 16)
  /-- A match result of an input PCLK reaches the PSQ and a pass ends the MATCH (R139). -/
  | matchResult (p : Fin 16) (c : Nat)
  /-- After n issues without a pass the MATCH ends, setting SFF and advancing PSQ_CNT_MTO (R139). -/
  | matchTimeout (p : Fin 16)
  /-- SYNC issues until PSQ_SYNC_ATk, counting a late arrival (R140). -/
  | psqSync (p : Fin 16)
  /-- The PCLK at or after PSQ_SYNC_ATk begins and the next word issues (R140). -/
  | syncTickReached (p : Fin 16)
  /-- PACE issues once and pushes a paced entry with period PSQ_PPERj (R149). -/
  | psqPace (p : Fin 16)
  /-- ENDPACE waits on the schedule or starts the next iteration late (R149). -/
  | psqEndpace (p : Fin 16)
  /-- The scheduled tick of the next paced iteration arrives and the iteration starts (R149). -/
  | paceSlotReached (p : Fin 16)
  /-- MARK issues once as a segment boundary and drift application point (R135). -/
  | psqMark (p : Fin 16)
  /-- TRIG issues once and sends event EVT to its destinations (R141). -/
  | psqTrig (p : Fin 16)
  /-- A TRIG event reaches its SACs, SP, service pin matchers and FCUs at issue + 8 PCLK (R141). -/
  | trigDelivery
  /-- STRM pushes the return point and enters a scanned stream (R143). -/
  | psqStrm (p : Fin 16)
  /-- SRET leaves the stream, discards its buffered words and pops the return point (R135). -/
  | psqSret (p : Fin 16)
  /-- LKSTOP sends a group STOP without fault (R151). -/
  | psqLkstop (p : Fin 16)
  /-- LKEND leaves the lock group for the rest of the run (R135). -/
  | psqLkend (p : Fin 16)
  /-- A word with an undefined opcode, reserved field, poison or bad area halts the PSQ ILLEGAL (R134). -/
  | psqIllegalWord (p : Fin 16)
  /-- In RUN or WAIT the PSQ samples its fabric condition input, setting SFF on FFAIL or poison (R138). -/
  | psqConditionSample (p : Fin 16) (ffail poison : Bool)
  /-- In elastic mode the next segment becomes resident and issue resumes after idle PCLKs (R147). -/
  | segmentResident (p : Fin 16) (n : Nat)
  /-- In strict mode a due stream word is missing, ending the run UNDERRUN (R146). -/
  | patternUnderrun (p : Fin 16)
  /-- After UR_KEEP taken words the underrun override switches from KEEP to DZ (R146). -/
  | urKeepExpire (p : Fin 16) (b : Fin 72) (c : Nat)
  /-- A stream fetch returns and its words enter the prefetch buffer (R145). -/
  | streamLineFill (p : Fin 16)
  /-- A write to a descriptor's BASE or LEN sets STATUS to NONE and discards its buffered words (R142). -/
  | sdWrite (p : Fin 16) (n : Fin 8) (reg : Fin 3) (v : Word)
  /-- SD_CTL.SCAN starts a structural scan of the stream (R144). -/
  | sdScan (p : Fin 16) (n : Fin 8) (v : Word)
  /-- A scan ends with STATUS and SD_ERR recorded (R144). -/
  | sdScanDone (p : Fin 16) (n : Fin 8)
  /-- A write to the local store window is stored when not running, else ignored with LS_REJ (R142). -/
  | localStoreWrite (p : Fin 16) (off : BitVec 17) (v : Word)
  /-- PSQ_CMD.ARM arms the PSQ for PSQ_START_AT or is refused with ARM_REJ (R150). -/
  | psqArm (p : Fin 16)
  /-- PSQ_CMD.ACK in HALTED releases the run result and returns to IDLE (R158). -/
  | psqCmdAck (p : Fin 16)
  /-- PSQ_CMD.HALT halts the run, or as a member sends STOP, or disarms an ARMED PSQ (R151). -/
  | psqCmdHalt (p : Fin 16)
  /-- PSQ_CMD.GSTOP sends a group STOP at F + LSH (R151). -/
  | psqGstop (p : Fin 16)
  /-- At PSQ_START_AT an armed PSQ issues its first word, or halts SYNCLOSS when out of sync (R150). -/
  | psqStart (p : Fin 16)
  /-- A member records a received STOP in PSQ_STOP_AT, or halts at once with STOP_LATE if late (R152). -/
  | stopReceive (p : Fin 16)
  /-- The recorded STOP_AT arrives and the member issues no further word (R152). -/
  | stopAtReached (p : Fin 16)
  /-- 24 PCLK after the last issue PSQ_STAT.RUNNING falls (R157). -/
  | runningFall (p : Fin 16)
  /-- A PSQ_CNT_CLR write clears the named PSQ counters (R23). -/
  | psqCntClr (p : Fin 16) (v : Word)
  /-- At each PTB[10:0] = 0 boundary all dies apply the sync die's slew or step decision (R164). -/
  | ptbBoundary
  /-- A load or step deferred while a PSQ was active is applied once every PSQ is idle (R174). -/
  | ptbDeferredStep
  /-- PTB_CMD.SNAP copies the whole count into PTB_SNAP in one tick (R161). -/
  | ptbSnap (d : Fin 4)
  /-- PTB_CMD.RELOAD makes the next acquisition a first one, or is refused while a PSQ is active (R174). -/
  | ptbReload (d : Fin 4)
  /-- A follower sends an exchange request on its parent port every 1 ms or 100 µs (R169). -/
  | ptbRequestSend (frac : BitVec 8)
  /-- A port receiving an exchange request stamps and answers it with t2, t3, STATE and HOPS (R481). -/
  | ptbRequestAnswer (g : Fin 24) (t2frac t3frac : BitVec 8) (wait : Nat)
  /-- A follower receives a response, computes offset and delay, and accepts or rejects the exchange (R168). -/
  | ptbResponse (t2 t3 : BitVec 72) (t4frac : BitVec 8) (pState : BitVec 3) (pHops : BitVec 14)
  /-- A request without a response in 100 µs is missed and advances PTB_CNT_MISS (R169). -/
  | ptbExchangeMissed
  /-- With FSRC = SYNT the loss of the recovered clock sends a TRACK device to LOST at once (R171). -/
  | recoveredClockLost
  /-- A PTB_CNT_CLR write clears the shared counters on LD0 or the die's MISALIGN counter (R165). -/
  | ptbCntClr (d : Fin 4) (v : Word)
  /-- The FCU samples each site's 48-bit address tag in PCLK c (R182). -/
  | fcuTagSample (d : Fin 4) (st : Fin 16) (c : Nat) (tag : BitVec 48) (pois : BitVec 6)
  /-- The back end takes one site's head entry from the FIFO and writes its record or maps its bits (R186). -/
  | fcuBackendEntry (d : Fin 4)
  /-- A TRIG marker enters the site's stream in PCLK c + 16, writing a MARK or starting a flush (R195). -/
  | fcuMarkerEntry (d : Fin 4) (st : Fin 16)
  /-- A queued cache or row-mark line is written back by atomic line-OR (R202). -/
  | fcuWriteback (d : Fin 4)
  /-- Write responses of records return and FS_WRPTR or the FIRST index advances (R197). -/
  | fcuWriteResponse (d : Fin 4) (st : Fin 16)
  /-- After 256 PCLK with no further record the FCU writes a partial record line (R197). -/
  | fcuPartialLineTimeout (d : Fin 4) (st : Fin 16)
  /-- FS_CTL.FLUSH starts a flush of the site's data or is refused when unacknowledged (R204). -/
  | fsFlush (d : Fin 4) (st : Fin 16)
  /-- Every write-back of a flush has returned and the flush result becomes DONE (R204). -/
  | fsFlushDone (d : Fin 4) (st : Fin 16)
  /-- FS_CTL.FACK releases the flush result (R204). -/
  | fsFack (d : Fin 4) (st : Fin 16)
  /-- FS_CTL.FRESET restarts FIRST capture at record 0 (R190). -/
  | fsFreset (d : Fin 4) (st : Fin 16)
  /-- FS_CTL.CCLR clears the site's FC and FS counters (R184). -/
  | fsCclr (d : Fin 4) (st : Fin 16)
  /-- FS_CTL.BMCLR clears block flags and coarse status, or is refused with CMD_REJ (R205). -/
  | fsBmclr (d : Fin 4) (st : Fin 16)
  /-- A write to FS_RDPTR consumes ring records or is discarded as out of range (R191). -/
  | fsRdptrWrite (d : Fin 4) (st : Fin 16) (v : Word)
  /-- A write to FCU_CCLR clears one channel counter or all of them (R183). -/
  | fcuCclr (d : Fin 4) (v : Word)
  /-- RJ_CTL.GO submits a job descriptor to a slot or is ignored with RAE_STAT.REJ (R209). -/
  | rjGo (r : Fin 8) (n st : Fin 16)
  /-- RJ_CTL.CANCEL ends a pending job with CLASS = CANCELLED (R223). -/
  | rjCancel (r : Fin 8) (n : Fin 16)
  /-- RJ_CTL.ACK releases a slot's job result (R223). -/
  | rjAck (r : Fin 8) (n : Fin 16)
  /-- A queued job whose flush waits are met starts and reads its descriptor, or ends REJECTED or ERROR (R212). -/
  | raeJobStart (r : Fin 8)
  /-- A job finishes its scan, must-repair and search and writes its results and RJ_RES (R213). -/
  | raeJobEnd (r : Fin 8)
  /-- The search node budget runs out and the job ends UNDECIDED or REPAIRABLE with OPTIMAL = 0 (R219). -/
  | raeBudgetExhausted (r : Fin 8)
  /-- The cell executes MOV, R = A (R233). -/
  | cellMov (r : Fin 256) (c : Fin 8192)
  /-- The cell executes ADD, R = A + B + ci with flags (R233). -/
  | cellAdd (r : Fin 256) (c : Fin 8192)
  /-- The cell executes SUB, R = A + not B + ci with flags (R233). -/
  | cellSub (r : Fin 256) (c : Fin 8192)
  /-- The cell executes RSB, R = B + not A + ci with flags (R233). -/
  | cellRsb (r : Fin 256) (c : Fin 8192)
  /-- The cell executes ADDUS, saturating unsigned add (R233). -/
  | cellAddus (r : Fin 256) (c : Fin 8192)
  /-- The cell executes SUBUS, saturating unsigned subtract (R233). -/
  | cellSubus (r : Fin 256) (c : Fin 8192)
  /-- The cell executes NEG, two's-complement negation (R233). -/
  | cellNeg (r : Fin 256) (c : Fin 8192)
  /-- The cell executes ABSD, unsigned absolute difference (R233). -/
  | cellAbsd (r : Fin 256) (c : Fin 8192)
  /-- The cell executes MINU, unsigned minimum (R233). -/
  | cellMinu (r : Fin 256) (c : Fin 8192)
  /-- The cell executes MAXU, unsigned maximum (R233). -/
  | cellMaxu (r : Fin 256) (c : Fin 8192)
  /-- The cell executes MINS, signed minimum (R233). -/
  | cellMins (r : Fin 256) (c : Fin 8192)
  /-- The cell executes MAXS, signed maximum (R233). -/
  | cellMaxs (r : Fin 256) (c : Fin 8192)
  /-- The cell executes CMP, setting flags of A + not B + ci (R233). -/
  | cellCmp (r : Fin 256) (c : Fin 8192)
  /-- The cell executes TST, setting Z and N of A AND B (R233). -/
  | cellTst (r : Fin 256) (c : Fin 8192)
  /-- The cell executes INCW, wrapping increment (R233). -/
  | cellIncw (r : Fin 256) (c : Fin 8192)
  /-- The cell executes DECW, wrapping decrement (R233). -/
  | cellDecw (r : Fin 256) (c : Fin 8192)
  /-- The cell executes AND (R233). -/
  | cellAnd (r : Fin 256) (c : Fin 8192)
  /-- The cell executes OR (R233). -/
  | cellOr (r : Fin 256) (c : Fin 8192)
  /-- The cell executes XOR (R233). -/
  | cellXor (r : Fin 256) (c : Fin 8192)
  /-- The cell executes ANDN (R233). -/
  | cellAndn (r : Fin 256) (c : Fin 8192)
  /-- The cell executes ORN (R233). -/
  | cellOrn (r : Fin 256) (c : Fin 8192)
  /-- The cell executes XNOR (R233). -/
  | cellXnor (r : Fin 256) (c : Fin 8192)
  /-- The cell executes NOT (R233). -/
  | cellNot (r : Fin 256) (c : Fin 8192)
  /-- The cell executes BITF, a three-input bitwise function from IMM8 (R233). -/
  | cellBitf (r : Fin 256) (c : Fin 8192)
  /-- The cell executes SELC, selecting on C (R233). -/
  | cellSelc (r : Fin 256) (c : Fin 8192)
  /-- The cell executes SELZ, selecting on Z (R233). -/
  | cellSelz (r : Fin 256) (c : Fin 8192)
  /-- The cell executes SELN, selecting on N (R233). -/
  | cellSeln (r : Fin 256) (c : Fin 8192)
  /-- The cell executes MUXB, selecting on T[0] (R233). -/
  | cellMuxb (r : Fin 256) (c : Fin 8192)
  /-- The cell executes SHL (R233). -/
  | cellShl (r : Fin 256) (c : Fin 8192)
  /-- The cell executes SHR (R233). -/
  | cellShr (r : Fin 256) (c : Fin 8192)
  /-- The cell executes SAR (R233). -/
  | cellSar (r : Fin 256) (c : Fin 8192)
  /-- The cell executes ROL (R233). -/
  | cellRol (r : Fin 256) (c : Fin 8192)
  /-- The cell executes ROR (R233). -/
  | cellRor (r : Fin 256) (c : Fin 8192)
  /-- The cell executes SHLC, shifting ci in at bit 0 (R233). -/
  | cellShlc (r : Fin 256) (c : Fin 8192)
  /-- The cell executes SHRC, shifting ci in at bit 7 (R233). -/
  | cellShrc (r : Fin 256) (c : Fin 8192)
  /-- The cell executes REV, bit reversal (R233). -/
  | cellRev (r : Fin 256) (c : Fin 8192)
  /-- The cell executes SWAP of nibbles (R233). -/
  | cellSwap (r : Fin 256) (c : Fin 8192)
  /-- The cell executes FSHL, a funnel shift of A and B (R233). -/
  | cellFshl (r : Fin 256) (c : Fin 8192)
  /-- The cell executes CLZ (R233). -/
  | cellClz (r : Fin 256) (c : Fin 8192)
  /-- The cell executes CTZ (R233). -/
  | cellCtz (r : Fin 256) (c : Fin 8192)
  /-- The cell executes POPC (R233). -/
  | cellPopc (r : Fin 256) (c : Fin 8192)
  /-- The cell executes PMSK, masked parity (R233). -/
  | cellPmsk (r : Fin 256) (c : Fin 8192)
  /-- The cell executes XSCR, masked XOR scramble (R233). -/
  | cellXscr (r : Fin 256) (c : Fin 8192)
  /-- The cell executes LFSR, one shift of a linear feedback register (R233). -/
  | cellLfsr (r : Fin 256) (c : Fin 8192)
  /-- The cell executes GRAY (R233). -/
  | cellGray (r : Fin 256) (c : Fin 8192)
  /-- The cell executes UGRAY (R233). -/
  | cellUgray (r : Fin 256) (c : Fin 8192)
  /-- The cell executes GSTEP, the next Gray code (R233). -/
  | cellGstep (r : Fin 256) (c : Fin 8192)
  /-- The cell executes EQ (R233). -/
  | cellEq (r : Fin 256) (c : Fin 8192)
  /-- The cell executes LTU (R233). -/
  | cellLtu (r : Fin 256) (c : Fin 8192)
  /-- The cell executes LTS (R233). -/
  | cellLts (r : Fin 256) (c : Fin 8192)
  /-- The cell executes BSET (R233). -/
  | cellBset (r : Fin 256) (c : Fin 8192)
  /-- The cell executes BCLR (R233). -/
  | cellBclr (r : Fin 256) (c : Fin 8192)
  /-- The cell executes BTST, setting C and Z from the tested bit (R233). -/
  | cellBtst (r : Fin 256) (c : Fin 8192)
  /-- A cell executing an illegal slot drives 0 with poison and loads nothing (R229). -/
  | cellIllegalSlot (r : Fin 256) (c : Fin 8192) (w : Word)
  /-- A store-block fabric port performs a read or write sampled at its clock edge (R248). -/
  | storePortAccess (r : Fin 256) (m : Fin 32) (a b : Option PortIn)
  /-- A NoC access to a store block is served through port B's free cycles (R251). -/
  | storeServiceAccess (id : Nat)
  /-- Setting or clearing FR_CTL.FENCE holds or lifts the region's fence (R252). -/
  | frFence (r : Fin 256) (v : Bool)
  /-- FR_CTL.RRESET fences the region and reapplies its initial values (R253). -/
  | frRreset (r : Fin 256)
  /-- After 64 CFG cycles the region reset ends and the previous fence state returns (R253). -/
  | rresetEnd (r : Fin 256)
  /-- FR_CTL.RELOC requests relocation of a physical column or is refused with REJ (R256). -/
  | frReloc (r : Fin 256) (col : Fin 32)
  /-- The spare column self-test ends and the spare map is written or the relocation fails (R256). -/
  | relocSelftestDone (r : Fin 256) (pass : Bool)
  /-- Relocation ends, writing its result and lifting the fence (R257). -/
  | relocDone (r : Fin 256)
  /-- FR_CTL.RACK releases the relocation result (R257). -/
  | frRack (r : Fin 256)
  /-- Within 100 ms the Owl writes the new spare map into the fabric repair record (R257). -/
  | repairRecordWrite (d : Fin 4)
  /-- A memory target accepts a request and performs it in its source order (R434). -/
  | memoryRequest (id : Nat)
  /-- An atomic line-OR reads, decrypts, ORs, encrypts and writes its line as one operation (R436). -/
  | aor (ini : Ini) (site : Option (Fin 16)) (addr : BitVec 40) (data : BitVec 512) (pois : BitVec 8)
  /-- The fill engine writes a zero line of a FILLING page, making it VALID when done (R446). -/
  | pageFillLine (m : Fin 8) (line : BitVec 29)
  /-- A write waiting for a 65th fill starts once a fill ends (R268). -/
  | fillSlotFree (m : Fin 8)
  /-- EG_CTL.INV invalidates a page range at once for new accesses and starts the sweep (R265). -/
  | egInv (g : EGroup)
  /-- The invalidate sweep ends and INVBUSY clears (R265). -/
  | invSweepDone (g : EGroup)
  /-- A write to EG_CNT_CLR clears the named ECC counters (R23). -/
  | egCntClr (g : EGroup) (v : Word)
  /-- CFE_CMD.START begins a load from the selected source or is ignored with REJ (R288). -/
  | cfeStart (d : Fin 4) (flash : List Byte)
  /-- CFE_CMD.CONT supplies the next image part in WAIT_MORE or is ignored (R288). -/
  | cfeCont (d : Fin 4)
  /-- CFE_CMD.CANCEL ends the load at once with CANCELLED (R293). -/
  | cfeCancel (d : Fin 4)
  /-- CFE_CMD.ACK releases the load result (R292). -/
  | cfeAck (d : Fin 4)
  /-- The CFE finishes reading a part and waits in WAIT_MORE (R288). -/
  | cfePartReadDone (d : Fin 4)
  /-- WAIT_MORE lasting 1 s ends the load with SOURCE_ERR (R288). -/
  | cfeWaitTimeout (d : Fin 4)
  /-- A frame record is checked and written, or rejected and counted (R283). -/
  | cfeFrameRecord (d : Fin 4) (flash : List Byte)
  /-- The image signature check ends and regions are released or failed (R285). -/
  | cfeSignatureDone (d : Fin 4)
  /-- For a multi-die image every die releases at its first CFG edge at the named PTB tick (R286). -/
  | cfeReleaseTick (d : Fin 4)
  /-- A relay image offered to the CFE is accepted or refused to the sender (R290). -/
  | cfeRelayOffer (d : Fin 4) (port : Fin 24)
  /-- At each start the Owl loads the boot image from the active Sett slot (R294). -/
  | bootLoadStart (d : Fin 4)
  /-- A failed boot load is repeated from the other slot or the recovery flash, or IMG fails (R295). -/
  | bootFallback (d : Fin 4)
  /-- The Owl of LD0 loads a PACKAGE image from the recovery flash (R291). -/
  | recoveryFlashLoad (flash : List Byte)
  /-- The frame check reads a frame of a LOADED region and compares its CRC (R297). -/
  | frameCheckRead (d : Fin 4) (upset : BitVec 8192)
  /-- The CFE rewrites an upset frame from its Sett copy and rechecks it, or counts a hard error (R299). -/
  | frameRepair (d : Fin 4) (again : BitVec 8192) (errs : List (Fin 2097152 × Nat))
  /-- A write to CFE_CHK_CLR clears the named frame-check counters (R23). -/
  | cfeChkClr (d : Fin 4) (v : Word)
  /-- The STAGE command checks an image and writes it to the inactive slot (R316). -/
  | stage (d kind : Fin 4)
  /-- The RELAY command stages an image and forwards it along the relay list (R317). -/
  | relay (d kind : Fin 4)
  /-- The ACTIVATE command makes the inactive slot TRIAL and the active slot PREV (R321). -/
  | activate (d kind : Fin 4)
  /-- The CONFIRM command makes TRIAL ACTIVE and PREV VALID and closes the window (R324). -/
  | confirm (d kind : Fin 4)
  /-- The RECWRITE command appends a customer record to the settings store (R326). -/
  | recwrite (d kind : Fin 4)
  /-- The KEYINST command checks a KEY record and installs its key on all dies (R314). -/
  | keyinst (d kind : Fin 4)
  /-- The INVAL command makes the inactive slot of a kind EMPTY (R326). -/
  | inval (d kind : Fin 4)
  /-- STC_CMD.ACK releases the command result (R327). -/
  | stcAck (d : Fin 4)
  /-- A block write's programming and compare end, swapping the block or retrying (R305). -/
  | settBlockWriteDone (d : Fin 4) (same : Bool)
  /-- Read-back and signature checks of a staged image end, setting the slot VALID or FAILED (R316). -/
  | stageComplete
  /-- After its STAGE ends DONE a device offers the image to its children (R318). -/
  | relayForward
  /-- A device offered a Sett relay image answers and stages an accepted image (R319). -/
  | settRelayOffer (port : Fin 24) (len : Nat)
  /-- The sender receives a relay answer and counts it in STC_RELAY_RES (R319). -/
  | relayAnswer (accepted : Bool)
  /-- Every 24 powered hours and after start, retention refresh margin-reads every block (R309). -/
  | retentionScan (d : Fin 4) (hours : Nat) (found : ScanFound)
  /-- A block found due is rewritten when foreground writes yield (R309). -/
  | retentionRewrite (d : Fin 4)
  /-- Owl firmware appends a settings record behind any running command (R312). -/
  | owlSettingsWrite (d : Fin 4) (type key : BitVec 16) (data : List Byte)
  /-- Each start of a trial advances TRIES or falls back when TRIES is 3 (R323). -/
  | trialStart (kind : Fin 3) (errs : List (Fin 4 × Fin 2097152 × Nat))
  /-- The 600 s confirm window closes without CONFIRM and the trial falls back (R323). -/
  | confirmWindowExpire (kind : Fin 3)
  /-- The SAC executes NOP (R338). -/
  | sacNop (c : Fin 64)
  /-- The SAC executes HALT and stops in HALTED (R359). -/
  | sacHalt (c : Fin 64)
  /-- The SAC executes WAIT and waits for an enabled pending interrupt (R359). -/
  | sacWait (c : Fin 64)
  /-- The SAC executes B, a branch with two delay slots (R348). -/
  | sacB (c : Fin 64)
  /-- The SAC executes BC, branching when COND holds (R341). -/
  | sacBc (c : Fin 64)
  /-- The SAC executes CALL, pushing the return point (R348). -/
  | sacCall (c : Fin 64)
  /-- The SAC executes RET, popping the return point (R348). -/
  | sacRet (c : Fin 64)
  /-- The SAC executes RETI, clearing EXC, setting GIE and returning to EPC (R355). -/
  | sacReti (c : Fin 64)
  /-- The SAC executes RPT, repeating the next instruction (R349). -/
  | sacRpt (c : Fin 64)
  /-- The SAC executes LOOP, starting a hardware loop (R350). -/
  | sacLoop (c : Fin 64)
  /-- An iteration ends, decrementing LC and RRB and repeating or ending the loop (R350). -/
  | sacLoopEnd (c : Fin 64)
  /-- The SAC executes BLKE, updating ESUM and SHIFT from the block exponent detector (R344). -/
  | sacBlke (c : Fin 64)
  /-- The SAC executes XGO, starting a transfer channel from a descriptor (R360). -/
  | sacXgo (c : Fin 64)
  /-- The SAC executes SEVT, sending an event code to an SP hub (R363). -/
  | sacSevt (c : Fin 64)
  /-- The SAC executes CMAC, a complex multiply-accumulate (R338). -/
  | sacCmac (c : Fin 64)
  /-- The SAC executes CMUL, a complex multiply into an accumulator (R338). -/
  | sacCmul (c : Fin 64)
  /-- The SAC executes DMAC, adding and subtracting a product in an accumulator pair (R338). -/
  | sacDmac (c : Fin 64)
  /-- The SAC executes RMAC, a real multiply-accumulate per half (R338). -/
  | sacRmac (c : Fin 64)
  /-- The SAC executes RMUL, a real multiply per half (R338). -/
  | sacRmul (c : Fin 64)
  /-- The SAC executes CPWR, accumulating powers (R338). -/
  | sacCpwr (c : Fin 64)
  /-- The SAC executes ACCL, loading accumulators from a register (R338). -/
  | sacAccl (c : Fin 64)
  /-- The SAC executes CLRA, clearing masked accumulators (R338). -/
  | sacClra (c : Fin 64)
  /-- The SAC executes MVA, moving a scaled accumulator into a register (R343). -/
  | sacMva (c : Fin 64)
  /-- The SAC executes MVAP, moving a scaled accumulator pair into two registers (R343). -/
  | sacMvap (c : Fin 64)
  /-- The SAC executes CADD, saturating complex add (R338). -/
  | sacCadd (c : Fin 64)
  /-- The SAC executes CSUB, saturating complex subtract (R338). -/
  | sacCsub (c : Fin 64)
  /-- The SAC executes CADDH, halved add (R338). -/
  | sacCaddh (c : Fin 64)
  /-- The SAC executes CSUBH, halved subtract (R338). -/
  | sacCsubh (c : Fin 64)
  /-- The SAC executes CXFM, a transform selected by AUX (R341). -/
  | sacCxfm (c : Fin 64)
  /-- The SAC executes CMIN, signed minimum per half (R338). -/
  | sacCmin (c : Fin 64)
  /-- The SAC executes CMAX, signed maximum per half (R338). -/
  | sacCmax (c : Fin 64)
  /-- The SAC executes CSHA, shifting each half by AUX (R341). -/
  | sacCsha (c : Fin 64)
  /-- The SAC executes CAND, bitwise AND (R338). -/
  | sacCand (c : Fin 64)
  /-- The SAC executes COR, bitwise OR (R338). -/
  | sacCor (c : Fin 64)
  /-- The SAC executes CXOR, bitwise XOR (R338). -/
  | sacCxor (c : Fin 64)
  /-- The SAC executes CCMP, setting STAT flags (R341). -/
  | sacCcmp (c : Fin 64)
  /-- The SAC executes LIR, loading the real half immediate (R338). -/
  | sacLir (c : Fin 64)
  /-- The SAC executes LII, loading the imaginary half immediate (R338). -/
  | sacLii (c : Fin 64)
  /-- The SAC executes LDD, loading registers through pointers (R338). -/
  | sacLdd (c : Fin 64)
  /-- The SAC executes STD, storing registers through pointers (R338). -/
  | sacStd (c : Fin 64)
  /-- The SAC executes LD8, expanding two occupancy bytes into a register (R364). -/
  | sacLd8 (c : Fin 64)
  /-- The SAC executes PSET, setting a pointer field (R337). -/
  | sacPset (c : Fin 64)
  /-- The SAC executes MVS, reading a special register (R335). -/
  | sacMvs (c : Fin 64)
  /-- The SAC executes MSV, writing a special register (R335). -/
  | sacMsv (c : Fin 64)
  /-- The SAC meets a reserved opcode and raises UNDEF (R339). -/
  | sacReservedOpcode (c : Fin 64)
  /-- At an interrupt point a takeable interrupt enters the handler at 0x0008 (R355). -/
  | sacInterruptEntry (c : Fin 64) (lat : BitVec 32)
  /-- A transfer channel ends with DONE, REJECTED or ERROR and sets its IPEND bit (R361). -/
  | sacTransferDone (c : Fin 64) (ch : Fin 2)
  /-- A NoC access to a SAC data bank takes a free bank cycle or one after 16 waits (R330). -/
  | sacBankAccess (id : Nat) (waited : Bool)
  /-- Writing SAC_CTL.RST holds the core in reset or releases it at instruction 0 (R328). -/
  | sacRstWrite (c : Fin 64) (v : Bool)
  /-- SAC_CTL.DBELL sets IPEND.DBELL (R355). -/
  | sacDbell (c : Fin 64)
  /-- SAC_CTL.HALTREQ asks a running core to stop at its next interrupt point (R359). -/
  | sacHaltreq (c : Fin 64)
  /-- SAC_CTL.START resumes a HALTED core at SAC_PC (R359). -/
  | sacStart (c : Fin 64)
  /-- A core asked to halt reaches its boundary, completes pending writes and halts (R387). -/
  | coreHalted (core : Fin 96)
  /-- SAC_XCTL.CANCEL cancels a transfer channel (R361). -/
  | sacXcancel (c : Fin 64) (ch : Fin 2)
  /-- SAC_XCTL.ACK releases a transfer result (R361). -/
  | sacXack (c : Fin 64) (ch : Fin 2)
  /-- A write to SAC_CNT_CLR clears ILAT_MAX or STALL (R23). -/
  | sacCntClr (c : Fin 64) (v : BitVec 2)
  /-- An SP executes one RV64GC instruction (R366). -/
  | spInstruction (n : Fin 16) (remote : Rsp)
  /-- An Owl executes one RV32IMC instruction (R376). -/
  | owlInstruction (d : Fin 4)
  /-- A write to CSR SVPSET sets masked service-pin output bits (R370). -/
  | svpset (n : Fin 16) (rd rs1 : Fin 32)
  /-- A write to CSR SVPCLR clears masked service-pin output bits (R370). -/
  | svpclr (n : Fin 16) (rd rs1 : Fin 32)
  /-- A write to CSR SVPTGL toggles masked service-pin output bits (R370). -/
  | svptgl (n : Fin 16) (rd rs1 : Fin 32)
  /-- A read of CSR SVPOUT returns the die's output register (R369). -/
  | svpout (n : Fin 16) (rd : Fin 32)
  /-- A read of CSR SVPIN returns the pin levels of this cycle (R369). -/
  | svpin (n : Fin 16) (rd : Fin 32)
  /-- A CSR DTERM access returns terminal flags and clears DTX_OVF on a 1 (R369). -/
  | dterm (core : Fin 20) (rd rs1 : Fin 32)
  /-- A write to CSR DTX sends a word to the virtual terminal or sets DTX_OVF (R390). -/
  | dtx (core : Fin 20) (rd rs1 : Fin 32)
  /-- A read of CSR DRX returns the received word without change (R369). -/
  | drxRead (core : Fin 20) (rd : Fin 32)
  /-- A write to CSR DRX releases the received word (R369). -/
  | drxRelease (core : Fin 20) (rd rs1 : Fin 32)
  /-- A write to CSR DCCLEAN cleans the D-cache line of an address (R369). -/
  | dcclean (n : Fin 16) (rd rs1 : Fin 32)
  /-- A write to CSR DCFLUSH cleans and invalidates the D-cache line (R369). -/
  | dcflush (n : Fin 16) (rd rs1 : Fin 32)
  /-- A write to CSR DCINV invalidates the D-cache line, discarding dirty data (R369). -/
  | dcinv (n : Fin 16) (rd rs1 : Fin 32)
  /-- A read of CSR DDIN in debug mode returns the word written to DEN_DIN (R369). -/
  | ddin (n : Fin 16) (rd : Fin 32)
  /-- mtime reaching SP_MTCMP raises the SP's timer interrupt (R373). -/
  | mtimecmpMatch (n : Fin 16)
  /-- A write to SP_SWI sets hub lines 92 to 95 (R371). -/
  | spSwi (n : Fin 16) (v : BitVec 4)
  /-- Writing SP_CTL.RST resets an SP or releases it at TCM offset 0 (R374). -/
  | spRstWrite (n : Fin 16) (v : Bool)
  /-- The Owl copies SP boot firmware to the TCMs, releases AUTOBOOT SPs and sets DCTL_READY.SP (R374). -/
  | spBootRelease (d : Fin 4)
  /-- Once the memory ports are ready the Owl copies the firmware remainder to DRAM and sets XREADY (R374). -/
  | spXcopy (d : Fin 4)
  /-- The Owl ROM verifies the firmware slot, copies the body into RAM and runs it (R376). -/
  | owlFirmwareVerified (d : Fin 4) (k : Fin 2)
  /-- An Owl boost request is granted and the Owl runs at 200 MHz (R376). -/
  | owlBoostGrant (d : Fin 4)
  /-- A write to OWL_WDOG restarts the watchdog period (R378). -/
  | owlWdogWrite (d : Fin 4)
  /-- After 1 s without a watchdog write the Owl restarts from ROM (R378). -/
  | owlWatchdogExpire (d : Fin 4)
  /-- Every PER ms the Owl samples and writes a telemetry record (R379). -/
  | telemetrySample (d : Fin 4) (rec : BitVec 2048) (slot : BitVec 16) (late : Bool)
  /-- A read of LCK_n acquires a free lock or reports its holder (R381). -/
  | lockRead (d : Fin 4) (n : Fin 64) (who : Ini)
  /-- A write by the owner releases the lock; a non-owner write sets NOTOWN (R381). -/
  | lockRelease (d : Fin 4) (n : Fin 64) (who : Ini)
  /-- Den's own power-on resets Den (R384). -/
  | denPowerOn (d : Fin 4)
  /-- TRST_N resets Den and frees its claim (R384). -/
  | trstN
  /-- DEN_CLAIM.TAKE takes the Den claim if free, the TAP winning a tie (R385). -/
  | denTake (d : Fin 4) (tap pcie : Bool)
  /-- DEN_CLAIM.DROP by the holder frees the claim (R385). -/
  | denDrop (d : Fin 4) (tap : Bool)
  /-- The TAP EXTEST instruction drives balls from boundary-scan cells (R386). -/
  | extest (levels cells : List Bool)
  /-- The TAP SAMPLE/PRELOAD instruction samples and preloads boundary cells (R386). -/
  | samplePreload (levels cells : List Bool)
  /-- The TAP IDCODE instruction selects the identification register (R386). -/
  | idcode
  /-- The TAP HIGHZ instruction places the scanned outputs in high impedance (R386). -/
  | highz
  /-- The TAP CLAMP instruction drives the boundary values while bypassing (R386). -/
  | clamp
  /-- The TAP EXTEST_PULSE instruction tests AC-coupled system lanes (R386). -/
  | extestPulse (levels cells : List Bool)
  /-- The TAP EXTEST_TRAIN instruction drives pulse trains on system lanes (R386). -/
  | extestTrain (levels cells : List Bool)
  /-- A DBGACC update with OP READ reads a Den register of a die (R386). -/
  | dbgaccRead (d : Fin 4) (word : BitVec 10)
  /-- A DBGACC update with OP WRITE writes a Den register of a die (R386). -/
  | dbgaccWrite (d : Fin 4) (word : BitVec 10) (v : BitVec 32) (remote : Rsp)
  /-- A DBGACC update with OP NOP or reserved does nothing, the reserved code setting TAPERR (R386). -/
  | dbgaccNop (d : Fin 4) (reserved : Bool)
  /-- The TAP DENSTAT instruction shifts out DEN_STAT (R386). -/
  | denstat
  /-- The TAP BYPASS instruction, or a reserved code, selects the bypass bit (R386). -/
  | bypass (code : BitVec 8)
  /-- DEN_CTL.HALT asks the selected core to halt, or sets FREJ for a PSQ (R387). -/
  | denHalt (d : Fin 4) (tap : Bool)
  /-- DEN_CTL.RESUME continues a halted core at DEN_PC (R387). -/
  | denResume (d : Fin 4) (tap : Bool)
  /-- DEN_CTL.STEP executes one instruction and halts again (R387). -/
  | denStep (d : Fin 4) (tap : Bool)
  /-- A DFEED write executes one instruction in a halted core and reports in DEN_FRES (R388). -/
  | dfeed (d : Fin 4) (tap : Bool) (word : BitVec 32) (remote : Rsp)
  /-- DEN_TERM.DTXACK empties the selected core's DTX (R390). -/
  | dtxack (d : Fin 4) (tap : Bool)
  /-- A write to DEN_DRX sends a word to the core or sets DRXOVF (R390). -/
  | denDrxWrite (d : Fin 4) (tap : Bool) (v : BitVec 32)
  /-- DEN_BMCTL.GO starts a bus-master access to any address (R391). -/
  | denBmGo (d : Fin 4) (tap sz64 wr : Bool)
  /-- A bus-master access completes with OK, DECODE or POISON (R391). -/
  | denBmDone (d : Fin 4) (remote : Rsp)
  /-- An initiator admits a request once it holds a response entry and a credit, fixing its route (R402). -/
  | nocRequestAdmit (q : MemReq)
  /-- A response reaches its initiator, freeing its entry and returning the credit; a late one is discarded (R402). -/
  | nocResponse (d : Fin 4) (id : Nat)
  /-- A request with no response in NOC_TMO completes as a decode error and advances NOC_CNT_TMO (R406). -/
  | nocTimeout (id : Nat)
  /-- A packet reaching a down link is discarded and completed with LINK (R407). -/
  | nocPacketAtDownLink (id : Nat)
  /-- A torus link going down sets its NOC_DOWN bit on every die and raises NoC link down (R407). -/
  | nocLinkDown (n : Fin 64)
  /-- A write to NOC_CNT_CLR clears the named NoC counters (R23). -/
  | nocCntClr (d : Fin 4) (v : Word)
  /-- A write to NS_CLR clears the statistics of the named groups (R410). -/
  | nsClr (d : Fin 4) (v : Word)
  /-- NT_CTL.CLR empties the trace buffer (R411). -/
  | ntClear (d : Fin 4)
  /-- At start each joint launches CK and trains its bundles (R418). -/
  | d2dTraining (j : Fin 4)
  /-- Bundle training ends UP, DEGRADED or DOWN and the edge's readiness bits are set (R420). -/
  | d2dTrainingDone (d : Fin 4) (e : Fin 2) (n : Fin 21) (e0 e1 e2 : BitVec 48) (e3 : BitVec 32) (rot : BitVec 2)
  /-- A NoC bundle receives a packet, checks its CRC and requests replay on failure (R414). -/
  | d2dFlitReceive (d : Fin 4) (e : Fin 2) (n : Fin 21) (ok : Bool)
  /-- A fabric crossing cycle delivers its buses and relay bits, poisoned on a CRC failure (R415). -/
  | d2dCrossingFrame (d : Fin 4) (e : Fin 2) (b : Fin 4) (bus : BitVec 720) (rest : BitVec 48)
  /-- A service-bundle fixed slot delivers fail flags, overrides, TRIG events or PTB decisions (R416). -/
  | d2dServiceSlot (d : Fin 4) (e : Fin 2) (slot : SlotKind) (bad : Bool)
  /-- At the end of each 1 s window lane disagreement counts may trigger a swap (R421). -/
  | laneWindowEnd (d : Fin 4) (e : Fin 2) (n : Fin 21) (counts : BitVec 176)
  /-- The spare is trained and deskewed and the switch cycle is announced (R422). -/
  | laneSwapTrained (d : Fin 4) (e : Fin 2) (n : Fin 21)
  /-- At the announced cycle both sides switch to the spare and the old lane is retired (R422). -/
  | laneSwapSwitch (d : Fin 4) (e : Fin 2) (n : Fin 21)
  /-- Within 100 ms the Owl writes the retired lane into the D2D lane record (R422). -/
  | laneRecordWrite (j : Fin 4)
  /-- Every 10 ms the next active lane moves to the spare for recalibration (R423). -/
  | laneRecal (d : Fin 4) (e : Fin 2) (n : Fin 21)
  /-- After 20 µs the recalibrated lane takes its role back (R423). -/
  | laneRecalDone (d : Fin 4) (e : Fin 2) (n : Fin 21) (eye : BitVec 10)
  /-- D2D_CMD.SWAP starts a swap of a named lane or reports NO_SPARE or REFUSED (R425). -/
  | d2dSwap (d : Fin 4) (e : Fin 2) (n : Fin 21) (lane : Fin 11)
  /-- D2D_CMD.ACK releases the swap result (R425). -/
  | d2dAck (d : Fin 4)
  /-- At start a port reads the SPD, admits the DIMM and begins training (R428). -/
  | mpTraining (m : Fin 8) (answers : Bool)
  /-- Port training ends DONE, NO_DIMM, UNSUPPORTED or FAILED (R428). -/
  | mpTrainingDone (m : Fin 8) (e : DimmEnd)
  /-- MP_CMD.RETRAIN drains the port into self-refresh and retrains it (R429). -/
  | mpRetrain (m : Fin 8)
  /-- A retrain ends and the port leaves self-refresh or fails (R429). -/
  | mpRetrainDone (m : Fin 8) (ok : Bool)
  /-- MP_CMD.ACK releases the training result (R428). -/
  | mpAck (m : Fin 8)
  /-- Every 10 ms the port reads each rank's DQS interval oscillator (R430). -/
  | mpDqsOscRead (m : Fin 8) (rank : Fin 2)
  /-- Every 128 ms the port runs ZQ calibration (R430). -/
  | mpZqCal (m : Fin 8) (rank : Fin 2)
  /-- Every 32 ms the port reads the DIMM sensors and sets tREFI and HOT (R445). -/
  | mpThermalRead (m : Fin 8) (temp : BitVec 16)
  /-- A tracking action not issued within 1 ms is forced ahead of requests (R430). -/
  | mpTrackingForce (m : Fin 8) (rank : Fin 2) (zq : Bool)
  /-- The scheduler issues the preferred request's DRAM command (R438). -/
  | mpCommandIssue (m : Fin 8)
  /-- A waiting request's age crosses a TARGET fraction and its urgency rises (R437). -/
  | requestUrgencyRise (m : Fin 8) (idx : Nat)
  /-- A group's panic output changes and raises or lowers its slot's urgency (R439). -/
  | panicChange (d : Fin 4) (g idx : Fin 8)
  /-- At each tREFI boundary every bank set's refresh debt advances (R441). -/
  | trefiBoundary (m : Fin 8)
  /-- A REFsb is issued to a bank set whose banks are idle and reduces its debt (R441). -/
  | refsbIssue (m set : Fin 8)
  /-- A set in catch-up becomes forced tREFI / 2 after its last refresh (R443). -/
  | catchupTimer (m set : Fin 8)
  /-- MI_KCMD GEN draws a fresh key into a slot and returns it wrapped (R452). -/
  | imeGen (d : Fin 4) (port : Fin 2) (slot : Fin 16)
  /-- MI_KCMD LOAD unwraps a key into a slot (R452). -/
  | imeLoad (d : Fin 4) (port : Fin 2) (slot : Fin 16)
  /-- MI_KCMD KILL zeroises a slot once its transactions finish (R452). -/
  | imeKill (d : Fin 4) (port : Fin 2) (slot : Fin 16)
  /-- A key command completes with its status in MI_KRES (R453). -/
  | imeKeyDone (d : Fin 4)
  /-- MI_KCMD.ACK releases the key command result (R453). -/
  | imeKeyAck (d : Fin 4)
  /-- MI_SWCTL.GO starts a rekey sweep of a range or is refused (R457). -/
  | imeSweepGo (m r : Fin 8) (k : Fin 16)
  /-- MI_SWCTL.RESUME continues an aborted sweep from MI_SWPTR (R460). -/
  | imeSweepResume (m r : Fin 8) (k : Fin 16)
  /-- MI_SWCTL.ACK releases the sweep result (R460). -/
  | imeSweepAck (m : Fin 8)
  /-- The sweep re-encrypts one line under NEWKEY, ending DONE past the last line (R458). -/
  | sweepLine (m : Fin 8)
  /-- A retired key slot is zeroised once no transaction under it remains (R460). -/
  | slotRetire (m : Fin 8) (k : Fin 16)
  /-- An enabled port starts a training attempt at start or on its retry schedule (R465). -/
  | gslTrainingAttempt (g : Fin 24)
  /-- Training ends UP or EPOCH_HOLD, resuming or replaying a held port (R465). -/
  | gslTrainingDone (g : Fin 24) (up : Option LinkUp)
  /-- A received LMGT frame carries training, SESSION, epoch, key or loopback exchange (R469). -/
  | lmgtFrame (g : Fin 24) (h : GHdr) (m : LmgtMsg)
  /-- An unanswered LMGT request is repeated every 10 µs (R469). -/
  | lmgtRepeat (g : Fin 24)
  /-- A port transmits a frame once it holds a credit, assigning SEQ to sequenced frames (R471). -/
  | gslFrameSend (g : Fin 24)
  /-- A received DATA frame is accepted in order and delivered or forwarded by route (R476). -/
  | gslDataFrame (g : Fin 24) (h : GHdr) (f : GFrame)
  /-- A received STOP is delivered to local members and forwarded on the group's ports (R480). -/
  | gslStopFrame (g : Fin 24) (h : GHdr) (gid : BitVec 16) (stopAt : BitVec 64)
  /-- A RELAY frame carrying image data is received for staging or loading (R482). -/
  | relayImageData (g : Fin 24) (h : GHdr) (data : List Byte)
  /-- An IDLE frame returns credits and acknowledgements (R472). -/
  | gslIdleFrame (g : Fin 24) (h : GHdr)
  /-- A frame failing FEC, CRC or tag is discarded and answered with NAK (R470). -/
  | gslBadFrame (g : Fin 24) (kind : Fin 3)
  /-- A frame with a reserved type or field is discarded and counted (R469). -/
  | gslReservedFrame (g : Fin 24)
  /-- A received NAK makes the sender replay every unacknowledged frame (R471). -/
  | gslNak (g : Fin 24) (h : GHdr)
  /-- 20 µs without ACK advance triggers a replay; eight in a row take the port down (R471). -/
  | gslReplayTimeout (g : Fin 24)
  /-- Owed credits are returned at least every 1 µs (R472). -/
  | gslCreditReturnTimer (g : Fin 24) (vc : Fin 4)
  /-- A frame waiting more than 1 ms for a credit advances GSL_CNT_STALL (R478). -/
  | gslCreditStall (g : Fin 24)
  /-- A lane losing lock for 1 µs takes the port down into HELD (R485). -/
  | gslLockLoss (g : Fin 24)
  /-- GSL_HOLD ends without a return, losing unacknowledged frames and rerouting STOPs (R487). -/
  | gslHoldExpire (g : Fin 24)
  /-- After GSL_LIFE on a route change queued frames leave on the new route (R488). -/
  | gslLifeExpire (g : Fin 24)
  /-- A DATA or RELAY frame whose AGE reaches GSL_LIFE is discarded and declared lost (R488). -/
  | gslFrameAgeExpire (g : Fin 24) (n : Nat)
  /-- GSL_KCMD LOAD unwraps a link key into a slot (R483). -/
  | gslKeyLoad (g : Fin 24) (k : Fin 4)
  /-- GSL_KCMD KILL zeroises a link key slot (R483). -/
  | gslKeyKill (g : Fin 24) (k : Fin 4)
  /-- GSL_KCMD.ACK releases the key command result (R483). -/
  | gslKeyAck (g : Fin 24)
  /-- A slot awaiting retirement is killed once its frames are acknowledged (R483). -/
  | gslKeyRetire (g : Fin 24) (k : Fin 4)
  /-- A write to GSL_CNT_CLR clears the named port counters (R23). -/
  | gslCntClr (g : Fin 24) (v : BitVec 11)
  /-- PERST_N assertion takes the PCIe link down as a PF FLR; deassertion starts link training (R497). -/
  | perstN (asserted : Bool)
  /-- The PCIe link trains up to its common speed and DCTL_READY.HST is set (R491). -/
  | pcieLinkUp (speed : Fin 7) (width : BitVec 5) (flit : Bool)
  /-- Hot reset or link down cancels channels, orphans PF locks and clears DCTL_READY.HST (R497). -/
  | pcieLinkDown
  /-- A configuration request completes, with Retry Status before DCTL_READY.HST (R491). -/
  | pcieConfigRequest (fn : Option (Fin 16)) (r : CfgReq)
  /-- A memory TLP to a BAR is mapped to a local access or completes Unsupported Request (R492). -/
  | pcieMemoryRequest (t : Tlp) (remote : Rsp)
  /-- A PF function-level reset cancels channels, orphans PF locks and removes VFs (R497). -/
  | pfFlr
  /-- A VF FLR resets site n and its VF page and channels (R497). -/
  | vfFlr (n : Fin 16)
  /-- Clearing VF Enable acts as a PF FLR (R497). -/
  | vfEnableClear
  /-- A write to DMA_PROD makes new descriptors available to the channel (R495). -/
  | dmaProdWrite (c : Fin 32) (v : BitVec 32)
  /-- A channel starts the next descriptor, waiting first when FENCE is set (R495). -/
  | dmaDescriptor (c : Fin 32) (desc : BitVec 256)
  /-- A descriptor completes, writes STATUS and raises its vector, or halts the channel (R495). -/
  | dmaDescriptorDone (c : Fin 32) (host : List Byte) (pois : List Bool) (hostErr : Bool) (remote : Rsp)
  /-- DMA_CTL.CANCEL ends the channel's work with CANCELLED (R495). -/
  | dmaCancel (c : Fin 32)
  /-- DMA_CTL.RESUME restarts a halted channel at the next descriptor (R495). -/
  | dmaResume (c : Fin 32)
  /-- A clock domain's stop, switch and restart completes and BUSY clears (R500). -/
  | domainSwitchDone (d : Fin 4) (n : Fin 40)
  /-- A write to CKP_GATE requests gating or ungating of blocks (R503). -/
  | ckpGateWrite (d : Fin 4) (j : Fin 3) (v : Word)
  /-- A block reaches its idle point and its clock is gated (R503). -/
  | blockGated (d : Fin 4) (j : Fin 3) (bit : Fin 23)
  /-- Once every block of a domain is idle the Doze stop takes effect (R504). -/
  | domainDozeStop (d : Fin 4) (n : Fin 40)
  /-- REFCLK absence detected after 50 ns falls back or, in NORMAL, drives device-safe (R508). -/
  | refclkLoss (d : Fin 4)
  /-- REFCLK returns, ending source 0's condition and letting PLLs relock (R508). -/
  | refclkReturn (d : Fin 4)
  /-- A PLL losing lock moves or stops its domains, or in NORMAL drives device-safe (R507). -/
  | pllUnlock (d : Fin 4) (p : Fin 5)
  /-- Every 64 µs the frequency monitor compares each PLL against OSC8 and reports failure (R505). -/
  | freqMonitorWindow (d : Fin 4) (bad : BitVec 5)
  /-- A PLL locks or relocks and its LOCK bit sets (R507). -/
  | pllLock (d : Fin 4) (p : Fin 5)
  /-- The Owl returns fallback domains to their committed sources and clears FB (R508). -/
  | domainRestore (d : Fin 4) (n : Fin 40)
  /-- Writing 1 to a CKP_NAP bit fences a region and removes its power, or is refused (R509). -/
  | napEnter (r : Fin 256)
  /-- Writing 0 to a CKP_NAP bit restores the region's power (R509). -/
  | napExit (r : Fin 256)
  /-- A region's power removal or restoration completes (R509). -/
  | napPowerDone (r : Fin 256)
  /-- A restored region with a Sett copy is reloaded from Sett and becomes LOADED (R509). -/
  | napReload (r : Fin 256)
  /-- CKP_HIB.GO on LD0 starts Hibernate entry or is refused with REJ (R510). -/
  | hibernateGo (d : Fin 4) (v : Word)
  /-- Entry ends with every domain but the kept ones stopped and unpowered (R510). -/
  | hibernateComplete
  /-- A wake event restarts the start-up sequence from verified Owl firmware (R511). -/
  | hibernateWake (w : Wake)
  /-- DCTL_DRST.GO or the Owl starts a die reset of every block of the die (R512). -/
  | dieReset (d : Fin 4) (byOwl : Bool)
  /-- A die reset ends and the die's functions return through start-up (R512). -/
  | dieResetDone (d : Fin 4)
  /-- A crossing accepts entries again once both sides assert ready (R514). -/
  | cdcReadyResume (d : Fin 4)
  /-- A CKP_BRST bit resets a block's registers and discards its work (R512). -/
  | blockReset (d : Fin 4) (j : Fin 3) (v : Word)
  /-- FH_INJ.GO raises a source once as a hardware event with FORCE set (R528). -/
  | fhInject (d : Fin 4) (v : Word)
  /-- A W1C write to FH_PEND ends reactions, refused for severity 5 or 6 without LD0's Owl (R524). -/
  | fhPendClear (d j : Fin 4) (v : Word)
  /-- FH_REL.RELEASE on LD0 lifts a held device-safe reaction or sets REJ (R526). -/
  | fhRelease (d : Fin 4) (v : Word)
  /-- A source pending for FH_ESC_TMO is raised again at its ESC severity (R529). -/
  | faultEscalate (d : Fin 4) (src : Fin 128)
  /-- A write to FH_LOG_RD consumes log entries or is discarded as out of range (R527). -/
  | fhLogRdWrite (d : Fin 4) (v : Word)
  /-- A write to FH_CNT_CLR clears one source counter or all (R23). -/
  | fhCntClr (d : Fin 4) (v : Word)
  /-- A supply outside its operating range but inside its POR window for 1 µs raises source 4 (R544). -/
  | supplyOutOfWindow (d : Fin 4) (n : Fin 16)
  /-- The hottest die sensor crossing 100 °C or 110 °C raises source 5 or 6 (R551). -/
  | dieTemperature (d : Fin 4) (t : Int)
  /-- A service pin's synchronized level changes (R532). -/
  | svpInputChange (d : Fin 4) (n : Fin 16) (level : Bool)
  /-- A level stable for FILT + 1 cycles is accepted and the matchers are evaluated (R532). -/
  | svpFilterAccept (d : Fin 4) (pins : BitVec 16)
  /-- After EWID + 1 PCLK the TRIG pulse on the pin ends (R533). -/
  | svpTrigPulseEnd (d : Fin 4) (n : Fin 16)
  /-- A write to SVP_OUT sets the output register after the CSR writes of the cycle (R533). -/
  | svpOutWrite (d : Fin 4) (v : BitVec 16)
  /-- A write to SVP_LOCK advances or resets the lock sequence and freezes pins on the third step (R536). -/
  | svpLockWrite (d : Fin 4) (v : BitVec 16)
  /-- A write to U_DATA queues a byte or sets TXOVF (R540). -/
  | uartTxWrite (d : Fin 4) (u : Fin 2) (b : BitVec 8)
  /-- A read of U_DATA removes and returns the oldest received byte (R540). -/
  | uartRxRead (d : Fin 4) (u : Fin 2)
  /-- A queued byte finishes transmission (R540). -/
  | uartByteSent (d : Fin 4) (u : Fin 2)
  /-- A byte arrives and is queued or lost with OVR, FERR or PERR (R540). -/
  | uartByteReceived (d : Fin 4) (u : Fin 2) (b : BitVec 8) (framing parity : Bool)
  /-- I_CMD.GO starts an I2C transfer or is ignored with SREJ (R541). -/
  | i2cGo (d : Fin 4) (idx : Fin 2) (addr : BitVec 7) (wlen rlen : BitVec 6)
  /-- I_CMD.ACK releases the I2C result (R541). -/
  | i2cAck (d : Fin 4) (idx : Fin 2)
  /-- An I2C transfer ends with DONE, NACK or BUS_ERR (R541). -/
  | i2cDone (d : Fin 4) (idx : Fin 2) (fail : Option (Fin 3)) (data : List Byte)
  /-- A target holding SCL low for 25 ms ends the transfer with TIMEOUT and bus recovery (R541). -/
  | i2cSclTimeout (d : Fin 4) (idx : Fin 2)
  /-- S_CMD.GO starts an SPI transfer or is ignored with SREJ (R541). -/
  | spiGo (d cs : Fin 4) (len : BitVec 7)
  /-- S_CMD.ACK releases the SPI result (R541). -/
  | spiAck (d : Fin 4)
  /-- An SPI transfer completes with received bytes in S_BUF (R541). -/
  | spiDone (d : Fin 4) (data : List Byte)
  /-- Background recalibration of the comparator offsets and CTLE of one lane of an UP GSL port through its auxiliary sampler, each lane at least once every 1 s (R466). -/
  | systemLaneRecalibration (g : Fin 24) (lane : Fin 4)
  /-- A port in loopback receives its PRBS31 pattern and counts a bit error in GSL_PRBS (R467). -/
  | prbsBitError (g : Fin 24) (n : Nat)
  /-- A supply that had left its operating range, while staying within its POR window, returns into its range and the condition behind source 4 ends (R544). -/
  | supplyReturnToRange (d : Fin 4) (n : Fin 16)
  /-- The hottest die sensor falls back below 110 °C or 100 °C and the condition behind source 6 or 5 ends (R551). -/
  | dieTemperatureReturn (d : Fin 4) (t : Int)
  deriving DecidableEq, Repr

end Sys2Proof
end

