-- ==== Sys2Proof/Decode.lean ====
section
/-! DEFINITION. The commands that words spell. Every row of spec/opcode_table.json has an empty list of fields: the commands are events
and bus operations, and none of them is encoded in a word. -/
namespace Sys2Proof

/-- The command that a word of `nbits` bits spells by the table's bits: none, for every word. -/
def decodeTableWord (_nbits _w : Nat) : Option Instr := none

end Sys2Proof
end

