-- ==== Sys2Proof/Machine/Bits.lean ====
section
/-! DEFINITION. Bit fields of natural numbers, signed readings, saturating sums and byte order: the arithmetic every
block of the model shares. -/
namespace Sys2Proof.Machine

/-- Bits `[lsb + w - 1 : lsb]` of `v`. -/
def bits (v lsb w : Nat) : Nat := v / 2 ^ lsb % 2 ^ w

/-- Bit `i` of `v`. -/
def bitAt (v i : Nat) : Bool := v / 2 ^ i % 2 == 1

/-- `v` with bits `[lsb + w - 1 : lsb]` replaced by the low `w` bits of `x`. -/
def putBits (v lsb w x : Nat) : Nat :=
  v - bits v lsb w * 2 ^ lsb + x % 2 ^ w * 2 ^ lsb

/-- `v` with bit `i` set or cleared. -/
def putBit (v i : Nat) (b : Bool) : Nat := putBits v i 1 b.toNat

/-- Two's complement reading of the low `w` bits of `v`. -/
def sgn (w v : Nat) : Int :=
  let x := v % 2 ^ w
  if 2 * x < 2 ^ w then (x : Int) else (x : Int) - 2 ^ w

/-- The low `w` bits of an integer. -/
def wrapI (w : Nat) (x : Int) : Nat := (x % (2 ^ w : Int)).toNat

/-- Adding to a counter of `w` bits that saturates at its maximum (R23). -/
def satAdd (w v n : Nat) : Nat := min (v + n) (2 ^ w - 1)

/-- Number of 1 bits among the low `w` bits. -/
def popBits : Nat → Nat → Nat
  | 0, _ => 0
  | w + 1, v => v % 2 + popBits w (v / 2)

/-- Little-endian value of a list of bytes. -/
def leVal : List (BitVec 8) → Nat
  | [] => 0
  | b :: bs => b.toNat + 256 * leVal bs

/-- The `n` bytes of a value, lowest first. -/
def leBytes : Nat → Nat → List (BitVec 8)
  | 0, _ => []
  | n + 1, v => BitVec.ofNat 8 v :: leBytes n (v / 256)

/-- The little-endian field of `n` bytes at an offset of a byte string. -/
def leAt (bs : List (BitVec 8)) (off n : Nat) : Nat := leVal ((bs.drop off).take n)

/-- `x` rounded up to a multiple of `n`. -/
def alignUp (n x : Nat) : Nat := (x + n - 1) / n * n

/-- One byte of CRC-32C (reflected polynomial 0x82F63B78), and the CRC of a byte string. -/
def crcByte (c : Nat) (b : BitVec 8) : Nat :=
  (List.range 8).foldl (fun c _ => if c % 2 = 1 then c / 2 ^^^ 0x82F63B78 else c / 2) (c ^^^ b.toNat)
def crc32c (bs : List (BitVec 8)) : Nat := bs.foldl crcByte 0xFFFFFFFF ^^^ 0xFFFFFFFF

/-- Difference of two sequence numbers of `w` bits, modulo 2^w (R23). -/
def seqDiff (w a b : Nat) : Nat := (a + 2 ^ w - b % 2 ^ w) % 2 ^ w

end Sys2Proof.Machine
end

