-- ==== Sys2Proof/Machine/Operands.lean ====
section
/-! DEFINITION. Operand forms of the fabric cell (07_programmable_fabric.md R228 to R233): the fields of an instruction word, which
operands an opcode uses, and which words the configuration engine rejects (R229). -/
namespace Sys2Proof.Machine

/-! ## The instruction word (R228) -/
def insnOp (w : Nat) : Nat := bits w 26 6
def insnSrcA (w : Nat) : Nat := bits w 22 4
def insnSrcB (w : Nat) : Nat := bits w 18 4
def insnImm (w : Nat) : Nat := bits w 10 8
def insnCmode (w : Nat) : Nat := bits w 8 2
def insnOsel (w : Nat) : Nat := bits w 6 2
def insnWeA (w : Nat) : Bool := bitAt w 5
def insnWeB (w : Nat) : Bool := bitAt w 4

/-- Operands an opcode uses beside A (R233, column Uses). -/
structure Uses where
  b : Bool := false
  ci : Bool := false
  t : Bool := false
  flags : Bool := false
  imm : Bool := false
  deriving DecidableEq, Repr

/-- The Uses column of R233; none: a reserved opcode. -/
def cellUses (op : Nat) : Option Uses :=
  if op ∈ [0x00, 0x06, 0x16, 0x27, 0x28, 0x30, 0x31, 0x32, 0x36, 0x37, 0x38] then some {}
  else if op ∈ [0x01, 0x02, 0x03, 0x04, 0x05, 0x0C] then some { b := true, ci := true }
  else if op ∈ [0x07, 0x08, 0x09, 0x0A, 0x0B, 0x0D, 0x0E, 0x0F, 0x10, 0x11, 0x12, 0x13, 0x14, 0x15, 0x20, 0x21, 0x22, 0x23, 0x24,
      0x39, 0x3A, 0x3B, 0x3C, 0x3D, 0x3E] then some { b := true }
  else if op = 0x17 then some { b := true, t := true, imm := true }
  else if op ∈ [0x18, 0x19, 0x1A] then some { b := true, flags := true }
  else if op = 0x1B then some { b := true, t := true }
  else if op ∈ [0x25, 0x26] then some { ci := true }
  else if op ∈ [0x29, 0x34] then some { b := true, imm := true }
  else if op = 0x33 then some { imm := true }
  else if op = 0x35 then some { ci := true, imm := true }
  else none

/-- A word that a slot of cell `cell` in cluster row `row` may hold (R229, R238). IMM8 is used when the opcode names it or a used
operand selects it; FSHL uses its low three bits (notes/assumptions/29.md). -/
def insnLegal (row cell w : Nat) : Bool :=
  match cellUses (insnOp w) with
  | none => false
  | some u =>
    let selImm := insnSrcA w == 6 || (u.b && insnSrcB w == 6)
    w % 16 == 0 && insnSrcA w ≤ 8 && insnSrcB w ≤ 8 && (u.b || insnSrcB w == 0) &&
    (u.imm || selImm || insnImm w == 0) && (u.ci || u.t || insnCmode w == 0) &&
    (insnOp w != 0x29 || selImm || insnImm w < 8) &&
    !(u.ci && insnCmode w == 3 && row == 15 && cell == 0)

/-- The operands of an instruction in execution: A, B, the third operand T, IMM8, the carry-in, the flags. -/
structure CellArgs where
  a : Nat
  b : Nat
  t : Nat
  imm : Nat
  ci : Nat
  c : Bool
  z : Bool
  n : Bool
  deriving DecidableEq, Repr

end Sys2Proof.Machine
end

