-- ==== Sys2Proof/Machine/Flags.lean ====
section
/-! DEFINITION. Results and flags of the fabric cell's opcodes (07_programmable_fabric.md R233). -/
namespace Sys2Proof.Machine

/-- A result: R and the flags the opcode loads; none: the flag keeps its value, and the carry output is 0 (R234). -/
structure CellRes where
  r : Nat
  c : Option Bool := none
  v : Option Bool := none
  z : Option Bool := none
  n : Option Bool := none
  deriving DecidableEq, Repr

/-- Complement of a byte. -/
def not8 (x : Nat) : Nat := 255 - x

/-- Signed overflow of an 8-bit sum x + y + ci. -/
def overflow8 (x y ci : Nat) : Bool :=
  let r := (x + y + ci) % 256
  bitAt x 7 == bitAt y 7 && bitAt r 7 != bitAt x 7

/-- A result whose Z and N are its own (the "R" of the ZN column). -/
def resZN (r : Nat) (c v : Option Bool := none) : CellRes := { r := r, c := c, v := v, z := some (r == 0), n := some (bitAt r 7) }

/-- The sum x + y + ci with its carry, overflow, Z and N. -/
def sumRes (x y ci : Nat) : CellRes := resZN ((x + y + ci) % 256) (some (256 ≤ x + y + ci : Bool)) (some (overflow8 x y ci))

/-- A byte from a function of its bit numbers. -/
def byteOf (f : Nat → Bool) : Nat := (List.range 8).foldl (fun x i => x + (f i).toNat * 2 ^ i) 0

/-- Leading zeros of a byte, trailing zeros, and parity. -/
def clz8 (x : Nat) : Nat := ((List.range 8).find? fun i => bitAt x (7 - i)).getD 8
def ctz8 (x : Nat) : Nat := ((List.range 8).find? fun i => bitAt x i).getD 8
def parity8 (x : Nat) : Bool := popBits 8 x % 2 == 1

/-- The binary value of a Gray code, and the Gray code of a number. -/
def ungray8 (x : Nat) : Nat := byteOf fun i => parity8 (x / 2 ^ i)
def gray8 (x : Nat) : Nat := x ^^^ (x / 2)

def cellMOV (x : CellArgs) : CellRes := { r := x.a }
def cellADD (x : CellArgs) : CellRes := sumRes x.a x.b x.ci
def cellSUB (x : CellArgs) : CellRes := sumRes x.a (not8 x.b) x.ci
def cellRSB (x : CellArgs) : CellRes := sumRes x.b (not8 x.a) x.ci
def cellADDUS (x : CellArgs) : CellRes := resZN (min (x.a + x.b + x.ci) 255) (some (255 < x.a + x.b + x.ci : Bool)) (some false)
def cellSUBUS (x : CellArgs) : CellRes := resZN (x.a + x.ci - x.b - 1) (some (x.a + x.ci < x.b + 1 : Bool)) (some false)
def cellNEG (x : CellArgs) : CellRes := resZN ((not8 x.a + 1) % 256) (some (x.a == 0)) (some (x.a == 0x80))
def cellABSD (x : CellArgs) : CellRes := resZN (x.a - x.b + (x.b - x.a)) (some (x.a < x.b : Bool)) (some false)
def cellMINU (x : CellArgs) : CellRes := resZN (min x.a x.b) (some (x.b < x.a : Bool))
def cellMAXU (x : CellArgs) : CellRes := resZN (max x.a x.b) (some (x.a < x.b : Bool))
def cellMINS (x : CellArgs) : CellRes := resZN (if sgn 8 x.b < sgn 8 x.a then x.b else x.a) (some (sgn 8 x.b < sgn 8 x.a : Bool))
def cellMAXS (x : CellArgs) : CellRes := resZN (if sgn 8 x.a < sgn 8 x.b then x.b else x.a) (some (sgn 8 x.a < sgn 8 x.b : Bool))
def cellCMP (x : CellArgs) : CellRes := { sumRes x.a (not8 x.b) x.ci with r := x.a }
def cellTST (x : CellArgs) : CellRes := { r := x.a, z := some (x.a &&& x.b == 0), n := some (bitAt (x.a &&& x.b) 7) }
def cellINCW (x : CellArgs) : CellRes := resZN (if x.a = x.b then 0 else (x.a + 1) % 256) (some (x.a == x.b))
def cellDECW (x : CellArgs) : CellRes := resZN (if x.a = 0 then x.b else x.a - 1) (some (x.a == 0))
def cellAND (x : CellArgs) : CellRes := resZN (x.a &&& x.b)
def cellOR (x : CellArgs) : CellRes := resZN (x.a ||| x.b)
def cellXOR (x : CellArgs) : CellRes := resZN (x.a ^^^ x.b)
def cellANDN (x : CellArgs) : CellRes := resZN (x.a &&& not8 x.b)
def cellORN (x : CellArgs) : CellRes := resZN (x.a ||| not8 x.b)
def cellXNOR (x : CellArgs) : CellRes := resZN (not8 (x.a ^^^ x.b))
def cellNOT (x : CellArgs) : CellRes := resZN (not8 x.a)
def cellBITF (x : CellArgs) : CellRes :=
  resZN (byteOf fun i => bitAt x.imm (4 * (bitAt x.a i).toNat + 2 * (bitAt x.b i).toNat + (bitAt x.t i).toNat))
def cellSELC (x : CellArgs) : CellRes := { r := if x.c then x.a else x.b }
def cellSELZ (x : CellArgs) : CellRes := { r := if x.z then x.a else x.b }
def cellSELN (x : CellArgs) : CellRes := { r := if x.n then x.a else x.b }
def cellMUXB (x : CellArgs) : CellRes := { r := if bitAt x.t 0 then x.a else x.b }

/-- C of a shift or rotation by `k`: kept when k = 0. -/
def shiftC (k : Nat) (out : Bool) : Option Bool := if k = 0 then none else some out

def cellSHL (x : CellArgs) : CellRes :=
  let k := x.b % 8
  resZN (x.a * 2 ^ k % 256) (shiftC k (bitAt x.a (8 - k)))
def cellSHR (x : CellArgs) : CellRes :=
  let k := x.b % 8
  resZN (x.a / 2 ^ k) (shiftC k (bitAt x.a (k - 1)))
def cellSAR (x : CellArgs) : CellRes :=
  let k := x.b % 8
  resZN (byteOf fun i => if i + k < 8 then bitAt x.a (i + k) else bitAt x.a 7) (shiftC k (bitAt x.a (k - 1)))
def cellROL (x : CellArgs) : CellRes :=
  let k := x.b % 8
  let r := byteOf fun i => bitAt x.a ((i + 8 - k) % 8)
  resZN r (shiftC k (bitAt r 0))
def cellROR (x : CellArgs) : CellRes :=
  let k := x.b % 8
  let r := byteOf fun i => bitAt x.a ((i + k) % 8)
  resZN r (shiftC k (bitAt r 7))
def cellSHLC (x : CellArgs) : CellRes := resZN ((x.a * 2 + x.ci) % 256) (some (bitAt x.a 7))
def cellSHRC (x : CellArgs) : CellRes := resZN (x.ci * 128 + x.a / 2) (some (bitAt x.a 0))
def cellREV (x : CellArgs) : CellRes := resZN (byteOf fun i => bitAt x.a (7 - i))
def cellSWAP (x : CellArgs) : CellRes := resZN (x.a % 16 * 16 + x.a / 16)
def cellFSHL (x : CellArgs) : CellRes := resZN (bits ((x.a * 256 + x.b) * 2 ^ (x.imm % 8)) 8 8)
def cellCLZ (x : CellArgs) : CellRes := resZN (clz8 x.a) (some (x.a == 0))
def cellCTZ (x : CellArgs) : CellRes := resZN (ctz8 x.a) (some (x.a == 0))
def cellPOPC (x : CellArgs) : CellRes := resZN (popBits 8 x.a) (some (bitAt (popBits 8 x.a) 0))
def cellPMSK (x : CellArgs) : CellRes := resZN (parity8 (x.a &&& x.imm)).toNat (some (parity8 (x.a &&& x.imm)))
def cellXSCR (x : CellArgs) : CellRes := resZN (x.a ^^^ (x.b &&& x.imm))
def cellLFSR (x : CellArgs) : CellRes :=
  resZN ((x.a * 2 + ((parity8 (x.a &&& x.imm)).toNat + x.ci) % 2) % 256) (some (bitAt x.a 7))
def cellGRAY (x : CellArgs) : CellRes := resZN (gray8 x.a)
def cellUGRAY (x : CellArgs) : CellRes := resZN (ungray8 x.a)
def cellGSTEP (x : CellArgs) : CellRes := resZN (gray8 ((ungray8 x.a + 1) % 256)) (some (x.a == 0x80))
def cellEQ (x : CellArgs) : CellRes := resZN (if x.a = x.b then 255 else 0)
def cellLTU (x : CellArgs) : CellRes := resZN (if x.a < x.b then 255 else 0)
def cellLTS (x : CellArgs) : CellRes := resZN (if sgn 8 x.a < sgn 8 x.b then 255 else 0)
def cellBSET (x : CellArgs) : CellRes := resZN (x.a ||| 2 ^ (x.b % 8))
def cellBCLR (x : CellArgs) : CellRes := resZN (x.a &&& not8 (2 ^ (x.b % 8)))
def cellBTST (x : CellArgs) : CellRes := { r := x.a, c := some (bitAt x.a (x.b % 8)), z := some (!bitAt x.a (x.b % 8)) }

/-- The flags in the layout of R230 after an opcode. -/
def flagsAfter (f : Nat) (x : CellRes) : Nat :=
  let set := fun (v : Nat) (i : Nat) (b : Option Bool) => match b with
    | some b => putBit v i b
    | none => v
  set (set (set (set f 3 x.c) 2 x.z) 1 x.n) 0 x.v

/-- Some flag loads. -/
def CellRes.loads (x : CellRes) : Bool := x.c.isSome || x.v.isSome || x.z.isSome || x.n.isSome

end Sys2Proof.Machine
end

