-- ==== Sys2Proof/Config.lean ====
section
/-! DEFINITION. What an implementation fixes and what the spec leaves open: constants without a body. No proof can see a value
of any of them; a claim that names one holds for every value (notes/assumptions/4.md, 5.md). -/
namespace Sys2Proof.Config

/-- A fresh open value of `w` bits: the n-th value the run draws (the counter is State.fresh). -/
opaque freeValue : (n w : Nat) → BitVec w

/-- The 64-bit unit serial, a constant of the unit (R1, DCTL_SERIAL). -/
opaque unitSerial : BitVec 64

/-- The manufacturer code of the TAP's IDCODE, given in the BSDL file and not in the manual (R386). -/
opaque manufacturerCode : BitVec 11

/-- Whether mtval takes the instruction word of an illegal instruction and the address of a breakpoint, or zero: the RISC-V
specifications leave it to the implementation (R366; notes/assumptions/38.md). -/
opaque trapValue : Bool

/-- Whether the page-table walk sets the A and D bits itself, or raises a page fault where they are clear: the same (R366). -/
opaque adUpdate : Bool

/-- The identity CSRs that the manual does not give: mvendorid, marchid, mimpid of an SP; of an Owl (16 + die) mhartid too (R366). -/
opaque idCsr : (core csr : Nat) → BitVec 64

/-- The check byte of a 64-bit word: the manual gives the code's weights and not its columns (R259). -/
opaque checkByte : BitVec 64 → BitVec 8

/-- The data bit that a weight-3 syndrome names (R259). -/
opaque dataColumn : BitVec 8 → BitVec 6

/-- The 16 check bytes of a DRAM line, as four words (R260: the code is described, not given). -/
opaque lineCheck : BitVec 512 → BitVec 128

/-- The device group whose x4 device carries a check bit of a line (R260 does not place the check symbols in the groups). -/
opaque checkGroup : (bit : Nat) → Fin 10

/-- What an error in more than two device groups decodes to: a group with the bits the decoder then corrects in the data, or none,
uncorrectable (R260 promises detection of two groups only). -/
opaque wideError : BitVec 128 → Option (Fin 10 × BitVec 512)

/-- The fixed pattern by which the check bytes of a poisoned line are XORed (R260: described, not given). -/
opaque poisonPattern : BitVec 128

/-- The AES-256 block cipher, a published standard the manual names and does not give (R449, R484). -/
opaque aes256 : (key : BitVec 256) → (block : BitVec 128) → BitVec 128

/-- AES key wrap under a key of the unit: the 40 wrapped bytes of a key, and the key of 40 bytes when their integrity check
passes (R452, R483). The argument tells the unit's device memory KEK (0) from another key-encryption key. -/
opaque keyWrap : (kek : BitVec 256) → (key : BitVec 256) → BitVec 320
opaque keyUnwrap : (kek : BitVec 256) → (wrapped : BitVec 320) → Option (BitVec 256)

/-- The device memory KEK fused at manufacture (R452). -/
opaque deviceKek : BitVec 256

/-- SHA-384, ECDSA over P-384 and AES-256-GCM, published standards (R278, R280): a digest; whether a signature of a digest verifies
under a public key; the plaintext when the tag verifies. -/
opaque sha384 : List Byte → BitVec 384
opaque ecdsaVerify : (key : List Byte) → (digest r s : BitVec 384) → Bool
opaque gcmOpen : (key : BitVec 256) → (iv : BitVec 96) → (aad ciphertext : List Byte) → (tag : BitVec 128) → Option (List Byte)

/-- The Tlanas image key of signature slot 0 and the family image KEK, fused at manufacture (R279). -/
opaque tlanasKey : List Byte
opaque familyKek : BitVec 256

/-- What the device database says of a configuration frame whose layout the manual does not give (R275): its reserved bits are
zero; the clusters (column, row) that it lets drive or sample a PCLK port (R245), and whether it connects a crossing port (R502). -/
opaque frameReservedZero : (col frame : Nat) → (content : List Byte) → Bool
opaque framePclkClusters : (col frame : Nat) → (content : List Byte) → List (Fin 32 × Fin 16)
opaque frameCrossing : (col frame : Nat) → (content : List Byte) → Bool

/-- What the device database says of the routing (R240, R241, R275). From the settings of a cluster column, FRAME 5 to 21: the cell output (0
to 15) or cluster input (16 to 47) that an input of a cell selects; the tap of a cluster input; the cell that drives the cluster's
segment of a level (1, 4 or 16) toward a side. From the settings of a region, region FRAME 1 to 19: what drives a global line there; the
region clock of a line's register at the boundary where the line enters the region, if enabled; what drives a bus of a crossing port. The
region on which a crossing port connects. What reads where nothing drives. -/
opaque crossbar : (column : List Nat) → (row pos input : Nat) → Option (Fin 48)
opaque clusterTap : (column : List Nat) → (row input : Nat) → Option Sys2Proof.Tap
opaque segmentCell : (column : List Nat) → (row level : Nat) → (toward : Sys2Proof.Side) → (i : Nat) → Option (Fin 16)
opaque lineDriver : (region : List Nat) → (vertical back : Bool) → (i : Nat) → Option Sys2Proof.BusSrc
opaque lineRegister : (region : List Nat) → (vertical back : Bool) → (i : Nat) → Option (Fin 4)
opaque crossingDriver : (region : List Nat) → (edge bus : Nat) → Option Sys2Proof.BusSrc
opaque crossingRegion : (edge bus : Nat) → Fin 64
opaque undrivenBus : (place : Nat) → BitVec 9

/-- Whether an FG clock that is not aligned to the PTB has an edge in a tick (R501). -/
opaque freeEdge : (die fg now : Nat) → Bool

/-- The column that the factory fuses of a region replace by the spare column: 0 none, else column + 1 (R255). -/
opaque fuseColumn : (region : Nat) → Fin 34

/-- Roles that the factory fuses give the 11 lanes of a die-to-die bundle, four bits a lane: 0 to 8, 9 free, 0xA bad (R413, R419). -/
opaque laneFuses : (bundle : Nat) → BitVec 44

/-- Whether a region's frames, FRAME 1 to 19, use its NoC port (R400). -/
opaque nocPort : (region : List Nat) → Bool

/-- The panic bit that a region's frames set for its NoC port (R439). -/
opaque nocPanic : (region : List Nat) → Bool

/-- Tlanas's PCI Vendor ID, which the manual does not give (R490). -/
opaque vendorId : BitVec 16

end Sys2Proof.Config
end

