-- ==== Sys2Proof/Machine/KV.lean ====
section
/-! DEFINITION. Sparse maps keyed by natural numbers, in one canonical form: keys strictly rising, and no entry equal to what
an unlisted key reads as. -/
namespace Sys2Proof.Machine

/-- A sparse map: key and value pairs, sorted by key. -/
abbrev KV (α : Type) := List (Nat × α)

namespace KV
variable {α : Type}

/-- The value at key `k`; an unlisted key reads as `dflt`. -/
def get (dflt : α) (k : Nat) : KV α → α
  | [] => dflt
  | (k', v) :: m => if k' = k then v else get dflt k m

/-- Puts `v` at key `k` before the first greater key; the map holds no entry of `k`. -/
def insert (k : Nat) (v : α) : KV α → KV α
  | [] => [(k, v)]
  | (k', v') :: m => if k < k' then (k, v) :: (k', v') :: m else (k', v') :: insert k v m

/-- The map without key `k`. -/
def erase (k : Nat) : KV α → KV α
  | [] => []
  | (k', v) :: m => if k' = k then erase k m else (k', v) :: erase k m

/-- Writes `v` at key `k`; writing the unlisted value removes the entry. -/
def set [DecidableEq α] (dflt : α) (k : Nat) (v : α) (m : KV α) : KV α :=
  if v = dflt then erase k m else insert k v (erase k m)

/-- Writes `v` at key `k`, whatever an unlisted key reads as. -/
def put (k : Nat) (v : α) (m : KV α) : KV α := insert k v (erase k m)

/-- The keys rise strictly, from above `lo`. -/
def risingFrom : Nat → KV α → Bool
  | _, [] => true
  | lo, (k, _) :: m => decide (lo ≤ k) && risingFrom (k + 1) m

/-- The canonical form for a default: rising keys and no entry equal to the default. -/
def wf [DecidableEq α] (dflt : α) (m : KV α) : Bool :=
  risingFrom 0 m && m.all (fun e => decide (e.2 ≠ dflt))

/-- Entries whose key lies in `[lo, hi)`. -/
def range (lo hi : Nat) (m : KV α) : KV α := m.filter fun e => decide (lo ≤ e.1 ∧ e.1 < hi)

/-- The map without the entries whose key lies in `[lo, hi)`. -/
def dropRange (lo hi : Nat) (m : KV α) : KV α := m.filter fun e => !decide (lo ≤ e.1 ∧ e.1 < hi)

end KV
end Sys2Proof.Machine
end

