-- ==== Sys2Proof/Machine/Regs.lean ====
section
/-! DEFINITION. How registers are described: fields with their place, width, access code and reset value (00_scope.md,
Notation), and the few reset values that a table of the manual gives per index. -/
namespace Sys2Proof.Machine

/-- A field of a register: byte offset of the register from its base, lowest bit, width, reset value. -/
structure Fld where
  off : Nat
  lsb : Nat
  width : Nat
  rst : Nat
  deriving DecidableEq, Repr

/-- The key of a field in the register file: its register's local address and its lowest bit. -/
def Fld.key (f : Fld) (base : Nat) : Nat := (base + f.off) * 32 + f.lsb

/-- Access codes of the field tables (00_scope.md, Notation). -/
inductive Acc where
  | rw | ro | wo | w1c | w1s | rws | rwl
  deriving DecidableEq, Repr

/-- Tables of the manual that give a reset value per index. -/
inductive RstTab where
  | domSrc | domDiv | fhSev | nocS | nocP
  deriving DecidableEq, Repr

/-- Source and divisor of clock domain `n` at reset (R499, column Default). -/
def domDefault (n : Nat) : Nat × Nat :=
  match n with
  | 0 => (0, 0) | 1 => (2, 0) | 2 => (5, 1) | 3 => (6, 2) | 4 => (6, 3) | 5 => (7, 0) | 6 => (7, 0) | 7 => (4, 7)
  | 8 => (4, 3) | 9 => (4, 9) | 10 => (5, 1) | 11 => (5, 1) | 12 => (5, 2) | 13 => (5, 2) | 14 => (4, 0) | 15 => (2, 0)
  | _ => (9, 0)

/-- Default severities of the fault sources (R531); a reserved source reads zero. -/
def fhSevDefault (n : Nat) : Nat :=
  if n ∈ [4, 6] then 5
  else if n ∈ [54, 67, 88, 89] then 4
  else if n ∈ [48, 49] then 3
  else if n ∈ [0, 1, 2, 17, 18, 22, 24, 25, 36, 37, 65, 71, 72, 80, 86, 91, 99, 100, 112] then 1
  else if n ∈ [3, 5, 7, 16, 19, 20, 21, 23, 26, 27, 28, 29, 32, 33, 34, 35, 38, 39, 40, 41, 50, 51, 52, 53, 55, 56, 57,
    58, 59, 66, 68, 69, 70, 73, 81, 82, 83, 84, 85, 87, 90, 92, 93, 94, 95, 96, 97, 98] then 2
  else 0

/-- Pattern and service credits of local group `g` toward a memory port (R403); HST holds its 80 on LD0 only. -/
def nocPCred (g : Nat) : Nat :=
  if g < 4 then 8 else if g = 4 then 32 else if g < 7 then 8 else if 8 ≤ g ∧ g < 24 then 1 else if g = 0x1C then 32 else 0
def nocSCred (d g : Nat) : Nat :=
  if 0x18 ≤ g ∧ g < 0x1C then 4 else if g = 0x1C then 8 else if g = 0x1D then 4 else if g = 0x1E ∨ g = 0x1F then 2
  else if g = 0x20 then (if d = 0 then 80 else 0) else if g = 0x21 then 16 else 0

/-- The reset value of index `i` on die `d`. -/
def RstTab.value (t : RstTab) (d i : Nat) : Nat :=
  match t with
  | .domSrc => (domDefault i).1
  | .domDiv => (domDefault i).2
  | .fhSev => fhSevDefault i
  | .nocS => nocSCred d i
  | .nocP => nocPCred i

/-- A field as the register tables list it: place, access, ranges of reserved encodings (R16), reset table if any. -/
structure RegField where
  fld : Fld
  acc : Acc
  resv : List (Nat × Nat)
  tab : Option RstTab
  deriving DecidableEq, Repr

/-- A register or an array of registers (two strides and counts) at an offset of its block. -/
structure RegRow where
  off : Nat
  stride : Nat
  count : Nat
  stride2 : Nat
  count2 : Nat
  fields : List RegField
  deriving DecidableEq, Repr

end Sys2Proof.Machine
end

