-- ==== Sys2Proof/Machine/State.lean ====
section
/-! DEFINITION. The state of the chip: every register of the spec in one sparse register file, every memory in one byte map, and
the state behind the registers as plain structures; State.reset, the machine at power-on. -/
namespace Sys2Proof.Machine

/-- Why a step stops with a fault. No command of this model ends so: raising a fault source, a poison or an error response is
the command's effect on State. -/
inductive Fault where
  /-- Raised by nothing; kept so that the outcome type has a fault. Safe. -/
  | never
  deriving DecidableEq, Repr

/-- Why a step refuses. -/
inductive Refusal where
  /-- A command without a meaning, by its mnemonic: raised by exec's arm of that command alone. Safe: the run stops. -/
  | notModelled (mnemonic : String)
  deriving DecidableEq, Repr

/-! ### Tester channels (02_tester_channels.md) -/

/-- A compare or capture pin behind its registers. -/
structure PinX where
  /-- The driver is on. -/
  drv : Bool := false
  /-- The level driven now or last (KEEP, NRZ previous level). -/
  lvl : Bool := false
  /-- Termination connected per SIG (R54, R79). -/
  term : Bool := false
  /-- Analog switch closed (R79). -/
  sw : Bool := false
  /-- Expected register EXP of serial CMPX (R66, R67). -/
  exp : Nat := 0
  /-- Place of the last drive edge, in fine steps from cadence position 0, plus one; 0: none in this run (R74). -/
  edge : Nat := 0
  /-- Role held before the transition in progress, and the one approached (R78). -/
  src : Nat := 0
  tgt : Nat := 0
  /-- The transition in progress is an enable time (R82). -/
  enab : Bool := false
  /-- The 1 µs point of the transition has passed (R79, R82). -/
  mid : Bool := false
  /-- Blanking of this pin alone, in fine steps of the die's PTB: from, to (R86). -/
  blankFrom : Nat := 0
  blankTo : Nat := 0
  /-- Levels driven in the UIs of the last taken word, UI 0 in bit 0. -/
  wave : Nat := 0
  /-- Drift correction in force on the pin's edges, in steps, and the tick from which the rest of the bank's correction waits
  (R94, R95). -/
  corr : Int := 0
  driftAt : Nat := 0
  deriving DecidableEq, Repr

/-- A bank behind its registers. -/
structure BankX where
  /-- Blanking of the whole bank, in fine steps of the die's PTB (R86). -/
  blankFrom : Nat := 0
  blankTo : Nat := 0
  /-- ETC position: threshold, bin, triggers done in the bin (R90). -/
  etcThr : Nat := 0
  etcBin : Nat := 0
  etcRep : Nat := 0
  etcAckd : Bool := true
  /-- Reference times, in fine steps, of the triggers not yet strobed; tick of the last trigger or of the start (R90, R91). -/
  etcTrigs : List Nat := []
  etcAt : Nat := 0
  /-- Pins the running ETC covers. -/
  etcPins : Nat := 0
  /-- Correction that the bank's timing generators need by the last replica measurement, in steps (R94). -/
  drift : Int := 0
  /-- The late fault of the present deferral has been raised; full milliseconds of it counted in LATE_CNT (R95). -/
  driftLate : Bool := false
  lateMs : Nat := 0
  /-- Owl has loaded the nominal VREFB (R102, R117). -/
  vref : Bool := false
  /-- Writes of AB_VREFB that wait for the commit that takes effect in their PCLK, oldest first (R106). -/
  vrefW : List Nat := []
  deriving DecidableEq, Repr

/-- A compare between its word's take and its word's delivery: fail bit, strobe or window in fine steps of the die's PTB, the
comparator's verdict; whether it falls due masked, blanked or on a pin of a running ETC (R80, R85, R86, R91). -/
structure Comp where
  j : Nat
  lo : Nat
  hi : Nat
  bad : Bool
  masked : Bool
  blanked : Bool
  etc : Bool
  deriving DecidableEq, Repr

/-- A fail word between its channel and the FCU (R76, R77). -/
structure FailWord where
  ch : Nat
  site : Nat
  /-- The compares that are not user-masked. -/
  comps : List Comp
  /-- Input PCLK count from cadence position 0. -/
  c : Nat
  /-- PTB tick at which its input PCLK begins; PTB tick of the UI0 reference time. -/
  pclk : Nat
  tick : Nat
  /-- PTB tick at which delivery PCLK P_end + 16 begins. -/
  due : Nat
  deriving DecidableEq, Repr

/-! ### Levels and parametric measurement (03_levels_and_parametric.md) -/

/-- Where a measurement stands (R113). -/
inductive PmuPhase where
  | idle | waitChange | settle | convert
  deriving DecidableEq, Repr

/-- A bank's PMU behind its registers. -/
structure PmuX where
  phase : PmuPhase := .idle
  /-- The 1 µs point of a range or mode change has passed: the old range or loop is disconnected (R118). -/
  oldGone : Bool := true
  deriving DecidableEq, Repr

/-- The guest port of a die (R98): `retrain` after so many failed retrains of a link lost in service, `lost` after the third
(R103). -/
inductive GuestPhase where
  | idle | discover | admitted | parked | lost
  | retrain (failed : Nat)
  deriving DecidableEq, Repr

/-- A guest analog die, by the logic die of its guest port: the capability registers that admission reads and its two precision
references, in µV (R96, R98). -/
structure ArpX where
  id : Nat := 0
  gver : Nat := 0
  banks : Nat := 0
  caps : Nat := 0
  refh : Nat := 1250000
  refl : Nat := 250000
  deriving DecidableEq, Repr

/-! ### Sites and pattern sequencers (04_sites_and_pattern_sequencers.md) -/

/-- An entry of the loop stack (R136): a LOOP or PACE body and its counter. -/
structure LoopEnt where
  pace : Bool
  /-- The body lies in a stream; its words are held in the buffer until the stream is left (R145). -/
  stream : Bool
  hold : Bool
  body : Nat
  left : Nat
  /-- Schedule of a paced loop: T0, period, iteration in progress (R149). -/
  t0 : Nat
  period : Nat
  iter : Nat
  deriving DecidableEq, Repr

/-- A return point on the call stack (R135). -/
structure CallEnt where
  stream : Bool
  addr : Nat
  sd : Nat
  /-- Pushed by STRM: the entry that SRET pops. -/
  byStrm : Bool
  deriving DecidableEq, Repr

/-- What a PSQ in WAIT waits for (R139, R140, R147, R149). -/
inductive PsqWait where
  | none
  /-- Segment or first segment not resident. -/
  | segment
  /-- MATCH: issue count limit, tick of its first issue. -/
  | mtch (n first : Nat)
  /-- SYNC: the tick waited for. -/
  | sync (tick : Nat)
  /-- ENDPACE: the scheduled tick. -/
  | pace (tick : Nat)
  deriving DecidableEq, Repr

/-- A match result under formation: input PCLK, match-compared, match-fail, tick of the latest delivery (R139). -/
structure MatchAcc where
  c : Nat
  compared : Bool
  failed : Bool
  tick : Nat
  deriving DecidableEq, Repr

/-- The symbol a site override applies (R156). -/
inductive Override where
  | none | keep | dz
  deriving DecidableEq, Repr

/-- A word that the sequencer drove on its pattern bus last (R154). -/
structure PbWord where
  pay : Nat := 0
  ts : Nat := 0
  uf : Nat := 0
  pbv : Bool := false
  pbm : Bool := false
  pbf : Bool := false
  pbr : Bool := false
  deriving DecidableEq, Repr

/-- A stretch of PCLKs with one pattern-bus value: tick at which it begins, tick at which it has ended (R154, R155). -/
structure PbRun where
  lo : Nat
  hi : Nat
  pb : PbWord
  deriving DecidableEq, Repr

/-- A sequencer behind its registers. -/
structure PsqX where
  /-- Next word: area, local address or stream offset. -/
  stream : Bool := false
  pc : Nat := 0
  sd : Nat := 0
  loops : List LoopEnt := []
  calls : List CallEnt := []
  /-- PTB tick of the PCLK in which the next word is due. -/
  tick : Nat := 0
  /-- No word of the run has issued yet. -/
  first : Bool := true
  /-- Tick of the first issue; cadence position 0 lies 8 PCLK later (R61). -/
  start : Nat := 0
  wait : PsqWait := .none
  /-- The member left its group by LKEND (R152). -/
  lkEnd : Bool := false
  /-- This PSQ sent the STOP by GSTOP or HALT: it ends HOST (R152). -/
  hostStop : Bool := false
  /-- Deliveries up to this tick are cleared from SFF (R137), plus one. -/
  clrAt : Nat := 0
  results : List MatchAcc := []
  /-- Prefetch buffer: the descriptor it holds, its words by offset, the offsets of bad words, the next offset to fetch; whether
  a fill is in progress (R134, R145). -/
  bufSd : Nat := 0
  buf : List (Nat × Nat) := []
  bufBad : List Nat := []
  bufNext : Nat := 0
  bufOn : Bool := false
  ovr : Override := .none
  /-- First input PCLK under the override after a halt, and the elastic idle PCLKs of the run: from, to (R148, R156). -/
  ovrC : Nat := 0
  idle : List (Nat × Nat) := []
  /-- Input PCLKs in which a MARK of the run reaches the channel inputs (R94). -/
  marks : List Nat := []
  /-- Issues left of a REPEAT that has begun (R135). -/
  rep : Option Nat := none
  /-- Banks whose KEEP words after an underrun are used up (R146), one bit each. -/
  dzBanks : Nat := 0
  /-- Descriptors scanned with ELASTIC = 1 (R143), one bit each. -/
  elastic : Nat := 0
  /-- Tick of the last issue (R157). -/
  last : Nat := 0
  pb : PbWord := {}
  /-- The last eight stretches of issues, newest first: tick of the first PCLK, tick after the last, pattern bus (R155). -/
  pbs : List PbRun := []
  deriving DecidableEq, Repr

/-- A STOP on its way to a PSQ of this device (R151, R152). -/
structure StopMsg where
  psq : Nat
  gid : Nat
  stopAt : Nat
  deriving DecidableEq, Repr

/-- A TRIG event on its way (R141). -/
structure TrigMsg where
  psq : Nat
  dest : Nat
  evt : Nat
  /-- PTB tick at which it reaches its destinations, and its input PCLK count (R63, R195). -/
  due : Nat
  c : Nat
  deriving DecidableEq, Repr

/-! ### Time base (05_time_base_and_lockstep.md) -/

/-- An exchange request of this follower that waits for its response: departure stamp in fine steps. -/
structure SyncX where
  t1 : Option Nat := none
  /-- Accepted exchanges in a row (R171, R172), and their offsets in half fine steps, newest first (at most 4). -/
  good : Nat := 0
  thetas : List Int := []
  /-- Path delays of the last 8 accepted exchanges, in half fine steps (R169). -/
  deltas : List Int := []
  /-- Missed or rejected in a row. -/
  bad : Nat := 0
  /-- Exchanges beyond LOSS_THR in a row. -/
  beyond : Nat := 0
  probation : Bool := false
  /-- A load or forward step to apply at the next boundary: whole ticks, may be negative in a first acquisition. -/
  step : Option Int := none
  /-- That step is the load of a first acquisition (R172). -/
  load : Bool := false
  /-- Fine steps still to slew. -/
  slew : Int := 0
  /-- Per die: fine steps applied since its count last took or left out a whole tick for them (R159, R164). -/
  fine : KV Int := []
  /-- The AHEAD fault of this acquisition has been raised (R173). -/
  aheadRaised : Bool := false
  /-- Net fine steps applied since the last request (PTB_SLEW). -/
  net : Int := 0
  deriving DecidableEq, Repr

/-- An exchange response on its way out of a port: stamps t2 and t3 in fine steps, STATE and HOPS (R168, R481). -/
structure PtbAnswer where
  port : Nat
  t2 : Nat
  t3 : Nat
  state : Nat
  hops : Nat
  deriving DecidableEq, Repr

/-! ### Faults (17_faults_and_safe_state.md) -/

/-- A fault source of one die behind FH_PEND and FH_CNT. -/
structure FhSrc where
  /-- Tick of now at which the pending period began (R529). -/
  since : Nat := 0
  /-- Severity of the reaction in force while pending. -/
  react : Nat := 0
  /-- Sites its site-safe reaction covers, one bit each. -/
  sites : Nat := 0
  /-- Escalated in this pending period. -/
  escd : Bool := false
  /-- Instances whose lasting condition is present (R518). -/
  conds : List Nat := []
  deriving DecidableEq, Repr

/-- The package-wide part of the safe state (R36, R526). -/
structure SafeX where
  /-- A severity-6 reaction is held until host release. -/
  held : Bool := false
  /-- A net is low although no die holds a reaction (an external short). -/
  extP : Bool := false
  extQ : Bool := false
  deriving DecidableEq, Repr

/-! ### Den comparators (12_processors_locks_debug.md R389) -/

/-- One address comparator of a core. -/
structure CmpX where
  en : Bool := false
  act : Nat := 0
  kind : Nat := 0
  addr : Nat := 0
  mask : Nat := 0
  deriving DecidableEq, Repr

/-! ### Stored data (08_stored_data_integrity.md, 14_memory_ports.md) -/

/-- State of a 4 KiB port page (R267). -/
inductive PageState where
  | invalid | filling | valid
  deriving DecidableEq, Repr

/-- A port page: state, lines written or filled (64 bits), key slot of the triggering write, and whether that slot has been invalid
since (R269). -/
structure PageX where
  st : PageState := .invalid
  done : Nat := 0
  /-- 0: no range matched; k + 1: key slot k. -/
  key : Nat := 0
  lost : Bool := false
  deriving DecidableEq, Repr


/-! ### On-chip network (13_noc_and_die_links.md) -/

/-- What serves a local address (13_noc_and_die_links.md R398; 01_device_architecture.md R40): a memory port with its port address, the store
blocks of a region, Sett, a processor memory, registers, a region's message port, the system links of a die. -/
inductive Target where
  | dram (m pa : Nat)
  | store (r : Nat)
  | sett (d : Nat)
  | mem (d : Nat)
  | regs (d : Nat)
  | fabric (r : Nat)
  | egress (d : Nat)
  | nothing
  deriving DecidableEq, Repr

/-- A request between its admission and its response (R402): number, target as decoded at admission (R12, R432) and its ID, route as
NOC_DOWN link numbers, tick of admission, and the response once the target has performed it. -/
structure Flight where
  id : Nat
  req : Sys2Proof.MemReq
  dst : Target
  tgt : Nat
  route : List Nat
  back : List Nat
  at_ : Nat
  rsp : Option Rsp
  deriving DecidableEq, Repr

/-- A store block's fabric ports, as its region's frames set them (R247, R251): width code 0 to 3 (8, 16, 32, 64 bits), use and
region clock of each port, SHARE; and the read data on their way to the output buses, oldest first (R248). -/
structure StoreX where
  wA : Nat := 0
  wB : Nat := 0
  usedA : Bool := false
  usedB : Bool := false
  clkA : Nat := 0
  clkB : Nat := 0
  share : Bool := false
  outA : List (Nat × Bool) := []
  outB : List (Nat × Bool) := []
  deriving DecidableEq, Repr


/-! ### Memory ports (14_memory_ports.md) -/

/-- A request accepted by a memory port (R437, R447): number of its flight, request, port address, key in use (0: none, k + 1:
slot k), QoS slot, tick of arrival, urgency from its age; the number of the next request when it
was accepted (R7, R12). -/
structure MpReq where
  id : Nat
  req : Sys2Proof.MemReq
  pa : Nat
  key : Nat
  slot : Nat
  at_ : Nat
  urg : Nat
  born : Nat := 0
  deriving DecidableEq, Repr

/-- A memory port behind its registers. -/
structure MpX where
  /-- Accepted requests that wait for their DRAM command, oldest first. -/
  queue : List MpReq := []
  /-- Accepted writes that wait for a fill slot (R268). -/
  waits : List MpReq := []
  /-- Open rows: row + 1 by bank (subchannel, bank group, bank, rank in one number). -/
  rows : KV Nat := []
  /-- Refresh debt of each bank set, by rank × 4 + set (R441). -/
  debts : KV Nat := []
  /-- Bank sets in catch-up, and those that the catch-up timer has forced (R443). -/
  catchup : List Nat := []
  forced : List Nat := []
  /-- When a bank set was last refreshed, by rank × 4 + set (R443). -/
  refAt : KV Nat := []
  /-- tREFI is 1.95 µs, now and from the next boundary (R445). -/
  fast : Bool := false
  fastNext : Bool := false
  /-- Tracking actions done in service: DQS oscillator reads, ZQ calibrations, sensor reads (R430). -/
  dqsReads : Nat := 0
  zqCals : Nat := 0
  thermReads : Nat := 0
  /-- A retrain runs, not a start-up training (R429). -/
  retrain : Bool := false
  /-- The DIMM is held in self-refresh (R429) or in reset (R427). -/
  selfRef : Bool := false
  deriving DecidableEq, Repr

/-- The rekey sweeps of a port (R457 to R460): range and new key slot of the one that runs; range, new key slot and next line of those that
ended ABORTED and have not been resumed to their end. -/
structure SweepX where
  cur : Option (Nat × Nat) := none
  stopped : List (Nat × Nat × Nat) := []
  deriving DecidableEq, Repr

/-- A key command of a die's IME in progress: operation (1 GEN, 2 LOAD, 3 KILL), die-local port, slot, epoch and wrapped key as they
stood when it was accepted (R452, R453). -/
structure ImeOp where
  op : Nat
  port : Nat
  slot : Nat
  epoch : Nat
  wrap : Nat
  deriving DecidableEq, Repr


/-! ### Die-to-die bundles (13_noc_and_die_links.md) -/

/-- A bundle of one direction, described at its receiver. -/
structure BundleX where
  /-- CK is launched and training runs (R418); of a service bundle: its edge stays untrained until the next POR (R27). -/
  launched : Bool := false
  mismatch : Bool := false
  /-- Swap in progress: old lane, spare; the spare is trained and the switch announced; started by D2D_CMD (R422, R425). -/
  swap : Option (Nat × Nat) := none
  announced : Bool := false
  byCmd : Bool := false
  /-- Swaps that wait for the one in progress: lane (R425). -/
  waiting : List Nat := []
  /-- Recalibration in progress: lane, spare; the lane that comes next (R423). -/
  recal : Option (Nat × Nat) := none
  next : Nat := 0
  /-- CRC errors of the present 1 s window; disagreements of the last window and eyes, 16 bits a lane (R421). -/
  crcWin : Nat := 0
  counts : Nat := 0
  eyes : Nat := 0
  deriving DecidableEq, Repr


/-! ### Fail capture and repair analysis (06_fail_capture_and_repair.md) -/

/-- What stands in a site's stream: a fail entry, a TRIG marker, or the place of a flush (R181, R195, R204). -/
inductive FcuKind where
  | fail | marker | flush
  deriving DecidableEq, Repr

/-- An entry in the intake or the FIFO: its fail word, the PTB tick of R76 and of the start of its PCLK, its tag, and the entries
dropped just ahead of it (R181, R196). -/
structure FcuEnt where
  kind : FcuKind
  site : Nat
  ch : Nat := 0
  word : Nat := 0
  evt : Nat := 0
  c : Nat := 0
  tick : Nat := 0
  pclk : Nat := 0
  tag : Nat := 0
  tagPois : Bool := false
  drops : Nat := 0
  deriving DecidableEq, Repr

/-- A line of 64 bytes to OR into DRAM: line number, site, bits; a flush covers it (R202 to R204). -/
structure FcuLine where
  line : Nat
  site : Nat
  data : Nat
  flush : Bool := false
  deriving DecidableEq, Repr

/-- An FCU behind its registers. -/
structure FcuX where
  intake : List FcuEnt := []
  fifo : List FcuEnt := []
  /-- Combining cache, least recently used first; write-back queue; row-mark buffer. -/
  cache : List FcuLine := []
  wbq : List FcuLine := []
  marks : List FcuLine := []
  /-- Block flags: site and block. -/
  flags : List (Nat × Nat) := []
  rotIn : Nat := 0
  rotOut : Nat := 0
  /-- Row marks placed in the PCLK of a delivery (R203). -/
  markTick : Nat := 0
  markCount : Nat := 0
  /-- TRIG markers on their way into a site's stream: site, EVT, c, tick (R195). -/
  markers : List (Nat × Nat × Nat × Nat) := []
  deriving DecidableEq, Repr

/-- A line of records on its way to memory: address, bytes, number of the record after it, FIRST mode; the fail entries among its
records. -/
structure RecLine where
  addr : Nat
  data : List (BitVec 8)
  next : Nat
  first : Bool
  fails : Nat
  deriving DecidableEq, Repr

/-- A site's partition of an FCU. -/
structure FsX where
  /-- Cadence position 0 of the run, in ticks; a TIME record is due before its first record; c of the last record (R194). -/
  runAt : Nat := 0
  needTime : Bool := true
  lastC : Nat := 0
  /-- AUTOCLR acts at the run's first delivery (R184). -/
  autoPend : Bool := false
  /-- Entries dropped since the last admission (R196). -/
  drops : Nat := 0
  /-- Records formed, in LIST and in FIRST; FIRST records whose write responses have returned. -/
  made : Nat := 0
  firstMade : Nat := 0
  firstDone : Nat := 0
  /-- The partial record line, and the lines whose write response is outstanding. -/
  part : Option RecLine := none
  out : List RecLine := []
  /-- The flush in progress has not reached its place in the stream yet (R204). -/
  flushAhead : Bool := false
  deriving DecidableEq, Repr

/-- A repair analysis engine behind its registers: slots with PENDING jobs in the order of their GO, the running slot and the
input part of its descriptor (R209, R211). -/
structure RaeX where
  queue : List Nat := []
  run : Option Nat := none
  desc : List (BitVec 8) := []
  deriving DecidableEq, Repr


/-! ### Programmable fabric and its configuration (07_programmable_fabric.md, 09_configuration.md) -/

/-- A cell: registers, flags in the layout of R230, their poison bits, the output bus (poison in bit 8), the carry output, and the
context sampled for the next cycle with the poison of R237 (R227, R234, R236). -/
structure CellX where
  qa : Nat := 0
  qaP : Bool := false
  qb : Nat := 0
  qbP : Bool := false
  flags : Nat := 0
  fp : Bool := false
  out : Nat := 0
  co : Bool := false
  coP : Bool := false
  ctx : Nat := 0
  ctxP : Bool := false
  deriving DecidableEq, Repr

/-- A region behind its registers: a region reset runs (R253); the column of the relocation in progress, whether the region was
loaded from Sett before it and its self-test has passed (R256); the Sett slot its frames came from (R298); the spare map still to
be written to the repair record (R257). -/
structure RegionX where
  resetting : Bool := false
  reloc : Option Nat := none
  fromSett : Bool := false
  tested : Bool := false
  slot : Option Nat := none
  recDue : Bool := false
  /-- Its power was restored and a Sett copy is still to be reloaded (R509). -/
  napDue : Bool := false
  /-- Its frames use the NoC port, and the message that the port presents on its buses: payload and poison bits (R400). -/
  noc : Bool := false
  panic : Bool := false
  msg : Option (Nat × Nat) := none
  deriving DecidableEq, Repr

/-- What reaches a CFE while a change of its clock is applied and is held until that runs again (R499): START with what the flash gives,
CONT, a relay offer on a link port. -/
inductive CfeHeld where
  | start (flash : List (BitVec 8))
  | cont
  | offer (port : Nat)
  deriving DecidableEq, Repr

/-- A configuration load on its load die (R281 to R292): source, bytes read and not consumed, the part still to read, header and
records consumed, content key, frames written, regions failed, dies whose frames are written (R291), the release tick (R286),
a boot load of the Owl, the port of a relay source, the moment of the source's last data (R288, R292). -/
structure CfeX where
  src : Nat := 0
  buf : List (BitVec 8) := []
  pois : Bool := false
  at_ : Nat := 0
  left : Nat := 0
  img : List (BitVec 8) := []
  key : BitVec 256 := 0
  seen : List Nat := []
  failed : List Nat := []
  dies : List Nat := []
  release : Option Nat := none
  boot : Bool := false
  port : Option Nat := none
  since : Nat := 0
  held : List CfeHeld := []
  deriving DecidableEq, Repr

/-- The frame check of a die: the next frame to read, the start of the sweep, the frame under repair with its mismatches in this
sweep (R297 to R300). -/
structure ChkX where
  next : Nat := 0
  start : Nat := 0
  repair : Option (Nat × Nat) := none
  deriving DecidableEq, Repr

/-- Where a die's boot load stands (R294, R295). -/
inductive BootStage where
  | none | first | other | flash | ended
  deriving DecidableEq, Repr


/-! ### Sett (10_sett_and_field_update.md) -/

/-- A settings record (R310): type, key, format generation, sequence number, payload. -/
structure SetRec where
  type : Nat
  key : Nat
  fgen : Nat
  seq : Nat
  data : List (BitVec 8)
  deriving DecidableEq, Repr

/-- A write that Sett is asked for (R305, R309, R312, R314): a whole block of a staged image; a record, by the RECWRITE command or by
the Owl; a retention refresh of a block; the identity block of an installed key; a compaction of the settings store. -/
inductive SettReq where
  | block (blk : Nat) (data : List (BitVec 8))
  | record (r : SetRec) (cmd : Bool)
  | refresh (blk : Nat)
  | identity
  | compact
  deriving DecidableEq, Repr

/-- One block write: logical block, offset in it, bytes that replace its bytes from there. -/
structure SettPart where
  blk : Nat
  off : Nat
  data : List (BitVec 8)
  deriving DecidableEq, Repr

/-- What the last block of a settings write makes true in one atomic step: active half, its used bytes, the store's records. -/
structure SettCommit where
  half : Nat
  used : Nat
  recs : List SetRec
  deriving DecidableEq, Repr

/-- The request being written: its block writes still to do, retries of the first, what follows the last. -/
structure SettCur where
  req : SettReq
  parts : List SettPart
  tries : Nat
  commit : Option SettCommit
  deriving DecidableEq, Repr

/-- EPOCH, MINPEER and FGEN that a staged slot recorded (R316). -/
structure SlotInfo where
  epoch : Nat := 0
  minpeer : Nat := 0
  fgen : Nat := 0
  deriving DecidableEq, Repr

/-- Sett of a die: the block map (an unlisted logical block lies on the physical block of its number), the transfer block, the free
spares, write counters by physical block, requests and the one being written, the settings store, powered hours and the hour of
each logical block's last write, blocks due for refresh, what the slots recorded (by kind × 2 + slot); the lines that hold bit errors,
with their number (R304); the moment of the last refresh, or since when one waits (R309); relay offers without an answer yet (R318). -/
structure SettX where
  map : KV Nat := []
  transfer : Nat := 2048
  spares : List Nat := List.range' 2049 95
  writes : KV Nat := []
  queue : List SettReq := []
  cur : Option SettCur := none
  half : Nat := 0
  used : Nat := 0
  recs : List SetRec := []
  hours : Nat := 0
  wrote : KV Nat := []
  due : List Nat := []
  slots : KV SlotInfo := []
  lineErr : KV Nat := []
  refAt : Nat := 0
  offers : Nat := 0
  deriving DecidableEq, Repr

/-- The command that the STC of LD0 runs (R316, R326): operation, kind, target slot, dies written, image, relay list, by relay; a
write of it failed on a die. -/
structure StcCmd where
  op : Nat
  kind : Nat
  slot : Nat
  dies : List Nat
  img : List (BitVec 8)
  list : List (BitVec 8)
  relayed : Bool
  deriving DecidableEq, Repr

/-! ### Processors (12_processors_locks_debug.md) -/

/-- A line of an SP's cache: data, a syndrome byte for each of its eight words (0xFF: poison), dirty (R263, R368). -/
structure CLine where
  data : Nat
  syn : Nat
  dirty : Bool
  deriving DecidableEq, Repr

/-- A RISC-V core: an SP (64 bits) or an Owl (32 bits). Registers x1 to x31 and f0 to f31, CSRs by number, privilege mode, the
LR reservation's granule; WFI; halted by Den, a halt asked for, one step to go, comparators passed over once; the virtual terminal's words with DTX_OVF and
DRXOVF; the caches by line number; the code to run from reset has been placed (R374, R376). -/
structure HartX where
  pc : Nat := 0
  regs : KV Nat := []
  fregs : KV Nat := []
  csrs : KV Nat := []
  priv : Nat := 3
  resv : Option Nat := none
  wfi : Bool := false
  halted : Bool := false
  haltReq : Bool := false
  stepping : Bool := false
  passCmp : Bool := false
  dtx : Option Nat := none
  drx : Option Nat := none
  dtxOvf : Bool := false
  drxOvf : Bool := false
  dcache : KV CLine := []
  icache : KV CLine := []
  booted : Bool := false
  /-- The Owl's non-maskable interrupt is asserted (R507). -/
  nmi : Bool := false
  /-- It was released with firmware of a TRIAL slot (R325). -/
  trial : Bool := false
  /-- When Den halted it: an Owl's watchdog pauses until it goes on (R378). -/
  stopAt : Nat := 0
  deriving DecidableEq, Repr

/-! ### Signal analysis cores (11_signal_analysis_cores.md) -/

/-- A pointer (R332, R333, R337): address, step (16 bits, two's complement), modulo base and length, CFG. -/
structure SacPtr where
  p : Nat := 0
  ps : Nat := 0
  pb : Nat := 0
  pl : Nat := 0
  cfg : Nat := 0
  deriving DecidableEq, Repr

/-- A register write on its way (R345): physical register, value, halves written (1 real, 2 imaginary, 3 both), instructions still to
be executed before it takes effect. -/
structure SacPend where
  reg : Nat
  val : Nat
  part : Nat
  left : Nat
  deriving DecidableEq, Repr

/-- What interrupt and exception entry save (R356). -/
structure SacShadow where
  lc : Nat := 0
  first : Nat := 0
  past : Nat := 0
  lact : Bool := false
  rrb : Nat := 0
  deriving DecidableEq, Repr

/-- A transfer in progress (R360): the descriptor's four words; of an outbound one, the source words and their poison as they
were at XGO. -/
structure SacXfer where
  words : List Nat
  snap : List (Nat × Bool)
  deriving DecidableEq, Repr

/-- A SAC behind its registers. Registers z0 to z31 and, from 32, the physical rotating registers; accumulator halves (2 × acc, + 1
imaginary) now and as they were before the last instruction; pointers; writes on their way; the special registers of R335 but EVT;
the largest half of R344; control flow: delay slots still to execute with what follows them, repetitions still to execute, the loop
body `[first, past)`, a boundary that is an interrupt point though a loop is active (R356, R359), an instruction to skip after the
iteration end (R349), return stack, shadow; halt asked for, one unit to execute, comparators passed over once; transfers; terminal. -/
structure SacX where
  regs : KV Nat := []
  acc : KV Int := []
  accOld : KV Int := []
  ptrs : KV SacPtr := []
  pend : List SacPend := []
  pc : Nat := 0
  shift : Int := 0
  auto : Bool := false
  hr : Nat := 0
  esum : Int := 0
  big : Nat := 0
  rrb : Nat := 0
  lc : Nat := 0
  flags : Nat := 0
  sticky : Nat := 0
  exc : Bool := false
  lact : Bool := false
  epc : Nat := 0
  ecause : Nat := 0
  ien : Nat := 0
  gie : Bool := false
  ipend : Nat := 0
  xst : KV Nat := []
  slots : Option (Nat × Nat) := none
  rpt : Option Nat := none
  first : Nat := 0
  past : Nat := 0
  point : Bool := false
  skip : Bool := false
  stack : List Nat := []
  shadow : SacShadow := {}
  haltReq : Bool := false
  stepping : Bool := false
  passCmp : Bool := false
  xfers : KV (Option SacXfer) := []
  dtx : Option Nat := none
  drx : Option Nat := none
  dtxOvf : Bool := false
  drxOvf : Bool := false
  deriving DecidableEq, Repr


/-! ### Service pins and serial ports (18_service_pins.md) -/

/-- Service pins of a die behind their registers: synchronized levels, matcher conditions as last evaluated (one bit each), TRIG pulses
(pin to the tick after the pulse's last), steps of the lock sequence taken, the UARTs' FIFOs (by port), oldest byte
first, when a pin's synchronized level last changed. -/
structure SvpX where
  raw : Nat := 0
  conds : Nat := 0
  pulses : KV Nat := []
  lockStep : Nat := 0
  tx : KV (List (BitVec 8)) := []
  rx : KV (List (BitVec 8)) := []
  since : KV Nat := []
  deriving DecidableEq, Repr

/-! ### Den (12_processors_locks_debug.md R384 to R392) -/

/-- The TAP: instruction, data register last captured, boundary-scan cells as sampled and as updated, the DBGACC operation whose
capture comes next: status (0 OK, 1 BUSY, 2 ERROR) and read data; it has answered since power-on (R51). -/
structure TapX where
  up : Bool := false
  ir : Nat := 2
  tdo : Nat := 0
  sampled : List Bool := []
  cells : List Bool := []
  status : Nat := 0
  data : Nat := 0
  deriving DecidableEq, Repr


/-! ### System links and host interface (15_system_links_and_host.md) -/

/-- A link port behind its registers: SESSION drawn, the partner's; next SEQ to send and to accept; frames sent and unacknowledged, in a
replay still to be sent again, queued; frames that wait for a route change (R487, R488); credits in use and credits owed, by virtual
channel; replays since ACK advanced; the hold time runs; a NAK and an LMGT request to send; keys and transmit counters of the slots;
the last frame sent, with the credits it returned (virtual channel and number); lanes recalibrated, and when (now + 1). -/
structure GslX where
  session : Nat := 0
  peer : Option Nat := none
  tx : Nat := 0
  rx : Nat := 0
  unacked : List GFrame := []
  replay : List GFrame := []
  queue : List GFrame := []
  parked : List GFrame := []
  used : KV Nat := []
  owed : KV Nat := []
  replays : Nat := 0
  holding : Bool := false
  nak : Bool := false
  lmgt : Bool := false
  keys : KV (Option (BitVec 256)) := []
  txc : KV Nat := []
  wire : Option (GFrame × Nat × Nat) := none
  recal : KV Nat := []
  /-- ASYM_PHY of the last training (R169). -/
  asym : Nat := 0
  /-- When the port last went down or came back (tick + 1, 0 never), from which GSL_HOLD and GSL_LIFE count (R487, R488). -/
  since : Nat := 0
  /-- SESSION has been drawn since the port was last UP (R465, R486). -/
  drawn : Bool := false
  /-- IV of the last encrypted frame (R484). -/
  iv : Nat := 0
  deriving DecidableEq, Repr

/-- How a destination's frames travel (R487, R488): on the primary; waiting to go over to the alternate; on it; waiting to return. -/
inductive RouteMode where
  | primary | leaving | alternate | returning
  deriving DecidableEq, Repr

/-- A descriptor that a DMA channel has started (R495), with the site its channel belonged to then (R12), and the number of the next
request at that moment (R7). -/
structure DmaDesc where
  host : Nat
  dev : Nat
  len : Nat
  toHost : Bool
  irq : Bool
  bad : Bool
  site : Option (Fin 16) := none
  born : Nat := 0
  deriving DecidableEq, Repr

/-- A DMA channel: descriptors started and not completed, oldest first; the data it last wrote to host memory: bus address, bytes, their
poison; the last STATUS byte written: bus address and value. -/
structure DmaX where
  active : List DmaDesc := []
  out : Option (Nat × List (BitVec 8) × List Bool) := none
  stat : Option (Nat × Nat) := none
  deriving DecidableEq, Repr

/-- The completion that the endpoint last sent: data with its poison, success without data, Unsupported Request, Configuration Request
Retry Status. -/
inductive PcieCpl where
  | data (bytes : List (BitVec 8)) (poison : Bool)
  | ok
  | unsupported
  | retry
  deriving DecidableEq, Repr

/-- The host endpoint: configuration words written, by function × 1024 + dword (PF 0, VF n is n + 1); functions in D3hot; BAR2 size, 2^n GiB;
VF Enable; MSI-X tables, by
function × 16384 + word; window bases of the VFs (bits 39:32); the last completion. -/
structure HostX where
  cfg : KV Nat := []
  d3 : List Nat := []
  bar2 : Nat := 0
  vfOn : Bool := false
  msixTab : KV Nat := []
  vfBase : KV Nat := []
  last : Option PcieCpl := none
  deriving DecidableEq, Repr


/-! ### The machine -/

/-- The state of the chip. Sparse maps list only what differs from the default of their structure. -/
structure State where
  /-- Active register fields, keyed by Fld.key; an unlisted field reads its reset value (R8 and the register tables). -/
  act : KV Nat := []
  /-- Staged values of RWS fields that differ from the active ones (R8). -/
  stg : KV Nat := []
  /-- Every memory: store blocks, Sett and processor memories by local address; above 2^40 the memories that no local address reaches and DRAM by port and port address (dramAddr). An unlisted byte reads 0. -/
  mem : List Host.Cell := []
  /-- Valid bits of the on-chip memories, by 8-byte word number (R264). -/
  wordOk : KV Bool := []
  /-- Stored check byte of an on-chip word, XOR the computed one: the syndrome a read finds (R259); 0xFF is stored poison. -/
  wordChk : KV Nat := []
  /-- Stored check bits of a DRAM line, XOR the computed ones, by line number (R260, R273). -/
  lineChk : KV Nat := []
  /-- DRAM lines stored as poison (R260, R271). -/
  linePsn : KV Bool := []
  /-- Port pages, by port × 2^23 + page (R266, R267). -/
  pages : KV PageX := []
  /-- POR is asserted (R512). -/
  por : Bool := true
  /-- The 250 ps ticks that the model has run on an empty queue. -/
  now : Nat := 0
  /-- How many open values have been drawn (Config.freeValue): the model's own field. -/
  fresh : Nat := 0
  /-- MSI-X messages sent, by vector number (R496). -/
  msix : KV Nat := []
  /-- Tester channels behind their registers, by package channel. -/
  pins : KV PinX := []
  /-- Channel banks behind their registers, by package bank. -/
  banks : KV BankX := []
  /-- Fail words on their way to the FCU, oldest first. -/
  fails : List FailWord := []
  /-- PMUs behind their registers, by package bank. -/
  pmus : KV PmuX := []
  /-- Guest port of each die. -/
  guests : KV GuestPhase := []
  /-- Guest analog dies, by the die of their guest port. -/
  arps : KV ArpX := []
  /-- Sequencers behind their registers, by package PSQ. -/
  psqs : KV PsqX := []
  /-- STOPs on their way to members of this device. -/
  stops : List StopMsg := []
  /-- STOP frames waiting on GSL ports: port, group, stop tick. -/
  stopOut : List (Nat × Nat × Nat) := []
  /-- TRIG events on their way. -/
  trigs : List TrigMsg := []
  /-- The pattern time base of each die: ticks (R159). -/
  ptb : KV Nat := []
  /-- Dies whose PTB counts (R162). -/
  ptbRun : KV Bool := []
  /-- The follower's servo (R168 to R174). -/
  sync : SyncX := {}
  /-- Exchange responses on their way out of the link ports, oldest first. -/
  ptbOut : List PtbAnswer := []
  /-- Fault sources behind FH_PEND, by die × 128 + source. -/
  fhs : KV FhSrc := []
  /-- Hold of a severity-6 reaction and the SAFE nets. -/
  safe : SafeX := {}
  /-- Staged values that a passed commit carries until it is applied (R10, R88). -/
  held : KV Nat := []
  /-- Clock domains that stand still, by die × 40 + domain (R500, R504, R507, R508). -/
  domStops : KV Bool := []
  /-- Den address comparators, by core × 8 + index; cores: SP 0–15, Owl 16–19, SAC 32–95, PSQ 96–111 (R389). -/
  cmps : KV CmpX := []
  /-- Requests in flight on the NoC, in admission order, the number of the next one, and the response delivered last. -/
  flights : List Flight := []
  nocNext : Nat := 0
  nocLast : Option (Nat × Rsp) := none
  /-- Store blocks' fabric ports, by region × 32 + block. -/
  storePorts : KV StoreX := []
  /-- Memory ports behind their registers. -/
  ports : KV MpX := []
  /-- Rekey sweeps, by port. -/
  sweeps : KV SweepX := []
  /-- Key commands of the dies' IMEs in progress. -/
  imeOps : KV (Option ImeOp) := []
  /-- Initiator IDs whose group asserts panic (R439). -/
  panics : List Nat := []
  /-- Key slots' keys of the IME, by port × 16 + slot (R448). -/
  imeKeys : KV (BitVec 256) := []
  /-- D2D bundles behind their registers, by die × 64 + edge × 32 + bundle. -/
  bundles : KV BundleX := []
  /-- Joints with a lane retired that the D2D lane record does not hold yet (R422). -/
  laneRecDue : List Nat := []
  /-- Samples of a crossing bundle on their way, oldest first, 80 buses of nine bits each; by (die × 2 + edge) × 4 + b of the receiver (R242). -/
  crossPipes : KV (List Nat) := []
  /-- Pipeline registers of global lines where a line enters a region: ((region × 2 + vertical) × 2 + back) × 256 + line (R241). -/
  lineRegs : KV Nat := []
  /-- Crossing buses at their receivers, nine bits with poison on top: ((die × 2 + edge) × 320 + 80 × b + bus) (R242, R415). -/
  crossBuses : KV Nat := []
  /-- Pattern-bus relay bits of a crossing bundle at its receiver, with poison in bit 27: (die × 2 + edge) × 4 + b (R155, R415). -/
  relayBits : KV Nat := []
  /-- Dies whose decision for the next PTB boundary was received with a check error (R416). -/
  ptbAbsent : List Nat := []
  /-- Fail capture units behind their registers, by die. -/
  fcus : KV FcuX := []
  /-- Their sites' partitions, by die × 16 + site. -/
  fcuSites : KV FsX := []
  /-- Address tags sampled, with poison in bit 48, by (die × 16 + site) × 2^64 + the tick at which PCLK c begins (R182). -/
  fcuTags : KV Nat := []
  /-- Repair analysis engines behind their registers. -/
  raes : KV RaeX := []
  /-- Fabric cells, by ((region × 32 + column) × 16 + row) × 16 + cell. -/
  cells : KV CellX := []
  /-- Fabric regions behind their registers. -/
  regionXs : KV RegionX := []
  /-- Bits of configuration frames that an upset has changed since they were written, XOR, by frame number (R299). -/
  upsets : KV Nat := []
  /-- Configuration loads, frame checks and boot loads, by die. -/
  cfes : KV CfeX := []
  chks : KV ChkX := []
  boots : KV BootStage := []
  /-- Keys installed in the identity area: 0 customer image KEK, 1 to 3 signature keys (R279, R314). -/
  keys : KV (List (BitVec 8)) := []
  /-- RELAY frames sent, newest last: link port, kind (0 answer of Sett, 1 answer of a CFE, 2 offer of Sett to a device), answer or device (R319, R482). -/
  relayAnswers : List (Nat × Nat × Nat) := []
  /-- Relay bytes received on a link port for Sett and not yet offered (R482). -/
  relayBufs : KV (List (BitVec 8)) := []
  /-- Relay offers still to send: the image and list of the last STAGE by relay, device numbers of the children (R318). -/
  relayOut : List Nat := []
  /-- Sett of each die. -/
  setts : KV SettX := []
  /-- The command that the STC runs. -/
  stc : Option StcCmd := none
  /-- Confirm windows: kind, plus the tick of now at which it opened, plus one (R323). -/
  confirmAt : KV Nat := []
  /-- Site processors and Owls. -/
  sps : KV HartX := []
  owls : KV HartX := []
  /-- Signal analysis cores, by package number. -/
  sacs : KV SacX := []
  /-- Service pins and serial ports, by die. -/
  svps : KV SvpX := []
  /-- The TAP on LD0. -/
  tap : TapX := {}
  /-- Owls that run at 200 MHz (R376), by die; the tick of now, plus one, at which an Owl's watchdog was last written (R378). -/
  boosts : KV Bool := []
  wdogs : KV Nat := []
  /-- Link ports behind their registers, by package port; how each destination's frames travel; of each group, the earliest STOP_AT handled, plus one (R480). -/
  gsls : KV GslX := []
  routes : KV RouteMode := []
  stopSeen : KV Nat := []
  /-- DMA channels and the host endpoint. -/
  dmas : KV DmaX := []
  host : HostX := {}
  /-- Hibernate: 0 no, 1 entry in progress, 2 entered (R510). -/
  hib : Nat := 0
  /-- Dies whose crossings to the network accept no new entry since a reset (R514). -/
  cdcShut : KV Bool := []
  /-- First flight number admitted under each version of a block's tables, newest version first, by the block's address (R7, R12). -/
  drains : KV (List Nat) := []
  /-- The access of a die's Den bus master under way: its request, or none for an address of no form (R391). -/
  bmReqs : KV (Option (Option Sys2Proof.MemReq)) := []
  /-- Commands that wait, oldest first. -/
  pending : List Sys2Proof.Instr := []
  deriving DecidableEq, Repr

/-- Power-on: POR asserted, every register at its reset value, every memory invalid, no command waiting
(notes/assumptions/1.md). -/
def State.reset : State := {}

end Sys2Proof.Machine
end

