-- ==== Sys2Proof/Machine/Access.lean ====
section
/-! DEFINITION. Reading and writing one entry of each sparse map of State: one home per piece of state. -/
namespace Sys2Proof.Machine

def State.pin (s : State) (i : Nat) : PinX := KV.get {} i s.pins
def State.setPin (s : State) (i : Nat) (x : PinX) : State := { s with pins := KV.set {} i x s.pins }
def State.bank (s : State) (i : Nat) : BankX := KV.get {} i s.banks
def State.setBank (s : State) (i : Nat) (x : BankX) : State := { s with banks := KV.set {} i x s.banks }
def State.pmu (s : State) (i : Nat) : PmuX := KV.get {} i s.pmus
def State.setPmu (s : State) (i : Nat) (x : PmuX) : State := { s with pmus := KV.set {} i x s.pmus }
def State.psq (s : State) (i : Nat) : PsqX := KV.get {} i s.psqs
def State.setPsq (s : State) (i : Nat) (x : PsqX) : State := { s with psqs := KV.set {} i x s.psqs }
def State.fh (s : State) (i : Nat) : FhSrc := KV.get {} i s.fhs
def State.setFh (s : State) (i : Nat) (x : FhSrc) : State := { s with fhs := KV.set {} i x s.fhs }
def State.guest (s : State) (i : Nat) : GuestPhase := KV.get .idle i s.guests
def State.setGuest (s : State) (i : Nat) (x : GuestPhase) : State := { s with guests := KV.set .idle i x s.guests }
def State.arp (s : State) (i : Nat) : ArpX := KV.get {} i s.arps
def State.setArp (s : State) (i : Nat) (x : ArpX) : State := { s with arps := KV.set {} i x s.arps }
def State.tick (s : State) (i : Nat) : Nat := KV.get 0 i s.ptb
def State.setTick (s : State) (i : Nat) (x : Nat) : State := { s with ptb := KV.set 0 i x s.ptb }
def State.counting (s : State) (i : Nat) : Bool := KV.get false i s.ptbRun
def State.setCounting (s : State) (i : Nat) (x : Bool) : State := { s with ptbRun := KV.set false i x s.ptbRun }
def State.domFlag (s : State) (i : Nat) : Bool := KV.get false i s.domStops
def State.setDomFlag (s : State) (i : Nat) (x : Bool) : State := { s with domStops := KV.set false i x s.domStops }
def State.valid (s : State) (i : Nat) : Bool := KV.get false i s.wordOk
def State.setValid (s : State) (i : Nat) (x : Bool) : State := { s with wordOk := KV.set false i x s.wordOk }
def State.syndrome (s : State) (i : Nat) : Nat := KV.get 0 i s.wordChk
def State.setSyndrome (s : State) (i : Nat) (x : Nat) : State := { s with wordChk := KV.set 0 i x s.wordChk }
def State.lineSyn (s : State) (i : Nat) : Nat := KV.get 0 i s.lineChk
def State.setLineSyn (s : State) (i : Nat) (x : Nat) : State := { s with lineChk := KV.set 0 i x s.lineChk }
def State.linePoison (s : State) (i : Nat) : Bool := KV.get false i s.linePsn
def State.setLinePoison (s : State) (i : Nat) (x : Bool) : State := { s with linePsn := KV.set false i x s.linePsn }
def State.page (s : State) (i : Nat) : PageX := KV.get {} i s.pages
def State.setPage (s : State) (i : Nat) (x : PageX) : State := { s with pages := KV.set {} i x s.pages }
def State.cmp (s : State) (i : Nat) : CmpX := KV.get {} i s.cmps
def State.setCmp (s : State) (i : Nat) (x : CmpX) : State := { s with cmps := KV.set {} i x s.cmps }
def State.storePort (s : State) (i : Nat) : StoreX := KV.get {} i s.storePorts
def State.setStorePort (s : State) (i : Nat) (x : StoreX) : State := { s with storePorts := KV.set {} i x s.storePorts }
def State.port (s : State) (i : Nat) : MpX := KV.get {} i s.ports
def State.setPort (s : State) (i : Nat) (x : MpX) : State := { s with ports := KV.set {} i x s.ports }
def State.sweep (s : State) (i : Nat) : SweepX := KV.get {} i s.sweeps
def State.setSweep (s : State) (i : Nat) (x : SweepX) : State := { s with sweeps := KV.set {} i x s.sweeps }
def State.imeKey (s : State) (i : Nat) : (BitVec 256) := KV.get 0 i s.imeKeys
def State.setImeKey (s : State) (i : Nat) (x : (BitVec 256)) : State := { s with imeKeys := KV.set 0 i x s.imeKeys }
def State.imeOp (s : State) (i : Nat) : (Option ImeOp) := KV.get none i s.imeOps
def State.setImeOp (s : State) (i : Nat) (x : (Option ImeOp)) : State := { s with imeOps := KV.set none i x s.imeOps }
def State.bundle (s : State) (i : Nat) : BundleX := KV.get {} i s.bundles
def State.setBundle (s : State) (i : Nat) (x : BundleX) : State := { s with bundles := KV.set {} i x s.bundles }
def State.crossBus (s : State) (i : Nat) : Nat := KV.get 0 i s.crossBuses
def State.setCrossBus (s : State) (i : Nat) (x : Nat) : State := { s with crossBuses := KV.set 0 i x s.crossBuses }
def State.crossPipe (s : State) (i : Nat) : List Nat := KV.get [] i s.crossPipes
def State.setCrossPipe (s : State) (i : Nat) (x : List Nat) : State := { s with crossPipes := KV.set [] i x s.crossPipes }
def State.lineReg (s : State) (i : Nat) : Nat := KV.get 0 i s.lineRegs
def State.setLineReg (s : State) (i : Nat) (x : Nat) : State := { s with lineRegs := KV.set 0 i x s.lineRegs }
def State.relayBit (s : State) (i : Nat) : Nat := KV.get 0 i s.relayBits
def State.setRelayBit (s : State) (i : Nat) (x : Nat) : State := { s with relayBits := KV.set 0 i x s.relayBits }
def State.fcu (s : State) (i : Nat) : FcuX := KV.get {} i s.fcus
def State.setFcu (s : State) (i : Nat) (x : FcuX) : State := { s with fcus := KV.set {} i x s.fcus }
def State.fsx (s : State) (i : Nat) : FsX := KV.get {} i s.fcuSites
def State.setFsx (s : State) (i : Nat) (x : FsX) : State := { s with fcuSites := KV.set {} i x s.fcuSites }
def State.fcuTag (s : State) (i : Nat) : Nat := KV.get 0 i s.fcuTags
def State.setFcuTag (s : State) (i : Nat) (x : Nat) : State := { s with fcuTags := KV.set 0 i x s.fcuTags }
def State.rae (s : State) (i : Nat) : RaeX := KV.get {} i s.raes
def State.setRae (s : State) (i : Nat) (x : RaeX) : State := { s with raes := KV.set {} i x s.raes }
def State.cell (s : State) (i : Nat) : CellX := KV.get {} i s.cells
def State.setCell (s : State) (i : Nat) (x : CellX) : State := { s with cells := KV.set {} i x s.cells }
def State.region (s : State) (i : Nat) : RegionX := KV.get {} i s.regionXs
def State.setRegion (s : State) (i : Nat) (x : RegionX) : State := { s with regionXs := KV.set {} i x s.regionXs }
def State.upset (s : State) (i : Nat) : Nat := KV.get 0 i s.upsets
def State.setUpset (s : State) (i : Nat) (x : Nat) : State := { s with upsets := KV.set 0 i x s.upsets }
def State.cfe (s : State) (i : Nat) : CfeX := KV.get {} i s.cfes
def State.setCfe (s : State) (i : Nat) (x : CfeX) : State := { s with cfes := KV.set {} i x s.cfes }
def State.chk (s : State) (i : Nat) : ChkX := KV.get {} i s.chks
def State.setChk (s : State) (i : Nat) (x : ChkX) : State := { s with chks := KV.set {} i x s.chks }
def State.boot (s : State) (i : Nat) : BootStage := KV.get .none i s.boots
def State.setBoot (s : State) (i : Nat) (x : BootStage) : State := { s with boots := KV.set .none i x s.boots }
def State.keyOf (s : State) (i : Nat) : ((List (BitVec 8))) := KV.get [] i s.keys
def State.setKeyOf (s : State) (i : Nat) (x : ((List (BitVec 8)))) : State := { s with keys := KV.set [] i x s.keys }
def State.relayBuf (s : State) (i : Nat) : (List (BitVec 8)) := KV.get [] i s.relayBufs
def State.setRelayBuf (s : State) (i : Nat) (x : (List (BitVec 8))) : State := { s with relayBufs := KV.set [] i x s.relayBufs }
def State.sett (s : State) (i : Nat) : SettX := KV.get {} i s.setts
def State.setSett (s : State) (i : Nat) (x : SettX) : State := { s with setts := KV.set {} i x s.setts }
def State.opened (s : State) (i : Nat) : Nat := KV.get 0 i s.confirmAt
def State.setOpened (s : State) (i : Nat) (x : Nat) : State := { s with confirmAt := KV.set 0 i x s.confirmAt }
def State.sp (s : State) (i : Nat) : HartX := KV.get {} i s.sps
def State.setSp (s : State) (i : Nat) (x : HartX) : State := { s with sps := KV.set {} i x s.sps }
def State.owl (s : State) (i : Nat) : HartX := KV.get {} i s.owls
def State.setOwl (s : State) (i : Nat) (x : HartX) : State := { s with owls := KV.set {} i x s.owls }
def State.sac (s : State) (i : Nat) : SacX := KV.get {} i s.sacs
def State.setSac (s : State) (i : Nat) (x : SacX) : State := { s with sacs := KV.set {} i x s.sacs }
def State.svp (s : State) (i : Nat) : SvpX := KV.get {} i s.svps
def State.setSvp (s : State) (i : Nat) (x : SvpX) : State := { s with svps := KV.set {} i x s.svps }
def State.boost (s : State) (i : Nat) : Bool := KV.get false i s.boosts
def State.setBoost (s : State) (i : Nat) (x : Bool) : State := { s with boosts := KV.set false i x s.boosts }
def State.wdog (s : State) (i : Nat) : Nat := KV.get 0 i s.wdogs
def State.setWdog (s : State) (i : Nat) (x : Nat) : State := { s with wdogs := KV.set 0 i x s.wdogs }
def State.gsl (s : State) (i : Nat) : GslX := KV.get {} i s.gsls
def State.setGsl (s : State) (i : Nat) (x : GslX) : State := { s with gsls := KV.set {} i x s.gsls }
def State.route (s : State) (i : Nat) : RouteMode := KV.get .primary i s.routes
def State.setRoute (s : State) (i : Nat) (x : RouteMode) : State := { s with routes := KV.set .primary i x s.routes }
def State.dma (s : State) (i : Nat) : DmaX := KV.get {} i s.dmas
def State.setDma (s : State) (i : Nat) (x : DmaX) : State := { s with dmas := KV.set {} i x s.dmas }
def State.shut (s : State) (i : Nat) : Bool := KV.get false i s.cdcShut
def State.setShut (s : State) (i : Nat) (x : Bool) : State := { s with cdcShut := KV.set false i x s.cdcShut }
def State.drain (s : State) (i : Nat) : (List Nat) := KV.get [] i s.drains
def State.setDrain (s : State) (i : Nat) (x : (List Nat)) : State := { s with drains := KV.set [] i x s.drains }
def State.bmReq (s : State) (i : Nat) : (Option (Option Sys2Proof.MemReq)) := KV.get none i s.bmReqs
def State.setBmReq (s : State) (i : Nat) (x : (Option (Option Sys2Proof.MemReq))) : State := { s with bmReqs := KV.set none i x s.bmReqs }

end Sys2Proof.Machine
end

