-- ==== Sys2Proof/Machine/RegFields.lean ====
section
/-! DEFINITION. The register fields of the manual, by block: offset in the block, lowest bit, width, access and reset
value, from the register tables of the spec (each block's chapter; common registers R4 to R7; ECC groups R261, R262, R265). -/
namespace Sys2Proof.Machine

/-! ## Registers common to all blocks (00_scope.md R4 to R7) -/
def BLK_ID.TYPE : Fld := ⟨0x0, 16, 16, 0x0⟩
def BLK_ID.MAJOR : Fld := ⟨0x0, 8, 8, 0x1⟩
def BLK_ID.MINOR : Fld := ⟨0x0, 0, 8, 0x0⟩
def BLK_STAT.RSVW : Fld := ⟨0x4, 31, 1, 0x0⟩
def BLK_STAT.COMMIT_ERR : Fld := ⟨0x4, 30, 1, 0x0⟩
def BLK_STAT.PEND : Fld := ⟨0x4, 29, 1, 0x0⟩
def BLK_STAT.LOCKW : Fld := ⟨0x4, 28, 1, 0x0⟩
def BLK_COMMIT.BUSY : Fld := ⟨0x8, 31, 1, 0x0⟩
def BLK_COMMIT.DISCARD : Fld := ⟨0x8, 1, 1, 0x0⟩
def BLK_COMMIT.GO : Fld := ⟨0x8, 0, 1, 0x0⟩
def BLK_DRAIN.OLDEST : Fld := ⟨0xc, 16, 16, 0x0⟩
def BLK_DRAIN.VER : Fld := ⟨0xc, 0, 16, 0x0⟩
def rowsCommon : List RegRow :=
  [⟨0x0, 0x0, 1, 0x0, 1, [⟨BLK_ID.TYPE, .ro, [], none⟩, ⟨BLK_ID.MAJOR, .ro, [], none⟩, ⟨BLK_ID.MINOR, .ro, [], none⟩]⟩,
   ⟨0x4, 0x0, 1, 0x0, 1, [⟨BLK_STAT.RSVW, .w1c, [], none⟩, ⟨BLK_STAT.COMMIT_ERR, .w1c, [], none⟩, ⟨BLK_STAT.PEND, .ro, [], none⟩, ⟨BLK_STAT.LOCKW, .w1c, [], none⟩]⟩,
   ⟨0x8, 0x0, 1, 0x0, 1, [⟨BLK_COMMIT.BUSY, .ro, [], none⟩, ⟨BLK_COMMIT.DISCARD, .wo, [], none⟩, ⟨BLK_COMMIT.GO, .wo, [], none⟩]⟩,
   ⟨0xc, 0x0, 1, 0x0, 1, [⟨BLK_DRAIN.OLDEST, .ro, [], none⟩, ⟨BLK_DRAIN.VER, .ro, [], none⟩]⟩]

/-! ## ECC group registers (08_stored_data_integrity.md R261 to R265), offsets from the group's base -/
def EG_CTL.INV : Fld := ⟨0x0, 8, 1, 0x0⟩
def EG_CTL.RAW : Fld := ⟨0x0, 1, 1, 0x0⟩
def EG_CTL.DIAG : Fld := ⟨0x0, 0, 1, 0x0⟩
def EG_WIN.PAGE : Fld := ⟨0x4, 0, 23, 0x0⟩
def EG_STAT.VALID : Fld := ⟨0x8, 31, 1, 0x0⟩
def EG_STAT.KIND : Fld := ⟨0x8, 28, 2, 0x0⟩
def EG_STAT.SYN : Fld := ⟨0x8, 16, 8, 0x0⟩
def EG_STAT.INVBUSY : Fld := ⟨0x8, 0, 1, 0x0⟩
def EG_ADDR_LO.V : Fld := ⟨0xc, 0, 32, 0x0⟩
def EG_ADDR_HI.V : Fld := ⟨0x10, 0, 8, 0x0⟩
def EG_CNT_CE.V : Fld := ⟨0x14, 0, 32, 0x0⟩
def EG_CNT_UE.V : Fld := ⟨0x18, 0, 32, 0x0⟩
def EG_CNT_PSN.V : Fld := ⟨0x1c, 0, 32, 0x0⟩
def EG_CNT_CLR.CLR : Fld := ⟨0x20, 0, 3, 0x0⟩
def EG_FLIP.V : Fld := ⟨0x30, 0, 32, 0x0⟩
def EG_FLIP0.V : Fld := ⟨0x30, 0, 8, 0x0⟩
def EG_RAW.V : Fld := ⟨0x40, 0, 32, 0x0⟩
def EG_IBASE.V : Fld := ⟨0x50, 0, 23, 0x0⟩
def EG_ICNT.V : Fld := ⟨0x54, 0, 24, 0x0⟩

/-! ## Block DCTL (01_device_architecture.md) -/
def DCTL_IDENT.TYPE : Fld := ⟨0x10, 0, 32, 0x6a1c2304⟩
def DCTL_STEP.MASKSET : Fld := ⟨0x14, 8, 8, 0x1⟩
def DCTL_STEP.METAL : Fld := ⟨0x14, 0, 8, 0x0⟩
def DCTL_SERIAL_LO.V : Fld := ⟨0x18, 0, 32, 0x0⟩
def DCTL_SERIAL_HI.V : Fld := ⟨0x1c, 0, 32, 0x0⟩
def DCTL_ROT.LEAD : Fld := ⟨0x20, 8, 1, 0x0⟩
def DCTL_ROT.PAIR_ERR : Fld := ⟨0x20, 3, 1, 0x0⟩
def DCTL_ROT.ROT : Fld := ⟨0x20, 0, 2, 0x0⟩
def DCTL_DEVNUM.LOCKED : Fld := ⟨0x24, 31, 1, 0x0⟩
def DCTL_DEVNUM.DEVNUM : Fld := ⟨0x24, 0, 14, 0x0⟩
def DCTL_GUEST.WIDTH : Fld := ⟨0x28, 16, 8, 0x0⟩
def DCTL_GUEST.GVER : Fld := ⟨0x28, 8, 8, 0x0⟩
def DCTL_GUEST.PARKED : Fld := ⟨0x28, 1, 1, 0x0⟩
def DCTL_GUEST.PRESENT : Fld := ⟨0x28, 0, 1, 0x0⟩
def DCTL_READY.BITS : Fld := ⟨0x30, 0, 31, 0x0⟩
def DCTL_READY_EXP.BITS : Fld := ⟨0x34, 0, 31, 0x0⟩
def DCTL_READY_FAIL.BITS : Fld := ⟨0x38, 0, 31, 0x0⟩
def DCTL_PKG_READY.ALL : Fld := ⟨0x3c, 4, 1, 0x0⟩
def DCTL_PKG_READY.DONE : Fld := ⟨0x3c, 0, 4, 0x0⟩
def DCTL_READY_D.BITS : Fld := ⟨0x40, 0, 31, 0x0⟩
def DCTL_DRST.BUSY : Fld := ⟨0x50, 31, 1, 0x0⟩
def DCTL_DRST.GO : Fld := ⟨0x50, 0, 1, 0x0⟩
def DCTL_RCAUSE.CAUSE : Fld := ⟨0x54, 0, 3, 0x0⟩
def OWL_WDOG.V : Fld := ⟨0x600, 0, 32, 0x0⟩
def OWL_TLM_CFG.PER : Fld := ⟨0x604, 0, 10, 0x64⟩
def OWL_TLM_BASE_LO.V : Fld := ⟨0x608, 0, 32, 0x0⟩
def OWL_TLM_BASE_HI.V : Fld := ⟨0x60c, 0, 32, 0x0⟩
def OWL_TLM_LATE.V : Fld := ⟨0x610, 0, 32, 0x0⟩
def OWL_TLM.V : Fld := ⟨0x700, 0, 32, 0x0⟩
def rowsDCTL_0 : List RegRow :=
  [⟨0x10, 0x0, 1, 0x0, 1, [⟨DCTL_IDENT.TYPE, .ro, [], none⟩]⟩,
   ⟨0x14, 0x0, 1, 0x0, 1, [⟨DCTL_STEP.MASKSET, .ro, [], none⟩, ⟨DCTL_STEP.METAL, .ro, [], none⟩]⟩,
   ⟨0x18, 0x0, 1, 0x0, 1, [⟨DCTL_SERIAL_LO.V, .ro, [], none⟩]⟩,
   ⟨0x1c, 0x0, 1, 0x0, 1, [⟨DCTL_SERIAL_HI.V, .ro, [], none⟩]⟩,
   ⟨0x20, 0x0, 1, 0x0, 1, [⟨DCTL_ROT.LEAD, .ro, [], none⟩, ⟨DCTL_ROT.PAIR_ERR, .ro, [], none⟩, ⟨DCTL_ROT.ROT, .ro, [], none⟩]⟩,
   ⟨0x24, 0x0, 1, 0x0, 1, [⟨DCTL_DEVNUM.LOCKED, .ro, [], none⟩, ⟨DCTL_DEVNUM.DEVNUM, .rwl, [], none⟩]⟩,
   ⟨0x28, 0x0, 1, 0x0, 1, [⟨DCTL_GUEST.WIDTH, .ro, [], none⟩, ⟨DCTL_GUEST.GVER, .ro, [], none⟩, ⟨DCTL_GUEST.PARKED, .ro, [], none⟩, ⟨DCTL_GUEST.PRESENT, .ro, [], none⟩]⟩,
   ⟨0x30, 0x0, 1, 0x0, 1, [⟨DCTL_READY.BITS, .ro, [], none⟩]⟩,
   ⟨0x34, 0x0, 1, 0x0, 1, [⟨DCTL_READY_EXP.BITS, .ro, [], none⟩]⟩,
   ⟨0x38, 0x0, 1, 0x0, 1, [⟨DCTL_READY_FAIL.BITS, .w1c, [], none⟩]⟩,
   ⟨0x3c, 0x0, 1, 0x0, 1, [⟨DCTL_PKG_READY.ALL, .ro, [], none⟩, ⟨DCTL_PKG_READY.DONE, .ro, [], none⟩]⟩,
   ⟨0x40, 0x4, 4, 0x0, 1, [⟨DCTL_READY_D.BITS, .ro, [], none⟩]⟩,
   ⟨0x50, 0x0, 1, 0x0, 1, [⟨DCTL_DRST.BUSY, .ro, [], none⟩, ⟨DCTL_DRST.GO, .wo, [], none⟩]⟩,
   ⟨0x54, 0x0, 1, 0x0, 1, [⟨DCTL_RCAUSE.CAUSE, .ro, [], none⟩]⟩,
   ⟨0x600, 0x0, 1, 0x0, 1, [⟨OWL_WDOG.V, .wo, [], none⟩]⟩,
   ⟨0x604, 0x0, 1, 0x0, 1, [⟨OWL_TLM_CFG.PER, .rw, [(0, 0), (1001, 1023)], none⟩]⟩,
   ⟨0x608, 0x0, 1, 0x0, 1, [⟨OWL_TLM_BASE_LO.V, .rw, [], none⟩]⟩,
   ⟨0x60c, 0x0, 1, 0x0, 1, [⟨OWL_TLM_BASE_HI.V, .rw, [], none⟩]⟩,
   ⟨0x610, 0x0, 1, 0x0, 1, [⟨OWL_TLM_LATE.V, .ro, [], none⟩]⟩,
   ⟨0x700, 0x4, 64, 0x0, 1, [⟨OWL_TLM.V, .ro, [], none⟩]⟩]
def rowsDCTL_1 : List RegRow :=
  [⟨0x800, 0x0, 1, 0x0, 1, [⟨EG_CTL.INV, .wo, [], none⟩, ⟨EG_CTL.RAW, .rw, [], none⟩, ⟨EG_CTL.DIAG, .rw, [], none⟩]⟩,
   ⟨0x804, 0x0, 1, 0x0, 1, [⟨EG_WIN.PAGE, .rw, [(384, 8388607)], none⟩]⟩,
   ⟨0x808, 0x0, 1, 0x0, 1, [⟨EG_STAT.VALID, .w1c, [], none⟩, ⟨EG_STAT.KIND, .ro, [], none⟩, ⟨EG_STAT.SYN, .ro, [], none⟩, ⟨EG_STAT.INVBUSY, .ro, [], none⟩]⟩,
   ⟨0x80c, 0x0, 1, 0x0, 1, [⟨EG_ADDR_LO.V, .ro, [], none⟩]⟩,
   ⟨0x810, 0x0, 1, 0x0, 1, [⟨EG_ADDR_HI.V, .ro, [], none⟩]⟩,
   ⟨0x814, 0x0, 1, 0x0, 1, [⟨EG_CNT_CE.V, .ro, [], none⟩]⟩,
   ⟨0x818, 0x0, 1, 0x0, 1, [⟨EG_CNT_UE.V, .ro, [], none⟩]⟩,
   ⟨0x81c, 0x0, 1, 0x0, 1, [⟨EG_CNT_PSN.V, .ro, [], none⟩]⟩,
   ⟨0x820, 0x0, 1, 0x0, 1, [⟨EG_CNT_CLR.CLR, .wo, [], none⟩]⟩,
   ⟨0x830, 0x0, 1, 0x0, 1, [⟨EG_FLIP0.V, .rw, [], none⟩]⟩,
   ⟨0x834, 0x0, 1, 0x4, 3, []⟩,
   ⟨0x840, 0x0, 1, 0x4, 4, [⟨EG_RAW.V, .ro, [], none⟩]⟩,
   ⟨0x850, 0x0, 1, 0x0, 1, [⟨EG_IBASE.V, .rw, [], none⟩]⟩,
   ⟨0x854, 0x0, 1, 0x0, 1, [⟨EG_ICNT.V, .rw, [], none⟩]⟩]
def rowsDCTL : List RegRow := rowsDCTL_0 ++ rowsDCTL_1

/-! ## Block CKP (16_clocks_power_startup.md) -/
def CKP_MODE.MODE : Fld := ⟨0x10, 0, 2, 0x0⟩
def CKP_STAT.REFOK : Fld := ⟨0x14, 31, 1, 0x0⟩
def CKP_STAT.REJ : Fld := ⟨0x14, 30, 1, 0x0⟩
def CKP_STAT.FAIL : Fld := ⟨0x14, 16, 5, 0x0⟩
def CKP_STAT.LOCK : Fld := ⟨0x14, 0, 5, 0x0⟩
def CKP_FPLL.MULT : Fld := ⟨0x18, 0, 6, 0x18⟩
def CKP_HIB.WAKEPIN : Fld := ⟨0x1c, 4, 4, 0x0⟩
def CKP_HIB.WPEN : Fld := ⟨0x1c, 1, 1, 0x0⟩
def CKP_HIB.GO : Fld := ⟨0x1c, 0, 1, 0x0⟩
def CKP_NAP_LO.V : Fld := ⟨0x20, 0, 32, 0x0⟩
def CKP_NAP_HI.V : Fld := ⟨0x24, 0, 32, 0x0⟩
def CKP_NAPST_LO.V : Fld := ⟨0x28, 0, 32, 0x0⟩
def CKP_NAPST_HI.V : Fld := ⟨0x2c, 0, 32, 0x0⟩
def CKP_GATE0.EN : Fld := ⟨0x30, 0, 23, 0x7fffff⟩
def CKP_GATE1.EN : Fld := ⟨0x34, 0, 16, 0xffff⟩
def CKP_GATE2.EN : Fld := ⟨0x38, 0, 18, 0x3ffff⟩
def CKP_GST0.ST : Fld := ⟨0x40, 0, 23, 0x7fffff⟩
def CKP_GST1.ST : Fld := ⟨0x44, 0, 16, 0xffff⟩
def CKP_GST2.ST : Fld := ⟨0x48, 0, 18, 0x3ffff⟩
def CKP_BRST0.V : Fld := ⟨0x50, 0, 23, 0x0⟩
def CKP_BRST1.V : Fld := ⟨0x54, 0, 16, 0x0⟩
def CKP_BRST2.V : Fld := ⟨0x58, 0, 18, 0x0⟩
def CKP_CDC_DISC.V : Fld := ⟨0x60, 0, 32, 0x0⟩
def CKP_DOM.ON : Fld := ⟨0x100, 31, 1, 0x0⟩
def CKP_DOM.BUSY : Fld := ⟨0x100, 30, 1, 0x0⟩
def CKP_DOM.FB : Fld := ⟨0x100, 29, 1, 0x0⟩
def CKP_DOM.EN : Fld := ⟨0x100, 28, 1, 0x1⟩
def CKP_DOM.SRC (d i : Nat) : Fld := ⟨0x100, 8, 5, RstTab.value .domSrc d i⟩
def CKP_DOM.DIV (d i : Nat) : Fld := ⟨0x100, 0, 6, RstTab.value .domDiv d i⟩
def rowsCKP : List RegRow :=
  [⟨0x10, 0x0, 1, 0x0, 1, [⟨CKP_MODE.MODE, .rws, [], none⟩]⟩,
   ⟨0x14, 0x0, 1, 0x0, 1, [⟨CKP_STAT.REFOK, .ro, [], none⟩, ⟨CKP_STAT.REJ, .w1c, [], none⟩, ⟨CKP_STAT.FAIL, .w1c, [], none⟩, ⟨CKP_STAT.LOCK, .ro, [], none⟩]⟩,
   ⟨0x18, 0x0, 1, 0x0, 1, [⟨CKP_FPLL.MULT, .rws, [(0, 15), (33, 63)], none⟩]⟩,
   ⟨0x1c, 0x0, 1, 0x0, 1, [⟨CKP_HIB.WAKEPIN, .rw, [], none⟩, ⟨CKP_HIB.WPEN, .rw, [], none⟩, ⟨CKP_HIB.GO, .wo, [], none⟩]⟩,
   ⟨0x20, 0x0, 1, 0x0, 1, [⟨CKP_NAP_LO.V, .rw, [], none⟩]⟩,
   ⟨0x24, 0x0, 1, 0x0, 1, [⟨CKP_NAP_HI.V, .rw, [], none⟩]⟩,
   ⟨0x28, 0x0, 1, 0x0, 1, [⟨CKP_NAPST_LO.V, .ro, [], none⟩]⟩,
   ⟨0x2c, 0x0, 1, 0x0, 1, [⟨CKP_NAPST_HI.V, .ro, [], none⟩]⟩,
   ⟨0x30, 0x0, 1, 0x0, 1, [⟨CKP_GATE0.EN, .rw, [], none⟩]⟩,
   ⟨0x34, 0x0, 1, 0x0, 1, [⟨CKP_GATE1.EN, .rw, [], none⟩]⟩,
   ⟨0x38, 0x0, 1, 0x0, 1, [⟨CKP_GATE2.EN, .rw, [], none⟩]⟩,
   ⟨0x40, 0x0, 1, 0x0, 1, [⟨CKP_GST0.ST, .ro, [], none⟩]⟩,
   ⟨0x44, 0x0, 1, 0x0, 1, [⟨CKP_GST1.ST, .ro, [], none⟩]⟩,
   ⟨0x48, 0x0, 1, 0x0, 1, [⟨CKP_GST2.ST, .ro, [], none⟩]⟩,
   ⟨0x50, 0x0, 1, 0x0, 1, [⟨CKP_BRST0.V, .wo, [], none⟩]⟩,
   ⟨0x54, 0x0, 1, 0x0, 1, [⟨CKP_BRST1.V, .wo, [], none⟩]⟩,
   ⟨0x58, 0x0, 1, 0x0, 1, [⟨CKP_BRST2.V, .wo, [], none⟩]⟩,
   ⟨0x60, 0x0, 1, 0x0, 1, [⟨CKP_CDC_DISC.V, .ro, [], none⟩]⟩,
   ⟨0x100, 0x4, 40, 0x0, 1, [⟨CKP_DOM.ON, .ro, [], none⟩, ⟨CKP_DOM.BUSY, .ro, [], none⟩, ⟨CKP_DOM.FB, .ro, [], none⟩, ⟨CKP_DOM.EN, .rws, [], none⟩, ⟨CKP_DOM.SRC 0 0, .rws, [(10, 31)], some .domSrc⟩, ⟨CKP_DOM.DIV 0 0, .rws, [], some .domDiv⟩]⟩]

/-! ## Block FH (17_faults_and_safe_state.md) -/
def FH_STAT.REACT : Fld := ⟨0x10, 16, 3, 0x0⟩
def FH_STAT.SAFEQ : Fld := ⟨0x10, 9, 1, 0x1⟩
def FH_STAT.SAFEP : Fld := ⟨0x10, 8, 1, 0x1⟩
def FH_STAT.IRQ : Fld := ⟨0x10, 1, 1, 0x0⟩
def FH_STAT.REJ : Fld := ⟨0x10, 0, 1, 0x0⟩
def FH_REL.RELEASE : Fld := ⟨0x14, 0, 1, 0x0⟩
def FH_ESC_TMO.MS : Fld := ⟨0x18, 0, 16, 0x3e8⟩
def FH_LOG_WR.V : Fld := ⟨0x20, 0, 32, 0x0⟩
def FH_LOG_RD.V : Fld := ⟨0x24, 0, 32, 0x0⟩
def FH_LOG_LOST.V : Fld := ⟨0x28, 0, 32, 0x0⟩
def FH_CNT_CLR.ALL : Fld := ⟨0x2c, 31, 1, 0x0⟩
def FH_CNT_CLR.IDX : Fld := ⟨0x2c, 0, 7, 0x0⟩
def FH_INJ.GO : Fld := ⟨0x40, 31, 1, 0x0⟩
def FH_INJ.SITEV : Fld := ⟨0x40, 20, 1, 0x0⟩
def FH_INJ.SITE : Fld := ⟨0x40, 16, 4, 0x0⟩
def FH_INJ.SRC : Fld := ⟨0x40, 0, 7, 0x0⟩
def FH_PEND.V : Fld := ⟨0x50, 0, 32, 0x0⟩
def FH_SEV.ESC : Fld := ⟨0x100, 4, 3, 0x0⟩
def FH_SEV.SEV (d i : Nat) : Fld := ⟨0x100, 0, 3, RstTab.value .fhSev d i⟩
def FH_CNT.V : Fld := ⟨0x300, 0, 16, 0x0⟩
def FH_LOG.V : Fld := ⟨0x1000, 0, 32, 0x0⟩
def rowsFH : List RegRow :=
  [⟨0x10, 0x0, 1, 0x0, 1, [⟨FH_STAT.REACT, .ro, [], none⟩, ⟨FH_STAT.SAFEQ, .ro, [], none⟩, ⟨FH_STAT.SAFEP, .ro, [], none⟩, ⟨FH_STAT.IRQ, .ro, [], none⟩, ⟨FH_STAT.REJ, .w1c, [], none⟩]⟩,
   ⟨0x14, 0x0, 1, 0x0, 1, [⟨FH_REL.RELEASE, .wo, [], none⟩]⟩,
   ⟨0x18, 0x0, 1, 0x0, 1, [⟨FH_ESC_TMO.MS, .rw, [(0, 0)], none⟩]⟩,
   ⟨0x20, 0x0, 1, 0x0, 1, [⟨FH_LOG_WR.V, .ro, [], none⟩]⟩,
   ⟨0x24, 0x0, 1, 0x0, 1, [⟨FH_LOG_RD.V, .rw, [], none⟩]⟩,
   ⟨0x28, 0x0, 1, 0x0, 1, [⟨FH_LOG_LOST.V, .ro, [], none⟩]⟩,
   ⟨0x2c, 0x0, 1, 0x0, 1, [⟨FH_CNT_CLR.ALL, .wo, [], none⟩, ⟨FH_CNT_CLR.IDX, .wo, [], none⟩]⟩,
   ⟨0x40, 0x0, 1, 0x0, 1, [⟨FH_INJ.GO, .wo, [], none⟩, ⟨FH_INJ.SITEV, .wo, [], none⟩, ⟨FH_INJ.SITE, .wo, [], none⟩, ⟨FH_INJ.SRC, .wo, [], none⟩]⟩,
   ⟨0x50, 0x4, 4, 0x0, 1, [⟨FH_PEND.V, .w1c, [], none⟩]⟩,
   ⟨0x100, 0x4, 128, 0x0, 1, [⟨FH_SEV.ESC, .rw, [(7, 7)], none⟩, ⟨FH_SEV.SEV 0 0, .rw, [(7, 7)], some .fhSev⟩]⟩,
   ⟨0x300, 0x4, 128, 0x0, 1, [⟨FH_CNT.V, .ro, [], none⟩]⟩,
   ⟨0x1000, 0x4, 1024, 0x0, 1, [⟨FH_LOG.V, .ro, [], none⟩]⟩]

/-! ## Block SVP (18_service_pins.md) -/
def SVP_IN.IN : Fld := ⟨0x10, 0, 16, 0x0⟩
def SVP_OUT.OUT : Fld := ⟨0x14, 0, 16, 0x0⟩
def SVP_STRAP.BAD : Fld := ⟨0x18, 31, 1, 0x0⟩
def SVP_STRAP.PWID : Fld := ⟨0x18, 18, 2, 0x0⟩
def SVP_STRAP.RECEN : Fld := ⟨0x18, 16, 1, 0x0⟩
def SVP_STRAP.RAW : Fld := ⟨0x18, 0, 16, 0x0⟩
def SVP_LOCK.KEY : Fld := ⟨0x1c, 0, 16, 0x0⟩
def SVP_LOCKED.PINS : Fld := ⟨0x20, 0, 16, 0x0⟩
def SVP_MSTAT.PEND : Fld := ⟨0x24, 0, 8, 0x0⟩
def SVP_MTOP.VALID : Fld := ⟨0x28, 31, 1, 0x0⟩
def SVP_MTOP.IDX : Fld := ⟨0x28, 0, 3, 0x0⟩
def SVP_STAT.FLASH : Fld := ⟨0x2c, 1, 1, 0x0⟩
def SVP_STAT.SREJ : Fld := ⟨0x2c, 0, 1, 0x0⟩
def SVP_PIN.FILT : Fld := ⟨0x40, 20, 4, 0x0⟩
def SVP_PIN.EWID : Fld := ⟨0x40, 16, 4, 0x0⟩
def SVP_PIN.EMASK : Fld := ⟨0x40, 8, 8, 0x0⟩
def SVP_PIN.OSRC : Fld := ⟨0x40, 4, 2, 0x0⟩
def SVP_PIN.DRV : Fld := ⟨0x40, 3, 1, 0x0⟩
def SVP_PIN.PULL : Fld := ⟨0x40, 1, 2, 0x0⟩
def SVP_PIN.OE : Fld := ⟨0x40, 0, 1, 0x0⟩
def SVP_MCFG.PSQM : Fld := ⟨0x100, 16, 4, 0x0⟩
def SVP_MCFG.MODE : Fld := ⟨0x100, 0, 3, 0x0⟩
def SVP_MMASK.V : Fld := ⟨0x104, 0, 16, 0x0⟩
def SVP_MVAL.V : Fld := ⟨0x108, 0, 16, 0x0⟩
def SVP_MCAP.EVT : Fld := ⟨0x10c, 16, 8, 0x0⟩
def SVP_MCAP.LEVELS : Fld := ⟨0x10c, 0, 16, 0x0⟩
def U_CFG.EN : Fld := ⟨0x1000, 31, 1, 0x0⟩
def U_CFG.STOP2 : Fld := ⟨0x1000, 18, 1, 0x0⟩
def U_CFG.PAR : Fld := ⟨0x1000, 16, 2, 0x0⟩
def U_CFG.DIV : Fld := ⟨0x1000, 0, 16, 0x35⟩
def U_DATA.VALID : Fld := ⟨0x1004, 31, 1, 0x0⟩
def U_DATA.DATA : Fld := ⟨0x1004, 0, 8, 0x0⟩
def U_STAT.TXOVF : Fld := ⟨0x1008, 27, 1, 0x0⟩
def U_STAT.OVR : Fld := ⟨0x1008, 26, 1, 0x0⟩
def U_STAT.FERR : Fld := ⟨0x1008, 25, 1, 0x0⟩
def U_STAT.PERR : Fld := ⟨0x1008, 24, 1, 0x0⟩
def U_STAT.RXCNT : Fld := ⟨0x1008, 16, 7, 0x0⟩
def U_STAT.TXCNT : Fld := ⟨0x1008, 0, 7, 0x0⟩
def I_CFG.EN : Fld := ⟨0x1400, 31, 1, 0x0⟩
def I_CFG.SPEED : Fld := ⟨0x1400, 0, 2, 0x0⟩
def I_CMD.GO : Fld := ⟨0x1404, 31, 1, 0x0⟩
def I_CMD.ACK : Fld := ⟨0x1404, 30, 1, 0x0⟩
def I_CMD.ADDR : Fld := ⟨0x1404, 16, 7, 0x0⟩
def I_CMD.WLEN : Fld := ⟨0x1404, 8, 6, 0x0⟩
def I_CMD.RLEN : Fld := ⟨0x1404, 0, 6, 0x0⟩
def I_RES.VALID : Fld := ⟨0x1408, 31, 1, 0x0⟩
def I_RES.ACKD : Fld := ⟨0x1408, 30, 1, 0x1⟩
def I_RES.STATUS : Fld := ⟨0x1408, 27, 3, 0x0⟩
def I_RES.SEQ : Fld := ⟨0x1408, 0, 16, 0x0⟩
def I_BUF.V : Fld := ⟨0x1420, 0, 32, 0x0⟩
def S_CFG.EN : Fld := ⟨0x1800, 31, 1, 0x0⟩
def S_CFG.DIV : Fld := ⟨0x1800, 8, 6, 0x1⟩
def S_CFG.MODE : Fld := ⟨0x1800, 0, 2, 0x0⟩
def S_CMD.GO : Fld := ⟨0x1804, 31, 1, 0x0⟩
def S_CMD.ACK : Fld := ⟨0x1804, 30, 1, 0x0⟩
def S_CMD.CS : Fld := ⟨0x1804, 16, 2, 0x0⟩
def S_CMD.LEN : Fld := ⟨0x1804, 0, 7, 0x0⟩
def S_RES.VALID : Fld := ⟨0x1808, 31, 1, 0x0⟩
def S_RES.ACKD : Fld := ⟨0x1808, 30, 1, 0x1⟩
def S_RES.STATUS : Fld := ⟨0x1808, 27, 3, 0x0⟩
def S_RES.SEQ : Fld := ⟨0x1808, 0, 16, 0x0⟩
def S_BUF.V : Fld := ⟨0x1840, 0, 32, 0x0⟩
def rowsSVP_0 : List RegRow :=
  [⟨0x10, 0x0, 1, 0x0, 1, [⟨SVP_IN.IN, .ro, [], none⟩]⟩,
   ⟨0x14, 0x0, 1, 0x0, 1, [⟨SVP_OUT.OUT, .rw, [], none⟩]⟩,
   ⟨0x18, 0x0, 1, 0x0, 1, [⟨SVP_STRAP.BAD, .ro, [], none⟩, ⟨SVP_STRAP.PWID, .ro, [], none⟩, ⟨SVP_STRAP.RECEN, .ro, [], none⟩, ⟨SVP_STRAP.RAW, .ro, [], none⟩]⟩,
   ⟨0x1c, 0x0, 1, 0x0, 1, [⟨SVP_LOCK.KEY, .wo, [], none⟩]⟩,
   ⟨0x20, 0x0, 1, 0x0, 1, [⟨SVP_LOCKED.PINS, .ro, [], none⟩]⟩,
   ⟨0x24, 0x0, 1, 0x0, 1, [⟨SVP_MSTAT.PEND, .w1c, [], none⟩]⟩,
   ⟨0x28, 0x0, 1, 0x0, 1, [⟨SVP_MTOP.VALID, .ro, [], none⟩, ⟨SVP_MTOP.IDX, .ro, [], none⟩]⟩,
   ⟨0x2c, 0x0, 1, 0x0, 1, [⟨SVP_STAT.FLASH, .ro, [], none⟩, ⟨SVP_STAT.SREJ, .w1c, [], none⟩]⟩,
   ⟨0x40, 0x4, 16, 0x0, 1, [⟨SVP_PIN.FILT, .rwl, [], none⟩, ⟨SVP_PIN.EWID, .rwl, [], none⟩, ⟨SVP_PIN.EMASK, .rwl, [], none⟩, ⟨SVP_PIN.OSRC, .rwl, [(2, 3)], none⟩, ⟨SVP_PIN.DRV, .rwl, [], none⟩, ⟨SVP_PIN.PULL, .rwl, [(3, 3)], none⟩, ⟨SVP_PIN.OE, .rwl, [], none⟩]⟩,
   ⟨0x100, 0x10, 8, 0x0, 1, [⟨SVP_MCFG.PSQM, .rw, [], none⟩, ⟨SVP_MCFG.MODE, .rw, [(5, 7)], none⟩]⟩,
   ⟨0x104, 0x10, 8, 0x0, 1, [⟨SVP_MMASK.V, .rw, [], none⟩]⟩,
   ⟨0x108, 0x10, 8, 0x0, 1, [⟨SVP_MVAL.V, .rw, [], none⟩]⟩,
   ⟨0x10c, 0x10, 8, 0x0, 1, [⟨SVP_MCAP.EVT, .ro, [], none⟩, ⟨SVP_MCAP.LEVELS, .ro, [], none⟩]⟩,
   ⟨0x1000, 0x100, 2, 0x0, 1, [⟨U_CFG.EN, .rw, [], none⟩, ⟨U_CFG.STOP2, .rw, [], none⟩, ⟨U_CFG.PAR, .rw, [(3, 3)], none⟩, ⟨U_CFG.DIV, .rw, [], none⟩]⟩,
   ⟨0x1004, 0x100, 2, 0x0, 1, [⟨U_DATA.VALID, .ro, [], none⟩, ⟨U_DATA.DATA, .rw, [], none⟩]⟩,
   ⟨0x1008, 0x100, 2, 0x0, 1, [⟨U_STAT.TXOVF, .w1c, [], none⟩, ⟨U_STAT.OVR, .w1c, [], none⟩, ⟨U_STAT.FERR, .w1c, [], none⟩, ⟨U_STAT.PERR, .w1c, [], none⟩, ⟨U_STAT.RXCNT, .ro, [], none⟩, ⟨U_STAT.TXCNT, .ro, [], none⟩]⟩,
   ⟨0x1400, 0x100, 2, 0x0, 1, [⟨I_CFG.EN, .rw, [], none⟩, ⟨I_CFG.SPEED, .rw, [(3, 3)], none⟩]⟩,
   ⟨0x1404, 0x100, 2, 0x0, 1, [⟨I_CMD.GO, .wo, [], none⟩, ⟨I_CMD.ACK, .wo, [], none⟩, ⟨I_CMD.ADDR, .wo, [], none⟩, ⟨I_CMD.WLEN, .wo, [(33, 63)], none⟩, ⟨I_CMD.RLEN, .wo, [(33, 63)], none⟩]⟩,
   ⟨0x1408, 0x100, 2, 0x0, 1, [⟨I_RES.VALID, .ro, [], none⟩, ⟨I_RES.ACKD, .ro, [], none⟩, ⟨I_RES.STATUS, .ro, [], none⟩, ⟨I_RES.SEQ, .ro, [], none⟩]⟩,
   ⟨0x1420, 0x100, 2, 0x4, 8, [⟨I_BUF.V, .rw, [], none⟩]⟩]
def rowsSVP_1 : List RegRow :=
  [⟨0x1800, 0x0, 1, 0x0, 1, [⟨S_CFG.EN, .rw, [], none⟩, ⟨S_CFG.DIV, .rw, [], none⟩, ⟨S_CFG.MODE, .rw, [], none⟩]⟩,
   ⟨0x1804, 0x0, 1, 0x0, 1, [⟨S_CMD.GO, .wo, [], none⟩, ⟨S_CMD.ACK, .wo, [], none⟩, ⟨S_CMD.CS, .wo, [], none⟩, ⟨S_CMD.LEN, .wo, [(0, 0), (65, 127)], none⟩]⟩,
   ⟨0x1808, 0x0, 1, 0x0, 1, [⟨S_RES.VALID, .ro, [], none⟩, ⟨S_RES.ACKD, .ro, [], none⟩, ⟨S_RES.STATUS, .ro, [], none⟩, ⟨S_RES.SEQ, .ro, [], none⟩]⟩,
   ⟨0x1840, 0x4, 16, 0x0, 1, [⟨S_BUF.V, .rw, [], none⟩]⟩]
def rowsSVP : List RegRow := rowsSVP_0 ++ rowsSVP_1

/-! ## Block CFE (09_configuration.md) -/
def CFE_CFG.NOCOPY_FENCE : Fld := ⟨0x10, 2, 1, 0x0⟩
def CFE_CFG.FCHK_EN : Fld := ⟨0x10, 1, 1, 0x1⟩
def CFE_CFG.RELAY_EN : Fld := ⟨0x10, 0, 1, 0x0⟩
def CFE_SRC.KIND : Fld := ⟨0x14, 0, 3, 0x0⟩
def CFE_ADDR_LO.ADDR : Fld := ⟨0x18, 4, 28, 0x0⟩
def CFE_ADDR_HI.ADDR : Fld := ⟨0x1c, 0, 8, 0x0⟩
def CFE_LEN.LEN : Fld := ⟨0x20, 4, 28, 0x0⟩
def CFE_CMD.ACK : Fld := ⟨0x24, 3, 1, 0x0⟩
def CFE_CMD.CANCEL : Fld := ⟨0x24, 2, 1, 0x0⟩
def CFE_CMD.CONT : Fld := ⟨0x24, 1, 1, 0x0⟩
def CFE_CMD.START : Fld := ⟨0x24, 0, 1, 0x0⟩
def CFE_STAT.STATE : Fld := ⟨0x28, 29, 3, 0x0⟩
def CFE_STAT.RELAY : Fld := ⟨0x28, 28, 1, 0x0⟩
def CFE_STAT.REJ : Fld := ⟨0x28, 0, 1, 0x0⟩
def CFE_RES.VALID : Fld := ⟨0x2c, 31, 1, 0x0⟩
def CFE_RES.ACKD : Fld := ⟨0x2c, 30, 1, 0x1⟩
def CFE_RES.STATUS : Fld := ⟨0x2c, 24, 4, 0x0⟩
def CFE_RES.SRC : Fld := ⟨0x2c, 20, 3, 0x0⟩
def CFE_RES.SEQ : Fld := ⟨0x2c, 0, 16, 0x0⟩
def CFE_FRAMES_OK.V : Fld := ⟨0x30, 0, 32, 0x0⟩
def CFE_FRAMES_REJ.V : Fld := ⟨0x34, 0, 32, 0x0⟩
def CFE_FERR.WHY : Fld := ⟨0x38, 28, 4, 0x0⟩
def CFE_FERR.REGION : Fld := ⟨0x38, 16, 8, 0x0⟩
def CFE_FERR.COL : Fld := ⟨0x38, 8, 6, 0x0⟩
def CFE_FERR.FRAME : Fld := ⟨0x38, 0, 5, 0x0⟩
def CFE_RFAIL_LO.V : Fld := ⟨0x40, 0, 32, 0x0⟩
def CFE_RFAIL_HI.V : Fld := ⟨0x44, 0, 32, 0x0⟩
def CFE_PROG.V : Fld := ⟨0x48, 0, 32, 0x0⟩
def CFE_COPY_LO.V : Fld := ⟨0x50, 0, 32, 0x0⟩
def CFE_COPY_HI.V : Fld := ⟨0x54, 0, 32, 0x0⟩
def CFE_CHK_STAT.SWEEPS : Fld := ⟨0x58, 16, 16, 0x0⟩
def CFE_CHK_STAT.RUN : Fld := ⟨0x58, 0, 1, 0x0⟩
def CFE_CHK_TIME.V : Fld := ⟨0x5c, 0, 32, 0x0⟩
def CFE_CHK_UPSET.V : Fld := ⟨0x60, 0, 32, 0x0⟩
def CFE_CHK_REPAIR.V : Fld := ⟨0x64, 0, 32, 0x0⟩
def CFE_CHK_HARD.V : Fld := ⟨0x68, 0, 32, 0x0⟩
def CFE_CHK_NOCOPY.V : Fld := ⟨0x6c, 0, 32, 0x0⟩
def CFE_CHK_LAST.REGION : Fld := ⟨0x70, 16, 8, 0x0⟩
def CFE_CHK_LAST.COL : Fld := ⟨0x70, 8, 6, 0x0⟩
def CFE_CHK_LAST.FRAME : Fld := ⟨0x70, 0, 5, 0x0⟩
def CFE_CHK_CLR.CLR : Fld := ⟨0x74, 0, 4, 0x0⟩
def FR_STAT.STATE : Fld := ⟨0x10000, 29, 3, 0x0⟩
def FR_STAT.FENCED : Fld := ⟨0x10000, 28, 1, 0x1⟩
def FR_STAT.SUSPECT : Fld := ⟨0x10000, 27, 1, 0x0⟩
def FR_STAT.REJ : Fld := ⟨0x10000, 26, 1, 0x0⟩
def FR_STAT.SPARE_USED : Fld := ⟨0x10000, 25, 1, 0x0⟩
def FR_STAT.MAPSRC : Fld := ⟨0x10000, 24, 1, 0x0⟩
def FR_STAT.BADCOL : Fld := ⟨0x10000, 16, 5, 0x0⟩
def FR_STAT.SCOL : Fld := ⟨0x10000, 8, 5, 0x0⟩
def FR_CTL.COL : Fld := ⟨0x10004, 8, 5, 0x0⟩
def FR_CTL.RACK : Fld := ⟨0x10004, 3, 1, 0x0⟩
def FR_CTL.RELOC : Fld := ⟨0x10004, 2, 1, 0x0⟩
def FR_CTL.RRESET : Fld := ⟨0x10004, 1, 1, 0x0⟩
def FR_CTL.FENCE : Fld := ⟨0x10004, 0, 1, 0x0⟩
def FR_CLK.RCLK3 : Fld := ⟨0x10008, 24, 5, 0x0⟩
def FR_CLK.RCLK2 : Fld := ⟨0x10008, 16, 5, 0x0⟩
def FR_CLK.RCLK1 : Fld := ⟨0x10008, 8, 5, 0x0⟩
def FR_CLK.RCLK0 : Fld := ⟨0x10008, 0, 5, 0x0⟩
def FR_RELOC_RES.VALID : Fld := ⟨0x1000c, 31, 1, 0x0⟩
def FR_RELOC_RES.ACKD : Fld := ⟨0x1000c, 30, 1, 0x1⟩
def FR_RELOC_RES.STATUS : Fld := ⟨0x1000c, 27, 3, 0x0⟩
def FR_RELOC_RES.SEQ : Fld := ⟨0x1000c, 0, 16, 0x0⟩
def rowsCFE_0 : List RegRow :=
  [⟨0x10, 0x0, 1, 0x0, 1, [⟨CFE_CFG.NOCOPY_FENCE, .rw, [], none⟩, ⟨CFE_CFG.FCHK_EN, .rw, [], none⟩, ⟨CFE_CFG.RELAY_EN, .rw, [], none⟩]⟩,
   ⟨0x14, 0x0, 1, 0x0, 1, [⟨CFE_SRC.KIND, .rw, [(0, 0), (5, 7)], none⟩]⟩,
   ⟨0x18, 0x0, 1, 0x0, 1, [⟨CFE_ADDR_LO.ADDR, .rw, [], none⟩]⟩,
   ⟨0x1c, 0x0, 1, 0x0, 1, [⟨CFE_ADDR_HI.ADDR, .rw, [], none⟩]⟩,
   ⟨0x20, 0x0, 1, 0x0, 1, [⟨CFE_LEN.LEN, .rw, [], none⟩]⟩,
   ⟨0x24, 0x0, 1, 0x0, 1, [⟨CFE_CMD.ACK, .wo, [], none⟩, ⟨CFE_CMD.CANCEL, .wo, [], none⟩, ⟨CFE_CMD.CONT, .wo, [], none⟩, ⟨CFE_CMD.START, .wo, [], none⟩]⟩,
   ⟨0x28, 0x0, 1, 0x0, 1, [⟨CFE_STAT.STATE, .ro, [], none⟩, ⟨CFE_STAT.RELAY, .ro, [], none⟩, ⟨CFE_STAT.REJ, .w1c, [], none⟩]⟩,
   ⟨0x2c, 0x0, 1, 0x0, 1, [⟨CFE_RES.VALID, .ro, [], none⟩, ⟨CFE_RES.ACKD, .ro, [], none⟩, ⟨CFE_RES.STATUS, .ro, [], none⟩, ⟨CFE_RES.SRC, .ro, [], none⟩, ⟨CFE_RES.SEQ, .ro, [], none⟩]⟩,
   ⟨0x30, 0x0, 1, 0x0, 1, [⟨CFE_FRAMES_OK.V, .ro, [], none⟩]⟩,
   ⟨0x34, 0x0, 1, 0x0, 1, [⟨CFE_FRAMES_REJ.V, .ro, [], none⟩]⟩,
   ⟨0x38, 0x0, 1, 0x0, 1, [⟨CFE_FERR.WHY, .ro, [], none⟩, ⟨CFE_FERR.REGION, .ro, [], none⟩, ⟨CFE_FERR.COL, .ro, [], none⟩, ⟨CFE_FERR.FRAME, .ro, [], none⟩]⟩,
   ⟨0x40, 0x0, 1, 0x0, 1, [⟨CFE_RFAIL_LO.V, .ro, [], none⟩]⟩,
   ⟨0x44, 0x0, 1, 0x0, 1, [⟨CFE_RFAIL_HI.V, .ro, [], none⟩]⟩,
   ⟨0x48, 0x0, 1, 0x0, 1, [⟨CFE_PROG.V, .ro, [], none⟩]⟩,
   ⟨0x50, 0x0, 1, 0x0, 1, [⟨CFE_COPY_LO.V, .ro, [], none⟩]⟩,
   ⟨0x54, 0x0, 1, 0x0, 1, [⟨CFE_COPY_HI.V, .ro, [], none⟩]⟩,
   ⟨0x58, 0x0, 1, 0x0, 1, [⟨CFE_CHK_STAT.SWEEPS, .ro, [], none⟩, ⟨CFE_CHK_STAT.RUN, .ro, [], none⟩]⟩,
   ⟨0x5c, 0x0, 1, 0x0, 1, [⟨CFE_CHK_TIME.V, .ro, [], none⟩]⟩,
   ⟨0x60, 0x0, 1, 0x0, 1, [⟨CFE_CHK_UPSET.V, .ro, [], none⟩]⟩,
   ⟨0x64, 0x0, 1, 0x0, 1, [⟨CFE_CHK_REPAIR.V, .ro, [], none⟩]⟩]
def rowsCFE_1 : List RegRow :=
  [⟨0x68, 0x0, 1, 0x0, 1, [⟨CFE_CHK_HARD.V, .ro, [], none⟩]⟩,
   ⟨0x6c, 0x0, 1, 0x0, 1, [⟨CFE_CHK_NOCOPY.V, .ro, [], none⟩]⟩,
   ⟨0x70, 0x0, 1, 0x0, 1, [⟨CFE_CHK_LAST.REGION, .ro, [], none⟩, ⟨CFE_CHK_LAST.COL, .ro, [], none⟩, ⟨CFE_CHK_LAST.FRAME, .ro, [], none⟩]⟩,
   ⟨0x74, 0x0, 1, 0x0, 1, [⟨CFE_CHK_CLR.CLR, .wo, [], none⟩]⟩,
   ⟨0x10000, 0x100, 64, 0x0, 1, [⟨FR_STAT.STATE, .ro, [], none⟩, ⟨FR_STAT.FENCED, .ro, [], none⟩, ⟨FR_STAT.SUSPECT, .w1c, [], none⟩, ⟨FR_STAT.REJ, .w1c, [], none⟩, ⟨FR_STAT.SPARE_USED, .ro, [], none⟩, ⟨FR_STAT.MAPSRC, .ro, [], none⟩, ⟨FR_STAT.BADCOL, .ro, [], none⟩, ⟨FR_STAT.SCOL, .ro, [], none⟩]⟩,
   ⟨0x10004, 0x100, 64, 0x0, 1, [⟨FR_CTL.COL, .wo, [], none⟩, ⟨FR_CTL.RACK, .wo, [], none⟩, ⟨FR_CTL.RELOC, .wo, [], none⟩, ⟨FR_CTL.RRESET, .wo, [], none⟩, ⟨FR_CTL.FENCE, .rw, [], none⟩]⟩,
   ⟨0x10008, 0x100, 64, 0x0, 1, [⟨FR_CLK.RCLK3, .ro, [], none⟩, ⟨FR_CLK.RCLK2, .ro, [], none⟩, ⟨FR_CLK.RCLK1, .ro, [], none⟩, ⟨FR_CLK.RCLK0, .ro, [], none⟩]⟩,
   ⟨0x1000c, 0x100, 64, 0x0, 1, [⟨FR_RELOC_RES.VALID, .ro, [], none⟩, ⟨FR_RELOC_RES.ACKD, .ro, [], none⟩, ⟨FR_RELOC_RES.STATUS, .ro, [], none⟩, ⟨FR_RELOC_RES.SEQ, .ro, [], none⟩]⟩,
   ⟨0x10040, 0x100, 64, 0x0, 1, [⟨EG_CTL.INV, .wo, [], none⟩, ⟨EG_CTL.RAW, .rw, [], none⟩, ⟨EG_CTL.DIAG, .rw, [], none⟩]⟩,
   ⟨0x10044, 0x100, 64, 0x0, 1, [⟨EG_WIN.PAGE, .rw, [(512, 8388607)], none⟩]⟩,
   ⟨0x10048, 0x100, 64, 0x0, 1, [⟨EG_STAT.VALID, .w1c, [], none⟩, ⟨EG_STAT.KIND, .ro, [], none⟩, ⟨EG_STAT.SYN, .ro, [], none⟩, ⟨EG_STAT.INVBUSY, .ro, [], none⟩]⟩,
   ⟨0x1004c, 0x100, 64, 0x0, 1, [⟨EG_ADDR_LO.V, .ro, [], none⟩]⟩,
   ⟨0x10050, 0x100, 64, 0x0, 1, [⟨EG_ADDR_HI.V, .ro, [], none⟩]⟩,
   ⟨0x10054, 0x100, 64, 0x0, 1, [⟨EG_CNT_CE.V, .ro, [], none⟩]⟩,
   ⟨0x10058, 0x100, 64, 0x0, 1, [⟨EG_CNT_UE.V, .ro, [], none⟩]⟩,
   ⟨0x1005c, 0x100, 64, 0x0, 1, [⟨EG_CNT_PSN.V, .ro, [], none⟩]⟩,
   ⟨0x10060, 0x100, 64, 0x0, 1, [⟨EG_CNT_CLR.CLR, .wo, [], none⟩]⟩,
   ⟨0x10070, 0x100, 64, 0x0, 1, [⟨EG_FLIP0.V, .rw, [], none⟩]⟩,
   ⟨0x10074, 0x100, 64, 0x4, 3, []⟩,
   ⟨0x10080, 0x100, 64, 0x4, 4, [⟨EG_RAW.V, .ro, [], none⟩]⟩]
def rowsCFE_2 : List RegRow :=
  [⟨0x10090, 0x100, 64, 0x0, 1, [⟨EG_IBASE.V, .rw, [], none⟩]⟩,
   ⟨0x10094, 0x100, 64, 0x0, 1, [⟨EG_ICNT.V, .rw, [], none⟩]⟩]
def rowsCFE : List RegRow := rowsCFE_0 ++ rowsCFE_1 ++ rowsCFE_2

/-! ## Block STC (10_sett_and_field_update.md) -/
def STC_CFG.RELAY_EN : Fld := ⟨0x10, 0, 1, 0x0⟩
def STC_CMD.ACK : Fld := ⟨0x14, 31, 1, 0x0⟩
def STC_CMD.OP : Fld := ⟨0x14, 8, 4, 0x0⟩
def STC_CMD.KIND : Fld := ⟨0x14, 0, 2, 0x0⟩
def STC_ADDR_LO.V : Fld := ⟨0x18, 4, 28, 0x0⟩
def STC_ADDR_HI.V : Fld := ⟨0x1c, 0, 8, 0x0⟩
def STC_LEN.V : Fld := ⟨0x20, 4, 28, 0x0⟩
def STC_RADDR_LO.V : Fld := ⟨0x24, 4, 28, 0x0⟩
def STC_RADDR_HI.V : Fld := ⟨0x28, 0, 8, 0x0⟩
def STC_RES.VALID : Fld := ⟨0x2c, 31, 1, 0x0⟩
def STC_RES.ACKD : Fld := ⟨0x2c, 30, 1, 0x1⟩
def STC_RES.STATUS : Fld := ⟨0x2c, 24, 4, 0x0⟩
def STC_RES.DETAIL : Fld := ⟨0x2c, 16, 8, 0x0⟩
def STC_RES.KIND : Fld := ⟨0x2c, 12, 2, 0x0⟩
def STC_RES.SRC : Fld := ⟨0x2c, 8, 1, 0x0⟩
def STC_SEQ.SEQ : Fld := ⟨0x30, 0, 16, 0x0⟩
def STC_SLOT.TRIES_SP : Fld := ⟨0x34, 24, 2, 0x0⟩
def STC_SLOT.TRIES_OWL : Fld := ⟨0x34, 22, 2, 0x0⟩
def STC_SLOT.TRIES_IMG : Fld := ⟨0x34, 20, 2, 0x0⟩
def STC_SLOT.SP_B : Fld := ⟨0x34, 15, 3, 0x0⟩
def STC_SLOT.SP_A : Fld := ⟨0x34, 12, 3, 0x0⟩
def STC_SLOT.OWL_B : Fld := ⟨0x34, 9, 3, 0x0⟩
def STC_SLOT.OWL_A : Fld := ⟨0x34, 6, 3, 0x0⟩
def STC_SLOT.IMG_B : Fld := ⟨0x34, 3, 3, 0x0⟩
def STC_SLOT.IMG_A : Fld := ⟨0x34, 0, 3, 0x0⟩
def STC_EPOCH.MINPEER : Fld := ⟨0x38, 16, 16, 0x0⟩
def STC_EPOCH.EPOCH : Fld := ⟨0x38, 0, 16, 0x0⟩
def STC_STAT.REFRESH : Fld := ⟨0x3c, 4, 1, 0x0⟩
def STC_STAT.SPARES_LOW : Fld := ⟨0x3c, 3, 1, 0x0⟩
def STC_STAT.WEAR_ADV : Fld := ⟨0x3c, 2, 1, 0x0⟩
def STC_STAT.BUSY : Fld := ⟨0x3c, 1, 1, 0x0⟩
def STC_STAT.REJ : Fld := ⟨0x3c, 0, 1, 0x0⟩
def STC_SPARE.FREE : Fld := ⟨0x40, 0, 7, 0x5f⟩
def STC_CONF.LEFT : Fld := ⟨0x44, 0, 10, 0x0⟩
def STC_HIST.V : Fld := ⟨0x50, 0, 32, 0x0⟩
def STC_HISTF.V : Fld := ⟨0x74, 0, 32, 0x0⟩
def STC_BLKSEL.V : Fld := ⟨0x78, 0, 12, 0x0⟩
def STC_BLKCNT.V : Fld := ⟨0x7c, 0, 32, 0x0⟩
def STC_BLKINFO.CLASS : Fld := ⟨0x80, 16, 2, 0x0⟩
def STC_BLKINFO.PHYS : Fld := ⟨0x80, 0, 12, 0x0⟩
def STC_RELAY_RES.SENT : Fld := ⟨0x84, 16, 16, 0x0⟩
def STC_RELAY_RES.REFUSED : Fld := ⟨0x84, 0, 16, 0x0⟩
def STC_SETFREE.BYTES : Fld := ⟨0x88, 0, 22, 0x200000⟩
def rowsSTC_0 : List RegRow :=
  [⟨0x10, 0x0, 1, 0x0, 1, [⟨STC_CFG.RELAY_EN, .rw, [], none⟩]⟩,
   ⟨0x14, 0x0, 1, 0x0, 1, [⟨STC_CMD.ACK, .wo, [], none⟩, ⟨STC_CMD.OP, .wo, [], none⟩, ⟨STC_CMD.KIND, .wo, [], none⟩]⟩,
   ⟨0x18, 0x0, 1, 0x0, 1, [⟨STC_ADDR_LO.V, .rw, [], none⟩]⟩,
   ⟨0x1c, 0x0, 1, 0x0, 1, [⟨STC_ADDR_HI.V, .rw, [], none⟩]⟩,
   ⟨0x20, 0x0, 1, 0x0, 1, [⟨STC_LEN.V, .rw, [], none⟩]⟩,
   ⟨0x24, 0x0, 1, 0x0, 1, [⟨STC_RADDR_LO.V, .rw, [], none⟩]⟩,
   ⟨0x28, 0x0, 1, 0x0, 1, [⟨STC_RADDR_HI.V, .rw, [], none⟩]⟩,
   ⟨0x2c, 0x0, 1, 0x0, 1, [⟨STC_RES.VALID, .ro, [], none⟩, ⟨STC_RES.ACKD, .ro, [], none⟩, ⟨STC_RES.STATUS, .ro, [], none⟩, ⟨STC_RES.DETAIL, .ro, [], none⟩, ⟨STC_RES.KIND, .ro, [], none⟩, ⟨STC_RES.SRC, .ro, [], none⟩]⟩,
   ⟨0x30, 0x0, 1, 0x0, 1, [⟨STC_SEQ.SEQ, .ro, [], none⟩]⟩,
   ⟨0x34, 0x0, 1, 0x0, 1, [⟨STC_SLOT.TRIES_SP, .ro, [], none⟩, ⟨STC_SLOT.TRIES_OWL, .ro, [], none⟩, ⟨STC_SLOT.TRIES_IMG, .ro, [], none⟩, ⟨STC_SLOT.SP_B, .ro, [], none⟩, ⟨STC_SLOT.SP_A, .ro, [], none⟩, ⟨STC_SLOT.OWL_B, .ro, [], none⟩, ⟨STC_SLOT.OWL_A, .ro, [], none⟩, ⟨STC_SLOT.IMG_B, .ro, [], none⟩, ⟨STC_SLOT.IMG_A, .ro, [], none⟩]⟩,
   ⟨0x38, 0x0, 1, 0x0, 1, [⟨STC_EPOCH.MINPEER, .ro, [], none⟩, ⟨STC_EPOCH.EPOCH, .ro, [], none⟩]⟩,
   ⟨0x3c, 0x0, 1, 0x0, 1, [⟨STC_STAT.REFRESH, .ro, [], none⟩, ⟨STC_STAT.SPARES_LOW, .ro, [], none⟩, ⟨STC_STAT.WEAR_ADV, .ro, [], none⟩, ⟨STC_STAT.BUSY, .ro, [], none⟩, ⟨STC_STAT.REJ, .w1c, [], none⟩]⟩,
   ⟨0x40, 0x0, 1, 0x0, 1, [⟨STC_SPARE.FREE, .ro, [], none⟩]⟩,
   ⟨0x44, 0x0, 1, 0x0, 1, [⟨STC_CONF.LEFT, .ro, [], none⟩]⟩,
   ⟨0x50, 0x4, 9, 0x0, 1, [⟨STC_HIST.V, .ro, [], none⟩]⟩,
   ⟨0x74, 0x0, 1, 0x0, 1, [⟨STC_HISTF.V, .ro, [], none⟩]⟩,
   ⟨0x78, 0x0, 1, 0x0, 1, [⟨STC_BLKSEL.V, .rw, [(2048, 4095)], none⟩]⟩,
   ⟨0x7c, 0x0, 1, 0x0, 1, [⟨STC_BLKCNT.V, .ro, [], none⟩]⟩,
   ⟨0x80, 0x0, 1, 0x0, 1, [⟨STC_BLKINFO.CLASS, .ro, [], none⟩, ⟨STC_BLKINFO.PHYS, .ro, [], none⟩]⟩,
   ⟨0x84, 0x0, 1, 0x0, 1, [⟨STC_RELAY_RES.SENT, .ro, [], none⟩, ⟨STC_RELAY_RES.REFUSED, .ro, [], none⟩]⟩]
def rowsSTC_1 : List RegRow :=
  [⟨0x88, 0x0, 1, 0x0, 1, [⟨STC_SETFREE.BYTES, .ro, [], none⟩]⟩]
def rowsSTC : List RegRow := rowsSTC_0 ++ rowsSTC_1

/-! ## Block NOC (13_noc_and_die_links.md) -/
def NOC_CFG.SWT : Fld := ⟨0x10, 8, 4, 0x1⟩
def NOC_CFG.PWT : Fld := ⟨0x10, 0, 4, 0x3⟩
def NOC_TMO.US : Fld := ⟨0x14, 0, 20, 0x3e8⟩
def NOC_DOWN_LO.V : Fld := ⟨0x18, 0, 32, 0x0⟩
def NOC_DOWN_HI.V : Fld := ⟨0x1c, 0, 32, 0x0⟩
def NOC_CNT_LINK.V : Fld := ⟨0x20, 0, 32, 0x0⟩
def NOC_CNT_TMO.V : Fld := ⟨0x24, 0, 32, 0x0⟩
def NOC_CNT_LATE.V : Fld := ⟨0x28, 0, 32, 0x0⟩
def NOC_CNT_DENY.V : Fld := ⟨0x2c, 0, 32, 0x0⟩
def NOC_CNT_CLR.CLR : Fld := ⟨0x30, 0, 4, 0x0⟩
def NS_CLR.CLR : Fld := ⟨0x34, 0, 32, 0x0⟩
def NT_CTL.CLR : Fld := ⟨0x40, 8, 1, 0x0⟩
def NT_CTL.WRAP : Fld := ⟨0x40, 1, 1, 0x0⟩
def NT_CTL.EN : Fld := ⟨0x40, 0, 1, 0x0⟩
def NT_WPTR.FULL : Fld := ⟨0x44, 31, 1, 0x0⟩
def NT_WPTR.NEXT : Fld := ⟨0x44, 0, 11, 0x0⟩
def NT_LOST.V : Fld := ⟨0x48, 0, 32, 0x0⟩
def NOC_CRED.SCRED (d i : Nat) : Fld := ⟨0x100, 8, 8, RstTab.value .nocS d i⟩
def NOC_CRED.PCRED (d i : Nat) : Fld := ⟨0x100, 0, 8, RstTab.value .nocP d i⟩
def NW_BASE_LO.V : Fld := ⟨0x1000, 12, 20, 0x0⟩
def NW_BASE_HI.V : Fld := ⟨0x1004, 0, 8, 0x0⟩
def NW_LIM_LO.V : Fld := ⟨0x1008, 12, 20, 0x0⟩
def NW_LIM_HI.V : Fld := ⟨0x100c, 0, 8, 0x0⟩
def NW_CFG.EN : Fld := ⟨0x1010, 31, 1, 0x0⟩
def NW_CFG.PRIO : Fld := ⟨0x1010, 28, 2, 0x0⟩
def NW_CFG.ACTION : Fld := ⟨0x1010, 24, 2, 0x0⟩
def NW_CFG.OPS : Fld := ⟨0x1010, 16, 2, 0x0⟩
def NW_CFG.INIT : Fld := ⟨0x1010, 0, 16, 0x0⟩
def NS_RDB_LO.V : Fld := ⟨0x3000, 0, 32, 0x0⟩
def NS_RDB_HI.V : Fld := ⟨0x3004, 0, 16, 0x0⟩
def NS_WRB_LO.V : Fld := ⟨0x3008, 0, 32, 0x0⟩
def NS_WRB_HI.V : Fld := ⟨0x300c, 0, 16, 0x0⟩
def NS_HIST.V : Fld := ⟨0x3040, 0, 32, 0x0⟩
def NP_CFG.EN : Fld := ⟨0x6000, 31, 1, 0x0⟩
def NP_CFG.TRACE : Fld := ⟨0x6000, 30, 1, 0x0⟩
def NP_CFG.DIR : Fld := ⟨0x6000, 28, 2, 0x0⟩
def NP_CFG.OPMASK : Fld := ⟨0x6000, 0, 16, 0x0⟩
def NP_INIT.MASK : Fld := ⟨0x6004, 8, 8, 0x0⟩
def NP_INIT.VAL : Fld := ⟨0x6004, 0, 8, 0x0⟩
def NP_TGT.MASK : Fld := ⟨0x6008, 16, 10, 0x0⟩
def NP_TGT.VAL : Fld := ⟨0x6008, 0, 10, 0x0⟩
def NP_ALO_LO.V : Fld := ⟨0x600c, 0, 32, 0x0⟩
def NP_ALO_HI.V : Fld := ⟨0x6010, 0, 8, 0x0⟩
def NP_AHI_LO.V : Fld := ⟨0x6014, 0, 32, 0x0⟩
def NP_AHI_HI.V : Fld := ⟨0x6018, 0, 8, 0x0⟩
def NP_CNT.V : Fld := ⟨0x601c, 0, 32, 0x0⟩
def NP_BYTES_LO.V : Fld := ⟨0x6020, 0, 32, 0x0⟩
def NP_BYTES_HI.V : Fld := ⟨0x6024, 0, 16, 0x0⟩
def NT_BUF.V : Fld := ⟨0x10000, 0, 32, 0x0⟩
def rowsNOC_0 : List RegRow :=
  [⟨0x10, 0x0, 1, 0x0, 1, [⟨NOC_CFG.SWT, .rws, [(0, 0)], none⟩, ⟨NOC_CFG.PWT, .rws, [(0, 0)], none⟩]⟩,
   ⟨0x14, 0x0, 1, 0x0, 1, [⟨NOC_TMO.US, .rw, [(0, 0)], none⟩]⟩,
   ⟨0x18, 0x0, 1, 0x0, 1, [⟨NOC_DOWN_LO.V, .ro, [], none⟩]⟩,
   ⟨0x1c, 0x0, 1, 0x0, 1, [⟨NOC_DOWN_HI.V, .ro, [], none⟩]⟩,
   ⟨0x20, 0x0, 1, 0x0, 1, [⟨NOC_CNT_LINK.V, .ro, [], none⟩]⟩,
   ⟨0x24, 0x0, 1, 0x0, 1, [⟨NOC_CNT_TMO.V, .ro, [], none⟩]⟩,
   ⟨0x28, 0x0, 1, 0x0, 1, [⟨NOC_CNT_LATE.V, .ro, [], none⟩]⟩,
   ⟨0x2c, 0x0, 1, 0x0, 1, [⟨NOC_CNT_DENY.V, .ro, [], none⟩]⟩,
   ⟨0x30, 0x0, 1, 0x0, 1, [⟨NOC_CNT_CLR.CLR, .wo, [], none⟩]⟩,
   ⟨0x34, 0x0, 1, 0x0, 1, [⟨NS_CLR.CLR, .wo, [], none⟩]⟩,
   ⟨0x40, 0x0, 1, 0x0, 1, [⟨NT_CTL.CLR, .wo, [], none⟩, ⟨NT_CTL.WRAP, .rw, [], none⟩, ⟨NT_CTL.EN, .rw, [], none⟩]⟩,
   ⟨0x44, 0x0, 1, 0x0, 1, [⟨NT_WPTR.FULL, .ro, [], none⟩, ⟨NT_WPTR.NEXT, .ro, [], none⟩]⟩,
   ⟨0x48, 0x0, 1, 0x0, 1, [⟨NT_LOST.V, .ro, [], none⟩]⟩,
   ⟨0x100, 0x4, 34, 0x0, 1, [⟨NOC_CRED.SCRED 0 0, .rws, [], some .nocS⟩, ⟨NOC_CRED.PCRED 0 0, .rws, [], some .nocP⟩]⟩,
   ⟨0x1000, 0x20, 32, 0x0, 1, [⟨NW_BASE_LO.V, .rws, [], none⟩]⟩,
   ⟨0x1004, 0x20, 32, 0x0, 1, [⟨NW_BASE_HI.V, .rws, [], none⟩]⟩,
   ⟨0x1008, 0x20, 32, 0x0, 1, [⟨NW_LIM_LO.V, .rws, [], none⟩]⟩,
   ⟨0x100c, 0x20, 32, 0x0, 1, [⟨NW_LIM_HI.V, .rws, [], none⟩]⟩,
   ⟨0x1010, 0x20, 32, 0x0, 1, [⟨NW_CFG.EN, .rws, [], none⟩, ⟨NW_CFG.PRIO, .rws, [], none⟩, ⟨NW_CFG.ACTION, .rws, [(2, 3)], none⟩, ⟨NW_CFG.OPS, .rws, [], none⟩, ⟨NW_CFG.INIT, .rws, [(1024, 65535)], none⟩]⟩,
   ⟨0x3000, 0x80, 7, 0x0, 1, [⟨NS_RDB_LO.V, .ro, [], none⟩]⟩]
def rowsNOC_1 : List RegRow :=
  [⟨0x3400, 0x80, 16, 0x0, 1, [⟨NS_RDB_LO.V, .ro, [], none⟩]⟩,
   ⟨0x3e00, 0x0, 1, 0x0, 1, [⟨NS_RDB_LO.V, .ro, [], none⟩]⟩,
   ⟨0x3004, 0x80, 7, 0x0, 1, [⟨NS_RDB_HI.V, .ro, [], none⟩]⟩,
   ⟨0x3404, 0x80, 16, 0x0, 1, [⟨NS_RDB_HI.V, .ro, [], none⟩]⟩,
   ⟨0x3e04, 0x0, 1, 0x0, 1, [⟨NS_RDB_HI.V, .ro, [], none⟩]⟩,
   ⟨0x3008, 0x80, 7, 0x0, 1, [⟨NS_WRB_LO.V, .ro, [], none⟩]⟩,
   ⟨0x3408, 0x80, 16, 0x0, 1, [⟨NS_WRB_LO.V, .ro, [], none⟩]⟩,
   ⟨0x3e08, 0x0, 1, 0x0, 1, [⟨NS_WRB_LO.V, .ro, [], none⟩]⟩,
   ⟨0x300c, 0x80, 7, 0x0, 1, [⟨NS_WRB_HI.V, .ro, [], none⟩]⟩,
   ⟨0x340c, 0x80, 16, 0x0, 1, [⟨NS_WRB_HI.V, .ro, [], none⟩]⟩,
   ⟨0x3e0c, 0x0, 1, 0x0, 1, [⟨NS_WRB_HI.V, .ro, [], none⟩]⟩,
   ⟨0x3040, 0x80, 7, 0x4, 16, [⟨NS_HIST.V, .ro, [], none⟩]⟩,
   ⟨0x3440, 0x80, 16, 0x4, 16, [⟨NS_HIST.V, .ro, [], none⟩]⟩,
   ⟨0x3e40, 0x4, 16, 0x0, 1, [⟨NS_HIST.V, .ro, [], none⟩]⟩,
   ⟨0x6000, 0x40, 8, 0x0, 1, [⟨NP_CFG.EN, .rw, [], none⟩, ⟨NP_CFG.TRACE, .rw, [], none⟩, ⟨NP_CFG.DIR, .rw, [(3, 3)], none⟩, ⟨NP_CFG.OPMASK, .rw, [], none⟩]⟩,
   ⟨0x6004, 0x40, 8, 0x0, 1, [⟨NP_INIT.MASK, .rw, [], none⟩, ⟨NP_INIT.VAL, .rw, [], none⟩]⟩,
   ⟨0x6008, 0x40, 8, 0x0, 1, [⟨NP_TGT.MASK, .rw, [], none⟩, ⟨NP_TGT.VAL, .rw, [], none⟩]⟩,
   ⟨0x600c, 0x40, 8, 0x0, 1, [⟨NP_ALO_LO.V, .rw, [], none⟩]⟩,
   ⟨0x6010, 0x40, 8, 0x0, 1, [⟨NP_ALO_HI.V, .rw, [], none⟩]⟩,
   ⟨0x6014, 0x40, 8, 0x0, 1, [⟨NP_AHI_LO.V, .rw, [], none⟩]⟩]
def rowsNOC_2 : List RegRow :=
  [⟨0x6018, 0x40, 8, 0x0, 1, [⟨NP_AHI_HI.V, .rw, [], none⟩]⟩,
   ⟨0x601c, 0x40, 8, 0x0, 1, [⟨NP_CNT.V, .ro, [], none⟩]⟩,
   ⟨0x6020, 0x40, 8, 0x0, 1, [⟨NP_BYTES_LO.V, .ro, [], none⟩]⟩,
   ⟨0x6024, 0x40, 8, 0x0, 1, [⟨NP_BYTES_HI.V, .ro, [], none⟩]⟩,
   ⟨0x10000, 0x4, 16384, 0x0, 1, [⟨NT_BUF.V, .ro, [], none⟩]⟩]
def rowsNOC : List RegRow := rowsNOC_0 ++ rowsNOC_1 ++ rowsNOC_2

/-! ## Block D2D (13_noc_and_die_links.md) -/
def D2D_THR.CRC : Fld := ⟨0x10, 16, 16, 0x40⟩
def D2D_THR.LANE : Fld := ⟨0x10, 0, 16, 0x10⟩
def D2D_CMD.ACK : Fld := ⟨0x14, 31, 1, 0x0⟩
def D2D_CMD.SWAP : Fld := ⟨0x14, 16, 1, 0x0⟩
def D2D_CMD.PLANE : Fld := ⟨0x14, 12, 4, 0x0⟩
def D2D_CMD.EDGE : Fld := ⟨0x14, 8, 1, 0x0⟩
def D2D_CMD.BUNDLE : Fld := ⟨0x14, 0, 5, 0x0⟩
def D2D_CRES.VALID : Fld := ⟨0x18, 31, 1, 0x0⟩
def D2D_CRES.ACKD : Fld := ⟨0x18, 30, 1, 0x1⟩
def D2D_CRES.STATUS : Fld := ⟨0x18, 27, 3, 0x0⟩
def D2D_CRES.SEQ : Fld := ⟨0x18, 0, 16, 0x0⟩
def D2D_LSEL.PLANE : Fld := ⟨0x1c, 12, 4, 0x0⟩
def D2D_LSEL.EDGE : Fld := ⟨0x1c, 8, 1, 0x0⟩
def D2D_LSEL.BUNDLE : Fld := ⟨0x1c, 0, 5, 0x0⟩
def D2D_LCNT.V : Fld := ⟨0x20, 0, 32, 0x0⟩
def D2D_LEYE.EYE : Fld := ⟨0x24, 0, 10, 0x0⟩
def D2D_BST.STATE : Fld := ⟨0x100, 29, 3, 0x1⟩
def D2D_BST.NOSPARE : Fld := ⟨0x100, 28, 1, 0x0⟩
def D2D_BST.SWAPPING : Fld := ⟨0x100, 27, 1, 0x0⟩
def D2D_BST.RCAL_LATE : Fld := ⟨0x100, 26, 1, 0x0⟩
def D2D_BST.FREE : Fld := ⟨0x100, 24, 2, 0x0⟩
def D2D_LMAP_LO.V : Fld := ⟨0x104, 0, 32, 0x0⟩
def D2D_LMAP_HI.V : Fld := ⟨0x108, 0, 12, 0x0⟩
def D2D_CNT_CRC.V : Fld := ⟨0x10c, 0, 32, 0x0⟩
def D2D_CNT_RPL.V : Fld := ⟨0x110, 0, 32, 0x0⟩
def D2D_CNT_SWAP.V : Fld := ⟨0x114, 0, 8, 0x0⟩
def rowsD2D : List RegRow :=
  [⟨0x10, 0x0, 1, 0x0, 1, [⟨D2D_THR.CRC, .rw, [], none⟩, ⟨D2D_THR.LANE, .rw, [], none⟩]⟩,
   ⟨0x14, 0x0, 1, 0x0, 1, [⟨D2D_CMD.ACK, .wo, [], none⟩, ⟨D2D_CMD.SWAP, .wo, [], none⟩, ⟨D2D_CMD.PLANE, .wo, [(11, 15)], none⟩, ⟨D2D_CMD.EDGE, .wo, [], none⟩, ⟨D2D_CMD.BUNDLE, .wo, [(21, 31)], none⟩]⟩,
   ⟨0x18, 0x0, 1, 0x0, 1, [⟨D2D_CRES.VALID, .ro, [], none⟩, ⟨D2D_CRES.ACKD, .ro, [], none⟩, ⟨D2D_CRES.STATUS, .ro, [], none⟩, ⟨D2D_CRES.SEQ, .ro, [], none⟩]⟩,
   ⟨0x1c, 0x0, 1, 0x0, 1, [⟨D2D_LSEL.PLANE, .rw, [(11, 15)], none⟩, ⟨D2D_LSEL.EDGE, .rw, [], none⟩, ⟨D2D_LSEL.BUNDLE, .rw, [(21, 31)], none⟩]⟩,
   ⟨0x20, 0x0, 1, 0x0, 1, [⟨D2D_LCNT.V, .ro, [], none⟩]⟩,
   ⟨0x24, 0x0, 1, 0x0, 1, [⟨D2D_LEYE.EYE, .ro, [], none⟩]⟩,
   ⟨0x100, 0x400, 2, 0x20, 21, [⟨D2D_BST.STATE, .ro, [], none⟩, ⟨D2D_BST.NOSPARE, .ro, [], none⟩, ⟨D2D_BST.SWAPPING, .ro, [], none⟩, ⟨D2D_BST.RCAL_LATE, .ro, [], none⟩, ⟨D2D_BST.FREE, .ro, [], none⟩]⟩,
   ⟨0x104, 0x400, 2, 0x20, 21, [⟨D2D_LMAP_LO.V, .ro, [], none⟩]⟩,
   ⟨0x108, 0x400, 2, 0x20, 21, [⟨D2D_LMAP_HI.V, .ro, [], none⟩]⟩,
   ⟨0x10c, 0x400, 2, 0x20, 21, [⟨D2D_CNT_CRC.V, .ro, [], none⟩]⟩,
   ⟨0x110, 0x400, 2, 0x20, 21, [⟨D2D_CNT_RPL.V, .ro, [], none⟩]⟩,
   ⟨0x114, 0x400, 2, 0x20, 21, [⟨D2D_CNT_SWAP.V, .ro, [], none⟩]⟩]

/-! ## Block GPT (00_scope.md) -/
def rowsGPT : List RegRow := []

/-! ## Block MP (14_memory_ports.md) -/
def MP_CFG.RATE : Fld := ⟨0x10, 0, 3, 0x4⟩
def MP_CMD.ACK : Fld := ⟨0x14, 1, 1, 0x0⟩
def MP_CMD.RETRAIN : Fld := ⟨0x14, 0, 1, 0x0⟩
def MP_TRES.VALID : Fld := ⟨0x18, 31, 1, 0x0⟩
def MP_TRES.ACKD : Fld := ⟨0x18, 30, 1, 0x1⟩
def MP_TRES.STATUS : Fld := ⟨0x18, 27, 3, 0x0⟩
def MP_TRES.SEQ : Fld := ⟨0x18, 0, 16, 0x0⟩
def MP_DIMM.SIZE : Fld := ⟨0x1c, 24, 8, 0x0⟩
def MP_DIMM.RANKS : Fld := ⟨0x1c, 16, 2, 0x0⟩
def MP_DIMM.WIDTH : Fld := ⟨0x1c, 12, 1, 0x0⟩
def MP_DIMM.DENS : Fld := ⟨0x1c, 0, 8, 0x0⟩
def MP_TEMP.VALID : Fld := ⟨0x20, 31, 1, 0x0⟩
def MP_TEMP.HOT : Fld := ⟨0x20, 16, 1, 0x0⟩
def MP_TEMP.TEMP : Fld := ⟨0x20, 0, 16, 0x0⟩
def MP_STAT.REJ : Fld := ⟨0x24, 0, 1, 0x0⟩
def MR_STAT.CATCHUP : Fld := ⟨0x30, 8, 1, 0x0⟩
def MR_STAT.DMAX : Fld := ⟨0x30, 0, 3, 0x0⟩
def MR_CNT_SB.V : Fld := ⟨0x34, 0, 32, 0x0⟩
def MR_CNT_FORCED.V : Fld := ⟨0x38, 0, 32, 0x0⟩
def MR_CNT_AB.V : Fld := ⟨0x3c, 0, 32, 0x0⟩
def MQ_CFG.PAN : Fld := ⟨0x100, 31, 1, 0x0⟩
def MQ_CFG.TARGET : Fld := ⟨0x100, 0, 16, 0xfa0⟩
def MQ_MISS.V : Fld := ⟨0x140, 0, 32, 0x0⟩
def MQ_MAP.S0 : Fld := ⟨0x180, 0, 4, 0x0⟩
def MQ_MAP.S1 : Fld := ⟨0x180, 4, 4, 0x0⟩
def MQ_MAP.S2 : Fld := ⟨0x180, 8, 4, 0x0⟩
def MQ_MAP.S3 : Fld := ⟨0x180, 12, 4, 0x0⟩
def MQ_MAP.S4 : Fld := ⟨0x180, 16, 4, 0x0⟩
def MQ_MAP.S5 : Fld := ⟨0x180, 20, 4, 0x0⟩
def MQ_MAP.S6 : Fld := ⟨0x180, 24, 4, 0x0⟩
def MQ_MAP.S7 : Fld := ⟨0x180, 28, 4, 0x0⟩
def MP_IL.ILSIZE : Fld := ⟨0x200, 0, 6, 0x20⟩
def MW_CFG.EN : Fld := ⟨0x210, 31, 1, 0x0⟩
def MW_CFG.PORT : Fld := ⟨0x210, 16, 3, 0x0⟩
def MW_CFG.BASE : Fld := ⟨0x210, 8, 8, 0x0⟩
def MW_CFG.SIZE : Fld := ⟨0x210, 0, 8, 0x0⟩
def MW_PBASE.PBASE : Fld := ⟨0x214, 0, 6, 0x0⟩
def MP_PURGED.V : Fld := ⟨0x300, 0, 32, 0x0⟩
def EG_FILL.ACTIVE : Fld := ⟨0x458, 0, 7, 0x0⟩
def EG_FILLWAIT.V : Fld := ⟨0x45c, 0, 32, 0x0⟩
def rowsMP_0 : List RegRow :=
  [⟨0x10, 0x0, 1, 0x0, 1, [⟨MP_CFG.RATE, .rws, [(5, 7)], none⟩]⟩,
   ⟨0x14, 0x0, 1, 0x0, 1, [⟨MP_CMD.ACK, .wo, [], none⟩, ⟨MP_CMD.RETRAIN, .wo, [], none⟩]⟩,
   ⟨0x18, 0x0, 1, 0x0, 1, [⟨MP_TRES.VALID, .ro, [], none⟩, ⟨MP_TRES.ACKD, .ro, [], none⟩, ⟨MP_TRES.STATUS, .ro, [], none⟩, ⟨MP_TRES.SEQ, .ro, [], none⟩]⟩,
   ⟨0x1c, 0x0, 1, 0x0, 1, [⟨MP_DIMM.SIZE, .ro, [], none⟩, ⟨MP_DIMM.RANKS, .ro, [], none⟩, ⟨MP_DIMM.WIDTH, .ro, [], none⟩, ⟨MP_DIMM.DENS, .ro, [], none⟩]⟩,
   ⟨0x20, 0x0, 1, 0x0, 1, [⟨MP_TEMP.VALID, .ro, [], none⟩, ⟨MP_TEMP.HOT, .ro, [], none⟩, ⟨MP_TEMP.TEMP, .ro, [], none⟩]⟩,
   ⟨0x24, 0x0, 1, 0x0, 1, [⟨MP_STAT.REJ, .w1c, [], none⟩]⟩,
   ⟨0x30, 0x0, 1, 0x0, 1, [⟨MR_STAT.CATCHUP, .ro, [], none⟩, ⟨MR_STAT.DMAX, .ro, [], none⟩]⟩,
   ⟨0x34, 0x0, 1, 0x0, 1, [⟨MR_CNT_SB.V, .ro, [], none⟩]⟩,
   ⟨0x38, 0x0, 1, 0x0, 1, [⟨MR_CNT_FORCED.V, .ro, [], none⟩]⟩,
   ⟨0x3c, 0x0, 1, 0x0, 1, [⟨MR_CNT_AB.V, .ro, [], none⟩]⟩,
   ⟨0x100, 0x4, 16, 0x0, 1, [⟨MQ_CFG.PAN, .rw, [], none⟩, ⟨MQ_CFG.TARGET, .rw, [(0, 0)], none⟩]⟩,
   ⟨0x140, 0x4, 16, 0x0, 1, [⟨MQ_MISS.V, .ro, [], none⟩]⟩,
   ⟨0x180, 0x4, 4, 0x0, 1, [⟨MQ_MAP.S0, .rw, [], none⟩, ⟨MQ_MAP.S1, .rw, [], none⟩, ⟨MQ_MAP.S2, .rw, [], none⟩, ⟨MQ_MAP.S3, .rw, [], none⟩, ⟨MQ_MAP.S4, .rw, [], none⟩, ⟨MQ_MAP.S5, .rw, [], none⟩, ⟨MQ_MAP.S6, .rw, [], none⟩, ⟨MQ_MAP.S7, .rw, [], none⟩]⟩,
   ⟨0x190, 0x0, 1, 0x0, 1, [⟨MQ_MAP.S0, .rw, [], none⟩, ⟨MQ_MAP.S1, .rw, [], none⟩]⟩,
   ⟨0x200, 0x0, 1, 0x0, 1, [⟨MP_IL.ILSIZE, .rws, [(33, 63)], none⟩]⟩,
   ⟨0x210, 0x10, 8, 0x0, 1, [⟨MW_CFG.EN, .rws, [], none⟩, ⟨MW_CFG.PORT, .rws, [], none⟩, ⟨MW_CFG.BASE, .rws, [], none⟩, ⟨MW_CFG.SIZE, .rws, [(0, 0)], none⟩]⟩,
   ⟨0x214, 0x10, 8, 0x0, 1, [⟨MW_PBASE.PBASE, .rws, [], none⟩]⟩,
   ⟨0x300, 0x4, 16, 0x0, 1, [⟨MP_PURGED.V, .ro, [], none⟩]⟩,
   ⟨0x400, 0x0, 1, 0x0, 1, [⟨EG_CTL.INV, .wo, [], none⟩, ⟨EG_CTL.RAW, .rw, [], none⟩, ⟨EG_CTL.DIAG, .rw, [], none⟩]⟩,
   ⟨0x404, 0x0, 1, 0x0, 1, [⟨EG_WIN.PAGE, .rw, [], none⟩]⟩]
def rowsMP_1 : List RegRow :=
  [⟨0x408, 0x0, 1, 0x0, 1, [⟨EG_STAT.VALID, .w1c, [], none⟩, ⟨EG_STAT.KIND, .ro, [], none⟩, ⟨EG_STAT.SYN, .ro, [], none⟩, ⟨EG_STAT.INVBUSY, .ro, [], none⟩]⟩,
   ⟨0x40c, 0x0, 1, 0x0, 1, [⟨EG_ADDR_LO.V, .ro, [], none⟩]⟩,
   ⟨0x410, 0x0, 1, 0x0, 1, [⟨EG_ADDR_HI.V, .ro, [], none⟩]⟩,
   ⟨0x414, 0x0, 1, 0x0, 1, [⟨EG_CNT_CE.V, .ro, [], none⟩]⟩,
   ⟨0x418, 0x0, 1, 0x0, 1, [⟨EG_CNT_UE.V, .ro, [], none⟩]⟩,
   ⟨0x41c, 0x0, 1, 0x0, 1, [⟨EG_CNT_PSN.V, .ro, [], none⟩]⟩,
   ⟨0x420, 0x0, 1, 0x0, 1, [⟨EG_CNT_CLR.CLR, .wo, [], none⟩]⟩,
   ⟨0x430, 0x0, 1, 0x4, 4, [⟨EG_FLIP.V, .rw, [], none⟩]⟩,
   ⟨0x440, 0x0, 1, 0x4, 4, [⟨EG_RAW.V, .ro, [], none⟩]⟩,
   ⟨0x450, 0x0, 1, 0x0, 1, [⟨EG_IBASE.V, .rw, [], none⟩]⟩,
   ⟨0x454, 0x0, 1, 0x0, 1, [⟨EG_ICNT.V, .rw, [], none⟩]⟩,
   ⟨0x458, 0x0, 1, 0x0, 1, [⟨EG_FILL.ACTIVE, .ro, [], none⟩]⟩,
   ⟨0x45c, 0x0, 1, 0x0, 1, [⟨EG_FILLWAIT.V, .ro, [], none⟩]⟩]
def rowsMP : List RegRow := rowsMP_0 ++ rowsMP_1

/-! ## Block IME (14_memory_ports.md) -/
def MI_KCMD.ACK : Fld := ⟨0x10, 31, 1, 0x0⟩
def MI_KCMD.PORT : Fld := ⟨0x10, 16, 1, 0x0⟩
def MI_KCMD.SLOT : Fld := ⟨0x10, 8, 4, 0x0⟩
def MI_KCMD.OP : Fld := ⟨0x10, 0, 3, 0x0⟩
def MI_KRES.VALID : Fld := ⟨0x14, 31, 1, 0x0⟩
def MI_KRES.ACKD : Fld := ⟨0x14, 30, 1, 0x1⟩
def MI_KRES.STATUS : Fld := ⟨0x14, 27, 3, 0x0⟩
def MI_KRES.SEQ : Fld := ⟨0x14, 0, 16, 0x0⟩
def MI_KEPOCH.EPOCH : Fld := ⟨0x18, 0, 16, 0x0⟩
def MI_STAT.REJ : Fld := ⟨0x1c, 0, 1, 0x0⟩
def MI_KWRAP.V : Fld := ⟨0x20, 0, 32, 0x0⟩
def MI_KINFO.VALID : Fld := ⟨0x140, 31, 1, 0x0⟩
def MI_KINFO.RETIRE_PENDING : Fld := ⟨0x140, 30, 1, 0x0⟩
def MI_KINFO.REFS : Fld := ⟨0x140, 16, 4, 0x0⟩
def MI_KINFO.EPOCH : Fld := ⟨0x140, 0, 16, 0x0⟩
def MI_RBASE.V : Fld := ⟨0x200, 0, 23, 0x0⟩
def MI_RLIM.V : Fld := ⟨0x204, 0, 23, 0x0⟩
def MI_RCFG.EN : Fld := ⟨0x208, 31, 1, 0x0⟩
def MI_RCFG.SITEV : Fld := ⟨0x208, 30, 1, 0x0⟩
def MI_RCFG.SITE : Fld := ⟨0x208, 16, 4, 0x0⟩
def MI_RCFG.KEY : Fld := ⟨0x208, 0, 4, 0x0⟩
def MI_SWCTL.GO : Fld := ⟨0x300, 31, 1, 0x0⟩
def MI_SWCTL.ACK : Fld := ⟨0x300, 30, 1, 0x0⟩
def MI_SWCTL.RESUME : Fld := ⟨0x300, 29, 1, 0x0⟩
def MI_SWCTL.RANGE : Fld := ⟨0x300, 4, 3, 0x0⟩
def MI_SWCTL.NEWKEY : Fld := ⟨0x300, 0, 4, 0x0⟩
def MI_SWRES.VALID : Fld := ⟨0x304, 31, 1, 0x0⟩
def MI_SWRES.ACKD : Fld := ⟨0x304, 30, 1, 0x1⟩
def MI_SWRES.STATUS : Fld := ⟨0x304, 27, 3, 0x0⟩
def MI_SWRES.SEQ : Fld := ⟨0x304, 0, 16, 0x0⟩
def MI_SWPTR.V : Fld := ⟨0x308, 0, 29, 0x0⟩
def MI_SWPSN.V : Fld := ⟨0x30c, 0, 32, 0x0⟩
def MI_CNT_INVK.V : Fld := ⟨0x310, 0, 32, 0x0⟩
def MI_CNT_SITE.V : Fld := ⟨0x314, 0, 32, 0x0⟩
def rowsIME : List RegRow :=
  [⟨0x10, 0x0, 1, 0x0, 1, [⟨MI_KCMD.ACK, .wo, [], none⟩, ⟨MI_KCMD.PORT, .wo, [], none⟩, ⟨MI_KCMD.SLOT, .wo, [], none⟩, ⟨MI_KCMD.OP, .wo, [], none⟩]⟩,
   ⟨0x14, 0x0, 1, 0x0, 1, [⟨MI_KRES.VALID, .ro, [], none⟩, ⟨MI_KRES.ACKD, .ro, [], none⟩, ⟨MI_KRES.STATUS, .ro, [], none⟩, ⟨MI_KRES.SEQ, .ro, [], none⟩]⟩,
   ⟨0x18, 0x0, 1, 0x0, 1, [⟨MI_KEPOCH.EPOCH, .rw, [], none⟩]⟩,
   ⟨0x1c, 0x0, 1, 0x0, 1, [⟨MI_STAT.REJ, .w1c, [], none⟩]⟩,
   ⟨0x20, 0x4, 10, 0x0, 1, [⟨MI_KWRAP.V, .rw, [], none⟩]⟩,
   ⟨0x140, 0x400, 2, 0x4, 16, [⟨MI_KINFO.VALID, .ro, [], none⟩, ⟨MI_KINFO.RETIRE_PENDING, .ro, [], none⟩, ⟨MI_KINFO.REFS, .ro, [], none⟩, ⟨MI_KINFO.EPOCH, .ro, [], none⟩]⟩,
   ⟨0x200, 0x400, 2, 0x10, 8, [⟨MI_RBASE.V, .rws, [], none⟩]⟩,
   ⟨0x204, 0x400, 2, 0x10, 8, [⟨MI_RLIM.V, .rws, [], none⟩]⟩,
   ⟨0x208, 0x400, 2, 0x10, 8, [⟨MI_RCFG.EN, .rws, [], none⟩, ⟨MI_RCFG.SITEV, .rws, [], none⟩, ⟨MI_RCFG.SITE, .rws, [], none⟩, ⟨MI_RCFG.KEY, .rws, [], none⟩]⟩,
   ⟨0x300, 0x400, 2, 0x0, 1, [⟨MI_SWCTL.GO, .wo, [], none⟩, ⟨MI_SWCTL.ACK, .wo, [], none⟩, ⟨MI_SWCTL.RESUME, .wo, [], none⟩, ⟨MI_SWCTL.RANGE, .wo, [], none⟩, ⟨MI_SWCTL.NEWKEY, .wo, [], none⟩]⟩,
   ⟨0x304, 0x400, 2, 0x0, 1, [⟨MI_SWRES.VALID, .ro, [], none⟩, ⟨MI_SWRES.ACKD, .ro, [], none⟩, ⟨MI_SWRES.STATUS, .ro, [], none⟩, ⟨MI_SWRES.SEQ, .ro, [], none⟩]⟩,
   ⟨0x308, 0x400, 2, 0x0, 1, [⟨MI_SWPTR.V, .ro, [], none⟩]⟩,
   ⟨0x30c, 0x400, 2, 0x0, 1, [⟨MI_SWPSN.V, .ro, [], none⟩]⟩,
   ⟨0x310, 0x400, 2, 0x0, 1, [⟨MI_CNT_INVK.V, .ro, [], none⟩]⟩,
   ⟨0x314, 0x400, 2, 0x0, 1, [⟨MI_CNT_SITE.V, .ro, [], none⟩]⟩]

/-! ## Block GSL (15_system_links_and_host.md) -/
def GSL_LIFE.MS : Fld := ⟨0x10, 0, 10, 0xa⟩
def GSL_LKG_ID.EN : Fld := ⟨0x100, 31, 1, 0x0⟩
def GSL_LKG_ID.GID : Fld := ⟨0x100, 0, 16, 0x0⟩
def GSL_LKG_PORTS.MASK : Fld := ⟨0x104, 0, 24, 0x0⟩
def GSL_PCTL.EN : Fld := ⟨0x1000, 31, 1, 0x1⟩
def GSL_PCTL.RATE : Fld := ⟨0x1000, 24, 3, 0x4⟩
def GSL_PCTL.LOOP : Fld := ⟨0x1000, 20, 3, 0x0⟩
def GSL_PCTL.FARLB_OK : Fld := ⟨0x1000, 16, 1, 0x0⟩
def GSL_PCTL.REQENC : Fld := ⟨0x1000, 12, 1, 0x0⟩
def GSL_PCTL.ENC : Fld := ⟨0x1000, 8, 1, 0x0⟩
def GSL_PCTL.TXKEY : Fld := ⟨0x1000, 4, 2, 0x0⟩
def GSL_HOLD.MS : Fld := ⟨0x1004, 0, 10, 0xa⟩
def GSL_PSTAT.STATE : Fld := ⟨0x1008, 29, 3, 0x0⟩
def GSL_PSTAT.CAUSE : Fld := ⟨0x1008, 26, 3, 0x0⟩
def GSL_PSTAT.POL : Fld := ⟨0x1008, 20, 4, 0x0⟩
def GSL_PSTAT.ORDER : Fld := ⟨0x1008, 12, 8, 0x0⟩
def GSL_PSTAT.RATE : Fld := ⟨0x1008, 0, 3, 0x0⟩
def GSL_PEER.VALID : Fld := ⟨0x100c, 31, 1, 0x0⟩
def GSL_PEER.DEV : Fld := ⟨0x100c, 0, 14, 0x0⟩
def GSL_PEPOCH.MINPEER : Fld := ⟨0x1010, 16, 16, 0x0⟩
def GSL_PEPOCH.EPOCH : Fld := ⟨0x1010, 0, 16, 0x0⟩
def GSL_CNT_CRC.V : Fld := ⟨0x1014, 0, 32, 0x0⟩
def GSL_CNT_AUTH.V : Fld := ⟨0x1018, 0, 32, 0x0⟩
def GSL_CNT_FECC.V : Fld := ⟨0x101c, 0, 32, 0x0⟩
def GSL_CNT_FECU.V : Fld := ⟨0x1020, 0, 32, 0x0⟩
def GSL_CNT_REPLAY.V : Fld := ⟨0x1024, 0, 32, 0x0⟩
def GSL_CNT_DOWN.V : Fld := ⟨0x1028, 0, 32, 0x0⟩
def GSL_CNT_LOST.V : Fld := ⟨0x102c, 0, 32, 0x0⟩
def GSL_CNT_NODEV.V : Fld := ⟨0x1030, 0, 32, 0x0⟩
def GSL_CNT_RSVD.V : Fld := ⟨0x1034, 0, 32, 0x0⟩
def GSL_CNT_NOROUTE.V : Fld := ⟨0x1038, 0, 32, 0x0⟩
def GSL_CNT_STALL.V : Fld := ⟨0x103c, 0, 32, 0x0⟩
def GSL_KCMD.ACK : Fld := ⟨0x1040, 31, 1, 0x0⟩
def GSL_KCMD.SLOT : Fld := ⟨0x1040, 8, 2, 0x0⟩
def GSL_KCMD.OP : Fld := ⟨0x1040, 0, 2, 0x0⟩
def GSL_KRES.VALID : Fld := ⟨0x1044, 31, 1, 0x0⟩
def GSL_KRES.ACKD : Fld := ⟨0x1044, 30, 1, 0x1⟩
def GSL_KRES.STATUS : Fld := ⟨0x1044, 27, 3, 0x0⟩
def GSL_KRES.SEQ : Fld := ⟨0x1044, 0, 16, 0x0⟩
def GSL_KWRAP.V : Fld := ⟨0x1048, 0, 32, 0x0⟩
def GSL_KINFO.VALID : Fld := ⟨0x1070, 31, 1, 0x0⟩
def GSL_KINFO.RETIRE_PENDING : Fld := ⟨0x1070, 30, 1, 0x0⟩
def GSL_PRBS.V : Fld := ⟨0x1080, 0, 32, 0x0⟩
def GSL_CNT_CLR.CLR : Fld := ⟨0x1084, 0, 11, 0x0⟩
def GSL_RT.PV : Fld := ⟨0x10000, 31, 1, 0x0⟩
def GSL_RT.PRIM : Fld := ⟨0x10000, 24, 5, 0x0⟩
def GSL_RT.AV : Fld := ⟨0x10000, 23, 1, 0x0⟩
def GSL_RT.ALT : Fld := ⟨0x10000, 16, 5, 0x0⟩
def rowsGSL_0 : List RegRow :=
  [⟨0x10, 0x0, 1, 0x0, 1, [⟨GSL_LIFE.MS, .rw, [(0, 0), (1001, 1023)], none⟩]⟩,
   ⟨0x100, 0x8, 32, 0x0, 1, [⟨GSL_LKG_ID.EN, .rws, [], none⟩, ⟨GSL_LKG_ID.GID, .rws, [], none⟩]⟩,
   ⟨0x104, 0x8, 32, 0x0, 1, [⟨GSL_LKG_PORTS.MASK, .rws, [], none⟩]⟩,
   ⟨0x1000, 0x100, 6, 0x0, 1, [⟨GSL_PCTL.EN, .rws, [], none⟩, ⟨GSL_PCTL.RATE, .rws, [(6, 7)], none⟩, ⟨GSL_PCTL.LOOP, .rws, [(4, 7)], none⟩, ⟨GSL_PCTL.FARLB_OK, .rw, [], none⟩, ⟨GSL_PCTL.REQENC, .rws, [], none⟩, ⟨GSL_PCTL.ENC, .rws, [], none⟩, ⟨GSL_PCTL.TXKEY, .rws, [], none⟩]⟩,
   ⟨0x1004, 0x100, 6, 0x0, 1, [⟨GSL_HOLD.MS, .rw, [(1001, 1023)], none⟩]⟩,
   ⟨0x1008, 0x100, 6, 0x0, 1, [⟨GSL_PSTAT.STATE, .ro, [], none⟩, ⟨GSL_PSTAT.CAUSE, .ro, [], none⟩, ⟨GSL_PSTAT.POL, .ro, [], none⟩, ⟨GSL_PSTAT.ORDER, .ro, [], none⟩, ⟨GSL_PSTAT.RATE, .ro, [], none⟩]⟩,
   ⟨0x100c, 0x100, 6, 0x0, 1, [⟨GSL_PEER.VALID, .ro, [], none⟩, ⟨GSL_PEER.DEV, .ro, [], none⟩]⟩,
   ⟨0x1010, 0x100, 6, 0x0, 1, [⟨GSL_PEPOCH.MINPEER, .ro, [], none⟩, ⟨GSL_PEPOCH.EPOCH, .ro, [], none⟩]⟩,
   ⟨0x1014, 0x100, 6, 0x0, 1, [⟨GSL_CNT_CRC.V, .ro, [], none⟩]⟩,
   ⟨0x1018, 0x100, 6, 0x0, 1, [⟨GSL_CNT_AUTH.V, .ro, [], none⟩]⟩,
   ⟨0x101c, 0x100, 6, 0x0, 1, [⟨GSL_CNT_FECC.V, .ro, [], none⟩]⟩,
   ⟨0x1020, 0x100, 6, 0x0, 1, [⟨GSL_CNT_FECU.V, .ro, [], none⟩]⟩,
   ⟨0x1024, 0x100, 6, 0x0, 1, [⟨GSL_CNT_REPLAY.V, .ro, [], none⟩]⟩,
   ⟨0x1028, 0x100, 6, 0x0, 1, [⟨GSL_CNT_DOWN.V, .ro, [], none⟩]⟩,
   ⟨0x102c, 0x100, 6, 0x0, 1, [⟨GSL_CNT_LOST.V, .ro, [], none⟩]⟩,
   ⟨0x1030, 0x100, 6, 0x0, 1, [⟨GSL_CNT_NODEV.V, .ro, [], none⟩]⟩,
   ⟨0x1034, 0x100, 6, 0x0, 1, [⟨GSL_CNT_RSVD.V, .ro, [], none⟩]⟩,
   ⟨0x1038, 0x100, 6, 0x0, 1, [⟨GSL_CNT_NOROUTE.V, .ro, [], none⟩]⟩,
   ⟨0x103c, 0x100, 6, 0x0, 1, [⟨GSL_CNT_STALL.V, .ro, [], none⟩]⟩,
   ⟨0x1040, 0x100, 6, 0x0, 1, [⟨GSL_KCMD.ACK, .wo, [], none⟩, ⟨GSL_KCMD.SLOT, .wo, [], none⟩, ⟨GSL_KCMD.OP, .wo, [], none⟩]⟩]
def rowsGSL_1 : List RegRow :=
  [⟨0x1044, 0x100, 6, 0x0, 1, [⟨GSL_KRES.VALID, .ro, [], none⟩, ⟨GSL_KRES.ACKD, .ro, [], none⟩, ⟨GSL_KRES.STATUS, .ro, [], none⟩, ⟨GSL_KRES.SEQ, .ro, [], none⟩]⟩,
   ⟨0x1048, 0x100, 6, 0x4, 10, [⟨GSL_KWRAP.V, .rw, [], none⟩]⟩,
   ⟨0x1070, 0x100, 6, 0x4, 4, [⟨GSL_KINFO.VALID, .ro, [], none⟩, ⟨GSL_KINFO.RETIRE_PENDING, .ro, [], none⟩]⟩,
   ⟨0x1080, 0x100, 6, 0x0, 1, [⟨GSL_PRBS.V, .ro, [], none⟩]⟩,
   ⟨0x1084, 0x100, 6, 0x0, 1, [⟨GSL_CNT_CLR.CLR, .wo, [], none⟩]⟩,
   ⟨0x10000, 0x4, 16384, 0x0, 1, [⟨GSL_RT.PV, .rws, [], none⟩, ⟨GSL_RT.PRIM, .rws, [(24, 31)], none⟩, ⟨GSL_RT.AV, .rws, [], none⟩, ⟨GSL_RT.ALT, .rws, [(24, 31)], none⟩]⟩]
def rowsGSL : List RegRow := rowsGSL_0 ++ rowsGSL_1

/-! ## Block HST (15_system_links_and_host.md) -/
def HST_CFG.RO : Fld := ⟨0x10, 0, 1, 0x0⟩
def HST_LINK.UP : Fld := ⟨0x14, 31, 1, 0x0⟩
def HST_LINK.SPEED : Fld := ⟨0x14, 16, 4, 0x0⟩
def HST_LINK.WIDTH : Fld := ⟨0x14, 8, 5, 0x0⟩
def HST_LINK.FLIT : Fld := ⟨0x14, 0, 1, 0x0⟩
def HST_W2BASE_LO.V : Fld := ⟨0x18, 30, 2, 0x0⟩
def HST_W2BASE_HI.V : Fld := ⟨0x1c, 0, 8, 0x0⟩
def HST_CNT_UR.V : Fld := ⟨0x20, 0, 32, 0x0⟩
def HST_DMA_OWN.VF : Fld := ⟨0x100, 31, 1, 0x0⟩
def HST_DMA_OWN.VFN : Fld := ⟨0x100, 0, 4, 0x0⟩
def DMA_RBASE_LO.V : Fld := ⟨0x1000, 5, 27, 0x0⟩
def DMA_RBASE_HI.V : Fld := ⟨0x1004, 0, 32, 0x0⟩
def DMA_RSIZE.V : Fld := ⟨0x1008, 0, 5, 0x4⟩
def DMA_PROD.V : Fld := ⟨0x100c, 0, 32, 0x0⟩
def DMA_CONS.V : Fld := ⟨0x1010, 0, 32, 0x0⟩
def DMA_CTL.CANCEL : Fld := ⟨0x1014, 2, 1, 0x0⟩
def DMA_CTL.RESUME : Fld := ⟨0x1014, 1, 1, 0x0⟩
def DMA_CTL.EN : Fld := ⟨0x1014, 0, 1, 0x0⟩
def DMA_STAT.STATE : Fld := ⟨0x1018, 30, 2, 0x0⟩
def DMA_STAT.LAST : Fld := ⟨0x1018, 0, 8, 0x0⟩
def DMA_PURGED.V : Fld := ⟨0x101c, 0, 32, 0x0⟩
def rowsHST : List RegRow :=
  [⟨0x10, 0x0, 1, 0x0, 1, [⟨HST_CFG.RO, .rw, [], none⟩]⟩,
   ⟨0x14, 0x0, 1, 0x0, 1, [⟨HST_LINK.UP, .ro, [], none⟩, ⟨HST_LINK.SPEED, .ro, [], none⟩, ⟨HST_LINK.WIDTH, .ro, [], none⟩, ⟨HST_LINK.FLIT, .ro, [], none⟩]⟩,
   ⟨0x18, 0x0, 1, 0x0, 1, [⟨HST_W2BASE_LO.V, .rws, [], none⟩]⟩,
   ⟨0x1c, 0x0, 1, 0x0, 1, [⟨HST_W2BASE_HI.V, .rws, [], none⟩]⟩,
   ⟨0x20, 0x0, 1, 0x0, 1, [⟨HST_CNT_UR.V, .ro, [], none⟩]⟩,
   ⟨0x100, 0x4, 32, 0x0, 1, [⟨HST_DMA_OWN.VF, .rws, [], none⟩, ⟨HST_DMA_OWN.VFN, .rws, [], none⟩]⟩,
   ⟨0x1000, 0x40, 32, 0x0, 1, [⟨DMA_RBASE_LO.V, .rw, [], none⟩]⟩,
   ⟨0x1004, 0x40, 32, 0x0, 1, [⟨DMA_RBASE_HI.V, .rw, [], none⟩]⟩,
   ⟨0x1008, 0x40, 32, 0x0, 1, [⟨DMA_RSIZE.V, .rw, [(0, 3), (17, 31)], none⟩]⟩,
   ⟨0x100c, 0x40, 32, 0x0, 1, [⟨DMA_PROD.V, .rw, [], none⟩]⟩,
   ⟨0x1010, 0x40, 32, 0x0, 1, [⟨DMA_CONS.V, .ro, [], none⟩]⟩,
   ⟨0x1014, 0x40, 32, 0x0, 1, [⟨DMA_CTL.CANCEL, .wo, [], none⟩, ⟨DMA_CTL.RESUME, .wo, [], none⟩, ⟨DMA_CTL.EN, .rw, [], none⟩]⟩,
   ⟨0x1018, 0x40, 32, 0x0, 1, [⟨DMA_STAT.STATE, .ro, [], none⟩, ⟨DMA_STAT.LAST, .ro, [], none⟩]⟩,
   ⟨0x101c, 0x40, 32, 0x0, 1, [⟨DMA_PURGED.V, .ro, [], none⟩]⟩]

/-! ## Block PTB (05_time_base_and_lockstep.md) -/
def PTB_CFG.HIBKEEP : Fld := ⟨0x10, 31, 1, 0x0⟩
def PTB_CFG.PPORT : Fld := ⟨0x10, 8, 5, 0x0⟩
def PTB_CFG.FSRC : Fld := ⟨0x10, 4, 2, 0x0⟩
def PTB_CFG.ROLE : Fld := ⟨0x10, 0, 2, 0x0⟩
def PTB_STAT.STATE : Fld := ⟨0x14, 29, 3, 0x0⟩
def PTB_STAT.INSYNC : Fld := ⟨0x14, 28, 1, 0x0⟩
def PTB_STAT.PWAIT : Fld := ⟨0x14, 27, 1, 0x0⟩
def PTB_STAT.DEFER : Fld := ⟨0x14, 26, 1, 0x0⟩
def PTB_STAT.FIRST : Fld := ⟨0x14, 25, 1, 0x1⟩
def PTB_STAT.AHEAD : Fld := ⟨0x14, 24, 1, 0x0⟩
def PTB_STAT.LCAUSE : Fld := ⟨0x14, 16, 4, 0x0⟩
def PTB_STAT.HOPS : Fld := ⟨0x14, 0, 14, 0x0⟩
def PTB_NOW_LO.V : Fld := ⟨0x18, 0, 32, 0x0⟩
def PTB_NOW_HI.V : Fld := ⟨0x1c, 0, 32, 0x0⟩
def PTB_CMD.RELOAD : Fld := ⟨0x20, 1, 1, 0x0⟩
def PTB_CMD.SNAP : Fld := ⟨0x20, 0, 1, 0x0⟩
def PTB_SNAP_LO.V : Fld := ⟨0x24, 0, 32, 0x0⟩
def PTB_SNAP_HI.V : Fld := ⟨0x28, 0, 32, 0x0⟩
def PTB_OFFS.V : Fld := ⟨0x2c, 0, 32, 0x0⟩
def PTB_DELAY.V : Fld := ⟨0x30, 0, 32, 0x0⟩
def PTB_ASYM.PHY : Fld := ⟨0x34, 16, 16, 0x0⟩
def PTB_ASYM.USR : Fld := ⟨0x34, 0, 16, 0x0⟩
def PTB_THR.DLY : Fld := ⟨0x38, 16, 16, 0x100⟩
def PTB_THR.LOSS : Fld := ⟨0x38, 0, 16, 0x400⟩
def PTB_ACQ_LIM.V : Fld := ⟨0x3c, 0, 32, 0x1000⟩
def PTB_SLEW.NET : Fld := ⟨0x40, 0, 16, 0x0⟩
def PTB_CNT_LOST.V : Fld := ⟨0x44, 0, 32, 0x0⟩
def PTB_CNT_MISS.V : Fld := ⟨0x48, 0, 32, 0x0⟩
def PTB_CNT_DLYREJ.V : Fld := ⟨0x4c, 0, 32, 0x0⟩
def PTB_CNT_MISALIGN.V : Fld := ⟨0x50, 0, 32, 0x0⟩
def PTB_CNT_CLR.CLR : Fld := ⟨0x54, 0, 4, 0x0⟩
def rowsPTB : List RegRow :=
  [⟨0x10, 0x0, 1, 0x0, 1, [⟨PTB_CFG.HIBKEEP, .rws, [], none⟩, ⟨PTB_CFG.PPORT, .rws, [(24, 31)], none⟩, ⟨PTB_CFG.FSRC, .rws, [(2, 3)], none⟩, ⟨PTB_CFG.ROLE, .rws, [(3, 3)], none⟩]⟩,
   ⟨0x14, 0x0, 1, 0x0, 1, [⟨PTB_STAT.STATE, .ro, [], none⟩, ⟨PTB_STAT.INSYNC, .ro, [], none⟩, ⟨PTB_STAT.PWAIT, .ro, [], none⟩, ⟨PTB_STAT.DEFER, .ro, [], none⟩, ⟨PTB_STAT.FIRST, .ro, [], none⟩, ⟨PTB_STAT.AHEAD, .ro, [], none⟩, ⟨PTB_STAT.LCAUSE, .ro, [], none⟩, ⟨PTB_STAT.HOPS, .ro, [], none⟩]⟩,
   ⟨0x18, 0x0, 1, 0x0, 1, [⟨PTB_NOW_LO.V, .ro, [], none⟩]⟩,
   ⟨0x1c, 0x0, 1, 0x0, 1, [⟨PTB_NOW_HI.V, .ro, [], none⟩]⟩,
   ⟨0x20, 0x0, 1, 0x0, 1, [⟨PTB_CMD.RELOAD, .wo, [], none⟩, ⟨PTB_CMD.SNAP, .wo, [], none⟩]⟩,
   ⟨0x24, 0x0, 1, 0x0, 1, [⟨PTB_SNAP_LO.V, .ro, [], none⟩]⟩,
   ⟨0x28, 0x0, 1, 0x0, 1, [⟨PTB_SNAP_HI.V, .ro, [], none⟩]⟩,
   ⟨0x2c, 0x0, 1, 0x0, 1, [⟨PTB_OFFS.V, .ro, [], none⟩]⟩,
   ⟨0x30, 0x0, 1, 0x0, 1, [⟨PTB_DELAY.V, .ro, [], none⟩]⟩,
   ⟨0x34, 0x0, 1, 0x0, 1, [⟨PTB_ASYM.PHY, .ro, [], none⟩, ⟨PTB_ASYM.USR, .rws, [], none⟩]⟩,
   ⟨0x38, 0x0, 1, 0x0, 1, [⟨PTB_THR.DLY, .rws, [], none⟩, ⟨PTB_THR.LOSS, .rws, [], none⟩]⟩,
   ⟨0x3c, 0x0, 1, 0x0, 1, [⟨PTB_ACQ_LIM.V, .rw, [], none⟩]⟩,
   ⟨0x40, 0x0, 1, 0x0, 1, [⟨PTB_SLEW.NET, .ro, [], none⟩]⟩,
   ⟨0x44, 0x0, 1, 0x0, 1, [⟨PTB_CNT_LOST.V, .ro, [], none⟩]⟩,
   ⟨0x48, 0x0, 1, 0x0, 1, [⟨PTB_CNT_MISS.V, .ro, [], none⟩]⟩,
   ⟨0x4c, 0x0, 1, 0x0, 1, [⟨PTB_CNT_DLYREJ.V, .ro, [], none⟩]⟩,
   ⟨0x50, 0x0, 1, 0x0, 1, [⟨PTB_CNT_MISALIGN.V, .ro, [], none⟩]⟩,
   ⟨0x54, 0x0, 1, 0x0, 1, [⟨PTB_CNT_CLR.CLR, .wo, [], none⟩]⟩]

/-! ## Block PSQ (04_sites_and_pattern_sequencers.md) -/
def PSQ_CTL.UR_KEEP : Fld := ⟨0x10, 24, 8, 0x0⟩
def PSQ_CTL.PRIME_SD : Fld := ⟨0x10, 17, 3, 0x0⟩
def PSQ_CTL.PRIME_EN : Fld := ⟨0x10, 16, 1, 0x0⟩
def PSQ_CTL.IDLE_SYM : Fld := ⟨0x10, 8, 2, 0x1⟩
def PSQ_CTL.MODE : Fld := ⟨0x10, 0, 1, 0x0⟩
def PSQ_CMD.GSTOP : Fld := ⟨0x14, 3, 1, 0x0⟩
def PSQ_CMD.HALT : Fld := ⟨0x14, 2, 1, 0x0⟩
def PSQ_CMD.ACK : Fld := ⟨0x14, 1, 1, 0x0⟩
def PSQ_CMD.ARM : Fld := ⟨0x14, 0, 1, 0x0⟩
def PSQ_STAT.STATE : Fld := ⟨0x18, 29, 3, 0x0⟩
def PSQ_STAT.RUNNING : Fld := ⟨0x18, 28, 1, 0x0⟩
def PSQ_STAT.SFF : Fld := ⟨0x18, 27, 1, 0x0⟩
def PSQ_STAT.STREAM : Fld := ⟨0x18, 26, 1, 0x0⟩
def PSQ_STAT.LDEPTH : Fld := ⟨0x18, 22, 4, 0x0⟩
def PSQ_STAT.CDEPTH : Fld := ⟨0x18, 16, 5, 0x0⟩
def PSQ_STAT.LS_REJ : Fld := ⟨0x18, 5, 1, 0x0⟩
def PSQ_STAT.STOP_LATE : Fld := ⟨0x18, 4, 1, 0x0⟩
def PSQ_STAT.ARM_REJ : Fld := ⟨0x18, 3, 1, 0x0⟩
def PSQ_STAT.STOP_PEND : Fld := ⟨0x18, 2, 1, 0x0⟩
def PSQ_RES.VALID : Fld := ⟨0x1c, 31, 1, 0x0⟩
def PSQ_RES.ACKD : Fld := ⟨0x1c, 30, 1, 0x1⟩
def PSQ_RES.AREA : Fld := ⟨0x1c, 29, 1, 0x0⟩
def PSQ_RES.STATUS : Fld := ⟨0x1c, 24, 4, 0x0⟩
def PSQ_RES.SD : Fld := ⟨0x1c, 20, 4, 0x0⟩
def PSQ_RES.CAUSE : Fld := ⟨0x1c, 16, 4, 0x0⟩
def PSQ_RES.SEQ : Fld := ⟨0x1c, 0, 16, 0x0⟩
def PSQ_HALT_ADDR.ADDR : Fld := ⟨0x20, 0, 32, 0x0⟩
def PSQ_START_AT_LO.TICK : Fld := ⟨0x28, 3, 29, 0x0⟩
def PSQ_START_AT_HI.TICK : Fld := ⟨0x2c, 0, 32, 0x0⟩
def PSQ_ENTRY.ADDR : Fld := ⟨0x30, 0, 16, 0x0⟩
def PSQ_LSPAGE.PAGE : Fld := ⟨0x34, 0, 3, 0x0⟩
def PSQ_LKGRP.GID : Fld := ⟨0x38, 0, 16, 0x0⟩
def PSQ_LSH.LSH : Fld := ⟨0x3c, 0, 32, 0x0⟩
def PSQ_STOP_AT_LO.V : Fld := ⟨0x40, 0, 32, 0x0⟩
def PSQ_STOP_AT_HI.V : Fld := ⟨0x44, 0, 32, 0x0⟩
def PSQ_HALT_TICK_LO.V : Fld := ⟨0x48, 0, 32, 0x0⟩
def PSQ_HALT_TICK_HI.V : Fld := ⟨0x4c, 0, 32, 0x0⟩
def PSQ_CR.V : Fld := ⟨0x50, 0, 32, 0x0⟩
def PSQ_PPER.V : Fld := ⟨0x70, 0, 32, 0x7a20⟩
def PSQ_SYNC_AT_LO.V : Fld := ⟨0x80, 0, 32, 0x0⟩
def PSQ_SYNC_AT_HI.V : Fld := ⟨0x84, 0, 32, 0x0⟩
def PSQ_CNT_IDLE_LO.V : Fld := ⟨0xa0, 0, 32, 0x0⟩
def PSQ_CNT_IDLE_HI.V : Fld := ⟨0xa4, 0, 32, 0x0⟩
def PSQ_CNT_PACELATE.V : Fld := ⟨0xa8, 0, 32, 0x0⟩
def PSQ_CNT_SYNCLATE.V : Fld := ⟨0xac, 0, 32, 0x0⟩
def PSQ_CNT_MTO.V : Fld := ⟨0xb0, 0, 32, 0x0⟩
def PSQ_CNT_CLR.CLR : Fld := ⟨0xb4, 0, 4, 0x0⟩
def PSQ_TRIG.SP : Fld := ⟨0xb8, 0, 4, 0x0⟩
def PSQ_PB.ROUTE : Fld := ⟨0xc0, 8, 1, 0x0⟩
def PSQ_PB.DIES : Fld := ⟨0xc0, 0, 4, 0x0⟩
def SD_BASE_LO.V : Fld := ⟨0x100, 6, 26, 0x0⟩
def SD_BASE_HI.V : Fld := ⟨0x104, 0, 8, 0x0⟩
def SD_LEN.V : Fld := ⟨0x108, 0, 32, 0x0⟩
def SD_CTL.ELASTIC : Fld := ⟨0x10c, 1, 1, 0x0⟩
def SD_CTL.SCAN : Fld := ⟨0x10c, 0, 1, 0x0⟩
def SD_STAT.STATUS : Fld := ⟨0x110, 28, 4, 0x0⟩
def SD_ERR.OFFSET : Fld := ⟨0x114, 0, 32, 0x0⟩
def PSQ_MSET.V : Fld := ⟨0x200, 0, 32, 0x0⟩
def rowsPSQ_0 : List RegRow :=
  [⟨0x10, 0x0, 1, 0x0, 1, [⟨PSQ_CTL.UR_KEEP, .rws, [], none⟩, ⟨PSQ_CTL.PRIME_SD, .rws, [], none⟩, ⟨PSQ_CTL.PRIME_EN, .rws, [], none⟩, ⟨PSQ_CTL.IDLE_SYM, .rws, [(2, 3)], none⟩, ⟨PSQ_CTL.MODE, .rws, [], none⟩]⟩,
   ⟨0x14, 0x0, 1, 0x0, 1, [⟨PSQ_CMD.GSTOP, .wo, [], none⟩, ⟨PSQ_CMD.HALT, .wo, [], none⟩, ⟨PSQ_CMD.ACK, .wo, [], none⟩, ⟨PSQ_CMD.ARM, .wo, [], none⟩]⟩,
   ⟨0x18, 0x0, 1, 0x0, 1, [⟨PSQ_STAT.STATE, .ro, [], none⟩, ⟨PSQ_STAT.RUNNING, .ro, [], none⟩, ⟨PSQ_STAT.SFF, .ro, [], none⟩, ⟨PSQ_STAT.STREAM, .ro, [], none⟩, ⟨PSQ_STAT.LDEPTH, .ro, [], none⟩, ⟨PSQ_STAT.CDEPTH, .ro, [], none⟩, ⟨PSQ_STAT.LS_REJ, .w1c, [], none⟩, ⟨PSQ_STAT.STOP_LATE, .w1c, [], none⟩, ⟨PSQ_STAT.ARM_REJ, .w1c, [], none⟩, ⟨PSQ_STAT.STOP_PEND, .ro, [], none⟩]⟩,
   ⟨0x1c, 0x0, 1, 0x0, 1, [⟨PSQ_RES.VALID, .ro, [], none⟩, ⟨PSQ_RES.ACKD, .ro, [], none⟩, ⟨PSQ_RES.AREA, .ro, [], none⟩, ⟨PSQ_RES.STATUS, .ro, [], none⟩, ⟨PSQ_RES.SD, .ro, [], none⟩, ⟨PSQ_RES.CAUSE, .ro, [], none⟩, ⟨PSQ_RES.SEQ, .ro, [], none⟩]⟩,
   ⟨0x20, 0x0, 1, 0x0, 1, [⟨PSQ_HALT_ADDR.ADDR, .ro, [], none⟩]⟩,
   ⟨0x28, 0x0, 1, 0x0, 1, [⟨PSQ_START_AT_LO.TICK, .rw, [], none⟩]⟩,
   ⟨0x2c, 0x0, 1, 0x0, 1, [⟨PSQ_START_AT_HI.TICK, .rw, [], none⟩]⟩,
   ⟨0x30, 0x0, 1, 0x0, 1, [⟨PSQ_ENTRY.ADDR, .rw, [], none⟩]⟩,
   ⟨0x34, 0x0, 1, 0x0, 1, [⟨PSQ_LSPAGE.PAGE, .rw, [], none⟩]⟩,
   ⟨0x38, 0x0, 1, 0x0, 1, [⟨PSQ_LKGRP.GID, .rws, [], none⟩]⟩,
   ⟨0x3c, 0x0, 1, 0x0, 1, [⟨PSQ_LSH.LSH, .rws, [], none⟩]⟩,
   ⟨0x40, 0x0, 1, 0x0, 1, [⟨PSQ_STOP_AT_LO.V, .ro, [], none⟩]⟩,
   ⟨0x44, 0x0, 1, 0x0, 1, [⟨PSQ_STOP_AT_HI.V, .ro, [], none⟩]⟩,
   ⟨0x48, 0x0, 1, 0x0, 1, [⟨PSQ_HALT_TICK_LO.V, .ro, [], none⟩]⟩,
   ⟨0x4c, 0x0, 1, 0x0, 1, [⟨PSQ_HALT_TICK_HI.V, .ro, [], none⟩]⟩,
   ⟨0x50, 0x4, 8, 0x0, 1, [⟨PSQ_CR.V, .rw, [], none⟩]⟩,
   ⟨0x70, 0x4, 4, 0x0, 1, [⟨PSQ_PPER.V, .rw, [(0, 7)], none⟩]⟩,
   ⟨0x80, 0x8, 4, 0x0, 1, [⟨PSQ_SYNC_AT_LO.V, .rw, [], none⟩]⟩,
   ⟨0x84, 0x8, 4, 0x0, 1, [⟨PSQ_SYNC_AT_HI.V, .rw, [], none⟩]⟩,
   ⟨0xa0, 0x0, 1, 0x0, 1, [⟨PSQ_CNT_IDLE_LO.V, .ro, [], none⟩]⟩]
def rowsPSQ_1 : List RegRow :=
  [⟨0xa4, 0x0, 1, 0x0, 1, [⟨PSQ_CNT_IDLE_HI.V, .ro, [], none⟩]⟩,
   ⟨0xa8, 0x0, 1, 0x0, 1, [⟨PSQ_CNT_PACELATE.V, .ro, [], none⟩]⟩,
   ⟨0xac, 0x0, 1, 0x0, 1, [⟨PSQ_CNT_SYNCLATE.V, .ro, [], none⟩]⟩,
   ⟨0xb0, 0x0, 1, 0x0, 1, [⟨PSQ_CNT_MTO.V, .ro, [], none⟩]⟩,
   ⟨0xb4, 0x0, 1, 0x0, 1, [⟨PSQ_CNT_CLR.CLR, .wo, [], none⟩]⟩,
   ⟨0xb8, 0x0, 1, 0x0, 1, [⟨PSQ_TRIG.SP, .rw, [], none⟩]⟩,
   ⟨0xc0, 0x0, 1, 0x0, 1, [⟨PSQ_PB.ROUTE, .rws, [], none⟩, ⟨PSQ_PB.DIES, .rws, [], none⟩]⟩,
   ⟨0x100, 0x20, 8, 0x0, 1, [⟨SD_BASE_LO.V, .rw, [], none⟩]⟩,
   ⟨0x104, 0x20, 8, 0x0, 1, [⟨SD_BASE_HI.V, .rw, [], none⟩]⟩,
   ⟨0x108, 0x20, 8, 0x0, 1, [⟨SD_LEN.V, .rw, [(0, 0)], none⟩]⟩,
   ⟨0x10c, 0x20, 8, 0x0, 1, [⟨SD_CTL.ELASTIC, .rw, [], none⟩, ⟨SD_CTL.SCAN, .wo, [], none⟩]⟩,
   ⟨0x110, 0x20, 8, 0x0, 1, [⟨SD_STAT.STATUS, .ro, [], none⟩]⟩,
   ⟨0x114, 0x20, 8, 0x0, 1, [⟨SD_ERR.OFFSET, .ro, [], none⟩]⟩,
   ⟨0x200, 0x4, 72, 0x0, 1, [⟨PSQ_MSET.V, .rws, [], none⟩]⟩,
   ⟨0x800, 0x0, 1, 0x0, 1, [⟨EG_CTL.INV, .wo, [], none⟩, ⟨EG_CTL.RAW, .rw, [], none⟩, ⟨EG_CTL.DIAG, .rw, [], none⟩]⟩,
   ⟨0x804, 0x0, 1, 0x0, 1, [⟨EG_WIN.PAGE, .rw, [(256, 8388607)], none⟩]⟩,
   ⟨0x808, 0x0, 1, 0x0, 1, [⟨EG_STAT.VALID, .w1c, [], none⟩, ⟨EG_STAT.KIND, .ro, [], none⟩, ⟨EG_STAT.SYN, .ro, [], none⟩, ⟨EG_STAT.INVBUSY, .ro, [], none⟩]⟩,
   ⟨0x80c, 0x0, 1, 0x0, 1, [⟨EG_ADDR_LO.V, .ro, [], none⟩]⟩,
   ⟨0x810, 0x0, 1, 0x0, 1, [⟨EG_ADDR_HI.V, .ro, [], none⟩]⟩,
   ⟨0x814, 0x0, 1, 0x0, 1, [⟨EG_CNT_CE.V, .ro, [], none⟩]⟩]
def rowsPSQ_2 : List RegRow :=
  [⟨0x818, 0x0, 1, 0x0, 1, [⟨EG_CNT_UE.V, .ro, [], none⟩]⟩,
   ⟨0x81c, 0x0, 1, 0x0, 1, [⟨EG_CNT_PSN.V, .ro, [], none⟩]⟩,
   ⟨0x820, 0x0, 1, 0x0, 1, [⟨EG_CNT_CLR.CLR, .wo, [], none⟩]⟩,
   ⟨0x830, 0x0, 1, 0x0, 1, [⟨EG_FLIP0.V, .rw, [], none⟩]⟩,
   ⟨0x834, 0x0, 1, 0x4, 3, []⟩,
   ⟨0x840, 0x0, 1, 0x4, 4, [⟨EG_RAW.V, .ro, [], none⟩]⟩,
   ⟨0x850, 0x0, 1, 0x0, 1, [⟨EG_IBASE.V, .rw, [], none⟩]⟩,
   ⟨0x854, 0x0, 1, 0x0, 1, [⟨EG_ICNT.V, .rw, [], none⟩]⟩]
def rowsPSQ : List RegRow := rowsPSQ_0 ++ rowsPSQ_1 ++ rowsPSQ_2

/-! ## Block TCB (02_tester_channels.md) -/
def TCB_CTL.IN_ALIGN : Fld := ⟨0x10, 21, 3, 0x0⟩
def TCB_CTL.THR_RNG : Fld := ⟨0x10, 18, 2, 0x0⟩
def TCB_CTL.SIG : Fld := ⟨0x10, 16, 2, 0x0⟩
def TCB_CTL.CADN : Fld := ⟨0x10, 9, 3, 0x0⟩
def TCB_CTL.CADM : Fld := ⟨0x10, 6, 3, 0x0⟩
def TCB_CTL.BASE : Fld := ⟨0x10, 4, 2, 0x0⟩
def TCB_CTL.MODE : Fld := ⟨0x10, 0, 2, 0x0⟩
def TCB_PERIOD.PER : Fld := ⟨0x14, 0, 16, 0x7⟩
def TCB_EN.EN : Fld := ⟨0x18, 0, 32, 0x0⟩
def TCB_SAFE.LATCH : Fld := ⟨0x1c, 0, 32, 0x0⟩
def TCB_SITE.S0 : Fld := ⟨0x20, 0, 4, 0x0⟩
def TCB_SITE.S1 : Fld := ⟨0x20, 4, 4, 0x0⟩
def TCB_SITE.S2 : Fld := ⟨0x20, 8, 4, 0x0⟩
def TCB_SITE.S3 : Fld := ⟨0x20, 12, 4, 0x0⟩
def TCB_SITE.S4 : Fld := ⟨0x20, 16, 4, 0x0⟩
def TCB_SITE.S5 : Fld := ⟨0x20, 20, 4, 0x0⟩
def TCB_SITE.S6 : Fld := ⟨0x20, 24, 4, 0x0⟩
def TCB_SITE.S7 : Fld := ⟨0x20, 28, 4, 0x0⟩
def TCB_STAT.ETC_REJ : Fld := ⟨0x30, 7, 1, 0x0⟩
def TCB_STAT.ETC_BUSY : Fld := ⟨0x30, 6, 1, 0x0⟩
def TCB_STAT.DRIFT_LATE : Fld := ⟨0x30, 5, 1, 0x0⟩
def TCB_STAT.CAL_DEFAULT : Fld := ⟨0x30, 4, 1, 0x0⟩
def TCB_STAT.CAL_LOADED : Fld := ⟨0x30, 3, 1, 0x0⟩
def TCB_STAT.BLANK : Fld := ⟨0x30, 2, 1, 0x0⟩
def TCB_STAT.VTT_OK : Fld := ⟨0x30, 1, 1, 0x0⟩
def TCB_STAT.VCCB_OK : Fld := ⟨0x30, 0, 1, 0x0⟩
def TCB_VWIN.VHI : Fld := ⟨0x34, 16, 11, 0x5dc⟩
def TCB_VWIN.VLO : Fld := ⟨0x34, 0, 11, 0x190⟩
def TCB_VMON.VTTI : Fld := ⟨0x38, 16, 11, 0x0⟩
def TCB_VMON.VCCB : Fld := ⟨0x38, 0, 11, 0x0⟩
def TCB_DRIFT.LAST : Fld := ⟨0x3c, 24, 8, 0x0⟩
def TCB_DRIFT.PEND : Fld := ⟨0x3c, 16, 1, 0x0⟩
def TCB_DRIFT.LATE_CNT : Fld := ⟨0x3c, 0, 16, 0x0⟩
def TCB_CNT_CLR.CLR : Fld := ⟨0x40, 0, 32, 0x0⟩
def TCB_ETC_CFG.NTH : Fld := ⟨0x50, 24, 8, 0x0⟩
def TCB_ETC_CFG.NT : Fld := ⟨0x50, 8, 10, 0x0⟩
def TCB_ETC_CFG.REPS : Fld := ⟨0x50, 0, 8, 0x1⟩
def TCB_ETC_T0.T0 : Fld := ⟨0x54, 0, 24, 0x0⟩
def TCB_ETC_TSTEP.TSTEP : Fld := ⟨0x58, 0, 16, 0x1⟩
def TCB_ETC_TH.THSTEP : Fld := ⟨0x5c, 8, 8, 0x1⟩
def TCB_ETC_TH.TH0 : Fld := ⟨0x5c, 0, 8, 0x0⟩
def TCB_ETC_GO.ACK : Fld := ⟨0x60, 1, 1, 0x0⟩
def TCB_ETC_GO.GO : Fld := ⟨0x60, 0, 1, 0x0⟩
def TCB_ETC_RES.VALID : Fld := ⟨0x64, 31, 1, 0x0⟩
def TCB_ETC_RES.STATUS : Fld := ⟨0x64, 28, 2, 0x0⟩
def TCB_ETC_RES.SEQ : Fld := ⟨0x64, 0, 16, 0x0⟩
def TCB_REFL.RPER : Fld := ⟨0x68, 0, 16, 0xff⟩
def TCB_ETC_PINS.PINS : Fld := ⟨0x6c, 0, 32, 0x0⟩
def CH_ROLE.REJ : Fld := ⟨0x10000, 9, 1, 0x0⟩
def CH_ROLE.BUSY : Fld := ⟨0x10000, 8, 1, 0x0⟩
def CH_ROLE.CUR : Fld := ⟨0x10000, 4, 2, 0x0⟩
def CH_ROLE.ROLE : Fld := ⟨0x10000, 0, 2, 0x0⟩
def CH_DRV.TERM : Fld := ⟨0x10004, 4, 3, 0x2⟩
def CH_DRV.ZOUT : Fld := ⟨0x10004, 0, 3, 0x1⟩
def CH_THR.THH : Fld := ⟨0x10008, 8, 8, 0x80⟩
def CH_THR.THL : Fld := ⟨0x10008, 0, 8, 0x40⟩
def CH_DSK.DCMP : Fld := ⟨0x1000c, 16, 12, 0x0⟩
def CH_DSK.DDRV : Fld := ⟨0x1000c, 0, 12, 0x0⟩
def CH_SAMP.CAPSEL : Fld := ⟨0x10010, 16, 1, 0x0⟩
def CH_SAMP.SPH : Fld := ⟨0x10010, 0, 11, 0x20⟩
def CH_TRIM.ZTRIM : Fld := ⟨0x10014, 16, 4, 0x0⟩
def CH_TRIM.THL_TRIM : Fld := ⟨0x10014, 8, 8, 0x0⟩
def CH_TRIM.THH_TRIM : Fld := ⟨0x10014, 0, 8, 0x0⟩
def CH_CAPPTR.FULL : Fld := ⟨0x10018, 16, 1, 0x0⟩
def CH_CAPPTR.PTR : Fld := ⟨0x10018, 0, 12, 0x0⟩
def CH_CNT_MASKED.V : Fld := ⟨0x10020, 0, 32, 0x0⟩
def CH_CNT_BLANKED.V : Fld := ⟨0x10024, 0, 32, 0x0⟩
def CH_CNT_SUBST.V : Fld := ⟨0x10028, 0, 32, 0x0⟩
def CH_CNT_EDGE.V : Fld := ⟨0x1002c, 0, 32, 0x0⟩
def CH_CNT_CAPLOST.V : Fld := ⟨0x10030, 0, 32, 0x0⟩
def CH_TGLIN.L0 : Fld := ⟨0x10040, 0, 8, 0x0⟩
def CH_TGLIN.L1 : Fld := ⟨0x10040, 8, 8, 0x0⟩
def CH_TGLIN.L2 : Fld := ⟨0x10040, 16, 8, 0x0⟩
def CH_TGLIN.L3 : Fld := ⟨0x10040, 24, 8, 0x0⟩
def TS_D1.EDGE : Fld := ⟨0x10100, 0, 24, 0x0⟩
def TS_D2.EDGE : Fld := ⟨0x10104, 0, 24, 0x400⟩
def TS_D3.EDGE : Fld := ⟨0x10108, 0, 24, 0x0⟩
def TS_C1.EDGE : Fld := ⟨0x1010c, 0, 24, 0x400⟩
def TS_C2.EDGE : Fld := ⟨0x10110, 0, 24, 0x500⟩
def TS_FMT.WIN : Fld := ⟨0x10114, 4, 1, 0x0⟩
def TS_FMT.FMT : Fld := ⟨0x10114, 0, 2, 0x0⟩
def CH_CAPBUF.V : Fld := ⟨0x80000, 0, 32, 0x0⟩
def rowsTCB_0 : List RegRow :=
  [⟨0x10, 0x0, 1, 0x0, 1, [⟨TCB_CTL.IN_ALIGN, .rws, [], none⟩, ⟨TCB_CTL.THR_RNG, .rws, [(2, 3)], none⟩, ⟨TCB_CTL.SIG, .rws, [], none⟩, ⟨TCB_CTL.CADN, .rws, [], none⟩, ⟨TCB_CTL.CADM, .rws, [], none⟩, ⟨TCB_CTL.BASE, .rws, [(3, 3)], none⟩, ⟨TCB_CTL.MODE, .rws, [(2, 3)], none⟩]⟩,
   ⟨0x14, 0x0, 1, 0x0, 1, [⟨TCB_PERIOD.PER, .rws, [(0, 2)], none⟩]⟩,
   ⟨0x18, 0x0, 1, 0x0, 1, [⟨TCB_EN.EN, .rw, [], none⟩]⟩,
   ⟨0x1c, 0x0, 1, 0x0, 1, [⟨TCB_SAFE.LATCH, .w1c, [], none⟩]⟩,
   ⟨0x20, 0x4, 4, 0x0, 1, [⟨TCB_SITE.S0, .rws, [], none⟩, ⟨TCB_SITE.S1, .rws, [], none⟩, ⟨TCB_SITE.S2, .rws, [], none⟩, ⟨TCB_SITE.S3, .rws, [], none⟩, ⟨TCB_SITE.S4, .rws, [], none⟩, ⟨TCB_SITE.S5, .rws, [], none⟩, ⟨TCB_SITE.S6, .rws, [], none⟩, ⟨TCB_SITE.S7, .rws, [], none⟩]⟩,
   ⟨0x30, 0x0, 1, 0x0, 1, [⟨TCB_STAT.ETC_REJ, .w1c, [], none⟩, ⟨TCB_STAT.ETC_BUSY, .ro, [], none⟩, ⟨TCB_STAT.DRIFT_LATE, .w1c, [], none⟩, ⟨TCB_STAT.CAL_DEFAULT, .ro, [], none⟩, ⟨TCB_STAT.CAL_LOADED, .ro, [], none⟩, ⟨TCB_STAT.BLANK, .ro, [], none⟩, ⟨TCB_STAT.VTT_OK, .ro, [], none⟩, ⟨TCB_STAT.VCCB_OK, .ro, [], none⟩]⟩,
   ⟨0x34, 0x0, 1, 0x0, 1, [⟨TCB_VWIN.VHI, .rw, [], none⟩, ⟨TCB_VWIN.VLO, .rw, [], none⟩]⟩,
   ⟨0x38, 0x0, 1, 0x0, 1, [⟨TCB_VMON.VTTI, .ro, [], none⟩, ⟨TCB_VMON.VCCB, .ro, [], none⟩]⟩,
   ⟨0x3c, 0x0, 1, 0x0, 1, [⟨TCB_DRIFT.LAST, .ro, [], none⟩, ⟨TCB_DRIFT.PEND, .ro, [], none⟩, ⟨TCB_DRIFT.LATE_CNT, .ro, [], none⟩]⟩,
   ⟨0x40, 0x0, 1, 0x0, 1, [⟨TCB_CNT_CLR.CLR, .wo, [], none⟩]⟩,
   ⟨0x50, 0x0, 1, 0x0, 1, [⟨TCB_ETC_CFG.NTH, .rws, [], none⟩, ⟨TCB_ETC_CFG.NT, .rws, [], none⟩, ⟨TCB_ETC_CFG.REPS, .rws, [(0, 0)], none⟩]⟩,
   ⟨0x54, 0x0, 1, 0x0, 1, [⟨TCB_ETC_T0.T0, .rws, [], none⟩]⟩,
   ⟨0x58, 0x0, 1, 0x0, 1, [⟨TCB_ETC_TSTEP.TSTEP, .rws, [], none⟩]⟩,
   ⟨0x5c, 0x0, 1, 0x0, 1, [⟨TCB_ETC_TH.THSTEP, .rws, [], none⟩, ⟨TCB_ETC_TH.TH0, .rws, [], none⟩]⟩,
   ⟨0x60, 0x0, 1, 0x0, 1, [⟨TCB_ETC_GO.ACK, .wo, [], none⟩, ⟨TCB_ETC_GO.GO, .wo, [], none⟩]⟩,
   ⟨0x64, 0x0, 1, 0x0, 1, [⟨TCB_ETC_RES.VALID, .ro, [], none⟩, ⟨TCB_ETC_RES.STATUS, .ro, [], none⟩, ⟨TCB_ETC_RES.SEQ, .ro, [], none⟩]⟩,
   ⟨0x68, 0x0, 1, 0x0, 1, [⟨TCB_REFL.RPER, .rws, [(0, 14)], none⟩]⟩,
   ⟨0x6c, 0x0, 1, 0x0, 1, [⟨TCB_ETC_PINS.PINS, .rws, [], none⟩]⟩,
   ⟨0x10000, 0x1000, 32, 0x0, 1, [⟨CH_ROLE.REJ, .w1c, [], none⟩, ⟨CH_ROLE.BUSY, .ro, [], none⟩, ⟨CH_ROLE.CUR, .ro, [], none⟩, ⟨CH_ROLE.ROLE, .rw, [(3, 3)], none⟩]⟩,
   ⟨0x10004, 0x1000, 32, 0x0, 1, [⟨CH_DRV.TERM, .rws, [(6, 7)], none⟩, ⟨CH_DRV.ZOUT, .rws, [(5, 7)], none⟩]⟩]
def rowsTCB_1 : List RegRow :=
  [⟨0x10008, 0x1000, 32, 0x0, 1, [⟨CH_THR.THH, .rws, [], none⟩, ⟨CH_THR.THL, .rws, [], none⟩]⟩,
   ⟨0x1000c, 0x1000, 32, 0x0, 1, [⟨CH_DSK.DCMP, .rws, [], none⟩, ⟨CH_DSK.DDRV, .rws, [], none⟩]⟩,
   ⟨0x10010, 0x1000, 32, 0x0, 1, [⟨CH_SAMP.CAPSEL, .rws, [], none⟩, ⟨CH_SAMP.SPH, .rws, [], none⟩]⟩,
   ⟨0x10014, 0x1000, 32, 0x0, 1, [⟨CH_TRIM.ZTRIM, .rws, [], none⟩, ⟨CH_TRIM.THL_TRIM, .rws, [], none⟩, ⟨CH_TRIM.THH_TRIM, .rws, [], none⟩]⟩,
   ⟨0x10018, 0x1000, 32, 0x0, 1, [⟨CH_CAPPTR.FULL, .ro, [], none⟩, ⟨CH_CAPPTR.PTR, .rw, [(2049, 4095)], none⟩]⟩,
   ⟨0x10020, 0x1000, 32, 0x0, 1, [⟨CH_CNT_MASKED.V, .ro, [], none⟩]⟩,
   ⟨0x10024, 0x1000, 32, 0x0, 1, [⟨CH_CNT_BLANKED.V, .ro, [], none⟩]⟩,
   ⟨0x10028, 0x1000, 32, 0x0, 1, [⟨CH_CNT_SUBST.V, .ro, [], none⟩]⟩,
   ⟨0x1002c, 0x1000, 32, 0x0, 1, [⟨CH_CNT_EDGE.V, .ro, [], none⟩]⟩,
   ⟨0x10030, 0x1000, 32, 0x0, 1, [⟨CH_CNT_CAPLOST.V, .ro, [], none⟩]⟩,
   ⟨0x10040, 0x1000, 32, 0x4, 4, [⟨CH_TGLIN.L0, .rws, [], none⟩, ⟨CH_TGLIN.L1, .rws, [], none⟩, ⟨CH_TGLIN.L2, .rws, [], none⟩, ⟨CH_TGLIN.L3, .rws, [], none⟩]⟩,
   ⟨0x10100, 0x1000, 32, 0x20, 8, [⟨TS_D1.EDGE, .rws, [], none⟩]⟩,
   ⟨0x10104, 0x1000, 32, 0x20, 8, [⟨TS_D2.EDGE, .rws, [], none⟩]⟩,
   ⟨0x10108, 0x1000, 32, 0x20, 8, [⟨TS_D3.EDGE, .rws, [], none⟩]⟩,
   ⟨0x1010c, 0x1000, 32, 0x20, 8, [⟨TS_C1.EDGE, .rws, [], none⟩]⟩,
   ⟨0x10110, 0x1000, 32, 0x20, 8, [⟨TS_C2.EDGE, .rws, [], none⟩]⟩,
   ⟨0x10114, 0x1000, 32, 0x20, 8, [⟨TS_FMT.WIN, .rws, [], none⟩, ⟨TS_FMT.FMT, .rws, [], none⟩]⟩,
   ⟨0x80000, 0x2000, 32, 0x4, 2048, [⟨CH_CAPBUF.V, .ro, [], none⟩]⟩]
def rowsTCB : List RegRow := rowsTCB_0 ++ rowsTCB_1

/-! ## Block FCU (06_fail_capture_and_repair.md) -/
def FCU_OCC.INTAKE : Fld := ⟨0x10, 20, 12, 0x0⟩
def FCU_OCC.FIFO : Fld := ⟨0x10, 0, 17, 0x0⟩
def FCU_WB.DIRTY : Fld := ⟨0x14, 15, 17, 0x0⟩
def FCU_WB.WBQ : Fld := ⟨0x14, 0, 9, 0x0⟩
def FCU_CCLR.ALL : Fld := ⟨0x18, 31, 1, 0x0⟩
def FCU_CCLR.IDX : Fld := ⟨0x18, 0, 10, 0x0⟩
def FS_CFG.MFLUSH : Fld := ⟨0x100, 6, 1, 0x0⟩
def FS_CFG.AUTOCLR : Fld := ⟨0x100, 5, 1, 0x0⟩
def FS_CFG.TSEL : Fld := ⟨0x100, 4, 1, 0x0⟩
def FS_CFG.MODE : Fld := ⟨0x100, 0, 2, 0x0⟩
def FS_QUOTA.QUOTA : Fld := ⟨0x104, 0, 17, 0x1000⟩
def FS_FIRSTN.N : Fld := ⟨0x108, 0, 13, 0x1000⟩
def FS_RSIZE.LOG2 : Fld := ⟨0x10c, 0, 5, 0x10⟩
def FS_RBASE_LO.BASE : Fld := ⟨0x110, 6, 26, 0x0⟩
def FS_RBASE_HI.BASE : Fld := ⟨0x114, 0, 8, 0x0⟩
def FS_WRPTR.WR : Fld := ⟨0x118, 0, 32, 0x0⟩
def FS_RDPTR.RD : Fld := ⟨0x11c, 0, 32, 0x0⟩
def FS_BMBASE_LO.BASE : Fld := ⟨0x120, 12, 20, 0x0⟩
def FS_BMBASE_HI.BASE : Fld := ⟨0x124, 0, 8, 0x0⟩
def FS_RMBASE_LO.BASE : Fld := ⟨0x128, 12, 20, 0x0⟩
def FS_RMBASE_HI.BASE : Fld := ⟨0x12c, 0, 8, 0x0⟩
def FS_GEOM.WID0 : Fld := ⟨0x130, 0, 5, 0x0⟩
def FS_GEOM.POS0 : Fld := ⟨0x130, 7, 6, 0x0⟩
def FS_GEOM.SRC0 : Fld := ⟨0x130, 13, 3, 0x0⟩
def FS_GEOM.WID1 : Fld := ⟨0x130, 16, 5, 0x0⟩
def FS_GEOM.POS1 : Fld := ⟨0x130, 23, 6, 0x0⟩
def FS_GEOM.SRC1 : Fld := ⟨0x130, 29, 3, 0x0⟩
def FS_CTL.FRESET : Fld := ⟨0x148, 4, 1, 0x0⟩
def FS_CTL.CCLR : Fld := ⟨0x148, 3, 1, 0x0⟩
def FS_CTL.BMCLR : Fld := ⟨0x148, 2, 1, 0x0⟩
def FS_CTL.FACK : Fld := ⟨0x148, 1, 1, 0x0⟩
def FS_CTL.FLUSH : Fld := ⟨0x148, 0, 1, 0x0⟩
def FS_STAT.RING_FULL : Fld := ⟨0x14c, 9, 1, 0x0⟩
def FS_STAT.CMD_REJ : Fld := ⟨0x14c, 8, 1, 0x0⟩
def FS_STAT.FIRST_GAP : Fld := ⟨0x14c, 7, 1, 0x0⟩
def FS_STAT.FIRST_DONE : Fld := ⟨0x14c, 6, 1, 0x0⟩
def FS_STAT.BMINVAL : Fld := ⟨0x14c, 5, 1, 0x0⟩
def FS_STAT.TAGLOSS : Fld := ⟨0x14c, 4, 1, 0x0⟩
def FS_STAT.BLKCOARSE : Fld := ⟨0x14c, 3, 1, 0x0⟩
def FS_STAT.COARSENED : Fld := ⟨0x14c, 2, 1, 0x0⟩
def FS_STAT.SAT : Fld := ⟨0x14c, 0, 1, 0x0⟩
def FS_FLUSH_RES.VALID : Fld := ⟨0x150, 31, 1, 0x0⟩
def FS_FLUSH_RES.ACKD : Fld := ⟨0x150, 30, 1, 0x1⟩
def FS_FLUSH_RES.STATUS : Fld := ⟨0x150, 28, 2, 0x0⟩
def FS_FLUSH_RES.SEQ : Fld := ⟨0x150, 0, 16, 0x0⟩
def FS_TOTAL_LO.V : Fld := ⟨0x154, 0, 32, 0x0⟩
def FS_TOTAL_HI.V : Fld := ⟨0x158, 0, 16, 0x0⟩
def FS_DROPPED_LO.V : Fld := ⟨0x15c, 0, 32, 0x0⟩
def FS_DROPPED_HI.V : Fld := ⟨0x160, 0, 16, 0x0⟩
def FS_PURGED.V : Fld := ⟨0x164, 0, 32, 0x0⟩
def FS_COARSE_ENT.V : Fld := ⟨0x168, 0, 32, 0x0⟩
def FS_COARSE_ROWS.V : Fld := ⟨0x16c, 0, 32, 0x0⟩
def FS_UNMAPPED.V : Fld := ⟨0x170, 0, 32, 0x0⟩
def FS_TAGPOIS.V : Fld := ⟨0x174, 0, 32, 0x0⟩
def FS_PURGED_LINES.V : Fld := ⟨0x178, 0, 32, 0x0⟩
def FCU_CMAP.BMEN : Fld := ⟨0x1000, 16, 1, 0x0⟩
def FCU_CMAP.GRP : Fld := ⟨0x1000, 8, 8, 0x0⟩
def FCU_CMAP.LANE : Fld := ⟨0x1000, 0, 8, 0x0⟩
def FC_LO.V : Fld := ⟨0x2000, 0, 32, 0x0⟩
def FC_HI.V : Fld := ⟨0x2004, 0, 16, 0x0⟩
def rowsFCU_0 : List RegRow :=
  [⟨0x10, 0x0, 1, 0x0, 1, [⟨FCU_OCC.INTAKE, .ro, [], none⟩, ⟨FCU_OCC.FIFO, .ro, [], none⟩]⟩,
   ⟨0x14, 0x0, 1, 0x0, 1, [⟨FCU_WB.DIRTY, .ro, [], none⟩, ⟨FCU_WB.WBQ, .ro, [], none⟩]⟩,
   ⟨0x18, 0x0, 1, 0x0, 1, [⟨FCU_CCLR.ALL, .wo, [], none⟩, ⟨FCU_CCLR.IDX, .wo, [], none⟩]⟩,
   ⟨0x100, 0x80, 16, 0x0, 1, [⟨FS_CFG.MFLUSH, .rws, [], none⟩, ⟨FS_CFG.AUTOCLR, .rws, [], none⟩, ⟨FS_CFG.TSEL, .rws, [], none⟩, ⟨FS_CFG.MODE, .rws, [], none⟩]⟩,
   ⟨0x104, 0x80, 16, 0x0, 1, [⟨FS_QUOTA.QUOTA, .rws, [(65537, 131071)], none⟩]⟩,
   ⟨0x108, 0x80, 16, 0x0, 1, [⟨FS_FIRSTN.N, .rws, [(0, 0), (4097, 8191)], none⟩]⟩,
   ⟨0x10c, 0x80, 16, 0x0, 1, [⟨FS_RSIZE.LOG2, .rws, [(0, 7), (27, 31)], none⟩]⟩,
   ⟨0x110, 0x80, 16, 0x0, 1, [⟨FS_RBASE_LO.BASE, .rws, [], none⟩]⟩,
   ⟨0x114, 0x80, 16, 0x0, 1, [⟨FS_RBASE_HI.BASE, .rws, [], none⟩]⟩,
   ⟨0x118, 0x80, 16, 0x0, 1, [⟨FS_WRPTR.WR, .ro, [], none⟩]⟩,
   ⟨0x11c, 0x80, 16, 0x0, 1, [⟨FS_RDPTR.RD, .rw, [], none⟩]⟩,
   ⟨0x120, 0x80, 16, 0x0, 1, [⟨FS_BMBASE_LO.BASE, .rws, [], none⟩]⟩,
   ⟨0x124, 0x80, 16, 0x0, 1, [⟨FS_BMBASE_HI.BASE, .rws, [], none⟩]⟩,
   ⟨0x128, 0x80, 16, 0x0, 1, [⟨FS_RMBASE_LO.BASE, .rws, [], none⟩]⟩,
   ⟨0x12c, 0x80, 16, 0x0, 1, [⟨FS_RMBASE_HI.BASE, .rws, [], none⟩]⟩,
   ⟨0x130, 0x80, 16, 0x4, 6, [⟨FS_GEOM.WID0, .rws, [(17, 31)], none⟩, ⟨FS_GEOM.POS0, .rws, [], none⟩, ⟨FS_GEOM.SRC0, .rws, [(5, 7)], none⟩, ⟨FS_GEOM.WID1, .rws, [(17, 31)], none⟩, ⟨FS_GEOM.POS1, .rws, [], none⟩, ⟨FS_GEOM.SRC1, .rws, [(5, 7)], none⟩]⟩,
   ⟨0x148, 0x80, 16, 0x0, 1, [⟨FS_CTL.FRESET, .wo, [], none⟩, ⟨FS_CTL.CCLR, .wo, [], none⟩, ⟨FS_CTL.BMCLR, .wo, [], none⟩, ⟨FS_CTL.FACK, .wo, [], none⟩, ⟨FS_CTL.FLUSH, .wo, [], none⟩]⟩,
   ⟨0x14c, 0x80, 16, 0x0, 1, [⟨FS_STAT.RING_FULL, .ro, [], none⟩, ⟨FS_STAT.CMD_REJ, .w1c, [], none⟩, ⟨FS_STAT.FIRST_GAP, .ro, [], none⟩, ⟨FS_STAT.FIRST_DONE, .ro, [], none⟩, ⟨FS_STAT.BMINVAL, .ro, [], none⟩, ⟨FS_STAT.TAGLOSS, .ro, [], none⟩, ⟨FS_STAT.BLKCOARSE, .ro, [], none⟩, ⟨FS_STAT.COARSENED, .ro, [], none⟩, ⟨FS_STAT.SAT, .ro, [], none⟩]⟩,
   ⟨0x150, 0x80, 16, 0x0, 1, [⟨FS_FLUSH_RES.VALID, .ro, [], none⟩, ⟨FS_FLUSH_RES.ACKD, .ro, [], none⟩, ⟨FS_FLUSH_RES.STATUS, .ro, [], none⟩, ⟨FS_FLUSH_RES.SEQ, .ro, [], none⟩]⟩,
   ⟨0x154, 0x80, 16, 0x0, 1, [⟨FS_TOTAL_LO.V, .ro, [], none⟩]⟩]
def rowsFCU_1 : List RegRow :=
  [⟨0x158, 0x80, 16, 0x0, 1, [⟨FS_TOTAL_HI.V, .ro, [], none⟩]⟩,
   ⟨0x15c, 0x80, 16, 0x0, 1, [⟨FS_DROPPED_LO.V, .ro, [], none⟩]⟩,
   ⟨0x160, 0x80, 16, 0x0, 1, [⟨FS_DROPPED_HI.V, .ro, [], none⟩]⟩,
   ⟨0x164, 0x80, 16, 0x0, 1, [⟨FS_PURGED.V, .ro, [], none⟩]⟩,
   ⟨0x168, 0x80, 16, 0x0, 1, [⟨FS_COARSE_ENT.V, .ro, [], none⟩]⟩,
   ⟨0x16c, 0x80, 16, 0x0, 1, [⟨FS_COARSE_ROWS.V, .ro, [], none⟩]⟩,
   ⟨0x170, 0x80, 16, 0x0, 1, [⟨FS_UNMAPPED.V, .ro, [], none⟩]⟩,
   ⟨0x174, 0x80, 16, 0x0, 1, [⟨FS_TAGPOIS.V, .ro, [], none⟩]⟩,
   ⟨0x178, 0x80, 16, 0x0, 1, [⟨FS_PURGED_LINES.V, .ro, [], none⟩]⟩,
   ⟨0x1000, 0x4, 576, 0x0, 1, [⟨FCU_CMAP.BMEN, .rws, [], none⟩, ⟨FCU_CMAP.GRP, .rws, [], none⟩, ⟨FCU_CMAP.LANE, .rws, [], none⟩]⟩,
   ⟨0x2000, 0x8, 576, 0x0, 1, [⟨FC_LO.V, .ro, [], none⟩]⟩,
   ⟨0x2004, 0x8, 576, 0x0, 1, [⟨FC_HI.V, .ro, [], none⟩]⟩]
def rowsFCU : List RegRow := rowsFCU_0 ++ rowsFCU_1

/-! ## Block RAE (06_fail_capture_and_repair.md) -/
def RAE_STAT.BUSY : Fld := ⟨0x10, 31, 1, 0x0⟩
def RAE_STAT.RUNSLOT : Fld := ⟨0x10, 24, 5, 0x0⟩
def RAE_STAT.QUEUED : Fld := ⟨0x10, 16, 5, 0x0⟩
def RAE_STAT.REJ : Fld := ⟨0x10, 0, 1, 0x0⟩
def RAE_CNT_JOBS.V : Fld := ⟨0x14, 0, 32, 0x0⟩
def RJ_ADDR_LO.ADDR : Fld := ⟨0x100, 6, 26, 0x0⟩
def RJ_ADDR_HI.ADDR : Fld := ⟨0x104, 0, 8, 0x0⟩
def RJ_CTL.SITE : Fld := ⟨0x108, 16, 4, 0x0⟩
def RJ_CTL.CANCEL : Fld := ⟨0x108, 2, 1, 0x0⟩
def RJ_CTL.ACK : Fld := ⟨0x108, 1, 1, 0x0⟩
def RJ_CTL.GO : Fld := ⟨0x108, 0, 1, 0x0⟩
def RJ_RES.VALID : Fld := ⟨0x10c, 31, 1, 0x0⟩
def RJ_RES.ACKD : Fld := ⟨0x10c, 30, 1, 0x1⟩
def RJ_RES.COARSE : Fld := ⟨0x10c, 29, 1, 0x0⟩
def RJ_RES.OPTIMAL : Fld := ⟨0x10c, 28, 1, 0x0⟩
def RJ_RES.CLASS : Fld := ⟨0x10c, 24, 4, 0x0⟩
def RJ_RES.SUB : Fld := ⟨0x10c, 20, 4, 0x0⟩
def RJ_RES.SITE : Fld := ⟨0x10c, 16, 4, 0x0⟩
def RJ_RES.SEQ : Fld := ⟨0x10c, 0, 16, 0x0⟩
def RJ_NODES.V : Fld := ⟨0x110, 0, 32, 0x0⟩
def RJ_INFO.RUSED : Fld := ⟨0x114, 16, 8, 0x0⟩
def RJ_INFO.CUSED : Fld := ⟨0x114, 0, 8, 0x0⟩
def RAE_PURGED.V : Fld := ⟨0x400, 0, 32, 0x0⟩
def rowsRAE : List RegRow :=
  [⟨0x10, 0x0, 1, 0x0, 1, [⟨RAE_STAT.BUSY, .ro, [], none⟩, ⟨RAE_STAT.RUNSLOT, .ro, [], none⟩, ⟨RAE_STAT.QUEUED, .ro, [], none⟩, ⟨RAE_STAT.REJ, .w1c, [], none⟩]⟩,
   ⟨0x14, 0x0, 1, 0x0, 1, [⟨RAE_CNT_JOBS.V, .ro, [], none⟩]⟩,
   ⟨0x100, 0x20, 16, 0x0, 1, [⟨RJ_ADDR_LO.ADDR, .rw, [], none⟩]⟩,
   ⟨0x104, 0x20, 16, 0x0, 1, [⟨RJ_ADDR_HI.ADDR, .rw, [], none⟩]⟩,
   ⟨0x108, 0x20, 16, 0x0, 1, [⟨RJ_CTL.SITE, .wo, [], none⟩, ⟨RJ_CTL.CANCEL, .wo, [], none⟩, ⟨RJ_CTL.ACK, .wo, [], none⟩, ⟨RJ_CTL.GO, .wo, [], none⟩]⟩,
   ⟨0x10c, 0x20, 16, 0x0, 1, [⟨RJ_RES.VALID, .ro, [], none⟩, ⟨RJ_RES.ACKD, .ro, [], none⟩, ⟨RJ_RES.COARSE, .ro, [], none⟩, ⟨RJ_RES.OPTIMAL, .ro, [], none⟩, ⟨RJ_RES.CLASS, .ro, [], none⟩, ⟨RJ_RES.SUB, .ro, [], none⟩, ⟨RJ_RES.SITE, .ro, [], none⟩, ⟨RJ_RES.SEQ, .ro, [], none⟩]⟩,
   ⟨0x110, 0x20, 16, 0x0, 1, [⟨RJ_NODES.V, .ro, [], none⟩]⟩,
   ⟨0x114, 0x20, 16, 0x0, 1, [⟨RJ_INFO.RUSED, .ro, [], none⟩, ⟨RJ_INFO.CUSED, .ro, [], none⟩]⟩,
   ⟨0x400, 0x4, 16, 0x0, 1, [⟨RAE_PURGED.V, .ro, [], none⟩]⟩]

/-! ## Block SAC (11_signal_analysis_cores.md) -/
def SAC_CFG.ASSIGNED : Fld := ⟨0x10, 31, 1, 0x0⟩
def SAC_CFG.SP : Fld := ⟨0x10, 16, 4, 0x0⟩
def SAC_CFG.SITE : Fld := ⟨0x10, 0, 4, 0x0⟩
def SAC_CTL.DBELL : Fld := ⟨0x14, 8, 1, 0x0⟩
def SAC_CTL.HALTREQ : Fld := ⟨0x14, 2, 1, 0x0⟩
def SAC_CTL.START : Fld := ⟨0x14, 1, 1, 0x0⟩
def SAC_CTL.RST : Fld := ⟨0x14, 0, 1, 0x1⟩
def SAC_STAT.STATE : Fld := ⟨0x18, 29, 3, 0x0⟩
def SAC_STAT.PMREJ : Fld := ⟨0x18, 28, 1, 0x0⟩
def SAC_STAT.LACT : Fld := ⟨0x18, 17, 1, 0x0⟩
def SAC_STAT.EXC : Fld := ⟨0x18, 16, 1, 0x0⟩
def SAC_STAT.STICKY : Fld := ⟨0x18, 8, 6, 0x0⟩
def SAC_STAT.FLAGS : Fld := ⟨0x18, 0, 4, 0x0⟩
def SAC_PC.PC : Fld := ⟨0x1c, 0, 13, 0x0⟩
def SAC_EXC.CAUSE : Fld := ⟨0x20, 28, 4, 0x0⟩
def SAC_EXC.ADDR : Fld := ⟨0x20, 0, 13, 0x0⟩
def SAC_EDADDR.WORD : Fld := ⟨0x24, 0, 15, 0x0⟩
def SAC_EVT.SEQ : Fld := ⟨0x28, 8, 16, 0x0⟩
def SAC_EVT.CODE : Fld := ⟨0x28, 0, 8, 0x0⟩
def SAC_EVOUT.SEQ : Fld := ⟨0x2c, 8, 16, 0x0⟩
def SAC_EVOUT.CODE : Fld := ⟨0x2c, 0, 8, 0x0⟩
def SAC_ILAT_MAX.V : Fld := ⟨0x30, 0, 32, 0x0⟩
def SAC_CNT_STALL.V : Fld := ⟨0x34, 0, 32, 0x0⟩
def SAC_CNT_CLR.CLR : Fld := ⟨0x38, 0, 2, 0x0⟩
def SAC_XRES.VALID : Fld := ⟨0x40, 31, 1, 0x0⟩
def SAC_XRES.ACKD : Fld := ⟨0x40, 30, 1, 0x1⟩
def SAC_XRES.STATUS : Fld := ⟨0x40, 27, 3, 0x0⟩
def SAC_XRES.SEQ : Fld := ⟨0x40, 0, 16, 0x0⟩
def SAC_XCTL.CANCEL : Fld := ⟨0x44, 1, 1, 0x0⟩
def SAC_XCTL.ACK : Fld := ⟨0x44, 0, 1, 0x0⟩
def SAC_PURGED.V : Fld := ⟨0x60, 0, 32, 0x0⟩
def rowsSAC_0 : List RegRow :=
  [⟨0x10, 0x0, 1, 0x0, 1, [⟨SAC_CFG.ASSIGNED, .rws, [], none⟩, ⟨SAC_CFG.SP, .rws, [], none⟩, ⟨SAC_CFG.SITE, .rws, [], none⟩]⟩,
   ⟨0x14, 0x0, 1, 0x0, 1, [⟨SAC_CTL.DBELL, .wo, [], none⟩, ⟨SAC_CTL.HALTREQ, .wo, [], none⟩, ⟨SAC_CTL.START, .wo, [], none⟩, ⟨SAC_CTL.RST, .rw, [], none⟩]⟩,
   ⟨0x18, 0x0, 1, 0x0, 1, [⟨SAC_STAT.STATE, .ro, [], none⟩, ⟨SAC_STAT.PMREJ, .w1c, [], none⟩, ⟨SAC_STAT.LACT, .ro, [], none⟩, ⟨SAC_STAT.EXC, .ro, [], none⟩, ⟨SAC_STAT.STICKY, .w1c, [], none⟩, ⟨SAC_STAT.FLAGS, .ro, [], none⟩]⟩,
   ⟨0x1c, 0x0, 1, 0x0, 1, [⟨SAC_PC.PC, .ro, [], none⟩]⟩,
   ⟨0x20, 0x0, 1, 0x0, 1, [⟨SAC_EXC.CAUSE, .ro, [], none⟩, ⟨SAC_EXC.ADDR, .ro, [], none⟩]⟩,
   ⟨0x24, 0x0, 1, 0x0, 1, [⟨SAC_EDADDR.WORD, .ro, [], none⟩]⟩,
   ⟨0x28, 0x0, 1, 0x0, 1, [⟨SAC_EVT.SEQ, .ro, [], none⟩, ⟨SAC_EVT.CODE, .ro, [], none⟩]⟩,
   ⟨0x2c, 0x0, 1, 0x0, 1, [⟨SAC_EVOUT.SEQ, .ro, [], none⟩, ⟨SAC_EVOUT.CODE, .ro, [], none⟩]⟩,
   ⟨0x30, 0x0, 1, 0x0, 1, [⟨SAC_ILAT_MAX.V, .ro, [], none⟩]⟩,
   ⟨0x34, 0x0, 1, 0x0, 1, [⟨SAC_CNT_STALL.V, .ro, [], none⟩]⟩,
   ⟨0x38, 0x0, 1, 0x0, 1, [⟨SAC_CNT_CLR.CLR, .wo, [], none⟩]⟩,
   ⟨0x40, 0x10, 2, 0x0, 1, [⟨SAC_XRES.VALID, .ro, [], none⟩, ⟨SAC_XRES.ACKD, .ro, [], none⟩, ⟨SAC_XRES.STATUS, .ro, [], none⟩, ⟨SAC_XRES.SEQ, .ro, [], none⟩]⟩,
   ⟨0x44, 0x10, 2, 0x0, 1, [⟨SAC_XCTL.CANCEL, .wo, [], none⟩, ⟨SAC_XCTL.ACK, .wo, [], none⟩]⟩,
   ⟨0x60, 0x0, 1, 0x0, 1, [⟨SAC_PURGED.V, .ro, [], none⟩]⟩,
   ⟨0x800, 0x0, 1, 0x0, 1, [⟨EG_CTL.INV, .wo, [], none⟩, ⟨EG_CTL.RAW, .rw, [], none⟩, ⟨EG_CTL.DIAG, .rw, [], none⟩]⟩,
   ⟨0x804, 0x0, 1, 0x0, 1, [⟨EG_WIN.PAGE, .rw, [(8, 8388607)], none⟩]⟩,
   ⟨0x808, 0x0, 1, 0x0, 1, [⟨EG_STAT.VALID, .w1c, [], none⟩, ⟨EG_STAT.KIND, .ro, [], none⟩, ⟨EG_STAT.SYN, .ro, [], none⟩, ⟨EG_STAT.INVBUSY, .ro, [], none⟩]⟩,
   ⟨0x80c, 0x0, 1, 0x0, 1, [⟨EG_ADDR_LO.V, .ro, [], none⟩]⟩,
   ⟨0x810, 0x0, 1, 0x0, 1, [⟨EG_ADDR_HI.V, .ro, [], none⟩]⟩,
   ⟨0x814, 0x0, 1, 0x0, 1, [⟨EG_CNT_CE.V, .ro, [], none⟩]⟩]
def rowsSAC_1 : List RegRow :=
  [⟨0x818, 0x0, 1, 0x0, 1, [⟨EG_CNT_UE.V, .ro, [], none⟩]⟩,
   ⟨0x81c, 0x0, 1, 0x0, 1, [⟨EG_CNT_PSN.V, .ro, [], none⟩]⟩,
   ⟨0x820, 0x0, 1, 0x0, 1, [⟨EG_CNT_CLR.CLR, .wo, [], none⟩]⟩,
   ⟨0x830, 0x0, 1, 0x0, 1, [⟨EG_FLIP0.V, .rw, [], none⟩]⟩,
   ⟨0x834, 0x0, 1, 0x4, 3, []⟩,
   ⟨0x840, 0x0, 1, 0x4, 4, [⟨EG_RAW.V, .ro, [], none⟩]⟩,
   ⟨0x850, 0x0, 1, 0x0, 1, [⟨EG_IBASE.V, .rw, [], none⟩]⟩,
   ⟨0x854, 0x0, 1, 0x0, 1, [⟨EG_ICNT.V, .rw, [], none⟩]⟩,
   ⟨0x860, 0x0, 1, 0x0, 1, [⟨EG_CTL.INV, .wo, [], none⟩, ⟨EG_CTL.RAW, .rw, [], none⟩, ⟨EG_CTL.DIAG, .rw, [], none⟩]⟩,
   ⟨0x864, 0x0, 1, 0x0, 1, [⟨EG_WIN.PAGE, .rw, [(32, 8388607)], none⟩]⟩,
   ⟨0x868, 0x0, 1, 0x0, 1, [⟨EG_STAT.VALID, .w1c, [], none⟩, ⟨EG_STAT.KIND, .ro, [], none⟩, ⟨EG_STAT.SYN, .ro, [], none⟩, ⟨EG_STAT.INVBUSY, .ro, [], none⟩]⟩,
   ⟨0x86c, 0x0, 1, 0x0, 1, [⟨EG_ADDR_LO.V, .ro, [], none⟩]⟩,
   ⟨0x870, 0x0, 1, 0x0, 1, [⟨EG_ADDR_HI.V, .ro, [], none⟩]⟩,
   ⟨0x874, 0x0, 1, 0x0, 1, [⟨EG_CNT_CE.V, .ro, [], none⟩]⟩,
   ⟨0x878, 0x0, 1, 0x0, 1, [⟨EG_CNT_UE.V, .ro, [], none⟩]⟩,
   ⟨0x87c, 0x0, 1, 0x0, 1, [⟨EG_CNT_PSN.V, .ro, [], none⟩]⟩,
   ⟨0x880, 0x0, 1, 0x0, 1, [⟨EG_CNT_CLR.CLR, .wo, [], none⟩]⟩,
   ⟨0x890, 0x0, 1, 0x0, 1, [⟨EG_FLIP0.V, .rw, [], none⟩]⟩,
   ⟨0x894, 0x0, 1, 0x4, 3, []⟩,
   ⟨0x8a0, 0x0, 1, 0x4, 4, [⟨EG_RAW.V, .ro, [], none⟩]⟩]
def rowsSAC_2 : List RegRow :=
  [⟨0x8b0, 0x0, 1, 0x0, 1, [⟨EG_IBASE.V, .rw, [], none⟩]⟩,
   ⟨0x8b4, 0x0, 1, 0x0, 1, [⟨EG_ICNT.V, .rw, [], none⟩]⟩]
def rowsSAC : List RegRow := rowsSAC_0 ++ rowsSAC_1 ++ rowsSAC_2

/-! ## Block SPC (12_processors_locks_debug.md) -/
def SP_CTL.RST : Fld := ⟨0x100, 0, 1, 0x1⟩
def SP_CFG.ASSIGNED : Fld := ⟨0x104, 31, 1, 0x0⟩
def SP_CFG.AUTOBOOT : Fld := ⟨0x104, 8, 1, 0x1⟩
def SP_CFG.SITE : Fld := ⟨0x104, 0, 4, 0x0⟩
def SP_STAT.STATE : Fld := ⟨0x108, 30, 2, 0x0⟩
def SP_STAT.XREADY : Fld := ⟨0x108, 1, 1, 0x0⟩
def SP_XBASE_LO.V : Fld := ⟨0x10c, 0, 32, 0x0⟩
def SP_XBASE_HI.V : Fld := ⟨0x110, 0, 8, 0x0⟩
def SP_MSIP.V : Fld := ⟨0x114, 0, 1, 0x0⟩
def SP_MTCMP_LO.V : Fld := ⟨0x118, 0, 32, 0xffffffff⟩
def SP_MTCMP_HI.V : Fld := ⟨0x11c, 0, 32, 0xffffffff⟩
def SP_SWI.V : Fld := ⟨0x120, 0, 4, 0x0⟩
def IH_LINE.TARGET : Fld := ⟨0x1000, 8, 1, 0x0⟩
def IH_LINE.IH_PRIO : Fld := ⟨0x1000, 0, 3, 0x0⟩
def IH_PEND.V : Fld := ⟨0x1180, 0, 32, 0x0⟩
def IH_TOP.VALID : Fld := ⟨0x1190, 31, 1, 0x0⟩
def IH_TOP.LINE : Fld := ⟨0x1190, 0, 7, 0x0⟩
def IH_THR.S : Fld := ⟨0x1194, 8, 3, 0x0⟩
def IH_THR.M : Fld := ⟨0x1194, 0, 3, 0x0⟩
def IH_EVT.CNT : Fld := ⟨0x1200, 8, 16, 0x0⟩
def IH_EVT.CODE : Fld := ⟨0x1200, 0, 8, 0x0⟩
def rowsSPC_0 : List RegRow :=
  [⟨0x100, 0x40, 4, 0x0, 1, [⟨SP_CTL.RST, .rw, [], none⟩]⟩,
   ⟨0x104, 0x40, 4, 0x0, 1, [⟨SP_CFG.ASSIGNED, .rws, [], none⟩, ⟨SP_CFG.AUTOBOOT, .rws, [], none⟩, ⟨SP_CFG.SITE, .rws, [], none⟩]⟩,
   ⟨0x108, 0x40, 4, 0x0, 1, [⟨SP_STAT.STATE, .ro, [], none⟩, ⟨SP_STAT.XREADY, .ro, [], none⟩]⟩,
   ⟨0x10c, 0x40, 4, 0x0, 1, [⟨SP_XBASE_LO.V, .rw, [], none⟩]⟩,
   ⟨0x110, 0x40, 4, 0x0, 1, [⟨SP_XBASE_HI.V, .rw, [], none⟩]⟩,
   ⟨0x114, 0x40, 4, 0x0, 1, [⟨SP_MSIP.V, .rw, [], none⟩]⟩,
   ⟨0x118, 0x40, 4, 0x0, 1, [⟨SP_MTCMP_LO.V, .rw, [], none⟩]⟩,
   ⟨0x11c, 0x40, 4, 0x0, 1, [⟨SP_MTCMP_HI.V, .rw, [], none⟩]⟩,
   ⟨0x120, 0x40, 4, 0x0, 1, [⟨SP_SWI.V, .w1s, [], none⟩]⟩,
   ⟨0x800, 0x60, 4, 0x0, 1, [⟨EG_CTL.INV, .wo, [], none⟩, ⟨EG_CTL.RAW, .rw, [], none⟩, ⟨EG_CTL.DIAG, .rw, [], none⟩]⟩,
   ⟨0x804, 0x60, 4, 0x0, 1, [⟨EG_WIN.PAGE, .rw, [(256, 8388607)], none⟩]⟩,
   ⟨0x808, 0x60, 4, 0x0, 1, [⟨EG_STAT.VALID, .w1c, [], none⟩, ⟨EG_STAT.KIND, .ro, [], none⟩, ⟨EG_STAT.SYN, .ro, [], none⟩, ⟨EG_STAT.INVBUSY, .ro, [], none⟩]⟩,
   ⟨0x80c, 0x60, 4, 0x0, 1, [⟨EG_ADDR_LO.V, .ro, [], none⟩]⟩,
   ⟨0x810, 0x60, 4, 0x0, 1, [⟨EG_ADDR_HI.V, .ro, [], none⟩]⟩,
   ⟨0x814, 0x60, 4, 0x0, 1, [⟨EG_CNT_CE.V, .ro, [], none⟩]⟩,
   ⟨0x818, 0x60, 4, 0x0, 1, [⟨EG_CNT_UE.V, .ro, [], none⟩]⟩,
   ⟨0x81c, 0x60, 4, 0x0, 1, [⟨EG_CNT_PSN.V, .ro, [], none⟩]⟩,
   ⟨0x820, 0x60, 4, 0x0, 1, [⟨EG_CNT_CLR.CLR, .wo, [], none⟩]⟩,
   ⟨0x830, 0x60, 4, 0x0, 1, [⟨EG_FLIP0.V, .rw, [], none⟩]⟩,
   ⟨0x834, 0x60, 4, 0x4, 3, []⟩]
def rowsSPC_1 : List RegRow :=
  [⟨0x840, 0x60, 4, 0x4, 4, [⟨EG_RAW.V, .ro, [], none⟩]⟩,
   ⟨0x850, 0x60, 4, 0x0, 1, [⟨EG_IBASE.V, .rw, [], none⟩]⟩,
   ⟨0x854, 0x60, 4, 0x0, 1, [⟨EG_ICNT.V, .rw, [], none⟩]⟩,
   ⟨0x1000, 0x400, 4, 0x4, 96, [⟨IH_LINE.TARGET, .rw, [], none⟩, ⟨IH_LINE.IH_PRIO, .rw, [], none⟩]⟩,
   ⟨0x1180, 0x400, 4, 0x4, 3, [⟨IH_PEND.V, .w1c, [], none⟩]⟩,
   ⟨0x1190, 0x400, 4, 0x0, 1, [⟨IH_TOP.VALID, .ro, [], none⟩, ⟨IH_TOP.LINE, .ro, [], none⟩]⟩,
   ⟨0x1194, 0x400, 4, 0x0, 1, [⟨IH_THR.S, .rw, [], none⟩, ⟨IH_THR.M, .rw, [], none⟩]⟩,
   ⟨0x1200, 0x400, 4, 0x4, 80, [⟨IH_EVT.CNT, .ro, [], none⟩, ⟨IH_EVT.CODE, .ro, [], none⟩]⟩]
def rowsSPC : List RegRow := rowsSPC_0 ++ rowsSPC_1

/-! ## Block LCK (12_processors_locks_debug.md) -/
def LCK_STAT.NOTOWN : Fld := ⟨0x10, 0, 1, 0x0⟩
def LCK_ORPH.V : Fld := ⟨0x14, 0, 32, 0x0⟩
def LCK.ACQ : Fld := ⟨0x100, 31, 1, 0x0⟩
def LCK.ORPHAN : Fld := ⟨0x100, 30, 1, 0x0⟩
def LCK.OWNER : Fld := ⟨0x100, 0, 8, 0x0⟩
def LCK_PEEK.V : Fld := ⟨0x200, 0, 32, 0x0⟩
def rowsLCK : List RegRow :=
  [⟨0x10, 0x0, 1, 0x0, 1, [⟨LCK_STAT.NOTOWN, .w1c, [], none⟩]⟩,
   ⟨0x14, 0x0, 1, 0x0, 1, [⟨LCK_ORPH.V, .ro, [], none⟩]⟩,
   ⟨0x100, 0x4, 64, 0x0, 1, [⟨LCK.ACQ, .ro, [], none⟩, ⟨LCK.ORPHAN, .ro, [], none⟩, ⟨LCK.OWNER, .ro, [], none⟩]⟩,
   ⟨0x200, 0x4, 64, 0x0, 1, [⟨LCK_PEEK.V, .ro, [], none⟩]⟩]

/-! ## Block DEN (12_processors_locks_debug.md) -/
def DEN_CLAIM.HELD : Fld := ⟨0x10, 31, 1, 0x0⟩
def DEN_CLAIM.BYTAP : Fld := ⟨0x10, 30, 1, 0x0⟩
def DEN_CLAIM.DROP : Fld := ⟨0x10, 1, 1, 0x0⟩
def DEN_CLAIM.TAKE : Fld := ⟨0x10, 0, 1, 0x0⟩
def DEN_STAT.CMP : Fld := ⟨0x14, 8, 5, 0x0⟩
def DEN_STAT.HIT : Fld := ⟨0x14, 4, 1, 0x0⟩
def DEN_STAT.TAPERR : Fld := ⟨0x14, 3, 1, 0x0⟩
def DEN_STAT.FREJ : Fld := ⟨0x14, 2, 1, 0x0⟩
def DEN_STAT.NOCLAIM : Fld := ⟨0x14, 1, 1, 0x0⟩
def DEN_SEL.KIND : Fld := ⟨0x18, 8, 2, 0x0⟩
def DEN_SEL.INDEX : Fld := ⟨0x18, 0, 4, 0x0⟩
def DEN_CTL.HALTRST : Fld := ⟨0x1c, 3, 1, 0x0⟩
def DEN_CTL.STEP : Fld := ⟨0x1c, 2, 1, 0x0⟩
def DEN_CTL.RESUME : Fld := ⟨0x1c, 1, 1, 0x0⟩
def DEN_CTL.HALT : Fld := ⟨0x1c, 0, 1, 0x0⟩
def DEN_CSTAT.PDOWN : Fld := ⟨0x20, 1, 1, 0x0⟩
def DEN_CSTAT.HALTED : Fld := ⟨0x20, 0, 1, 0x0⟩
def DEN_PC_LO.V : Fld := ⟨0x24, 0, 32, 0x0⟩
def DEN_PC_HI.V : Fld := ⟨0x28, 0, 32, 0x0⟩
def DEN_DFEED.V : Fld := ⟨0x30, 0, 32, 0x0⟩
def DEN_DIN_LO.V : Fld := ⟨0x34, 0, 32, 0x0⟩
def DEN_DIN_HI.V : Fld := ⟨0x38, 0, 32, 0x0⟩
def DRES_LO.V : Fld := ⟨0x3c, 0, 32, 0x0⟩
def DRES_HI.V : Fld := ⟨0x40, 0, 32, 0x0⟩
def DEN_FRES.STATUS : Fld := ⟨0x44, 28, 2, 0x0⟩
def DEN_FRES.CAUSE : Fld := ⟨0x44, 20, 8, 0x0⟩
def DEN_FRES.SEQ : Fld := ⟨0x44, 0, 16, 0x0⟩
def DEN_DTX.V : Fld := ⟨0x60, 0, 32, 0x0⟩
def DEN_TERM.DRXOVF : Fld := ⟨0x64, 3, 1, 0x0⟩
def DEN_TERM.DTXACK : Fld := ⟨0x64, 2, 1, 0x0⟩
def DEN_TERM.DRX_FULL : Fld := ⟨0x64, 1, 1, 0x0⟩
def DEN_TERM.DTX_FULL : Fld := ⟨0x64, 0, 1, 0x0⟩
def DEN_DRX.V : Fld := ⟨0x68, 0, 32, 0x0⟩
def DEN_BMADDR_LO.V : Fld := ⟨0x70, 0, 32, 0x0⟩
def DEN_BMADDR_HI.V : Fld := ⟨0x74, 0, 24, 0x0⟩
def DEN_BMDATA_LO.V : Fld := ⟨0x78, 0, 32, 0x0⟩
def DEN_BMDATA_HI.V : Fld := ⟨0x7c, 0, 32, 0x0⟩
def DEN_BMCTL.SZ64 : Fld := ⟨0x80, 2, 1, 0x0⟩
def DEN_BMCTL.WR : Fld := ⟨0x80, 1, 1, 0x0⟩
def DEN_BMCTL.GO : Fld := ⟨0x80, 0, 1, 0x0⟩
def DEN_BMRES.VALID : Fld := ⟨0x84, 31, 1, 0x0⟩
def DEN_BMRES.STATUS : Fld := ⟨0x84, 28, 2, 0x0⟩
def DEN_BMRES.SEQ : Fld := ⟨0x84, 0, 16, 0x0⟩
def DEN_CMP.ACT : Fld := ⟨0x100, 4, 2, 0x0⟩
def DEN_CMP.KIND : Fld := ⟨0x100, 2, 2, 0x0⟩
def DEN_CMP.EN : Fld := ⟨0x100, 0, 1, 0x0⟩
def DEN_CADDR_LO.V : Fld := ⟨0x104, 0, 32, 0x0⟩
def DEN_CADDR_HI.V : Fld := ⟨0x108, 0, 32, 0x0⟩
def DEN_CMASK.V : Fld := ⟨0x10c, 0, 32, 0x0⟩
def DEN_TPORT.V : Fld := ⟨0x400, 0, 32, 0x0⟩
def rowsDEN_0 : List RegRow :=
  [⟨0x10, 0x0, 1, 0x0, 1, [⟨DEN_CLAIM.HELD, .ro, [], none⟩, ⟨DEN_CLAIM.BYTAP, .ro, [], none⟩, ⟨DEN_CLAIM.DROP, .wo, [], none⟩, ⟨DEN_CLAIM.TAKE, .wo, [], none⟩]⟩,
   ⟨0x14, 0x0, 1, 0x0, 1, [⟨DEN_STAT.CMP, .ro, [], none⟩, ⟨DEN_STAT.HIT, .w1c, [], none⟩, ⟨DEN_STAT.TAPERR, .w1c, [], none⟩, ⟨DEN_STAT.FREJ, .w1c, [], none⟩, ⟨DEN_STAT.NOCLAIM, .w1c, [], none⟩]⟩,
   ⟨0x18, 0x0, 1, 0x0, 1, [⟨DEN_SEL.KIND, .rw, [], none⟩, ⟨DEN_SEL.INDEX, .rw, [], none⟩]⟩,
   ⟨0x1c, 0x0, 1, 0x0, 1, [⟨DEN_CTL.HALTRST, .rw, [], none⟩, ⟨DEN_CTL.STEP, .wo, [], none⟩, ⟨DEN_CTL.RESUME, .wo, [], none⟩, ⟨DEN_CTL.HALT, .wo, [], none⟩]⟩,
   ⟨0x20, 0x0, 1, 0x0, 1, [⟨DEN_CSTAT.PDOWN, .ro, [], none⟩, ⟨DEN_CSTAT.HALTED, .ro, [], none⟩]⟩,
   ⟨0x24, 0x0, 1, 0x0, 1, [⟨DEN_PC_LO.V, .rw, [], none⟩]⟩,
   ⟨0x28, 0x0, 1, 0x0, 1, [⟨DEN_PC_HI.V, .rw, [], none⟩]⟩,
   ⟨0x30, 0x0, 1, 0x0, 1, [⟨DEN_DFEED.V, .wo, [], none⟩]⟩,
   ⟨0x34, 0x0, 1, 0x0, 1, [⟨DEN_DIN_LO.V, .rw, [], none⟩]⟩,
   ⟨0x38, 0x0, 1, 0x0, 1, [⟨DEN_DIN_HI.V, .rw, [], none⟩]⟩,
   ⟨0x3c, 0x0, 1, 0x0, 1, [⟨DRES_LO.V, .ro, [], none⟩]⟩,
   ⟨0x40, 0x0, 1, 0x0, 1, [⟨DRES_HI.V, .ro, [], none⟩]⟩,
   ⟨0x44, 0x0, 1, 0x0, 1, [⟨DEN_FRES.STATUS, .ro, [], none⟩, ⟨DEN_FRES.CAUSE, .ro, [], none⟩, ⟨DEN_FRES.SEQ, .ro, [], none⟩]⟩,
   ⟨0x60, 0x0, 1, 0x0, 1, [⟨DEN_DTX.V, .ro, [], none⟩]⟩,
   ⟨0x64, 0x0, 1, 0x0, 1, [⟨DEN_TERM.DRXOVF, .w1c, [], none⟩, ⟨DEN_TERM.DTXACK, .wo, [], none⟩, ⟨DEN_TERM.DRX_FULL, .ro, [], none⟩, ⟨DEN_TERM.DTX_FULL, .ro, [], none⟩]⟩,
   ⟨0x68, 0x0, 1, 0x0, 1, [⟨DEN_DRX.V, .wo, [], none⟩]⟩,
   ⟨0x70, 0x0, 1, 0x0, 1, [⟨DEN_BMADDR_LO.V, .rw, [], none⟩]⟩,
   ⟨0x74, 0x0, 1, 0x0, 1, [⟨DEN_BMADDR_HI.V, .rw, [], none⟩]⟩,
   ⟨0x78, 0x0, 1, 0x0, 1, [⟨DEN_BMDATA_LO.V, .rw, [], none⟩]⟩,
   ⟨0x7c, 0x0, 1, 0x0, 1, [⟨DEN_BMDATA_HI.V, .rw, [], none⟩]⟩]
def rowsDEN_1 : List RegRow :=
  [⟨0x80, 0x0, 1, 0x0, 1, [⟨DEN_BMCTL.SZ64, .rw, [], none⟩, ⟨DEN_BMCTL.WR, .rw, [], none⟩, ⟨DEN_BMCTL.GO, .wo, [], none⟩]⟩,
   ⟨0x84, 0x0, 1, 0x0, 1, [⟨DEN_BMRES.VALID, .ro, [], none⟩, ⟨DEN_BMRES.STATUS, .ro, [], none⟩, ⟨DEN_BMRES.SEQ, .ro, [], none⟩]⟩,
   ⟨0x100, 0x10, 8, 0x0, 1, [⟨DEN_CMP.ACT, .rw, [], none⟩, ⟨DEN_CMP.KIND, .rw, [], none⟩, ⟨DEN_CMP.EN, .rw, [], none⟩]⟩,
   ⟨0x104, 0x10, 8, 0x0, 1, [⟨DEN_CADDR_LO.V, .rw, [], none⟩]⟩,
   ⟨0x108, 0x10, 8, 0x0, 1, [⟨DEN_CADDR_HI.V, .rw, [], none⟩]⟩,
   ⟨0x10c, 0x10, 8, 0x0, 1, [⟨DEN_CMASK.V, .rw, [], none⟩]⟩,
   ⟨0x400, 0x10, 16, 0x4, 4, [⟨DEN_TPORT.V, .rw, [], none⟩]⟩]
def rowsDEN : List RegRow := rowsDEN_0 ++ rowsDEN_1

/-! ## Block SITE (04_sites_and_pattern_sequencers.md) -/
def SITE_CFG.EN : Fld := ⟨0x100, 31, 1, 0x0⟩
def SITE_CFG.PSQ : Fld := ⟨0x100, 0, 4, 0x0⟩
def SITE_CTL.RELEASE : Fld := ⟨0x104, 1, 1, 0x0⟩
def SITE_CTL.RESET : Fld := ⟨0x104, 0, 1, 0x0⟩
def SITE_STAT.QUIESCED : Fld := ⟨0x108, 31, 1, 0x0⟩
def SITE_STAT.STATE : Fld := ⟨0x108, 28, 2, 0x0⟩
def SITE_STAT.FLR : Fld := ⟨0x108, 27, 1, 0x0⟩
def SITE_STAT.RCNT : Fld := ⟨0x108, 0, 16, 0x0⟩
def SITE_INFLIGHT.MEM : Fld := ⟨0x10c, 0, 16, 0x0⟩
def SITE_DBASE.GRAN : Fld := ⟨0x110, 0, 28, 0x0⟩
def SITE_DLIM.GRAN : Fld := ⟨0x114, 0, 28, 0x0⟩
def rowsSITE : List RegRow :=
  [⟨0x100, 0x40, 16, 0x0, 1, [⟨SITE_CFG.EN, .rws, [], none⟩, ⟨SITE_CFG.PSQ, .rws, [], none⟩]⟩,
   ⟨0x104, 0x40, 16, 0x0, 1, [⟨SITE_CTL.RELEASE, .wo, [], none⟩, ⟨SITE_CTL.RESET, .wo, [], none⟩]⟩,
   ⟨0x108, 0x40, 16, 0x0, 1, [⟨SITE_STAT.QUIESCED, .ro, [], none⟩, ⟨SITE_STAT.STATE, .ro, [], none⟩, ⟨SITE_STAT.FLR, .ro, [], none⟩, ⟨SITE_STAT.RCNT, .ro, [], none⟩]⟩,
   ⟨0x10c, 0x40, 16, 0x0, 1, [⟨SITE_INFLIGHT.MEM, .ro, [], none⟩]⟩,
   ⟨0x110, 0x40, 16, 0x0, 1, [⟨SITE_DBASE.GRAN, .rws, [], none⟩]⟩,
   ⟨0x114, 0x40, 16, 0x0, 1, [⟨SITE_DLIM.GRAN, .rws, [(67108864, 268435455)], none⟩]⟩]

/-! ## Block ARP (03_levels_and_parametric.md) -/
def ARP_LINK.UP : Fld := ⟨0x10, 31, 1, 0x0⟩
def ARP_LINK.RATE : Fld := ⟨0x10, 16, 4, 0x0⟩
def ARP_LINK.WIDTH : Fld := ⟨0x10, 8, 5, 0x0⟩
def ARP_LINK.RETRAIN : Fld := ⟨0x10, 0, 8, 0x0⟩
def ARP_INFO.GUEST_ID : Fld := ⟨0x14, 16, 16, 0x0⟩
def ARP_INFO.GVER : Fld := ⟨0x14, 8, 8, 0x0⟩
def ARP_INFO.BANKS : Fld := ⟨0x14, 0, 8, 0x0⟩
def ARP_TEMP.VALID : Fld := ⟨0x20, 31, 1, 0x0⟩
def ARP_TEMP.TEMP : Fld := ⟨0x20, 0, 16, 0x0⟩
def AB_VTT.CODE : Fld := ⟨0x1000, 0, 16, 0x0⟩
def AB_VREFB.CODE : Fld := ⟨0x1004, 0, 16, 0x0⟩
def PMU_CFG.SETTLE : Fld := ⟨0x1008, 16, 8, 0xa⟩
def PMU_CFG.NAVG : Fld := ⟨0x1008, 12, 3, 0x0⟩
def PMU_CFG.APER : Fld := ⟨0x1008, 8, 3, 0x1⟩
def PMU_CFG.IRNG : Fld := ⟨0x1008, 4, 3, 0x4⟩
def PMU_CFG.MODE : Fld := ⟨0x1008, 0, 3, 0x0⟩
def PMU_FORCE.VAL : Fld := ⟨0x100c, 0, 18, 0x0⟩
def PMU_CTL.ACK : Fld := ⟨0x1010, 1, 1, 0x0⟩
def PMU_CTL.GO : Fld := ⟨0x1010, 0, 1, 0x0⟩
def PMU_STAT.OFF : Fld := ⟨0x1014, 4, 1, 0x0⟩
def PMU_STAT.REJ : Fld := ⟨0x1014, 3, 1, 0x0⟩
def PMU_STAT.RCHG : Fld := ⟨0x1014, 2, 1, 0x0⟩
def PMU_STAT.BUSY : Fld := ⟨0x1014, 1, 1, 0x0⟩
def PMU_STAT.ON : Fld := ⟨0x1014, 0, 1, 0x0⟩
def PMU_RES_LO.CODE : Fld := ⟨0x1018, 0, 18, 0x0⟩
def PMU_RES_HI.VALID : Fld := ⟨0x101c, 31, 1, 0x0⟩
def PMU_RES_HI.STATUS : Fld := ⟨0x101c, 28, 3, 0x0⟩
def PMU_RES_HI.ACKD : Fld := ⟨0x101c, 27, 1, 0x1⟩
def PMU_RES_HI.CLAMP : Fld := ⟨0x101c, 26, 1, 0x0⟩
def PMU_RES_HI.OVR : Fld := ⟨0x101c, 25, 1, 0x0⟩
def PMU_RES_HI.SEQ : Fld := ⟨0x101c, 0, 16, 0x0⟩
def rowsARP : List RegRow :=
  [⟨0x10, 0x0, 1, 0x0, 1, [⟨ARP_LINK.UP, .ro, [], none⟩, ⟨ARP_LINK.RATE, .ro, [], none⟩, ⟨ARP_LINK.WIDTH, .ro, [], none⟩, ⟨ARP_LINK.RETRAIN, .ro, [], none⟩]⟩,
   ⟨0x14, 0x0, 1, 0x0, 1, [⟨ARP_INFO.GUEST_ID, .ro, [], none⟩, ⟨ARP_INFO.GVER, .ro, [], none⟩, ⟨ARP_INFO.BANKS, .ro, [], none⟩]⟩,
   ⟨0x20, 0x4, 4, 0x0, 1, [⟨ARP_TEMP.VALID, .ro, [], none⟩, ⟨ARP_TEMP.TEMP, .ro, [], none⟩]⟩,
   ⟨0x1000, 0x100, 18, 0x0, 1, [⟨AB_VTT.CODE, .rw, [(50001, 65535)], none⟩]⟩,
   ⟨0x1004, 0x100, 18, 0x0, 1, [⟨AB_VREFB.CODE, .rw, [], none⟩]⟩,
   ⟨0x1008, 0x100, 18, 0x0, 1, [⟨PMU_CFG.SETTLE, .rws, [], none⟩, ⟨PMU_CFG.NAVG, .rws, [], none⟩, ⟨PMU_CFG.APER, .rws, [(6, 7)], none⟩, ⟨PMU_CFG.IRNG, .rws, [(5, 7)], none⟩, ⟨PMU_CFG.MODE, .rws, [(6, 7)], none⟩]⟩,
   ⟨0x100c, 0x100, 18, 0x0, 1, [⟨PMU_FORCE.VAL, .rws, [], none⟩]⟩,
   ⟨0x1010, 0x100, 18, 0x0, 1, [⟨PMU_CTL.ACK, .wo, [], none⟩, ⟨PMU_CTL.GO, .wo, [], none⟩]⟩,
   ⟨0x1014, 0x100, 18, 0x0, 1, [⟨PMU_STAT.OFF, .ro, [], none⟩, ⟨PMU_STAT.REJ, .w1c, [], none⟩, ⟨PMU_STAT.RCHG, .ro, [], none⟩, ⟨PMU_STAT.BUSY, .ro, [], none⟩, ⟨PMU_STAT.ON, .ro, [], none⟩]⟩,
   ⟨0x1018, 0x100, 18, 0x0, 1, [⟨PMU_RES_LO.CODE, .ro, [], none⟩]⟩,
   ⟨0x101c, 0x100, 18, 0x0, 1, [⟨PMU_RES_HI.VALID, .ro, [], none⟩, ⟨PMU_RES_HI.STATUS, .ro, [], none⟩, ⟨PMU_RES_HI.ACKD, .ro, [], none⟩, ⟨PMU_RES_HI.CLAMP, .ro, [], none⟩, ⟨PMU_RES_HI.OVR, .ro, [], none⟩, ⟨PMU_RES_HI.SEQ, .ro, [], none⟩]⟩]

end Sys2Proof.Machine
end

