-- ==== Sys2Proof/Machine/Addr.lean ====
section
/-! DEFINITION. Where the register blocks lie (01_device_architecture.md R38, R40, R43, R44): the local address of every block
by package instance number, and the bit numbers of DCTL_READY. -/
namespace Sys2Proof.Machine

/-- Register space of die `d` (R40). -/
def regBase (d : Nat) : Nat := 0x7F00000000 + d * 0x40000000
def dctlB (d : Nat) : Nat := regBase d
def ckpB (d : Nat) : Nat := regBase d + 0x00100000
def fhB (d : Nat) : Nat := regBase d + 0x00200000
def svpB (d : Nat) : Nat := regBase d + 0x00300000
def cfeB (d : Nat) : Nat := regBase d + 0x00400000
def stcB (d : Nat) : Nat := regBase d + 0x00500000
def nocB (d : Nat) : Nat := regBase d + 0x00600000
def d2dB (d : Nat) : Nat := regBase d + 0x00700000
def gptB (d : Nat) : Nat := regBase d + 0x00800000
/-- Memory port block of package port `m` (R38: MP(d × 2 + n)). -/
def mpB (m : Nat) : Nat := regBase (m / 2) + 0x00900000 + m % 2 * 0x80000
def imeB (d : Nat) : Nat := regBase d + 0x00A00000
def gslB (d : Nat) : Nat := regBase d + 0x00B00000
def hstB (d : Nat) : Nat := regBase d + 0x00C00000
def ptbB (d : Nat) : Nat := regBase d + 0x00D00000
/-- Sequencer block of package PSQ `p`. -/
def psqB (p : Nat) : Nat := regBase (p / 4) + 0x00E00000 + p % 4 * 0x40000
/-- Channel bank block of package bank `b`. -/
def tcbB (b : Nat) : Nat := regBase (b / 18) + 0x01000000 + b % 18 * 0x100000
def fcuB (d : Nat) : Nat := regBase d + 0x03000000
def raeB (r : Nat) : Nat := regBase (r / 2) + 0x03100000 + r % 2 * 0x80000
def sacB (c : Nat) : Nat := regBase (c / 16) + 0x03200000 + c % 16 * 0x10000
def spcB (d : Nat) : Nat := regBase d + 0x03300000
def lckB (d : Nat) : Nat := regBase d + 0x03400000
def denB (d : Nat) : Nat := regBase d + 0x03500000
def siteBlk (d : Nat) : Nat := regBase d + 0x03600000
def arpB (d : Nat) : Nat := regBase d + 0x03700000

/-- Registers of package channel `c` lie in its bank at 0x1_0000 + pin × 0x1000. -/
def chB (c : Nat) : Nat := tcbB (c / 32) + c % 32 * 0x1000
/-- Timing set `t` of channel `c`. -/
def tsB (c t : Nat) : Nat := chB c + t * 0x20
/-- Word `w` of the capture buffer of channel `c`. -/
def capB (c w : Nat) : Nat := tcbB (c / 32) + c % 32 * 0x2000 + w * 4
/-- Bank service of package bank `b` in its die's ARP mirror. -/
def abB (b : Nat) : Nat := arpB (b / 18) + b % 18 * 0x100
/-- Registers of site `s` in LD0's SITE block. -/
def siteB (s : Nat) : Nat := siteBlk 0 + s * 0x40
/-- FCU partition of site `s` on die `d`. -/
def fsB (d s : Nat) : Nat := fcuB d + s * 0x80
/-- Job slot `n` of package RAE `r`. -/
def rjB (r n : Nat) : Nat := raeB r + n * 0x20
/-- Region registers of package region `r`. -/
def frB (r : Nat) : Nat := cfeB (r / 64) + r % 64 * 0x100
/-- GSL port `g` (package number 0–23): its registers in its die's GSL block. -/
def gpB (g : Nat) : Nat := gslB (g / 6) + g % 6 * 0x100
/-- DMA channel `n` of LD0's HST block. -/
def dmaB (n : Nat) : Nat := hstB 0 + n * 0x40
/-- Control registers of package SP `n`, and its interrupt hub. -/
def spB (n : Nat) : Nat := spcB (n / 4) + n % 4 * 0x40
def ihB (n : Nat) : Nat := spcB (n / 4) + n % 4 * 0x400

/-- The TCB_SITEn field of a pin: four bits of the word that holds its group of eight pins. -/
def pinSiteFld (pin : Nat) : Fld := ⟨0x20 + pin / 8 * 4, pin % 8 * 4, 4, 0⟩

/-! Bit numbers of DCTL_READY, DCTL_READY_EXP and DCTL_READY_FAIL. -/
def rdyCKP : Nat := 0
def rdyOWL : Nat := 1
def rdyFH : Nat := 2
def rdySETT : Nat := 3
def rdyDEN : Nat := 4
def rdyPTB : Nat := 5
def rdyD2DE : Nat := 6
def rdyD2DS : Nat := 7
def rdyNOC : Nat := 8
def rdyGPT : Nat := 9
def rdyARP : Nat := 10
def rdyCFE : Nat := 11
def rdyIMG : Nat := 12
def rdyTCB : Nat := 13
def rdyPSQ : Nat := 14
def rdyFCU : Nat := 15
def rdyRAE : Nat := 16
def rdySAC : Nat := 17
def rdySP : Nat := 18
def rdyLCK : Nat := 19
def rdySVP : Nat := 20
def rdyMP (n : Nat) : Nat := 21 + n
def rdyIME : Nat := 23
def rdyGSL (n : Nat) : Nat := 24 + n
def rdyHST : Nat := 30

end Sys2Proof.Machine
end

