-- ==== Sys2Proof/Machine/Ops.lean ====
section
/-! DEFINITION. The shared operations: register fields and counters, staged values, memory bytes, free values; halting a
sequencer and sending STOP; the safe state of pins, banks, dies and the package; raising a fault source. -/
namespace Sys2Proof.Machine

/-! ## Register fields -/

/-- The active value of field `f` of the register block or array element at `base`. -/
def State.rd (s : State) (base : Nat) (f : Fld) : Nat := KV.get f.rst (f.key base) s.act

/-- Sets the active value, cut to the field's width. -/
def State.wr (s : State) (base : Nat) (f : Fld) (v : Nat) : State :=
  { s with act := KV.put (f.key base) (v % 2 ^ f.width) s.act }

/-- A one-bit field read as a truth value, and set from one. -/
def State.on (s : State) (base : Nat) (f : Fld) : Bool := s.rd base f != 0
def State.wrb (s : State) (base : Nat) (f : Fld) (b : Bool) : State := s.wr base f b.toNat

/-- One bit of a field that holds a bit per item. -/
def State.bit (s : State) (base : Nat) (f : Fld) (i : Nat) : Bool := bitAt (s.rd base f) i
def State.wrBit (s : State) (base : Nat) (f : Fld) (i : Nat) (b : Bool) : State :=
  s.wr base f (putBit (s.rd base f) i b)

/-- The staged value of an RWS field: what a read returns and a commit makes active (R8). -/
def State.staged (s : State) (base : Nat) (f : Fld) : Nat := KV.get (s.rd base f) (f.key base) s.stg

/-- Stages a value; a value equal to the active one leaves nothing staged (notes/assumptions/9.md). -/
def State.stage (s : State) (base : Nat) (f : Fld) (v : Nat) : State :=
  { s with stg := KV.set (s.rd base f) (f.key base) (v % 2 ^ f.width) s.stg }

/-- Sets an RWS field staged and active together: a hardware or firmware load. -/
def State.load (s : State) (base : Nat) (f : Fld) (v : Nat) : State :=
  { (s.wr base f v) with stg := KV.erase (f.key base) s.stg }

/-- Advances a counter by `n`; it saturates (R23). -/
def State.count (s : State) (base : Nat) (f : Fld) (n : Nat := 1) : State :=
  s.wr base f (satAdd f.width (s.rd base f) n)

/-- Advances a sequence number; it wraps (R23). -/
def State.seqUp (s : State) (base : Nat) (f : Fld) : State := s.wr base f (s.rd base f + 1)

/-- A value held in a low and a high register. -/
def State.rd2 (s : State) (base : Nat) (lo hi : Fld) : Nat :=
  s.rd base lo * 2 ^ lo.lsb + s.rd base hi <<< 32
def State.wr2 (s : State) (base : Nat) (lo hi : Fld) (v : Nat) : State :=
  (s.wr base lo (v / 2 ^ lo.lsb % 2 ^ lo.width)).wr base hi (v / 2 ^ 32)
/-- Advances a counter held in two registers; it saturates at their joint width. -/
def State.count2 (s : State) (base : Nat) (lo hi : Fld) (n : Nat := 1) : State :=
  s.wr2 base lo hi (satAdd (32 + hi.width) (s.rd2 base lo hi) n)

/-- A write of a reserved bit or encoding was seen (R15, R16); a write reached a frozen field (R18); a commit failed (R9). -/
def State.rsvw (s : State) (blk : Nat) : State := s.wr blk BLK_STAT.RSVW 1
def State.lockw (s : State) (blk : Nat) : State := s.wr blk BLK_STAT.LOCKW 1
def State.commitErr (s : State) (blk : Nat) : State := s.wr blk BLK_STAT.COMMIT_ERR 1

/-- Applies `f` when `c` holds. -/
def State.when (s : State) (c : Bool) (f : State → State) : State := if c then f s else s

/-- Applies `f` for each element of a list, in order. -/
def State.each {α : Type} (s : State) (xs : List α) (f : α → State → State) : State := xs.foldl (fun s x => f x s) s

/-- Ticks of 250 ps in a millisecond. -/
def ticksPerMs : Nat := 4000000

/-- Draws an open value of `w` bits that the spec leaves free; a new one each time (notes/assumptions/4.md). -/
def State.free (s : State) (w : Nat) : Nat := (Config.freeValue s.fresh w).toNat
def State.drew (s : State) : State := { s with fresh := s.fresh + 1 }

/-- A written word's bits outside the defined ones set RSVW; the rest of the write goes on (R15). -/
def State.rsvBits (s : State) (blk mask v : Nat) : State :=
  if v &&& (2 ^ 32 - 1 - mask) ≠ 0 then s.rsvw blk else s

/-! ## DCTL_READY (R48 to R50) -/

def State.ready (s : State) (d i : Nat) : Bool := s.bit (dctlB d) DCTL_READY.BITS i
def State.setReady (s : State) (d i : Nat) (b : Bool) : State := s.wrBit (dctlB d) DCTL_READY.BITS i b
/-- A function ended bring-up without becoming usable. -/
def State.setFail (s : State) (d i : Nat) : State := s.wrBit (dctlB d) DCTL_READY_FAIL.BITS i true

/-! ## Which blocks answer (R48, R503, R504, R559) -/

/-- The register blocks, by kind (R44). -/
inductive Blk where
  | dctl | ckp | fh | svp | cfe | stc | noc | d2d | gpt | mp | ime | gsl | hst | ptb | psq | tcb | fcu | rae | sac | spc
  | lck | den | site | arp
  deriving DecidableEq, Repr

/-- Base address of instance `i` of a block on die `d`. -/
def Blk.base (k : Blk) (d i : Nat) : Nat :=
  match k with
  | .dctl => dctlB d | .ckp => ckpB d | .fh => fhB d | .svp => svpB d | .cfe => cfeB d | .stc => stcB d
  | .noc => nocB d | .d2d => d2dB d | .gpt => gptB d | .mp => mpB (d * 2 + i) | .ime => imeB d | .gsl => gslB d
  | .hst => hstB d | .ptb => ptbB d | .psq => psqB (d * 4 + i) | .tcb => tcbB (d * 18 + i) | .fcu => fcuB d
  | .rae => raeB (d * 2 + i) | .sac => sacB (d * 16 + i) | .spc => spcB d | .lck => lckB d | .den => denB d
  | .site => siteBlk d | .arp => arpB d

/-- Instances of a block per die. -/
def Blk.count (k : Blk) : Nat :=
  match k with
  | .mp | .rae => 2
  | .psq => 4
  | .tcb => 18
  | .sac => 16
  | _ => 1

/-- The bit of CKP_GST that shows whether the block is clocked: register 0 to 2 and bit; none: it cannot be gated (R503). -/
def Blk.gateBit (k : Blk) (i : Nat) : Option (Nat × Nat) :=
  match k with
  | .svp => some (0, 0) | .cfe => some (0, 1) | .stc => some (0, 2) | .gpt => some (0, 3) | .mp => some (0, 4 + i)
  | .ime => some (0, 6) | .gsl => some (0, 7) | .hst => some (0, 8) | .psq => some (0, 9 + i) | .fcu => some (0, 13)
  | .rae => some (0, 14 + i) | .lck => some (0, 20) | .arp => some (0, 21) | .site => some (0, 22)
  | .sac => some (1, i) | .tcb => some (2, i)
  | .dctl | .ckp | .fh | .noc | .d2d | .ptb | .den | .spc => none

/-- The field of CKP_GATE and of CKP_GST, by register number. -/
def gateFld (j : Nat) : Fld := if j = 0 then CKP_GATE0.EN else if j = 1 then CKP_GATE1.EN else CKP_GATE2.EN
def gstFld (j : Nat) : Fld := if j = 0 then CKP_GST0.ST else if j = 1 then CKP_GST1.ST else CKP_GST2.ST

/-- The clock domain a block's registers run in (R559). -/
def Blk.domain (k : Blk) : Nat :=
  match k with
  | .noc | .lck | .site | .stc | .spc | .sac | .mp | .ime => 2
  | .psq | .tcb | .fcu => 7
  | .rae => 8
  | .cfe => 9
  | .d2d => 10
  | .gsl => 11
  | .hst => 12
  | .gpt | .arp => 13
  | .ptb => 14
  | .den => 1
  | .dctl | .ckp | .fh | .svp => 15

/-- The readiness under which a block answers (R48); none: it answers from POR release. LD1 to LD3 park HST (R32). -/
def Blk.needs (k : Blk) : Option Nat :=
  match k with
  | .dctl | .ckp | .fh | .site => none
  | .d2d | .gpt | .gsl | .mp | .hst => some rdyCKP
  | .svp => some rdySVP | .cfe => some rdyCFE | .stc => some rdySETT | .noc => some rdyNOC | .ime => some rdyIME
  | .ptb => some rdyPTB | .psq => some rdyPSQ | .tcb => some rdyTCB | .fcu => some rdyFCU | .rae => some rdyRAE
  | .sac => some rdySAC | .spc => some rdySP | .lck => some rdyLCK | .den => some rdyDEN | .arp => some rdyARP

/-- A domain that Doze (R504) or a clock failure (R507, R508) has stopped. -/
def State.domStopped (s : State) (d n : Nat) : Bool := s.domFlag (d * 40 + n)

/-- The block is clocked and its function ready: it answers accesses (R4, R48, R503, R559). -/
def State.answers (s : State) (k : Blk) (d i : Nat) : Bool :=
  !s.por && (match k.needs with
    | some r => s.ready d r
    | none => true) &&
  (match k.gateBit i with
    | some (j, n) => bitAt (s.rd (ckpB d) (gstFld j)) n
    | none => true) &&
  !s.domStopped d k.domain && !(k == .hst && d != 0)

/-- A command that is a register write acts only where its block answers; else the write is dropped silently (R48, R503). -/
def State.atBlock (s : State) (k : Blk) (d i : Nat) (f : State → State) : State :=
  if s.answers k d i then f s else s

/-! ## Memory: one byte map (R40) -/

/-- The byte at a local address; a byte that nothing has written reads 0 (R264, R266; notes/assumptions/3.md). -/
def State.byte (s : State) (a : Nat) : Byte := KV.get 0 a s.mem
def State.putByte (s : State) (a : Nat) (b : Byte) : State := { s with mem := KV.set 0 a b s.mem }

/-- `n` bytes from `a`, lowest first, and their little-endian value. -/
def State.bytes (s : State) (a n : Nat) : List Byte := (List.range n).map fun i => s.byte (a + i)
def State.rdMem (s : State) (a n : Nat) : Nat := leVal (s.bytes a n)

/-- Stores bytes upward from `a`. -/
def State.putBytes (s : State) (a : Nat) : List Byte → State
  | [] => s
  | b :: bs => (s.putByte a b).putBytes (a + 1) bs
def State.wrMem (s : State) (a n v : Nat) : State := s.putBytes a (leBytes n v)

/-! ## Reaching another die (R413, R557) -/

/-- Bundle `n` of the direction that die `d` receives on edge `e` (0: own E side, 1: own S side). -/
def bundleB (d e n : Nat) : Nat := d2dB d + e * 1024 + n * 32
/-- STATE of a bundle: 0 DOWN, 1 TRAINING, 2 UP, 3 DEGRADED. -/
def State.bundleState (s : State) (d e n : Nat) : Nat := s.rd (bundleB d e n) D2D_BST.STATE

/-- The service bundles of both directions of the joint on die `d`'s E side are UP. -/
def State.jointUp (s : State) (d : Nat) : Bool :=
  s.bundleState d 0 20 == 2 && s.bundleState ((d + 1) % 4) 1 20 == 2

/-- Die `b` is reachable from die `a` over service bundles (R557). -/
def State.reachable (s : State) (a b : Nat) : Bool :=
  if a = b then true
  else if b = (a + 1) % 4 then s.jointUp a
  else if b = (a + 3) % 4 then s.jointUp b
  else (s.jointUp a && s.jointUp ((a + 1) % 4)) || (s.jointUp ((a + 3) % 4) && s.jointUp b)

/-! ## Sites, and who belongs to them (04_sites_and_pattern_sequencers.md) -/

/-- Site states of SITE_STAT.STATE (R122). -/
def siteFREE : Nat := 0
def siteACTIVE : Nat := 1
def siteRESETTING : Nat := 2
def siteQUIESCED : Nat := 3
def State.siteState (s : State) (st : Nat) : Nat := s.rd (siteB st) SITE_STAT.STATE

/-- The site of a channel: the active TCB_SITEn field of its pin (R76). -/
def State.chanSite (s : State) (ch : Nat) : Nat := s.rd (tcbB (ch / 32)) (pinSiteFld (ch % 32))

/-- The pins of a bank that belong to a site, one bit each. -/
def State.sitePins (s : State) (b st : Nat) : Nat :=
  (List.range 32).foldl (fun m p => if s.rd (tcbB b) (pinSiteFld p) = st then m + 2 ^ p else m) 0

/-- The die holds a channel of the site (R39). -/
def State.siteOnDie (s : State) (d st : Nat) : Bool :=
  (List.range 18).any fun k => s.sitePins (d * 18 + k) st != 0

/-- The enabled site that owns a PSQ (SITE_CFG.PSQ, active). -/
def State.siteOfPsq (s : State) (p : Nat) : Option Nat :=
  (List.range 16).find? fun st => s.on (siteB st) SITE_CFG.EN && s.rd (siteB st) SITE_CFG.PSQ == p

/-! ## MSI-X (R496) -/

/-- One MSI-X message leaves for the host; the PF's vectors are 0 to 63, vector `k` of VF `n` is numbered 64 + 8n + k.
A function in D3hot sends none (R490). -/
def State.sendMsix (s : State) (v : Nat) : State :=
  let fn := if v < 64 then 0 else 1 + (v - 64) / 8
  if fn ∈ s.host.d3 then s else { s with msix := KV.set 0 v (KV.get 0 v s.msix + 1) s.msix }
def vfVector (n k : Nat) : Nat := 64 + 8 * n + k

/-! ## Sequencers: halting and STOP (R151 to R158) -/

/-- Values of PSQ_STAT.STATE (R157). -/
def psqIDLE : Nat := 0
def psqARMED : Nat := 1
def psqRUN : Nat := 2
def psqWAIT : Nat := 3
def psqHALTED : Nat := 4
def State.psqState (s : State) (p : Nat) : Nat := s.rd (psqB p) PSQ_STAT.STATE
/-- ARMED, in RUN or in WAIT. -/
def State.psqActive (s : State) (p : Nat) : Bool := 1 ≤ s.psqState p && s.psqState p ≤ 3
/-- In RUN or in WAIT. -/
def State.psqRunning (s : State) (p : Nat) : Bool := 2 ≤ s.psqState p && s.psqState p ≤ 3
def State.anyPsqActive (s : State) : Bool := (List.range 16).any s.psqActive

/-- Run statuses of PSQ_RES.STATUS (R158). -/
def runHALT : Nat := 2
def runHOST : Nat := 3
def runGROUP : Nat := 4
def runILLEGAL : Nat := 5
def runUNDERRUN : Nat := 6
def runSTACK : Nat := 7
def runRESET : Nat := 8
def runSYNCLOSS : Nat := 9
def runFAULT : Nat := 10

/-- The PSQ is a member of a lock group and has not left it (R151, R152). -/
def State.isMember (s : State) (p : Nat) : Bool := s.rd (psqB p) PSQ_LKGRP.GID != 0 && !(s.psq p).lkEnd

/-- GSL ports that carry a STOP of the group (R480): the masks of every enabled lock-group entry that names it. -/
def State.groupPorts (s : State) (gid : Nat) : List Nat :=
  match (List.range 32).find? fun g => s.on (gslB 0 + g * 8) GSL_LKG_ID.EN && s.rd (gslB 0 + g * 8) GSL_LKG_ID.GID == gid with
  | some g => (List.range 24).filter fun n => bitAt (s.rd (gslB 0 + g * 8) GSL_LKG_PORTS.MASK) n
  | none => []

/-- A STOP of group `gid` at `at_` leaves for every other member PSQ of the device and for the group's ports. -/
def State.spreadStop (s : State) (sender gid stopAt : Nat) (fromPort : Option Nat) : State :=
  { s with
    stopSeen := if KV.get 0 gid s.stopSeen = 0 ∨ stopAt + 1 < KV.get 0 gid s.stopSeen then KV.set 0 gid (stopAt + 1) s.stopSeen
      else s.stopSeen
    stops := s.stops ++ ((List.range 16).filter fun q => q != sender && s.rd (psqB q) PSQ_LKGRP.GID == gid).map
      fun q => ⟨q, gid, stopAt⟩
    stopOut := s.stopOut ++ ((s.groupPorts gid).filter fun n => some n != fromPort).map fun n => (n, gid, stopAt) }

/-- STOP_AT of a sender halting or stopping in the PCLK at tick `f` (R151). -/
def State.stopTick (s : State) (p f : Nat) : Nat := alignUp 8 (f + s.rd (psqB p) PSQ_LSH.LSH)

/-- A member sends STOP with F = `f` (R151); a PSQ without a group sends none. -/
def State.sendStop (s : State) (p f : Nat) : State :=
  if s.isMember p then s.spreadStop p (s.rd (psqB p) PSQ_LKGRP.GID) (s.stopTick p f) none else s

/-- Statuses whose member is a faulting member and sends STOP (R151). -/
def faultingStatus (st : Nat) : Bool := st ∈ [runILLEGAL, runUNDERRUN, runSTACK, runRESET, runSYNCLOSS, runFAULT]

/-- The site override after a halt: IDLE_SYM for idle PCLKs and after HALT, HOST or GROUP; none is stated for the other halts,
whose channels are safe or keep what their fault gives them (R156; notes/assumptions/21.md). -/
def State.idleOverride (s : State) (p : Nat) : Override :=
  if s.rd (psqB p) PSQ_CTL.IDLE_SYM = 0 then .keep else .dz

/-- The stretches of issues with one more, and with the repeated issues of a waiting word up to the one at `last` (R154). -/
def pbPush (x : PsqX) (r : PbRun) : List PbRun := (r :: x.pbs).take 8
def pbExtend (x : PsqX) (last : Nat) : List PbRun := pbPush x ⟨x.last + 8, last + 8, { x.pb with pbf := false, pbr := true }⟩

/-- Ends the run of a PSQ that is ARMED, in RUN or in WAIT (R157, R158): result, halt address and tick, state HALTED, STOP of a
faulting member; the PSQ issues no further word, has left its group's exception of LKEND behind, and holds no stream words. -/
def State.haltPsq (s : State) (p status cause f : Nat) : State :=
  if s.psqActive p then
    let x := s.psq p
    let b := psqB p
    let s := if faultingStatus status then s.sendStop p f else s
    let s := s.wr b PSQ_STAT.STATE psqHALTED
    let s := s.wr b PSQ_RES.STATUS status
    let s := s.wr b PSQ_RES.CAUSE cause
    let s := s.wrb b PSQ_RES.AREA x.stream
    let s := s.wr b PSQ_RES.SD (if x.stream then x.sd else 0)
    let s := s.wr b PSQ_RES.VALID 1
    let s := s.wr b PSQ_HALT_ADDR.ADDR x.pc
    let s := s.wr2 b PSQ_HALT_TICK_LO.V PSQ_HALT_TICK_HI.V f
    let s := s.wr b PSQ_STAT.STOP_PEND 0
    let o := if status ∈ [runHALT, runHOST, runGROUP] then s.idleOverride p
      else if status = runUNDERRUN then (if s.rd b PSQ_CTL.UR_KEEP = 0 then .dz else .keep) else .none
    -- a waiting word has issued in every PCLK up to the halt
    let last := match x.wait with
      | .mtch _ _ | .sync _ | .pace _ => f - 8
      | .none | .segment => x.last
    -- the idle PCLKs of an elastic wait that the halt ends (R147, R148)
    let idle := if x.wait = .segment then (f - x.tick) / 8 else 0
    let c0 := (x.tick - x.start) / 8
    let s := if idle = 0 then s else s.count2 b PSQ_CNT_IDLE_LO.V PSQ_CNT_IDLE_HI.V idle
    let c := if x.first then 0 else (last + 8 - x.start) / 8 + idle
    let s := s.sendMsix (36 + p)
    let s := match s.siteOfPsq p with
      | some st => s.sendMsix (vfVector st 0)
      | none => s
    s.setPsq p { x with
      wait := .none, last := last, ovr := o, ovrC := c, dzBanks := 0, hostStop := false, lkEnd := false, rep := none
      idle := if idle = 0 then x.idle else x.idle ++ [(c0, c0 + idle)], buf := [], bufBad := [], bufOn := false
      pb := {}, pbs := if last = x.last then x.pbs else pbExtend x last }
  else s

/-- The tick at which a PSQ that stops now halts: its next PCLK in RUN; while it waits, or is ARMED, the PCLK that the die's PTB
has reached, if that is later. -/
def State.haltTick (s : State) (p : Nat) : Nat :=
  if s.psqState p = psqRUN then (s.psq p).tick
  else if s.psqState p = psqWAIT then max (s.psq p).tick (alignUp 8 (s.tick (p / 4)))
  else alignUp 8 (s.tick (p / 4))

/-! ## The safe state of a pin (R83, R84) -/

/-- The pin is in the safe state: disabled or latched. -/
def State.pinSafe (s : State) (ch : Nat) : Bool :=
  !s.bit (tcbB (ch / 32)) TCB_EN.EN (ch % 32) || s.bit (tcbB (ch / 32)) TCB_SAFE.LATCH (ch % 32)

/-- A measurement of the bank ends with a status other than DONE; the data stay (R114, R115). -/
def State.pmuEnd (s : State) (b status : Nat) : State :=
  if (s.pmu b).phase = .idle then s
  else
    let s := s.setPmu b { s.pmu b with phase := .idle }
    let s := s.wr (abB b) PMU_STAT.BUSY 0
    let s := s.wr (abB b) PMU_RES_HI.STATUS status
    s.wr (abB b) PMU_RES_HI.ACKD 0

/-! ## Compares on their way to delivery (R76, R80, R85, R86, R91) -/

/-- The present moment on a die, in fine steps of its PTB. -/
def State.nowSteps (s : State) (d : Nat) : Nat := s.tick d * 256

/-- Changes the compares not yet delivered of the channels that `who` names. -/
def State.comps (s : State) (who : Nat → Bool) (f : Comp → Comp) : State :=
  { s with fails := s.fails.map fun w => if who w.ch then { w with comps := w.comps.map f } else w }

/-- From now a pin stops being active: its compares that fall due from now on are masked (R80, R85). -/
def State.maskPin (s : State) (ch : Nat) : State :=
  let t := s.nowSteps (ch / 576)
  s.comps (· == ch) fun k => if t ≤ k.hi then { k with masked := true } else k

/-- From now a pin is active: its compares that fall due from now on are evaluated. -/
def State.unmaskPin (s : State) (ch : Nat) : State :=
  let t := s.nowSteps (ch / 576)
  s.comps (· == ch) fun k => if t ≤ k.lo then { k with masked := false } else k

/-- A blanking from `lo` to before `hi` reaches the compares whose strobe or window it meets (R86). -/
def State.blankComps (s : State) (who : Nat → Bool) (lo hi : Nat) : State :=
  s.comps who fun k => if k.lo < hi ∧ lo ≤ k.hi then { k with blanked := true } else k

/-- A running ETC of the bank ends (R91); the compares that fall due from now on are evaluated again. -/
def State.etcEnd (s : State) (b status : Nat) : State :=
  if s.on (tcbB b) TCB_STAT.ETC_BUSY then
    let s := s.wr (tcbB b) TCB_STAT.ETC_BUSY 0
    let s := s.wr (tcbB b) TCB_ETC_RES.STATUS status
    let s := s.wr (tcbB b) TCB_ETC_RES.VALID 1
    let t := s.nowSteps (b / 18)
    let s := s.comps (· / 32 == b) fun k => if t ≤ k.lo then { k with etc := false } else k
    s.setBank b { s.bank b with etcAckd := false, etcPins := 0, etcTrigs := [] }
  else s

/-- A pin goes to high impedance with its switch open; a transition in progress ends with its role recorded (R82, R83;
notes/assumptions/20.md), a measurement through it ends ABORTED (R114), an ETC that covers it ends ABORTED (R91). -/
def State.pinToSafe (s : State) (ch : Nat) : State :=
  let b := ch / 32
  let x := s.pin ch
  let s := if s.rd (chB ch) CH_ROLE.CUR = 1 then s.pmuEnd b 4 else s
  let s := if bitAt (s.bank b).etcPins (ch % 32) then s.etcEnd b 2 else s
  let s := if s.on (chB ch) CH_ROLE.BUSY then
      (s.wr (chB ch) CH_ROLE.BUSY 0).wr (chB ch) CH_ROLE.CUR x.tgt
    else s
  let s := s.maskPin ch
  s.setPin ch { x with drv := false, term := false, sw := false, enab := false, mid := false, edge := 0 }

/-- Latches the enabled pins of `mask` in bank `b` safe (R84); a disabled pin is safe already and does not latch. -/
def State.latchPins (s : State) (b mask : Nat) : State :=
  let m := s.rd (tcbB b) TCB_EN.EN &&& mask
  if m = 0 then s
  else
    let s := s.wr (tcbB b) TCB_SAFE.LATCH (s.rd (tcbB b) TCB_SAFE.LATCH ||| m)
    s.each ((List.range 32).filter fun p => bitAt m p) fun p s => s.pinToSafe (b * 32 + p)

/-- Every channel of a site enters the safe state (R126 step 2), on the dies of `ds`. -/
def State.siteChannelsSafe (s : State) (st : Nat) : State :=
  s.each (List.range 72) fun b s =>
    if s.rd (tcbB b) TCB_EN.EN = 0 then s else s.latchPins b (s.sitePins b st)

/-- The PMUs that serve a die's banks turn off and report OFF; their measurements end ABORTED (R119). -/
def State.pmuForceOff (s : State) (b : Nat) : State :=
  let s := s.pmuEnd b 4
  let s := s.wr (abB b) PMU_STAT.OFF 1
  s.wr (abB b) PMU_STAT.ON 0

/-! ## Fault sources (R518 to R531) -/

def fhKey (d src : Nat) : Nat := d * 128 + src

/-- CKP_MODE.MODE: 0 START, 1 NORMAL, 2 TEST, 3 RECOVERY; held by LD0 (R506). -/
def State.mode (s : State) : Nat := s.rd (ckpB 0) CKP_MODE.MODE

/-- The severity at which a source acts: sources 0 and 1 at 6 in NORMAL, else its programmed severity (R530). -/
def State.severity (s : State) (d src : Nat) : Nat :=
  if src ≤ 1 ∧ s.mode = 1 then 6 else s.rd (fhB d + src * 4) (FH_SEV.SEV d src)

/-- Reserved source IDs are never raised (R531). -/
def reservedSource (src : Nat) : Bool :=
  (8 ≤ src && src ≤ 15) || src == 30 || src == 31 || (42 ≤ src && src ≤ 47) || (60 ≤ src && src ≤ 63) ||
  (74 ≤ src && src ≤ 79) || (101 ≤ src && src ≤ 111) || 114 ≤ src

def State.fhPending (s : State) (d src : Nat) : Bool := s.bit (fhB d + src / 32 * 4) FH_PEND.V (src % 32)
def State.setFhPending (s : State) (d src : Nat) (b : Bool) : State :=
  s.wrBit (fhB d + src / 32 * 4) FH_PEND.V (src % 32) b

/-- Some source of the die is pending with a reaction of at least `sev` in force (R524). -/
def State.reactsAt (s : State) (d sev : Nat) : Bool :=
  (List.range 128).any fun src => s.fhPending d src && sev ≤ (s.fh (fhKey d src)).react

/-- The strongest reaction in force on the die from its own pending sources. -/
def State.ownReact (s : State) (d : Nat) : Nat :=
  (List.range 128).foldl (fun m src => if s.fhPending d src then max m (s.fh (fhKey d src)).react else m) 0

/-- A device-safe reaction is held by some die, or by the severity-6 hold: the SAFE nets are driven low (R36, R525, R526). -/
def State.netsDriven (s : State) : Bool := s.safe.held || (List.range 4).any fun d => s.reactsAt d 5
def State.safePLow (s : State) : Bool := s.netsDriven || s.safe.extP
def State.safeQLow (s : State) : Bool := s.netsDriven || s.safe.extQ
/-- The package is in device-safe: either net reads low (R36). -/
def State.deviceSafe (s : State) : Bool := s.safePLow || s.safeQLow

/-- The FH interrupt level: a source of severity 2 or more is pending, or one raised again at its escalated severity (R520, R529). -/
def State.fhIrq (s : State) (d : Nat) : Bool :=
  (List.range 128).any fun src => s.fhPending d src && (2 ≤ s.severity d src || (s.fh (fhKey d src)).escd)

/-- Sets or clears one pending bit of an SP's interrupt hub. -/
def State.hubPend (s : State) (sp line : Nat) (b : Bool) : State :=
  s.wrBit (ihB sp + line / 32 * 4) IH_PEND.V (line % 32) b

/-- Brings FH_STAT of every die in line with what is pending: REACT, the SAFE levels and the interrupt, which hub line 80 of the die's SPs
follows, with the PF vector of the die at a rise (R520, R526); nets that agree end the condition of source 3 (R36). -/
def State.fhRefresh (s : State) : State :=
  let s := if s.safePLow == s.safeQLow then
      s.each (List.range 4) fun d s => s.setFh (fhKey d 3) { s.fh (fhKey d 3) with conds := [] }
    else s
  s.each (List.range 4) fun d s =>
    let was := s.on (fhB d) FH_STAT.IRQ
    let own := s.ownReact d
    let r := if s.safe.held then 6 else if s.deviceSafe then max own 5 else if own ≥ 3 then own else 0
    let irq := s.fhIrq d
    let s := s.wr (fhB d) FH_STAT.REACT r
    let s := s.wrb (fhB d) FH_STAT.SAFEP (!s.safePLow)
    let s := s.wrb (fhB d) FH_STAT.SAFEQ (!s.safeQLow)
    let s := s.wrb (fhB d) FH_STAT.IRQ irq
    if irq && !was then s.sendMsix d else s

/-- Site-safe for one site: steps 1 and 2 of R126 on every die; the site stays ACTIVE (R521). -/
def State.siteSafe (s : State) (st : Nat) : State :=
  let p := s.rd (siteB st) SITE_CFG.PSQ
  let s := if s.on (siteB st) SITE_CFG.EN then s.haltPsq p runFAULT 0 (s.haltTick p) else s
  s.siteChannelsSafe st

/-- The sites an event covers that names none: every ACTIVE site with its PSQ or a channel on the detecting die (R521). -/
def State.coveredSites (s : State) (d : Nat) : List Nat :=
  (List.range 16).filter fun st => s.siteState st == siteACTIVE &&
    (s.rd (siteB st) SITE_CFG.PSQ / 4 == d || s.siteOnDie d st)

/-- Die-safe (R522): every channel of the die safe, every PMU of its banks off, every PSQ of the die halted FAULT, and a
site-safe reaction of every site with a channel on the die. -/
def State.dieSafe (s : State) (d : Nat) : State :=
  let sites := (List.range 16).filter fun st => s.on (siteB st) SITE_CFG.EN && s.siteOnDie d st
  let s := s.each (List.range 18) fun k s => (s.latchPins (d * 18 + k) (2 ^ 32 - 1)).pmuForceOff (d * 18 + k)
  let s := s.each (List.range 4) fun n s => s.haltPsq (d * 4 + n) runFAULT 0 (s.haltTick (d * 4 + n))
  s.each sites fun st s => s.siteSafe st

/-- Every die of the package takes a die-safe reaction (R36, R522). -/
def State.packageSafe (s : State) : State := s.each (List.range 4) fun d s => s.dieSafe d

/-- One entry of the fault-log ring (R527); a full ring drops it and counts the loss. -/
def State.fhLog (s : State) (d src sev : Nat) (site : Option Nat) (inst : Nat) (force esc : Bool) : State :=
  let b := fhB d
  let wp := s.rd b FH_LOG_WR.V
  if seqDiff 32 wp (s.rd b FH_LOG_RD.V) ≥ 256 then s.count b FH_LOG_LOST.V
  else
    let t := if s.ready d rdyPTB then s.tick d else 0
    let e := b + wp % 256 * 16
    let w2 := src + sev * 2 ^ 8 + force.toNat * 2 ^ 11 + esc.toNat * 2 ^ 12 + (!s.counting d).toNat * 2 ^ 13 +
      (match site with
       | some n => 2 ^ 16 + n * 2 ^ 20
       | none => 0)
    let s := s.wr e FH_LOG.V (t % 2 ^ 32)
    let s := s.wr (e + 4) FH_LOG.V (t / 2 ^ 32)
    let s := s.wr (e + 8) FH_LOG.V w2
    let s := s.wr (e + 12) FH_LOG.V inst
    s.wr b FH_LOG_WR.V (wp + 1)

/-- What a severity does beyond the log: the safe-state reactions (R520 to R522). -/
def State.react (s : State) (d sev : Nat) (sites : List Nat) : State :=
  if sev ≥ 5 then
    let s := if sev = 6 then { s with safe := { s.safe with held := true } } else s
    s.packageSafe
  else if sev = 4 then s.dieSafe d
  else if sev = 3 then s.each sites fun st s => s.siteSafe st
  else s

/-- Records one event of source `src` at severity `sev` on die `d` and takes its reaction. A first pending bit starts the
pending period (R529); an escalated event starts none. -/
def State.faultEvent (s : State) (d src sev : Nat) (site : Option Nat) (inst : Nat) (force esc : Bool) : State :=
  let k := fhKey d src
  let x := s.fh k
  let was := s.fhPending d src
  let sites := match site with
    | some n => [n]
    | none => if sev = 3 then s.coveredSites d else []
  let mask := sites.foldl (fun m st => m ||| 2 ^ st) 0
  let x := if was then x else { x with since := s.now, react := 0, sites := 0, escd := false }
  let x := { x with
    react := if sev ≥ 3 then max x.react sev else x.react
    sites := if sev = 3 then x.sites ||| mask else x.sites
    escd := x.escd || esc }
  let s := s.setFh k x
  let s := s.setFhPending d src true
  let s := s.count (fhB d + src * 4) FH_CNT.V
  let s := if sev ≥ 1 then s.fhLog d src sev site inst force esc else s
  (s.react d sev sites).fhRefresh

/-- A hardware event of a source: at its severity, with its site and the raising block's package instance number (R518, R527). -/
def State.raise (s : State) (d src : Nat) (site : Option Nat) (inst : Nat) : State :=
  if reservedSource src then s else s.faultEvent d src (s.severity d src) site inst false false

/-- A lasting condition starts for one instance: one event at its onset (R518). -/
def State.condOn (s : State) (d src : Nat) (site : Option Nat) (inst : Nat) : State :=
  let x := s.fh (fhKey d src)
  if inst ∈ x.conds then s
  else (s.setFh (fhKey d src) { x with conds := inst :: x.conds }).raise d src site inst

/-- A lasting condition ends for one instance; the pending bit stays until it is cleared. -/
def State.condOff (s : State) (d src inst : Nat) : State :=
  s.setFh (fhKey d src) { s.fh (fhKey d src) with conds := (s.fh (fhKey d src)).conds.filter (· != inst) }

/-- The reserved-write source of a die (source 112; R3, R45, R89). -/
def State.reservedWrite (s : State) (d : Nat) : State := s.raise d 112 none d

/-- The condition behind a source of a die is present: a lasting one of some instance; for sources 32 and 33 a bank whose VCCB_OK
or VTT_OK is 0, from reset on (R53, R55). -/
def State.condPresent (s : State) (d src : Nat) : Bool :=
  !(s.fh (fhKey d src)).conds.isEmpty ||
  (src == 32 && (List.range 18).any fun k => !s.on (tcbB (d * 18 + k)) TCB_STAT.VCCB_OK) ||
  (src == 33 && (List.range 18).any fun k => !s.on (tcbB (d * 18 + k)) TCB_STAT.VTT_OK)

/-! ## Causes that hold a latch (R84) -/

/-- A safe-state reaction covering the pin's site or die is in force (R524). -/
def State.reactionCovers (s : State) (ch : Nat) : Bool :=
  let d := ch / 576
  s.deviceSafe || s.reactsAt d 4 ||
  (List.range 4).any fun e => (List.range 128).any fun src =>
    s.fhPending e src &&
      ((s.fh (fhKey e src)).react == 3 && bitAt (s.fh (fhKey e src)).sites (s.chanSite ch) ||
       (s.fh (fhKey e src)).react == 4 && s.siteOnDie e (s.chanSite ch))

/-- Some cause of R84 covering the pin is present: a reaction, a site reset, the VCCB or the VTT condition. -/
def State.safeCause (s : State) (ch : Nat) : Bool :=
  let b := ch / 32
  s.reactionCovers ch || s.siteState (s.chanSite ch) == siteRESETTING ||
  !s.on (tcbB b) TCB_STAT.VCCB_OK || !s.on (tcbB b) TCB_STAT.VTT_OK

end Sys2Proof.Machine
end

