-- ==== Sys2Proof/Machine/Clock.lean ====
section
/-! DEFINITION. Clock sources, domains and what a failing clock does (16_clocks_power_startup.md R498, R499, R505 to R508). -/
namespace Sys2Proof.Machine

/-! ## Sources (R498) -/
def srcOSC8 : Nat := 0
def srcOSC100 : Nat := 1
def srcREFCLK : Nat := 2
/-- The sources of the five PLLs, in the order of CKP_STAT.LOCK. -/
def srcPLL (p : Nat) : Nat := 4 + p
def srcPAT : Nat := 9

/-! ## Domains (R499) -/

/-- Registers of domain `n` of a die; its active source, divider and EN. -/
def domB (d n : Nat) : Nat := ckpB d + n * 4
def State.domSrc (s : State) (d n : Nat) : Nat := s.rd (domB d n) (CKP_DOM.SRC d n)
def State.domEn (s : State) (d n : Nat) : Bool := s.on (domB d n) CKP_DOM.EN

/-- The sources that a domain allows. -/
def domAllowed (n : Nat) : List Nat :=
  if n = 0 then [0, 6] else if n = 1 then [3, 2, 1] else if n = 2 then [5, 1] else if n = 3 then [6, 1]
  else if n = 4 then [6, 1] else if n = 5 then [7] else if n = 6 then [7] else if n = 7 then [4] else if n = 8 then [4, 5, 1]
  else if n = 9 then [4, 1] else if n = 10 then [5] else if n = 11 then [5, 1] else if n = 12 then [5] else if n = 13 then [5]
  else if n = 14 then [4] else if n = 15 then [2, 1] else [9, 4, 8]

/-- The greatest frequency of a domain, in MHz. -/
def domLimit (n : Nat) : Nat :=
  if n = 0 then 200 else if n = 1 then 100 else if n = 2 then 1500 else if n = 3 then 1600 else if n = 4 then 1200
  else if n = 5 then 1600 else if n = 6 then 1600 else if n = 7 then 500 else if n = 8 then 1000 else if n = 9 then 400
  else if n = 10 then 1500 else if n = 11 then 1500 else if n = 12 then 1000 else if n = 13 then 1000 else if n = 14 then 4000
  else if n = 15 then 100 else if n = 16 then 500 else 800

/-- Host software may change the domain. -/
def domHost (n : Nat) : Bool := n == 3 || n == 4 || n == 8 || n == 9 || 16 ≤ n

/-- The frequency of a source in MHz, with the FPLL's multiplier; MPLL counts at its greatest. -/
def srcMHz (mult src : Nat) : Nat :=
  if src = 0 then 8 else if src = 1 then 100 else if src = 2 then 100 else if src = 3 then 50 else if src = 4 then 4000
  else if src = 5 then 3000 else if src = 6 then 4800 else if src = 7 then 1600 else if src = 8 then 100 * mult else 500

/-! ## Clock failure -/

def State.refOk (s : State) (d : Nat) : Bool := s.on (ckpB d) CKP_STAT.REFOK
def State.pllLocked (s : State) (d p : Nat) : Bool := s.bit (ckpB d) CKP_STAT.LOCK p
/-- A source runs: REFCLK present, a PLL locked, PAT with the TPLL; the oscillators and TCK always. -/
def State.sourceOk (s : State) (d src : Nat) : Bool :=
  if src = srcREFCLK then s.refOk d
  else if src = srcPAT then s.pllLocked d 0
  else if 4 ≤ src ∧ src ≤ 8 then s.pllLocked d (src - 4)
  else true

/-- The domain is fed by the source; PAT comes from the TPLL. -/
def State.fedBy (s : State) (d n src : Nat) : Bool :=
  let c := s.domSrc d n
  c == src || (c == srcPAT && src == srcPLL 0)

/-- A domain whose source fails: outside NORMAL it moves to OSC100 where it may (R507); in NORMAL only SVC, CFG, LNK and IOC do
(R508); every other one stops. -/
def State.domFail (s : State) (d n : Nat) : State :=
  let moves := if s.mode = 1 then n == 2 || n == 9 || n == 11 || n == 15 else (domAllowed n).contains srcOSC100
  if moves then s.wr (domB d n) CKP_DOM.FB 1
  else (s.wr (domB d n) CKP_DOM.FB 0).setDomFlag (d * 40 + n) true

/-- Every domain of the die fed by a failed source. -/
def State.sourceFail (s : State) (d src : Nat) : State :=
  s.each (List.range 40) fun n s => if s.fedBy d n src then s.domFail d n else s

/-- A PLL of the die fails: its domains, and FAIL. -/
def State.pllFail (s : State) (d p : Nat) : State :=
  (s.wrBit (ckpB d) CKP_STAT.FAIL p true).sourceFail d (srcPLL p)

/-- Outside NORMAL a monitor failure interrupts the Owl without mask and raises source 2 (R507). -/
def State.monitorFallback (s : State) (d : Nat) : State :=
  if s.mode = 1 then s else (s.setOwl d { s.owl d with nmi := true }).raise d 2 none d

/-- A lasting condition of an FH-level source starts for one cause `key`: an event that names the die (R518, R527). -/
def State.condAs (s : State) (d src key : Nat) : State :=
  let k := fhKey d src
  if key ∈ (s.fh k).conds then s
  else (s.setFh k { s.fh k with conds := key :: (s.fh k).conds }).raise d src none d

/-- What R508 does from the moment NORMAL is active: a source that is missing already acts then. -/
def State.enterNormal (s : State) : State :=
  s.each (List.range 4) fun d s =>
    let s := if s.refOk d then s
      else ((s.sourceFail d srcREFCLK).condOff d 0 d).condAs d 0 d
    s.each (List.range 5) fun p s =>
      if s.pllLocked d p then s
      else
        let s := s.sourceFail d (srcPLL p)
        if s.refOk d then (s.condOff d 1 p).condAs d 1 p else s

/-- The mode becomes active on all four dies (R506). -/
def State.setMode (s : State) (m : Nat) : State :=
  let was := s.mode
  let s := s.each (List.range 4) fun d s => s.load (ckpB d) CKP_MODE.MODE m
  if m = 1 ∧ was ≠ 1 then s.enterNormal else s

end Sys2Proof.Machine
end

