-- ==== Sys2Proof/Machine/Tester.lean ====
section
/-! DEFINITION. Tester channels (02_tester_channels.md): the bank monitors, the channel input word in serial and vector mode,
roles, enable and safe state, blanking, capture and equivalent-time sampling, drift tracking and calibration. -/
namespace Sys2Proof.Machine

/-- The outcome of a command. -/
abbrev Out := Host.Outcome State Fault Refusal

/-! ## Bank monitors (R53, R55) -/

/-- Every enabled pin of a bank is latched safe. -/
def State.latchBank (s : State) (b : Nat) : State := s.latchPins b (2 ^ 32 - 1)

/-- VCCB below VLO or above VHI. -/
def State.vccbOut (s : State) (b mv : Nat) : Bool :=
  mv < s.rd (tcbB b) TCB_VWIN.VLO || s.rd (tcbB b) TCB_VWIN.VHI < mv

/-- VCCB at least 10 mV inside the window. -/
def State.vccbInside (s : State) (b mv : Nat) : Bool :=
  s.rd (tcbB b) TCB_VWIN.VLO + 10 ≤ mv && mv + 10 ≤ s.rd (tcbB b) TCB_VWIN.VHI

/-- VCCB leaves its window: VCCB_OK falls, the enabled pins latch, source 32 is raised for the bank, and its condition is present
while VCCB_OK = 0 (R53; State.condPresent). -/
def execVccbOutOfWindow (b : Fin 72) (mv : BitVec 11) (s : State) : Out :=
  .next <|
    let out := s.vccbOut b mv.toNat && s.on (tcbB b) TCB_STAT.VCCB_OK
    let s := s.wr (tcbB b) TCB_VMON.VCCB mv.toNat
    if out then
      let s := s.wr (tcbB b) TCB_STAT.VCCB_OK 0
      (s.latchBank b).raise (b / 18) 32 none b
    else s

/-- VCCB returns at least 10 mV inside its window: VCCB_OK = 1 and the condition ends (R53). -/
def execVccbReturn (b : Fin 72) (mv : BitVec 11) (s : State) : Out :=
  .next <|
    let inside := s.vccbInside b mv.toNat
    let s := s.wr (tcbB b) TCB_VMON.VCCB mv.toNat
    if inside then s.wr (tcbB b) TCB_STAT.VCCB_OK 1 else s

/-- VTT current above 200 mA for 10 µs: VTT_OK falls, the enabled pins latch, source 33 is raised for the bank (R55). -/
def execVttOvercurrent (b : Fin 72) (ma : BitVec 11) (s : State) : Out :=
  .next <|
    let beyond := decide (200 < ma.toNat) && s.on (tcbB b) TCB_STAT.VTT_OK
    let s := s.wr (tcbB b) TCB_VMON.VTTI ma.toNat
    if beyond then
      let s := s.wr (tcbB b) TCB_STAT.VTT_OK 0
      (s.latchBank b).raise (b / 18) 33 none b
    else s

/-- VTT current within 200 mA for 10 µs: VTT_OK = 1 and the condition ends (R55). -/
def execVttRecover (b : Fin 72) (ma : BitVec 11) (s : State) : Out :=
  .next <|
    let s := s.wr (tcbB b) TCB_VMON.VTTI ma.toNat
    if ma.toNat ≤ 200 then s.wr (tcbB b) TCB_STAT.VTT_OK 1 else s

/-! ## Cadence (R61, R64, R65, R69) -/

def State.vecMode (s : State) (b : Nat) : Bool := s.rd (tcbB b) TCB_CTL.MODE == 1
/-- M and N of the serial cadence. -/
def State.cadM (s : State) (b : Nat) : Nat := s.rd (tcbB b) TCB_CTL.CADM + 1
def State.cadN (s : State) (b : Nat) : Nat := s.rd (tcbB b) TCB_CTL.CADN + 1
/-- UI per word and U_base in fine steps, by BASE (R64). -/
def uiCount (base : Nat) : Nat := if base = 0 then 32 else if base = 1 then 16 else 8
def uiBase (base : Nat) : Nat := if base = 0 then 64 else if base = 1 then 128 else 256
/-- UI length U in fine steps. -/
def State.uiLen (s : State) (b : Nat) : Nat := uiBase (s.rd (tcbB b) TCB_CTL.BASE) * s.cadN b / s.cadM b
/-- Vector period T in ticks. -/
def State.period (s : State) (b : Nat) : Nat := s.rd (tcbB b) TCB_PERIOD.PER + 1

/-- The serial word taken in PCLK `c`, if the cadence takes one there: word k is taken in PCLK ⌊k × N / M⌋. -/
def serialWord (m n c : Nat) : Option Nat :=
  let k := (c * m + n - 1) / n
  if k * n / m = c then some k else none

/-- The vector periods that start in PCLK `c`: the first one and how many. -/
def vectorStarts (t c : Nat) : Nat × Nat :=
  let k0 := (8 * c + t - 1) / t
  let k1 := (8 * (c + 1) + t - 1) / t
  (k0, k1 - k0)

/-- The bank's cadence takes a word in PCLK `c`. -/
def State.takes (s : State) (b c : Nat) : Bool :=
  if s.vecMode b then (vectorStarts (s.period b) c).2 != 0
  else (serialWord (s.cadM b) (s.cadN b) c).isSome

/-- Words the bank takes in the PCLKs from `c0` to before `c1`. -/
def State.takenIn (s : State) (b c0 c1 : Nat) : Nat :=
  if s.vecMode b then
    ((List.range (c1 - c0)).filter fun i => s.takes b (c0 + i)).length
  else (c1 * s.cadM b + s.cadN b - 1) / s.cadN b - (c0 * s.cadM b + s.cadN b - 1) / s.cadN b

/-! ## What a pin may do -/

/-- PATTERN role active: enabled, not latched, no transition (R80, R85). -/
def State.pinActive (s : State) (ch : Nat) : Bool :=
  !s.pinSafe ch && !s.on (chB ch) CH_ROLE.BUSY && s.rd (chB ch) CH_ROLE.CUR == 0

def State.differential (s : State) (b : Nat) : Bool := s.rd (tcbB b) TCB_CTL.SIG == 3
/-- The channel whose registers govern a pin: the even pin of a differential pair (R56). -/
def State.governs (s : State) (ch : Nat) : Nat := if s.differential (ch / 32) then ch / 2 * 2 else ch

/-- Termination while the driver is off is present: SIG is not 0 and TERM is not "none" (R54, R57). -/
def State.hasTerm (s : State) (ch : Nat) : Bool :=
  s.rd (tcbB (ch / 32)) TCB_CTL.SIG != 0 && s.rd (chB (s.governs ch)) CH_DRV.TERM != 5

/-- The pins that a channel's role, driver and words act on: both of a differential pair (R56). -/
def State.pair (s : State) (ch : Nat) : List Nat := if s.differential (ch / 32) && ch % 2 == 0 then [ch, ch + 1] else [ch]

/-- The driver of one pin turns on or off; termination is switched at the same edge (R54). -/
def State.driveOne (s : State) (ch : Nat) (on lvl : Bool) : State :=
  s.setPin ch { s.pin ch with drv := on, lvl := lvl, term := !on && s.hasTerm ch }

/-- The driver turns on or off; the odd pin of a pair, unless it is safe, drives the complement (R56). -/
def State.drive (s : State) (ch : Nat) (on lvl : Bool) : State :=
  let s' := s.driveOne ch on lvl
  if s.differential (ch / 32) && ch % 2 == 0 && !s.pinSafe (ch + 1) && !s.on (chB (ch + 1)) CH_ROLE.BUSY then
    s'.driveOne (ch + 1) on !lvl
  else s'

/-- Termination is connected on a pin whose driver is off: SIG and TERM give one, and the pin is neither safe, nor in PARAM, nor in
the part of a transition or enable time before termination connects (R54, R79, R82, R83). -/
def State.termNow (s : State) (ch : Nat) : Bool :=
  let x := s.pin ch
  !s.pinSafe ch && !x.drv && s.hasTerm ch &&
  (if s.on (chB ch) CH_ROLE.BUSY then x.mid && x.tgt != 1 else s.rd (chB (s.governs ch)) CH_ROLE.CUR != 1)

/-! ## Thresholds (R56, R58, R59) -/

/-- A code and its signed trim in quarter LSB, limited to 0 to 255.75 LSB (R58). -/
def thrQuarters (code trim : Nat) : Nat := (max 0 (min 1023 (4 * (code : Int) + sgn 8 trim))).toNat

/-- A threshold in units of 1/32 µV: VREFB, whose code counts 32 µV, times quarters / 1,024 (R58, R105). -/
def State.threshold (s : State) (ch code trim : Nat) : Int := s.rd (abB (ch / 32)) AB_VREFB.CODE * thrQuarters code trim
def State.thh (s : State) (ch : Nat) : Int :=
  let c := chB (s.governs ch)
  s.threshold ch (s.rd c CH_THR.THH) (s.rd c CH_TRIM.THH_TRIM)
def State.thl (s : State) (ch : Nat) : Int :=
  let c := chB (s.governs ch)
  s.threshold ch (s.rd c CH_THR.THL) (s.rd c CH_TRIM.THL_TRIM)

/-- The pin is above THH; a pair is above +THD. `uv` is a voltage in µV. -/
def State.aboveHigh (s : State) (ch : Nat) (uv : Int) : Bool := s.thh ch < 32 * uv
/-- The pin is above THL; a pair is above −THD (R89). -/
def State.aboveLow (s : State) (ch : Nat) (uv : Int) : Bool :=
  (if s.differential (ch / 32) then -s.thh ch else s.thl ch) < 32 * uv

/-- A strobe meets expected 1, expected 0, or the band of CMID (R56, R59). -/
def State.passOne (s : State) (ch : Nat) (uv : Int) : Bool := s.aboveHigh ch uv
def State.passZero (s : State) (ch : Nat) (uv : Int) : Bool :=
  32 * uv < (if s.differential (ch / 32) then -s.thh ch else s.thl ch)
def State.passMid (s : State) (ch : Nat) (uv : Int) : Bool := s.aboveLow ch uv && 32 * uv < s.thh ch

/-- A strobe or window in fine steps falls within a blanking interval of the bank or of the pin (R86). -/
def State.blanked (s : State) (ch lo hi : Nat) : Bool :=
  let x := s.bank (ch / 32)
  let y := s.pin ch
  (lo < x.blankTo && x.blankFrom ≤ hi) || (lo < y.blankTo && y.blankFrom ≤ hi)

/-- An elastic wait in progress has reached input PCLK `c` (R147, R148). -/
def State.idlesAt (s : State) (p c : Nat) : Bool :=
  let x := s.psq p
  decide (x.wait = .segment) && (x.tick - x.start) / 8 ≤ c

/-- The override in force for a channel at input PCLK `c` (R146, R148, R156). -/
def State.overrideAt (s : State) (ch c : Nat) : Override :=
  let st := s.chanSite ch
  if !s.on (siteB st) SITE_CFG.EN then .none
  else
    let p := s.rd (siteB st) SITE_CFG.PSQ
    let x := s.psq p
    if (x.idle.any fun i => i.1 ≤ c && c < i.2) || s.idlesAt p c then s.idleOverride p
    else if x.ovr ≠ .none ∧ x.ovrC ≤ c then
      if x.ovr = .keep ∧ bitAt x.dzBanks (ch / 32) then .dz else x.ovr
    else .none

/-- Tick of cadence position 0 of the channel's site: the first word's issue and 8 PCLK (R61, R63). -/
def State.cadence0 (s : State) (ch : Nat) : Nat :=
  (s.psq (s.rd (siteB (s.chanSite ch)) SITE_CFG.PSQ)).start + 64

/-! ## Capture buffer (R89) -/

/-- A capture word is appended, or lost when the buffer is full. -/
def State.capture (s : State) (ch w : Nat) : State :=
  let p := s.rd (chB ch) CH_CAPPTR.PTR
  if p ≥ 2048 then s.count (chB ch) CH_CNT_CAPLOST.V
  else
    let s := s.wr (capB ch p) CH_CAPBUF.V w
    let s := s.wr (chB ch) CH_CAPPTR.PTR (p + 1)
    s.wrb (chB ch) CH_CAPPTR.FULL (p + 1 = 2048)

/-! ## The channel input word (R60 to R77) -/

/-- The pin voltage at strobe `j`; the least and the greatest in the window of entry `j`. -/
def atStrobe (v : Seen) (j : Nat) : Int := v.uv.getD j 0
def leastIn (v : Seen) (j : Nat) : Int := v.least.getD j 0
def mostIn (v : Seen) (j : Nat) : Int := v.most.getD j 0

/-- The mask of the indexes below `n` that satisfy `f`. -/
def maskOf (n : Nat) (f : Nat → Bool) : Nat :=
  (List.range n).foldl (fun m j => if f j then m + 2 ^ j else m) 0

/-- Capture bits: the comparator that CAPSEL names (R89). -/
def State.capBits (s : State) (ch : Nat) (v : Seen) (n : Nat) : Nat :=
  maskOf n fun j =>
    if s.on (chB ch) CH_SAMP.CAPSEL then s.aboveLow ch (atStrobe v j) else s.aboveHigh ch (atStrobe v j)

/-- A running ETC covers the pin: its compares are neither evaluated nor counted, its capture symbols discarded (R91). -/
def State.etcCovers (s : State) (ch : Nat) : Bool :=
  s.on (tcbB (ch / 32)) TCB_STAT.ETC_BUSY && bitAt (s.bank (ch / 32)).etcPins (ch % 32)

/-- The compares of the mask `cmp`, with strobe or window from `lo j` to `hi j` and the verdict `bad j`, as they stand now; a masking,
blanking or ETC that begins or ends before they fall due still changes them (R80, R85, R86, R91). -/
def State.judge (s : State) (ch cmp : Nat) (lo hi : Nat → Nat) (bad : Nat → Bool) : List Comp :=
  ((List.range 32).filter (bitAt cmp)).map fun j =>
    ⟨j, lo j, hi j, bad j, !s.pinActive ch, s.blanked ch (lo j) (hi j), s.etcCovers ch⟩

/-- A compare is evaluated. -/
def Comp.live (k : Comp) : Bool := !k.masked && !k.blanked && !k.etc
/-- The fail bits of a fail word, and whether a compare of it was evaluated (R76, R139). -/
def FailWord.bits (w : FailWord) : Nat := w.comps.foldl (fun m k => if k.live && k.bad then m + 2 ^ k.j else m) 0
def FailWord.compared (w : FailWord) : Bool := w.comps.any Comp.live

/-- The compares of a delivered word that were suppressed are counted, each in the first counter that applies (R80, R85 to R87). -/
def State.countSuppressed (s : State) (w : FailWord) : State :=
  let c := chB w.ch
  let masked := w.comps.countP fun k => !k.etc && k.masked
  let blank := w.comps.countP fun k => !k.etc && !k.masked && k.blanked
  let s := if masked = 0 then s else s.count c CH_CNT_MASKED.V masked
  if blank = 0 then s else s.count c CH_CNT_BLANKED.V blank

/-- The fail word of a taken word goes on its way: delivery in PCLK P_end + 16 (R76, R77). -/
def State.sendFail (s : State) (ch : Nat) (comps : List Comp) (c tick endSteps : Nat) : State :=
  let pEnd := (endSteps - 1) / 256 / 8
  { s with fails := s.fails ++ [⟨ch, s.chanSite ch, comps, c, s.cadence0 ch + 8 * c, tick, s.cadence0 ch + 8 * (pEnd + 16)⟩] }

/-- A trigger of the bank's running sweep, at a reference time in fine steps; triggers of one time are one (R90). -/
def State.etcTriggered (s : State) (b t : Nat) : State :=
  let x := s.bank b
  if !s.on (tcbB b) TCB_STAT.ETC_BUSY || x.etcTrigs.contains t then s
  else s.setBank b { x with etcTrigs := x.etcTrigs ++ [t], etcAt := t / 256 }

/-- Executes serial symbol `sym` with 32 data bits (R66 to R68). `ov`: under a site override, which evaluates, captures and
counts nothing (R156). `trig`: the reference time of UI0 is an ETC trigger (R60). A capture takes place whether or not the pin is
enabled, latched, in transition or in PARAM (DESIGN CHOICE: notes/assumptions/98.md). -/
def State.serialWordExec (s : State) (ch k c sym data : Nat) (cmask capt trig ov : Bool) (v : Seen) : State :=
  let b := ch / 32
  let n := uiCount (s.rd (tcbB b) TCB_CTL.BASE)
  let u := s.uiLen b
  let start := k * 2048 * s.cadN b / s.cadM b
  let ref := s.cadence0 ch * 256 + start + 80 * 256
  let strobe := fun j => ref + j * u + s.rd (chB ch) CH_DSK.DCMP + s.rd (chB ch) CH_SAMP.SPH
  let x := s.pin ch
  let exp := x.exp
  -- the expected register follows an executed CMP (R67)
  let s := if sym = 3 then s.setPin ch { x with exp := data } else s
  -- the driver (R66, R67)
  let s := if !s.pinActive ch then s
    else if sym = 0 ∨ sym = 7 then
      let s := s.drive ch true (bitAt data (n - 1))
      let s := s.setPin ch { s.pin ch with wave := data % 2 ^ n }
      if s.differential b && ch % 2 == 0 && (s.pin (ch + 1)).drv then
        s.setPin (ch + 1) { s.pin (ch + 1) with wave := 2 ^ n - 1 - data % 2 ^ n }
      else s
    else if sym = 2 then s
    else s.drive ch false x.lvl
  -- compares (R66)
  let cmp := if cmask || ov then 0
    else if sym = 3 ∨ sym = 5 then 2 ^ n - 1 else if sym = 4 then data % 2 ^ n else 0
  let bad := fun j =>
    let uv := atStrobe v j
    if sym = 5 then !s.passMid ch uv
    else if bitAt (if sym = 4 then exp else data) j then !s.passOne ch uv else !s.passZero ch uv
  let comps := s.judge ch cmp strobe strobe bad
  -- capture (R66, R89)
  let s := if (sym = 6 ∨ sym = 7 ∨ capt) && !ov && !s.etcCovers ch then s.capture ch (s.capBits ch v n) else s
  let s := if trig && !ov && s.etcCovers ch && s.pinActive ch then s.etcTriggered b ref else s
  s.sendFail ch comps c (ref / 256) (start + 2048 * s.cadN b / s.cadM b)

/-- One vector entry as its fields (R70). -/
structure Entry where
  sym : Nat
  tset : Nat
  d : Bool
  m : Bool
  reserved : Bool
  deriving DecidableEq, Repr

def entryOf (v : Nat) : Entry :=
  ⟨bits v 0 4, bits v 4 3, bitAt v 8, bitAt v 9, bitAt v 7 || bits v 10 6 != 0 || 8 ≤ bits v 0 4⟩

/-- The edges a period's symbol places, in steps from the period's start: time, driver on, level (R71, R72). -/
def State.edgesOf (s : State) (ch : Nat) (e : Entry) : List (Nat × Bool × Bool) :=
  let b := tsB ch e.tset
  let on := (s.pin ch).drv
  let d1 := s.rd b TS_D1.EDGE
  let d2 := s.rd b TS_D2.EDGE
  if e.sym = 0 ∨ e.sym = 7 then
    match s.rd b TS_FMT.FMT with
    | 0 => [(d1, true, e.d)]
    | 1 => [(d1, true, e.d), (d2, true, false)]
    | 2 => [(d1, true, e.d), (d2, true, true)]
    | _ => (if on then [(0, true, !e.d)] else []) ++ [(d1, true, e.d), (d2, true, !e.d)]
  else if e.sym = 2 then []
  else [(s.rd b TS_D3.EDGE, false, (s.pin ch).lvl)]

/-- Places edges one after another: one that changes nothing is no drive edge; one closer than 128 steps to the one before is
delayed and counted (R74). Times count from cadence position 0. -/
def State.placeEdges (s : State) (ch start : Nat) : List (Nat × Bool × Bool) → State
  | [] => s
  | (t, on, lvl) :: es =>
    let x := s.pin ch
    if on = x.drv ∧ (lvl = x.lvl ∨ !on) then s.placeEdges ch start es
    else
      let t := start + t
      let late := x.edge ≠ 0 ∧ t + 1 < x.edge + 128
      let at_ := if late then x.edge - 1 + 128 else t
      let s := if late then s.count (chB ch) CH_CNT_EDGE.V else s
      let s := s.drive ch on lvl
      (s.setPin ch { s.pin ch with edge := at_ + 1 }).placeEdges ch start es

/-- Executes one vector entry of period `k`; answers its compare, if it has one (R70 to R75). -/
def State.entryExec (s : State) (ch k i : Nat) (e : Entry) (cmask : Bool) (v : Seen) : List Comp × State :=
  let b := ch / 32
  let t := s.period b
  let start := k * t * 256 + 80 * 256
  let ts := tsB ch e.tset
  let s := if s.pinActive ch then s.placeEdges ch (start + s.rd (chB ch) CH_DSK.DDRV) (s.edgesOf ch e) else s
  let does := !cmask && (e.sym = 3 ∨ e.sym = 5 ∨ (e.sym = 4 ∧ e.m))
  let win := s.on ts TS_FMT.WIN
  let ref := s.cadence0 ch * 256 + start + s.rd (chB ch) CH_DSK.DCMP
  let c1 := ref + s.rd ts TS_C1.EDGE
  let c2 := if win then ref + s.rd ts TS_C2.EDGE else c1
  let low := if win then leastIn v i else atStrobe v i
  let high := if win then mostIn v i else atStrobe v i
  let bad := if e.sym = 5 then !(s.passMid ch low && s.passMid ch high)
    else if e.d then !s.passOne ch low else !s.passZero ch high
  (s.judge ch (if does then 2 ^ i else 0) (fun _ => c1) (fun _ => c2) (fun _ => bad), s)

/-- Executes the taken word of a vector-mode bank: one or two entries (R69, R70). `subst`: both entries run as DZ. The bits of the
entries that capture are packed from bit 0, so that a word of which entry 1 alone captures has its bit in bit 0 (DESIGN CHOICE:
notes/assumptions/98.md). `trig`: the word's reference time is an ETC trigger. -/
def State.vectorExec (s : State) (ch k n c data : Nat) (cmask capt trig subst ov : Bool) (ovSym : Nat) (v : Seen) : State :=
  let b := ch / 32
  let t := s.period b
  let step := fun (acc : List Comp × Nat × Nat × State) (i : Nat) =>
    let (comps, capN, capV, s) := acc
    let e := entryOf (bits data (16 * i) 16)
    let bad := !subst && !ov && e.reserved
    let s := if bad then (s.count (chB ch) CH_CNT_SUBST.V).raise (ch / 576) 35 (some (s.chanSite ch)) ch else s
    let e := if ov then { e with sym := ovSym } else if subst || bad then { e with sym := 1 } else e
    let (f, s) := if ov && ovSym = 1 then
        -- a DZ override turns the driver off at the period's reference time plus DDRV; no D3 is used (R156)
        ([], if s.pinActive ch then
          s.placeEdges ch ((k + i) * t * 256 + 80 * 256 + s.rd (chB ch) CH_DSK.DDRV) [(0, false, (s.pin ch).lvl)] else s)
      else s.entryExec ch (k + i) i e (cmask || ov) v
    let caps := !ov && !bad && !s.etcCovers ch && (e.sym = 6 ∨ e.sym = 7 ∨ capt)
    let one := bitAt (s.capBits ch v 2) i
    (comps ++ f, if caps then capN + 1 else capN, if caps ∧ one then capV + 2 ^ capN else capV, s)
  let (comps, capN, capV, s) := (List.range n).foldl step ([], 0, 0, s)
  let s := if capN = 0 then s else s.capture ch capV
  let ref := s.cadence0 ch + k * t + 80
  let s := if trig && !ov && s.etcCovers ch && s.pinActive ch then s.etcTriggered b (ref * 256) else s
  s.sendFail ch comps c ref ((k + n) * t * 256)

/-- A channel takes its input word at input PCLK `c` of its site's run: drive, compare or capture, with substitution of a
poisoned or reserved word (R61, R62) and the site override (R156). `poison` holds the poison wires of the five buses. A poisoned
word runs as DZ and captures with CAPT as the row of DZ says; a reserved-symbol word captures nothing, as its own row says (R66). -/
def execChannelWordTake (ch : Fin 2304) (w : BitVec 40) (poison : BitVec 5) (c : Nat) (v : Seen) (s : State) : Out :=
  .next <|
    let b := ch.val / 32
    if !s.takes b c || (s.differential b && ch.val % 2 = 1) then s
    else
      let d := ch.val / 576
      let site := some (s.chanSite ch)
      let data := bits w.toNat 0 32
      let sym := bits w.toNat 32 4
      let cmask := bitAt w.toNat 36
      let capt := bitAt w.toNat 37
      let trig := bitAt w.toNat 38
      let ov := s.overrideAt ch c
      let isOv := ov ≠ .none
      let ovSym := if ov = .keep then 2 else 1
      let pois := !isOv && poison.toNat != 0
      let vec := s.vecMode b
      let per := s.period b
      let word := serialWord (s.cadM b) (s.cadN b) c
      let rsv := !isOv && !pois && (bitAt w.toNat 39 || (!vec && 8 ≤ sym))
      let s := if pois || rsv then s.count (chB ch) CH_CNT_SUBST.V else s
      let s := if pois then s.raise d 34 site ch else if rsv then s.raise d 35 site ch else s
      let subst := pois || rsv
      if vec then
        let (k, n) := vectorStarts per c
        s.vectorExec ch k n c data (cmask || subst) (capt && !rsv) trig subst isOv ovSym v
      else
        match word with
        | some k =>
          let sym := if isOv then ovSym else if subst then 1 else sym
          s.serialWordExec ch k c sym data (cmask || subst) (capt && !rsv) trig isOv v
        | none => s

/-! ## Pin roles (R78 to R82) -/

/-- The pin starts its enable time toward its recorded role, the even pin's for a pair: high impedance, BUSY (R56, R82). -/
def State.startEnable (s : State) (ch : Nat) : State :=
  let cur := s.rd (chB (s.governs ch)) CH_ROLE.CUR
  let s := (s.wr (chB ch) CH_ROLE.BUSY 1).maskPin ch
  s.setPin ch { s.pin ch with src := cur, tgt := cur, enab := true, mid := false, drv := false, term := false, sw := false }

/-- Another pin of the bank holds PARAM or approaches it (R81). -/
def State.paramTaken (s : State) (ch : Nat) : Bool :=
  (List.range 32).any fun p =>
    let c := ch / 32 * 32 + p
    c != ch && !(s.differential (ch / 32) && p % 2 == 1) && (s.rd (chB c) CH_ROLE.CUR == 1 || (s.on (chB c) CH_ROLE.BUSY && (s.pin c).tgt == 1))

/-- A role change starts: driver off, termination and switch per the event table of R79; a measurement through a pin that leaves
PARAM, and an ETC on the pin, end ABORTED (R91, R114). -/
def State.startRole (s : State) (ch role : Nat) : State :=
  let b := ch / 32
  let cur := s.rd (chB ch) CH_ROLE.CUR
  let s := if cur = 1 then s.pmuEnd b 4 else s
  let s := if bitAt (s.bank b).etcPins (ch % 32) then s.etcEnd b 2 else s
  let s := s.wr (chB ch) CH_ROLE.ROLE role
  -- the odd pin of a pair goes along, unless it is safe (R56)
  s.each ((s.pair ch).filter fun c => c == ch || !s.pinSafe c) fun c s =>
    let s := (s.wr (chB c) CH_ROLE.BUSY 1).maskPin c
    s.setPin c { s.pin c with src := cur, tgt := role, enab := false, mid := false, drv := false, term := false, sw := false }

/-- A write to CH_ROLE: transition, record, or rejection (R78 to R82); bit 9 clears REJ. -/
def State.roleWrite (s : State) (ch : Nat) (v : Word) : State :=
  let role := v.toNat % 4
  let blk := tcbB (ch / 32)
  if s.differential (ch / 32) ∧ ch % 2 = 1 then s
  else if role = 3 then s.rsvw blk
  else
    let s := s.rsvBits blk 0x333 v.toNat
    let s := if bitAt v.toNat 9 then s.wr (chB ch) CH_ROLE.REJ 0 else s
    if s.on (chB ch) CH_ROLE.BUSY then s.wr (chB ch) CH_ROLE.REJ 1
    else if role = s.rd (chB ch) CH_ROLE.CUR then s.wr (chB ch) CH_ROLE.ROLE role
    else if role = 1 ∧ s.paramTaken ch then s.wr (chB ch) CH_ROLE.REJ 1
    else if s.pinSafe ch then (s.wr (chB ch) CH_ROLE.ROLE role).wr (chB ch) CH_ROLE.CUR role
    else s.startRole ch role

def execRoleWrite (ch : Fin 2304) (v : Word) (s : State) : Out :=
  .next (s.atBlock .tcb (ch / 576) (ch % 576 / 32) fun s => s.roleWrite ch v)

/-- The 1 µs point of a transition or enable time: toward PARAM the switch closes; away from it, and in the enable time of
PATTERN, termination connects per SIG (R79, R82). -/
def execRoleMidpoint (ch : Fin 2304) (s : State) : Out :=
  .next <|
    let x := s.pin ch
    if !s.on (chB ch) CH_ROLE.BUSY || x.mid then s
    else if x.tgt = 1 then s.setPin ch { x with sw := true, mid := true }
    else if x.src = 1 ∨ (x.enab ∧ x.tgt = 0) then s.setPin ch { x with term := s.hasTerm ch, mid := true }
    else s

/-- The end of a transition or enable time: CUR takes the role, BUSY clears (R79, R82). -/
def execRoleTransitionDone (ch : Fin 2304) (s : State) : Out :=
  .next <|
    if !s.on (chB ch) CH_ROLE.BUSY then s
    else
      let x := s.pin ch
      let term := x.tgt != 1 && s.hasTerm ch
      let s := (s.wr (chB ch) CH_ROLE.CUR x.tgt).wr (chB ch) CH_ROLE.BUSY 0
      let s := if x.tgt = 0 then s.unmaskPin ch else s
      s.setPin ch { x with enab := false, sw := x.tgt == 1, term := term, src := x.tgt }

/-! ## Enable and safe state (R83 to R85) -/

/-- A pin is enabled: latched at once when a cause covers it, else toward its recorded role (R82, R84). -/
def State.enablePin (s : State) (ch : Nat) : State :=
  let b := ch / 32
  if s.safeCause ch then s.wrBit (tcbB b) TCB_SAFE.LATCH (ch % 32) true
  else if s.bit (tcbB b) TCB_SAFE.LATCH (ch % 32) then s
  else s.startEnable ch

/-- A write to TCB_EN: bits that rise need DCTL_READY.TCB; bits that fall put the pin in the safe state without a latch (R83 to
R85). -/
def State.tcbEnWrite (s : State) (b : Nat) (v : Word) : State :=
  let old := s.rd (tcbB b) TCB_EN.EN
  let new := if s.ready (b / 18) rdyTCB then v.toNat else v.toNat &&& old
  let s := s.wr (tcbB b) TCB_EN.EN new
  s.each (List.range 32) fun p s =>
    if bitAt old p && !bitAt new p then s.pinToSafe (b * 32 + p)
    else if bitAt new p && !bitAt old p then s.enablePin (b * 32 + p)
    else s

def execTcbEnWrite (b : Fin 72) (v : Word) (s : State) : Out :=
  .next (s.atBlock .tcb (b / 18) (b % 18) fun s => s.tcbEnWrite b v)

/-- A 1 written to a TCB_SAFE bit releases the latch when no cause covers the pin; an enabled pin returns to its recorded role
(R84). -/
def State.tcbSafeWrite (s : State) (b : Nat) (v : Word) : State :=
  s.each (List.range 32) fun p s =>
    let ch := b * 32 + p
    if bitAt v.toNat p && s.bit (tcbB b) TCB_SAFE.LATCH p && !s.safeCause ch then
      let en := s.bit (tcbB b) TCB_EN.EN p
      let s := s.wrBit (tcbB b) TCB_SAFE.LATCH p false
      if en then s.startEnable ch else s
    else s

def execTcbSafeWrite (b : Fin 72) (v : Word) (s : State) : Out :=
  .next (s.atBlock .tcb (b / 18) (b % 18) fun s => s.tcbSafeWrite b v)

/-! ## Blanking (R86) -/

/-- Blanking of the bank, or of one pin, from now for `ticks`; one that begins during another extends to the later end. -/
def State.blankBank (s : State) (b ticks : Nat) : State :=
  let t := s.tick (b / 18) * 256
  let x := s.bank b
  let from_ := if x.blankFrom ≤ t ∧ t < x.blankTo then x.blankFrom else t
  let s := s.setBank b { x with blankFrom := from_, blankTo := max x.blankTo (t + ticks * 256) }
  (s.blankComps (· / 32 == b) t (t + ticks * 256)).wr (tcbB b) TCB_STAT.BLANK 1
def State.blankPin (s : State) (ch ticks : Nat) : State :=
  let t := s.tick (ch / 576) * 256
  let x := s.pin ch
  let from_ := if x.blankFrom ≤ t ∧ t < x.blankTo then x.blankFrom else t
  (s.blankComps (· == ch) t (t + ticks * 256)).setPin ch { x with blankFrom := from_, blankTo := max x.blankTo (t + ticks * 256) }

/-- A blanking interval ends: of the bank (no pin named) or of one pin. -/
def execBlankEnd (b : Fin 72) (pin : Option (Fin 32)) (s : State) : Out :=
  .next <|
    match pin with
    | none => (s.setBank b { s.bank b with blankFrom := 0, blankTo := 0 }).wr (tcbB b) TCB_STAT.BLANK 0
    | some p =>
      let ch := b.val * 32 + p.val
      s.setPin ch { s.pin ch with blankFrom := 0, blankTo := 0 }

/-! ## Capture pointer and equivalent-time capture (R89 to R91) -/

/-- A write to CH_CAPPTR: 2,049 to 4,095 are reserved encodings; 2,048 sets FULL, a smaller value clears it. -/
def State.capptrWrite (s : State) (ch : Nat) (v : Word) : State :=
  let p := v.toNat % 4096
  let blk := tcbB (ch / 32)
  if s.differential (ch / 32) ∧ ch % 2 = 1 then s
  else if 2048 < p then s.rsvw blk
  else
    let s := s.rsvBits blk 0x10FFF v.toNat
    (s.wr (chB ch) CH_CAPPTR.PTR p).wrb (chB ch) CH_CAPPTR.FULL (p = 2048)

def execCapptrWrite (ch : Fin 2304) (v : Word) (s : State) : Out :=
  .next (s.atBlock .tcb (ch / 576) (ch % 576 / 32) fun s => s.capptrWrite ch v)

def State.etcNT (s : State) (b : Nat) : Nat := s.rd (tcbB b) TCB_ETC_CFG.NT + 1
def State.etcNTH (s : State) (b : Nat) : Nat := s.rd (tcbB b) TCB_ETC_CFG.NTH + 1

/-- GO: a run starts on the pins of TCB_ETC_PINS, the even ones alone in a differential bank (R89), or is ignored with ETC_REJ while a
result is unacknowledged (R90, R91). -/
def State.etcGo (s : State) (b : Nat) : State :=
  let x := s.bank b
  if !x.etcAckd || s.on (tcbB b) TCB_STAT.ETC_BUSY then s.wr (tcbB b) TCB_STAT.ETC_REJ 1
  else
    let pins := s.rd (tcbB b) TCB_ETC_PINS.PINS &&& (if s.differential b then 0x55555555 else 0xFFFFFFFF)
    let t := s.nowSteps (b / 18)
    let s := s.comps (fun ch => ch / 32 == b && bitAt pins (ch % 32)) fun k => if t ≤ k.hi then { k with etc := true } else k
    let s := s.seqUp (tcbB b) TCB_ETC_RES.SEQ
    let s := s.wr (tcbB b) TCB_ETC_RES.STATUS 1
    let s := s.wr (tcbB b) TCB_ETC_RES.VALID 0
    let s := s.wr (tcbB b) TCB_STAT.ETC_BUSY 1
    s.setBank b { x with etcThr := 0, etcBin := 0, etcRep := 0, etcPins := pins, etcTrigs := [], etcAt := s.tick (b / 18) }

def execEtcGo (b : Fin 72) (s : State) : Out := .next (s.atBlock .tcb (b / 18) (b % 18) fun s => s.etcGo b)

/-- ACK releases the result and the buffers (R91); while the run goes on there is no result to release. -/
def State.etcAck (s : State) (b : Nat) : State :=
  if s.on (tcbB b) TCB_ETC_RES.VALID then s.setBank b { s.bank b with etcAckd := true } else s

def execEtcAck (b : Fin 72) (s : State) : Out := .next (s.atBlock .tcb (b / 18) (b % 18) fun s => s.etcAck b)

/-- Byte `i` of a channel's capture buffer is set to `v`. -/
def State.capByte (s : State) (ch i v : Nat) : State :=
  s.wr (capB ch (i / 4)) CH_CAPBUF.V (putBits (s.rd (capB ch (i / 4)) CH_CAPBUF.V) (8 * (i % 4)) 8 v)

/-- The code that THH takes at threshold `i` of the sweep, and the strobe of bin `j` after a trigger at `t`, in fine steps (R90). -/
def State.etcCode (s : State) (b i : Nat) : Nat := s.rd (tcbB b) TCB_ETC_TH.TH0 + i * s.rd (tcbB b) TCB_ETC_TH.THSTEP
def State.etcStrobe (s : State) (ch t j : Nat) : Nat :=
  t + s.rd (chB ch) CH_DSK.DCMP + s.rd (tcbB (ch / 32)) TCB_ETC_T0.T0 + j * s.rd (tcbB (ch / 32)) TCB_ETC_TSTEP.TSTEP

/-- The oldest trigger strobes the sweep's current bin on every ETC pin: `uv i` is the voltage of pin i, in µV, at its strobe. A pin
counts where it is above the sweep's threshold. A bin starts from zero, counts its REPS strobes, and the sweep moves to the next bin
and threshold (R90). One trigger strobes every ETC pin of the bank (DESIGN CHOICE: notes/assumptions/99.md). -/
def execEtcTrigger (b : Fin 72) (uv : List Int) (s : State) : Out :=
  .next <|
    let x := s.bank b
    if !s.on (tcbB b) TCB_STAT.ETC_BUSY || x.etcTrigs.isEmpty then s
    else if s.etcNTH b ≤ x.etcThr then s.setBank b { x with etcTrigs := x.etcTrigs.tail }
    else
      let code := s.etcCode b x.etcThr
      let i := x.etcThr * s.etcNT b + x.etcBin
      let reps := s.rd (tcbB b) TCB_ETC_CFG.REPS
      let bins := s.etcNT b
      let s := s.each ((List.range 32).filter (bitAt x.etcPins)) fun p s =>
        let ch := b.val * 32 + p
        let old := if x.etcRep = 0 then 0 else bits (s.rd (capB ch (i / 4)) CH_CAPBUF.V) (8 * (i % 4)) 8
        let above := s.threshold ch code (s.rd (chB ch) CH_TRIM.THH_TRIM) < 32 * uv.getD p 0
        s.capByte ch i (old + (decide above).toNat)
      let x := { x with etcTrigs := x.etcTrigs.tail }
      let y := if x.etcRep + 1 < reps then { x with etcRep := x.etcRep + 1 }
        else if x.etcBin + 1 < bins then { x with etcRep := 0, etcBin := x.etcBin + 1 }
        else { x with etcRep := 0, etcBin := 0, etcThr := x.etcThr + 1 }
      s.setBank b y

/-- The period of the REFLECT driver's steps in ticks, and its half at which the falling step comes (R90). -/
def State.reflPeriod (s : State) (b : Nat) : Nat := s.rd (tcbB b) TCB_REFL.RPER + 1
def State.reflHalf (s : State) (b : Nat) : Nat := s.reflPeriod b / 2

/-- The REFLECT driver of a pin launches a rising step, which is a trigger of an ETC that covers the pin, or the falling step of its
half period (R90). -/
def execReflectStepLaunch (ch : Fin 2304) (rising : Bool) (s : State) : Out :=
  .next <|
    if !(s.differential (ch / 32) && ch.val % 2 == 1) && !s.pinSafe ch && !s.on (chB ch) CH_ROLE.BUSY &&
        s.rd (chB ch) CH_ROLE.CUR == 2 then
      let s := s.drive ch true rising
      if rising && s.etcCovers ch then s.etcTriggered (ch / 32) (s.nowSteps (ch / 576)) else s
    else s

/-- A sweep that has done its last bin ends OK: PTR of each ETC pin is ⌈NT × NTH / 4⌉ (R90, R91). -/
def execEtcDone (b : Fin 72) (s : State) : Out :=
  .next <|
    if s.on (tcbB b) TCB_STAT.ETC_BUSY && s.etcNTH b ≤ (s.bank b).etcThr then
      let n := (s.etcNT b * s.etcNTH b + 3) / 4
      let s := s.each ((List.range 32).filter (bitAt (s.bank b).etcPins)) fun p s =>
        let ch := b.val * 32 + p
        (s.wr (chB ch) CH_CAPPTR.PTR n).wrb (chB ch) CH_CAPPTR.FULL (n = 2048)
      s.etcEnd b 0
    else s

/-- 2^24 PCLK without a trigger: the run ends TIMEOUT (R91). -/
def execEtcTimeout (b : Fin 72) (s : State) : Out :=
  .next (if (s.bank b).etcAt + 8 * 2 ^ 24 ≤ s.tick (b / 18) then s.etcEnd b 3 else s)

/-! ## Counters, drift and calibration (R87, R93 to R95) -/

/-- Clears the counters of the pins whose bits are set. -/
def State.tcbCntClr (s : State) (b : Nat) (v : Word) : State :=
  s.each ((List.range 32).filter (bitAt v.toNat)) fun p s =>
    let c := chB (b * 32 + p)
    ((((s.wr c CH_CNT_MASKED.V 0).wr c CH_CNT_BLANKED.V 0).wr c CH_CNT_SUBST.V 0).wr c CH_CNT_EDGE.V 0).wr c
      CH_CNT_CAPLOST.V 0

def execTcbCntClr (b : Fin 72) (v : Word) (s : State) : Out :=
  .next (s.atBlock .tcb (b / 18) (b % 18) fun s => s.tcbCntClr b v)

/-- What of the bank's correction is not yet applied on a pin, and the tick since which the oldest of the bank waits (R94, R95). -/
def State.driftLeft (s : State) (b p : Nat) : Int := (s.bank b).drift - (s.pin (b * 32 + p)).corr
def State.driftOldest (s : State) (b : Nat) : Option Nat :=
  ((List.range 32).filter fun p => s.driftLeft b p != 0).foldl (fun m p =>
    let t := (s.pin (b * 32 + p)).driftAt
    some (match m with
      | none => t
      | some u => min u t)) none

/-- PEND follows the pins; a deferral that has ended leaves no late count behind (R95). `was`: the oldest wait before. -/
def State.driftRefresh (s : State) (b : Nat) (was : Option Nat) : State :=
  let now := s.driftOldest b
  let s := s.wrb (tcbB b) TCB_DRIFT.PEND now.isSome
  if now = was then s else s.setBank b { s.bank b with driftLate := false, lateMs := 0 }

/-- The replica measurement finds that the bank's timing generators need a correction of `need` steps in all; on a pin where more is
now to be applied than before it waits from now (R94). A need that a pin already has ends its deferral without an application
point, and a new need on a pin that waits leaves its waiting time as it is (DESIGN CHOICE: notes/assumptions/100.md). -/
def execDriftMeasure (b : Fin 72) (need : Int) (s : State) : Out :=
  .next <|
    let was := s.driftOldest b
    let fresh := (List.range 32).filter fun p => s.driftLeft b p == 0
    let s := s.setBank b { s.bank b with drift := need }
    let s := s.each fresh fun p s => s.setPin (b * 32 + p) { s.pin (b * 32 + p) with driftAt := s.tick (b / 18) }
    s.driftRefresh b (if fresh.length = 32 then s.driftOldest b else was)

/-- The correction of one application point: at most 4 steps toward the pending one (R94). -/
def driftStep (x : Int) : Int := max (-4) (min 4 x)

/-- Input PCLK `c` of a site's run is an application point: no run is in progress, or its PSQ idles there, or a MARK reaches the
channel inputs in it (R94). -/
def State.driftPoint (s : State) (st c : Nat) : Bool :=
  if !s.on (siteB st) SITE_CFG.EN then true
  else
    let p := s.rd (siteB st) SITE_CFG.PSQ
    let x := s.psq p
    !s.on (psqB p) PSQ_STAT.RUNNING || x.marks.contains c || x.idle.any (fun i => i.1 ≤ c && c < i.2) || s.idlesAt p c

/-- A pending correction is applied to the bank's pins of one site at an application point of that site; the rest waits anew
(R94). -/
def execDriftApply (point : Sys2Proof.DriftPoint) (s : State) : Out :=
  .next <|
    let b := point.bank
    let st := point.site
    let pins := (List.range 32).filter fun p => s.chanSite (b * 32 + p) == st.val && s.driftLeft b p != 0
    match pins with
    | [] => s
    | p0 :: _ =>
      if !s.driftPoint st point.c then s
      else
        let was := s.driftOldest b
        let last := driftStep (s.driftLeft b p0)
        let s := s.each pins fun p s =>
          let x := s.pin (b * 32 + p)
          s.setPin (b * 32 + p) { x with corr := x.corr + driftStep (s.driftLeft b p), driftAt := s.tick (b / 18) }
        (s.wr (tcbB b) TCB_DRIFT.LAST (wrapI 8 last)).driftRefresh b was

/-- A correction has waited longer than 1 ms: DRIFT_LATE is set and source 37 raised once per deferral; LATE_CNT counts every
further full millisecond (R95). -/
def execDriftLate (b : Fin 72) (s : State) : Out :=
  .next <|
    match s.driftOldest b with
    | none => s
    | some t =>
      let waited := s.tick (b / 18) - t
      if waited ≤ ticksPerMs then s
      else
        let x := s.bank b
        let ms := waited / ticksPerMs - 1
        let s := s.wr (tcbB b) TCB_STAT.DRIFT_LATE 1
        let s := s.count (tcbB b) TCB_DRIFT.LATE_CNT (ms - x.lateMs)
        let s := s.setBank b { x with driftLate := true, lateMs := max ms x.lateMs }
        if x.driftLate then s else s.raise (b / 18) 37 none b

/-! ## The commit of a bank (R59, R64, R68, R73, R88, R90) -/

/-- A field as it will be after the commit. -/
abbrev State.nxt (s : State) (base : Nat) (f : Fld) : Nat := s.staged base f

/-- A timing set of an enabled pin keeps the edge rules of a vector period of `t` ticks (R73). -/
def State.timingOk (s : State) (ts t : Nat) : Bool :=
  let e := fun f => s.nxt ts f
  let top := 256 * t - 1
  let fmt := e TS_FMT.FMT
  let all := e TS_D1.EDGE ≤ top && e TS_D2.EDGE ≤ top && e TS_D3.EDGE ≤ top && e TS_C1.EDGE ≤ top && e TS_C2.EDGE ≤ top
  let ret := fmt == 0 || e TS_D1.EDGE + 128 ≤ e TS_D2.EDGE
  let sbc := fmt != 3 || (128 ≤ e TS_D1.EDGE && e TS_D2.EDGE + 128 ≤ 256 * t)
  let win := e TS_FMT.WIN == 0 || e TS_C1.EDGE + 64 ≤ e TS_C2.EDGE
  all && ret && sbc && win

/-- The consistency check of a bank's staged values. -/
def State.tcbCheck (s : State) (b : Nat) : Bool :=
  let k := tcbB b
  let en := s.rd k TCB_EN.EN
  let sig := s.nxt k TCB_CTL.SIG
  let m := s.nxt k TCB_CTL.CADM + 1
  let n := s.nxt k TCB_CTL.CADN + 1
  let ub := uiBase (s.nxt k TCB_CTL.BASE)
  let vec := s.nxt k TCB_CTL.MODE == 1
  let nt := s.nxt k TCB_ETC_CFG.NT + 1
  let nth := s.nxt k TCB_ETC_CFG.NTH + 1
  let pins := (List.range 32).filter fun p => bitAt en p && !(sig == 3 && p % 2 == 1)
  -- THL > THH fails: both share VREFB, so that the thresholds compare as their codes and trims do (R58)
  let thr := pins.all fun p => sig == 3 || (let c := chB (b * 32 + p)
    thrQuarters (s.nxt c CH_THR.THL) (s.nxt c CH_TRIM.THL_TRIM) ≤ thrQuarters (s.nxt c CH_THR.THH) (s.nxt c CH_TRIM.THH_TRIM))
  let cad := m ≤ n && ub * n % m == 0
  let sph := vec || pins.all fun p => s.nxt (chB (b * 32 + p)) CH_SAMP.SPH < ub * n / m
  let tim := !vec || pins.all fun p => (List.range 8).all fun t => s.timingOk (tsB (b * 32 + p) t) (s.nxt k TCB_PERIOD.PER + 1)
  let etc := nt * nth ≤ 8192 && s.nxt k TCB_ETC_T0.T0 + (nt - 1) * s.nxt k TCB_ETC_TSTEP.TSTEP ≤ 256 * 65536 - 1 &&
    s.nxt k TCB_ETC_TH.TH0 + (nth - 1) * s.nxt k TCB_ETC_TH.THSTEP ≤ 255
  thr && cad && sph && tim && etc

/-- Some site that owns an enabled pin of the bank runs a pattern (PSQ_STAT.RUNNING, R88, R157). -/
def State.bankRunning (s : State) (b : Nat) : Bool :=
  (List.range 32).any fun p =>
    s.bit (tcbB b) TCB_EN.EN p &&
      (let st := s.chanSite (b * 32 + p)
       s.on (siteB st) SITE_CFG.EN && s.on (psqB (s.rd (siteB st) SITE_CFG.PSQ)) PSQ_STAT.RUNNING)

/-- Makes the values carried by a passed commit active, in the key range of a block; later stagings stay (R9, R10). -/
def State.applyHeld (s : State) (lo hi : Nat) : State :=
  let h := KV.range (lo * 32) (hi * 32) s.held
  { s with
    act := h.foldl (fun m e => KV.put e.1 e.2 m) s.act
    stg := s.stg.filter fun e => !(h.any fun x => x.1 == e.1 && x.2 == e.2)
    held := KV.dropRange (lo * 32) (hi * 32) s.held }

/-- The codes a threshold range accepts for VREFB, and its nominal code (R105). -/
def vrefbOk (rng code : Nat) : Bool :=
  (rng == 0 && 0x57E4 ≤ code && code ≤ 0x6B6C) || (rng == 1 && 0xAFC8 ≤ code && code ≤ 0xD6D8)
def vrefbNominal (rng : Nat) : Nat := if rng = 0 then 0x61A8 else 0xC350

/-- A write of AB_VREFB at the moment it takes effect: a code within the window of the range in force is taken and blanks the bank
1 µs; another is a reserved encoding, discarded with RSVW (R16, R86, R105, R106). -/
def State.vrefbTake (s : State) (b v : Nat) : State :=
  let code := v % 65536
  if vrefbOk (s.rd (tcbB b) TCB_CTL.THR_RNG) code then
    ((s.rsvBits (arpB (b / 18)) 0xFFFF v).wr (abB b) AB_VREFB.CODE code).blankBank b 4000
  else s.rsvw (arpB (b / 18))

/-- The Owl's ARP service loads the nominal VREFB of the bank's range, which blanks the bank (R86, R106, R117). -/
def State.vrefNominal (s : State) (b : Nat) : State :=
  (s.wr (abB b) AB_VREFB.CODE (vrefbNominal (s.rd (tcbB b) TCB_CTL.THR_RNG))).blankBank b 4000

/-- A commit that changes the bank's range takes effect in the present PCLK (R88, R106). -/
def State.rangeDue (s : State) (b : Nat) : Bool :=
  let rng := s.rd (tcbB b) TCB_CTL.THR_RNG
  s.on (tcbB b) BLK_COMMIT.BUSY && !s.bankRunning b && KV.get rng (TCB_CTL.THR_RNG.key (tcbB b)) s.held != rng

/-- A passed bank commit takes effect: staged values active, BUSY clears; termination follows SIG and TERM (R54); a changed threshold
or trim blanks its pin 100 ns; a changed range loads the nominal VREFB and blanks the bank 1 µs, and then the VREFB writes that came
in the same PCLK are taken (R86, R88, R106). -/
def State.tcbApply (s : State) (b : Nat) : State :=
  let k := tcbB b
  let rng := s.rd k TCB_CTL.THR_RNG
  let thr := fun (s : State) p => (s.rd (chB (b * 32 + p)) CH_THR.THH, s.rd (chB (b * 32 + p)) CH_THR.THL,
    s.rd (chB (b * 32 + p)) CH_TRIM.THH_TRIM, s.rd (chB (b * 32 + p)) CH_TRIM.THL_TRIM)
  let was := (List.range 32).map (thr s)
  let s := s.applyHeld k (k + 0x100000)
  let s := s.wr k BLK_COMMIT.BUSY 0
  let changed := (List.range 32).filter fun p => was[p]? != some (thr s p)
  let s := s.each changed fun p s => s.blankPin (b * 32 + p) 400
  let s := s.each (List.range 32) fun p s =>
    let ch := b * 32 + p
    s.setPin ch { s.pin ch with term := s.termNow ch }
  let s := if s.rd k TCB_CTL.THR_RNG = rng then s else s.vrefNominal b
  let waits := (s.bank b).vrefW
  let s := s.setBank b { s.bank b with vrefW := [] }
  s.each waits fun v s => s.vrefbTake b v

/-- A held bank commit takes effect at the first PCLK in which no site that owns an enabled pin runs a pattern (R88). -/
def execTcbCommitApply (b : Fin 72) (s : State) : Out :=
  .next (if s.on (tcbB b) BLK_COMMIT.BUSY && !s.bankRunning b then s.tcbApply b else s)

end Sys2Proof.Machine
end

