-- ==== Sys2Proof/Machine/Levels.lean ====
section
/-! DEFINITION. Levels, parametric measurement and the guest dies (03_levels_and_parametric.md): guest port admission, link loss,
the level DACs, the PMUs and the commit of the ARP mirror. -/
namespace Sys2Proof.Machine

/-! ## Guest port and admission (R98 to R103) -/

/-- The die that shares the ARP of die `d`: LD1 shares LD0's, LD3 shares LD2's (R35). -/
def arpPartner (d : Nat) : Nat := if d % 2 = 0 then d + 1 else d - 1
/-- The die whose guest port holds the ARP that serves die `d`. -/
def arpHost (d : Nat) : Nat := d / 2 * 2

/-- The two dies that the ARP of die `d`'s guest port would serve mark ARP and TCB failed (R101, R102). -/
def State.arpUnusable (s : State) (d : Nat) : State :=
  s.each [d, arpPartner d] fun e s => (s.setFail e rdyARP).setFail e rdyTCB

/-- The guest port of a die gives no ARP: only the port's own die raises the source (R100 to R102). -/
def State.arpFailed (s : State) (d src : Nat) : State := (s.arpUnusable d).raise d src none d

def State.parkGuest (s : State) (d : Nat) : State :=
  let s := s.wr (dctlB d) DCTL_GUEST.PARKED 1
  (s.setReady d rdyGPT true).setGuest d .parked

/-- The partner die's mirror is usable once the ARP is admitted and the joint's service bundles are trained (R101). -/
def State.arpPartnerReady (s : State) (d : Nat) : State :=
  if s.guest d = .admitted ∧ s.jointUp d then s.setReady (arpPartner d) rdyARP true else s

/-- The die starts its sideband clock and sends a detect message (R98 step 1). -/
def execGuestDiscovery (d : Fin 4) (s : State) : Out :=
  .next (if s.guest d = .admitted then s else s.setGuest d .discover)

/-- No sideband answer by t0 + 20 ms: the port is parked; on LD0 and LD2 the ARP is absent, source 38 (R100). -/
def execGuestSidebandTimeout (d : Fin 4) (s : State) : Out :=
  .next <|
    if s.guest d = .discover then
      let s := s.parkGuest d
      if d.val % 2 = 0 then s.arpFailed d 38 else s
    else s

/-- The mainband of an ARP comes up at a rate and width, in the mirrors of the two dies it serves. -/
def State.arpUp (s : State) (d : Nat) (link : Sys2Proof.GuestLink) : State :=
  let width := if link.x16 then 16 else 8
  let s := (s.setGuest d .admitted).wr (dctlB d) DCTL_GUEST.WIDTH width
  s.each [d, arpPartner d] fun e s =>
    ((s.wr (arpB e) ARP_LINK.UP 1).wr (arpB e) ARP_LINK.RATE link.rate.toNat).wr (arpB e) ARP_LINK.WIDTH width

/-- Steps 2 to 6 of the admission sequence end, with what the guest's capability registers read: the guest is admitted when its
identity matches R99 and training, negotiation of `link` and self-test passed (`trained`), else refused, source 39 (R96, R98 to R100). -/
def execGuestAdmissionDone (d : Fin 4) (id : BitVec 16) (gver banks : BitVec 8) (caps : Nat) (trained : Bool)
    (link : Sys2Proof.GuestLink) (s : State) : Out :=
  .next <|
    if s.guest d ≠ .discover then s
    else
      let s := s.setArp d { s.arp d with id := id.toNat, gver := gver.toNat, banks := banks.toNat, caps := caps }
      if id.toNat = 0x4152 ∧ gver.toNat / 16 = 1 ∧ banks.toNat = 36 ∧ trained then
        let s := (s.wr (dctlB d) DCTL_GUEST.PRESENT 1).wr (dctlB d) DCTL_GUEST.GVER gver.toNat
        let s := (s.arpUp d link).setReady d rdyGPT true
        let s := s.each [d.val, arpPartner d] fun e s =>
          ((s.wr (arpB e) ARP_INFO.GUEST_ID id.toNat).wr (arpB e) ARP_INFO.GVER gver.toNat).wr (arpB e) ARP_INFO.BANKS banks.toNat
        (s.setReady d rdyARP true).arpPartnerReady d
      else (s.parkGuest d).arpFailed d 39

/-- The banks that the ARP on die `d`'s guest port serves: its own 18 and its partner's (R96). -/
def arpBanks (d : Nat) : List Nat := (List.range 36).map fun j => arpHost d * 18 + j

/-- The die loses its ARP in service, source 40: measurements end ABORTED, the DACs hold, retraining begins (R103). -/
def State.arpLost (s : State) (d : Nat) : State :=
  let s := s.setGuest d (.retrain 0)
  let s := s.each [d, arpPartner d] fun e s => (s.wr (arpB e) ARP_LINK.UP 0).setReady e rdyARP false
  let s := s.each (arpBanks d) fun b s => s.pmuEnd b 4
  s.raise d 40 none d

/-- The ARP of a die was admitted and has not been powered down since. -/
def State.arpAlive (s : State) (d : Nat) : Bool :=
  match s.guest d with
  | .admitted | .retrain _ | .lost => true
  | .idle | .discover | .parked => false

/-- The mainband goes down in service (R103). The die takes the link as lost now and not after 100 µs without a heartbeat (DESIGN
CHOICE: notes/assumptions/105.md). -/
def execArpLinkDown (d : Fin 4) (s : State) : Out :=
  .next (if s.guest d = .admitted then s.arpLost d else s)

/-- 100 µs without a heartbeat: the link is lost, and the ARP turns off every PMU it serves (R103). -/
def execArpHeartbeatTimeout (d : Fin 4) (s : State) : Out :=
  .next <|
    if s.arpAlive d then
      let s := if s.guest d = .admitted then s.arpLost d else s
      s.each (arpBanks d) fun b s => s.pmuForceOff b
    else s

/-- A retrain through steps 3 to 5 ends, with the link it negotiated where it succeeds: the mirrors are usable again, and each PMU
is off until its next commit, whether or not 100 µs without a heartbeat had passed (DESIGN CHOICE: notes/assumptions/105.md). The third
failure leaves the port down and its two dies without an ARP (R101 to R103). -/
def execArpRetrainDone (d : Fin 4) (up : Option Sys2Proof.GuestLink) (s : State) : Out :=
  .next <|
    match s.guest d with
    | .retrain n =>
      match up with
      | some link =>
        let s := s.arpUp d link
        let s := s.each [d.val, arpPartner d] fun e s => s.count (arpB e) ARP_LINK.RETRAIN
        let s := s.each (arpBanks d) fun b s => s.pmuForceOff b
        (s.setReady d rdyARP true).arpPartnerReady d
      | none => if n < 2 then s.setGuest d (.retrain (n + 1)) else (s.setGuest d .lost).arpUnusable d
    | _ => s

/-- An ARP sensor above 110 °C: the ARP turns off all its PMUs, source 41 (R119). Temperatures are in 0.1 °C. -/
def execArpOverTemperature (d : Fin 4) (temp : BitVec 16) (s : State) : Out :=
  .next <|
    if s.arpAlive d && decide (1100 < temp.toInt) then
      (s.each (arpBanks d) fun b s => s.pmuForceOff b).raise d 41 none d
    else s

/-- Every 1 ms the four sensor readings are updated, in both mirrors of the ARP (R96). -/
def execArpTempSample (d : Fin 4) (t0 t1 t2 t3 : BitVec 16) (s : State) : Out :=
  .next <|
    if s.guest d ≠ .admitted then s
    else s.each [d.val, arpPartner d] fun e s =>
      s.each [(0, t0), (1, t1), (2, t2), (3, t3)] fun it s =>
        (s.wr (arpB e + it.1 * 4) ARP_TEMP.VALID 1).wr (arpB e + it.1 * 4) ARP_TEMP.TEMP it.2.toNat

/-! ## Level DACs (R104 to R106) -/

/-- VTT takes a code of 0 to 0xC350 at once; a larger code is a reserved encoding (R104). -/
def State.vttWrite (s : State) (b : Nat) (v : Word) : State :=
  if 50000 < v.toNat % 65536 then s.rsvw (arpB (b / 18))
  else (s.rsvBits (arpB (b / 18)) 0xFFFF v.toNat).wr (abB b) AB_VTT.CODE (v.toNat % 65536)

def execVttWrite (b : Fin 72) (v : Word) (s : State) : Out :=
  .next (s.atBlock .arp (b / 18) 0 fun s => s.vttWrite b v)

/-- A write of AB_VREFB; one that arrives in the PCLK in which a range change takes effect waits for it (R106). -/
def State.vrefbWrite (s : State) (b : Nat) (v : Word) : State :=
  if s.rangeDue b then s.setBank b { s.bank b with vrefW := (s.bank b).vrefW ++ [v.toNat] } else s.vrefbTake b v.toNat

def execVrefbWrite (b : Fin 72) (v : Word) (s : State) : Out :=
  .next (s.atBlock .arp (b / 18) 0 fun s => s.vrefbWrite b v)

/-! ## The PMU (R108 to R119) -/

/-- MODE joins the PMU to the bank analog bus: FVMI, FIMV or MV (R109). -/
def onBus (mode : Nat) : Bool := 1 ≤ mode && mode ≤ 3

/-- The commit check of the ARP mirror: no bank with MODE = FIMV and VAL = 0x2_0000 (R108). -/
def State.arpCheck (s : State) (d : Nat) : Bool :=
  (List.range 18).all fun k =>
    let b := abB (d * 18 + k)
    !(s.staged b PMU_CFG.MODE == 2 && s.staged b PMU_FORCE.VAL == 0x20000)

/-- The six PMU settings of a bank (R116): MODE, IRNG, VAL, SETTLE, APER, NAVG. -/
def State.pmuSettings (s : State) (b : Nat) : List Nat :=
  [s.rd (abB b) PMU_CFG.MODE, s.rd (abB b) PMU_CFG.IRNG, s.rd (abB b) PMU_FORCE.VAL, s.rd (abB b) PMU_CFG.SETTLE,
   s.rd (abB b) PMU_CFG.APER, s.rd (abB b) PMU_CFG.NAVG]

/-- The result registers take a code with CLAMP (bit 18) and OVR (bit 19). -/
def State.pmuResult (s : State) (b r : Nat) : State :=
  ((s.wr (abB b) PMU_RES_LO.CODE (r % 2 ^ 18)).wrb (abB b) PMU_RES_HI.CLAMP (bitAt r 18)).wrb (abB b) PMU_RES_HI.OVR (bitAt r 19)

/-- What a commit does to one bank service whose settings were `old`: the running measurement (R116), the range or mode change
(R118), the amplifier and OFF (R109, R119). A measurement ended RANGE_CHANGE leaves free data, which stay those of the last completed
one through a later PENDING or ABORTED (DESIGN CHOICE: notes/assumptions/105.md). -/
def State.pmuCommitted (s : State) (b : Nat) (old : List Nat) : State :=
  let new := s.pmuSettings b
  let mode := new.headD 0
  let oldMode := old.headD 0
  let irngChanged := new[1]? != old[1]?
  let otherChanged := new.headD 0 != old.headD 0 || new.drop 2 != old.drop 2
  let s := if otherChanged then s.pmuEnd b 4
    else if irngChanged && (s.pmu b).phase == .convert then (s.pmuResult b (s.free 20)).drew.pmuEnd b 3
    else if irngChanged && (s.pmu b).phase == .settle then s.setPmu b { s.pmu b with phase := .waitChange }
    else s
  let change := irngChanged || (mode != 0 && oldMode != 0 && mode != oldMode)
  let s := if change then (s.wr (abB b) PMU_STAT.RCHG 1).setPmu b { s.pmu b with oldGone := mode == 0 }
    else if mode = 0 then (s.wr (abB b) PMU_STAT.RCHG 0).setPmu b { s.pmu b with oldGone := true }
    else s
  let s := if mode != 0 then s.wr (abB b) PMU_STAT.OFF 0 else s
  s.wrb (abB b) PMU_STAT.ON (onBus mode && !s.on (abB b) PMU_STAT.OFF)

/-- A passed commit of the ARP mirror takes effect within 1 µs for all 18 bank services (R108). -/
def State.arpApply (s : State) (d : Nat) : State :=
  let old := (List.range 18).map fun k => (d * 18 + k, s.pmuSettings (d * 18 + k))
  let s := (s.applyHeld (arpB d) (arpB d + 0x100000)).wr (arpB d) BLK_COMMIT.BUSY 0
  s.each old fun it s => s.pmuCommitted it.1 it.2

def execArpCommitApply (d : Fin 4) (s : State) : Out :=
  .next (if s.on (arpB d) BLK_COMMIT.BUSY then s.arpApply d else s)

/-- Some pin of the bank is in a role transition (R113). -/
def State.bankRoleBusy (s : State) (b : Nat) : Bool := (List.range 32).any fun p => s.on (chB (b * 32 + p)) CH_ROLE.BUSY

/-- GO starts a measurement, or is refused with REJ (R113); during a range or mode change its SETTLE time starts when the change
ends (R116). -/
def State.pmuGo (s : State) (b : Nat) : State :=
  let k := abB b
  if s.on k PMU_STAT.BUSY || !s.on k PMU_RES_HI.ACKD || s.on k PMU_STAT.OFF || s.rd k PMU_CFG.MODE == 0 || s.bankRoleBusy b then
    s.wr k PMU_STAT.REJ 1
  else
    let ph := if s.on k PMU_STAT.RCHG then PmuPhase.waitChange else PmuPhase.settle
    let s := s.seqUp k PMU_RES_HI.SEQ
    let s := (s.wr k PMU_RES_HI.STATUS 1).wr k PMU_RES_HI.VALID 0
    let s := s.wr k PMU_STAT.BUSY 1
    s.setPmu b { s.pmu b with phase := ph }

def execPmuGo (b : Fin 72) (s : State) : Out := .next (s.atBlock .arp (b / 18) 0 fun s => s.pmuGo b)

/-- ACK releases the last result; while a measurement runs it is ignored (R115). -/
def State.pmuAck (s : State) (b : Nat) : State :=
  if s.on (abB b) PMU_STAT.BUSY then s else s.wr (abB b) PMU_RES_HI.ACKD 1

def execPmuAck (b : Fin 72) (s : State) : Out := .next (s.atBlock .arp (b / 18) 0 fun s => s.pmuAck b)

/-- The SETTLE time ends and conversions begin (R113). -/
def execPmuSettleEnd (b : Fin 72) (s : State) : Out :=
  .next (if (s.pmu b).phase = .settle then s.setPmu b { s.pmu b with phase := .convert } else s)

/-- The highest pin voltage, in µV, that the limit lets the PMU force or the loop reach: the lower of 1.75 V and VCCB + 0.25 V (R112). -/
def State.pmuTop (s : State) (b : Nat) : Int := min 1750000 (s.rd (tcbB b) TCB_VMON.VCCB * 1000 + 250000)

/-- A limit engages (R112): in FVMI the forced voltage lies above the voltage limit, or the current, in codes of FS / 131,072, would
pass 110 % of full scale; in FIMV the loop would take the pin outside the voltage limits. `uv` and `code` are the voltage in µV and the
current in codes to which the loop would take the pin, where they were farthest from zero. -/
def State.pmuClamps (s : State) (b : Nat) (uv code : Int) : Bool :=
  let m := s.rd (abB b) PMU_CFG.MODE
  if m = 1 then
    (s.pmuTop b + 250000) * 262144 < s.rd (abB b) PMU_FORCE.VAL * 2000000 || 110 * 131072 < 100 * code || 100 * code < -110 * 131072
  else m == 2 && (s.pmuTop b < uv || uv < -250000)

/-- A measurement completes DONE (R111, R114): `amps` and `volts` are the averaged current and voltage in codes. A current beyond full
scale gives the limit code with OVR; a voltage that no code holds gives a free code (DESIGN CHOICE: notes/assumptions/105.md). `uv` and
`code`: as State.pmuClamps takes them. -/
def execPmuMeasureDone (b : Fin 72) (amps volts uv code : Int) (s : State) : Out :=
  .next <|
    if (s.pmu b).phase ≠ .convert then s
    else
      let k := abB b
      let clamp := if s.pmuClamps b uv code then 2 ^ 18 else 0
      let s :=
        if s.rd k PMU_CFG.MODE = 1 then
          let beyond := decide (131071 < amps ∨ amps < -131072)
          let code := (max (-131072) (min 131071 amps) % 262144).toNat
          s.pmuResult b (code + clamp + if beyond then 2 ^ 19 else 0)
        else if 0 ≤ volts ∧ volts < 262144 then s.pmuResult b (volts.toNat + clamp)
        else (s.pmuResult b (s.free 18 + clamp)).drew
      let s := (s.wr k PMU_RES_HI.STATUS 2).wr k PMU_RES_HI.VALID 1
      let s := (s.wr k PMU_RES_HI.ACKD 0).wr k PMU_STAT.BUSY 0
      s.setPmu b { s.pmu b with phase := .idle }

/-- 1 µs into a range or mode change the old range or loop is disconnected (R118). -/
def execPmuOldRangeDisconnect (b : Fin 72) (s : State) : Out :=
  .next (if s.on (abB b) PMU_STAT.RCHG then s.setPmu b { s.pmu b with oldGone := true } else s)

/-- The change settles: RCHG falls, and a measurement that waited for it starts its SETTLE time (R116, R118). -/
def execPmuRangeSettled (b : Fin 72) (s : State) : Out :=
  .next <|
    if s.on (abB b) PMU_STAT.RCHG then
      let s := s.wr (abB b) PMU_STAT.RCHG 0
      if (s.pmu b).phase = .waitChange then s.setPmu b { s.pmu b with phase := .settle, oldGone := true }
      else s.setPmu b { s.pmu b with oldGone := true }
    else s

end Sys2Proof.Machine
end

