-- ==== Sys2Proof/Machine/OnChip.lean ====
section
/-! DEFINITION. The on-chip memories and their integrity scheme (08_stored_data_integrity.md R258 to R265, R270 to R273): words of
64 data bits with a check byte, valid bits, stored poison, the ECC groups with their counters and first-error capture. -/
namespace Sys2Proof.Machine

/-! ## Where each memory lies, and its ECC group -/

/-- Store blocks of package region `r`: 32 blocks of 64 KiB (R40; "Worked example: checker self-test"). -/
def storeAddr (r : Nat) : Nat := 0x4000000000 + r * 0x200000
/-- Processor memories (R43). -/
def tcmAddr (sp : Nat) : Nat := 0x4200000000 + sp / 4 * 0x1000000 + sp % 4 * 0x100000
def sacPmAddr (c : Nat) : Nat := 0x4200800000 + c / 16 * 0x1000000 + c % 16 * 0x40000
def sacDmAddr (c bank : Nat) : Nat := 0x4200820000 + c / 16 * 0x1000000 + c % 16 * 0x40000 + bank * 0x10000
/-- Memories that no local address reaches lie above 2^41 in the model's byte map: PSQ local stores and Owl RAMs. -/
def lsAddr (p : Nat) : Nat := 0x20000000000 + p * 0x100000
def owlAddr (d : Nat) : Nat := 0x20010000000 + d * 0x200000

/-- The on-chip memory that holds an address: the base of its ECC group's registers, the memory's first address, its size. -/
def egroupOf (a : Nat) : Option (Nat × Nat × Nat) :=
  if 0x4000000000 ≤ a ∧ a < 0x4020000000 then
    let r := (a - 0x4000000000) / 0x200000
    some (cfeB (r / 64) + 0x10040 + r % 64 * 0x100, storeAddr r, 0x200000)
  else if 0x4200000000 ≤ a ∧ a < 0x4204000000 then
    let d := (a - 0x4200000000) / 0x1000000
    let o := (a - 0x4200000000) % 0x1000000
    if o < 0x400000 then some (spcB d + 0x800 + o / 0x100000 * 0x60, tcmAddr (d * 4 + o / 0x100000), 0x100000)
    else if 0x800000 ≤ o ∧ o < 0xC00000 then
      let n := (o - 0x800000) / 0x40000
      let q := (o - 0x800000) % 0x40000
      if q < 0x8000 then some (sacB (d * 16 + n) + 0x800, sacPmAddr (d * 16 + n), 0x8000)
      else if 0x20000 ≤ q then some (sacB (d * 16 + n) + 0x860, sacDmAddr (d * 16 + n) 0, 0x20000)
      else none
    else none
  else if 0x20000000000 ≤ a ∧ a < 0x20001000000 then
    let p := (a - 0x20000000000) / 0x100000
    some (psqB p + 0x800, lsAddr p, 0x100000)
  else if 0x20010000000 ≤ a ∧ a < 0x20010800000 then
    let d := (a - 0x20010000000) / 0x200000
    some (dctlB d + 0x800, owlAddr d, 0x180000)
  else none

/-- The die of a register address. -/
def dieOf (a : Nat) : Nat := (a - 0x7F00000000) / 0x40000000

/-! ## Counting an event (R261, R262) -/

/-- One correctable (0), uncorrectable (1) or stored-poison (2) event of a group: its counter, its first-error capture, its
source 64 or 65. -/
def State.egEvent (s : State) (g kind syn addr : Nat) : State :=
  let s := if kind = 0 then s.count g EG_CNT_CE.V else if kind = 1 then s.count g EG_CNT_UE.V else s.count g EG_CNT_PSN.V
  let s := if s.on g EG_STAT.VALID then s
    else
      let s := ((s.wr g EG_STAT.VALID 1).wr g EG_STAT.KIND kind).wr g EG_STAT.SYN syn
      (s.wr g EG_ADDR_LO.V addr).wr g EG_ADDR_HI.V (addr / 2 ^ 32)
  s.raise (dieOf g) (if kind = 0 then 64 else 65) none (dieOf g)

/-- The access lies in the group's diagnostic window (R273). -/
def State.inWindow (s : State) (g base a : Nat) : Bool := (a - base) / 4096 == s.rd g EG_WIN.PAGE

/-! ## Reading and writing words -/

/-- A 64-bit on-chip word as stored. -/
def State.rawWord (s : State) (w : Nat) : Nat := s.rdMem (w * 8) 8

/-- What a read of a word returns whose stored data are `raw` and whose syndrome is `y`: data, corrected when one column, and poison
(R259). -/
def eccSee (raw y : Nat) : Nat × Bool :=
  if y = 0 ∨ popBits 8 y = 1 then (raw, false)
  else if popBits 8 y = 3 then (raw ^^^ 2 ^ (Config.dataColumn (BitVec.ofNat 8 y)).toNat, false)
  else (raw, true)

/-- The event that such a read counts, by the kinds of EG_STAT: correctable 0, uncorrectable 1, stored poison 2 (R259). -/
def eccKind (y : Nat) : Option Nat :=
  if y = 0 then none else if y = 0xFF then some 2 else if popBits 8 y = 1 ∨ popBits 8 y = 3 then some 0 else some 1

/-- What a read of word `w` (an 8-byte word number) returns: data and poison (R259, R264, R273); it changes nothing. -/
def State.seeWord (s : State) (w : Nat) : Nat × Bool :=
  match egroupOf (w * 8) with
  | none => (0, false)
  | some (g, base, _) =>
    if !s.valid w then (0, false)
    else if s.on g EG_CTL.RAW && s.inWindow g base (w * 8) then (s.rawWord w, false)
    else eccSee (s.rawWord w) (s.syndrome w)

/-- Counts the event of a word read with syndrome `y` in group `g`. -/
def State.eccCount (s : State) (g y addr : Nat) : State :=
  match eccKind y with
  | some k => s.egEvent g k y addr
  | none => s

/-- The events that a read of word `w` counts, and the check byte that a raw read over the NoC latches (R261, R273); `noc`: the
access comes over the NoC and is a read of its own. -/
def State.readWord (s : State) (w : Nat) (noc : Bool := true) : State :=
  match egroupOf (w * 8) with
  | none => s
  | some (g, base, _) =>
    if !s.valid w then s
    else
      let y := s.syndrome w
      if s.on g EG_CTL.RAW && s.inWindow g base (w * 8) then
        if noc then s.wr g EG_RAW.V ((Config.checkByte (BitVec.ofNat 64 (s.rawWord w))).toNat ^^^ y) else s
      else s.eccCount g y (w * 8)

/-- A write reaches a 64-byte granule of memory: the LR reservations held on it are lost (R368; notes/assumptions/38.md). -/
def State.breakResv (s : State) (g : Nat) : State :=
  s.each (List.range 16) fun n s => if (s.sp n).resv = some g then s.setSp n { s.sp n with resv := none } else s

/-- Writes the bytes of word `w` that `mask` names (bit i: byte i) with the bytes of `v`; `pois`: the data carry poison.
A narrower write merges into zero when the word is invalid, into the corrected data otherwise, and keeps poison (R264, R271);
in the diagnostic window the stored check byte is flipped (R273). The read half of a narrower write counts as a read (R261), unless the access has read the word already (`rmw` false). -/
def State.writeWord (s : State) (w v mask : Nat) (pois : Bool) (rmw : Bool := true) : State :=
  match egroupOf (w * 8) with
  | none => s
  | some (g, base, _) =>
    let full := mask % 256 = 255
    let (old, oldP) := s.seeWord w
    let merged := (List.range 8).foldl (fun x i => if bitAt mask i then putBits x (8 * i) 8 (bits v (8 * i) 8) else x) old
    let p := pois || (!full && oldP)
    let s := if full || !rmw then s else s.readWord w false
    let flip := if s.on g EG_CTL.DIAG && s.inWindow g base (w * 8) then s.rd g EG_FLIP.V % 256 else 0
    let s := (s.wrMem (w * 8) 8 merged).breakResv (w / 8)
    (s.setValid w true).setSyndrome w ((if p then 0xFF else 0) ^^^ flip)

/-- Reads `n` bytes at `a` from an on-chip memory: value, poison of any word touched. -/
def State.seeChip (s : State) (a n : Nat) : Nat × Bool :=
  let ws := (List.range ((a + n + 7) / 8 - a / 8)).map (a / 8 + ·)
  let v := ws.foldr (fun w acc => (s.seeWord w).1 + 2 ^ 64 * acc) 0
  (bits v (8 * (a % 8)) (8 * n), ws.any fun w => (s.seeWord w).2)

/-- The poison bits of a read of `n` bytes at `a`: bit `i` for the word at place `i` of its 64-byte line (R270). -/
def State.chipPois (s : State) (a n : Nat) : Nat :=
  ((List.range 8).filter fun i =>
    let w := a / 64 * 8 + i
    a / 8 ≤ w && w < (a + n + 7) / 8 && (s.seeWord w).2).foldl (fun m i => m + 2 ^ i) 0

def State.countChip (s : State) (a n : Nat) (noc : Bool := true) : State :=
  s.each ((List.range ((a + n + 7) / 8 - a / 8)).map (a / 8 + ·)) fun w s => s.readWord w noc

/-- Writes `n` bytes of `v` at `a` to an on-chip memory. -/
def State.writeChip (s : State) (a n v : Nat) (pois : Bool := false) (rmw : Bool := true) : State :=
  s.each ((List.range ((a + n + 7) / 8 - a / 8)).map (a / 8 + ·)) fun w s =>
    let lo := max a (w * 8)
    let hi := min (a + n) (w * 8 + 8)
    let mask := (2 ^ (hi - lo) - 1) * 2 ^ (lo - w * 8)
    s.writeWord w (bits v (8 * (lo - a)) (8 * (hi - lo)) * 2 ^ (8 * (lo - w * 8))) mask pois rmw

/-- Valid bits of the words in `[lo, hi)` are cleared (R264, R265): their contents read zero. -/
def State.invalidateChip (s : State) (lo hi : Nat) : State :=
  { s with
    wordOk := KV.dropRange (lo / 8) (hi / 8) s.wordOk
    wordChk := KV.dropRange (lo / 8) (hi / 8) s.wordChk
    mem := KV.dropRange lo hi s.mem }

end Sys2Proof.Machine
end

