-- ==== Sys2Proof/Machine/Psq.lean ====
section
/-! DEFINITION. Pattern sequencers (04_sites_and_pattern_sequencers.md R131 to R158): the pattern word and its checks, the
instruction set, stacks, MATCH, SYNC, paced loops, strict and elastic streaming, runs, halts and lock groups. -/
namespace Sys2Proof.Machine

/-! ## The pattern word (R131, R134, R135) -/

/-- A pattern word as its fields. -/
structure PWord where
  op : Nat
  x : Bool
  ts : Nat
  uf : Nat
  opd : Nat
  pay : Nat
  deriving DecidableEq, Repr

def pword (w : Nat) : PWord := ⟨bits w 120 8, bitAt w 119, bits w 116 3, bits w 112 4, bits w 96 16, bits w 0 96⟩

/-- A reserved field of the word is nonzero (R135): the modifier or the unused operand bits of its opcode. -/
def reservedField (w : PWord) : Bool :=
  match w.op with
  | 0x01 | 0x02 | 0x0B => w.x && w.opd / 8 != 0
  | 0x04 | 0x05 => w.x
  | 0x08 | 0x09 => false
  | 0x0C => w.x || w.opd / 4 != 0
  | 0x0D => w.x && bits w.opd 3 11 != 0
  | 0x10 => w.x || w.opd / 2 ^ 12 != 0
  | 0x11 => w.x || w.opd / 8 != 0
  | _ => w.x || w.opd != 0

/-- The opcode is allowed in the area (R135): RET and STRM in the local store only, SRET in a stream only. -/
def areaOk (op : Nat) (stream : Bool) : Bool :=
  if op = 0x06 ∨ op = 0x11 then !stream else if op = 0x12 then stream else true

/-- First word of PSQ `p`'s local store as a 16-byte record; the DRAM base of a descriptor. -/
def State.sdBase (s : State) (p n : Nat) : Nat := s.rd2 (psqB p + n * 0x20) SD_BASE_LO.V SD_BASE_HI.V
def State.sdLen (s : State) (p n : Nat) : Nat := s.rd (psqB p + n * 0x20) SD_LEN.V
def State.sdStatus (s : State) (p n : Nat) : Nat := s.rd (psqB p + n * 0x20) SD_STAT.STATUS
def State.elasticMode (s : State) (p : Nat) : Bool := s.rd (psqB p) PSQ_CTL.MODE == 1

/-- What is due in the PSQ's next PCLK. -/
inductive Due where
  | word (w : PWord)
  /-- An illegal word, with its CAUSE (R134, R158). -/
  | illegal (cause : Nat)
  /-- A stream word that is not in the buffer (R146). -/
  | missing
  deriving DecidableEq, Repr

/-- A descriptor that a STRM may enter: scanned OK, in elastic mode with ELASTIC = 1 (R143). -/
def State.strmOk (s : State) (p n : Nat) : Bool :=
  s.sdStatus p n == 2 && (!s.elasticMode p || bitAt (s.psq p).elastic n)

/-- The checks of R134 in their order, on a word without poison. -/
def State.checkWord (s : State) (p : Nat) (stream : Bool) (w : PWord) : Due :=
  if 0x15 ≤ w.op then .illegal 0
  else if reservedField w then .illegal 1
  else if !areaOk w.op stream then .illegal 2
  else if w.op = 0x11 ∧ !s.strmOk p (w.opd % 8) then .illegal 3
  else .word w

/-- The word due at the PSQ's next place (R134, R143, R146). -/
def State.due (s : State) (p : Nat) : Due :=
  let x := s.psq p
  if x.stream then
    if s.sdLen p x.sd ≤ x.pc then .illegal 4
    else if x.pc ∈ x.bufBad then .illegal 5
    else
      match x.buf.find? fun e => e.1 == x.pc with
      | some e => s.checkWord p true (pword e.2)
      | none => .missing
  else
    let (v, poison) := s.seeChip (lsAddr p + x.pc * 16) 16
    if poison then .illegal 5 else s.checkWord p false (pword v)

/-! ## Issuing -/

/-- Brings PSQ_STAT in line with the sequencer: STREAM and the stack depths. -/
def State.setSeq (s : State) (p : Nat) (x : PsqX) : State :=
  let s := s.setPsq p x
  let s := s.wrb (psqB p) PSQ_STAT.STREAM x.stream
  let s := s.wr (psqB p) PSQ_STAT.LDEPTH x.loops.length
  s.wr (psqB p) PSQ_STAT.CDEPTH x.calls.length

/-- The stop tick that the PSQ has recorded (R152). -/
def State.stopAt (s : State) (p : Nat) : Option Nat :=
  if s.on (psqB p) PSQ_STAT.STOP_PEND then some (s.rd2 (psqB p) PSQ_STOP_AT_LO.V PSQ_STOP_AT_HI.V) else none

/-- Records a stop tick; the earliest of several applies (R152). -/
def State.recordStop (s : State) (p t : Nat) : State :=
  let t := match s.stopAt p with
    | some u => min u t
    | none => t
  (s.wr2 (psqB p) PSQ_STOP_AT_LO.V PSQ_STOP_AT_HI.V t).wr (psqB p) PSQ_STAT.STOP_PEND 1

/-- The recorded stop halts the run: HOST for the sender of a GSTOP or HALT, else GROUP (R152). -/
def State.stopNow (s : State) (p t : Nat) : State :=
  s.haltPsq p (if (s.psq p).hostStop then runHOST else runGROUP) 0 t

/-- Bits of the local-store words read are counted in the store's ECC group as they issue. -/
def State.countFetch (s : State) (p : Nat) : State :=
  let x := s.psq p
  if x.stream then s else s.countChip (lsAddr p + x.pc * 16) 16 false

/-- Den comparators of the PSQ on the word that issues (R389): the lowest hit is recorded; ACT = 0 acts as PSQ_CMD.HALT. Answers
whether to halt. -/
def State.psqCompare (s : State) (p : Nat) (stream : Bool) (addr : Nat) : State × Bool :=
  let hit := fun k => let c := s.cmp ((96 + p) * 8 + k)
    c.en && c.kind == (if stream then 1 else 0) && (addr ||| c.mask) == (c.addr ||| c.mask)
  match (List.range 2).find? hit with
  | none => (s, false)
  | some k =>
    let s := (s.wr (denB (p / 4)) DEN_STAT.HIT 1).wr (denB (p / 4)) DEN_STAT.CMP k
    (s, (s.cmp ((96 + p) * 8 + k)).act == 0)

/-- PSQ_CMD.HALT on a running PSQ: a member sends STOP and stops at STOP_AT, another one halts now with HOST (R151, R152). -/
def State.hostHalt (s : State) (p : Nat) : State :=
  let t := s.haltTick p
  if s.isMember p then
    let s := s.sendStop p t
    (s.recordStop p (s.stopTick p t)).setPsq p { s.psq p with hostStop := true }
  else s.haltPsq p runHOST 0 t

/-- The word `w` issues `n` times from the PSQ's tick, `again` when it has issued before (R132, R154): first issue, RUNNING, pattern
bus, comparators. A stream word issued outside a stream loop body leaves the buffer (R145). -/
def State.issue (s : State) (p n : Nat) (w : PWord) (again : Bool := false) : State :=
  let s := s.countFetch p
  let x := s.psq p
  let s := s.wr (psqB p) PSQ_STAT.RUNNING 1
  let keepBuf := x.loops.any (·.hold)
  let pb : PbWord := ⟨w.pay, w.ts, w.uf, true, w.op == 0x0F, x.first, again⟩
  let pbN : PbWord := { pb with pbf := false, pbr := true }
  let pbs := pbPush x ⟨x.tick, x.tick + 8, pb⟩
  let x' := { x with
    first := false
    start := if x.first then x.tick else x.start
    last := x.tick + 8 * (n - 1)
    tick := x.tick + 8 * n
    ovr := if x.first then .none else x.ovr
    buf := if x.stream && !keepBuf then x.buf.filter fun e => x.pc < e.1 else x.buf
    marks := if w.op = 0x0F then x.marks ++ [(x.tick - (if x.first then x.tick else x.start)) / 8] else x.marks
    pb := if 1 < n then pbN else pb
    pbs := if 1 < n then pbPush { x with pbs := pbs } ⟨x.tick + 8, x.tick + 8 * n, pbN⟩ else pbs }
  let (s, h) := (s.setPsq p x').psqCompare p x.stream x.pc
  if h then s.hostHalt p else s

/-- Continues at the next word in sequence. After local word 0xFFFF the address does not wrap (DESIGN CHOICE:
notes/assumptions/101.md). -/
def State.advance (s : State) (p : Nat) : State := s.setSeq p { s.psq p with pc := (s.psq p).pc + 1 }

/-- Leaves a stream: its buffered words are discarded, and no open loop holds any longer (R135, R145). -/
def dropBuf (x : PsqX) : PsqX :=
  { x with buf := [], bufBad := [], bufOn := false, loops := x.loops.map fun e => { e with hold := false } }

/-- Continues at a local target; a transfer out of a stream drops the stream's stack entry and its buffered words (R135). Entries
that the stream left on the loop stack stay there (DESIGN CHOICE: notes/assumptions/101.md). -/
def State.jump (s : State) (p target : Nat) : State :=
  let x := s.psq p
  s.setSeq p (if x.stream then { dropBuf x with stream := false, pc := target, calls := x.calls.drop 1 }
    else { x with pc := target })

/-- Ends the run ILLEGAL with a cause; source 48 (R134). -/
def State.illegal (s : State) (p cause : Nat) : State :=
  (s.haltPsq p runILLEGAL cause (s.psq p).tick).raise (p / 4) 48 (s.siteOfPsq p) p

/-- Ends the run STACK; source 49 (R136). -/
def State.stackFault (s : State) (p : Nat) : State :=
  (s.haltPsq p runSTACK 0 (s.psq p).tick).raise (p / 4) 49 (s.siteOfPsq p) p

/-- Ends the run UNDERRUN; source 50 (R146). -/
def State.underrun (s : State) (p : Nat) : State :=
  (s.haltPsq p runUNDERRUN 0 (s.psq p).tick).raise (p / 4) 50 (s.siteOfPsq p) p

/-- The PSQ's next PCLK in RUN: a recorded stop that it has reached halts the run before anything else (R152); else `f` says what
becomes of the word due. A PSQ not in RUN is left alone. -/
def State.inPclk (s : State) (p : Nat) (f : State) : State :=
  let x := s.psq p
  if s.psqState p ≠ psqRUN ∨ x.wait ≠ .none then s
  else
    match s.stopAt p with
    | some t => if t ≤ x.tick then s.stopNow p t else f
    | none => f

/-- The PSQ's next PCLK when the word due there has opcode `op`: `f` issues it. An illegal or missing word ends the run as it would
have (R134, R146); a poisoned local word is counted as read (R261). A PSQ that is not at such a word is left alone. -/
def State.atWord (s : State) (p op : Nat) (f : PWord → State) : State :=
  s.inPclk p <|
    match s.due p with
    | .word w => if w.op = op then f w else s
    | .illegal c => (s.countFetch p).illegal p c
    | .missing => if s.elasticMode p then s else s.underrun p

/-- The count a word names: an immediate, 0 meaning 65,536, or a count register, 0 meaning 2^32 (R135). -/
def State.countOf (s : State) (p : Nat) (w : PWord) : Nat :=
  if w.x then
    let v := s.rd (psqB p + w.opd % 8 * 4) PSQ_CR.V
    if v = 0 then 2 ^ 32 else v
  else if w.opd = 0 then 65536 else w.opd

/-- The issues of an `n`-fold word that fall before the recorded stop. -/
def State.issuesBefore (s : State) (p n : Nat) : Nat :=
  match s.stopAt p with
  | some t => min n ((t - (s.psq p).tick + 7) / 8)
  | none => n

/-! ## The opcodes (R135) -/

/-- NEXT: issue once, continue. -/
def execPsqNext (p : Fin 16) (s : State) : Out := .next (s.atWord p 0x00 fun w => (s.issue p 1 w).advance p)

/-- REPEAT: issue n times, continue; a stop inside the count ends the run at its tick. One command makes at most `r.most` of
the issues, and at least one; the next command goes on with the rest, so that whatever halts a PSQ may come between two issues. -/
def execPsqRepeat (r : Sys2Proof.RepeatPart) (s : State) : Out :=
  let p := r.psq
  .next (s.atWord p 0x01 fun w =>
    let n := (s.psq p).rep.getD (s.countOf p w)
    let j := min n (max r.most 1)
    let k := s.issuesBefore p j
    let t := s.issue p k w (s.psq p).rep.isSome
    if k < j then t.stopNow p (t.psq p).tick
    else if !t.psqRunning p then t
    else if j < n then t.setPsq p { t.psq p with rep := some (n - j) }
    else (t.setPsq p { t.psq p with rep := none }).advance p)

/-- LOOP: issue once, push a loop entry with count n; the body starts at the next word. A ninth entry is a stack fault (R136). -/
def execPsqLoop (p : Fin 16) (s : State) : Out :=
  .next (s.atWord p 0x02 fun w =>
    let x := s.psq p
    if 8 ≤ x.loops.length then s.stackFault p
    else
      let e : LoopEnt := ⟨false, x.stream, x.stream, x.pc + 1, s.countOf p w, 0, 0, 0⟩
      let s := s.issue p 1 w
      (s.setPsq p { s.psq p with loops := e :: x.loops }).advance p)

/-- ENDLOOP: issue once, decrement the top LOOP entry; continue at the body while it is nonzero, else pop. -/
def execPsqEndloop (p : Fin 16) (s : State) : Out :=
  .next (s.atWord p 0x03 fun w =>
    match (s.psq p).loops with
    | e :: es =>
      if e.pace then s.stackFault p
      else
        let s := s.issue p 1 w
        if e.left ≤ 1 then (s.setPsq p { s.psq p with loops := es }).advance p
        else s.setSeq p { s.psq p with loops := { e with left := e.left - 1 } :: es, stream := e.stream, pc := e.body }
    | [] => s.stackFault p)

/-- JUMP: issue once, continue at a local target. -/
def execPsqJump (p : Fin 16) (s : State) : Out := .next (s.atWord p 0x04 fun w => (s.issue p 1 w).jump p w.opd)

/-- CALL: issue once, push the return point, continue at a local target. -/
def execPsqCall (p : Fin 16) (s : State) : Out :=
  .next (s.atWord p 0x05 fun w =>
    let x := s.psq p
    if 16 ≤ x.calls.length then s.stackFault p
    else
      let s := s.issue p 1 w
      s.setSeq p { s.psq p with stream := false, pc := w.opd, calls := ⟨x.stream, x.pc + 1, x.sd, false⟩ :: x.calls })

/-- RET: issue once, pop and continue at the return point of a CALL. -/
def execPsqRet (p : Fin 16) (s : State) : Out :=
  .next (s.atWord p 0x06 fun w =>
    match (s.psq p).calls with
    | c :: cs =>
      if c.byStrm then s.stackFault p
      else
        let s := s.issue p 1 w
        s.setSeq p { s.psq p with stream := c.stream, pc := c.addr, sd := c.sd, calls := cs }
    | [] => s.stackFault p)

/-- HALT: issue once; the run ends with STATUS = HALT in this PCLK. -/
def execPsqHalt (p : Fin 16) (s : State) : Out :=
  .next (s.atWord p 0x07 fun w =>
    let t := (s.psq p).tick
    (s.issue p 1 w).haltPsq p runHALT 0 t)

/-- SFF as a conditional issued in the PSQ's PCLK sees it: the sticky bit, and every delivery of the site that is due by then
and not cleared (R137). -/
def State.sffAt (s : State) (p : Nat) : Bool :=
  s.on (psqB p) PSQ_STAT.SFF ||
  s.fails.any fun f => f.bits != 0 && s.siteOfPsq p == some f.site && f.due ≤ (s.psq p).tick && (s.psq p).clrAt ≤ f.due

/-- SFF is cleared of every delivery up to the PSQ's PCLK (R137). -/
def State.clearSff (s : State) (p : Nat) : State :=
  (s.wr (psqB p) PSQ_STAT.SFF 0).setPsq p { s.psq p with clrAt := (s.psq p).tick + 1 }

/-- A conditional: issue once, test SFF in that PCLK, with X clear SFF after the test, continue at the target when it holds. -/
def State.conditional (s : State) (p : Nat) (w : PWord) (take : Bool) : State :=
  let s := if w.x then s.clearSff p else s
  let s := s.issue p 1 w
  if take then s.jump p w.opd else s.advance p

/-- JFAIL: continue at the target when SFF = 1. -/
def execPsqJfail (p : Fin 16) (s : State) : Out := .next (s.atWord p 0x08 fun w => s.conditional p w (s.sffAt p))
/-- JPASS: continue at the target when SFF = 0. -/
def execPsqJpass (p : Fin 16) (s : State) : Out := .next (s.atWord p 0x09 fun w => s.conditional p w (!s.sffAt p))

/-- CLRF: issue once, clear SFF. -/
def execPsqClrf (p : Fin 16) (s : State) : Out := .next (s.atWord p 0x0A fun w => ((s.clearSff p).issue p 1 w).advance p)

/-- RUN or WAIT in PSQ_STAT follows what the PSQ waits for (R157). -/
def State.setWait (s : State) (p : Nat) (w : PsqWait) : State :=
  (s.setPsq p { s.psq p with wait := w }).wr (psqB p) PSQ_STAT.STATE (if w = .none then psqRUN else psqWAIT)

/-- MATCH: issues in every PCLK until a passing result of one of its issues, or n issues (R139). -/
def execPsqMatch (p : Fin 16) (s : State) : Out :=
  .next (s.atWord p 0x0B fun w =>
    let t := (s.psq p).tick
    let n := s.countOf p w
    let s := s.issue p 1 w
    if s.psqState p = psqRUN then
      (s.setPsq p { s.psq p with results := [] }).setWait p (.mtch n t)
    else s)

/-- Resumes after a waiting word whose last issue began at `last`: the next word is due 8 ticks later. -/
def State.resume (s : State) (p last : Nat) : State :=
  let s := s.setWait p .none
  let x := s.psq p
  if last = x.last then s.setPsq p { x with tick := last + 8 }
  else s.setPsq p { x with last := last, tick := last + 8, pb := { x.pb with pbf := false, pbr := true }, pbs := pbExtend x last }

/-- A fail word is one of a match channel of the PSQ's site (R139). -/
def State.matchWord (s : State) (p : Nat) (f : FailWord) : Bool :=
  s.siteOfPsq p == some f.site && s.bit (psqB p + f.ch / 32 * 4) PSQ_MSET.V (f.ch % 32)

/-- A match channel's word joins the result of its input PCLK, which reaches the PSQ with the last of its words. -/
def addResult (rs : List MatchAcc) (f : FailWord) : List MatchAcc :=
  let fail := f.bits != 0
  if rs.any fun r => r.c == f.c then
    rs.map fun r => if r.c = f.c then
      { r with compared := r.compared || f.compared, failed := r.failed || fail, tick := max r.tick f.due } else r
  else rs ++ [⟨f.c, f.compared, fail, f.due⟩]

/-- The match results with the words that are still to be delivered. -/
def State.matchResults (s : State) (p : Nat) : List MatchAcc :=
  (s.fails.filter (s.matchWord p)).foldl addResult (s.psq p).results

/-- A match result is a pass that belongs to one of the MATCH word's own issues and reaches the PSQ by its n-th issue (R139). -/
def MatchAcc.passes (r : MatchAcc) (start n first : Nat) : Bool :=
  let t := start + 8 * r.c
  r.compared && !r.failed && first ≤ t && t < first + 8 * n && r.tick ≤ first + 8 * (n - 1)

/-- The tick at which the pass of input PCLK `c` reaches the PSQ in MATCH, once no word of that PCLK is still to be delivered. -/
def State.passOf (s : State) (p c : Nat) : Option Nat :=
  match (s.psq p).wait with
  | .mtch n first =>
    if s.fails.any fun f => f.c == c && s.matchWord p f then none
    else match (s.psq p).results.find? fun r => r.c == c with
      | some r => if r.passes (s.psq p).start n first then some r.tick else none
      | none => none
  | _ => none

/-- A pass that reaches the PSQ at tick `t` ends the MATCH: the next word issues in the following PCLK, unless a stop falls before
it. -/
def State.matchPassed (s : State) (p t : Nat) : State :=
  match s.stopAt p with
  | some u => if u ≤ t then s.stopNow p u else (s.resume p (max t (s.psq p).last)).advance p
  | none => (s.resume p (max t (s.psq p).last)).advance p

/-- A match result reaches the PSQ; a pass ends the MATCH, and the next word issues in the following PCLK (R139). A result that is
no pass leaves the MATCH issuing. -/
def execMatchResult (p : Fin 16) (c : Nat) (s : State) : Out :=
  .next <|
    match s.passOf p c with
    | some t => s.matchPassed p t
    | none =>
      if s.fails.any fun f => f.c == c && s.matchWord p f then s
      else s.setPsq p { s.psq p with results := (s.psq p).results.filter fun r => r.c != c }

/-- n issues: a pass that has reached the PSQ by the n-th ends the MATCH, the earliest of several; without one SFF is set, PSQ_CNT_MTO
advances, and the next word issues in the PCLK after the n-th issue (R139). -/
def execMatchTimeout (p : Fin 16) (s : State) : Out :=
  .next <|
    match (s.psq p).wait with
    | .mtch n first =>
      let last := first + 8 * (n - 1)
      match (((s.matchResults p).filter fun r => r.passes (s.psq p).start n first).map (·.tick)).min? with
      | some t => s.matchPassed p t
      | none =>
        match s.stopAt p with
        | some u => if u ≤ last then s.stopNow p u else fin last
        | none => fin last
    | _ => s
where
  fin (last : Nat) : State :=
    let s := (s.wr (psqB p) PSQ_STAT.SFF 1).count (psqB p) PSQ_CNT_MTO.V
    (s.resume p last).advance p

/-- SYNC: issues in each PCLK that begins before PSQ_SYNC_ATk, at least once; a first issue at or after it is late (R140). The tick is
read once, at the first issue (DESIGN CHOICE: notes/assumptions/101.md). -/
def execPsqSync (p : Fin 16) (s : State) : Out :=
  .next (s.atWord p 0x0C fun w =>
    let t := (s.psq p).tick
    let k := w.opd % 4
    let target := s.rd2 (psqB p + k * 8) PSQ_SYNC_AT_LO.V PSQ_SYNC_AT_HI.V
    let s := s.issue p 1 w
    if target ≤ t then (s.count (psqB p) PSQ_CNT_SYNCLATE.V).advance p
    else if target ≤ t + 8 ∨ s.psqState p ≠ psqRUN then s.advance p
    else s.setWait p (.sync target))

/-- The first PCLK at or after PSQ_SYNC_ATk begins, and the next word is due there (R140). -/
def execSyncTickReached (p : Fin 16) (s : State) : Out :=
  .next <|
    match (s.psq p).wait with
    | .sync target =>
      match s.stopAt p with
      | some u => if u ≤ alignUp 8 target - 8 then s.stopNow p u else (s.resume p (alignUp 8 target - 8)).advance p
      | none => (s.resume p (alignUp 8 target - 8)).advance p
    | _ => s

/-- PACE: issue once, push a paced entry with period PSQ_PPERj; T0 is the tick of the PCLK that follows (R149). -/
def execPsqPace (p : Fin 16) (s : State) : Out :=
  .next (s.atWord p 0x0D fun w =>
    let x := s.psq p
    if 8 ≤ x.loops.length then s.stackFault p
    else
      let n := if w.x then s.countOf p w else if w.opd % 16384 = 0 then 16384 else w.opd % 16384
      let per := s.rd (psqB p + w.opd / 16384 * 4) PSQ_PPER.V
      let e : LoopEnt := ⟨true, x.stream, x.stream, x.pc + 1, n, x.tick + 8, per, 0⟩
      let s := s.issue p 1 w
      (s.setPsq p { s.psq p with loops := e :: x.loops }).advance p)

/-- The next iteration of the paced loop on top starts at its body. -/
def State.nextIteration (s : State) (p : Nat) : State :=
  match (s.psq p).loops with
  | e :: es =>
    s.setSeq p { s.psq p with
      loops := { e with left := e.left - 1, iter := e.iter + 1 } :: es, stream := e.stream, pc := e.body }
  | [] => s

/-- ENDPACE: issue; after the last iteration continue, else wait on the schedule or start the next iteration late (R149). -/
def execPsqEndpace (p : Fin 16) (s : State) : Out :=
  .next (s.atWord p 0x0E fun w =>
    match (s.psq p).loops with
    | e :: es =>
      if !e.pace then s.stackFault p
      else
        let s := s.issue p 1 w
        let at_ := e.t0 + (e.iter + 1) * e.period
        if e.left ≤ 1 then (s.setPsq p { s.psq p with loops := es }).advance p
        else if s.psqState p ≠ psqRUN then s
        else if (s.psq p).tick < at_ then s.setWait p (.pace at_)
        else (s.count (psqB p) PSQ_CNT_PACELATE.V).nextIteration p
    | [] => s.stackFault p)

/-- The scheduled tick of the next paced iteration arrives: it starts in the first PCLK at or after it (R149). -/
def execPaceSlotReached (p : Fin 16) (s : State) : Out :=
  .next <|
    match (s.psq p).wait with
    | .pace at_ =>
      match s.stopAt p with
      | some u => if u ≤ alignUp 8 at_ - 8 then s.stopNow p u else (s.resume p (alignUp 8 at_ - 8)).nextIteration p
      | none => (s.resume p (alignUp 8 at_ - 8)).nextIteration p
    | _ => s

/-- The segment that starts at stream offset `off` lies in the buffer, through its MARK or the stream's last word (R144, R147). -/
def State.segIn (s : State) (p : Nat) : (fuel off : Nat) → Bool
  | 0, _ => true
  | f + 1, off =>
    let x := s.psq p
    if s.sdLen p x.sd ≤ off then true
    else if off ∈ x.bufBad then s.segIn p f (off + 1)
    else
      match x.buf.find? fun e => e.1 == off with
      | some e => (pword e.2).op == 0x0F || s.segIn p f (off + 1)
      | none => false

def State.segmentResident (s : State) (p : Nat) : Bool := s.segIn p 4096 (s.psq p).pc

/-- In elastic mode a stream word after a MARK or a STRM waits until its segment is resident (R147). -/
def State.elasticWait (s : State) (p : Nat) : State :=
  if s.elasticMode p ∧ (s.psq p).stream ∧ s.psqState p = psqRUN ∧ !s.segmentResident p then
    (s.setPsq p { s.psq p with pb := {} }).setWait p .segment
  else s

/-- MARK: issue once; a segment boundary. -/
def execPsqMark (p : Fin 16) (s : State) : Out :=
  .next (s.atWord p 0x0F fun w => ((s.issue p 1 w).advance p).elasticWait p)

/-- TRIG: issue once, send event EVT; it reaches its destinations 8 PCLK later (R141). -/
def execPsqTrig (p : Fin 16) (s : State) : Out :=
  .next (s.atWord p 0x10 fun w =>
    let t := (s.psq p).tick
    let dest := w.opd % 16
    let s := (s.issue p 1 w).advance p
    if dest = 0 then s else { s with trigs := s.trigs ++ [⟨p, dest, bits w.opd 4 8, t + 64, (t - (s.psq p).start) / 8⟩] })

/-- STRM: issue once, push the return point, enter a scanned stream at its base; buffered words of another descriptor are
discarded (R135, R143, R145). -/
def execPsqStrm (p : Fin 16) (s : State) : Out :=
  .next (s.atWord p 0x11 fun w =>
    let x := s.psq p
    let n := w.opd % 8
    if 16 ≤ x.calls.length then s.stackFault p
    else
      let s := s.issue p 1 w
      let y := s.psq p
      let y := if x.bufSd = n ∧ x.bufOn then y else { y with buf := [], bufBad := [], bufNext := 0 }
      let s := s.setSeq p { y with
        stream := true, sd := n, pc := 0, bufSd := n, bufOn := true, calls := ⟨false, x.pc + 1, x.sd, true⟩ :: x.calls }
      s.elasticWait p)

/-- SRET: issue once, leave the stream, discard its buffered words, pop the return point of the STRM. A stream entered from a
subroutine that another stream called leaves that other one without refill (DESIGN CHOICE: notes/assumptions/101.md). -/
def execPsqSret (p : Fin 16) (s : State) : Out :=
  .next (s.atWord p 0x12 fun w =>
    match (s.psq p).calls with
    | c :: cs =>
      if !c.byStrm then s.stackFault p
      else
        let s := s.issue p 1 w
        s.setSeq p { dropBuf (s.psq p) with stream := c.stream, pc := c.addr, sd := c.sd, calls := cs }
    | [] => s.stackFault p)

/-- LKSTOP: issue once; a member sends STOP and stops at STOP_AT like every other member (R151). -/
def execPsqLkstop (p : Fin 16) (s : State) : Out :=
  .next (s.atWord p 0x13 fun w =>
    let t := (s.psq p).tick
    let s := (s.issue p 1 w).advance p
    if s.isMember p then (s.sendStop p t).recordStop p (s.stopTick p t) else s)

/-- LKEND: issue once, leave the lock group for the rest of the run. -/
def execPsqLkend (p : Fin 16) (s : State) : Out :=
  .next (s.atWord p 0x14 fun w =>
    let s := (s.issue p 1 w).advance p
    s.setPsq p { s.psq p with lkEnd := true })

/-- The word due is illegal: the PSQ halts ILLEGAL before it issues (R134). -/
def execPsqIllegalWord (p : Fin 16) (s : State) : Out :=
  .next <| s.inPclk p <|
    match s.due p with
    | .illegal c => (s.countFetch p).illegal p c
    | _ => s

/-- A PCLK's fabric condition input: in RUN or WAIT, FFAIL or poison sets SFF; poison raises source 51 (R138). -/
def execPsqConditionSample (p : Fin 16) (ffail poison : Bool) (s : State) : Out :=
  .next <|
    if !s.psqRunning p then s
    else
      let site := s.siteOfPsq p
      let s := if ffail || poison then s.wr (psqB p) PSQ_STAT.SFF 1 else s
      if poison then s.raise (p / 4) 51 site p else s

/-! ## Streaming -/

/-- Elastic mode: the awaited segment is resident, and issue resumes after `n` idle PCLKs, which are counted (R147). -/
def execSegmentResident (p : Fin 16) (n : Nat) (s : State) : Out :=
  .next <|
    if (s.psq p).wait = .segment ∧ s.segmentResident p then
      let x := s.psq p
      let s := s.count2 (psqB p) PSQ_CNT_IDLE_LO.V PSQ_CNT_IDLE_HI.V n
      let c := (x.tick - x.start) / 8
      let s := s.setPsq p { x with tick := x.tick + 8 * n, idle := x.idle ++ [(c, c + n)] }
      s.setWait p .none
    else s

/-- Strict mode: a due stream word is not in the buffer; the run ends UNDERRUN (R146). -/
def execPatternUnderrun (p : Fin 16) (s : State) : Out :=
  .next <| s.inPclk p <| if !s.elasticMode p ∧ s.due p = .missing then s.underrun p else s

/-- A bank has taken UR_KEEP words since the underrun, up to input PCLK `c`: its override turns from KEEP to DZ (R146). -/
def execUrKeepExpire (p : Fin 16) (b : Fin 72) (c : Nat) (s : State) : Out :=
  .next <|
    let x := s.psq p
    if x.ovr = .keep ∧ s.rd (psqB p) PSQ_RES.STATUS = runUNDERRUN ∧
        s.rd (psqB p) PSQ_CTL.UR_KEEP ≤ s.takenIn b x.ovrC (c + 1) then
      s.setPsq p { x with dzBanks := putBit x.dzBanks b true }
    else s

/-! ## Registers of the sequencer -/

/-- A write to a descriptor's BASE or LEN (register 0: BASE_LO, 1: BASE_HI, 2: LEN): ignored with LS_REJ while RUNNING; LEN = 0 is
reserved; an accepted write sets STATUS to NONE, abandons a scan and discards the descriptor's buffered words (R142). -/
def State.sdWrite (s : State) (p n reg : Nat) (v : Word) : State :=
  let b := psqB p + n * 0x20
  if s.on (psqB p) PSQ_STAT.RUNNING then s.wr (psqB p) PSQ_STAT.LS_REJ 1
  else if reg = 2 ∧ v.toNat = 0 then s.rsvw (psqB p)
  else
    let s := if reg = 0 then (s.rsvBits (psqB p) 0xFFFFFFC0 v.toNat).wr b SD_BASE_LO.V (v.toNat / 64)
      else if reg = 1 then (s.rsvBits (psqB p) 0xFF v.toNat).wr b SD_BASE_HI.V v.toNat
      else s.wr b SD_LEN.V v.toNat
    let s := s.wr b SD_STAT.STATUS 0
    let x := s.psq p
    if x.bufSd = n then s.setPsq p (dropBuf x) else s

def execSdWrite (p : Fin 16) (n : Fin 8) (reg : Fin 3) (v : Word) (s : State) : Out :=
  .next (s.atBlock .psq (p / 4) (p % 4) fun s => s.sdWrite p n reg v)

/-- A write to SD_CTL: ELASTIC, and SCAN = 1 starts a scan; LEN = 0 ends at once with STRUCTURE (R142, R144). -/
def State.sdCtl (s : State) (p n : Nat) (v : Word) : State :=
  let b := psqB p + n * 0x20
  if s.on (psqB p) PSQ_STAT.RUNNING then s.wr (psqB p) PSQ_STAT.LS_REJ 1
  else
    let s := (s.rsvBits (psqB p) 3 v.toNat).wrb b SD_CTL.ELASTIC (bitAt v.toNat 1)
    if !bitAt v.toNat 0 then s
    else if s.sdLen p n = 0 then (s.wr b SD_STAT.STATUS 5).wr b SD_ERR.OFFSET 0
    else s.wr b SD_STAT.STATUS 1

def execSdScan (p : Fin 16) (n : Fin 8) (v : Word) (s : State) : Out :=
  .next (s.atBlock .psq (p / 4) (p % 4) fun s => s.sdCtl p n v)

/-- A 32-bit write into the local store window: stored while not RUNNING, else ignored with LS_REJ (R142). `off` counts bytes in
the 128 KiB window of page PSQ_LSPAGE. -/
def State.lsWrite (s : State) (p off : Nat) (v : Word) : State :=
  if s.on (psqB p) PSQ_STAT.RUNNING then s.wr (psqB p) PSQ_STAT.LS_REJ 1
  else s.writeChip (lsAddr p + s.rd (psqB p) PSQ_LSPAGE.PAGE * 0x20000 + off / 4 * 4) 4 v.toNat

def execLocalStoreWrite (p : Fin 16) (off : BitVec 17) (v : Word) (s : State) : Out :=
  .next (s.atBlock .psq (p / 4) (p % 4) fun s => s.lsWrite p off.toNat v)

/-- The device is in sync (R170): PTB_STAT.INSYNC. -/
def State.inSync (s : State) : Bool := s.on (ptbB 0) PTB_STAT.INSYNC

/-- PSQ_START_AT. -/
def State.startAt (s : State) (p : Nat) : Nat := s.rd2 (psqB p) PSQ_START_AT_LO.TICK PSQ_START_AT_HI.TICK

/-- ARM: refused with ARM_REJ in the cases of R150; else ARMED, a new pending result, priming (R145), and the mode leaves START
(R506, R158). -/
def State.psqArm (s : State) (p : Nat) : State :=
  let b := psqB p
  let active := match s.siteOfPsq p with
    | some st => s.siteState st == siteACTIVE
    | none => false
  if s.startAt p < s.tick (p / 4) + 2048 || !active || !s.on b PSQ_RES.ACKD || s.psqState p != psqIDLE then
    s.wr b PSQ_STAT.ARM_REJ 1
  else
    let sd := s.rd b PSQ_CTL.PRIME_SD
    let prime := s.on b PSQ_CTL.PRIME_EN && s.strmOk p sd
    let leave := s.mode = 0
    let s := s.seqUp b PSQ_RES.SEQ
    let s := ((s.wr b PSQ_RES.STATUS 1).wr b PSQ_RES.VALID 0).wr b PSQ_RES.ACKD 0
    let s := s.wr b PSQ_STAT.STATE psqARMED
    let s := if prime then
        s.setPsq p { s.psq p with bufSd := sd, buf := [], bufBad := [], bufNext := 0, bufOn := true }
      else s
    if leave then s.setMode 1 else s

def execPsqArm (p : Fin 16) (s : State) : Out := .next (s.atBlock .psq (p / 4) (p % 4) fun s => s.psqArm p)

/-- ACK in HALTED releases the run result and returns to IDLE (R157, R158). -/
def State.psqAck (s : State) (p : Nat) : State :=
  if s.psqState p = psqHALTED then (s.wr (psqB p) PSQ_RES.ACKD 1).wr (psqB p) PSQ_STAT.STATE psqIDLE else s

def execPsqCmdAck (p : Fin 16) (s : State) : Out := .next (s.atBlock .psq (p / 4) (p % 4) fun s => s.psqAck p)

/-- HALT: a running PSQ halts, or as a member sends STOP; an ARMED one returns to IDLE with no run, its pending result released as
HOST (R151, R157; notes/assumptions/23.md). -/
def State.psqHaltCmd (s : State) (p : Nat) : State :=
  if s.psqState p = psqARMED then
    let b := psqB p
    let s := ((s.wr b PSQ_RES.STATUS runHOST).wr b PSQ_RES.VALID 1).wr b PSQ_RES.ACKD 1
    (s.wr b PSQ_STAT.STATE psqIDLE).setPsq p (dropBuf (s.psq p))
  else if s.psqRunning p then s.hostHalt p
  else s

def execPsqCmdHalt (p : Fin 16) (s : State) : Out := .next (s.atBlock .psq (p / 4) (p % 4) fun s => s.psqHaltCmd p)

/-- GSTOP: a running member sends a group STOP with F the tick of its PCLK and stops at STOP_AT itself (R151). -/
def State.psqGstop (s : State) (p : Nat) : State :=
  if s.psqRunning p && s.isMember p then s.hostHalt p else s

def execPsqGstop (p : Fin 16) (s : State) : Out := .next (s.atBlock .psq (p / 4) (p % 4) fun s => s.psqGstop p)

/-- The expected registers and edge history of a site's channels start anew with a run (R67). -/
def State.clearRun (s : State) (st : Nat) : State :=
  { s with pins := s.pins.map fun e => if s.chanSite e.1 = st then (e.1, { e.2 with exp := 0, edge := 0 }) else e }

/-- A site's run starts at its FCU partitions: a TIME record is due; with AUTOCLR the counters are cleared at the first delivery and
FIRST capture restarts now (R184, R190, R194). -/
def State.fcuRunStart (s : State) (st : Nat) : State :=
  s.each (List.range 4) fun d s =>
    let x := { s.fsx (d * 16 + st) with runAt := s.startAt (s.rd (siteB st) SITE_CFG.PSQ) + 64, needTime := true }
    if s.on (fsB d st) FS_CFG.AUTOCLR then
      let s := s.setFsx (d * 16 + st) { x with
        autoPend := true, firstMade := 0, firstDone := 0
        part := x.part.filter fun l => !l.first, out := x.out.filter fun l => !l.first }
      (s.wr (fsB d st) FS_STAT.FIRST_DONE 0).wr (fsB d st) FS_STAT.FIRST_GAP 0
    else s.setFsx (d * 16 + st) x

/-- PSQ_START_AT arrives: an ARMED PSQ runs from PSQ_ENTRY with empty stacks and SFF = 0; a lock-group member out of sync halts
SYNCLOSS instead (R136, R137, R150, R157, R177). -/
def execPsqStart (p : Fin 16) (s : State) : Out :=
  .next <|
    if s.psqState p ≠ psqARMED then s
    else if s.rd (psqB p) PSQ_LKGRP.GID ≠ 0 ∧ !s.inSync then s.haltPsq p runSYNCLOSS 0 (s.startAt p)
    else
      let s := match s.siteOfPsq p with
        | some st => (s.clearRun st).fcuRunStart st
        | none => s
      let s := s.wr (psqB p) PSQ_STAT.SFF 0
      let s := s.wr (psqB p) PSQ_STAT.STATE psqRUN
      let x := s.psq p
      s.setSeq p { x with
        stream := false, pc := s.rd (psqB p) PSQ_ENTRY.ADDR, loops := [], calls := [], tick := s.startAt p, first := true,
        start := s.startAt p, wait := .none, lkEnd := false, hostStop := false, clrAt := s.startAt p, results := [], idle := [],
        marks := [], rep := none, dzBanks := 0, last := s.startAt p }

/-- A member takes the oldest STOP on its way to it: recorded before its tick, a late one halts the member at once with STOP_LATE
and source 52; a PSQ that does not run or has left its group ignores it (R152). -/
def execStopReceive (p : Fin 16) (s : State) : Out :=
  .next <|
    match s.stops.find? fun m => m.psq == p.val with
    | none => s
    | some m =>
      let s := { s with stops := s.stops.erase m }
      if !s.psqRunning p || (s.psq p).lkEnd then s
      else
        let now := s.haltTick p
        if now < m.stopAt then s.recordStop p m.stopAt
        else
          let site := s.siteOfPsq p
          let s := s.haltPsq p runGROUP 0 now
          (s.wr (psqB p) PSQ_STAT.STOP_LATE 1).raise (p / 4) 52 site p

/-- The recorded STOP_AT arrives: the member issues no further word (R152). -/
def execStopAtReached (p : Fin 16) (s : State) : Out :=
  .next <|
    match s.stopAt p with
    | some t => if s.psqRunning p then s.stopNow p t else s
    | none => s

/-- 24 PCLK after the last issue RUNNING falls (R157). -/
def execRunningFall (p : Fin 16) (s : State) : Out :=
  .next (if s.psqRunning p then s else s.wr (psqB p) PSQ_STAT.RUNNING 0)

/-- A PSQ_CNT_CLR write clears the counters its bits name: IDLE, PACELATE, SYNCLATE, MTO. -/
def State.psqCntClr (s : State) (p : Nat) (v : Word) : State :=
  let b := psqB p
  let s := if bitAt v.toNat 0 then s.wr2 b PSQ_CNT_IDLE_LO.V PSQ_CNT_IDLE_HI.V 0 else s
  let s := if bitAt v.toNat 1 then s.wr b PSQ_CNT_PACELATE.V 0 else s
  let s := if bitAt v.toNat 2 then s.wr b PSQ_CNT_SYNCLATE.V 0 else s
  let s := if bitAt v.toNat 3 then s.wr b PSQ_CNT_MTO.V 0 else s
  s.rsvBits b 15 v.toNat

def execPsqCntClr (p : Fin 16) (v : Word) (s : State) : Out :=
  .next (s.atBlock .psq (p / 4) (p % 4) fun s => s.psqCntClr p v)

/-! ## The pattern bus (R154, R155) -/

/-- The twelve buses of a pattern bus without their poison wires, bus 0 lowest. -/
def PbWord.buses (w : PbWord) : Nat :=
  w.pay + w.ts * 2 ^ 96 + w.uf * 2 ^ 99 + w.pbv.toNat * 2 ^ 103 + w.pbm.toNat * 2 ^ 104 + w.pbf.toNat * 2 ^ 105 + w.pbr.toNat * 2 ^ 106

/-- What PSQ `p` drives on its pattern bus in the PCLK that begins at tick `t`. -/
def State.pbAt (s : State) (p t : Nat) : PbWord :=
  ((s.psq p).pbs.find? fun r => r.lo ≤ t && t < r.hi).elim {} (·.pb)

/-- Dies that PSQ `p` reaches over each edge direction (from, to) for its pattern bus, with DIES and ROUTE as given (R155). -/
def pbEdges (p dies route : Nat) : List (Nat × Nat) :=
  let d := p / 4
  let e := (d + 1) % 4
  let w := (d + 3) % 4
  let far := bitAt dies ((d + 2) % 4)
  (if bitAt dies e || (far && route == 0) then [(d, e)] else []) ++ (if bitAt dies w || (far && route == 1) then [(d, w)] else []) ++
  (if far then [(if route = 0 then e else w, (d + 2) % 4)] else [])

/-- The pattern bus that an edge direction relays (R155). -/
def State.pbRelayed (s : State) (src dst : Nat) : Option Nat :=
  (List.range 16).find? fun p => (pbEdges p (s.rd (psqB p) PSQ_PB.DIES) (s.rd (psqB p) PSQ_PB.ROUTE)).contains (src, dst)

/-- What the relay of an edge direction carries at the time `t`: the pattern bus as it reaches the global lines in PCLK issue + 2, and whether it
came over an edge that poisoned it (R155, R415). -/
def State.pbOnEdge (s : State) (src t : Nat) (p : Nat) : Nat × Bool :=
  -- the edge on which the die before the last one received it
  let e := if src = (p / 4 + 1) % 4 then 1 else 0
  let pois := src != p / 4 && (List.range 4).any fun b => bitAt (s.relayBit ((src * 2 + e) * 4 + b)) 27
  if t < 16 then (0, pois) else ((s.pbAt p (t - 16)).buses, pois)

/-- Bus `i` of the pattern bus of PSQ `p` on the global lines of a die at tick `t`; none on a die that PSQ_PB.DIES does not name. On another
die than the PSQ's it is what the relay brought, with poison on all twelve buses where a piece came poisoned (R155, R415). -/
def State.pbBus (s : State) (p d t i : Nat) : Option Nat :=
  let b := psqB p
  if !bitAt (s.rd b PSQ_PB.DIES) d then none
  else if d = p / 4 then some (if t < 16 then 0 else bits (s.pbAt p (t - 16)).buses (8 * i) 8)
  else
    let src := if d = (p / 4 + 2) % 4 then (if s.rd b PSQ_PB.ROUTE = 0 then (p / 4 + 1) % 4 else (p / 4 + 3) % 4) else p / 4
    let e := if d = (src + 1) % 4 then 1 else 0
    let piece := fun k => s.relayBit ((d * 2 + e) * 4 + k)
    let all := (List.range 4).foldl (fun v k => v + piece k % 2 ^ 27 * 2 ^ (27 * k)) 0
    some (bits all (8 * i) 8 + if (List.range 4).any fun k => bitAt (piece k) 27 then 256 else 0)

end Sys2Proof.Machine
end

