-- ==== Sys2Proof/Machine/Ptb.lean ====
section
/-! DEFINITION. Time base (05_time_base_and_lockstep.md R159 to R177): the EPOCH pulses, the boundary decisions, two-way exchanges,
the states of synchronization, acquisition, tracking and loss. The fields that read the same on all four dies live in LD0's
PTB block. -/
namespace Sys2Proof.Machine

/-! ## States of synchronization (R170, R177) -/

def ptbOFF : Nat := 0
def ptbROOT : Nat := 1
def ptbACQ : Nat := 2
def ptbTRACK : Nat := 3
def ptbLOST : Nat := 4
def State.ptbState (s : State) : Nat := s.rd (ptbB 0) PTB_STAT.STATE

/-- A reported state is in sync: ROOT or TRACK (R170). -/
def inSyncState (st : Nat) : Bool := st == ptbROOT || st == ptbTRACK

def State.setPtbState (s : State) (st : Nat) : State :=
  (s.wr (ptbB 0) PTB_STAT.STATE st).wrb (ptbB 0) PTB_STAT.INSYNC (inSyncState st)

/-- Causes of a loss of sync (R177). -/
def causeOFFSET : Nat := 1
def causeMISSED : Nat := 2
def causePARENT : Nat := 3
def causePORT : Nat := 4
def causeRCLK : Nat := 5
def causeMISALIGN : Nat := 6
def causeHIBER : Nat := 7
def causeHOST : Nat := 8

def State.isFollower (s : State) : Bool := s.rd (ptbB 0) PTB_CFG.ROLE == 2
def State.parentPort (s : State) : Nat := s.rd (ptbB 0) PTB_CFG.PPORT

/-- The sync die: the die of a follower's parent port, else LD0 (R164). -/
def State.syncDie (s : State) : Nat := if s.isFollower then s.parentPort / 6 else 0

/-- A lock-group member that is ARMED, in RUN or in WAIT halts SYNCLOSS (R153, R177). -/
def State.syncLossHalts (s : State) : State :=
  s.each (List.range 16) fun p s =>
    if s.isMember p then s.haltPsq p runSYNCLOSS 0 (s.haltTick p) else s

/-- No load, no forward step and no slew waits any more, and none is deferred (R170, R174). -/
def State.dropStep (s : State) : State :=
  { s.wr (ptbB 0) PTB_STAT.DEFER 0 with sync := { s.sync with step := none, load := false, slew := 0 } }

/-- The device leaves sync for state `st`: counter, cause, source 55 (not for HIBER or HOST), the members' halts; no step and no
slew any more (R170, R177). A device out of sync has nothing to leave. -/
def State.leaveSync (s : State) (cause st : Nat) : State :=
  if inSyncState s.ptbState then
    let s := (s.setPtbState st).wr (ptbB 0) PTB_STAT.LCAUSE cause
    let s := s.count (ptbB 0) PTB_CNT_LOST.V
    let s := s.dropStep
    let s := { s with sync := { s.sync with
      good := 0, thetas := [], bad := 0, beyond := 0, probation := false, aheadRaised := false } }
    let s := if cause = causeHIBER ∨ cause = causeHOST then s else s.raise s.syncDie 55 none s.syncDie
    s.syncLossHalts
  else s

/-- The parent port leaves the trained state: LOST at once with cause PORT (R171). -/
def State.parentPortDown (s : State) (g : Nat) : State :=
  if s.isFollower && s.parentPort == g && s.ptbState == ptbTRACK then s.leaveSync causePORT ptbLOST else s

/-! ## EPOCH (R162, R163) -/

/-- All four TGMs are locked and no die counts yet: every die loads 0, counts and sets DCTL_READY.PTB (R162). -/
def execEpochStartPulse (s : State) : Out :=
  .next <|
    if (List.range 4).all (fun d => bitAt (s.rd (ckpB d) CKP_STAT.LOCK) 0 && !s.counting d) then
      s.each (List.range 4) fun d s => ((s.setTick d 0).setCounting d true).setReady d rdyPTB true
    else s

/-- LD0's PTB[19:0] is 0: a counting die whose own low 20 bits differ is misaligned (R163). -/
def execEpochPulse (s : State) : Out :=
  .next <|
    s.each (List.range 4) fun d s =>
      if s.counting 0 ∧ s.counting d ∧ s.tick d % 2 ^ 20 ≠ s.tick 0 % 2 ^ 20 then
        let s := s.count (ptbB d) PTB_CNT_MISALIGN.V
        (s.raise d 54 none d).leaveSync causeMISALIGN ptbLOST
      else s

/-! ## Boundaries (R164, R174) -/

/-- A die that holds the sync die's decision: reached over D2D service bundles, and its slot received without a check error (R164,
R416). -/
def State.holdsDecision (s : State) (d : Nat) : Bool := s.reachable s.syncDie d && !s.ptbAbsent.contains d

/-- The PTB of a die moves by whole ticks; the count has 64 bits (R159). -/
def State.moveTick (s : State) (d : Nat) (k : Int) : State :=
  s.setTick d (((s.tick d : Int) + k) % (2 ^ 64 : Int)).toNat

/-- The dies that count and hold the decision for this boundary. -/
def State.deciding (s : State) : List Nat := (List.range 4).filter fun d => s.counting d && s.holdsDecision d

/-- A counting die without the decision applies none and raises the misalignment source (R164). -/
def State.missedDecision (s : State) : State :=
  { s with ptbAbsent := [] }.each ((List.range 4).filter fun d => s.counting d && !s.holdsDecision d) fun d s =>
    s.raise d 54 none d

/-- The sync die is at a boundary: its PTB[10:0] is 0 (R164). -/
def State.atBoundary (s : State) : Bool := s.tick s.syncDie % 2048 == 0

/-- The waiting load or forward step is applied on every die that holds the decision; after a load the acquisition is a first one no
longer, and the offsets measured before it count no more (R172). -/
def State.applyStep (s : State) (k : Int) : State :=
  let s := (s.each s.deciding fun d s => s.moveTick d k).wr (ptbB 0) PTB_STAT.DEFER 0
  if s.sync.load then
    { s.wr (ptbB 0) PTB_STAT.FIRST 0 with sync := { s.sync with step := none, load := false, thetas := [], good := 0 } }
  else { s with sync := { s.sync with step := none } }

/-- One fine step on die `d`; 256 shortened ticks are one tick more on its count. As many lengthened ones are one tick less, which
`State.idleTick` leaves out at the next tick: no count goes back (R159, R164, R175; notes/assumptions/108.md). -/
def State.fineStep (s : State) (d : Nat) (unit : Int) : State :=
  let k := KV.get 0 d s.sync.fine + unit
  let s := { s with sync := { s.sync with fine := KV.set 0 d (if k = 256 then 0 else k) s.sync.fine } }
  if k = 256 then s.moveTick d 1 else s

/-- A boundary: a waiting step applies, or is deferred while any PSQ is active; one fine step of slew applies on each die that holds
the decision; a die without it raises the misalignment source (R164, R174). Between boundaries nothing happens. -/
def execPtbBoundary (s : State) : Out :=
  .next <|
    if s.atBoundary then
      let dies := s.deciding
      let s := match s.sync.step with
        | some k => if s.anyPsqActive then s.wr (ptbB 0) PTB_STAT.DEFER 1 else s.applyStep k
        | none => s
      let x := s.sync
      let unit : Int := if x.slew > 0 then 1 else if x.slew < 0 then -1 else 0
      let s := { s with sync := { x with slew := x.slew - unit, net := x.net + unit } }
      (s.each dies fun d s => s.fineStep d unit).missedDecision
    else s

/-- Every PSQ is idle again: at a boundary, the deferred load or step is applied on the dies that hold the decision; the others raise
the misalignment source (R164, R174). -/
def execPtbDeferredStep (s : State) : Out :=
  .next <|
    match s.sync.step with
    | some k =>
      if s.on (ptbB 0) PTB_STAT.DEFER && !s.anyPsqActive && s.atBoundary then (s.applyStep k).missedDecision else s
    | none => s

/-! ## PTB_CMD (R161, R172, R174) -/

/-- SNAP: the whole count of this die in one tick (R161). -/
def State.ptbSnap (s : State) (d : Nat) : State := s.wr2 (ptbB d) PTB_SNAP_LO.V PTB_SNAP_HI.V (s.tick d)

def execPtbSnap (d : Fin 4) (s : State) : Out := .next (s.atBlock .ptb d 0 fun s => s.ptbSnap d)

/-- RELOAD: the next acquisition is a first one; while a PSQ is active it is ignored and sets COMMIT_ERR (R172, R174). -/
def State.ptbReload (s : State) (d : Nat) : State :=
  if s.anyPsqActive then s.commitErr (ptbB d) else s.wr (ptbB 0) PTB_STAT.FIRST 1

def execPtbReload (d : Fin 4) (s : State) : Out := .next (s.atBlock .ptb d 0 fun s => s.ptbReload d)

/-- PTB_CNT_CLR: on LD0 the shared counters and its MISALIGN; on LD1 to LD3 only the die's MISALIGN, the other bits setting LOCKW
(R165). -/
def State.ptbCntClr (s : State) (d : Nat) (v : Word) : State :=
  let b := ptbB d
  let n := v.toNat
  let s := s.rsvBits b 15 n
  let s := if d = 0 then
      let s := if bitAt n 0 then s.wr b PTB_CNT_LOST.V 0 else s
      let s := if bitAt n 1 then s.wr b PTB_CNT_MISS.V 0 else s
      if bitAt n 2 then s.wr b PTB_CNT_DLYREJ.V 0 else s
    else if n % 8 ≠ 0 then s.lockw b
    else s
  if bitAt n 3 then s.wr b PTB_CNT_MISALIGN.V 0 else s

def execPtbCntClr (d : Fin 4) (v : Word) (s : State) : Out := .next (s.atBlock .ptb d 0 fun s => s.ptbCntClr d v)

/-! ## Two-way exchange (R168, R169) -/

/-- The PTB of die `d` in fine steps, `frac` steps into the tick (R159). -/
def State.stamp (s : State) (d : Nat) (frac : BitVec 8) : Nat := s.tick d * 256 + frac.toNat

/-- A follower sends a request on its parent port, stamped t1; a new interval of PTB_SLEW starts (R168, R169). -/
def execPtbRequestSend (frac : BitVec 8) (s : State) : Out :=
  .next <|
    if s.isFollower && s.ptbState != ptbOFF then
      let s := s.wr (ptbB 0) PTB_SLEW.NET (wrapI 16 s.sync.net)
      { s with sync := { s.sync with t1 := some (s.stamp s.syncDie frac), net := 0 } }
    else s

/-- Port `g` answers an exchange request: t2 at its arrival, t3 at the response's departure, this device's STATE and HOPS (R168,
R481). -/
def execPtbRequestAnswer (g : Fin 24) (t2frac t3frac : BitVec 8) (wait : Nat) (s : State) : Out :=
  .next { s with ptbOut := s.ptbOut ++
    [⟨g, s.stamp (g / 6) t2frac, s.stamp (g / 6) t3frac + wait * 256, s.ptbState, s.rd (ptbB 0) PTB_STAT.HOPS⟩] }

/-- A request that was missed or rejected; the fourth in a row takes a device in TRACK to LOST (R171). -/
def State.badExchange (s : State) : State :=
  let s := { s with sync := { s.sync with t1 := none, bad := s.sync.bad + 1, good := 0, thetas := [], beyond := 0 } }
  if s.ptbState = ptbTRACK ∧ 4 ≤ s.sync.bad then s.leaveSync causeMISSED ptbLOST else s

/-- No response within 100 µs (R169); the parent is not answering. -/
def execPtbExchangeMissed (s : State) : Out :=
  .next <|
    match s.sync.t1 with
    | some _ => ((s.count (ptbB 0) PTB_CNT_MISS.V).wr (ptbB 0) PTB_STAT.PWAIT 1).badExchange
    | none => s

/-- ASYM in half fine steps (R168). -/
def State.asym2 (s : State) : Int := 2 * (sgn 16 (s.rd (ptbB 0) PTB_ASYM.PHY) + sgn 16 (s.rd (ptbB 0) PTB_ASYM.USR))

/-- An exchange whose path delay lies within DLY_THR of the mean of the last accepted ones; with none accepted yet any is (R169).
Delays are in half fine steps. -/
def State.delayOk (s : State) (d2 : Int) : Bool :=
  let n : Int := s.sync.deltas.length
  decide (n = 0 ∨ (d2 * n - s.sync.deltas.sum).natAbs ≤ (2 * s.rd (ptbB 0) PTB_THR.DLY * n).toNat)

/-- abs(θ) ≤ `lim` fine steps, θ in half fine steps. -/
def within (th2 : Int) (lim : Nat) : Bool := decide (th2.natAbs ≤ 2 * lim)

/-- A device enters ACQ afresh (R171). -/
def State.enterAcq (s : State) : State :=
  let s := ((s.setPtbState ptbACQ).wr (ptbB 0) PTB_STAT.AHEAD 0).dropStep
  { s with sync := { s.sync with
    good := 0, thetas := [], bad := 0, beyond := 0, probation := false, aheadRaised := false } }

/-- The offsets agree within 64 fine steps (R172). -/
def agree (ths : List Int) : Bool :=
  match ths with
  | [] => true
  | t :: ts => decide ((ts.foldl max t) - (ts.foldl min t) ≤ 128)

/-- An accepted exchange in ACQ with the parent in sync: the load of a first acquisition after four agreeing offsets, measured anew by
each further one until a boundary takes it (R172); the forward step, or the slew that replaces one still waiting, of another one (R173); TRACK after eight offsets within 8 fine steps (R171). -/
def State.acquire (s : State) (th2 : Int) : State :=
  let x := s.sync
  let near := within th2 8
  let good := if near then x.good + 1 else 0
  let ths := (th2 :: x.thetas).take 4
  let ticks := th2.fdiv 512
  let rest := (th2 - ticks * 512).fdiv 2
  let s := { s with sync := { x with good := good, thetas := ths } }
  let s :=
    if s.on (ptbB 0) PTB_STAT.FIRST then
      if ths.length = 4 ∧ agree ths then { s with sync := { s.sync with step := some ticks, load := true, slew := rest } } else s
    else if th2 ≥ 512 then { s with sync := { s.sync with step := some ticks, load := false, slew := rest } }
    else
      let s := { s.dropStep with sync := { s.dropStep.sync with slew := th2.fdiv 2 } }
      if -th2 > 512 * (s.rd (ptbB 0) PTB_ACQ_LIM.V : Int) then
        let s := s.wr (ptbB 0) PTB_STAT.AHEAD 1
        if s.sync.aheadRaised then s
        else { s with sync := { s.sync with aheadRaised := true } }.raise s.syncDie 56 none s.syncDie
      else s.wr (ptbB 0) PTB_STAT.AHEAD 0
  if 8 ≤ good ∧ s.sync.step = none then
    let s := s.setPtbState ptbTRACK
    { s with sync := { s.sync with beyond := 0, bad := 0 } }
  else s

/-- An accepted exchange: what it does in each state (R171, R176). -/
def State.acceptedExchange (s : State) (th2 : Int) (parentIn : Bool) : State :=
  let loss := s.rd (ptbB 0) PTB_THR.LOSS
  if s.ptbState = ptbTRACK then
    if !parentIn then s.leaveSync causePARENT ptbLOST
    else if s.sync.probation then
      if within th2 loss then { s with sync := { s.sync with probation := false, slew := th2.fdiv 2 } }
      else s.leaveSync causeOFFSET ptbLOST
    else if within th2 loss then { s with sync := { s.sync with beyond := 0, slew := th2.fdiv 2 } }
    else if 2 ≤ s.sync.beyond then s.leaveSync causeOFFSET ptbLOST
    else { s with sync := { s.sync with beyond := s.sync.beyond + 1, slew := th2.fdiv 2 } }
  else if s.ptbState = ptbACQ then
    if parentIn then s.acquire th2 else { s with sync := { s.sync with good := 0, thetas := [] } }
  else if s.ptbState = ptbLOST then (if parentIn then s.enterAcq else s)
  else s

/-- PTB_OFFS of an offset in half fine steps, saturating; the manual does not say how a half is rounded, so its direction is a
free value (notes/assumptions/4.md). -/
def offsWord (th2 : Int) (up : Bool) : Nat :=
  wrapI 32 (max (-(2 ^ 31)) (min (2 ^ 31 - 1) ((th2 + (if up then 1 else 0)).fdiv 2)))

/-- A response arrives at t4 with the parent's stamps, STATE and HOPS: offset and path delay, acceptance, and the servo (R168 to
R176). -/
def execPtbResponse (t2 t3 : BitVec 72) (t4frac : BitVec 8) (pState : BitVec 3) (pHops : BitVec 14) (s : State) : Out :=
  .next <|
    match s.sync.t1 with
    | none => s
    | some t1 =>
      let t4 : Int := s.stamp s.syncDie t4frac
      let th2 : Int := (t2.toNat - t1) + (t3.toNat - t4) - s.asym2
      let d2 : Int := (t4 - t1) - (t3.toNat - t2.toNat)
      let parentIn := inSyncState pState.toNat
      let s := s.wrb (ptbB 0) PTB_STAT.PWAIT (!parentIn)
      if s.delayOk d2 then
        let up := th2 % 2 = 1 ∧ s.free 1 = 1
        let up2 := d2 % 2 = 1 ∧ s.drew.free 1 = 1
        let s := s.drew.drew
        let s := s.wr (ptbB 0) PTB_OFFS.V (offsWord th2 up)
        let s := s.wr (ptbB 0) PTB_DELAY.V (wrapI 32 ((d2 + (if up2 then 1 else 0)).fdiv 2))
        let s := s.wr (ptbB 0) PTB_STAT.HOPS (min (pHops.toNat + 1) 16383)
        let s := { s with sync := { s.sync with t1 := none, bad := 0, deltas := (d2 :: s.sync.deltas).take 8 } }
        s.acceptedExchange th2 parentIn
      else
        let s := s.count (ptbB 0) PTB_CNT_DLYREJ.V
        if s.ptbState = ptbTRACK ∧ !parentIn ∧ !s.sync.probation then
          { s with sync := { s.sync with t1 := none } }.leaveSync causePARENT ptbLOST
        else s.badExchange

/-- With FSRC = SYNT the recovered clock is lost: a device in TRACK is LOST at once (R171). -/
def execRecoveredClockLost (s : State) : Out :=
  .next <|
    if s.rd (ptbB 0) PTB_CFG.FSRC = 1 ∧ s.ptbState = ptbTRACK then s.leaveSync causeRCLK ptbLOST else s

/-! ## The commit of the PTB block (R165, R171) -/

/-- The commit check: no ROOT with SYNT, no change of FSRC while the active ROLE is not NONE (R165). The Owl of LD0 makes the choice of
root and parent take effect, so without it no commit changes ROLE or PPORT (R34; notes/assumptions/104.md). -/
def State.ptbCheck (s : State) : Bool :=
  let b := ptbB 0
  (s.ready 0 rdyOWL || (s.staged b PTB_CFG.ROLE == s.rd b PTB_CFG.ROLE && s.staged b PTB_CFG.PPORT == s.rd b PTB_CFG.PPORT)) &&
  !(s.staged b PTB_CFG.ROLE == 1 && s.staged b PTB_CFG.FSRC == 1) &&
  (s.staged b PTB_CFG.FSRC == s.rd b PTB_CFG.FSRC || s.rd b PTB_CFG.ROLE == 0)

/-- What a commit does to the state of synchronization, after it took effect; `role` and `pport` are the old values (R171). A new
parent starts a new history of path delays, and brings the asymmetry of its own port (R169). -/
def State.ptbCommitted (s : State) (role pport : Nat) : State :=
  let b := ptbB 0
  let new := s.rd b PTB_CFG.ROLE
  let moved := new != role || s.rd b PTB_CFG.PPORT != pport
  let s := if moved then { s with sync := { s.sync with t1 := none, deltas := [] } } else s
  let s := if new = 2 then s.wr b PTB_ASYM.PHY (s.gsl s.parentPort).asym else s
  if new = 0 then (s.leaveSync causeHOST ptbOFF).dropStep.setPtbState ptbOFF
  else if new = 1 then
    let s := ((s.setPtbState ptbROOT).wr b PTB_STAT.HOPS 0).dropStep
    { s with sync := { s.sync with probation := false } }
  else if s.ptbState = ptbOFF then s.enterAcq
  else if !moved then s
  else if inSyncState s.ptbState then
    let s := s.setPtbState ptbTRACK
    { s with sync := { s.sync with probation := true, bad := 0, beyond := 0 } }
  else s.enterAcq

end Sys2Proof.Machine
end

