-- ==== Sys2Proof/Machine/Net.lean ====
section
/-! DEFINITION. The on-chip network seen from an initiator (13_noc_and_die_links.md): coordinates, initiator and target numbers,
routes and down links, access windows, statistics and probes. -/
namespace Sys2Proof.Machine

open Sys2Proof (Ini Amo MemOp MemReq)

/-! ## Initiators (R398) -/

def iniDie (i : Ini) : Nat :=
  match i with
  | .psq n => n / 4 | .fcu d => d | .rae n => n / 2 | .sac n => n / 16 | .sp n => n / 4 | .fabric r => r / 64
  | .cfe d => d | .owl d => d | .den d => d | .pf => 0 | .vf _ => 0 | .dma _ => 0 | .gsl g => g / 6

/-- The local initiator ID. -/
def iniLocal (i : Ini) : Nat :=
  match i with
  | .psq n => n % 4 | .fcu _ => 4 | .rae n => 5 + n % 2 | .sac n => 8 + n % 16 | .sp n => 0x18 + n % 4 | .fabric _ => 0x1C
  | .cfe _ => 0x1D | .owl _ => 0x1E | .den _ => 0x1F | .pf => 0x20 | .vf _ => 0x20 | .dma _ => 0x20 | .gsl _ => 0x21

def iniId (i : Ini) : Nat := iniDie i * 64 + iniLocal i

/-- The site whose VF owns a DMA channel; none: the PF (R494). -/
def State.dmaSite (s : State) (c : Nat) : Option Nat :=
  if s.on (hstB 0 + c * 4) HST_DMA_OWN.VF then some (s.rd (hstB 0 + c * 4) HST_DMA_OWN.VFN) else none

/-- The bit of NW_CFG.INIT for an initiator; none for the Owl and the Den bus master, which are never matched (R409). -/
def State.iniBit (s : State) (i : Ini) : Option Nat :=
  match i with
  | .psq _ => some 0 | .fcu _ => some 1 | .rae _ => some 2 | .sac _ => some 3 | .sp _ => some 4 | .fabric _ => some 5
  | .cfe _ => some 6 | .pf => some 7 | .vf _ => some 8 | .gsl _ => some 9
  | .dma c => some (if (s.dmaSite c).isSome then 8 else 7)
  | .owl _ | .den _ => none

/-! ## Coordinates (R28, R395) -/

/-- Package coordinates of own coordinates `(x, y)` on die `d` (R28; ROT is the die number). -/
def packXY (d x y : Nat) : Nat × Nat :=
  match d with
  | 0 => (x, y)
  | 1 => (8 + 7 - y, x)
  | 2 => (8 + 7 - x, 8 + 7 - y)
  | _ => (y, 8 + 7 - x)

/-- Package coordinates of a package region. -/
def regionXY (r : Nat) : Nat × Nat :=
  let x0 := if r / 64 = 1 ∨ r / 64 = 2 then 8 else 0
  let y0 := if r / 64 ≥ 2 then 8 else 0
  (x0 + r % 8, y0 + r % 64 / 8)

/-- Where an initiator attaches; the CFE, the Owl and Den attach at the register bridge (R395; notes/assumptions/24.md). -/
def iniXY (i : Ini) : Nat × Nat :=
  match i with
  | .fabric r => regionXY r
  | .psq n => packXY (n / 4) (n % 4 + 2) 3
  | .sp n => packXY (n / 4) (n % 4 + 2) 2
  | .sac n => packXY (n / 16) (n % 8) (5 + n % 16 / 8)
  | .fcu d => packXY d 4 4
  | .rae n => packXY (n / 2) (if n.val % 2 = 0 then 3 else 5) 4
  | .gsl g => packXY (g / 6) 0 5
  | .pf | .vf _ | .dma _ => packXY 0 0 2
  | .cfe d | .owl d | .den d => packXY d 0 1

/-! ## Targets (R40, R42, R43, R398, R432) -/

/-- Port and port address of a local DRAM address: the interleave, else the lowest enabled window that holds it (R42, R432). -/
def State.dramPort (s : State) (a : Nat) : Option (Nat × Nat) :=
  if a < 8 * s.rd (mpB 0) MP_IL.ILSIZE * 2 ^ 30 then some (bits a 12 3, bits a 15 25 * 4096 + a % 4096)
  else
    match (List.range 8).find? fun k =>
        let b := mpB 0 + k * 16
        let lo := s.rd b MW_CFG.BASE * 2 ^ 30
        s.on b MW_CFG.EN && lo ≤ a && a < lo + s.rd b MW_CFG.SIZE * 2 ^ 30 with
    | some k =>
      let b := mpB 0 + k * 16
      some (s.rd b MW_CFG.PORT, s.rd b MW_PBASE.PBASE * 2 ^ 30 + (a - s.rd b MW_CFG.BASE * 2 ^ 30))
    | none => none

def State.targetOf (s : State) (op : MemOp) (a : Nat) : Target :=
  match op with
  | .msg r => .fabric r
  | _ =>
    if a < 0x4000000000 then
      match s.dramPort a with
      | some (m, pa) => .dram m pa
      | none => .nothing
    else if a < 0x4020000000 then .store ((a - 0x4000000000) / 0x200000)
    else if 0x4100000000 ≤ a ∧ a < 0x4120000000 then .sett ((a - 0x4100000000) / 0x8000000)
    else if 0x4200000000 ≤ a ∧ a < 0x4204000000 then
      if (egroupOf a).isSome then .mem ((a - 0x4200000000) / 0x1000000) else .nothing
    else if 0x7F00000000 ≤ a ∧ a < 0x8000000000 then .regs (dieOf a)
    else .nothing

/-- The target of a request: its local address's, or for another device's address the GSL egress of the die that holds the port named
by the route table (R46, R476). -/
def State.reqTarget (s : State) (q : MemReq) : Target :=
  match q.dev with
  | some n =>
    if n.toNat = s.rd (dctlB 0) DCTL_DEVNUM.DEVNUM then s.targetOf q.op q.addr.toNat
    else
      let b := gslB 0 + n.toNat * 4
      .egress ((if s.on b GSL_RT.PV then s.rd b GSL_RT.PRIM else if s.on b GSL_RT.AV then s.rd b GSL_RT.ALT
        else iniDie q.ini * 6) / 6)
  | none => s.targetOf q.op q.addr.toNat

/-- The 10-bit target ID of R398. -/
def targetId (t : Target) : Nat :=
  match t with
  | .dram m _ => m / 2 * 256 + 0x40 + m % 2
  | .store r | .fabric r => r / 64 * 256 + r % 64
  | .sett d => d * 256 + 0x44
  | .mem d => d * 256 + 0x43
  | .regs d => d * 256 + 0x42
  | .egress d => d * 256 + 0x45
  | .nothing => 0

def targetXY (t : Target) : Nat × Nat :=
  match t with
  | .dram m _ => packXY (m / 2) (if m % 2 = 0 then 1 else 6) 0
  | .store r | .fabric r => regionXY r
  | .sett d | .regs d => packXY d 0 1
  | .mem d => packXY d 0 3
  | .egress d => packXY d 0 5
  | .nothing => (0, 0)

/-! ## Routes (R393, R394, R404, R407, R408) -/

/-- Logical position of coordinate `v` on its ring, and the coordinate at position `p`. -/
def ringPos (v : Nat) : Nat := if v % 2 = 0 then v / 2 else 15 - (v - 1) / 2

/-- The die-boundary links of a ring walked in increasing (or decreasing) positions from `a` to `b`: 0 joins coordinates 6 and 8
(positions 3 and 4), 1 joins 7 and 9 (positions 12 and 11). -/
def ringCross (a b : Nat) (up : Bool) : List Nat :=
  let n := if up then (b + 16 - a) % 16 else (a + 16 - b) % 16
  let lo := fun i => if up then (a + i) % 16 else (a + 32 - i - 1) % 16
  (List.range n).filterMap fun i => if lo i = 3 then some 0 else if lo i = 11 then some 1 else none

/-- NOC_DOWN numbers of the crossing links of the X ring of row `y`, and of the Y ring of column `x`. -/
def xLink (y k : Nat) : Nat := (if y < 8 then 0 else 32) + 2 * (y % 8) + k
def yLink (x k : Nat) : Nat := (if x < 8 then 48 else 16) + 2 * (x % 8) + k

/-- The torus links down as die `d` knows them. -/
def State.nocDown (s : State) (d n : Nat) : Bool :=
  if n < 32 then s.bit (nocB d) NOC_DOWN_LO.V n else s.bit (nocB d) NOC_DOWN_HI.V (n - 32)

/-- The links of the leg from `a` to `b` on a ring in the direction of R404, or the other one when that uses a down link; none when
both do. -/
def State.ringRoute (s : State) (d a b : Nat) (link : Nat → Nat) : Option (List Nat) :=
  let up := (b + 16 - a) % 16 ≤ 8
  let try1 := (ringCross a b up).map link
  let try2 := (ringCross a b (!up)).map link
  if a = b then some []
  else if !try1.any (s.nocDown d) then some try1
  else if !try2.any (s.nocDown d) then some try2
  else none

/-- The route of a packet: the X ring to the destination column, then the Y ring (R404). -/
def State.nocRoute (s : State) (d : Nat) (src dst : Nat × Nat) : Option (List Nat) :=
  match s.ringRoute d (ringPos src.1) (ringPos dst.1) (xLink src.2) with
  | none => none
  | some xs =>
    match s.ringRoute d (ringPos src.2) (ringPos dst.2) (yLink dst.1) with
    | none => none
    | some ys => some (xs ++ ys)

/-! ## Access windows (R409) -/

def isWrite (op : MemOp) : Bool := op ≠ .rd

/-- The window that applies to a request denies it: of the matching windows the highest PRIO, then the lowest index. -/
def State.denied (s : State) (q : MemReq) : Bool :=
  match s.iniBit q.ini with
  | none => false
  | some bit =>
    let a := q.addr.toNat
    let w := fun i => nocB (iniDie q.ini) + i * 32
    let hit := fun i => s.on (w i) NW_CFG.EN && s.rd2 (w i) NW_BASE_LO.V NW_BASE_HI.V ≤ a &&
      a ≤ s.rd2 (w i) NW_LIM_LO.V NW_LIM_HI.V + 4095 && s.bit (w i) NW_CFG.INIT bit &&
      s.bit (w i) NW_CFG.OPS (if isWrite q.op then 1 else 0)
    let best := ((List.range 32).filter hit).foldl (fun (m : Option Nat) i =>
      match m with
      | some j => if s.rd (w j) NW_CFG.PRIO < s.rd (w i) NW_CFG.PRIO then some i else m
      | none => some i) none
    match best with
    | some i => s.rd (w i) NW_CFG.ACTION == 1
    | none => false

/-! ## Statistics and probes (R410 to R412) -/

/-- Histogram bin of a latency in ns. -/
def histBin (ns : Nat) : Nat := if ns < 64 then 0 else min 15 (Nat.log2 ns - 5)

/-- A pattern-class request of a group ends after `ns`: its bytes (none when it ended in an error) and its latency. -/
def State.nsCount (s : State) (q : MemReq) (ok : Bool) (ns : Nat) : State :=
  if q.service then s
  else
    let b := nocB (iniDie q.ini) + iniLocal q.ini * 128
    let s := if !ok then s
      else if isWrite q.op then s.count2 b NS_WRB_LO.V NS_WRB_HI.V q.len
      else s.count2 b NS_RDB_LO.V NS_RDB_HI.V q.len
    s.count (b + histBin ns * 4) NS_HIST.V

def opCode (op : MemOp) : Nat :=
  match op with
  | .rd => 0 | .wr => 1 | .wrp _ => 2 | .aor => 3 | .amo _ => 4 | .msg _ => 5
def rspCode (r : Rsp) : Nat :=
  match r with
  | .data _ _ => 8 | .ack => 9 | .decode | .denied | .link => 10
def rspStatus (r : Rsp) : Nat :=
  match r with
  | .denied => 1 | .link => 2 | _ => 0
def rspOk (r : Rsp) : Bool :=
  match r with
  | .data _ _ | .ack => true
  | _ => false
def rspPoison (r : Rsp) : Nat :=
  match r with
  | .data _ p => p
  | _ => 0

/-- One record enters the trace buffer of die `d`, or is lost (R411). -/
def State.traceRecord (s : State) (d : Nat) (ws : List Nat) : State :=
  let b := nocB d
  let full := s.on b NT_WPTR.FULL
  if full && !s.on b NT_CTL.WRAP then s.count b NT_LOST.V
  else
    let n := s.rd b NT_WPTR.NEXT
    let s := s.each ((List.range 8).zip ws) fun e s => s.wr (b + n * 32 + e.1 * 4) NT_BUF.V e.2
    let s := s.wr b NT_WPTR.NEXT (n + 1)
    if n = 2047 then s.wr b NT_WPTR.FULL 1 else s

/-- A service-class packet passes the probes of its initiator's die: `payload` bytes, response or request, latency in SVC cycles
(R411, R412). -/
def State.probe (s : State) (q : MemReq) (tgt : Nat) (rsp : Option Rsp) (lat : Nat) : State :=
  if !q.service then s
  else
    let d := iniDie q.ini
    let b := nocB d
    let a := q.addr.toNat
    let code := match rsp with
      | some r => rspCode r
      | none => opCode q.op
    let payload := match rsp with
      | some (.data _ _) => q.len
      | some _ => 0
      | none => if isWrite q.op then q.len else 0
    let pois := match rsp with
      | some r => rspPoison r
      | none => q.pois.toNat
    let hits := (List.range 8).filter fun p =>
      let c := b + p * 64
      let dir := s.rd c NP_CFG.DIR
      s.on c NP_CFG.EN && (dir == 2 || dir == (if rsp.isSome then 1 else 0)) && s.bit c NP_CFG.OPMASK code &&
      (iniId q.ini &&& s.rd c NP_INIT.MASK) == (s.rd c NP_INIT.VAL &&& s.rd c NP_INIT.MASK) &&
      (tgt &&& s.rd c NP_TGT.MASK) == (s.rd c NP_TGT.VAL &&& s.rd c NP_TGT.MASK) &&
      s.rd2 c NP_ALO_LO.V NP_ALO_HI.V ≤ a && a ≤ s.rd2 c NP_AHI_LO.V NP_AHI_HI.V
    let s := s.each hits fun p s =>
      (s.count (b + p * 64) NP_CNT.V).count2 (b + p * 64) NP_BYTES_LO.V NP_BYTES_HI.V payload
    let traced := if s.on b NT_CTL.EN then hits.filter fun p => s.on (b + p * 64) NP_CFG.TRACE else []
    let t := s.tick d
    let st := match q.site with
      | some n => n.val * 2 ^ 8 + 2 ^ 12
      | none => 0
    let s := s.each (traced.take 2) fun p s => s.traceRecord d
      [t % 2 ^ 32, t / 2 ^ 32, a % 2 ^ 32,
       a / 2 ^ 32 + iniId q.ini * 2 ^ 8 + tgt * 2 ^ 16 + code * 2 ^ 26,
       payload + (if rsp.isSome then 2 ^ 7 else 0) + st + p * 2 ^ 13 +
         (match rsp with
          | some r => rspStatus r * 2 ^ 16
          | none => 0) + pois * 2 ^ 20,
       lat, 0, 0]
    s.count b NT_LOST.V (traced.length - 2)

end Sys2Proof.Machine
end

