-- ==== Sys2Proof/Machine/Memory.lean ====
section
/-! DEFINITION. The memories behind a request: DRAM lines with their page-valid map, encryption, check bits and poison
(08_stored_data_integrity.md, 14_memory_ports.md), the on-chip memories, and one request from admission to response. -/
namespace Sys2Proof.Machine

open Sys2Proof (Ini Amo MemOp MemReq)

/-! ## DRAM lines (R260, R266, R267, R273) -/

/-- Byte-map address of port address `pa` of port `m`. -/
def dramAddr (m pa : Nat) : Nat := 0x30000000000 + m * 0x800000000 + pa
/-- Line and page numbers in the maps of State. -/
def lineNo (m line : Nat) : Nat := m * 2 ^ 29 + line
def pageNo (m page : Nat) : Nat := m * 2 ^ 23 + page

/-- Per-port registers of the IME, and the port's ECC group. -/
def imeP (m : Nat) : Nat := imeB (m / 2) + m % 2 * 1024
def mpEg (m : Nat) : Nat := mpB m + 0x400

def State.keyValid (s : State) (m k : Nat) : Bool := s.on (imeP m + k * 4) MI_KINFO.VALID

/-- The keystream of a line (R449); key 0 is none, k + 1 slot k. Counter block `i` covers bytes 16i to 16i + 15. -/
def State.keystream (s : State) (m line key : Nat) : Nat :=
  if key = 0 then 0
  else
    let k := key - 1
    let epoch := s.rd (imeP m + k * 4) MI_KINFO.EPOCH
    (List.range 4).foldr (fun i acc =>
      (Config.aes256 (s.imeKey (m * 16 + k))
        (BitVec.ofNat 128 (epoch * 2 ^ 112 + m * 2 ^ 109 + line * 2 ^ 80 + i))).toNat + 2 ^ 128 * acc) 0

def State.rawLine (s : State) (m line : Nat) : Nat := s.rdMem (dramAddr m (line * 64)) 64

/-- The line holds data: its page is VALID, or FILLING with the line written or filled. -/
def State.lineHeld (s : State) (m line : Nat) : Bool :=
  let p := s.page (pageNo m (line / 64))
  match p.st with
  | .invalid => false
  | .filling => bitAt p.done (line % 64)
  | .valid => true

def State.lineWindow (s : State) (m line : Nat) : Bool := line / 64 == s.rd (mpEg m) EG_WIN.PAGE

/-- What a read finds in a line's check bits: nothing, a correctable error of a device group with the data bits that its correction
flips, an uncorrectable one, stored poison. -/
inductive LineState where
  | clean
  | ce (group fix : Nat)
  | ue
  | poison
  deriving DecidableEq, Repr

/-- The device groups that carry the check bits set in `y` (R260). -/
def checkGroups (y : Nat) : List Nat :=
  (List.range 10).filter fun g => (List.range 128).any fun i => bitAt y i && decide ((Config.checkGroup i).val = g)

/-- The difference of a line's stored check bits from its data's own: the poison pattern, diagnostic flips, both (R260, R273). -/
def State.lineDiff (s : State) (m line : Nat) : Nat :=
  s.lineSyn (lineNo m line) ^^^ (if s.linePoison (lineNo m line) then Config.poisonPattern.toNat else 0)

/-- The decoding of a line (R260): an error of check bits in one device group is corrected there, one in two groups is detected, and
what more groups decode to is open. -/
def State.lineState (s : State) (m line : Nat) : LineState :=
  let y := s.lineDiff m line
  if s.lineSyn (lineNo m line) = 0 then (if s.linePoison (lineNo m line) then .poison else .clean)
  else if y = Config.poisonPattern.toNat then .poison
  else
    match checkGroups y with
    | [] => .clean
    | [g] => .ce g 0
    | [_, _] => .ue
    | _ =>
      match Config.wideError (BitVec.ofNat 128 y) with
      | some (g, fix) => .ce g fix.toNat
      | none => .ue

/-- Data and poison that a read of a line returns under a key (R261, R266, R267, R273). -/
def State.seeLine (s : State) (m line key : Nat) : Nat × Bool :=
  if !s.lineHeld m line then (0, false)
  else
    let d := s.rawLine m line ^^^ s.keystream m line key
    if s.on (mpEg m) EG_CTL.RAW && s.lineWindow m line then (d, false)
    else
      match s.lineState m line with
      | .clean => (d, false)
      | .ce _ fix => (d ^^^ fix, false)
      | .ue | .poison => (d, true)

/-- The local address of a port address: the interleave, else the lowest enabled window that holds it. -/
def State.localOf (s : State) (m pa : Nat) : Nat :=
  if pa < s.rd (mpB 0) MP_IL.ILSIZE * 2 ^ 30 then (pa / 4096 * 8 + m) * 4096 + pa % 4096
  else
    match (List.range 8).find? fun k =>
        let b := mpB 0 + k * 16
        let lo := s.rd b MW_PBASE.PBASE * 2 ^ 30
        s.on b MW_CFG.EN && s.rd b MW_CFG.PORT == m && lo ≤ pa && pa < lo + s.rd b MW_CFG.SIZE * 2 ^ 30 with
    | some k =>
      let b := mpB 0 + k * 16
      s.rd b MW_CFG.BASE * 2 ^ 30 + (pa - s.rd b MW_PBASE.PBASE * 2 ^ 30)
    | none => pa

/-- What a read of a line counts, the read half of a partial write or an atomic among them, and the check bits that a raw read over the
NoC latches (R261, R273). -/
def State.countLine (s : State) (m line : Nat) (noc : Bool := true) : State :=
  let g := mpEg m
  if !s.lineHeld m line then s
  else if s.on g EG_CTL.RAW && s.lineWindow m line then
    let c := (Config.lineCheck (BitVec.ofNat 512 (s.rawLine m line))).toNat ^^^ s.lineDiff m line
    if noc then s.each (List.range 4) fun i s => s.wr (g + i * 4) EG_RAW.V (bits c (32 * i) 32) else s
  else
    match s.lineState m line with
    | .clean => s
    | .ce k _ => s.egEvent g 0 k (s.localOf m (line * 64))
    | .ue => s.egEvent g 1 0xFF (s.localOf m (line * 64))
    | .poison => s.egEvent g 2 0xFF (s.localOf m (line * 64))

/-- The lines of the mask of a page count as written; the last one makes the page VALID (R267). -/
def State.markLine (s : State) (m line key : Nat) : State :=
  let n := pageNo m (line / 64)
  let p := s.page n
  match p.st with
  | .valid => s
  | st =>
    let done := putBit (if st = .invalid then 0 else p.done) (line % 64) true
    if done = 2 ^ 64 - 1 then s.setPage n { st := .valid }
    else if st = .invalid then s.setPage n { st := .filling, done := done, key := key, lost := key ≠ 0 && !s.keyValid m (key - 1) }
    else s.setPage n { p with done := done }

/-- Pages of a port that are FILLING: EG_FILL.ACTIVE (R268). -/
def State.filling (s : State) (m : Nat) : Nat :=
  ((KV.range (pageNo m 0) (pageNo (m + 1) 0) s.pages).filter fun e => decide (e.2.st = .filling)).length

/-- A key slot becomes invalid: the fills under it go on as poison (R269). -/
def State.fillsLost (s : State) (m k : Nat) : State :=
  { s with pages := s.pages.map fun e =>
      if e.1 / 2 ^ 23 = m ∧ e.2.st = .filling ∧ e.2.key = k + 1 then (e.1, { e.2 with lost := true }) else e }

/-- Stores a whole line under a key, as poison or clean, with the diagnostic flip of its check bits (R271, R273). -/
def State.putLine (s : State) (m line key data : Nat) (poison : Bool) : State :=
  let g := mpEg m
  let flip := if s.on g EG_CTL.DIAG && s.lineWindow m line then
      (List.range 4).foldr (fun i acc => s.rd (g + i * 4) EG_FLIP.V + 2 ^ 32 * acc) 0 else 0
  let s := (s.wrMem (dramAddr m (line * 64)) 64 (data ^^^ s.keystream m line key)).breakResv (dramAddr m (line * 64) / 64)
  ((s.setLineSyn (lineNo m line) flip).setLinePoison (lineNo m line) poison).markLine m line key

/-- One fill line of a FILLING page: zero under the page's key, poison with source 73 when that key slot has been invalid since (R269,
R455). -/
def State.fillLine (s : State) (m line : Nat) : State :=
  let p := s.page (pageNo m (line / 64))
  if p.st = .filling ∧ !bitAt p.done (line % 64) then
    (if p.lost then s.raise (m / 2) 73 none m else s).putLine m line (if p.lost then 0 else p.key) 0 p.lost
  else s

/-- A write to `line` would start a 65th fill (R268). -/
def State.fillBlocked (s : State) (m line : Nat) : Bool :=
  decide ((s.page (pageNo m (line / 64))).st = .invalid) && 64 ≤ s.filling m

/-- One fill of the port runs to its end: the lowest FILLING page. -/
def State.endOneFill (s : State) (m : Nat) : State :=
  match s.pages.find? fun e => e.1 / 2 ^ 23 == m && decide (e.2.st = .filling) with
  | some e => s.each (List.range 64) fun i s => s.fillLine m (e.1 % 2 ^ 23 * 64 + i)
  | none => s

/-! ## Encryption ranges (R448, R454, R455) -/

/-- The lowest enabled range of a port that holds a page. -/
def State.imeRange (s : State) (m page : Nat) : Option Nat :=
  (List.range 8).find? fun r =>
    let b := imeP m + r * 16
    s.on b MI_RCFG.EN && s.rd b MI_RBASE.V ≤ page && page ≤ s.rd b MI_RLIM.V

/-- The key of a line of a range whose sweep ended ABORTED: NEWKEY below the line where it stopped (R460). -/
def SweepX.stoppedKey (x : SweepX) (r line own : Nat) : Nat :=
  match x.stopped.find? fun e => e.1 == r with
  | some (_, k, next) => if line < next then k else own
  | none => own

/-- The key of a line of a range: NEWKEY below the pointer of its sweep, else KEY. As key slot + 1. -/
def State.rangeKey (s : State) (m r line : Nat) : Nat :=
  let x := s.sweep m
  let own := s.rd (imeP m + r * 16) MI_RCFG.KEY
  1 + (match x.cur with
    | some (r', k) => if r' = r ∧ line < s.rd (imeP m) MI_SWPTR.V then k else x.stoppedKey r line own
    | none => x.stoppedKey r line own)

/-- The key of a line for fills and engines: none or its range's. -/
def State.lineKey (s : State) (m line : Nat) : Nat :=
  match s.imeRange m (line / 64) with
  | some r => s.rangeKey m r line
  | none => 0

/-- A range closed to a request's site (R454). -/
def State.rangeClosed (s : State) (m line : Nat) (q : MemReq) : Bool :=
  match s.imeRange m (line / 64) with
  | none => false
  | some r =>
    let b := imeP m + r * 16
    let free := match q.ini with
      | .pf | .owl _ | .den _ => true
      | _ => false
    s.on b MI_RCFG.SITEV && !free && q.site.map (·.val) != some (s.rd b MI_RCFG.SITE)

/-! ## One request at a memory -/

/-- The new value of an atomic of `n` bytes (RV64A). -/
def amoNew (f : Amo) (n old x : Nat) : Nat :=
  let w := 8 * n
  match f with
  | .swap => x
  | .add => (old + x) % 2 ^ w
  | .xor => old ^^^ x
  | .or => old ||| x
  | .and => old &&& x
  | .min => if sgn w old ≤ sgn w x then old else x
  | .max => if sgn w old ≤ sgn w x then x else old
  | .minu => min old x
  | .maxu => max old x

/-- Bytes of a line that a request writes, and its payload placed in the line. -/
def lineMask (q : MemReq) : Nat :=
  match q.op with
  | .wrp m => m.toNat
  | .aor => 2 ^ 64 - 1
  | _ => (2 ^ q.len - 1) * 2 ^ (q.addr.toNat % 64)
def lineData (q : MemReq) : Nat :=
  match q.op with
  | .wrp _ | .aor => q.data.toNat
  | _ => q.data.toNat % 2 ^ (8 * q.len) * 2 ^ (8 * (q.addr.toNat % 64))

/-- Merges masked bytes of `new` into `old`, both lines of 64 bytes. -/
def mergeBytes (n mask old new : Nat) : Nat :=
  (List.range n).foldl (fun x i => if bitAt mask i then putBits x (8 * i) 8 (bits new (8 * i) 8) else x) old

/-- The part of a line that a read returns, and its poison bits: all of those of a line read with poison. -/
def readPart (q : MemReq) (line : Nat) (p : Bool) : Rsp :=
  .data (bits line (8 * (q.addr.toNat % 64)) (8 * q.len)) (if p then 0xFF else 0)

/-- A request performed by a port on one line under its key (R202, R261, R271, R436). -/
def State.lineOp (s : State) (m line key : Nat) (q : MemReq) : Rsp × State :=
  let (old, oldP) := s.seeLine m line key
  match q.op with
  | .rd => (readPart q old oldP, s.countLine m line)
  | .amo f =>
    let lo := 8 * (q.addr.toNat % 64)
    let v := bits old lo (8 * q.len)
    let new := putBits old lo (8 * q.len) (amoNew f q.len v (q.data.toNat % 2 ^ (8 * q.len)))
    (readPart q old oldP, (s.countLine m line).putLine m line key new (oldP || q.pois != 0))
  | .aor => (.ack, (s.countLine m line false).putLine m line key (old ||| q.data.toNat) (oldP || q.pois != 0))
  | _ =>
    let mask := lineMask q
    if mask = 2 ^ 64 - 1 then (.ack, s.putLine m line key (lineData q) (q.pois != 0))
    else (.ack, (s.countLine m line false).putLine m line key (mergeBytes 64 mask old (lineData q)) (oldP || q.pois != 0))

/-- A request to a port whose key was resolved at its arrival: an invalid key slot answers by itself (R455). -/
def State.portPerform (s : State) (m pa key : Nat) (q : MemReq) : Rsp × State :=
  if key ≠ 0 ∧ !s.keyValid m (key - 1) then
    let s := (s.count (imeP m) MI_CNT_INVK.V).raise (m / 2) 73 (q.site.map (·.val)) m
    (if isWrite q.op then .decode else .data 0 0xFF, s)
  else s.lineOp m (pa / 64) key q

/-! ## A port's DIMM and queue (R431, R434, R440, R447) -/

/-- Bits of the column-line field, by device width (R431 for x4; x8 devices have half the columns: notes/assumptions/25.md). -/
def State.colBits (s : State) (m : Nat) : Nat := if s.on (mpB m) MP_DIMM.WIDTH then 6 else 7
def State.ranks (s : State) (m : Nat) : Nat := max 1 (s.rd (mpB m) MP_DIMM.RANKS)

/-- Subchannel and bank group, bank, rank, row of a port address (R431). -/
def State.bankOf (s : State) (m pa : Nat) : Nat × Nat × Nat :=
  let c := s.colBits m
  let rk := if s.ranks m = 2 then bits pa (12 + c) 1 else 0
  (bits pa 6 4, bits pa (10 + c) 2, rk)
def State.rowOf (s : State) (m pa : Nat) : Nat := pa / 2 ^ (12 + s.colBits m + (if s.ranks m = 2 then 1 else 0))
/-- The number of an address's bank among the open rows, and of its bank set. -/
def State.bankNo (s : State) (m pa : Nat) : Nat :=
  let (g, b, r) := s.bankOf m pa
  r * 64 + b * 16 + g
def State.setNo (s : State) (m pa : Nat) : Nat :=
  let (_, b, r) := s.bankOf m pa
  r * 4 + b
def State.rowHit (s : State) (m pa : Nat) : Bool :=
  KV.get 0 (s.bankNo m pa) (s.port m).rows == s.rowOf m pa + 1

/-- SITE_INFLIGHT.MEM of a site: its accepted requests on all ports (R447). -/
def State.memInflight (s : State) (st : Nat) : State :=
  let n := ((List.range 8).map fun m =>
    (((s.port m).queue ++ (s.port m).waits).filter fun e => e.req.site.map (·.val) == some st).length).sum
  s.wr (siteB st) SITE_INFLIGHT.MEM n
def State.inflightOf (s : State) (q : MemReq) : State :=
  match q.site with
  | some st => s.memInflight st
  | none => s

/-- Sets the response of a flight. -/
def State.answer (s : State) (id : Nat) (r : Rsp) : State :=
  { s with flights := s.flights.map fun f => if f.id = id then { f with rsp := some r } else f }

/-- An entry's age at the port in quarters of a nanosecond, and its slot's target in them (R437, R440). -/
def State.ageOf (s : State) (e : MpReq) : Nat := s.now - e.at_
def State.target (s : State) (m slot : Nat) : Nat := 4 * s.rd (mpB m + slot * 4) MQ_CFG.TARGET

/-- An entry is performed: its row opens, its response is set, one older than its slot's TARGET advances MQ_MISS (R440). -/
def State.perform (s : State) (m : Nat) (e : MpReq) : State :=
  let s := s.setPort m { s.port m with rows := KV.put (s.bankNo m e.pa) (s.rowOf m e.pa + 1) (s.port m).rows }
  let (r, s) := s.portPerform m e.pa e.key e.req
  let s := if s.target m e.slot < s.ageOf e then s.count (mpB m + e.slot * 4) MQ_MISS.V else s
  (s.answer e.id r).inflightOf e.req

/-- Two requests are of one source: one initiator ID in one class (R434). -/
def sameSource (a b : MemReq) : Bool := iniId a.ini == iniId b.ini && a.service == b.service

/-- Every entry of a port's queue and of its waiting writes that is of the source of `q` is performed, in order: a request of that source
is performed after it (R434); a write that needs a fill slot first lets a fill end (R268). -/
def State.sourceFirst (s : State) (m : Nat) (q : MemReq) : State :=
  let x := s.port m
  let own := fun (e : MpReq) => sameSource e.req q
  let s := s.setPort m { x with queue := x.queue.filter fun e => !own e, waits := x.waits.filter fun e => !own e }
  s.each ((x.queue ++ x.waits).filter own) fun e s =>
    (if isWrite e.req.op && s.fillBlocked m (e.pa / 64) then s.endOneFill m else s).perform m e

/-- A word of an on-chip memory merged under an atomic or a line-OR, else a plain read or write (R250, R264, R271). -/
def State.chipOp (s : State) (q : MemReq) : Rsp × State :=
  let a := q.addr.toNat
  let base := a / 64 * 64
  match q.op with
  | .rd => (.data (s.seeChip a q.len).1 (s.chipPois a q.len), s.countChip a q.len)
  | .amo f =>
    let (v, p) := s.seeChip a q.len
    (.data v (s.chipPois a q.len),
      (s.countChip a q.len).writeChip a q.len (amoNew f q.len v (q.data.toNat % 2 ^ (8 * q.len))) (p || q.pois != 0) false)
  | .aor =>
    let (v, _) := s.seeChip base 64
    (.ack, s.each (List.range 8) fun i s =>
      (s.readWord (base / 8 + i) false).writeWord (base / 8 + i) (bits (v ||| q.data.toNat) (64 * i) 64) 255
        (bitAt q.pois.toNat i || (s.seeWord (base / 8 + i)).2))
  | _ =>
    let mask := lineMask q
    let data := lineData q
    (.ack, s.each (List.range 8) fun i s =>
      if bits mask (8 * i) 8 = 0 then s
      else s.writeWord (base / 8 + i) (bits data (64 * i) 64) (bits mask (8 * i) 8) (bitAt q.pois.toNat i))

/-! ## Admission (R41, R49, R127, R399, R407 to R409) -/

/-- An initiator's request as it is admitted: to a target over a route and back, or answered at once, with the fault source that
the answer raises. -/
inductive Adm where
  | go (t : Target) (out back : List Nat)
  | no (r : Rsp) (fault : Option Nat)
  deriving DecidableEq, Repr

/-- A crossing link carries packets: the NoC bundles of both its directions are UP or DEGRADED (R394, R407). -/
def State.torusLinkUp (s : State) (n : Nat) : Bool :=
  let j := n / 16
  2 ≤ s.bundleState j 0 (n % 16) && 2 ≤ s.bundleState ((j + 1) % 4) 1 (n % 16)
def State.torusLinkDown (s : State) (n : Nat) : Bool :=
  let j := n / 16
  s.bundleState j 0 (n % 16) == 0 || s.bundleState ((j + 1) % 4) 1 (n % 16) == 0

/-- The address lies in the site's DRAM window (R124). -/
def State.inSiteWindow (s : State) (st a : Nat) : Bool :=
  s.rd (siteB st) SITE_DBASE.GRAN * 4096 ≤ a && a < (s.rd (siteB st) SITE_DLIM.GRAN + 1) * 4096

/-- A tagged request leaves its site's window: a DRAM access outside it; of the initiators other than SPs and SACs any access to a
memory, register or device outside it (R124, R362, R493; notes/assumptions/37.md). -/
def State.outsideWindow (s : State) (q : MemReq) (t : Target) : Bool :=
  match q.site, t with
  | none, _ | some _, .fabric _ => false
  | some st, .dram _ _ => !s.inSiteWindow st q.addr.toNat
  | some st, t =>
    match q.ini, t with
    | .sp _, _ | .sac _, _ => false
    | _, .egress _ => true
    | _, _ => !s.inSiteWindow st q.addr.toNat

/-- The function an access needs is ready on the die that serves it (R49). -/
def State.targetReady (s : State) (ini : Ini) (t : Target) (a : Nat) : Bool :=
  match t with
  | .dram m _ => s.ready (m / 2) (rdyMP (m % 2))
  | .store r | .fabric r => s.ready (r / 64) rdyCKP
  | .sett d => s.ready d rdySETT
  | .mem d => (match ini with
    | .owl _ => true
    | _ => if a % 0x1000000 < 0x400000 then s.ready d rdySP else s.ready d rdySAC)
  | .regs d => s.reachable (iniDie ini) d
  | .egress _ | .nothing => true

/-- A region's store blocks answer the NoC: port B unused, shared, or the region fenced (R251). -/
def State.storeAnswers (s : State) (a : Nat) : Bool :=
  let r := (a - 0x4000000000) / 0x200000
  let x := s.storePort (r * 32 + (a - 0x4000000000) % 0x200000 / 0x10000)
  !x.usedB || x.share || s.on (frB r) FR_STAT.FENCED

/-- The address range of a request's target refuses it by itself: a write to Sett, a store block whose port B is the fabric's, a
port address beyond the usable size, a message to a fenced or unused port (R41, R251, R252, R400, R431). -/
def State.targetRefuses (s : State) (q : MemReq) (t : Target) : Bool :=
  match t with
  | .nothing => true
  | .dram m pa => s.rd (mpB m) MP_DIMM.SIZE * 2 ^ 30 ≤ pa
  | .store _ => !s.storeAnswers q.addr.toNat
  | .sett _ => isWrite q.op
  | .fabric r => s.on (frB r) FR_STAT.FENCED || !(s.region r).noc
  | .mem _ | .regs _ | .egress _ => false

/-- The request is tagged with a site in reset: it is discarded on arrival (R127). -/
def State.purging (s : State) (q : MemReq) : Bool :=
  match q.site with
  | some st => s.siteState st == siteRESETTING
  | none => false

/-- The fabric NoC port of a fenced region issues nothing (R252). -/
def State.silent (s : State) (i : Ini) : Bool :=
  match i with
  | .fabric r => s.on (frB r) FR_STAT.FENCED
  | _ => false

/-- Whether and how a request is admitted; the memories of a die in die reset answer DECODE without a fault (R513). The checks come in
this order, which the spec does not state for a request that fails several: a write to the Sett mapping while SETT = 0 answers DECODE
without the fault of R41 (notes/assumptions/97.md). -/
def State.admission (s : State) (q : MemReq) : Adm :=
  let a := q.addr.toNat
  let d := iniDie q.ini
  let t := s.reqTarget q
  let remote := match t with
    | .egress _ => true
    | _ => false
  if s.purging q then .no .decode none
  else if !remote && s.denied q then .no .denied (some 81)
  else if t = .nothing then .no .decode (some 80)
  else if s.on (dctlB (targetId t / 256)) DCTL_DRST.BUSY && (match t with
      | .regs _ => false
      | _ => true) then .no .decode none
  else if s.outsideWindow q t then .no .decode (some 53)
  else if !s.targetReady q.ini t a then .no .decode none
  else if s.targetRefuses q t then .no .decode (some 80)
  else
    match t with
    | .regs _ => .go t [] []
    | _ =>
      match s.nocRoute d (iniXY q.ini) (targetXY t), s.nocRoute d (targetXY t) (iniXY q.ini) with
      | some out, some back =>
        if (out ++ back).all s.torusLinkUp then .go t out back
        else if (out ++ back).any s.torusLinkDown then .no .link (some 82)
        else .no .decode none
      | _, _ => .no .link (some 82)

/-- A request that a site reset discards is counted by the engine that sends it, and at its port (R126, R127, R224, R362, R447, R495). -/
def State.purged (s : State) (q : MemReq) (t : Target) : State :=
  match q.site with
  | none => s
  | some st =>
    let s := match t with
      | .dram m _ => s.count (mpB m + st.val * 4) MP_PURGED.V
      | _ => s
    match q.ini, t with
    | .dma c, _ => s.count (dmaB c) DMA_PURGED.V
    | .sac c, _ => s.count (sacB c) SAC_PURGED.V
    | .rae r, .dram _ _ => s.count (raeB r + st.val * 4) RAE_PURGED.V
    | _, _ => s

/-- The count and the fault of a request that is not admitted, one of a resetting site as purged (R127). -/
def State.refused (s : State) (q : MemReq) (r : Rsp) (fault : Option Nat) : State :=
  let d := iniDie q.ini
  let s := match r with
    | .denied => s.count (nocB d) NOC_CNT_DENY.V
    | .link => s.count (nocB d) NOC_CNT_LINK.V
    | _ => s
  let s := if s.purging q then s.purged q (s.reqTarget q) else s
  match fault with
  | some src => s.raise d src (q.site.map (·.val)) d
  | none => s

/-- The SAC whose program memory holds an address (R43). -/
def sacOfPm (a : Nat) : Option Nat :=
  let o := (a - 0x4200000000) % 0x1000000
  if 0x4200000000 ≤ a ∧ a < 0x4204000000 ∧ 0x800000 ≤ o ∧ o < 0xC00000 ∧ (o - 0x800000) % 0x40000 < 0x8000 then
    some ((a - 0x4200000000) / 0x1000000 * 16 + (o - 0x800000) / 0x40000)
  else none

/-- A write to the program memory of a SAC that is neither in RESET nor HALTED (R330). -/
def State.pmClosed (s : State) (q : MemReq) : Option Nat :=
  match sacOfPm q.addr.toNat with
  | some c => if isWrite q.op && s.rd (sacB c) SAC_STAT.STATE != 0 && s.rd (sacB c) SAC_STAT.STATE != 3 then some c else none
  | none => none

/-- A block is gated, or its domain stopped; under a held claim Den accesses are served through gating and Doze, which are then
emulated (R392, R503, R504). -/
def State.gatedAt (s : State) (ini : Ini) (d j n dom : Nat) : Bool :=
  let emulated := match ini with
    | .den _ => s.on (denB d) DEN_CLAIM.HELD
    | _ => false
  !emulated && !bitAt (s.rd (ckpB d) (gstFld j)) n || s.domStopped d dom && !(emulated && !s.domEn d dom)

/-- The memory behind a request is gated: it reads zero and drops writes, without a trace (R503, R559). -/
def State.memGated (s : State) (q : MemReq) (t : Target) : Bool :=
  let o := q.addr.toNat % 0x1000000
  match t with
  | .dram m _ => s.gatedAt q.ini (m / 2) 0 (4 + m % 2) (5 + m % 2)
  | .sett d => s.gatedAt q.ini d 0 2 2
  | .mem d =>
    if o < 0x400000 then s.gatedAt q.ini d 0 (16 + o / 0x100000) 3
    else s.gatedAt q.ini d 1 ((o - 0x800000) / 0x40000) 4
  | .store _ | .regs _ | .fabric _ | .egress _ | .nothing => false
def gatedRsp (q : MemReq) : Rsp :=
  match q.op with
  | .rd | .amo _ => .data 0 0
  | _ => .ack

/-! ## Sett's lines (R304) -/

/-- STC_STAT.REFRESH: refresh work of the die is queued or running. -/
def State.settRefresh (s : State) (d : Nat) : State :=
  let x := s.sett d
  let isR := fun (r : SettReq) => match r with
    | .refresh _ => true
    | _ => false
  s.wrb (stcB d) STC_STAT.REFRESH (!x.due.isEmpty || x.queue.any isR || (match x.cur with
    | some c => isR c.req
    | none => false))

/-- Lines of Sett with errors that their code corrects, and with errors beyond it, among the lines of `n` bytes at offset `o`. -/
def State.settErrs (s : State) (d o n : Nat) : List (Nat × Nat) :=
  if n = 0 then [] else KV.range (o / 64) ((o + n - 1) / 64 + 1) (s.sett d).lineErr
/-- A command that reads Sett meets bit errors in lines that had none, or other numbers of them (R304; notes/assumptions/102.md). -/
def State.settMeets (s : State) (d : Nat) (errs : List (Fin 2097152 × Nat)) : State :=
  s.setSett d { s.sett d with lineErr := errs.foldl (fun m e => KV.set 0 e.1.val e.2 m) (s.sett d).lineErr }
/-- A read of Sett finds an uncorrectable line. -/
def State.settBad (s : State) (d o n : Nat) : Bool := (s.settErrs d o n).any fun e => decide (4 < e.2)

/-- What a read of Sett leaves: the block of a corrected line is queued for retention refresh, an uncorrectable line raises source 24. -/
def State.settRead (s : State) (d o n : Nat) : State :=
  s.each (s.settErrs d o n) fun e s =>
    if 4 < e.2 then s.raise d 24 none d
    else
      let x := s.sett d
      if x.due.contains (e.1 / 1024) then s
      else (s.setSett d { x with due := x.due ++ [e.1 / 1024] }).settRefresh d

/-- A read of the Sett mapping: an uncorrectable line reads with poison. -/
def State.settServe (s : State) (d : Nat) (q : MemReq) : Rsp × State :=
  let o := (q.addr.toNat - 0x4100000000) % 0x8000000
  (.data (s.rdMem q.addr.toNat q.len) (if s.settBad d o q.len then 0xFF else 0), s.settRead d o q.len)

/-- The request at its target (all but registers, whose bridge is Machine/Bus.lean): a DRAM line with the key of its arrival; a
write that would start a 65th fill first lets a fill end and counts the wait (R268). -/
def State.serve (s : State) (q : MemReq) (t : Target) : Rsp × State :=
  if s.memGated q t then (gatedRsp q, s) else
  match t with
  | .dram m pa =>
    if s.rangeClosed m (pa / 64) q then
      (.decode, (s.count (imeP m) MI_CNT_SITE.V).raise (iniDie q.ini) 80 (q.site.map (·.val)) (iniDie q.ini))
    else
      let s := s.sourceFirst m q
      let s := if isWrite q.op && s.fillBlocked m (pa / 64) then
          (s.count (mpB m) EG_FILLWAIT.V).endOneFill m else s
      s.portPerform m pa (s.lineKey m (pa / 64)) q
  | .store _ => s.chipOp q
  | .mem _ =>
    match s.pmClosed q with
    | some c => (.decode, s.wr (sacB c) SAC_STAT.PMREJ 1)
    | none => s.chipOp q
  | .sett d => s.settServe d q
  | .fabric r => (.ack, s.setRegion r { s.region r with msg := some (q.data.toNat % 2 ^ (8 * q.len), q.pois.toNat) })
  | .regs _ | .egress _ | .nothing => (.decode, s)

/-- A whole request of an engine, admitted, performed and answered within the engine's own command: response and what it leaves
in memory, counters, statistics and probes. The latency of the answer is open here (timing is not modelled). -/
def State.request (s : State) (q : MemReq) : Rsp × State :=
  match s.admission q with
  | .no r fault => (r, s.refused q r fault)
  | .go t _ _ =>
    let s := s.probe q (targetId t) none 0
    let (r, s) := s.serve q t
    let ns := s.free 20
    let s := s.drew
    (r, (s.nsCount q (rspOk r) ns).probe q (targetId t) (some r) ns)

/-! ## Transfers of engines -/

/-- The line packets of a transfer of `n` bytes at `a`: address and length (R558). -/
def packets (a n : Nat) : List (Nat × Nat) :=
  (List.range ((a + n + 63) / 64 - a / 64)).map fun i =>
    let lo := max a ((a / 64 + i) * 64)
    let hi := min (a + n) ((a / 64 + i + 1) * 64)
    (lo, hi - lo)

/-- Who transfers: initiator, class, site tag. -/
structure Who where
  ini : Ini
  service : Bool
  site : Option (Fin 16)
  deriving DecidableEq, Repr

/-- What a transfer read: bytes, the poison that each carried, the first error. -/
structure Got where
  data : List Byte
  pois : List Bool
  err : Option Rsp
  deriving DecidableEq, Repr

/-- Some of the bytes carried poison. -/
def Got.poison (g : Got) : Bool := g.pois.any id

/-- The poison of the `n` bytes at `a` under the poison bits of their line, and the poison bits that a packet's bytes need (R270). -/
def spreadPois (a n p : Nat) : List Bool := (List.range n).map fun j => bitAt p ((a + j) % 64 / 8)
def gatherPois (a : Nat) (pois : List Bool) : Nat :=
  ((List.range 8).filter fun i => (List.range pois.length).any fun j => (a + j) % 64 / 8 == i && pois.getD j false).foldl
    (fun m i => m + 2 ^ i) 0

/-- A response's part in what a transfer reads. -/
def Got.after (r : Rsp) (a n : Nat) (g : Got) : Got :=
  match r with
  | .data v p => ⟨leBytes n v ++ g.data, spreadPois a n p ++ g.pois, g.err⟩
  | e => ⟨leBytes n 0 ++ g.data, List.replicate n false ++ g.pois, some e⟩

/-- Reads `n` bytes at local address `a`, packet by packet; the others are still read when one ends in an error. -/
def State.getPackets (s : State) (w : Who) : List (Nat × Nat) → Got × State
  | [] => (⟨[], [], none⟩, s)
  | (a, n) :: ps =>
    let (r, s) := s.request ⟨w.ini, w.service, w.site, .rd, BitVec.ofNat 40 a, n, 0, 0, none⟩
    let (g, s) := s.getPackets w ps
    (g.after r a n, s)
def State.getBytes (s : State) (w : Who) (a n : Nat) : Got × State := s.getPackets w (packets a n)

/-- Writes bytes, each with its poison, at local address `a`, packet by packet: the first error, and the state. -/
def State.putPackets (s : State) (w : Who) (pois : List Bool) (data : List Byte) : List (Nat × Nat) → Option Rsp × State
  | [] => (none, s)
  | (a, n) :: ps =>
    let (r, s) := s.request ⟨w.ini, w.service, w.site, .wr, BitVec.ofNat 40 a, n, BitVec.ofNat 512 (leVal (data.take n)),
      BitVec.ofNat 8 (gatherPois a (pois.take n)), none⟩
    let (e, s) := s.putPackets w (pois.drop n) (data.drop n) ps
    (if rspOk r then e else some r, s)
def State.storeBytes (s : State) (w : Who) (a : Nat) (data : List Byte) (poison : Bool) : Option Rsp × State :=
  s.putPackets w (if poison then List.replicate data.length true else []) data (packets a data.length)

/-- One atomic line-OR of an engine (R202). -/
def State.lineOr (s : State) (w : Who) (a data : Nat) (poison : Bool) : Option Rsp × State :=
  let (r, s) := s.request ⟨w.ini, w.service, w.site, .aor, BitVec.ofNat 40 (a / 64 * 64), 64, BitVec.ofNat 512 data,
    if poison then 0xFF else 0, none⟩
  (if rspOk r then none else some r, s)

end Sys2Proof.Machine
end

