-- ==== Sys2Proof/Machine/Mp.lean ====
section
/-! DEFINITION. Memory ports and inline encryption (14_memory_ports.md), and the ECC groups' commands (08_stored_data_integrity.md
R265): the port's queue and scheduler, refresh, page fills, training, key commands and rekey sweeps. -/
namespace Sys2Proof.Machine

open Sys2Proof (Ini Amo MemOp MemReq EGroup DimmEnd)

/-! ## ECC groups (08_stored_data_integrity.md, Register map) -/

/-- Where a group's registers lie, and the block that holds them. -/
def egBase (g : EGroup) : Nat :=
  match g with
  | .store r => cfeB (r / 64) + 0x10040 + r % 64 * 0x100
  | .mp m => mpEg m
  | .tcm n => spcB (n / 4) + 0x800 + n % 4 * 0x60
  | .sacPm c => sacB c + 0x800
  | .sacDm c => sacB c + 0x860
  | .ls p => psqB p + 0x800
  | .owl d => dctlB d + 0x800

def egBlk (g : EGroup) : Blk × Nat × Nat :=
  match g with
  | .store r => (.cfe, r / 64, 0)
  | .mp m => (.mp, m / 2, m % 2)
  | .tcm n => (.spc, n / 4, 0)
  | .sacPm c | .sacDm c => (.sac, c / 16, c % 16)
  | .ls p => (.psq, p / 4, p % 4)
  | .owl d => (.dctl, d, 0)

/-- First address and size of an on-chip group's memory. -/
def egMem (g : EGroup) : Nat × Nat :=
  match g with
  | .store r => (storeAddr r, 0x200000)
  | .mp _ => (0, 0x800000000)
  | .tcm n => (tcmAddr n, 0x100000)
  | .sacPm c => (sacPmAddr c, 0x8000)
  | .sacDm c => (sacDmAddr c 0, 0x20000)
  | .ls p => (lsAddr p, 0x100000)
  | .owl d => (owlAddr d, 0x180000)

/-- Pages `[lo, hi)` of a port become INVALID; the fills among them end (R265, R267). -/
def State.invalidatePages (s : State) (m lo hi : Nat) : State :=
  { s with
    pages := KV.dropRange (pageNo m lo) (pageNo m hi) s.pages
    linePsn := KV.dropRange (lineNo m (lo * 64)) (lineNo m (hi * 64)) s.linePsn
    lineChk := KV.dropRange (lineNo m (lo * 64)) (lineNo m (hi * 64)) s.lineChk }

/-- Every access admitted to a group's memory before an invalidate completes against the old contents (R265): of a port, what it has
queued, then the requests on their way, oldest first; of an on-chip memory the requests on their way. -/
def State.settleGroup (s : State) (g : EGroup) : State :=
  let (a, n) := egMem g
  let s := match g with
    | .mp m =>
      let x := s.port m
      let s := s.setPort m { x with queue := [], waits := [] }
      s.each (x.queue ++ x.waits) fun e s =>
        let (r, s) := s.portPerform m e.pa e.key e.req
        s.answer e.id r
    | _ => s
  let held := (List.range 8).flatMap fun m => ((s.port m).queue ++ (s.port m).waits).map (·.id)
  s.each (s.flights.filter fun f => f.rsp.isNone && !held.contains f.id && (match g, f.dst with
      | .mp m, .dram k _ => m.val == k
      | .store r, .store k => r.val == k
      | .store _, _ | .mp _, _ | .ls _, _ => false
      | _, .mem _ => a ≤ f.req.addr.toNat && f.req.addr.toNat < a + n
      | _, _ => false)) fun f s =>
    let (r, s) := s.serve f.req f.dst
    s.answer f.id r

/-- EG_CTL.INV: the named pages, or all, read as zero for every access admitted from now on; ignored with COMMIT_ERR while a sweep runs
(R265). -/
def State.egInv (s : State) (g : EGroup) : State :=
  let b := egBase g
  let (k, d, i) := egBlk g
  if s.on b EG_STAT.INVBUSY then s.commitErr (k.base d i)
  else
    let (a, n) := egMem g
    let cnt := s.rd b EG_ICNT.V
    let lo := if cnt = 0 then 0 else s.rd b EG_IBASE.V
    let hi := if cnt = 0 then n / 4096 else min (n / 4096) (s.rd b EG_IBASE.V + cnt)
    let s := (s.settleGroup g).wr b EG_STAT.INVBUSY 1
    match g with
    | .mp m => s.invalidatePages m lo hi
    | _ => s.invalidateChip (a + lo * 4096) (a + hi * 4096)

def execEgInv (g : EGroup) (s : State) : Out :=
  .next (s.atBlock (egBlk g).1 (egBlk g).2.1 (egBlk g).2.2 fun s => s.egInv g)

/-- The sweep ends: INVBUSY = 0 (R265). -/
def execInvSweepDone (g : EGroup) (s : State) : Out := .next (s.wr (egBase g) EG_STAT.INVBUSY 0)

/-- EG_CNT_CLR: bits clear CE, UE, PSN. -/
def State.egCntClr (s : State) (g : EGroup) (v : Word) : State :=
  let b := egBase g
  let (k, d, i) := egBlk g
  let s := s.rsvBits (k.base d i) 7 v.toNat
  let s := if bitAt v.toNat 0 then s.wr b EG_CNT_CE.V 0 else s
  let s := if bitAt v.toNat 1 then s.wr b EG_CNT_UE.V 0 else s
  if bitAt v.toNat 2 then s.wr b EG_CNT_PSN.V 0 else s

def execEgCntClr (g : EGroup) (v : Word) (s : State) : Out :=
  .next (s.atBlock (egBlk g).1 (egBlk g).2.1 (egBlk g).2.2 fun s => s.egCntClr g v)

/-! ## Bank sets (R441) -/

def State.bankSets (s : State) (m : Nat) : List Nat := List.range (4 * s.ranks m)
def State.debt (s : State) (m set : Nat) : Nat := KV.get 0 set (s.port m).debts
/-- MR_STAT follows the debts and the sets in catch-up. -/
def State.refreshStat (s : State) (m : Nat) : State :=
  let s := s.wrb (mpB m) MR_STAT.CATCHUP (!(s.port m).catchup.isEmpty)
  s.wr (mpB m) MR_STAT.DMAX ((s.bankSets m).foldl (fun d b => max d (s.debt m b)) 0)

/-! ## The port's queue (R434 to R440, R447, R448) -/

/-- The QoS slot of an initiator at a port (R437). -/
def State.slotOf (s : State) (m : Nat) (q : MemReq) : Nat :=
  let l := iniLocal q.ini
  let f := [MQ_MAP.S0, MQ_MAP.S1, MQ_MAP.S2, MQ_MAP.S3, MQ_MAP.S4, MQ_MAP.S5, MQ_MAP.S6, MQ_MAP.S7].getD (l % 8) MQ_MAP.S0
  s.rd (mpB m + l / 8 * 4) f

/-- A slot is under panic: PAN and an asserted panic of a group mapped to it (R439). -/
def State.slotPanic (s : State) (m slot : Nat) : Bool :=
  s.on (mpB m + slot * 4) MQ_CFG.PAN && s.panics.any fun id =>
    s.rd (mpB m + id % 64 / 8 * 4)
      ([MQ_MAP.S0, MQ_MAP.S1, MQ_MAP.S2, MQ_MAP.S3, MQ_MAP.S4, MQ_MAP.S5, MQ_MAP.S6, MQ_MAP.S7].getD (id % 8) MQ_MAP.S0) == slot
def State.urgency (s : State) (m : Nat) (e : MpReq) : Nat := if s.slotPanic m e.slot then 3 else e.urg

/-- A DRAM request arrives at its port: purged, refused by a port that retrains, closed out by its range, waiting for a fill slot, or queued
with its key and QoS slot (R268, R429, R437, R447, R448, R454); a gated port reads zero and drops writes (R503). -/
def State.portAccept (s : State) (f : Flight) (m pa : Nat) : State :=
  let q := f.req
  if s.purging q then (s.purged q f.dst).answer f.id .decode
  else if s.memGated q (.dram m pa) then s.answer f.id (gatedRsp q)
  else if !s.ready (m / 2) (rdyMP (m % 2)) then s.answer f.id .decode
  else if s.rangeClosed m (pa / 64) q then
    ((s.count (imeP m) MI_CNT_SITE.V).raise (iniDie q.ini) 80 (q.site.map (·.val)) (iniDie q.ini)).answer f.id .decode
  else
    let e : MpReq := ⟨f.id, q, pa, s.lineKey m (pa / 64), s.slotOf m q, s.now, 0, s.nocNext⟩
    let x := s.port m
    let behind := x.waits.any fun w => sameSource w.req q
    let s := if isWrite q.op && s.fillBlocked m (pa / 64) then
        (s.count (mpB m) EG_FILLWAIT.V).setPort m { x with waits := x.waits ++ [e] }
      else if behind then s.setPort m { x with waits := x.waits ++ [e] }
      else s.setPort m { x with queue := x.queue ++ [e] }
    s.inflightOf q

/-- An entry may issue: no older entry of its source is queued, and its bank set is not forced, unless it hits an open row or has
urgency 3 (R434, R442, R443). -/
def State.mayIssue (s : State) (m : Nat) (older : List MpReq) (e : MpReq) : Bool :=
  let set := s.setNo m e.pa
  !(older.any fun o => sameSource o.req e.req) &&
  (s.rowHit m e.pa || s.urgency m e == 3 ||
    !(2 ≤ s.debt m set || (s.port m).forced.contains set && 1 ≤ s.debt m set))

/-- The entry the scheduler prefers, with its place: urgency, then a row hit, then age (R438). -/
def State.preferred (s : State) (m : Nat) : Option (Nat × MpReq) :=
  let q := (s.port m).queue
  let cands := (List.range q.length).filterMap fun i =>
    match q[i]? with
    | some e => if s.mayIssue m (q.take i) e then some (i, e) else none
    | none => none
  let score := fun (e : MpReq) => 2 * s.urgency m e + (s.rowHit m e.pa).toNat
  cands.foldl (fun best c =>
    match best with
    | some b => if score b.2 < score c.2 then some c else some b
    | none => some c) none

/-- The scheduler issues the preferred request's DRAM command (R438); a write that would now start a 65th fill waits instead, with what its
source has queued behind it (R268, R434). -/
def execMpCommandIssue (m : Fin 8) (s : State) : Out :=
  .next <|
    match s.preferred m with
    | some (i, e) =>
      let x := s.port m
      let rest := x.queue.eraseIdx i
      if isWrite e.req.op && s.fillBlocked m (e.pa / 64) then
        let own := fun (o : MpReq) => sameSource o.req e.req
        (s.count (mpB m) EG_FILLWAIT.V).setPort m
          { x with queue := rest.filter fun o => !own o, waits := x.waits ++ e :: rest.filter own }
      else (s.setPort m { x with queue := rest }).perform m e
    | none => s

/-- The urgency that an entry's age gives it (R437). -/
def State.ageUrgency (s : State) (m : Nat) (e : MpReq) : Nat :=
  let (a, t) := (s.ageOf e, s.target m e.slot)
  if t ≤ a then 3 else if 3 * t ≤ 4 * a then 2 else if t ≤ 2 * a then 1 else 0

/-- The age of the `i`-th waiting request has crossed a fraction of its slot's TARGET: its urgency rises to what its age gives (R437). -/
def execRequestUrgencyRise (m : Fin 8) (i : Nat) (s : State) : Out :=
  .next <|
    let x := s.port m
    match x.queue[i]? with
    | some e => s.setPort m { x with queue := x.queue.set i { e with urg := max e.urg (s.ageUrgency m e) } }
    | none => s

/-- Fail entries of a site in a list, and those that the site holds in a die's FCU, whose limit is its quota (R185). -/
def siteFails (st : Nat) (l : List FcuEnt) : Nat := (l.filter fun e => decide (e.kind = .fail) && e.site == st).length
def State.fcuHeld (s : State) (d st : Nat) : Nat := siteFails st (s.fcu d).intake + siteFails st (s.fcu d).fifo

/-- A group's panic output (R439): of a PSQ while it streams with fewer than 512 words of its stream in the buffer, of the FCU while its
write-back queue holds 192 lines or a site holds more than half its quota, of the fabric ports while a region's frames set the bit. -/
def State.panicOut (s : State) (d l : Nat) : Bool :=
  if l < 4 then
    let x := s.psq (d * 4 + l)
    x.stream && s.psqRunning (d * 4 + l) && x.buf.length < 512
  else if l = 4 then
    192 ≤ (s.fcu d).wbq.length || (List.range 16).any fun st => s.rd (fsB d st) FS_QUOTA.QUOTA < 2 * s.fcuHeld d st
  else if l = 0x1C then (List.range 64).any fun r => (s.region (d * 64 + r)).noc && (s.region (d * 64 + r)).panic
  else false

/-- The panic output of a die's initiator 8 g + i has changed: the ports see what it is now. -/
def execPanicChange (d : Fin 4) (g i : Fin 8) (s : State) : Out :=
  .next <|
    let l := g.val * 8 + i.val
    let id := d.val * 64 + l
    let rest := s.panics.filter (· != id)
    { s with panics := if s.panicOut d l then id :: rest else rest }

/-- What waits behind a fill slot goes to the queue when its source has nothing waiting before it and it needs no slot (R268, R434). -/
def State.unblock (s : State) (m : Nat) : State :=
  let es := (s.port m).waits
  let s := s.setPort m { s.port m with waits := [] }
  s.each es fun e s =>
    let x := s.port m
    if (x.waits.any fun w => sameSource w.req e.req) || (isWrite e.req.op && s.fillBlocked m (e.pa / 64)) then
      s.setPort m { x with waits := x.waits ++ [e] }
    else s.setPort m { x with queue := x.queue ++ [e] }

/-- One fill ends and a slot is free: the oldest waiting write starts, its page FILLING, after what its source has queued before it; what
waited behind it may issue (R268, R434). -/
def execFillSlotFree (m : Fin 8) (s : State) : Out :=
  .next <|
    let x := s.port m
    match x.waits with
    | e :: es =>
      if s.filling m < 64 then
        let own := fun (o : MpReq) => sameSource o.req e.req
        let s := s.setPort m { x with queue := x.queue.filter fun o => !own o, waits := es }
        ((s.each (x.queue.filter own) fun o s => s.perform m o).perform m e).unblock m
      else s
    | [] => s

/-- The fill engine writes one line of a FILLING page (R267, R446). -/
def execPageFillLine (m : Fin 8) (line : BitVec 29) (s : State) : Out := .next (s.fillLine m line.toNat)

/-- An atomic line-OR of an engine: read, decrypt, OR, encrypt and write as one operation (R202, R436). -/
def execAor (ini : Ini) (site : Option (Fin 16)) (addr : BitVec 40) (data : BitVec 512) (pois : BitVec 8) (s : State) : Out :=
  .next (s.request ⟨ini, false, site, .aor, BitVec.ofNat 40 (addr.toNat / 64 * 64), 64, data, pois, none⟩).2

/-! ## Refresh (R441 to R445) -/

/-- Every set's debt advances at a tREFI boundary; a set that would reach 5 first gets a REFab of its rank (R444). -/
def State.refreshDue (s : State) (m : Nat) : State :=
  let sets := s.bankSets m
  let s := s.each (List.range (s.ranks m)) fun r s =>
    if (sets.filter (· / 4 == r)).any fun b => 4 ≤ s.debt m b then
      let x := s.port m
      let own := sets.filter (· / 4 == r)
      let x := { x with
        refAt := own.foldl (fun kv b => KV.set 0 b s.now kv) x.refAt
        catchup := x.catchup.filter fun b => !(own.contains b && s.debt m b ≤ 1)
        forced := x.forced.filter fun b => !own.contains b
        debts := (sets.filter (· / 4 == r)).foldl (fun (kv : KV Nat) b => KV.set 0 b (KV.get 0 b kv - 1) kv) x.debts
        rows := x.rows.filter fun e => e.1 / 64 != r }
      ((s.setPort m x).count (mpB m) MR_CNT_AB.V).raise (m / 2) 71 none m
    else s
  let x := s.port m
  (s.setPort m { x with
    fast := x.fastNext
    debts := sets.foldl (fun (kv : KV Nat) b => KV.set 0 b (KV.get 0 b kv + 1) kv) x.debts }).refreshStat m

def execTrefiBoundary (m : Fin 8) (s : State) : Out :=
  .next (if s.ready (m / 2) (rdyMP (m % 2)) then s.refreshDue m else s)

/-- A set's refresh is forced: debt of 2 or more, or the catch-up timer (R442, R443). -/
def State.setForced (s : State) (m set : Nat) : Bool :=
  2 ≤ s.debt m set || (s.port m).forced.contains set && 1 ≤ s.debt m set

/-- A REFsb of a set whose banks have closed: its debt falls by one; not forced, it waits for requests of urgency 2 and 3 (R441
to R443). -/
def State.refsb (s : State) (m set : Nat) : State :=
  let x := s.port m
  let urgent := x.queue.any fun e => s.setNo m e.pa == set && 2 ≤ s.urgency m e
  let force := s.setForced m set
  if s.debt m set = 0 ∨ (!force && urgent) then s
  else
    let left := s.debt m set - 1
    let cu := if left = 0 then x.catchup.filter (· != set)
      else if force && !x.catchup.contains set then set :: x.catchup else x.catchup
    let s := s.setPort m { x with
      debts := KV.set 0 set left x.debts
      refAt := KV.set 0 set s.now x.refAt
      rows := x.rows.filter fun e => !(e.1 / 64 == set / 4 && e.1 % 64 / 16 == set % 4)
      catchup := cu
      forced := x.forced.filter (· != set) }
    let s := s.count (mpB m) MR_CNT_SB.V
    (if force then s.count (mpB m) MR_CNT_FORCED.V else s).refreshStat m

def execRefsbIssue (m : Fin 8) (set : Fin 8) (s : State) : Out := .next (s.refsb m set)

/-- tREFI / 2 in ticks: 1.95 µs, above 85 °C half of it (R445). -/
def MpX.halfTrefi (x : MpX) : Nat := if x.fast then 3900 else 7800

/-- tREFI / 2 has passed since the last refresh of a set in catch-up that owes one: it is forced (R443). -/
def execCatchupTimer (m : Fin 8) (set : Fin 8) (s : State) : Out :=
  .next <|
    let x := s.port m
    if x.catchup.contains set.val ∧ 1 ≤ s.debt m set ∧ !x.forced.contains set.val ∧
        KV.get 0 set.val x.refAt + x.halfTrefi ≤ s.now then
      s.setPort m { x with forced := set.val :: x.forced }
    else s

/-! ## Tracking in service (R430, R445) -/

/-- A tracking action takes its rank with all banks idle. -/
def State.rankIdle (s : State) (m rank : Nat) : State :=
  s.setPort m { s.port m with rows := (s.port m).rows.filter fun e => e.1 / 64 != rank }

/-- The port reads a rank's DQS interval oscillator (R430). -/
def execMpDqsOscRead (m : Fin 8) (rank : Fin 2) (s : State) : Out :=
  .next <|
    if s.ready (m / 2) (rdyMP (m % 2)) then
      let s := s.rankIdle m rank
      s.setPort m { s.port m with dqsReads := (s.port m).dqsReads + 1 }
    else s

/-- The port runs ZQ calibration on a rank (R430). -/
def execMpZqCal (m : Fin 8) (rank : Fin 2) (s : State) : Out :=
  .next <|
    if s.ready (m / 2) (rdyMP (m % 2)) then
      let s := s.rankIdle m rank
      s.setPort m { s.port m with zqCals := (s.port m).zqCals + 1 }
    else s

/-- The hottest DIMM sensor reads `temp` tenths of a degree: MP_TEMP, the refresh rate from the next boundary, HOT with source 7
while above 95 °C (R445). -/
def execMpThermalRead (m : Fin 8) (temp : BitVec 16) (s : State) : Out :=
  .next <|
    if s.ready (m / 2) (rdyMP (m % 2)) then
      let t := temp.toInt
      let s := (s.wr (mpB m) MP_TEMP.VALID 1).wr (mpB m) MP_TEMP.TEMP temp.toNat
      let s := s.wrb (mpB m) MP_TEMP.HOT (decide (t > 950))
      let x := s.port m
      let s := s.setPort m { x with fastNext := decide (t > 850), thermReads := x.thermReads + 1 }
      if t > 950 then s.condOn (m / 2) 7 none m else s.condOff (m / 2) 7 m
    else s

/-- A tracking action not issued within 1 ms is forced ahead of the requests: the rank's banks close (R430). -/
def execMpTrackingForce (m : Fin 8) (rank : Fin 2) (zq : Bool) (s : State) : Out :=
  .next <|
    if s.ready (m / 2) (rdyMP (m % 2)) then
      let s := s.rankIdle m rank
      let x := s.port m
      s.setPort m (if zq then { x with zqCals := x.zqCals + 1 } else { x with dqsReads := x.dqsReads + 1 })
    else s

/-! ## Training (R427 to R429) -/

/-- A training starts: the next number, PENDING (R428). -/
def State.trainStart (s : State) (m : Nat) : State :=
  let b := mpB m
  (((s.seqUp b MP_TRES.SEQ).wr b MP_TRES.STATUS 1).wr b MP_TRES.VALID 0).wr b MP_TRES.ACKD 0

/-- The DIMM is one of R426: a supported kind of module, 1 or 2 ranks, devices of 16, 24 or 32 Gb. -/
def dimmSupported (kind : Bool) (ranks dens : Nat) : Bool := kind && (ranks == 1 || ranks == 2) && [16, 24, 32].contains dens

/-- Usable size in GiB (R427): 64 data bits of x4 or x8 devices a rank, at most 32 GiB. -/
def dimmSize (ranks dens : Nat) (x8 : Bool) : Nat := min 32 (ranks * dens * (if x8 then 1 else 2))

/-- At a start the port reads the SPD; `answers`: a DIMM answers on the sideband bus, and its bit of DCTL_READY_EXP is set (R428). -/
def execMpTraining (m : Fin 8) (answers : Bool) (s : State) : Out :=
  .next <|
    if s.ready (m / 2) rdyCKP && !s.ready (m / 2) (rdyMP (m % 2)) && s.rd (mpB m) MP_TRES.STATUS == 0 then
      let s := s.wrBit (dctlB (m / 2)) DCTL_READY_EXP.BITS (rdyMP (m % 2)) answers
      (s.setPort m { s.port m with retrain := false }).trainStart m
    else s

/-- A training ends otherwise than DONE: the status, DCTL_READY_FAIL, source 70 (R428). -/
def State.trainFail (s : State) (m status : Nat) : State :=
  let b := mpB m
  let s := (s.wr b MP_TRES.STATUS status).wr b MP_TRES.VALID 1
  ((s.setPort m { s.port m with selfRef := true }).setFail (m / 2) (rdyMP (m % 2))).raise (m / 2) 70 none m

/-- A sweep of the port ends ABORTED; its range stays under sweep (R460). -/
def State.sweepAbort (s : State) (m : Nat) : State :=
  match (s.sweep m).cur with
  | some (r, k) =>
    let s := s.setSweep m ⟨none, (r, k, s.rd (imeP m) MI_SWPTR.V) :: (s.sweep m).stopped⟩
    (s.wr (imeP m) MI_SWRES.STATUS 3).wr (imeP m) MI_SWRES.VALID 1
  | none => s

def execMpTrainingDone (m : Fin 8) (e : DimmEnd) (s : State) : Out :=
  .next <|
    let b := mpB m
    if s.rd b MP_TRES.STATUS ≠ 1 ∨ (s.port m).retrain then s
    else
      match e with
      | .done kind ranks x8 dens =>
        if !dimmSupported kind ranks dens.toNat then s.trainFail m 4 else
        let s := ((s.wr b MP_DIMM.SIZE (dimmSize ranks dens.toNat x8)).wr b MP_DIMM.RANKS ranks.val).wrb b MP_DIMM.WIDTH x8
        let s := s.wr b MP_DIMM.DENS dens.toNat
        let s := (s.wr b MP_TRES.STATUS 2).wr b MP_TRES.VALID 1
        let x := s.port m
        let s := s.setPort m { x with rows := [], debts := [], catchup := [], forced := [], refAt := [], selfRef := false }
        (s.refreshStat m).setReady (m / 2) (rdyMP (m % 2)) true
      | .noDimm => s.trainFail m 3
      | .failed => s.trainFail m 5

/-- RETRAIN: refused while the result is PENDING or unacknowledged; else the accepted requests complete, the port enters
self-refresh and is not ready (R429). -/
def State.mpRetrain (s : State) (m : Nat) : State :=
  let b := mpB m
  if s.rd b MP_TRES.STATUS = 1 ∨ !s.on b MP_TRES.ACKD then s.wr b MP_STAT.REJ 1
  else
    let es := (s.port m).queue ++ (s.port m).waits
    let s := s.setPort m { s.port m with queue := [], waits := [], retrain := true, selfRef := true }
    let s := s.each es fun e s =>
      (if isWrite e.req.op && s.fillBlocked m (e.pa / 64) then s.endOneFill m else s).perform m e
    (s.setReady (m / 2) (rdyMP (m % 2)) false).trainStart m

def execMpRetrain (m : Fin 8) (s : State) : Out := .next (s.atBlock .mp (m / 2) (m % 2) fun s => s.mpRetrain m)

/-- A retrain ends: the port leaves self-refresh and is ready, or it ends as a failed start and ends a sweep ABORTED (R429, R460). -/
def execMpRetrainDone (m : Fin 8) (ok : Bool) (s : State) : Out :=
  .next <|
    let b := mpB m
    if s.rd b MP_TRES.STATUS ≠ 1 ∨ !(s.port m).retrain then s
    else
      let s := s.setPort m { s.port m with retrain := false, rows := [] }
      if ok then
        let s := s.setPort m { s.port m with selfRef := false }
        ((s.wr b MP_TRES.STATUS 2).wr b MP_TRES.VALID 1).setReady (m / 2) (rdyMP (m % 2)) true
      else (s.sweepAbort m).trainFail m 5

/-- MP_CMD.ACK releases a completed result (R22, R428). -/
def State.mpAck (s : State) (m : Nat) : State :=
  if s.on (mpB m) MP_TRES.VALID then s.wr (mpB m) MP_TRES.ACKD 1 else s

def execMpAck (m : Fin 8) (s : State) : Out := .next (s.atBlock .mp (m / 2) (m % 2) fun s => s.mpAck m)

/-! ## The DRAM map's commit check (R433) -/

def State.mapWin (s : State) (k : Nat) : Nat × Nat × Nat × Nat :=
  let b := mpB 0 + k * 16
  (s.staged b MW_CFG.PORT, s.staged b MW_CFG.BASE, s.staged b MW_CFG.SIZE, s.staged b MW_PBASE.PBASE)

/-- Every enabled window: its local range above the interleave and within 256 GiB, its port range above ILSIZE and within 32 GiB,
apart from the other windows of its port. -/
def State.mapCheck (s : State) : Bool :=
  let il := s.staged (mpB 0) MP_IL.ILSIZE
  let en := (List.range 8).filter fun k => s.staged (mpB 0 + k * 16) MW_CFG.EN == 1
  en.all fun k =>
    let (p, base, size, pb) := s.mapWin k
    8 * il ≤ base && base + size ≤ 256 && il ≤ pb && pb + size ≤ 32 &&
    en.all fun j =>
      let (p', _, size', pb') := s.mapWin j
      j == k || p != p' || pb + size ≤ pb' || pb' + size' ≤ pb

/-! ## Key commands of the IME (R452, R453) -/

/-- The ranges under sweep with their new key slots: of the sweep that runs, and of those that ended ABORTED (R456, R460). -/
def SweepX.names (x : SweepX) : List (Nat × Nat) := x.cur.toList ++ x.stopped.map fun e => (e.1, e.2.1)
/-- The range is under sweep (R456). -/
def SweepX.under (x : SweepX) (r : Nat) : Bool := x.names.any fun e => e.1 == r

/-- REFS of every slot of a port: the enabled ranges and the sweeps that name it. -/
def State.imeRefs (s : State) (m : Nat) : State :=
  s.each (List.range 16) fun k s =>
    let n := ((List.range 8).filter fun r =>
      s.on (imeP m + r * 16) MI_RCFG.EN && s.rd (imeP m + r * 16) MI_RCFG.KEY == k).length
    s.wr (imeP m + k * 4) MI_KINFO.REFS (n + ((s.sweep m).names.filter fun e => e.2 == k).length)

/-- Accepted requests that use a key slot. -/
def State.keyInFlight (s : State) (m k : Nat) : Bool :=
  ((s.port m).queue ++ (s.port m).waits).any fun e => e.key == k + 1

/-- The wrapped key that MI_KWRAP0 to 9 hold, first byte in MI_KWRAP0[7:0]. -/
def State.kwrap (s : State) (d : Nat) : Nat := (List.range 10).foldr (fun i acc => s.rd (imeB d + i * 4) MI_KWRAP.V + 2 ^ 32 * acc) 0

/-- A key command: ignored with REJ while a result is pending or unacknowledged (R453). -/
def State.imeCommand (s : State) (d op port slot : Nat) : State :=
  let b := imeB d
  if s.rd b MI_KRES.STATUS = 1 ∨ !s.on b MI_KRES.ACKD then s.wr b MI_STAT.REJ 1
  else
    let s := (((s.seqUp b MI_KRES.SEQ).wr b MI_KRES.STATUS 1).wr b MI_KRES.VALID 0).wr b MI_KRES.ACKD 0
    s.setImeOp d (some ⟨op, port, slot, s.rd b MI_KEPOCH.EPOCH, s.kwrap d⟩)

def execImeGen (d : Fin 4) (port : Fin 2) (slot : Fin 16) (s : State) : Out :=
  .next (s.atBlock .ime d 0 fun s => s.imeCommand d 1 port slot)
def execImeLoad (d : Fin 4) (port : Fin 2) (slot : Fin 16) (s : State) : Out :=
  .next (s.atBlock .ime d 0 fun s => s.imeCommand d 2 port slot)
def execImeKill (d : Fin 4) (port : Fin 2) (slot : Fin 16) (s : State) : Out :=
  .next (s.atBlock .ime d 0 fun s => s.imeCommand d 3 port slot)

/-- A key command ends with its status. -/
def State.imeEnd (s : State) (d status : Nat) : State :=
  ((s.wr (imeB d) MI_KRES.STATUS status).wr (imeB d) MI_KRES.VALID 1).setImeOp d none

/-- A slot takes a key and an epoch. -/
def State.setKey (s : State) (m k epoch : Nat) (key : BitVec 256) : State :=
  let s := (s.setImeKey (m * 16 + k) key).wr (imeP m + k * 4) MI_KINFO.EPOCH epoch
  s.wr (imeP m + k * 4) MI_KINFO.VALID 1

/-- A slot is zeroised and invalid; the fills under it end as poison (R269). -/
def State.zeroise (s : State) (m k : Nat) : State :=
  let b := imeP m + k * 4
  ((((s.setImeKey (m * 16 + k) 0).wr b MI_KINFO.VALID 0).wr b MI_KINFO.RETIRE_PENDING 0).wr b MI_KINFO.EPOCH 0).fillsLost m k

/-- The key command in progress completes (R452, R453); a KILL of a slot in use waits with RETIRE_PENDING. -/
def execImeKeyDone (d : Fin 4) (s : State) : Out :=
  .next <|
    match s.imeOp d with
    | none => s
    | some o =>
      let m := d * 2 + o.port
      let b := imeP m + o.slot * 4
      if o.op = 3 then
        if s.rd b MI_KINFO.REFS ≠ 0 then s.imeEnd d 4
        else if s.keyInFlight m o.slot then s.wr b MI_KINFO.RETIRE_PENDING 1
        else (s.zeroise m o.slot).imeEnd d 2
      else if s.on b MI_KINFO.VALID then s.imeEnd d 4
      else if o.op = 1 then
        let key := Config.freeValue s.fresh 256
        let s := s.drew.setKey m o.slot o.epoch key
        let w := (Config.keyWrap Config.deviceKek key).toNat
        (s.each (List.range 10) fun i s => s.wr (imeB d + i * 4) MI_KWRAP.V (bits w (32 * i) 32)).imeEnd d 2
      else
        match Config.keyUnwrap Config.deviceKek (BitVec.ofNat 320 o.wrap) with
        | some key => (s.setKey m o.slot o.epoch key).imeEnd d 2
        | none => (s.imeEnd d 3).raise d 72 none d

/-- MI_KCMD.ACK releases the result (R453). -/
def State.imeAck (s : State) (d : Nat) : State := if s.on (imeB d) MI_KRES.VALID then s.wr (imeB d) MI_KRES.ACKD 1 else s
def execImeKeyAck (d : Fin 4) (s : State) : Out := .next (s.atBlock .ime d 0 fun s => s.imeAck d)

/-! ## Rekey sweeps (R457 to R460) -/

def State.sweepStart (s : State) (m : Nat) : State :=
  let b := imeP m
  (((s.seqUp b MI_SWRES.SEQ).wr b MI_SWRES.STATUS 1).wr b MI_SWRES.VALID 0).wr b MI_SWRES.ACKD 0

/-- GO: refused with REJ in the cases of R457. -/
def State.sweepGo (s : State) (m r k : Nat) : State :=
  let b := imeP m
  if s.rd b MI_SWRES.STATUS = 1 ∨ !s.on b MI_SWRES.ACKD ∨ !s.on (b + r * 16) MI_RCFG.EN ∨ !s.keyValid m k ∨
      s.rd (b + r * 16) MI_RCFG.KEY = k ∨ (s.sweep m).under r then
    s.wr (imeB (m / 2)) MI_STAT.REJ 1
  else
    let s := (s.wr b MI_SWPTR.V (s.rd (b + r * 16) MI_RBASE.V * 64)).sweepStart m
    (s.setSweep m { s.sweep m with cur := some (r, k) }).imeRefs m

def execImeSweepGo (m : Fin 8) (r : Fin 8) (k : Fin 16) (s : State) : Out :=
  .next (s.atBlock .ime (m / 2) 0 fun s => s.sweepGo m r k)

/-- RESUME of an aborted sweep with its own range and slot, the result acknowledged and no sweep running; else refused with REJ. The sweep
goes on at the line where it stopped, which is MI_SWPTR unless another range was swept since (R460; notes/assumptions/113.md). -/
def State.sweepResume (s : State) (m r k : Nat) : State :=
  let x := s.sweep m
  match x.stopped.find? fun e => e.1 == r && e.2.1 == k with
  | some (_, _, next) =>
    if s.on (imeP m) MI_SWRES.ACKD ∧ x.cur = none then
      ((s.wr (imeP m) MI_SWPTR.V next).sweepStart m).setSweep m ⟨some (r, k), x.stopped.filter fun e => e.1 != r⟩
    else s.wr (imeB (m / 2)) MI_STAT.REJ 1
  | none => s.wr (imeB (m / 2)) MI_STAT.REJ 1

def execImeSweepResume (m : Fin 8) (r : Fin 8) (k : Fin 16) (s : State) : Out :=
  .next (s.atBlock .ime (m / 2) 0 fun s => s.sweepResume m r k)

def State.sweepAck (s : State) (m : Nat) : State := if s.on (imeP m) MI_SWRES.VALID then s.wr (imeP m) MI_SWRES.ACKD 1 else s
def execImeSweepAck (m : Fin 8) (s : State) : Out := .next (s.atBlock .ime (m / 2) 0 fun s => s.sweepAck m)

/-- The sweep passes its last line: the range's KEY becomes NEWKEY, the result is DONE, the old slot retires when no other enabled
range names it (R460). -/
def State.sweepEnd (s : State) (m r k : Nat) : State :=
  let b := imeP m
  let old := s.rd (b + r * 16) MI_RCFG.KEY
  let s := s.load (b + r * 16) MI_RCFG.KEY k
  let s := (s.setSweep m { s.sweep m with cur := none }).imeRefs m
  let s := (s.wr b MI_SWRES.STATUS 2).wr b MI_SWRES.VALID 1
  if s.rd (b + old * 4) MI_KINFO.REFS ≠ 0 then s
  else if s.keyInFlight m old then s.wr (b + old * 4) MI_KINFO.RETIRE_PENDING 1
  else s.zeroise m old

/-- An accepted request to the line has not been performed: it was there before the sweep and is performed under KEY (R458). -/
def State.lineWaits (s : State) (m line : Nat) : Bool := ((s.port m).queue ++ (s.port m).waits).any fun e => e.pa / 64 == line

/-- The sweep re-encrypts the line at its pointer: skipped in an INVALID page, waiting at a FILLING one and for the requests that came
before it, poison kept (R458). -/
def execSweepLine (m : Fin 8) (s : State) : Out :=
  .next <|
    match (s.sweep m).cur with
    | none => s
    | some (r, k) =>
      let b := imeP m
      let line := s.rd b MI_SWPTR.V
      let st := (s.page (pageNo m (line / 64))).st
      if st = .filling || s.lineWaits m line then s
      else
        let s := if st = .invalid then s
          else
            let (v, p) := s.seeLine m line (1 + s.rd (b + r * 16) MI_RCFG.KEY)
            let s := s.countLine m line
            let s := if p then s.count b MI_SWPSN.V else s
            s.putLine m line (1 + k) v p
        let last := s.rd (b + r * 16) MI_RLIM.V * 64 + 63
        let s := s.wr b MI_SWPTR.V (line + 1)
        if line ≥ last then s.sweepEnd m r k else s

/-- No transaction under a retired slot remains: it is zeroised (R452, R460). -/
def execSlotRetire (m : Fin 8) (k : Fin 16) (s : State) : Out :=
  .next (if s.on (imeP m + k * 4) MI_KINFO.RETIRE_PENDING && !s.keyInFlight m k then s.zeroise m k else s)

/-- The commit check of a die's range registers (R456). -/
def State.imeCheck (s : State) (d : Nat) : Bool :=
  [d * 2, d * 2 + 1].all fun m => (List.range 8).all fun r =>
    let b := imeP m + r * 16
    (s.staged b MI_RCFG.EN == 0 ||
      s.staged b MI_RBASE.V ≤ s.staged b MI_RLIM.V && s.keyValid m (s.staged b MI_RCFG.KEY)) &&
    (!(s.sweep m).under r || [MI_RBASE.V, MI_RLIM.V, MI_RCFG.EN, MI_RCFG.SITEV, MI_RCFG.SITE, MI_RCFG.KEY].all fun f =>
      s.staged b f == s.rd b f)

end Sys2Proof.Machine
end

