-- ==== Sys2Proof/Machine/D2d.lean ====
section
/-! DEFINITION. Die-to-die bundles (13_noc_and_die_links.md R413 to R425): roles, lane choice, flits and slots. The end of a
training stands in Machine/Training.lean; lane monitoring, swaps and recalibration in Machine/Swap.lean. -/
namespace Sys2Proof.Machine

open Sys2Proof (SlotKind)

/-! ## Lanes and roles -/

def roleCK : Nat := 8
def roleFREE : Nat := 9
def roleRETIRED : Nat := 0xB
def roleSTANDIN : Nat := 0xD

/-- The number of a bundle behind its registers; the joint of an edge; the die at the other end. -/
def bundleNo (d e n : Nat) : Nat := d * 64 + e * 32 + n
def jointOf (d e : Nat) : Nat := if e = 0 then d else (d + 3) % 4
def peerOf (d e : Nat) : Nat := if e = 0 then (d + 1) % 4 else (d + 3) % 4

/-- Role of physical lane `p` (D2D_LMAP). -/
def State.role (s : State) (d e n p : Nat) : Nat :=
  if p < 8 then bits (s.rd (bundleB d e n) D2D_LMAP_LO.V) (4 * p) 4 else bits (s.rd (bundleB d e n) D2D_LMAP_HI.V) (4 * (p - 8)) 4
def State.setRole (s : State) (d e n p r : Nat) : State :=
  let b := bundleB d e n
  if p < 8 then s.wr b D2D_LMAP_LO.V (putBits (s.rd b D2D_LMAP_LO.V) (4 * p) 4 r)
  else s.wr b D2D_LMAP_HI.V (putBits (s.rd b D2D_LMAP_HI.V) (4 * (p - 8)) 4 r)

def State.freeLanes (s : State) (d e n : Nat) : List Nat := (List.range 11).filter fun p => s.role d e n p == roleFREE
def State.activeLane (s : State) (d e n p : Nat) : Bool := s.role d e n p ≤ roleCK

/-- FREE and NOSPARE follow the lane map. -/
def State.bundleStat (s : State) (d e n : Nat) : State :=
  let f := (s.freeLanes d e n).length
  (s.wr (bundleB d e n) D2D_BST.FREE (min f 3)).wrb (bundleB d e n) D2D_BST.NOSPARE (f = 0)

/-- STATE that the lane map of a bundle gives (R419): UP with CK and 8 data lanes, a NoC bundle with 7 DEGRADED, else DOWN. -/
def State.laneState (s : State) (d e n : Nat) : Nat :=
  let ck := (List.range 11).any fun p => s.role d e n p == roleCK
  let data := ((List.range 11).filter fun p => s.role d e n p < roleCK).length
  if ck && data == 8 then 2 else if ck && data == 7 && n < 16 then 3 else 0

/-! ## Training at start (R418 to R420) -/

/-- Both dies of a joint launch CK on every bundle (R418). -/
def execD2dTraining (j : Fin 4) (s : State) : Out :=
  .next <|
    if s.ready j rdyCKP && s.ready ((j + 1) % 4) rdyCKP then
      s.each [(j.val, 0), ((j.val + 1) % 4, 1)] fun de s => s.each (List.range 21) fun n s =>
        if s.bundleState de.1 de.2 n = 1 then
          let k := bundleNo de.1 de.2 n
          s.setBundle k { s.bundle k with launched := true }
        else s
    else s

/-- Lane choice (R419): excluded lanes show why; passing lanes keep their fuse role; CK first, then D0 to D7, are filled from the
passing free lanes of lowest index. `fuse`: roles 0 to 8, 9 free, 0xA bad, four bits a lane. -/
def State.chooseLanes (s : State) (d e n fuse pass retired : Nat) : State :=
  let role := fun p => bits fuse (4 * p) 4
  let ok := fun p => role p ≤ roleFREE && !bitAt retired p && bitAt pass p
  let s := s.each (List.range 11) fun p s =>
    s.setRole d e n p (if roleFREE < role p then 0xA else if bitAt retired p then roleRETIRED
      else if !bitAt pass p then 0xC else role p)
  s.each (roleCK :: List.range 8) fun r s =>
    if (List.range 11).any (fun p => ok p && role p == r) then s
    else
      match (s.freeLanes d e n).head? with
      | some p => s.setRole d e n p r
      | none => s

/-- The readiness bits of an edge of a joint (R420): D2D_E of die j, D2D_S of die j + 1. -/
def State.jointReady (s : State) (j : Nat) : State :=
  let e := (j + 1) % 4
  let ended := (List.range 21).all fun n => s.bundleState j 0 n != 1 && s.bundleState e 1 n != 1
  if ended && s.jointUp j then (s.setReady j rdyD2DE true).setReady e rdyD2DS true
  else if s.bundleState j 0 20 = 0 ∨ s.bundleState e 1 20 = 0 then (s.setFail j rdyD2DE).setFail e rdyD2DS
  else s

/-- Every ring of the torus still has a crossing link (R408): the two links of a ring are numbered 2i and 2i + 1. -/
def State.torusWhole (s : State) : Bool := (List.range 32).all fun i => s.torusLinkUp (2 * i) || s.torusLinkUp (2 * i + 1)
/-- DCTL_READY.NOC of every die is set when every router can be reached (R420). -/
def State.nocReadyUp (s : State) : State :=
  if s.torusWhole then s.each (List.range 4) fun d s => s.setReady d rdyNOC true else s

/-- A ROT mismatch leaves an edge untrained until the next POR (R27). -/
def State.pairFailed (s : State) (d e : Nat) : State :=
  let k := bundleNo d e 20
  let s := (s.wr (dctlB d) DCTL_ROT.PAIR_ERR 1).each (List.range 21) fun i s => s.wr (bundleB d e i) D2D_BST.STATE 0
  (s.setBundle k { s.bundle k with mismatch := true }).jointReady (jointOf d e)

/-! ## Flits, frames and slots (R414 to R416) -/

/-- A packet arrives at a NoC or service bundle: a failed CRC is counted and the packet replayed (R414, R416). Fabric bundles carry no
packets. -/
def execD2dFlitReceive (d : Fin 4) (e : Fin 2) (n : Fin 21) (ok : Bool) (s : State) : Out :=
  .next <|
    if ok || decide (16 ≤ n.val ∧ n.val < 20) then s
    else
      let k := bundleNo d e n
      let s := (s.count (bundleB d e n) D2D_CNT_CRC.V).count (bundleB d e n) D2D_CNT_RPL.V
      s.setBundle k { s.bundle k with crcWin := (s.bundle k).crcWin + 1 }

/-- A fixed slot of a service bundle arrives. One received with a check error delivers fail flags and match-fail bits as 1,
match-compared bits as 0, overrides as before and PTB decisions as absent, and is counted (R416). -/
def execD2dServiceSlot (d : Fin 4) (e : Fin 2) (slot : SlotKind) (bad : Bool) (s : State) : Out :=
  .next <|
    if !bad then s
    else
      let s := s.count (bundleB d e 20) D2D_CNT_RPL.V
      match slot with
      | .failFlag st =>
        let p := s.rd (siteB st) SITE_CFG.PSQ
        if s.on (siteB st) SITE_CFG.EN && p / 4 == d.val && s.psqRunning p then s.wr (psqB p) PSQ_STAT.SFF 1 else s
      | .matchBits st c =>
        let p := s.rd (siteB st) SITE_CFG.PSQ
        if s.on (siteB st) SITE_CFG.EN && p / 4 == d.val then
          let x := s.psq p
          s.setPsq p { x with results := x.results.map fun r => if r.c = c then { r with compared := false, failed := true } else r }
        else s
      | .override | .trig => s
      | .ptb => { s with ptbAbsent := d.val :: s.ptbAbsent }

end Sys2Proof.Machine
end

