-- ==== Sys2Proof/Machine/Noc.lean ====
section
/-! DEFINITION. The network's commands (13_noc_and_die_links.md R402 to R412): admission and completion of a request in flight,
timeouts, down links, and the clearing of counters, statistics and the trace buffer. -/
namespace Sys2Proof.Machine

open Sys2Proof (Ini Amo MemOp MemReq)

/-- The credits of a request's group toward its target (R403): NOC_CRED toward a memory port, else 2, 4 for the fabric group and 8
for HST. -/
def State.credits (s : State) (q : MemReq) (t : Target) : Nat :=
  let d := iniDie q.ini
  let l := iniLocal q.ini
  match t with
  | .dram _ _ => if q.service then s.rd (nocB d + l * 4) (NOC_CRED.SCRED d l) else s.rd (nocB d + l * 4) (NOC_CRED.PCRED d l)
  | _ => if l = 0x1C then 4 else if l = 0x20 then 8 else 2

/-- Credits of the group in use toward the target. -/
def State.creditsUsed (s : State) (q : MemReq) (tgt : Nat) : Nat :=
  (s.flights.filter fun f => iniId f.req.ini == iniId q.ini && f.req.service == q.service && f.tgt == tgt).length

/-- An earlier request of the initiator to the target is still on another route (R408). -/
def State.oldRoute (s : State) (q : MemReq) (tgt : Nat) (out : List Nat) : Bool :=
  s.flights.any fun f => f.req.ini == q.ini && f.tgt == tgt && f.route != out

/-- An initiator admits a request with a credit of its group and a route; one refused at admission completes at once; one without a
credit, behind the old route, or for a crossing that accepts no entry yet, waits (R402, R403, R408, R514); the port of a fenced region
issues none (R252). -/
def State.nocAdmit (s : State) (q : MemReq) : State :=
  if s.silent q.ini then s else
  match s.admission q with
  | .no r fault =>
    let s := s.refused q r fault
    { s with nocLast := some (s.nocNext, r), nocNext := s.nocNext + 1 }
  | .go t out back =>
    let tgt := targetId t
    if s.credits q t ≤ s.creditsUsed q tgt ∨ s.oldRoute q tgt out ∨ s.shut (tgt / 256) then s
    else
      let s := s.probe q tgt none 0
      { s with flights := s.flights ++ [⟨s.nocNext, q, t, tgt, out, back, s.now, none⟩], nocNext := s.nocNext + 1 }

def execNocRequestAdmit (q : MemReq) (s : State) : Out := .next (s.nocAdmit q)

/-- A flight completes at its initiator with `r`: its entry and credit are free, its latency is counted, its probes see it. -/
def State.complete (s : State) (f : Flight) (r : Rsp) : State :=
  let s := { s with flights := s.flights.filter fun g => g.id != f.id, nocLast := some (f.id, r) }
  let ns := (s.now - f.at_) / 4
  (s.nsCount f.req (rspOk r) ns).probe f.req f.tgt (some r) (ns * 3 / 2)

/-- A response reaches its initiator; one that finds no entry is late, and is discarded and counted on die `d` (R402, R406). -/
def execNocResponse (d : Fin 4) (id : Nat) (s : State) : Out :=
  .next <|
    match s.flights.find? fun f => f.id == id with
    | some f =>
      match f.rsp with
      | some r => s.complete f r
      | none => s
    | none => s.count (nocB d) NOC_CNT_LATE.V

/-- No response within NOC_TMO microseconds of its admission: the request completes as a decode error, source 83 (R406). -/
def execNocTimeout (id : Nat) (s : State) : Out :=
  .next <|
    match s.flights.find? fun f => f.id == id with
    | some f =>
      let d := iniDie f.req.ini
      if s.now < f.at_ + s.rd (nocB d) NOC_TMO.US * 4000 then s
      else ((s.complete f .decode).count (nocB d) NOC_CNT_TMO.V).raise d 83 (f.req.site.map (·.val)) d
    | none => s

/-- The request has been accepted by a memory port. -/
def State.inPort (s : State) (id : Nat) : Bool :=
  (List.range 8).any fun m => ((s.port m).queue ++ (s.port m).waits).any fun e => e.id == id

/-- A packet of a flight reaches a down link of its route: a request that no port has accepted, or a response, is discarded and
completes with LINK (R407). -/
def execNocPacketAtDownLink (id : Nat) (s : State) : Out :=
  .next <|
    match s.flights.find? fun f => f.id == id with
    | some f =>
      let way := if f.rsp.isSome then f.back else f.route
      if way.any s.torusLinkDown ∧ !(f.rsp.isNone ∧ s.inPort id) then
        let d := iniDie f.req.ini
        ((s.complete f .link).count (nocB d) NOC_CNT_LINK.V).raise d 82 (f.req.site.map (·.val)) d
      else s
    | none => s

/-- A torus link is down: its bit on every die, source 84; DCTL_READY.NOC falls on every die when a ring has lost both crossing
links (R407, R408). -/
def execNocLinkDown (n : Fin 64) (s : State) : Out :=
  .next <|
    if !s.torusLinkDown n then s
    else
      let s := s.each (List.range 4) fun d s =>
        if n.val < 32 then s.wrBit (nocB d) NOC_DOWN_LO.V n true else s.wrBit (nocB d) NOC_DOWN_HI.V (n - 32) true
      let s := s.raise (n / 16) 84 none (n / 16)
      if s.torusLinkDown (n / 2 * 2) && s.torusLinkDown (n / 2 * 2 + 1) then
        s.each (List.range 4) fun d s => s.setReady d rdyNOC false
      else s

/-- NOC_CNT_CLR: bits clear LINK, TMO, LATE, DENY. -/
def State.nocCntClr (s : State) (d : Nat) (v : Word) : State :=
  let b := nocB d
  let s := s.rsvBits b 15 v.toNat
  let s := if bitAt v.toNat 0 then s.wr b NOC_CNT_LINK.V 0 else s
  let s := if bitAt v.toNat 1 then s.wr b NOC_CNT_TMO.V 0 else s
  let s := if bitAt v.toNat 2 then s.wr b NOC_CNT_LATE.V 0 else s
  if bitAt v.toNat 3 then s.wr b NOC_CNT_DENY.V 0 else s

def execNocCntClr (d : Fin 4) (v : Word) (s : State) : Out := .next (s.atBlock .noc d 0 fun s => s.nocCntClr d v)

/-- Groups with statistics. -/
def hasStats (g : Nat) : Bool := g ≤ 6 || (8 ≤ g && g ≤ 0x17) || g == 0x1C

/-- NS_CLR: bit g clears the statistics of local group g (R410). -/
def State.nsClr (s : State) (d : Nat) (v : Word) : State :=
  s.each ((List.range 32).filter fun g => bitAt v.toNat g && hasStats g) fun g s =>
    let b := nocB d + g * 128
    let s := (s.wr2 b NS_RDB_LO.V NS_RDB_HI.V 0).wr2 b NS_WRB_LO.V NS_WRB_HI.V 0
    s.each (List.range 16) fun k s => s.wr (b + k * 4) NS_HIST.V 0

def execNsClr (d : Fin 4) (v : Word) (s : State) : Out := .next (s.atBlock .noc d 0 fun s => s.nsClr d v)

/-- NT_CTL.CLR empties the trace buffer. -/
def State.ntClear (s : State) (d : Nat) : State := (s.wr (nocB d) NT_WPTR.NEXT 0).wr (nocB d) NT_WPTR.FULL 0
def execNtClear (d : Fin 4) (s : State) : Out := .next (s.atBlock .noc d 0 fun s => s.ntClear d)

/-- The commit check of the NoC block: credits of the die's groups of one class sum to at most 128, and every enabled window has
BASE ≤ LIMIT (R403, R409). -/
def State.nocCheck (s : State) (d : Nat) : Bool :=
  let b := nocB d
  ((List.range 34).map fun g => s.staged (b + g * 4) (NOC_CRED.SCRED d g)).sum ≤ 128 &&
  ((List.range 34).map fun g => s.staged (b + g * 4) (NOC_CRED.PCRED d g)).sum ≤ 128 &&
  (List.range 32).all fun i =>
    let w := b + i * 32
    s.staged w NW_CFG.EN == 0 ||
      s.staged w NW_BASE_LO.V + s.staged w NW_BASE_HI.V * 2 ^ 20 ≤ s.staged w NW_LIM_LO.V + s.staged w NW_LIM_HI.V * 2 ^ 20

end Sys2Proof.Machine
end

