-- ==== Sys2Proof/Machine/Fcu.lean ====
section
/-! DEFINITION. Fail capture (06_fail_capture_and_repair.md R181 to R208): delivery of fail words, intake, FIFO and quotas, the
capture modes and their records, the bitmap geometry and the combining cache, coarsening, flush. -/
namespace Sys2Proof.Machine

open Sys2Proof (Ini Amo MemOp MemReq)

def modeCOUNT : Nat := 0
def modeFIRST : Nat := 1
def modeLIST : Nat := 2
def modeBITMAP : Nat := 3
def State.fsMode (s : State) (d st : Nat) : Nat := s.rd (fsB d st) FS_CFG.MODE

/-- The FCU of a die as an initiator tagged with a site. -/
def fcuWho (d st : Nat) : Who := ⟨.fcu (Fin.ofNat 4 d), false, some (Fin.ofNat 16 st)⟩

/-- FCU_OCC and FCU_WB follow the buffers. -/
def State.fcuOcc (s : State) (d : Nat) : State :=
  let x := s.fcu d
  let n := fun (l : List FcuEnt) => (l.filter fun e => decide (e.kind = .fail)).length
  let s := (s.wr (fcuB d) FCU_OCC.INTAKE (n x.intake)).wr (fcuB d) FCU_OCC.FIFO (n x.fifo)
  (s.wr (fcuB d) FCU_WB.DIRTY x.cache.length).wr (fcuB d) FCU_WB.WBQ (min x.wbq.length 256)

/-! ## Geometry (R198 to R201) -/

/-- The four fields of a coordinate (0 ROW, 1 COL, 2 BLK) of a site: source, position, width. -/
def State.geomFields (_s : State) (get : Nat → Fld → Nat) (d st k : Nat) : List (Nat × Nat × Nat) :=
  let lo := fsB d st + k * 8
  let hi := lo + 4
  [(get lo FS_GEOM.SRC0, get lo FS_GEOM.POS0, get lo FS_GEOM.WID0), (get lo FS_GEOM.SRC1, get lo FS_GEOM.POS1, get lo FS_GEOM.WID1),
   (get hi FS_GEOM.SRC0, get hi FS_GEOM.POS0, get hi FS_GEOM.WID0), (get hi FS_GEOM.SRC1, get hi FS_GEOM.POS1, get hi FS_GEOM.WID1)]

/-- The value of a coordinate: its fields concatenated, F0 most significant (R198). -/
def coord (fs : List (Nat × Nat × Nat)) (tag lane grp ui : Nat) : Nat :=
  fs.foldl (fun v f =>
    let x := match f.1 with
      | 1 => tag | 2 => lane | 3 => grp | 4 => ui | _ => 0
    if f.1 = 0 then v else v * 2 ^ f.2.2 + bits x f.2.1 f.2.2) 0

/-- Total width of a coordinate. -/
def coordWidth (fs : List (Nat × Nat × Nat)) : Nat := (fs.map fun f => if f.1 = 0 then 0 else f.2.2).sum

/-- The fields of a coordinate keep the limits of R198 and R199: nothing after a NONE field, each within its source. -/
def fieldsOk (fs : List (Nat × Nat × Nat)) : Bool :=
  let limit := fun (src : Nat) => match src with
    | 1 => 48 | 2 => 8 | 3 => 8 | 4 => 5 | _ => 0
  let used := fs.takeWhile fun f => f.1 != 0
  (fs.drop used.length).all (fun f => f.1 == 0 && f.2.1 == 0 && f.2.2 == 0) &&
  used.all fun f => f.1 ≤ 4 && 1 ≤ f.2.2 && f.2.2 ≤ 16 && f.2.1 + f.2.2 ≤ limit f.1

def widthsOk (rw cw bw : Nat) : Bool := 1 ≤ rw && rw ≤ 16 && 9 ≤ cw && cw ≤ 16 && bw ≤ 16

/-- A site's active geometry as the three coordinates' fields. -/
structure Geom where
  row : List (Nat × Nat × Nat)
  col : List (Nat × Nat × Nat)
  blk : List (Nat × Nat × Nat)
  deriving DecidableEq, Repr

def Geom.rw (g : Geom) : Nat := coordWidth g.row
def Geom.cw (g : Geom) : Nat := coordWidth g.col
def Geom.bw (g : Geom) : Nat := coordWidth g.blk
def State.geom (s : State) (d st : Nat) : Geom := ⟨s.geomFields s.rd d st 0, s.geomFields s.rd d st 1, s.geomFields s.rd d st 2⟩

/-- Block, row and column of fail bit `j` of a fail word (R198). -/
def Geom.cell (g : Geom) (tag lane grp j : Nat) : Nat × Nat × Nat :=
  (coord g.blk tag lane grp j, coord g.row tag lane grp j, coord g.col tag lane grp j)

/-- Bit indexes in the bitmap and in the row map (R201). -/
def Geom.bitIndex (g : Geom) (x : Nat × Nat × Nat) : Nat := x.1 * 2 ^ (g.rw + g.cw) + x.2.1 * 2 ^ g.cw + x.2.2
def Geom.rowIndex (g : Geom) (x : Nat × Nat × Nat) : Nat := x.1 * 2 ^ g.rw + x.2.1

/-- A base held in a LO and a HI register with LO's low bits zero. -/
def State.fsBase (s : State) (d st : Nat) (lo hi : Fld) : Nat := s.rd2 (fsB d st) lo hi

/-! ## Tags and deliveries (R181 to R188) -/

/-- Where the tag sample of a site for the PCLK that begins at tick `t` is held until every entry of that PCLK has arrived (R182). -/
def tagKey (d st t : Nat) : Nat := (d * 16 + st) * 2 ^ 64 + t

/-- The FCU samples a site's tag in PCLK c of the site's run, with the poison of its six buses (R182). -/
def execFcuTagSample (d : Fin 4) (st : Fin 16) (c : Nat) (tag : BitVec 48) (pois : BitVec 6) (s : State) : Out :=
  .next <|
    let t := (s.psq (s.rd (siteB st) SITE_CFG.PSQ)).start + 64 + 8 * c
    s.setFcuTag (tagKey d st t) (tag.toNat + (if pois = 0 then 0 else 2 ^ 48))

/-- The site's counters and its channels' counters are cleared (R184). -/
def State.fsClear (s : State) (d st : Nat) : State :=
  let b := fsB d st
  let s := (s.wr2 b FS_TOTAL_LO.V FS_TOTAL_HI.V 0).wr2 b FS_DROPPED_LO.V FS_DROPPED_HI.V 0
  let s := s.each [FS_PURGED.V, FS_COARSE_ENT.V, FS_COARSE_ROWS.V, FS_UNMAPPED.V, FS_TAGPOIS.V, FS_PURGED_LINES.V] fun f s => s.wr b f 0
  s.each ((List.range 576).filter fun i => s.chanSite (d * 576 + i) == st) fun i s =>
    s.wr2 (fcuB d + i * 8) FC_LO.V FC_HI.V 0

/-- An entry may be admitted: its share of the intake has room and the site is below its quota (R185). -/
def State.fcuRoom (s : State) (d st : Nat) : Bool :=
  siteFails st (s.fcu d).intake < 128 && s.fcuHeld d st < s.rd (fsB d st) FS_QUOTA.QUOTA

/-- ORs bits into a line of a buffer; answers none when the buffer has neither the line nor room. -/
def orLine (buf : List FcuLine) (cap line site bits : Nat) : Option (List FcuLine) :=
  if buf.any fun l => l.line == line && l.site == site then
    some (buf.map fun l => if l.line = line ∧ l.site = site then { l with data := l.data ||| bits } else l)
  else if buf.length < cap then some (buf ++ [⟨line, site, bits, false⟩])
  else none

/-- Coarsening of an overload entry of a BITMAP site (R187, R200, R203): a row mark for each block and row of its set bits, 32 in a
PCLK, else the block's flag. One whose tag came poisoned also stands for every block, so that the record stays a superset of the fails
(DESIGN CHOICE: notes/assumptions/107.md). -/
def State.coarsen (s : State) (d : Nat) (e : FcuEnt) (due : Nat) : State :=
  let b := fsB d e.site
  let i := e.ch % 576
  if !s.on (fcuB d + i * 4) FCU_CMAP.BMEN then s.count b FS_UNMAPPED.V
  else
    let s := s.count b FS_COARSE_ENT.V
    let s := if s.on b FS_STAT.COARSENED then s else (s.wr b FS_STAT.COARSENED 1).raise d 58 (some e.site) d
    let s := if e.tagPois then s.wr b FS_STAT.TAGLOSS 1 else s
    let g := s.geom d e.site
    let lane := s.rd (fcuB d + i * 4) FCU_CMAP.LANE
    let grp := s.rd (fcuB d + i * 4) FCU_CMAP.GRP
    let cells := (((List.range 32).filter fun j => bitAt e.word j).map fun j =>
      let x := g.cell e.tag lane grp j
      (x.1, x.2.1)).eraseDups
    s.each cells fun br s =>
      let x := s.fcu d
      let x := if x.markTick = due then x else { x with markTick := due, markCount := 0 }
      let idx := br.1 * 2 ^ g.rw + br.2
      let a := s.fsBase d e.site FS_RMBASE_LO.BASE FS_RMBASE_HI.BASE * 8 + idx
      match (if x.markCount < 32 then orLine x.marks 256 (a / 512) e.site (2 ^ (a % 512)) else none) with
      | some m => (s.setFcu d { x with marks := m, markCount := x.markCount + 1 }).count b FS_COARSE_ROWS.V
      | none =>
        let s := s.setFcu d { x with flags := if x.flags.contains (e.site, br.1) then x.flags else (e.site, br.1) :: x.flags }
        s.wr b FS_STAT.BLKCOARSE 1

/-- A fail entry reaches its site's intake: admitted, or an overload entry (R185, R187). -/
def State.fcuEntry (s : State) (d : Nat) (e : FcuEnt) (due : Nat) : State :=
  let b := fsB d e.site
  let k := d * 16 + e.site
  let mode := s.fsMode d e.site
  if mode = modeCOUNT then s
  else if s.fcuRoom d e.site then
    let x := s.fcu d
    let s := s.setFcu d { x with intake := x.intake ++ [{ e with drops := (s.fsx k).drops }] }
    let s := s.setFsx k { s.fsx k with drops := 0 }
    (s.wr b FS_STAT.SAT 0).fcuOcc d
  else if mode = modeBITMAP then s.coarsen d e due
  else
    let s := (s.count2 b FS_DROPPED_LO.V FS_DROPPED_HI.V).wr b FS_STAT.SAT 1
    if mode = modeFIRST then (if s.on b FS_STAT.FIRST_DONE then s else s.wr b FS_STAT.FIRST_GAP 1)
    else s.setFsx k { s.fsx k with drops := (s.fsx k).drops + 1 }

/-- The fail word due first, and among equals of the lowest channel. -/
def nextFail (fs : List FailWord) : Option FailWord :=
  fs.foldl (fun m f =>
    match m with
    | some g => if f.due < g.due ∨ f.due = g.due ∧ f.ch < g.ch then some f else m
    | none => some f) none

/-- A fail word's part in the match result of its input PCLK (R139): the channel is a match channel of a PSQ in MATCH. -/
def State.matchDelivery (s : State) (p : Nat) (f : FailWord) : State :=
  let x := s.psq p
  match x.wait with
  | .mtch _ _ => if s.matchWord p f then s.setPsq p { x with results := addResult x.results f } else s
  | _ => s

/-- The fail word due first is delivered: to the site's PSQ (fail flag and match result) and to the FCU of its die (counters, and a
fail entry when a bit is set) (R76, R77, R137, R181 to R187, R207). -/
def execFailWordDelivery (s : State) : Out :=
  .next <|
    match nextFail s.fails with
    | none => s
    | some f =>
      let d := f.ch / 576
      let st := f.site
      let b := fsB d st
      let k := d * 16 + st
      let s := ({ s with fails := s.fails.erase f }).countSuppressed f
      let s := match (List.range 16).find? fun p => s.siteOfPsq p == some st with
        | some p =>
          let s := if f.bits ≠ 0 ∧ (s.psq p).clrAt ≤ f.due then s.wr (psqB p) PSQ_STAT.SFF 1 else s
          s.matchDelivery p f
        | none => s
      -- a late delivery of the run before is not the new run's first (R184)
      let s := if (s.fsx k).autoPend ∧ (s.fsx k).runAt ≤ f.pclk then (s.setFsx k { s.fsx k with autoPend := false }).fsClear d st else s
      let s := s.count2 (fcuB d + f.ch % 576 * 8) FC_LO.V FC_HI.V (popBits 32 f.bits)
      if f.bits = 0 then s
      else
        let s := s.count2 b FS_TOTAL_LO.V FS_TOTAL_HI.V
        let t := s.fcuTag (tagKey d st f.pclk)
        let pois := bitAt t 48
        let s := if pois then (s.count b FS_TAGPOIS.V).raise d 57 (some st) d else s
        if s.siteState st = siteRESETTING then s.count b FS_PURGED.V
        else
          s.fcuEntry d { kind := .fail, site := st, ch := f.ch, word := f.bits, c := f.c, tick := f.tick,
                         pclk := f.pclk, tag := t % 2 ^ 48, tagPois := pois } f.due

/-! ## Records (R190 to R197) -/

/-- The 16 bytes of a record. -/
def recordBytes (w0 w1 w2 w3 : Nat) : List Byte := leBytes 4 w0 ++ leBytes 4 w1 ++ leBytes 4 w2 ++ leBytes 4 w3

/-- The partial record line is written: it waits for its write response (R197). -/
def State.emitPart (s : State) (d st : Nat) : State :=
  let k := d * 16 + st
  let x := s.fsx k
  match x.part with
  | none => s
  | some l =>
    let s := s.setFsx k { x with part := none, out := x.out ++ [l] }
    (s.storeBytes (fcuWho d st) l.addr l.data false).2

/-- A record joins the site's record line; a full 64-byte line, or a step to another place, writes it (R190, R191, R197). -/
def State.addRecord (s : State) (d st : Nat) (first fail : Bool) (bytes : List Byte) : State :=
  let k := d * 16 + st
  let x := s.fsx k
  let base := s.fsBase d st FS_RBASE_LO.BASE FS_RBASE_HI.BASE
  let w := if first then x.firstMade else x.made
  let a := base + 16 * (if first then w else w % 2 ^ s.rd (fsB d st) FS_RSIZE.LOG2)
  let s := match x.part with
    | some l => if l.first = first ∧ l.addr + l.data.length = a then s else s.emitPart d st
    | none => s
  let x := s.fsx k
  let l : RecLine := match x.part with
    | some l => { l with data := l.data ++ bytes, next := w + 1, fails := l.fails + fail.toNat }
    | none => ⟨a, bytes, w + 1, first, fail.toNat⟩
  let s := s.setFsx k { x with
    part := some l
    made := if first then x.made else w + 1
    firstMade := if first then w + 1 else x.firstMade }
  if (a + 16) % 64 = 0 then s.emitPart d st else s

/-- TIME32 (R193). -/
def State.time32 (s : State) (d st : Nat) (e : FcuEnt) : Nat :=
  (if s.on (fsB d st) FS_CFG.TSEL then e.tick else e.c) % 2 ^ 32

/-- Free records of a LIST ring; records formed and not yet written count as taken (R191). -/
def State.ringRoom (s : State) (d st : Nat) : Nat :=
  2 ^ s.rd (fsB d st) FS_RSIZE.LOG2 - seqDiff 32 ((s.fsx (d * 16 + st)).made % 2 ^ 32) (s.rd (fsB d st) FS_RDPTR.RD)

/-- A TIME record is due before a record of this entry: it would be the first of its run, or the first after a PCLK with c[25:0] = 0 (R194). -/
def State.timeDue (s : State) (d : Nat) (e : FcuEnt) : Bool :=
  let x := s.fsx (d * 16 + e.site)
  (x.needTime && x.runAt + 8 * e.c == e.pclk) || e.c / 2 ^ 26 != x.lastC / 2 ^ 26

/-- The record `r` of a LIST entry, with a TIME and a DROP record before it where they are due, each written only into a ring that is not
full; none: the ring is full and the entry waits (R191, R194, R196). Beside the state stands the entry with what is left of it to do, if
anything. -/
def State.listRecords (s : State) (d : Nat) (e : FcuEnt) (r : List Byte) : Option (State × Option FcuEnt) :=
  let st := e.site
  let k := d * 16 + st
  if s.ringRoom d st = 0 then none
  else
    let s := if s.timeDue d e then
        let s := s.addRecord d st false false (recordBytes e.pclk (e.pclk / 2 ^ 32) e.c (bits e.c 32 16 + 2 * 2 ^ 28))
        s.setFsx k { s.fsx k with needTime := (s.fsx k).needTime && (s.fsx k).runAt + 8 * e.c != e.pclk, lastC := e.c }
      else s
    if s.ringRoom d st = 0 then some (s, some e)
    else
      let (s, e) := if e.drops = 0 then (s, e)
        else (s.addRecord d st false false (recordBytes e.drops (s.time32 d st e) 0 (bits e.drops 32 16 + 4 * 2 ^ 28)), { e with drops := 0 })
      if s.ringRoom d st = 0 then some (s, some e)
      else
        let s := s.addRecord d st false (decide (e.kind = .fail)) r
        some (s.setFsx k { s.fsx k with lastC := e.c }, none)

/-! ## The back end (R186, R189, R190, R202) -/

/-- One line of the combining cache takes bits; a full set of 16 ways first gives its least recently used line to the write-back
queue; none: that queue is full (R202; the set of a line is its number mod 4,096: notes/assumptions/26.md). -/
def State.cacheOr (s : State) (d line site bits : Nat) : Option State :=
  let x := s.fcu d
  match x.cache.find? fun l => l.line == line && l.site == site with
  | some l =>
    some (s.setFcu d { x with cache := (x.cache.filter fun m => m != l) ++ [{ l with data := l.data ||| bits }] })
  | none =>
    let set := x.cache.filter fun m => m.line % 4096 == line % 4096
    if set.length < 16 then some (s.setFcu d { x with cache := x.cache ++ [⟨line, site, bits, false⟩] })
    else if 256 ≤ x.wbq.length then none
    else
      match set.head? with
      | some old =>
        some (s.setFcu d { x with cache := (x.cache.filter fun m => m != old) ++ [⟨line, site, bits, false⟩], wbq := x.wbq ++ [old] })
      | none => none

/-- ORs the bits `js` of an entry, each mapped to a line and a bit of it; where the write-back queue is full the rest waits. -/
def State.mapBits (s : State) (d : Nat) (e : FcuEnt) (place : Nat → Nat) : List Nat → State × Option FcuEnt
  | [] => (s, none)
  | j :: js =>
    match s.cacheOr d (place j / 512) e.site (2 ^ (place j % 512)) with
    | some t => t.mapBits d e place js
    | none => (s, some { e with word := (j :: js).foldl (fun w j => w + 2 ^ j) 0 })

/-- The back end processes the head entry of a site; none: it waits. -/
def State.fcuProcess (s : State) (d : Nat) (e : FcuEnt) : Option (State × Option FcuEnt) :=
  let st := e.site
  let b := fsB d st
  let k := d * 16 + st
  let mode := s.fsMode d st
  match e.kind with
  | .flush =>
    let s := s.emitPart d st
    let x := s.fcu d
    let s := s.setFcu d { x with
      cache := x.cache.map fun l => if l.site = st then { l with flush := true } else l
      wbq := x.wbq.map fun l => if l.site = st then { l with flush := true } else l
      marks := x.marks.map fun l => if l.site = st then { l with flush := true } else l }
    some (s.setFsx k { s.fsx k with flushAhead := false }, none)
  | .marker =>
    if mode = modeLIST then
      s.listRecords d e (recordBytes e.evt (s.time32 d st e) e.pclk (bits e.pclk 32 16 + 3 * 2 ^ 28))
    else some (s, none)
  | .fail =>
    let kind := if e.tagPois then 5 else 1
    let r := recordBytes e.word (s.time32 d st e) e.tag (bits e.tag 32 16 + e.ch * 2 ^ 16 + kind * 2 ^ 28)
    if mode = modeFIRST then
      some (if (s.fsx k).firstMade < s.rd b FS_FIRSTN.N then s.addRecord d st true true r else s, none)
    else if mode = modeLIST then s.listRecords d e r
    else if mode = modeBITMAP then
      let i := e.ch % 576
      if !s.on (fcuB d + i * 4) FCU_CMAP.BMEN then some (s.count b FS_UNMAPPED.V, none)
      else if e.tagPois then some (s.wr b FS_STAT.TAGLOSS 1, none)
      else
        let g := s.geom d st
        let lane := s.rd (fcuB d + i * 4) FCU_CMAP.LANE
        let grp := s.rd (fcuB d + i * 4) FCU_CMAP.GRP
        let base := s.fsBase d st FS_BMBASE_LO.BASE FS_BMBASE_HI.BASE
        let z := s.mapBits d e (fun j => base * 8 + g.bitIndex (g.cell e.tag lane grp j)) ((List.range 32).filter fun j => bitAt e.word j)
        -- an entry whose first line already finds the queue full waits
        if z.2 = some e then none else some z
    else some (s, none)

/-- Up to 16 entries move from the intake to the FIFO, sites in rotation (R185). -/
def State.fcuMove (s : State) (d : Nat) : (n : Nat) → State
  | 0 => s
  | n + 1 =>
    let x := s.fcu d
    match (List.range 16).findSome? fun i => x.intake.find? fun e => e.site == (x.rotIn + i) % 16 with
    | some e => (s.setFcu d { x with intake := x.intake.erase e, fifo := x.fifo ++ [e], rotIn := (e.site + 1) % 16 }).fcuMove d n
    | none => s

/-- One PCLK of the back end: entries move up, and one site's head entry that can proceed is processed, sites in rotation (R185,
R186). -/
def execFcuBackendEntry (d : Fin 4) (s : State) : Out :=
  .next <|
    let s := s.fcuMove d 16
    let x := s.fcu d
    let pick := (List.range 16).findSome? fun i =>
      match x.fifo.find? fun e => e.site == (x.rotOut + i) % 16 with
      | some e => (s.fcuProcess d e).map fun t => (e, t)
      | none => none
    match pick with
    | some (e, t, rest) =>
      let y := t.fcu d
      let fifo := match rest with
        | none => y.fifo.erase e
        | some e' => y.fifo.replace e e'
      (t.setFcu d { y with fifo := fifo, rotOut := (e.site + 1) % 16 }).fcuOcc d
    | none => s.fcuOcc d

/-! ## Flush (R204) -/

/-- A flush of a site: merged into a PENDING one, refused with CMD_REJ while a result is unacknowledged; else the next number and
its place in the stream. -/
def State.fsFlush (s : State) (d st : Nat) : State :=
  let b := fsB d st
  let k := d * 16 + st
  if s.rd b FS_FLUSH_RES.STATUS = 1 then s
  else if !s.on b FS_FLUSH_RES.ACKD then s.wr b FS_STAT.CMD_REJ 1
  else
    let s := (((s.seqUp b FS_FLUSH_RES.SEQ).wr b FS_FLUSH_RES.STATUS 1).wr b FS_FLUSH_RES.VALID 0).wr b FS_FLUSH_RES.ACKD 0
    let s := s.setFsx k { s.fsx k with flushAhead := true }
    s.setFcu d { s.fcu d with intake := (s.fcu d).intake ++ [{ kind := .flush, site := st }] }

def execFsFlush (d : Fin 4) (st : Fin 16) (s : State) : Out := .next (s.atBlock .fcu d 0 fun s => s.fsFlush d st)

/-- Every write-back of a flush has returned: DONE (R204). -/
def execFsFlushDone (d : Fin 4) (st : Fin 16) (s : State) : Out :=
  .next <|
    let b := fsB d st
    let x := s.fcu d
    let y := s.fsx (d * 16 + st)
    let covered := fun (l : FcuLine) => l.site == st.val && l.flush
    if s.rd b FS_FLUSH_RES.STATUS = 1 ∧ !y.flushAhead ∧ y.out.isEmpty ∧
        !(x.cache.any covered || x.wbq.any covered || x.marks.any covered) then
      (s.wr b FS_FLUSH_RES.STATUS 2).wr b FS_FLUSH_RES.VALID 1
    else s

/-- FACK releases the flush result. -/
def State.fsFack (s : State) (d st : Nat) : State :=
  if s.on (fsB d st) FS_FLUSH_RES.VALID then s.wr (fsB d st) FS_FLUSH_RES.ACKD 1 else s
def execFsFack (d : Fin 4) (st : Fin 16) (s : State) : Out := .next (s.atBlock .fcu d 0 fun s => s.fsFack d st)

/-- The oldest TRIG marker of a site enters its stream: in BITMAP mode with MFLUSH and EVT[7] it is a flush (R195). -/
def execFcuMarkerEntry (d : Fin 4) (st : Fin 16) (s : State) : Out :=
  .next <|
    let x := s.fcu d
    match x.markers.find? fun m => m.1 == st.val with
    | none => s
    | some m =>
      let s := s.setFcu d { x with markers := x.markers.erase m }
      let (_, evt, c, tick) := m
      if s.siteState st = siteRESETTING then s
      else if s.fsMode d st = modeBITMAP then
        (if s.on (fsB d st) FS_CFG.MFLUSH && bitAt evt 7 then s.fsFlush d st else s)
      else
        let k := d * 16 + st.val
        let e : FcuEnt := { kind := .marker, site := st, evt := evt, c := c, tick := tick, pclk := tick, drops := (s.fsx k).drops }
        let s := s.setFsx k { s.fsx k with drops := 0 }
        s.setFcu d { s.fcu d with intake := (s.fcu d).intake ++ [e] }

/-! ## Write-backs and responses (R197, R202, R203, R207) -/

/-- The next line to write back: row marks first, then the queue, then the cache lines of a flush (R203, R204). -/
def FcuX.nextLine (x : FcuX) : Option (FcuLine × FcuX) :=
  match x.marks with
  | l :: ls => some (l, { x with marks := ls })
  | [] =>
    match x.wbq with
    | l :: ls => some (l, { x with wbq := ls })
    | [] =>
      match x.cache.find? (·.flush) with
      | some l => some (l, { x with cache := x.cache.filter fun m => m != l })
      | none => none

/-- A line is written back by atomic line-OR; a refused one leaves the bitmap no superset any more: BMINVAL (R202, R207). -/
def execFcuWriteback (d : Fin 4) (s : State) : Out :=
  .next <|
    match (s.fcu d).nextLine with
    | none => s
    | some (l, x) =>
      let (e, s) := (s.setFcu d x).lineOr (fcuWho d l.site) (l.line * 64) l.data false
      let s := if e.isSome then s.wr (fsB d l.site) FS_STAT.BMINVAL 1 else s
      s.fcuOcc d

/-- The oldest outstanding record line's write response returns: FS_WRPTR or the FIRST index moves past its records; RING_FULL and
FIRST_DONE follow (R190, R191, R197). -/
def State.ringFull (s : State) (d st : Nat) : State :=
  let b := fsB d st
  s.wrb b FS_STAT.RING_FULL (2 ^ s.rd b FS_RSIZE.LOG2 ≤ seqDiff 32 (s.rd b FS_WRPTR.WR) (s.rd b FS_RDPTR.RD))

def execFcuWriteResponse (d : Fin 4) (st : Fin 16) (s : State) : Out :=
  .next <|
    let k := d * 16 + st.val
    let b := fsB d st
    let x := s.fsx k
    match x.out with
    | [] => s
    | l :: ls =>
      if l.first then
        let s := s.setFsx k { x with out := ls, firstDone := l.next }
        if s.rd b FS_FIRSTN.N ≤ l.next then s.wr b FS_STAT.FIRST_DONE 1 else s
      else ((s.setFsx k { x with out := ls }).wr b FS_WRPTR.WR l.next).ringFull d st

/-- 256 PCLK pass with no further record: the partial record line is written (R197). -/
def execFcuPartialLineTimeout (d : Fin 4) (st : Fin 16) (s : State) : Out := .next (s.emitPart d st)

/-! ## FS_CTL and the counters -/

/-- FRESET: FIRST capture restarts at record 0 (R190). -/
def State.fsFreset (s : State) (d st : Nat) : State :=
  let k := d * 16 + st
  let x := s.fsx k
  let s := (s.wr (fsB d st) FS_STAT.FIRST_DONE 0).wr (fsB d st) FS_STAT.FIRST_GAP 0
  s.setFsx k { x with firstMade := 0, firstDone := 0
                      part := x.part.filter fun l => !l.first, out := x.out.filter fun l => !l.first }
def execFsFreset (d : Fin 4) (st : Fin 16) (s : State) : Out := .next (s.atBlock .fcu d 0 fun s => s.fsFreset d st)

/-- CCLR clears the site's counters (R184). -/
def execFsCclr (d : Fin 4) (st : Fin 16) (s : State) : Out := .next (s.atBlock .fcu d 0 fun s => s.fsClear d st)

/-- The site has entries in the intake or the FIFO; it owns lines. -/
def State.fcuHolds (s : State) (d st : Nat) : Bool := ((s.fcu d).intake ++ (s.fcu d).fifo).any fun e => e.site == st
def State.fcuLines (s : State) (d st : Nat) : Bool :=
  ((s.fcu d).cache ++ (s.fcu d).wbq ++ (s.fcu d).marks).any fun l => l.site == st
/-- A site's PSQ has RUNNING = 1. -/
def State.siteRunning (s : State) (st : Nat) : Bool :=
  s.on (siteB st) SITE_CFG.EN && s.on (psqB (s.rd (siteB st) SITE_CFG.PSQ)) PSQ_STAT.RUNNING

/-- BMCLR clears the block flags and the coarse status, or is refused with CMD_REJ (R205). -/
def State.fsBmclr (s : State) (d st : Nat) : State :=
  let b := fsB d st
  if s.siteRunning st || s.fcuHolds d st || s.fcuLines d st || s.rd b FS_FLUSH_RES.STATUS == 1 then s.wr b FS_STAT.CMD_REJ 1
  else
    let s := s.setFcu d { s.fcu d with flags := (s.fcu d).flags.filter fun f => f.1 != st }
    s.each [FS_STAT.COARSENED, FS_STAT.BLKCOARSE, FS_STAT.TAGLOSS, FS_STAT.BMINVAL] fun f s => s.wr b f 0
def execFsBmclr (d : Fin 4) (st : Fin 16) (s : State) : Out := .next (s.atBlock .fcu d 0 fun s => s.fsBmclr d st)

/-- A write to FS_RDPTR: out of range it is a reserved encoding (R191). -/
def State.fsRdptr (s : State) (d st : Nat) (v : Word) : State :=
  let b := fsB d st
  if 2 ^ s.rd b FS_RSIZE.LOG2 < seqDiff 32 (s.rd b FS_WRPTR.WR) v.toNat then s.rsvw (fcuB d)
  else (s.wr b FS_RDPTR.RD v.toNat).ringFull d st
def execFsRdptrWrite (d : Fin 4) (st : Fin 16) (v : Word) (s : State) : Out := .next (s.atBlock .fcu d 0 fun s => s.fsRdptr d st v)

/-- FCU_CCLR: ALL, or the counter IDX (register map). -/
def State.fcuCclr (s : State) (d : Nat) (v : Word) : State :=
  let n := v.toNat
  let s := s.rsvBits (fcuB d) (2 ^ 31 + 0x3FF) n
  let idx := if bitAt n 31 then List.range 576 else (List.range 576).filter (· == n % 1024)
  s.each idx fun i s => s.wr2 (fcuB d + i * 8) FC_LO.V FC_HI.V 0
def execFcuCclr (d : Fin 4) (v : Word) (s : State) : Out := .next (s.atBlock .fcu d 0 fun s => s.fcuCclr d v)

/-! ## Site reset and the commit check (R199, R207, R208) -/

/-- A site reset at one partition: entries, lines and the partial record line are discarded; the fail entries among them, those already
made into records of that line too, are counted in FS_PURGED (R206, R207). -/
def State.fcuPurge (s : State) (d st : Nat) : State :=
  let b := fsB d st
  let k := d * 16 + st
  let x := s.fcu d
  let mine := fun (e : FcuEnt) => e.site == st
  let gone := (x.intake ++ x.fifo).filter mine
  let ents := (gone.filter fun e => decide (e.kind = .fail)).length
  let lines := ((x.cache ++ x.wbq ++ x.marks).filter fun l => l.site == st).length
  let s := s.setFcu d { x with
    intake := x.intake.filter fun e => !mine e
    fifo := x.fifo.filter fun e => !mine e
    cache := x.cache.filter fun l => l.site != st
    wbq := x.wbq.filter fun l => l.site != st
    marks := x.marks.filter fun l => l.site != st
    markers := x.markers.filter fun m => m.1 != st }
  let y := s.fsx k
  let s := s.setFsx k { y with
    part := none, flushAhead := false
    -- the drops that the discarded entries were to tell are still to be told (R196)
    drops := y.drops + (gone.map (·.drops)).sum
    made := match y.part with
      | some l => if l.first then y.made else l.next - l.data.length / 16
      | none => y.made
    firstMade := match y.part with
      | some l => if l.first then l.next - l.data.length / 16 else y.firstMade
      | none => y.firstMade }
  let s := (s.count b FS_PURGED.V (ents + (y.part.elim 0 (·.fails)))).count b FS_PURGED_LINES.V lines
  let s := s.wr b FS_STAT.BMINVAL 1
  let s := if s.rd b FS_FLUSH_RES.STATUS = 1 then (s.wr b FS_FLUSH_RES.STATUS 3).wr b FS_FLUSH_RES.VALID 1 else s
  s.fcuOcc d

/-- The staged value of some field of a site differs from the active one. -/
def State.fsChanged (s : State) (d st : Nat) : Bool := !(KV.range ((fsB d st + 0x100) * 32) ((fsB d st + 0x180) * 32) s.stg).isEmpty

/-- The commit check of an FCU: quotas within the FIFO; a changed site idle and empty, its geometry within R199, and in BITMAP mode its
bitmap and row map within its DRAM window. -/
def State.fcuCheck (s : State) (d : Nat) : Bool :=
  ((List.range 16).map fun st => s.staged (fsB d st) FS_QUOTA.QUOTA).sum ≤ 65536 &&
  (List.range 16).all fun st =>
    let b := fsB d st
    let row := s.geomFields s.staged d st 0
    let col := s.geomFields s.staged d st 1
    let blk := s.geomFields s.staged d st 2
    let rw := coordWidth row
    let cw := coordWidth col
    let bw := coordWidth blk
    let bm := s.staged b FS_BMBASE_LO.BASE * 4096 + s.staged b FS_BMBASE_HI.BASE * 2 ^ 32
    let rm := s.staged b FS_RMBASE_LO.BASE * 4096 + s.staged b FS_RMBASE_HI.BASE * 2 ^ 32
    !s.fsChanged d st ||
    (!s.siteRunning st && !s.fcuHolds d st &&
     fieldsOk row && fieldsOk col && fieldsOk blk && widthsOk rw cw bw &&
     (s.staged b FS_CFG.MODE != modeBITMAP || !s.on (siteB st) SITE_CFG.EN ||
        s.inSiteWindow st bm && s.inSiteWindow st (bm + 2 ^ (bw + rw + cw - 3) - 1) &&
        s.inSiteWindow st rm && s.inSiteWindow st (rm + max 64 (2 ^ (bw + rw) / 8) - 1)))

/-- A commit may have changed the ring sizes (R191). -/
def State.fcuCommitted (s : State) (d : Nat) : State := s.each (List.range 16) fun st s => s.ringFull d st

end Sys2Proof.Machine
end

