-- ==== Sys2Proof/Machine/Rae.lean ====
section
/-! DEFINITION. Repair analysis (06_fail_capture_and_repair.md R209 to R225): job slots, the descriptor and its checks, the input
from a bitmap or a fail list, must-repair, the early tests, the search, and the results. -/
namespace Sys2Proof.Machine

/-! ## Result classes (R214) -/
def classPENDING : Nat := 1
def classREPAIRABLE : Nat := 2
def classUNREPAIRABLE : Nat := 3
def classUNDECIDED : Nat := 4
def classCANCELLED : Nat := 5
def classCOARSE : Nat := 6
def classREJECTED : Nat := 7
def classERROR : Nat := 8

/-! ## The job descriptor (R210) -/

/-- The geometry words of a descriptor as coordinate fields; the words have the FS_GEOM layout (R199). -/
def descGeom (desc : List Byte) : Geom :=
  let f := fun (w : Nat) (x : Fld) => bits (leAt desc (0x48 + 4 * w) 4) x.lsb x.width
  let c := fun (k : Nat) =>
    [(f (2 * k) FS_GEOM.SRC0, f (2 * k) FS_GEOM.POS0, f (2 * k) FS_GEOM.WID0),
     (f (2 * k) FS_GEOM.SRC1, f (2 * k) FS_GEOM.POS1, f (2 * k) FS_GEOM.WID1),
     (f (2 * k + 1) FS_GEOM.SRC0, f (2 * k + 1) FS_GEOM.POS0, f (2 * k + 1) FS_GEOM.WID0),
     (f (2 * k + 1) FS_GEOM.SRC1, f (2 * k + 1) FS_GEOM.POS1, f (2 * k + 1) FS_GEOM.WID1)]
  ⟨c 0, c 1, c 2⟩

/-- The defined bits of an FS_GEOM word. -/
def geomMask : Nat :=
  [FS_GEOM.SRC0, FS_GEOM.POS0, FS_GEOM.WID0, FS_GEOM.SRC1, FS_GEOM.POS1, FS_GEOM.WID1].foldl
    (fun m f => m ||| (2 ^ f.width - 1) * 2 ^ f.lsb) 0

/-- The job reads a list. -/
def descList (desc : List Byte) : Bool := bitAt (leAt desc 0x06 2) 0

/-- Why a readable descriptor is rejected: the lowest SUB that holds (R211, R215); addresses beyond 40 bits and die bits beyond
3 are values the table does not state (notes/assumptions/27.md). BMINVAL is looked at on the dies of FWAIT. -/
def State.descReject (s : State) (st : Nat) (desc : List Byte) : Option Nat :=
  let f := leAt desc
  let g := descGeom desc
  let lst := descList desc
  if f 0x00 4 ≠ 0x314A4152 ∨ f 0x04 2 ≠ 1 then some 0
  else if f 0x06 2 / 4 ≠ 0 ∨ f 0x16 2 ≠ 0 ∨ f 0x1C 1 / 16 ≠ 0 ∨ f 0x1D 3 ≠ 0 ∨ f 0x3C 4 ≠ 0 ∨
      ([0x28, 0x30, 0x40, 0x60].any fun o => 2 ^ 40 ≤ f o 8) ∨ f 0x60 8 % 4 ≠ 0 ∨
      ((List.range 6).any fun w => (f (0x48 + 4 * w) 4 ||| geomMask) != geomMask) then some 1
  else if !(fieldsOk g.row && fieldsOk g.col && fieldsOk g.blk && widthsOk g.rw g.cw g.bw) ∨ 2 ^ g.bw ≤ f 0x08 4 ∨
      f 0x0C 4 = 0 ∨ 2 ^ g.rw < f 0x0C 4 ∨ f 0x10 4 = 0 ∨ 2 ^ g.cw < f 0x10 4 then some 2
  else if 128 < f 0x14 1 ∨ 128 < f 0x15 1 then some 3
  else if (if lst then f 0x38 4 = 0 ∨ 2 ^ 26 < f 0x38 4 ∨ f 0x30 8 ≠ 0 else f 0x38 4 ≠ 0 ∨ f 0x40 8 ≠ 0) then some 4
  else if !s.inSiteWindow st (f 0x60 8) then some 5
  else if (List.range 4).any fun d => bitAt (f 0x1C 1) d && s.on (fsB d st) FS_STAT.BMINVAL then some 6
  else none

/-- Where a job stands with the flushes of FWAIT (R212): every wait met, some wait open, or an awaited flush ABORTED. -/
inductive FlushWait where
  | met | open_ | aborted
  deriving DecidableEq, Repr

def State.flushWait (s : State) (st : Nat) (desc : List Byte) : FlushWait :=
  (List.range 4).foldl (fun w d =>
    if w = .aborted ∨ !bitAt (leAt desc 0x1C 1) d then w
    else
      let b := fsB d st
      let diff := seqDiff 16 (s.rd b FS_FLUSH_RES.SEQ) (leAt desc (0x20 + 2 * d) 2)
      let status := s.rd b FS_FLUSH_RES.STATUS
      if 32768 ≤ diff then .open_
      else if diff = 0 ∧ status = 3 then .aborted
      else if diff = 0 ∧ status ≠ 2 then .open_
      else w) .met

/-! ## Slots -/

def State.slotClass (s : State) (r n : Nat) : Nat := s.rd (rjB r n) RJ_RES.CLASS
def State.slotSite (s : State) (r n : Nat) : Nat := s.rd (rjB r n) RJ_RES.SITE
def State.slotAddr (s : State) (r n : Nat) : Nat := s.rd2 (rjB r n) RJ_ADDR_LO.ADDR RJ_ADDR_HI.ADDR

/-- The engine as an initiator with a slot's site. -/
def State.raeWho (s : State) (r n : Nat) : Who := ⟨.rae (Fin.ofNat 8 r), false, some (Fin.ofNat 16 (s.slotSite r n))⟩

/-- RAE_STAT follows the queue and the running slot. -/
def State.raeStat (s : State) (r : Nat) : State :=
  let x := s.rae r
  let s := s.wrb (raeB r) RAE_STAT.BUSY x.run.isSome
  let s := s.wr (raeB r) RAE_STAT.RUNSLOT (x.run.getD 0)
  s.wr (raeB r) RAE_STAT.QUEUED (x.queue.length + x.run.isSome.toNat)

/-- The slot's job leaves the queue or the engine. -/
def State.raeLeave (s : State) (r n : Nat) : State :=
  let x := s.rae r
  s.setRae r (if x.run = some n then { x with run := none, desc := [] } else { x with queue := x.queue.filter (· != n) })

/-- The slot's result registers are written together with VALID (R213); the job counts as ended. -/
def State.raeResult (s : State) (r n cls sub : Nat) (coarse optimal : Bool) (nodes rused cused : Nat) : State :=
  let b := rjB r n
  let s := ((s.wr b RJ_RES.CLASS cls).wr b RJ_RES.SUB sub).wrb b RJ_RES.COARSE coarse
  let s := (s.wrb b RJ_RES.OPTIMAL optimal).wr b RJ_NODES.V nodes
  let s := (s.wr b RJ_INFO.RUSED rused).wr b RJ_INFO.CUSED cused
  let s := (s.wr b RJ_RES.VALID 1).count (raeB r) RAE_CNT_JOBS.V
  (s.raeLeave r n).raeStat r

/-- RJ_CTL.GO: REJ while the slot is PENDING or unacknowledged, or the site is not ACTIVE; else a new job, whose SEQ and class go
into the descriptor (R209). -/
def State.rjGo (s : State) (r n st : Nat) : State :=
  let b := rjB r n
  if s.slotClass r n = classPENDING ∨ !s.on b RJ_RES.ACKD ∨ s.siteState st ≠ siteACTIVE then s.wr (raeB r) RAE_STAT.REJ 1
  else
    let s := (s.seqUp b RJ_RES.SEQ).wr b RJ_RES.CLASS classPENDING
    let s := ((s.wr b RJ_RES.VALID 0).wr b RJ_RES.ACKD 0).wr b RJ_RES.SITE st
    let s := s.setRae r { s.rae r with queue := (s.rae r).queue ++ [n] }
    let data := leBytes 2 (s.rd b RJ_RES.SEQ) ++ leBytes 1 classPENDING
    ((s.storeBytes (s.raeWho r n) (s.slotAddr r n + 0x68) data false).2).raeStat r
def execRjGo (r : Fin 8) (n st : Fin 16) (s : State) : Out := .next (s.atBlock .rae (r / 2) (r % 2) fun s => s.rjGo r n st)

/-- RJ_CTL.CANCEL: a PENDING job ends CANCELLED; nothing is written to memory (R223). -/
def State.rjCancel (s : State) (r n : Nat) : State :=
  if s.slotClass r n = classPENDING then s.raeResult r n classCANCELLED 0 false false 0 0 0 else s
def execRjCancel (r : Fin 8) (n : Fin 16) (s : State) : Out := .next (s.atBlock .rae (r / 2) (r % 2) fun s => s.rjCancel r n)

/-- RJ_CTL.ACK releases a result (R22). -/
def State.rjAck (s : State) (r n : Nat) : State :=
  if s.on (rjB r n) RJ_RES.VALID then s.wr (rjB r n) RJ_RES.ACKD 1 else s
def execRjAck (r : Fin 8) (n : Fin 16) (s : State) : Out := .next (s.atBlock .rae (r / 2) (r % 2) fun s => s.rjAck r n)

/-- Pattern-class credits of an engine's group at one memory port. -/
def State.raeCredits (s : State) (r : Nat) : Nat :=
  let g := 5 + r % 2
  s.rd (nocB (r / 2) + g * 4) (NOC_CRED.PCRED (r / 2) g)

/-- A site reset ends every job of the site on an engine; the DRAM requests a running job had on their way are purged, an open number
of at most the engines' pattern-class credits at the eight memory ports (R224, R403; notes/assumptions/4.md). -/
def State.raeCancelSite (s : State) (r st : Nat) : State :=
  let running := match (s.rae r).run with
    | some n => s.slotSite r n == st
    | none => false
  let s := if running then (s.drew).count (raeB r + st * 4) RAE_PURGED.V (s.free 11 % (8 * s.raeCredits r + 1)) else s
  s.each ((List.range 16).filter fun n => s.slotClass r n == classPENDING && s.slotSite r n == st) fun n s => s.rjCancel r n

/-! ## Ends without a verdict (R211, R214) -/

/-- Writes the result part of a descriptor, CLASS after every other field; none: an access was refused. -/
def State.descResults (s : State) (r n cls sub nodes ru cu fails mr mc cr : Nat) : Bool × State :=
  let a := s.slotAddr r n
  let w := s.raeWho r n
  let x := s.storeBytes w (a + 0x68) (leBytes 2 (s.rd (rjB r n) RJ_RES.SEQ)) false
  let y := x.2.storeBytes w (a + 0x6B) (leBytes 1 sub ++ leBytes 4 nodes ++ leBytes 2 ru ++ leBytes 2 cu ++ leBytes 4 fails ++
    leBytes 2 mr ++ leBytes 2 mc ++ leBytes 2 cr ++ leBytes 2 0) false
  let z := y.2.storeBytes w (a + 0x6A) (leBytes 1 cls) false
  (x.1.isNone && y.1.isNone && z.1.isNone, z.2)

def State.raeError (s : State) (r n sub : Nat) : State := s.raeResult r n classERROR sub false false 0 0 0
def State.raeReject (s : State) (r n sub : Nat) : State :=
  (s.descResults r n classREJECTED sub 0 0 0 0 0 0 0).2.raeResult r n classREJECTED sub false false 0 0 0

/-! ## The start of a job (R209, R211, R212) -/

/-- What the start of a queued slot meets. -/
inductive Start where
  | waits
  | outside
  | refused
  | poison
  | aborted
  | reads (desc : List Byte)
  deriving DecidableEq, Repr

def State.startOf (s : State) (r n : Nat) : Start × State :=
  let st := s.slotSite r n
  let a := s.slotAddr r n
  if !(s.inSiteWindow st a && s.inSiteWindow st (a + 127)) then (.outside, s)
  else
    let (g, t) := s.getBytes (s.raeWho r n) a 104
    if g.err.isSome then (.refused, t)
    else if g.poison then (.poison, t)
    else
      match s.flushWait st g.data with
      | .open_ => (.waits, s)
      | .aborted => (.aborted, t)
      | .met => (.reads g.data, t)

/-- The first job in GO order that does not wait starts: it reads its descriptor and runs, or ends REJECTED or ERROR. -/
def execRaeJobStart (r : Fin 8) (s : State) : Out :=
  .next <|
    if (s.rae r).run.isSome then s
    else
      match (s.rae r).queue.find? fun n => decide ((s.startOf r n).1 ≠ .waits) with
      | none => s
      | some n =>
        let st := s.slotSite r n
        match s.startOf r n with
        | (.outside, s) => s.raeResult r n classREJECTED 5 false false 0 0 0
        | (.refused, s) => s.raeError r n 1
        | (.poison, s) => (s.raise (r / 2) 59 (some st) (r % 2)).raeError r n 0
        | (.aborted, s) => s.raeError r n 2
        | (.waits, s) => s
        | (.reads desc, s) =>
          match s.descReject st desc with
          | some sub => s.raeReject r n sub
          | none =>
            let x := s.rae r
            (s.setRae r { x with queue := x.queue.filter (· != n), run := some n, desc := desc }).raeStat r

/-! ## Input (R216) -/

/-- The failing cells of a block: per row with a fail its column mask, rows rising; whether the input is coarse; the coarse rows; an
access was refused. -/
structure RaeIn where
  rows : List (Nat × Nat)
  coarse : Bool
  crows : Nat
  err : Bool
  deriving DecidableEq, Repr

/-- Reads a row's columns from `a`, 512 at a time: the mask, poison (the line counts as all ones), refusal. -/
def State.readRow (s : State) (w : Who) (a ncols : Nat) : (Nat × Nat × Bool) × State :=
  (List.range ((ncols + 511) / 512)).foldl (fun x k =>
    let (g, s) := x.2.getBytes w (a + 64 * k) 64
    let v := if g.poison then 2 ^ 512 - 1 else leVal g.data
    ((x.1.1 + v * 2 ^ (512 * k), x.1.2.1 + g.poison.toNat, x.1.2.2 || g.err.isSome), s)) ((0, 0, false), s)

/-- The coarse rows that the row map gives: per line of 512 rows its set bits, every row of a line read with poison. -/
def State.readRowMap (s : State) (w : Who) (base first nrows : Nat) : (List Nat × Nat × Bool) × State :=
  (List.range ((first + nrows + 511) / 512 - first / 512)).foldl (fun x k =>
    let line := first / 512 + k
    let (g, s) := x.2.getBytes w (base + 64 * line) 64
    let v := leVal g.data
    let rows := (List.range 512).filterMap fun i =>
      if first ≤ line * 512 + i ∧ line * 512 + i < first + nrows ∧ (g.poison ∨ bitAt v i) then some (line * 512 + i - first) else none
    ((x.1.1 ++ rows, x.1.2.1 + g.poison.toNat, x.1.2.2 || g.err.isSome), s)) (([], 0, false), s)

/-- Raises the poison source once for each poisoned line. -/
def State.raePoison (s : State) (r st n : Nat) : State := s.each (List.range n) fun _ s => s.raise (r / 2) 59 (some st) (r % 2)

/-- The input of a job from a bitmap. -/
def State.raeBitmap (s : State) (r n : Nat) (desc : List Byte) : RaeIn × State :=
  let st := s.slotSite r n
  let w := s.raeWho r n
  let g := descGeom desc
  let blk := leAt desc 0x08 4
  let nrows := leAt desc 0x0C 4
  let ncols := leAt desc 0x10 4
  let full := 2 ^ ncols - 1
  let ((marked, p1, e1), s) := s.readRowMap w (leAt desc 0x30 8) (blk * 2 ^ g.rw) nrows
  let all := (List.range 4).any fun d => s.siteOnDie d st && ((s.fcu d).flags.contains (st, blk) || s.on (fsB d st) FS_STAT.TAGLOSS)
  let (x, s) := (List.range nrows).foldl (fun (x : (List (Nat × Nat) × Nat × Bool) × State) row =>
    let a := leAt desc 0x28 8 + g.bitIndex (blk, row, 0) / 8
    let ((m, p, e), s) := x.2.readRow w a ncols
    let m := if all ∨ marked.contains row then full else m &&& full
    ((if m = 0 then x.1.1 else x.1.1 ++ [(row, m)], x.1.2.1 + p, x.1.2.2 || e), s)) (([], 0, false), s)
  let crows := if all then nrows else marked.length
  (⟨x.1, p1 + x.2.1 != 0 || crows != 0, crows, e1 || x.2.2⟩, s.raePoison r st (p1 + x.2.1))

/-- Adds a cell to rows that rise. -/
def addCell (row col : Nat) : List (Nat × Nat) → List (Nat × Nat)
  | [] => [(row, 2 ^ col)]
  | (r, m) :: rs =>
    if row < r then (row, 2 ^ col) :: (r, m) :: rs
    else if row = r then (r, m ||| 2 ^ col) :: rs
    else (r, m) :: addCell row col rs

/-- The cells of one record of a list; none: a FAILP record, which makes every row coarse. -/
def listCells (g : Geom) (cmap : List Byte) (blk nrows ncols : Nat) (rec : List Byte) (rows : List (Nat × Nat)) :
    Option (List (Nat × Nat)) :=
  let w3 := leAt rec 12 4
  let kind := w3 / 2 ^ 28
  let ch := bits w3 16 12
  let e := if ch < 2304 then leAt cmap (4 * ch) 4 else 0
  if kind = 5 then none
  else if kind ≠ 1 ∨ !bitAt e 16 then some rows
  else
    let tag := leAt rec 8 4 + w3 % 2 ^ 16 * 2 ^ 32
    some (((List.range 32).filter fun j => bitAt (leAt rec 0 4) j).foldl (fun rows j =>
      let x := g.cell tag (bits e 0 8) (bits e 8 8) j
      if x.1 = blk ∧ x.2.1 < nrows ∧ x.2.2 < ncols then addCell x.2.1 x.2.2 rows else rows) rows)

/-- The input of a job from a list; a record or a map entry read with poison makes every row coarse (notes/assumptions/28.md). -/
def State.raeList (s : State) (r n : Nat) (desc : List Byte) : RaeIn × State :=
  let st := s.slotSite r n
  let w := s.raeWho r n
  let g := descGeom desc
  let nrows := leAt desc 0x0C 4
  let ncols := leAt desc 0x10 4
  let (map, s) := s.getBytes w (leAt desc 0x40 8) 9216
  let (x, s) := (List.range (leAt desc 0x38 4)).foldl (fun (x : (Option (List (Nat × Nat)) × Nat × Bool) × State) i =>
    let (got, s) := x.2.getBytes w (leAt desc 0x28 8 + 16 * i) 16
    let rows := if got.poison then none
      else x.1.1.bind (listCells g map.data (leAt desc 0x08 4) nrows ncols got.data)
    ((rows, x.1.2.1 + got.poison.toNat, x.1.2.2 || got.err.isSome), s)) ((some [], 0, false), s)
  let s := s.raePoison r st (x.2.1 + map.poison.toNat)
  let rows := if map.poison then none else x.1
  let err := x.2.2 || map.err.isSome
  match rows with
  | some rows => (⟨rows, false, 0, err⟩, s)
  | none => (⟨(List.range nrows).map fun i => (i, 2 ^ ncols - 1), true, nrows, err⟩, s)

def State.raeInput (s : State) (r n : Nat) (desc : List Byte) : RaeIn × State :=
  if descList desc then s.raeList r n desc else s.raeBitmap r n desc

/-! ## Must-repair, early tests and search (R217 to R220) -/

/-- A state of assignment: the remaining cells (row and column mask, no empty mask), the assigned rows and columns. -/
structure Node where
  cells : List (Nat × Nat)
  rows : List Nat
  cols : List Nat
  deriving DecidableEq, Repr

/-- Spares and size of a block. -/
structure Spares where
  sr : Nat
  sc : Nat
  ncols : Nat
  opt : Bool
  deriving DecidableEq, Repr

/-- Assigns rows and columns together. -/
def Node.assign (x : Node) (rs cs : List Nat) : Node :=
  let colMask := cs.foldl (fun m c => m ||| 2 ^ c) 0
  ⟨(x.cells.filterMap fun e =>
      let m := e.2 - (e.2 &&& colMask)
      if rs.contains e.1 ∨ m = 0 then none else some (e.1, m)),
    x.rows ++ rs, x.cols ++ cs⟩

/-- Remaining cells of the node, and of a column. -/
def Node.count (P : Spares) (x : Node) : Nat := (x.cells.map fun e => popBits P.ncols e.2).sum
def Node.colCount (x : Node) (c : Nat) : Nat := (x.cells.filter fun e => bitAt e.2 c).length

/-- One round: the rows and columns that must be repaired, counted at its start (R217). -/
def Node.must (P : Spares) (x : Node) : List Nat × List Nat :=
  let fr := P.sr - x.rows.length
  let fc := P.sc - x.cols.length
  ((x.cells.filter fun e => fc < popBits P.ncols e.2).map (·.1), (List.range P.ncols).filter fun c => fr < x.colCount c)

/-- Rounds to the fixed point, or to more assigned lines than spares; how many rounds after the first began with more than 65,536
cells (each rescans the input). -/
def Node.rounds (P : Spares) : Nat → Node → Node × Nat
  | 0, x => (x, 0)
  | k + 1, x =>
    let (rs, cs) := x.must P
    if rs.isEmpty && cs.isEmpty then (x, 0)
    else
      let y := x.assign rs cs
      if P.sr < y.rows.length ∨ P.sc < y.cols.length then (y, 0)
      else
        let (z, n) := y.rounds P k
        (z, n + (65536 < y.count P : Bool).toNat)

/-- Which early test a node fails: MUST 0, COUNT 1, LINES 2 (R217, R218). -/
def Node.beyond (P : Spares) (x : Node) : Option Nat :=
  let fr := P.sr - x.rows.length
  let fc := P.sc - x.cols.length
  if P.sr < x.rows.length ∨ P.sc < x.cols.length then some 0
  else if 2 * fr * fc < x.count P then some 1
  else if fr + fc * fr < x.cells.length ∨ fc + fr * fc < ((List.range P.ncols).filter fun c => 0 < x.colCount c).length then some 2
  else none

/-- The lowest set bit of a mask among its first `n`. -/
def lowBit (m n : Nat) : Nat := ((List.range n).find? fun c => bitAt m c).getD 0

/-- The greedy lower bound of R220: cells in row-then-column order, no two in one row or column; from each row at most one. -/
def Node.bound (P : Spares) (x : Node) : Nat :=
  (x.cells.foldl (fun (a : Nat × Nat) e =>
    match (List.range P.ncols).find? fun c => bitAt e.2 c && !bitAt a.2 c with
    | some c => (a.1 + 1, a.2 + 2 ^ c)
    | none => a) (0, 0)).1

/-- The search so far: nodes visited, the best solution, whether the budget has run out or a first solution has ended it, and the
assignment of the node visited last. -/
structure Search where
  nodes : Nat := 0
  best : Option (List Nat × List Nat) := none
  out : Bool := false
  stop : Bool := false
  last : List Nat × List Nat := ([], [])
  deriving DecidableEq, Repr

/-- A branch is cut under OPT when its spares and the bound reach the best total (R220). -/
def Search.cut (P : Spares) (z : Search) (x : Node) (lb : Nat) : Bool :=
  P.opt && match z.best with
    | some b => b.1.length + b.2.length ≤ x.rows.length + x.cols.length + lb
    | none => false

/-- A solution ends the search, or under OPT is kept when it has fewer spares. -/
def Search.solved (P : Spares) (z : Search) (x : Node) : Search :=
  let better := match z.best with
    | some b => decide (x.rows.length + x.cols.length < b.1.length + b.2.length)
    | none => true
  { z with best := if better then some (x.rows, x.cols) else z.best, stop := !P.opt }

/-- Visits a node and its branches, depth first (R219, R220). The depth is at most the spares, plus one. -/
def visit (P : Spares) (budget : Nat) : Nat → Node → Search → Search
  | 0, _, z => z
  | k + 1, x, z =>
    if z.out ∨ z.stop then z
    else if budget ≤ z.nodes then { z with out := true }
    else
      let (x, _) := x.rounds P (P.sr + P.sc + 1)
      let z := { z with nodes := z.nodes + 1, last := (x.rows, x.cols) }
      if (x.beyond P).isSome then z
      else
        match x.cells with
        | [] => z.solved P x
        | e :: _ =>
          let lb := x.bound P
          let z := if x.rows.length < P.sr ∧ !z.cut P x lb then visit P budget k (x.assign [e.1] []) z else z
          if x.cols.length < P.sc ∧ !z.cut P x lb then visit P budget k (x.assign [] [lowBit e.2 P.ncols]) z else z

/-- A verdict on a block: class and SUB before coarse input is considered, optimality, nodes, lines, forced lines, rescans. -/
structure Verdict where
  cls : Nat
  sub : Nat
  optimal : Bool
  nodes : Nat
  rows : List Nat
  cols : List Nat
  mustr : Nat
  mustc : Nat
  rescans : Nat
  out : Bool
  deriving DecidableEq, Repr

/-- The whole analysis of the cells of a block (R217 to R220). With no cell left after must-repair no search runs; the forced lines
are minimal. -/
def solve (P : Spares) (budget : Nat) (cells : List (Nat × Nat)) : Verdict :=
  let x0 : Node := ⟨cells, [], []⟩
  let (x, n) := x0.rounds P (P.sr + P.sc + 1)
  match x.beyond P with
  | some sub => ⟨classUNREPAIRABLE, sub, false, 0, x.rows, x.cols, x.rows.length, x.cols.length, n, false⟩
  | none =>
    if x.cells.isEmpty then ⟨classREPAIRABLE, 0, P.opt, 0, x.rows, x.cols, x.rows.length, x.cols.length, n, false⟩
    else
      let z := visit P budget (P.sr + P.sc + 1) x {}
      match z.best with
      | some b => ⟨classREPAIRABLE, 0, P.opt && !z.out, z.nodes, b.1, b.2, x.rows.length, x.cols.length, n, z.out⟩
      | none =>
        if z.out then ⟨classUNDECIDED, 0, false, z.nodes, z.last.1, z.last.2, x.rows.length, x.cols.length, n, true⟩
        else ⟨classUNREPAIRABLE, 3, false, z.nodes, z.last.1, z.last.2, x.rows.length, x.cols.length, n, false⟩

/-! ## The end of a job (R213, R221, R222) -/

/-- Line numbers in ascending order. -/
def sortedLines (n : Nat) (xs : List Nat) : List Nat := (List.range n).filter xs.contains

/-- A number in a field of `w` bits: itself, or an open value where it does not fit (notes/assumptions/4.md). -/
def State.fit (s : State) (w v : Nat) : Nat := if v < 2 ^ w then v else s.free w

/-- The running job is solved. A budget that runs out is the command RAE_BUDGET_EXHAUSTED's case, every other end RAE_JOB_END's. -/
def State.raeFinish (s : State) (r : Nat) (exhausted : Bool) : State :=
  match (s.rae r).run with
  | none => s
  | some n =>
    let desc := (s.rae r).desc
    let (inp, t) := s.raeInput r n desc
    let P : Spares := ⟨leAt desc 0x14 1, leAt desc 0x15 1, leAt desc 0x10 4, bitAt (leAt desc 0x06 2) 1⟩
    let budget := if leAt desc 0x18 4 = 0 then 2 ^ 32 else leAt desc 0x18 4
    let v := solve P budget inp.rows
    if v.out ≠ exhausted then s
    else if inp.err then t.raeError r n 1
    else
      let s := t.each (List.range v.rescans) fun _ t => (t.raeInput r n desc).2
      let verdict := v.cls = classREPAIRABLE ∨ v.cls = classUNREPAIRABLE
      let cls := if inp.coarse ∧ verdict then classCOARSE else v.cls
      let sub := if inp.coarse ∧ v.cls = classUNREPAIRABLE then v.sub + 1 else v.sub
      let nrows := leAt desc 0x0C 4
      let list := (sortedLines nrows v.rows ++ sortedLines P.ncols v.cols).flatMap (leBytes 2)
      let list := if list.length % 4 = 0 then list else list ++ [0, 0]
      let (e, s) := if v.cls = classREPAIRABLE then s.storeBytes (s.raeWho r n) (leAt desc 0x60 8) list false else (none, s)
      let fails := min ((inp.rows.map fun x => popBits P.ncols x.2).sum) (2 ^ 32 - 1)
      let nodes := s.fit 32 v.nodes
      let ru := s.fit 16 v.rows.length
      let cu := s.fit 16 v.cols.length
      let (ok, s) := if e.isSome then (false, s)
        else s.descResults r n cls sub nodes ru cu fails (s.fit 16 v.mustr) (s.fit 16 v.mustc) (min inp.crows 65535)
      let s := if !ok then s.raeError r n 1
        else s.raeResult r n cls sub inp.coarse (v.optimal && cls == classREPAIRABLE) nodes (s.fit 8 v.rows.length)
          (s.fit 8 v.cols.length)
      s.drew

/-- The running job finishes its scan, must-repair and search. -/
def execRaeJobEnd (r : Fin 8) (s : State) : Out := .next (s.raeFinish r false)
/-- The running job's node budget runs out. -/
def execRaeBudgetExhausted (r : Fin 8) (s : State) : Out := .next (s.raeFinish r true)

end Sys2Proof.Machine
end

