-- ==== Sys2Proof/Machine/Image.lean ====
section
/-! DEFINITION. Configuration frames and images (09_configuration.md R274 to R286; header fields of firmware and key images,
10_sett_and_field_update.md R313): where frames lie, the checks of a header and of a frame record, keys and signatures. -/
namespace Sys2Proof.Machine

/-! ## Configuration memory (R274, R275, R296) -/

/-- Number of a frame, and its place in the model's byte map; configuration memory has no local address. -/
def frameNo (r col f : Nat) : Nat := (r * 64 + col) * 32 + f
def frameAddr (n : Nat) : Nat := 0x50000000000 + n * 1024
def frameExists (col f : Nat) : Bool := (col < 32 && f < 22) || (col == 0x3F && f < 20)

/-- `n` bytes of a frame as configuration memory holds them now, upsets included. -/
def State.frameRead (s : State) (no off n : Nat) : Nat := s.rdMem (frameAddr no + off) n ^^^ bits (s.upset no) (8 * off) (8 * n)

/-- Writes a frame. -/
def State.frameWrite (s : State) (no : Nat) (content : List Byte) : State := (s.putBytes (frameAddr no) content).setUpset no 0

/-- The configuration of a region is void. -/
def State.framesVoid (s : State) (r : Nat) : State :=
  { s with
    mem := KV.dropRange (frameAddr (frameNo r 0 0)) (frameAddr (frameNo (r + 1) 0 0)) s.mem
    upsets := KV.dropRange (frameNo r 0 0) (frameNo (r + 1) 0 0) s.upsets }

/-! ## Region frames (R244, R275) -/

/-- FG number of a region clock; region clock of a cluster. -/
def State.rclk (s : State) (r i : Nat) : Nat := s.frameRead (frameNo r 0x3F 0) i 1 % 32
def State.clusterClock (s : State) (r col row : Nat) : Nat :=
  let k := 2 * (col * 16 + row)
  bits (s.frameRead (frameNo r 0x3F 0) (68 + k / 8) 1) (k % 8) 2
/-- The FG that clocks a cluster by the content of its region's FRAME 0. -/
def clusterFg (frame0 : List Byte) (col row : Nat) : Nat :=
  let k := 2 * (col * 16 + row)
  leAt frame0 (bits (leAt frame0 (68 + k / 8) 1) (k % 8) 2) 1 % 32

/-! ## The content check of a frame (R229, R245, R275, R283 WHY 5) -/

/-- Every slot word of a slot frame is legal. -/
def slotsLegal (f : Nat) (content : List Byte) : Bool :=
  (List.range 4).all fun r => (List.range 16).all fun c => (List.range 4).all fun k =>
    insnLegal (4 * f + r) c (leAt content ((r * 16 + c) * 16 + k * 4) 4)

/-- The bytes of a range are zero. -/
def zeroFrom (bs : List Byte) (lo hi : Nat) : Bool := ((bs.drop lo).take (hi - lo)).all (· == 0)

/-- Reserved bits zero, RCLK entries 0 to 23, slot words legal. -/
def contentLegal (col f : Nat) (content : List Byte) : Bool :=
  if col < 32 ∧ f < 4 then slotsLegal f content
  else if col < 32 ∧ f = 4 then
    (List.range 256).all (fun i => leAt content (3 * i + 2) 1 < 16) && zeroFrom content 784 1024
  else if col = 0x3F ∧ f = 0 then
    (List.range 4).all (fun i => leAt content i 1 < 24) && (List.range 32).all (fun m => leAt content (5 + 2 * m) 1 < 8) &&
    zeroFrom content 196 1024
  else Config.frameReservedZero col f content

/-- An FG clock of a die runs from PAT at 1:1. -/
def State.fgPat (s : State) (d fg : Nat) : Bool :=
  let b := ckpB d + (16 + fg) * 4
  s.rd b (CKP_DOM.SRC d (16 + fg)) == 9 && s.rd b (CKP_DOM.DIV d (16 + fg)) == 0

/-- The PCLK-port rule of R245 for a frame of region `r` beside the region's FRAME 0: every cluster that it connects to a PCLK port runs
on an FG from PAT at 1:1. -/
def State.pclkOk (s : State) (r col f : Nat) (content frame0 : List Byte) : Bool :=
  (Config.framePclkClusters col f content).all fun c => s.fgPat (r / 64) (clusterFg frame0 c.1 c.2)

/-- A loaded region of a die uses an FG for a PCLK port (R245). -/
def State.fgUsed (s : State) (d fg : Nat) : Bool :=
  (List.range 64).any fun n =>
    let r := d * 64 + n
    s.rd (frB r) FR_STAT.STATE == 2 &&
    (List.range 2048).any fun k =>
      frameExists (k / 32) (k % 32) &&
      (Config.framePclkClusters (k / 32) (k % 32) (s.bytes (frameAddr (r * 2048 + k)) 1024)).any fun c =>
        clusterFg (s.bytes (frameAddr (frameNo r 0x3F 0)) 1024) c.1 c.2 == fg

/-- A loaded region of the package connects a crossing port (R502). -/
def State.crossingUsed (s : State) : Bool :=
  (List.range 256).any fun r =>
    s.rd (frB r) FR_STAT.STATE == 2 &&
    (List.range 2048).any fun k =>
      frameExists (k / 32) (k % 32) && Config.frameCrossing (k / 32) (k % 32) (s.bytes (frameAddr (r * 2048 + k)) 1024)

/-! ## Headers (R276, R277, R281) -/

def hdrKind (h : List Byte) : Nat := leAt h 0x0C 1
def hdrFrames (h : List Byte) : Nat := leAt h 0x1C 4
def hdrLen (h : List Byte) : Nat := leAt h 0x20 8
def hdrAbort (h : List Byte) : Bool := leAt h 0x0D 1 == 1
/-- The regions that an image loads, and their dies. -/
def hdrRegions (h : List Byte) : List Nat := (List.range 256).filter fun n => bitAt (leAt h (0x58 + n / 8) 1) (n % 8)
def hdrDies (h : List Byte) : List Nat := (List.range 4).filter fun d => (hdrRegions h).any fun r => r / 64 == d

/-- What an image and a firmware header share: FMTVER, HDRLEN, flags, SERIAL, key selectors, reserved bytes. -/
def hdrCommon (h : List Byte) : Bool :=
  leAt h 0x04 2 == 1 && leAt h 0x06 2 == 0x100 && leAt h 0x0E 2 < 2 && (leAt h 0x0E 2 == 1 || leAt h 0x10 8 == 0) &&
  leAt h 0x28 1 ≤ 3 && leAt h 0x29 1 ≤ 1 && zeroFrom h 0x2A 0x30 && zeroFrom h 0x80 0xA0

/-- Step 1 of R281 with R277. -/
def imageFormat (h : List Byte) : Bool :=
  let n := (hdrRegions h).length
  leAt h 0x00 4 == 0x4D495847 && hdrCommon h && leAt h 0x0D 1 ≤ 1 &&
  (hdrKind h == 1 && 1 ≤ n || hdrKind h == 2 && (hdrDies h).length == 1 || hdrKind h == 3 && n == 1) &&
  hdrFrames h == 724 * n && hdrLen h == 256 + hdrFrames h * 1072

/-- Installed keys (R279). -/
def State.kek (s : State) (sel : Nat) : Option (BitVec 256) :=
  if sel = 0 then some Config.familyKek
  else if s.keyOf 0 = [] then none
  else some (BitVec.ofNat 256 (leVal (s.keyOf 0)))
def State.sigKey (s : State) (sel : Nat) : Option (List Byte) :=
  if sel = 0 then some Config.tlanasKey else if s.keyOf sel = [] then none else some (s.keyOf sel)

/-- The content key of a header, when it unwraps. -/
def State.contentKey (s : State) (h : List Byte) : Option (BitVec 256) :=
  (s.kek (leAt h 0x29 1)).bind fun k => Config.keyUnwrap k (BitVec.ofNat 320 (leAt h 0x30 40))

/-- Steps 2 to 4 of R281: 0 passed, else 1 type, 2 serial, 3 key. -/
def State.headerIdentity (s : State) (h : List Byte) : Nat :=
  if leAt h 0x08 4 ≠ 0x6A1C2304 then 1
  else if leAt h 0x0E 2 = 1 ∧ leAt h 0x10 8 ≠ Config.unitSerial.toNat then 2
  else if (s.contentKey h).isNone ∨ (s.sigKey (leAt h 0x28 1)).isNone then 3
  else 0

/-- The signature of an image: over header bytes 0x00 to 0x9F and everything after the header (R280); r and s are big-endian. -/
def State.signatureOk (s : State) (img : List Byte) : Bool :=
  match s.sigKey (leAt img 0x28 1) with
  | none => false
  | some key =>
    Config.ecdsaVerify key (Config.sha384 (img.take 0xA0 ++ img.drop 0x100))
      (BitVec.ofNat 384 (leVal ((img.drop 0xA0).take 48).reverse)) (BitVec.ofNat 384 (leVal ((img.drop 0xD0).take 48).reverse))

/-! ## Frame records (R278, R283) -/

/-- The plaintext of a record under a content key, when its tag verifies. -/
def recordOpen (key : BitVec 256) (rec : List Byte) : Option (List Byte) :=
  Config.gcmOpen key (BitVec.ofNat 96 (leAt rec 0x08 12)) (rec.take 8) ((rec.drop 0x20).take 1024) (BitVec.ofNat 128 (leAt rec 0x420 16))

/-- The checks of a record in their order: the first WHY that fails, or the frame's number and content (R283). `seen` are the frames
written earlier in this load, `frame0` gives the FRAME 0 among them of a region. -/
def State.recordCheck (s : State) (key : BitVec 256) (regions seen : List Nat) (frame0 : Nat → List Byte) (poison : Bool)
    (rec : List Byte) : Nat ⊕ (Nat × List Byte) :=
  let r := leAt rec 0 1
  let col := leAt rec 1 1
  let f := leAt rec 2 1
  let no := frameNo r col f
  if !(regions.contains r && frameExists col f) then .inl 1
  else if leAt rec 4 2 ≠ 0x400 ∨ !(zeroFrom rec 3 4 && zeroFrom rec 6 8 && zeroFrom rec 0x18 0x20) then .inl 2
  else
    match recordOpen key rec with
    | none => .inl 3
    | some content =>
      let first := col = 0x3F ∧ f = 0
      if crc32c content ≠ leAt rec 0x14 4 then .inl 4
      else if !contentLegal col f content ∨ (!first ∧ seen.contains (frameNo r 0x3F 0) ∧ !s.pclkOk r col f content (frame0 r)) then .inl 5
      else if seen.contains no then .inl 6
      else if poison then .inl 7
      else if !first ∧ !seen.contains (frameNo r 0x3F 0) then .inl 8
      else .inr (no, content)

/-! ## Sett slots as a source (R287, R298, R303) -/

/-- Start of an image slot (0 A, 1 B) of a die. -/
def settAddr (d : Nat) : Nat := 0x4100000000 + d * 0x8000000
def imageSlot (d k : Nat) : Nat := settAddr d + k * 0x3000000

/-- Bytes of a die's Sett as the device's own readers find them: the bytes, and whether some line of them is uncorrectable (R304).
What such a read leaves is State.settRead. -/
def State.settGet (s : State) (d o n : Nat) : List Byte × Bool := (s.bytes (settAddr d + o) n, s.settBad d o n)

/-- The content of a frame record read from Sett: none when the record reads with poison, or fails its tag or CRC (R299, R300). -/
def State.settRecord (s : State) (d o : Nat) (key : BitVec 256) : Option (List Byte) :=
  let g := s.settGet d o 1072
  if g.2 then none
  else (recordOpen key g.1).bind fun c => if crc32c c = leAt g.1 0x14 4 then some c else none

/-- The offset in a die's Sett of the record of a frame in the image of a slot. -/
def State.settRecordAt (s : State) (slot no : Nat) : Option Nat :=
  let d := no / 2048 / 64
  let o := slot * 0x3000000
  ((List.range (hdrFrames (s.settGet d o 256).1)).map fun i => o + 256 + i * 1072).find? fun a =>
    let h := (s.settGet d a 3).1
    leAt h 0 1 == no / 2048 && leAt h 1 1 == no / 32 % 64 && leAt h 2 1 == no % 32

/-- The content of a frame in the image of a slot, for a repair or a rewrite; and what reading it leaves in Sett. -/
def State.settFrame (s : State) (slot no : Nat) : Option (List Byte) × State :=
  let d := no / 2048 / 64
  match s.contentKey (s.settGet d (slot * 0x3000000) 256).1, s.settRecordAt slot no with
  | some key, some o => (s.settRecord d o key, s.settRead d o 1072)
  | _, _ => (none, s)

/-- The frames of one region rewritten from the image in a Sett slot (R256, R509): those whose records open and match their CRC. -/
def State.framesFromSett (s : State) (r slot : Nat) : State :=
  let d := r / 64
  let o := slot * 0x3000000
  let h := (s.settGet d o 256).1
  match s.contentKey h with
  | none => s
  | some key =>
    s.each (List.range (hdrFrames h)) fun i s =>
      let a := o + 256 + i * 1072
      let h := (s.settGet d a 3).1
      if leAt h 0 1 ≠ r then s
      else
        let s' := s.settRead d a 1072
        match s.settRecord d a key with
        | some content => s'.frameWrite (frameNo r (leAt h 1 1) (leAt h 2 1)) content
        | none => s'

end Sys2Proof.Machine
end

