-- ==== Sys2Proof/Machine/Routing.lean ====
section
/-! DEFINITION. Fabric routing (07_programmable_fabric.md R240 to R245, R252): what reaches the inputs of a cell over crossbar, segments and
global lines, the pipeline registers of global lines, and the fabric crossings between dies. The layout of the routing settings is the
device database's (R275): Config.crossbar to Config.undrivenBus. -/
namespace Sys2Proof.Machine

open Sys2Proof (CellIn Side Tap BusSrc)

/-! ## Places (R28, R226) -/

/-- Own coordinates of a package region on its die, and the region at own coordinates (R28). -/
def ownXY (r : Nat) : Nat × Nat :=
  let dx := r % 8
  let dy := r % 64 / 8
  match r / 64 with
  | 0 => (dx, dy)
  | 1 => (dy, 7 - dx)
  | 2 => (7 - dx, 7 - dy)
  | _ => (7 - dy, dx)
def regionAt (d x y : Nat) : Nat :=
  d * 64 + match d with
    | 0 => 8 * y + x
    | 1 => 8 * x + (7 - y)
    | 2 => 8 * (7 - y) + (7 - x)
    | _ => 8 * (7 - x) + y

/-- A cluster: package region, logical column, row. -/
structure Cluster where
  region : Nat
  col : Nat
  row : Nat
  deriving DecidableEq, Repr

/-- Number of a cell of a cluster. -/
def Cluster.cell (c : Cluster) (pos : Nat) : Nat := c.region * 8192 + c.col * 256 + c.row * 16 + pos

/-- A place moved `k` to a side on a grid of `w` by `h`, if it is still on it. -/
def movePlace (side : Side) (k w h x y : Nat) : Option (Nat × Nat) :=
  match side with
  | .n => if k ≤ y then some (x, y - k) else none
  | .s => if y + k < h then some (x, y + k) else none
  | .e => if x + k < w then some (x + k, y) else none
  | .w => if k ≤ x then some (x - k, y) else none

/-- The cluster `k` places to a side on the same die. -/
def Cluster.toward (c : Cluster) (side : Side) (k : Nat) : Option Cluster :=
  let o := ownXY c.region
  (movePlace side k 256 128 (o.1 * 32 + c.col) (o.2 * 16 + c.row)).map fun p =>
    ⟨regionAt (c.region / 64) (p.1 / 32) (p.2 / 16), p.1 % 32, p.2 % 16⟩

/-! ## Settings (R275) -/

/-- FRAME 5 to 21 of a column, and FRAME 1 to 19 of a region, as numbers. -/
def State.columnSettings (s : State) (r col : Nat) : List Nat := (List.range 17).map fun f => s.frameRead (frameNo r col (5 + f)) 0 1024
def State.regionSettings (s : State) (r : Nat) : List Nat := (List.range 19).map fun f => s.frameRead (frameNo r 0x3F (1 + f)) 0 1024

/-- Zero with poison: what a bus across a fenced boundary reads (R252). -/
def busPoison : Nat := 0x100
def State.fenced (s : State) (r : Nat) : Bool := s.on (frB r) FR_STAT.FENCED

/-! ## What wires carry (R240, R241, R252) -/

/-- What a cluster receives over a segment of a level from the cluster `k` places to a side. -/
def State.segment (s : State) (c : Cluster) (side : Side) (level k i : Nat) : Nat :=
  let back : Side := match side with
    | .n => .s
    | .s => .n
    | .e => .w
    | .w => .e
  match c.toward side k with
  | none => (Config.undrivenBus (c.cell i)).toNat
  | some e =>
    if level = 16 ∧ e.region ≠ c.region then (Config.undrivenBus (c.cell i)).toNat
    else if e.region ≠ c.region ∧ (s.fenced e.region ∨ s.fenced c.region) then busPoison
    else
      match Config.segmentCell (s.columnSettings e.region e.col) e.row level back i with
      | some p => (s.cell (e.cell p)).out
      | none => (Config.undrivenBus (c.cell i)).toNat

/-- Cadence: TAKE of a bank for the PCLK four later (R61). -/
def State.takeBit (s : State) (b : Nat) : Bool :=
  (List.range 16).any fun st =>
    s.on (siteB st) SITE_CFG.EN && (List.range 32).any (fun p => s.chanSite (b * 32 + p) == st) &&
    (let x := s.psq (s.rd (siteB st) SITE_CFG.PSQ)
     let t := s.tick (b / 18) + 32
     s.on (psqB (s.rd (siteB st) SITE_CFG.PSQ)) PSQ_STAT.RUNNING && x.start + 64 ≤ t && s.takes b ((t - (x.start + 64)) / 8))

/-- What a source gives in a region; `line` gives the region's global lines. The boundary to a hard-block port is closed by the
region's fence (R252). -/
def State.busSource (s : State) (line : Bool → Bool → Nat → Nat) (r : Nat) (src : BusSrc) : Nat :=
  let d := r / 64
  let port := fun v => if s.fenced r then busPoison else v
  match src with
  | .cell col row pos => (s.cell ((⟨r, col, row⟩ : Cluster).cell pos)).out
  | .line v b i => line v b i
  | .pattern p i => port ((s.pbBus p d (s.tick d / 8 * 8) i).getD (Config.undrivenBus r).toNat)
  | .take k => port (s.takeBit (d * 18 + k)).toNat
  | .store m portB j =>
    let x := s.storePort (r * 32 + m)
    let q := if portB then x.outB else x.outA
    let o := if q.length = 3 then q.headD (0, false) else (0, false)
    port (bits o.1 (8 * j) 8 + if o.2 then 256 else 0)
  | .crossing e i => port (s.crossBus ((d * 2 + e) * 320 + i))

/-- The region from which a global line enters a region: westward and northward lines are the `back` ones. -/
def lineFrom (r : Nat) (vertical back : Bool) : Option Nat :=
  let o := ownXY r
  (movePlace (if vertical then (if back then .s else .n) else if back then .e else .w) 1 8 8 o.1 o.2).map fun p =>
    regionAt (r / 64) p.1 p.2

def wireKey (r : Nat) (vertical back : Bool) (i : Nat) : Nat := ((r * 2 + vertical.toNat) * 2 + back.toNat) * 256 + i

/-- What a global line carries in a region: what the region drives on it, or what comes over the boundary, through the boundary's
pipeline register where the region's frames enable it (R241). `n` bounds the places passed. -/
def State.globalLine (s : State) : (n r : Nat) → (vertical back : Bool) → (i : Nat) → Nat
  | 0, r, _, _, _ => (Config.undrivenBus r).toNat
  | n + 1, r, v, b, i =>
    match Config.lineDriver (s.regionSettings r) v b i with
    | some src => s.busSource (fun v b i => s.globalLine n r v b i) r src
    | none =>
      match lineFrom r v b with
      | none => (Config.undrivenBus r).toNat
      | some q =>
        if s.fenced r || s.fenced q then busPoison
        else if (Config.lineRegister (s.regionSettings r) v b i).isSome then s.lineReg (wireKey r v b i)
        else s.globalLine n q v b i

/-- Places that a path over global lines passes at most. -/
def lineSpan : Nat := 32

/-- What a cluster input takes. -/
def State.clusterInput (s : State) (c : Cluster) (i : Nat) : Nat :=
  match Config.clusterTap (s.columnSettings c.region c.col) c.row i with
  | none => (Config.undrivenBus (c.cell i)).toNat
  | some (.l1 side j) => s.segment c side 1 1 j
  | some (.l4 side k j) => s.segment c side 4 (k + 1) j
  | some (.l16 side k j) => s.segment c side 16 (k + 1) j
  | some (.line v b j) => s.globalLine lineSpan c.region v b j

/-- What an input of a cell selects in its cluster's local crossbar: a cell output or a cluster input. -/
def State.cellInput (s : State) (c : Cluster) (pos input : Nat) : Nat :=
  match Config.crossbar (s.columnSettings c.region c.col) c.row pos input with
  | none => (Config.undrivenBus (c.cell pos)).toNat
  | some k => if k.val < 16 then (s.cell (c.cell k)).out else s.clusterInput c (k - 16)

/-- What reaches cell `n` in its cycle, and the context bus of its cluster, the cluster input that FRAME 4 byte 768 + row names (R236,
R275). -/
def State.cellIn (s : State) (n : Nat) : CellIn :=
  let c : Cluster := ⟨n / 8192, n / 256 % 32, n / 16 % 16⟩
  let v := fun i => BitVec.ofNat 9 (s.cellInput c (n % 16) i)
  let bus := bits (s.frameRead (frameNo c.region c.col 4) (768 + c.row) 1) 3 5
  ⟨v 0, v 1, v 2, v 3, BitVec.ofNat 9 (s.clusterInput c bus)⟩

/-! ## Clock edges and line registers (R241, R501) -/

/-- An FG clock of a die rises in the present tick: aligned to the PTB from PAT and from the TPLL, unaligned otherwise (R501). -/
def State.fgEdge (s : State) (d fg : Nat) : Bool :=
  let n := 16 + fg
  let div := s.rd (domB d n) (CKP_DOM.DIV d n) + 1
  !s.domStopped d n &&
  if s.domSrc d n = srcPAT then s.tick d % (8 * div) == 0
  else if s.domSrc d n = srcPLL 0 then s.tick d % div == 0
  else Config.freeEdge d fg s.now

/-- The registers of global lines that their region's clock loads in this tick, each with what its boundary brings; all at once. -/
def State.lineEdges (s : State) : State :=
  let loads := ((List.range 256).filter fun r => s.rd (frB r) FR_STAT.STATE == 2).flatMap fun r =>
    [false, true].flatMap fun v => [false, true].flatMap fun b => (List.range 256).filterMap fun i =>
      match Config.lineRegister (s.regionSettings r) v b i, lineFrom r v b with
      | some clk, some q =>
        if s.fgEdge (r / 64) (s.rclk r clk) then
          some (wireKey r v b i, if s.fenced r || s.fenced q then busPoison else s.globalLine lineSpan q v b i)
        else none
      | _, _ => none
  s.each loads fun e s => s.setLineReg e.1 e.2

/-- One tick of 250 ps without a command: the model's clock, the time base of every die that counts, but
for a tick that 256 lengthened ones have used up (R160, R164, R559), and the line registers
of the fabric that have an edge in the new tick (R241; notes/assumptions/7.md). -/
def State.idleTick (s : State) : State :=
  let t := { s with now := s.now + 1 }
  (t.each (List.range 4) fun d t =>
    if t.counting d && !t.domStopped d 14 then
      let k := KV.get 0 d t.sync.fine
      if k ≤ -256 then { t with sync := { t.sync with fine := KV.set 0 d (k + 256) t.sync.fine } }
      else t.setTick d ((t.tick d + 1) % 2 ^ 64)
    else t).lineEdges

/-! ## Fabric crossings (R242, R243, R415, R502) -/

/-- FG0 runs as a crossing needs it: from PAT, or from the TPLL divided to at most 500 MHz, the same on every die (R243, R502). -/
def State.crossingClock (s : State) : Bool :=
  let src := s.domSrc 0 16
  src == srcPAT || (src == srcPLL 0 && 8 ≤ s.rd (domB 0 16) (CKP_DOM.DIV 0 16) + 1)

/-- What die `d` presents at bus `i` of the source crossing port of an edge. -/
def State.crossingOut (s : State) (d e i : Nat) : Nat :=
  let r := d * 64 + (Config.crossingRegion e i).val
  if s.fenced r then busPoison
  else
    match Config.crossingDriver (s.regionSettings r) e i with
    | some src => s.busSource (fun v b j => s.globalLine lineSpan r v b j) r src
    | none => (Config.undrivenBus r).toNat

/-- One FG0 cycle of crossing bundle `b` toward edge `e` of die `d`: the buses sampled at the source port now travel six edges, those of six
edges ago appear, and the relay carries its piece of the pattern bus (R242, R415). `bus` and `rest` are the bits of the 768 that the
wires change, in the 80 buses and in the others; a change of any fails the CRC (notes/assumptions/116.md). That, a bundle that is not UP, and an
FG0 that does not run as R243 asks deliver 0 with poison. -/
def execD2dCrossingFrame (d : Fin 4) (e : Fin 2) (b : Fin 4) (bus : BitVec 720) (rest : BitVec 48) (s : State) : Out :=
  .next <|
    let ok := bus == 0 && rest == 0
    let n := 16 + b.val
    let k := bundleNo d e n
    let src := peerOf d e
    let pipe := (d.val * 2 + e.val) * 4 + b.val
    let live := s.bundleState d e n == 2 && s.crossingClock && !s.domStopped d 16 && !s.domStopped src 16
    let sent := (List.range 80).foldl (fun v i => v + s.crossingOut src (1 - e) (80 * b + i) * 2 ^ (9 * i)) 0
    let q := if live then s.crossPipe pipe ++ [sent] else []
    let due := if ok && q.length == 7 then q.head? else none
    let relay := if ok && live then
        match s.pbRelayed src d with
        | some p =>
          let w := s.pbOnEdge src (s.tick d / 8 * 8) p
          bits w.1 (27 * b) 27 + if w.2 then 2 ^ 27 else 0
        | none => 0
      else 2 ^ 27
    let s := if ok then s
      else
        let s := (s.count (bundleB d e n) D2D_CNT_CRC.V).count (bundleB d e n) D2D_CNT_RPL.V
        s.setBundle k { s.bundle k with crcWin := (s.bundle k).crcWin + 1 }
    let s := s.each (List.range 80) fun i s =>
      s.setCrossBus ((d * 2 + e) * 320 + 80 * b + i) (match due with
        | some v => bits v (9 * i) 9
        | none => busPoison)
    (s.setCrossPipe pipe (if q.length = 7 then q.tail else q)).setRelayBit pipe relay

end Sys2Proof.Machine
end

