-- ==== Sys2Proof/Machine/Fabric.lean ====
section
/-! DEFINITION. The programmable fabric (07_programmable_fabric.md): cells, store-block ports, fences, region reset, spare columns
and relocation. -/
namespace Sys2Proof.Machine

open Sys2Proof (CellIn PortIn)

/-! ## Region states (R252 to R256) -/
def frEMPTY : Nat := 0
def frLOADING : Nat := 1
def frLOADED : Nat := 2
def frRELOCATING : Nat := 3
def State.regionState (s : State) (r : Nat) : Nat := s.rd (frB r) FR_STAT.STATE

/-- FENCED follows the region's state, its reset and FR_CTL.FENCE (R252). -/
def State.fenceRefresh (s : State) (r : Nat) : State :=
  s.wrb (frB r) FR_STAT.FENCED (s.regionState r != frLOADED || (s.region r).resetting || s.on (frB r) FR_CTL.FENCE)
def State.setRegionState (s : State) (r st : Nat) : State := (s.wr (frB r) FR_STAT.STATE st).fenceRefresh r

/-- The cells of a region run on a region clock: LOADED, not in its reset, the FG of that clock running. -/
def State.regionRuns (s : State) (r clk : Nat) : Bool :=
  s.regionState r == frLOADED && !(s.region r).resetting && !s.domStopped (r / 64) (16 + s.rclk r clk)

/-! ## Cells (R227 to R238) -/

/-- The number of a region's cell `c`, (column × 16 + row) × 16 + position. -/
def cellNo (r : Fin 256) (c : Fin 8192) : Nat := r * 8192 + c

/-- Region, column, row and position of a cell number. -/
def cellRegion (n : Nat) : Nat := n / 8192
def cellCol (n : Nat) : Nat := n / 256 % 32
def cellRow (n : Nat) : Nat := n / 16 % 16
def cellPos (n : Nat) : Nat := n % 16

/-- The slot word that a cell executes: the slot its context names (R236). -/
def State.slotWord (s : State) (n : Nat) : Nat :=
  s.frameRead (frameNo (cellRegion n) (cellCol n) (cellRow n / 4))
    ((cellRow n % 4 * 16 + cellPos n) * 16 + (s.cell n).ctx * 4) 4

/-- The carry input with its poison: from the cell below; cell 15 of the cluster one row to the south feeds cell 0 (R238). Cell 0 of
row 15 has none. -/
def State.carryIn (s : State) (n : Nat) : Bool × Bool :=
  if cellPos n ≠ 0 then ((s.cell (n - 1)).co, (s.cell (n - 1)).coP)
  else if cellRow n = 15 then (false, false)
  else ((s.cell (n + 31)).co, (s.cell (n + 31)).coP)

/-- A source of R230 with its poison. -/
def CellX.source (x : CellX) (io : CellIn) (w code : Nat) : Nat × Bool :=
  match code with
  | 0 => (io.in0.toNat % 256, bitAt io.in0.toNat 8)
  | 1 => (io.in1.toNat % 256, bitAt io.in1.toNat 8)
  | 2 => (io.in2.toNat % 256, bitAt io.in2.toNat 8)
  | 3 => (io.in3.toNat % 256, bitAt io.in3.toNat 8)
  | 4 => (x.qa, x.qaP)
  | 5 => (x.qb, x.qbP)
  | 6 => (insnImm w, false)
  | 7 => (0, false)
  | _ => (x.flags, x.fp)

/-- The third operand T of R231. -/
def CellX.third (x : CellX) (io : CellIn) (w : Nat) : Nat × Bool :=
  match insnCmode w with
  | 0 => (x.qa, x.qaP)
  | 1 => (x.qb, x.qbP)
  | 2 => (io.in2.toNat % 256, bitAt io.in2.toNat 8)
  | _ => (io.in3.toNat % 256, bitAt io.in3.toNat 8)

/-- The carry-in of R231, with the poison that counts as consumed (R235). -/
def CellX.ci (x : CellX) (chain : Bool × Bool) (w : Nat) : Nat × Bool :=
  match insnCmode w with
  | 0 => (0, false)
  | 1 => (1, false)
  | 2 => ((bitAt x.flags 3).toNat, x.fp)
  | _ => (chain.1.toNat, chain.2)

/-- The context sampled at the edge that ends the cycle, for the next one: a poisoned bus keeps it and poisons that cycle (R236,
R237). FRAME 4 byte 768 + row gives the source (R275). Each cell holds its cluster's context (notes/assumptions/30.md). -/
def State.sampleCtx (s : State) (n : Nat) (io : CellIn) (x : CellX) : CellX :=
  let src := s.frameRead (frameNo (cellRegion n) (cellCol n) 4) (768 + cellRow n) 1
  if bitAt src 2 then
    if bitAt io.ctx.toNat 8 then { x with ctxP := true } else { x with ctx := io.ctx.toNat % 4, ctxP := false }
  else { x with ctx := src % 4, ctxP := false }

/-- What an instruction leaves in its cell: output bus, carry output, registers, flags (R232 to R235); after a poisoned context everything
it drives or loads is poisoned (R237). -/
def CellX.execute (x : CellX) (io : CellIn) (chain : Bool × Bool) (w : Nat) (u : Uses) (f : CellArgs → CellRes) : CellX :=
  let a := x.source io w (insnSrcA w)
  let b := x.source io w (insnSrcB w)
  let t := x.third io w
  let ci := x.ci chain w
  let r := f ⟨a.1, b.1, t.1, insnImm w, ci.1, bitAt x.flags 3, bitAt x.flags 2, bitAt x.flags 1⟩
  let p := x.ctxP || a.2 || (u.b && b.2) || (u.t && t.2) || (u.ci && ci.2) || (u.flags && x.fp)
  let bus := fun (v : Nat) (q : Bool) => v + q.toNat * 256
  { x with
    out := match insnOsel w with
      | 0 => bus r.r p
      | 1 => bus x.qa (x.qaP || x.ctxP)
      | 2 => bus x.qb (x.qbP || x.ctxP)
      | _ => bus x.flags (x.fp || x.ctxP)
    co := r.c.getD false
    coP := p
    qa := if insnWeA w then r.r else x.qa
    qaP := if insnWeA w then p else x.qaP
    qb := if insnWeB w then r.r else x.qb
    qbP := if insnWeB w then p else x.qbP
    flags := flagsAfter x.flags r
    fp := if r.loads then p else x.fp }

/-- One cycle of a cell whose selected slot holds opcode `op`; any other cell state changes nothing. -/
def State.cellStep (s : State) (n : Nat) (op : Nat) (f : CellArgs → CellRes) : State :=
  let w := s.slotWord n
  match cellUses op with
  | none => s
  | some u =>
    if s.regionRuns (cellRegion n) (s.clusterClock (cellRegion n) (cellCol n) (cellRow n)) ∧ insnOp w = op ∧
        insnLegal (cellRow n) (cellPos n) w then
      s.setCell n (s.sampleCtx n (s.cellIn n) ((s.cell n).execute (s.cellIn n) (s.carryIn n) w u f))
    else s

def execCellMov (r : Fin 256) (c : Fin 8192) (s : State) : Out := .next (s.cellStep (cellNo r c) 0x00 cellMOV)
def execCellAdd (r : Fin 256) (c : Fin 8192) (s : State) : Out := .next (s.cellStep (cellNo r c) 0x01 cellADD)
def execCellSub (r : Fin 256) (c : Fin 8192) (s : State) : Out := .next (s.cellStep (cellNo r c) 0x02 cellSUB)
def execCellRsb (r : Fin 256) (c : Fin 8192) (s : State) : Out := .next (s.cellStep (cellNo r c) 0x03 cellRSB)
def execCellAddus (r : Fin 256) (c : Fin 8192) (s : State) : Out := .next (s.cellStep (cellNo r c) 0x04 cellADDUS)
def execCellSubus (r : Fin 256) (c : Fin 8192) (s : State) : Out := .next (s.cellStep (cellNo r c) 0x05 cellSUBUS)
def execCellNeg (r : Fin 256) (c : Fin 8192) (s : State) : Out := .next (s.cellStep (cellNo r c) 0x06 cellNEG)
def execCellAbsd (r : Fin 256) (c : Fin 8192) (s : State) : Out := .next (s.cellStep (cellNo r c) 0x07 cellABSD)
def execCellMinu (r : Fin 256) (c : Fin 8192) (s : State) : Out := .next (s.cellStep (cellNo r c) 0x08 cellMINU)
def execCellMaxu (r : Fin 256) (c : Fin 8192) (s : State) : Out := .next (s.cellStep (cellNo r c) 0x09 cellMAXU)
def execCellMins (r : Fin 256) (c : Fin 8192) (s : State) : Out := .next (s.cellStep (cellNo r c) 0x0A cellMINS)
def execCellMaxs (r : Fin 256) (c : Fin 8192) (s : State) : Out := .next (s.cellStep (cellNo r c) 0x0B cellMAXS)
def execCellCmp (r : Fin 256) (c : Fin 8192) (s : State) : Out := .next (s.cellStep (cellNo r c) 0x0C cellCMP)
def execCellTst (r : Fin 256) (c : Fin 8192) (s : State) : Out := .next (s.cellStep (cellNo r c) 0x0D cellTST)
def execCellIncw (r : Fin 256) (c : Fin 8192) (s : State) : Out := .next (s.cellStep (cellNo r c) 0x0E cellINCW)
def execCellDecw (r : Fin 256) (c : Fin 8192) (s : State) : Out := .next (s.cellStep (cellNo r c) 0x0F cellDECW)
def execCellAnd (r : Fin 256) (c : Fin 8192) (s : State) : Out := .next (s.cellStep (cellNo r c) 0x10 cellAND)
def execCellOr (r : Fin 256) (c : Fin 8192) (s : State) : Out := .next (s.cellStep (cellNo r c) 0x11 cellOR)
def execCellXor (r : Fin 256) (c : Fin 8192) (s : State) : Out := .next (s.cellStep (cellNo r c) 0x12 cellXOR)
def execCellAndn (r : Fin 256) (c : Fin 8192) (s : State) : Out := .next (s.cellStep (cellNo r c) 0x13 cellANDN)
def execCellOrn (r : Fin 256) (c : Fin 8192) (s : State) : Out := .next (s.cellStep (cellNo r c) 0x14 cellORN)
def execCellXnor (r : Fin 256) (c : Fin 8192) (s : State) : Out := .next (s.cellStep (cellNo r c) 0x15 cellXNOR)
def execCellNot (r : Fin 256) (c : Fin 8192) (s : State) : Out := .next (s.cellStep (cellNo r c) 0x16 cellNOT)
def execCellBitf (r : Fin 256) (c : Fin 8192) (s : State) : Out := .next (s.cellStep (cellNo r c) 0x17 cellBITF)
def execCellSelc (r : Fin 256) (c : Fin 8192) (s : State) : Out := .next (s.cellStep (cellNo r c) 0x18 cellSELC)
def execCellSelz (r : Fin 256) (c : Fin 8192) (s : State) : Out := .next (s.cellStep (cellNo r c) 0x19 cellSELZ)
def execCellSeln (r : Fin 256) (c : Fin 8192) (s : State) : Out := .next (s.cellStep (cellNo r c) 0x1A cellSELN)
def execCellMuxb (r : Fin 256) (c : Fin 8192) (s : State) : Out := .next (s.cellStep (cellNo r c) 0x1B cellMUXB)
def execCellShl (r : Fin 256) (c : Fin 8192) (s : State) : Out := .next (s.cellStep (cellNo r c) 0x20 cellSHL)
def execCellShr (r : Fin 256) (c : Fin 8192) (s : State) : Out := .next (s.cellStep (cellNo r c) 0x21 cellSHR)
def execCellSar (r : Fin 256) (c : Fin 8192) (s : State) : Out := .next (s.cellStep (cellNo r c) 0x22 cellSAR)
def execCellRol (r : Fin 256) (c : Fin 8192) (s : State) : Out := .next (s.cellStep (cellNo r c) 0x23 cellROL)
def execCellRor (r : Fin 256) (c : Fin 8192) (s : State) : Out := .next (s.cellStep (cellNo r c) 0x24 cellROR)
def execCellShlc (r : Fin 256) (c : Fin 8192) (s : State) : Out := .next (s.cellStep (cellNo r c) 0x25 cellSHLC)
def execCellShrc (r : Fin 256) (c : Fin 8192) (s : State) : Out := .next (s.cellStep (cellNo r c) 0x26 cellSHRC)
def execCellRev (r : Fin 256) (c : Fin 8192) (s : State) : Out := .next (s.cellStep (cellNo r c) 0x27 cellREV)
def execCellSwap (r : Fin 256) (c : Fin 8192) (s : State) : Out := .next (s.cellStep (cellNo r c) 0x28 cellSWAP)
def execCellFshl (r : Fin 256) (c : Fin 8192) (s : State) : Out := .next (s.cellStep (cellNo r c) 0x29 cellFSHL)
def execCellClz (r : Fin 256) (c : Fin 8192) (s : State) : Out := .next (s.cellStep (cellNo r c) 0x30 cellCLZ)
def execCellCtz (r : Fin 256) (c : Fin 8192) (s : State) : Out := .next (s.cellStep (cellNo r c) 0x31 cellCTZ)
def execCellPopc (r : Fin 256) (c : Fin 8192) (s : State) : Out := .next (s.cellStep (cellNo r c) 0x32 cellPOPC)
def execCellPmsk (r : Fin 256) (c : Fin 8192) (s : State) : Out := .next (s.cellStep (cellNo r c) 0x33 cellPMSK)
def execCellXscr (r : Fin 256) (c : Fin 8192) (s : State) : Out := .next (s.cellStep (cellNo r c) 0x34 cellXSCR)
def execCellLfsr (r : Fin 256) (c : Fin 8192) (s : State) : Out := .next (s.cellStep (cellNo r c) 0x35 cellLFSR)
def execCellGray (r : Fin 256) (c : Fin 8192) (s : State) : Out := .next (s.cellStep (cellNo r c) 0x36 cellGRAY)
def execCellUgray (r : Fin 256) (c : Fin 8192) (s : State) : Out := .next (s.cellStep (cellNo r c) 0x37 cellUGRAY)
def execCellGstep (r : Fin 256) (c : Fin 8192) (s : State) : Out := .next (s.cellStep (cellNo r c) 0x38 cellGSTEP)
def execCellEq (r : Fin 256) (c : Fin 8192) (s : State) : Out := .next (s.cellStep (cellNo r c) 0x39 cellEQ)
def execCellLtu (r : Fin 256) (c : Fin 8192) (s : State) : Out := .next (s.cellStep (cellNo r c) 0x3A cellLTU)
def execCellLts (r : Fin 256) (c : Fin 8192) (s : State) : Out := .next (s.cellStep (cellNo r c) 0x3B cellLTS)
def execCellBset (r : Fin 256) (c : Fin 8192) (s : State) : Out := .next (s.cellStep (cellNo r c) 0x3C cellBSET)
def execCellBclr (r : Fin 256) (c : Fin 8192) (s : State) : Out := .next (s.cellStep (cellNo r c) 0x3D cellBCLR)
def execCellBtst (r : Fin 256) (c : Fin 8192) (s : State) : Out := .next (s.cellStep (cellNo r c) 0x3E cellBTST)

/-- An upset has left `w` in the selected slot of a cell: when it is no legal instruction, the cell drives its output bus and carry
output as 0 with poison and loads nothing (R229). -/
def execCellIllegalSlot (r : Fin 256) (c : Fin 8192) (w : Word) (s : State) : Out :=
  .next <|
    let n := cellNo r c
    if insnLegal (cellRow n) (cellPos n) w.toNat ||
        !s.regionRuns (cellRegion n) (s.clusterClock (cellRegion n) (cellCol n) (cellRow n)) then s
    else
      let no := frameNo (cellRegion n) (cellCol n) (cellRow n / 4)
      let off := (cellRow n % 4 * 16 + cellPos n) * 16 + (s.cell n).ctx * 4
      let s := s.setUpset no (s.upset no ^^^ (s.slotWord n ^^^ w.toNat) * 2 ^ (8 * off))
      s.setCell n (s.sampleCtx n (s.cellIn n) { s.cell n with out := 256, co := false, coP := true })

/-! ## Initial values (R253, R275) -/

/-- The initial values that the frames give a cell, poison-free. -/
def State.cellInit (s : State) (n : Nat) : CellX :=
  let no := frameNo (cellRegion n) (cellCol n) 4
  let i := cellRow n * 16 + cellPos n
  { qa := s.frameRead no (3 * i) 1, qb := s.frameRead no (3 * i + 1) 1, flags := s.frameRead no (3 * i + 2) 1 % 16,
    ctx := s.frameRead no (768 + cellRow n) 1 % 4 }
def State.applyInitial (s : State) (r : Nat) : State :=
  s.each (List.range 8192) fun i s => s.setCell (r * 8192 + i) (s.cellInit (r * 8192 + i))

/-- The cells of a region lose their register state. -/
def State.cellsVoid (s : State) (r : Nat) : State := { s with cells := KV.dropRange (r * 8192) (r * 8192 + 8192) s.cells }

/-- The store-block ports of a region as its FRAME 0 sets them; an unconfigured region uses none. -/
def State.portsSet (s : State) (r : Nat) : State :=
  s.each (List.range 32) fun m s =>
    let a := s.frameRead (frameNo r 0x3F 0) (4 + 2 * m) 1
    let b := s.frameRead (frameNo r 0x3F 0) (5 + 2 * m) 1
    s.setStorePort (r * 32 + m)
      { wA := bits a 0 2, wB := bits a 2 2, clkA := bits a 4 2, clkB := bits a 6 2, share := bitAt b 0, usedA := bitAt b 1,
        usedB := bitAt b 2 }
def State.portsVoid (s : State) (r : Nat) : State :=
  { s with storePorts := KV.dropRange (r * 32) (r * 32 + 32) s.storePorts }.setRegion r { s.region r with noc := false, msg := none }

/-- The NoC port of a region as its frames set it; it presents no message yet. -/
def State.nocPortSet (s : State) (r : Nat) : State :=
  s.setRegion r { s.region r with
    noc := Config.nocPort (s.regionSettings r), panic := Config.nocPanic (s.regionSettings r), msg := none }

/-- The region clocks that FR_CLK reports. -/
def State.clocksSet (s : State) (r : Nat) : State :=
  (((s.wr (frB r) FR_CLK.RCLK0 (s.rclk r 0)).wr (frB r) FR_CLK.RCLK1 (s.rclk r 1)).wr (frB r) FR_CLK.RCLK2 (s.rclk r 2)).wr
    (frB r) FR_CLK.RCLK3 (s.rclk r 3)

/-- The release of a region: initial values, clocks started, LOADED, the fence lifted unless FENCE = 1 (R286). -/
def State.regionRelease (s : State) (r : Nat) : State :=
  ((((s.applyInitial r).portsSet r).nocPortSet r).clocksSet r).setRegionState r frLOADED

/-- A region is left without a configuration: EMPTY and fenced. -/
def State.regionEmpty (s : State) (r : Nat) : State :=
  (((s.framesVoid r).cellsVoid r).portsVoid r).setRegionState r frEMPTY

/-- CFE_COPY of a region (R298). -/
def State.setCopy (s : State) (r : Nat) (slot : Option Nat) : State :=
  let s := s.setRegion r { s.region r with slot := slot }
  if r % 64 < 32 then s.wrBit (cfeB (r / 64)) CFE_COPY_LO.V (r % 64) slot.isSome
  else s.wrBit (cfeB (r / 64)) CFE_COPY_HI.V (r % 64 - 32) slot.isSome

/-! ## Store-block ports (R247 to R250) -/

/-- One access of a store-block port: what it reads (64-bit word with poison), or what it writes, or nothing. -/
inductive PortAcc where
  | idle
  | bad
  | read (word byte : Nat)
  | write (word mask data : Nat) (pois : Bool)
  deriving DecidableEq, Repr

/-- The access that a port of width code `w` samples in block `blk` (number of the block's first word): poison on control or
address, and a poisoned EN, make it bad. -/
def portAcc (w first : Nat) (p : PortIn) : PortAcc :=
  let ctl := p.ctl.toNat
  let n := 2 ^ w
  let e := (p.addr0.toNat % 256 + p.addr1.toNat % 256 * 256) % (65536 / n)
  let byte := e * n
  let data := (List.range n).foldr (fun j v => bits p.data.toNat (9 * j) 8 + 256 * v) 0
  let dp := (List.range n).any fun j => bitAt p.data.toNat (9 * j + 8)
  if bitAt ctl 8 then .bad
  else if !bitAt ctl 0 then .idle
  else if bitAt p.addr0.toNat 8 || bitAt p.addr1.toNat 8 then .bad
  else if bitAt ctl 1 then
    .write (first + byte / 8) ((2 ^ n - 1) * 2 ^ (byte % 8)) (data * 2 ^ (8 * (byte % 8))) dp
  else .read (first + byte / 8) (byte % 8)

/-- The word an access reaches. -/
def PortAcc.word (a : PortAcc) : Option Nat :=
  match a with
  | .read w _ | .write w _ _ _ => some w
  | _ => none

/-- Applies a write. -/
def State.portWrite (s : State) (a : PortAcc) : State :=
  match a with
  | .write w m d p => s.writeWord w d m p
  | _ => s

/-- What a port drives two edges later for an access that found `seen` in its word. -/
def portOut (w : Nat) (a : PortAcc) (seen : Nat × Bool) : Nat × Bool :=
  match a with
  | .read _ b => (bits seen.1 (8 * b) (8 * 2 ^ w), seen.2)
  | .bad => (0, true)
  | _ => (0, false)

/-- What a port samples enters its output pipeline; every edge moves it on, so that after edge k + 2 the oldest of three is what edge k
sampled (R248, R250). -/
def pipe (q : List (Nat × Bool)) (x : Nat × Bool) : List (Nat × Bool) := ((q ++ [x]).drop (q.length + 1 - 3))

/-- The word a port's read finds; it counts its ECC events. -/
def State.portSee (s : State) (a : PortAcc) : Nat × Bool :=
  match a with
  | .read w _ => s.seeWord w
  | _ => (0, false)
def State.portCount (s : State) (a : PortAcc) : State :=
  match a with
  | .read w _ => s.readWord w false
  | _ => s

/-- Two accesses at one edge (R249). On one clock a read sees the old word and A writes before B. On different clocks a read that
meets a write sees the old or the new word, and each byte that both write is one of the two: open (notes/assumptions/4.md). -/
def State.portPair (s : State) (one : Bool) (a b : PortAcc) : ((Nat × Bool) × (Nat × Bool)) × State :=
  let meet := a.word.isSome && a.word == b.word
  let old := (s.portSee a, s.portSee b)
  let t := ((s.portCount a).portCount b)
  let flip := !one && meet && bitAt (s.free 9) 8
  let new := (t.portWrite a).portWrite b
  let new := match a, b with
    | .write w ma da pa, .write _ mb db pb =>
      if !one && meet then
        let pick := s.free 9
        let keepA := mb - (mb &&& (ma &&& pick))
        (t.writeWord w da ma pa).writeWord w db keepA pb
      else new
    | _, _ => new
  let new := if !one && meet then new.drew else new
  let seen := if flip then (new.portSee a, new.portSee b) else old
  (seen, new)

/-- One edge of the clock of port A, of port B or of both of block `m` of region `r`: each samples an access and moves its output
registers (R248); the ports of a fenced region are idle (R252). -/
def execStorePortAccess (r : Fin 256) (m : Fin 32) (a b : Option PortIn) (s : State) : Out :=
  .next <|
    let k := r.val * 32 + m
    let x := s.storePort k
    let first := (storeAddr r + m * 0x10000) / 8
    if s.on (frB r) FR_STAT.FENCED then s
    else
      let runsA := x.usedA && a.isSome && s.regionRuns r x.clkA
      let runsB := x.usedB && b.isSome && s.regionRuns r x.clkB
      let accA := match a with
        | some p => if runsA then portAcc x.wA first p else .idle
        | none => .idle
      let accB := match b with
        | some p => if runsB then portAcc x.wB first p else .idle
        | none => .idle
      let (seen, s) := s.portPair (x.clkA == x.clkB) accA accB
      let x := { x with
        outA := if runsA then pipe x.outA (portOut x.wA accA seen.1) else x.outA
        outB := if runsB then pipe x.outB (portOut x.wB accB seen.2) else x.outB }
      let s := s.setStorePort k x
      let s := if accA = .bad then s.raise (r / 64) 69 none r else s
      if accB = .bad then s.raise (r / 64) 69 none r else s

/-- A NoC access to a store block performed in port B's free cycles; the region's own port set-up was checked at admission (R251). -/
def execStoreServiceAccess (id : Nat) (s : State) : Out :=
  .next <|
    match s.flights.find? fun f => f.id == id with
    | some f =>
      match f.rsp, f.dst with
      | none, .store _ =>
        if s.storeAnswers f.req.addr.toNat then
          let (r, s) := s.chipOp f.req
          s.answer id r
        else s.answer id .decode
      | _, _ => s
    | none => s

/-! ## Fence and region reset (R252, R253) -/

def State.frFence (s : State) (r : Nat) (v : Bool) : State := (s.wrb (frB r) FR_CTL.FENCE v).fenceRefresh r
def execFrFence (r : Fin 256) (v : Bool) (s : State) : Out := .next (s.atBlock .cfe (r / 64) 0 fun s => s.frFence r v)

/-- FR_CTL.RRESET: ignored with REJ unless LOADED; the region is fenced and takes its initial values. -/
def State.frReset (s : State) (r : Nat) : State :=
  if s.regionState r ≠ frLOADED then s.wr (frB r) FR_STAT.REJ 1
  else ((s.setRegion r { s.region r with resetting := true }).applyInitial r).fenceRefresh r
def execFrRreset (r : Fin 256) (s : State) : Out := .next (s.atBlock .cfe (r / 64) 0 fun s => s.frReset r)

/-- 64 CFG cycles later the previous fence state returns. -/
def execRresetEnd (r : Fin 256) (s : State) : Out :=
  .next <|
    if (s.region r).resetting then (s.setRegion r { s.region r with resetting := false }).fenceRefresh r else s

/-! ## Relocation (R254 to R257) -/

/-- The region is in Nap or leaving it (R509). -/
def State.napped (s : State) (r : Nat) : Bool :=
  if r % 64 < 32 then s.bit (ckpB (r / 64)) CKP_NAP_LO.V (r % 64) || s.bit (ckpB (r / 64)) CKP_NAPST_LO.V (r % 64)
  else s.bit (ckpB (r / 64)) CKP_NAP_HI.V (r % 64 - 32) || s.bit (ckpB (r / 64)) CKP_NAPST_HI.V (r % 64 - 32)

/-- The result of a relocation. -/
def State.relocResult (s : State) (r status : Nat) : State :=
  let s := (s.wr (frB r) FR_RELOC_RES.STATUS status).wr (frB r) FR_RELOC_RES.VALID 1
  if status = 4 ∨ status = 5 then s.raise (r / 64) 23 none r else s

/-- A load or relocation of a region abandons a repair of one of its frames (R301). -/
def State.chkAbandon (s : State) (r : Nat) : State :=
  let x := s.chk (r / 64)
  match x.repair with
  | some (no, _) => if no / 2048 = r then s.setChk (r / 64) { x with repair := none } else s
  | none => s

/-- FR_CTL.RELOC: refused with REJ unless LOADED or EMPTY, out of Nap, and the last result acknowledged; a spare already in use ends
it with NO_SPARE; else the region is fenced and its register state is discarded. -/
def State.frReloc (s : State) (r col : Nat) : State :=
  let b := frB r
  if (s.regionState r ≠ frLOADED ∧ s.regionState r ≠ frEMPTY) ∨ s.napped r ∨ !s.on b FR_RELOC_RES.ACKD then s.wr b FR_STAT.REJ 1
  else
    let s := ((s.seqUp b FR_RELOC_RES.SEQ).wr b FR_RELOC_RES.VALID 0).wr b FR_RELOC_RES.ACKD 0
    if s.on b FR_STAT.SPARE_USED then s.relocResult r 5
    else
      let x := s.region r
      let from' := s.regionState r == frLOADED && x.slot.isSome
      let s := (s.chkAbandon r).setRegion r { x with reloc := some col, fromSett := from', tested := false, resetting := false }
      ((s.wr b FR_RELOC_RES.STATUS 1).cellsVoid r).setRegionState r frRELOCATING
def execFrReloc (r : Fin 256) (col : Fin 32) (s : State) : Out := .next (s.atBlock .cfe (r / 64) 0 fun s => s.frReloc r col)

/-- The self-test of the spare column ends: the spare map is written, or the relocation ends SPARE_FAIL with the region EMPTY. -/
def execRelocSelftestDone (r : Fin 256) (pass : Bool) (s : State) : Out :=
  .next <|
    let b := frB r
    let x := s.region r
    match x.reloc with
    | none => s
    | some col =>
      if x.tested then s
      else if pass then
        let s := (s.wr b FR_STAT.SPARE_USED 1).wr b FR_STAT.BADCOL col
        (s.wr b FR_STAT.MAPSRC 1).setRegion r { x with tested := true }
      else
        let s := s.setRegion r { x with reloc := none }
        ((s.setCopy r none).regionEmpty r).relocResult r 4

/-- The relocation ends: frames rewritten from the Sett copy where there is one, result, fence lifted unless FENCE = 1; the new spare
map waits for the Owl's repair record. -/
def execRelocDone (r : Fin 256) (s : State) : Out :=
  .next <|
    let x := s.region r
    if x.reloc.isNone ∨ !x.tested then s
    else
      let s := s.setRegion r { x with reloc := none, tested := false, recDue := true }
      match x.fromSett, x.slot with
      | true, some k => (((s.framesFromSett r k).regionRelease r)).relocResult r 2
      | _, _ => ((s.setCopy r none).regionEmpty r).relocResult r 3

/-- FR_CTL.RACK releases the result. -/
def State.frRack (s : State) (r : Nat) : State :=
  if s.on (frB r) FR_RELOC_RES.VALID then s.wr (frB r) FR_RELOC_RES.ACKD 1 else s
def execFrRack (r : Fin 256) (s : State) : Out := .next (s.atBlock .cfe (r / 64) 0 fun s => s.frRack r)

end Sys2Proof.Machine
end

