-- ==== Sys2Proof/Machine/Cfe.lean ====
section
/-! DEFINITION. The configuration engine (09_configuration.md R281 to R301): loads from Sett, memory, flash and relay, release, boot
loads and their fallback, the frame check. -/
namespace Sys2Proof.Machine

/-! ## Load states and statuses (R292, CFE_STAT) -/
def cfeIDLE : Nat := 0
def cfeHEADER : Nat := 1
def cfeFRAMES : Nat := 2
def cfeWAIT : Nat := 3
def cfeVERIFY : Nat := 4
def cfeRELEASE : Nat := 5
def loadDONE : Nat := 2
def loadPARTIAL : Nat := 3
def loadABORTED : Nat := 9
def loadSIGFAIL : Nat := 10
def loadSOURCE : Nat := 11
def loadCANCELLED : Nat := 12
def State.cfeState (s : State) (d : Nat) : Nat := s.rd (cfeB d) CFE_STAT.STATE

/-- Image source codes (R287). -/
def srcMEM : Nat := 3
def srcFLASH : Nat := 4
def srcRELAY : Nat := 5

/-- The field of STC_SLOT that holds the state of a slot: kind 0 IMG, 1 OWL, 2 SP; slot 0 A, 1 B (R315). -/
def slotFld (kind k : Nat) : Fld :=
  match kind, k with
  | 0, 0 => STC_SLOT.IMG_A
  | 0, _ => STC_SLOT.IMG_B
  | 1, 0 => STC_SLOT.OWL_A
  | 1, _ => STC_SLOT.OWL_B
  | _, 0 => STC_SLOT.SP_A
  | _, _ => STC_SLOT.SP_B
def State.slotState (s : State) (d kind k : Nat) : Nat := s.rd (stcB d) (slotFld kind k)
def State.setSlot (s : State) (d kind k v : Nat) : State := s.wr (stcB d) (slotFld kind k) v

/-! ## Ending a load (R284 to R286, R292, R293) -/

/-- The regions of the load that its dies write. -/
def CfeX.regions (x : CfeX) : List Nat := (hdrRegions x.img).filter fun r => x.dies.contains (r / 64)

/-- A region fails: EMPTY, fenced, its bit in CFE_RFAIL of its die. -/
def State.cfeFail (s : State) (r : Nat) : State :=
  let s := (s.setCopy r none).regionEmpty r
  if r % 64 < 32 then s.wrBit (cfeB (r / 64)) CFE_RFAIL_LO.V (r % 64) true
  else s.wrBit (cfeB (r / 64)) CFE_RFAIL_HI.V (r % 64 - 32) true
def State.cfeFailAll (s : State) (d : Nat) : State := s.each (s.cfe d).regions fun r s => s.cfeFail r

/-- A load ends with a status, to be acknowledged (R292), and leaves the flash's pins (R539). The success of a boot load of the Owl makes IMG ready. -/
def State.cfeEnd (s : State) (d status : Nat) : State :=
  let x := s.cfe d
  let b := cfeB d
  let s := (s.wr b CFE_STAT.STATE cfeIDLE).wr b CFE_STAT.RELAY 0
  let s := if x.src = srcFLASH then s.wr (svpB d) SVP_STAT.FLASH 0 else s
  let s := ((s.wr b CFE_RES.STATUS status).wr b CFE_RES.VALID 1).wr b CFE_RES.ACKD 0
  let s := s.setCfe d {}
  let s := if status = loadDONE then s else s.raise d 16 none d
  if x.boot ∧ status = loadDONE then
    if x.src = srcFLASH then s.each x.dies fun e s => (s.setReady e rdyIMG true).setBoot e .ended
    else
      let s := if s.boot d = .other then s.raise d 18 none d else s
      (s.setReady d rdyIMG true).setBoot d .ended
  else s

/-! ## Reading the source (R287, R288) -/

/-- Brings the buffer of a load to `n` bytes where its source has them; true: the source answered with an error. An uncorrectable line of
Sett reads with poison (R304); what the recovery flash does not answer reads as all ones (R291). -/
def State.cfePull (s : State) (d n : Nat) (flash : List Byte) : Bool × State :=
  let x := s.cfe d
  let need := n - x.buf.length
  if need = 0 then (false, s)
  else if x.src = 1 ∨ x.src = 2 then
    let o := x.at_ - settAddr d
    let g := s.settGet d o need
    (false, (s.settRead d o need).setCfe d { x with buf := x.buf ++ g.1, at_ := x.at_ + need, pois := x.pois || g.2 })
  else if x.src = srcMEM then
    let k := min need x.left
    let (g, s) := s.getBytes ⟨.cfe (Fin.ofNat 4 d), true, none⟩ x.at_ k
    (g.err.isSome, s.setCfe d { x with buf := x.buf ++ g.data, at_ := x.at_ + k, left := x.left - k, pois := x.pois || g.poison })
  else if x.src = srcFLASH then (false, s.setCfe d { x with buf := x.buf ++ (flash ++ List.replicate need 0xFF).take need })
  else (false, s)

/-! ## Header (R281, R282) -/

/-- The KINDs that a source allows (step 6). -/
def kindAllowed (src d : Nat) (h : List Byte) : Bool :=
  if src = 1 ∨ src = 2 then hdrKind h == 2 && hdrDies h == [d]
  else if src = srcFLASH then hdrKind h == 1
  else true

/-- The status that the header checks end a load with; 0: passed. -/
def State.headerStatus (s : State) (src d : Nat) (h : List Byte) : Nat :=
  if !imageFormat h then 4
  else
    match s.headerIdentity h with
    | 1 => 5
    | 2 => 6
    | 3 => 7
    | _ =>
      if (hdrRegions h).any fun r => s.regionState r == frLOADING || s.regionState r == frRELOCATING then 8
      else if !kindAllowed src d h then 4
      else 0

/-- A napped region that a load names is powered first (R509). -/
def State.napClear (s : State) (r : Nat) : State :=
  if r % 64 < 32 then
    (s.wrBit (ckpB (r / 64)) CKP_NAP_LO.V (r % 64) false).wrBit (ckpB (r / 64)) CKP_NAPST_LO.V (r % 64) false
  else
    (s.wrBit (ckpB (r / 64)) CKP_NAP_HI.V (r % 64 - 32) false).wrBit (ckpB (r / 64)) CKP_NAPST_HI.V (r % 64 - 32) false

/-- The results of the last load on a die are void. -/
def State.cfeClear (s : State) (d : Nat) : State :=
  let b := cfeB d
  let s := ((s.wr b CFE_FRAMES_OK.V 0).wr b CFE_FRAMES_REJ.V 0).wr b CFE_PROG.V 0
  let s := ((s.wr b CFE_FERR.WHY 0).wr b CFE_FERR.REGION 0).wr b CFE_FERR.COL 0
  ((s.wr b CFE_FERR.FRAME 0).wr b CFE_RFAIL_LO.V 0).wr b CFE_RFAIL_HI.V 0

/-- Once the header is read: it fails the load, or the regions are fenced and LOADING. A header read with poison is a source error
(notes/assumptions/32.md). -/
def State.cfeHeader (s : State) (d : Nat) (flash : List Byte) : State :=
  let (err, s) := s.cfePull d 256 flash
  let x := s.cfe d
  if err then s.cfeEnd d loadSOURCE
  else if x.buf.length < 256 then s
  else if x.pois then s.cfeEnd d loadSOURCE
  else
    let h := x.buf.take 256
    let st := s.headerStatus x.src d h
    if st ≠ 0 then s.cfeEnd d st
    else
      let dies := (hdrDies h).filter fun e => x.src != srcFLASH || decide (s.boot e = .flash)
      if dies.any fun e => !s.reachable d e then s.cfeEnd d loadSOURCE
      else
        let x := { x with img := h, buf := x.buf.drop 256, key := (s.contentKey h).getD 0, dies := dies }
        let s := (s.setCfe d x).each (dies.filter (· != d)) fun e s => s.cfeClear e
        let s := s.each x.regions fun r s =>
          (((((s.chkAbandon r).napClear r).setCopy r none).framesVoid r).cellsVoid r |>.portsVoid r).setRegionState r frLOADING
        s.wr (cfeB d) CFE_STAT.STATE cfeFRAMES

/-- A load begins: a new number, PENDING, and its header as far as the source has it. -/
def State.cfeBegin (s : State) (d src addr len : Nat) (boot : Bool) (flash : List Byte) (port : Option Nat := none) : State :=
  let b := cfeB d
  let s := ((s.seqUp b CFE_RES.SEQ).wr b CFE_RES.VALID 0).wr b CFE_RES.ACKD 0
  let s := ((s.wr b CFE_RES.STATUS 1).wr b CFE_RES.SRC src).cfeClear d
  let s := (s.wr b CFE_STAT.STATE cfeHEADER).wrb b CFE_STAT.RELAY (src == srcRELAY)
  let s := if src = srcFLASH then s.wr (svpB d) SVP_STAT.FLASH 1 else s
  (s.setCfe d { src := src, at_ := addr, left := len, boot := boot, port := port, since := s.now }).cfeHeader d flash

/-- Where a source begins: a Sett slot of the load die, or the part that CFE_ADDR and CFE_LEN give. -/
def State.cfeSource (s : State) (d src : Nat) : Nat × Nat :=
  if src = 1 ∨ src = 2 then (imageSlot d (src - 1), 0)
  else (s.rd2 (cfeB d) CFE_ADDR_LO.ADDR CFE_ADDR_HI.ADDR, s.rd (cfeB d) CFE_LEN.LEN * 16)

/-- A committed change of the CFG clock is being applied; what reaches the CFE then is held (R499). -/
def State.cfgSwitching (s : State) (d : Nat) : Bool := s.on (domB d 9) CKP_DOM.BUSY
def State.cfeHold (s : State) (d : Nat) (h : CfeHeld) : State := s.setCfe d { s.cfe d with held := (s.cfe d).held ++ [h] }

/-- CFE_CMD.START: ignored with REJ while a load runs, while the result is unacknowledged, and while CFE_SRC names no source
(R290; notes/assumptions/33.md). `flash` is what the recovery flash holds. -/
def State.cfeStart (s : State) (d : Nat) (flash : List Byte) : State :=
  let b := cfeB d
  if s.cfgSwitching d then s.cfeHold d (.start flash) else
  let src := s.rd b CFE_SRC.KIND
  if s.cfeState d ≠ cfeIDLE ∨ !s.on b CFE_RES.ACKD ∨ src = 0 ∨ 5 ≤ src ∨ (src = srcFLASH ∧ d ≠ 0) then s.wr b CFE_STAT.REJ 1
  else s.cfeBegin d src (s.cfeSource d src).1 (s.cfeSource d src).2 false flash
def execCfeStart (d : Fin 4) (flash : List Byte) (s : State) : Out := .next (s.atBlock .cfe d 0 fun s => s.cfeStart d flash)

/-- CFE_CMD.CONT: the next part, in WAIT_MORE only (R288). -/
def State.cfeCont (s : State) (d : Nat) : State :=
  let b := cfeB d
  if s.cfgSwitching d then s.cfeHold d .cont
  else if s.cfeState d ≠ cfeWAIT then s.wr b CFE_STAT.REJ 1
  else
    let x := s.cfe d
    let s := s.setCfe d { x with at_ := (s.cfeSource d srcMEM).1, left := (s.cfeSource d srcMEM).2 }
    if x.img = [] then (s.wr b CFE_STAT.STATE cfeHEADER).cfeHeader d [] else s.wr b CFE_STAT.STATE cfeFRAMES
def execCfeCont (d : Fin 4) (s : State) : Out := .next (s.atBlock .cfe d 0 fun s => s.cfeCont d)

/-- CFE_CMD.CANCEL ends the load at once; its fenced regions end EMPTY (R293). -/
def State.cfeCancel (s : State) (d : Nat) : State :=
  if s.cfeState d = cfeIDLE then s else (s.cfeFailAll d).cfeEnd d loadCANCELLED
def execCfeCancel (d : Fin 4) (s : State) : Out := .next (s.atBlock .cfe d 0 fun s => s.cfeCancel d)

/-- CFE_CMD.ACK releases the result. -/
def State.cfeAck (s : State) (d : Nat) : State :=
  if s.on (cfeB d) CFE_RES.VALID then s.wr (cfeB d) CFE_RES.ACKD 1 else s
def execCfeAck (d : Fin 4) (s : State) : Out := .next (s.atBlock .cfe d 0 fun s => s.cfeAck d)

/-- A part is read to its end with more of the image to come: WAIT_MORE. -/
def execCfePartReadDone (d : Fin 4) (s : State) : Out :=
  .next <|
    let x := s.cfe d
    let need := if s.cfeState d = cfeHEADER then 256 else 1072
    if x.src = srcMEM ∧ (s.cfeState d = cfeHEADER ∨ s.cfeState d = cfeFRAMES) ∧ x.left = 0 ∧ x.buf.length < need then
      (s.setCfe d { x with since := s.now }).wr (cfeB d) CFE_STAT.STATE cfeWAIT
    else s

/-- The load ends SOURCE_ERR; its regions fail. -/
def State.cfeSourceLost (s : State) (d : Nat) : State := (s.cfeFailAll d).cfeEnd d loadSOURCE

/-- A load by relay waits for bytes of its image that have not arrived. -/
def State.relayStarved (s : State) (d : Nat) : Bool :=
  let x := s.cfe d
  decide (x.src = srcRELAY) && ((s.cfeState d == cfeHEADER && decide (x.buf.length < 256)) ||
    (s.cfeState d == cfeFRAMES && decide (x.buf.length < 1072)))

/-- WAIT_MORE for more than 1 s, or a gap of 1 s in a relay source: SOURCE_ERR (R288, R292). -/
def execCfeWaitTimeout (d : Fin 4) (s : State) : Out :=
  .next <|
    if (s.cfeState d = cfeWAIT ∨ s.relayStarved d) ∧ (s.cfe d).since + 1000 * ticksPerMs ≤ s.now then s.cfeSourceLost d else s

/-! ## Frame records (R283, R284) -/

/-- A rejected record: counted on the region's die, its reason recorded when it is the first of the load (R283, R293). -/
def State.recordReject (s : State) (d why : Nat) (rec : List Byte) : State :=
  let b := cfeB d
  let s := s.count (cfeB (leAt rec 0 1 / 64)) CFE_FRAMES_REJ.V
  let s := if s.rd b CFE_FERR.WHY ≠ 0 then s
    else ((s.wr b CFE_FERR.WHY why).wr b CFE_FERR.REGION (leAt rec 0 1)).wr b CFE_FERR.COL (leAt rec 1 1) |>.wr b CFE_FERR.FRAME (leAt rec 2 1)
  s.raise d 17 none d

/-- The next record of the load: written, rejected, or (in a recovery of other dies) only hashed. -/
def State.cfeRecord (s : State) (d : Nat) (flash : List Byte) : State :=
  let (err, s) := s.cfePull d 1072 flash
  let x := s.cfe d
  if err then (s.cfeFailAll d).cfeEnd d loadSOURCE
  else if x.buf.length < 1072 then s
  else
    let rec' := x.buf.take 1072
    let r := leAt rec' 0 1
    let s := s.wr (cfeB d) CFE_PROG.V (s.rd (cfeB d) CFE_PROG.V + 1)
    let x' := { x with img := x.img ++ rec', buf := x.buf.drop 1072, pois := false }
    let last := s.rd (cfeB d) CFE_PROG.V == hdrFrames x.img
    let fin := fun (s : State) => if last then s.wr (cfeB d) CFE_STAT.STATE cfeVERIFY else s
    let mine := x.regions.contains r
    if (hdrRegions x.img).contains r ∧ !mine then fin (s.setCfe d x')
    else if mine ∧ !s.reachable d (r / 64) then (s.cfeFailAll d).cfeEnd d loadSOURCE
    else
      match s.recordCheck x.key x.regions x.seen (fun r => s.bytes (frameAddr (frameNo r 0x3F 0)) 1024) x.pois rec' with
      | .inr (no, content) =>
        fin ((s.setCfe d { x' with seen := no :: x.seen }).frameWrite no content |>.count (cfeB (r / 64)) CFE_FRAMES_OK.V)
      | .inl why =>
        let s := (s.setCfe d { x' with failed := if mine then r :: x.failed else x.failed }).recordReject d why rec'
        if hdrAbort x.img then (s.cfeFailAll d).cfeEnd d loadABORTED else fin s

def execCfeFrameRecord (d : Fin 4) (flash : List Byte) (s : State) : Out :=
  .next <| if s.cfeState d = cfeFRAMES then s.cfeRecord d flash else s

/-! ## Signature and release (R285, R286) -/

/-- The regions that have not failed become LOADED together; a Sett source leaves a Sett copy. -/
def State.cfeRelease (s : State) (d : Nat) : State :=
  let x := s.cfe d
  let copy := if x.src = 1 ∨ x.src = 2 then some (x.src - 1) else none
  let s := s.each x.regions fun r s =>
    if x.failed.contains r then s.cfeFail r else (s.regionRelease r).setCopy r copy
  s.cfeEnd d (if x.failed = [] then loadDONE else loadPARTIAL)

/-- The signature check ends. An image over several dies names a tick at least 2 µs ahead; how far beyond is open
(notes/assumptions/4.md). -/
def execCfeSignatureDone (d : Fin 4) (s : State) : Out :=
  .next <|
    let x := s.cfe d
    if s.cfeState d ≠ cfeVERIFY then s
    else if x.dies.any fun e => !s.reachable d e then s.cfeSourceLost d
    else if !s.signatureOk x.img then (s.cfeFailAll d).cfeEnd d loadSIGFAIL
    else if x.dies.length ≤ 1 then s.cfeRelease d
    else
      let t := s.tick d + 8000 + s.free 16
      ((s.drew).setCfe d { x with release := some t }).wr (cfeB d) CFE_STAT.STATE cfeRELEASE

/-- The named tick is reached on every die of the load. -/
def execCfeReleaseTick (d : Fin 4) (s : State) : Out :=
  .next <|
    let x := s.cfe d
    if s.cfeState d ≠ cfeRELEASE then s
    else if x.dies.any fun e => !s.reachable d e then s.cfeSourceLost d
    else if x.dies.all fun e => x.release.getD 0 ≤ s.tick e then s.cfeRelease d
    else s

/-! ## Relay offers (R290, R319) -/

/-- Answers to a relay offer (R319): 0 ACCEPTED, 1 BUSY, 2 DISABLED, 3 NOT_LISTED, 4 BOUND. -/
def State.relayAnswer (s : State) (port service answer : Nat) : State :=
  { s with relayAnswers := s.relayAnswers ++ [(port, service, answer)] }

/-- A relay image offered to a CFE by the neighbour on a link port. -/
def State.cfeOffer (s : State) (d port : Nat) : State :=
  let b := cfeB d
  if !s.on b CFE_CFG.RELAY_EN ∨ !s.on (dctlB 0) DCTL_DEVNUM.LOCKED ∨ !s.answers .cfe d 0 then s.relayAnswer port 1 2
  else if s.cfgSwitching d then s.cfeHold d (.offer port)
  else if s.cfeState d ≠ cfeIDLE ∨ !s.on b CFE_RES.ACKD then s.relayAnswer port 1 1
  else (s.relayAnswer port 1 0).cfeBegin d srcRELAY 0 0 false [] (some port)
def execCfeRelayOffer (d : Fin 4) (port : Fin 24) (s : State) : Out := .next (s.cfeOffer d port)

/-- The CFG clock of a die runs again: what was held acts, in order (R499). -/
def State.cfeResume (s : State) (d : Nat) : State :=
  let hs := (s.cfe d).held
  (s.setCfe d { s.cfe d with held := [] }).each hs fun h s =>
    match h with
    | .start flash => s.cfeStart d flash
    | .cont => s.cfeCont d
    | .offer port => s.cfeOffer d port

/-- A relay port is lost: the loads that it feeds end SOURCE_ERR (R292). -/
def State.relayPortLost (s : State) (g : Nat) : State :=
  s.each (List.range 4) fun d s =>
    if s.cfeState d ≠ cfeIDLE ∧ (s.cfe d).src = srcRELAY ∧ (s.cfe d).port = some g then s.cfeSourceLost d else s

/-- A D2D service bundle is down: the loads with a die that their own no longer reaches end SOURCE_ERR (R292). -/
def State.serviceLost (s : State) : State :=
  s.each (List.range 4) fun d s =>
    if s.cfeState d ≠ cfeIDLE ∧ (s.cfe d).dies.any (fun e => !s.reachable d e) then s.cfeSourceLost d else s

/-- Image bytes that reach a CFE by relay. -/
def State.cfeRelayData (s : State) (d : Nat) (data : List Byte) : State :=
  let x := s.cfe d
  if x.src = srcRELAY ∧ s.cfeState d ≠ cfeIDLE then
    let s := s.setCfe d { x with buf := x.buf ++ data, since := s.now }
    if s.cfeState d = cfeHEADER then s.cfeHeader d [] else s
  else s

/-! ## Boot loads (R294, R295) -/

/-- The image slot in use: ACTIVE or TRIAL. -/
def State.bootSlot (s : State) (d : Nat) : Option Nat :=
  [0, 1].find? fun k => s.slotState d 0 k == 3 || s.slotState d 0 k == 4

/-- The Owl of a die starts its boot load; with both slots empty there is none, and IMG is ready. -/
def execBootLoadStart (d : Fin 4) (s : State) : Out :=
  .next <|
    if s.por ∨ s.boot d ≠ .none ∨ !s.ready d rdyOWL ∨ s.cfeState d ≠ cfeIDLE ∨ !s.on (cfeB d) CFE_RES.ACKD then s
    else
      let s := s.setReady d rdyCFE true
      if s.slotState d 0 0 = 0 ∧ s.slotState d 0 1 = 0 then (s.setReady d rdyIMG true).setBoot d .ended
      else
        let s := s.setBoot d .first
        match s.bootSlot d with
        | some k => s.cfeBegin d (k + 1) (imageSlot d k) 0 true []
        | none => s

/-- A slot state from which a boot load may be repeated: VALID or PREV (R315). -/
def slotUsable (v : Nat) : Bool := v == 2 || v == 3 || v == 4 || v == 5

/-- The die's boot has failed for good: IMG fails, source 19 (R295). -/
def State.bootFailed (s : State) (d : Nat) : State := ((s.setFail d rdyIMG).setBoot d .ended).raise d 19 none d

/-- A failed boot load is repeated from the other slot, then waits for the recovery flash, which strap RECEN = 0 rules out (R538); when
that fails too, IMG fails. The Owl acknowledges the result of its own load before it starts the next one
(notes/assumptions/31.md). -/
def execBootFallback (d : Fin 4) (s : State) : Out :=
  .next <|
    if s.por ∨ s.cfeState d ≠ cfeIDLE then s
    else
      let s := if s.boot d = .first ∨ s.boot d = .other then s.cfeAck d else s
      match s.boot d with
      | .first =>
        let other := match s.bootSlot d with
          | some k => some (1 - k)
          | none => [0, 1].find? fun k => slotUsable (s.slotState d 0 k)
        match other with
        | some k =>
          if slotUsable (s.slotState d 0 k) then (s.setBoot d .other).cfeBegin d (k + 1) (imageSlot d k) 0 true []
          else s.setBoot d .flash
        | none => s.setBoot d .flash
      | .other => s.setBoot d .flash
      | .flash =>
        if !s.on (svpB 0) SVP_STRAP.RECEN ∨
            (s.cfeState 0 = cfeIDLE ∧ s.rd (cfeB 0) CFE_RES.SRC = srcFLASH ∧ s.rd (cfeB 0) CFE_RES.STATUS ≠ loadDONE) then
          s.bootFailed d
        else s
      | _ => s

/-- The Owl of LD0 loads a PACKAGE image from the recovery flash for the dies that need it; the mode becomes RECOVERY (R291, R506). -/
def execRecoveryFlashLoad (flash : List Byte) (s : State) : Out :=
  .next <|
    if s.por ∨ s.cfeState 0 ≠ cfeIDLE ∨ !s.on (cfeB 0) CFE_RES.ACKD ∨ !s.on (svpB 0) SVP_STRAP.RECEN ∨
        !((List.range 4).any fun d => decide (s.boot d = .flash)) then s
    else
      let s := s.setMode 3
      s.cfeBegin 0 srcFLASH 0 0 true flash

/-! ## Frame check (R297 to R301) -/

/-- The physical column of a logical one under the spare map (R254). -/
def State.physCol (s : State) (r col : Nat) : Nat :=
  if s.on (frB r) FR_STAT.SPARE_USED ∧ s.rd (frB r) FR_STAT.BADCOL ≤ col then col + 1 else col

/-- A frame's CRC differs from the one recorded when it was written. -/
def State.frameMismatch (s : State) (no : Nat) : Bool :=
  let content := s.bytes (frameAddr no) 1024
  s.upset no != 0 && crc32c (leBytes 1024 (leVal content ^^^ s.upset no)) != crc32c content

/-- A mismatch is counted, named and raised. -/
def State.chkUpset (s : State) (d no : Nat) : State :=
  let b := cfeB d
  let s := (s.count b CFE_CHK_UPSET.V).wr b CFE_CHK_LAST.REGION (no / 2048)
  ((s.wr b CFE_CHK_LAST.COL (no / 32 % 64)).wr b CFE_CHK_LAST.FRAME (no % 32)).raise d 20 none d

/-- A hard error: counted, raised, and for a column frame the column is suspect (R300). -/
def State.chkHard (s : State) (d no : Nat) : State :=
  let s := (s.count (cfeB d) CFE_CHK_HARD.V).raise d 21 none d
  let r := no / 2048
  let col := no / 32 % 64
  if col < 32 then (s.wr (frB r) FR_STAT.SUSPECT 1).wr (frB r) FR_STAT.SCOL (s.physCol r col) else s

/-- The next frame of a LOADED region from a cursor; frames are numbered within the die. -/
def State.chkNext (s : State) (d from' : Nat) : Option Nat :=
  (List.range (131072 - from')).findSome? fun i =>
    let k := from' + i
    if s.regionState (d * 64 + k / 2048) == frLOADED && frameExists (k / 32 % 64) (k % 32) then some k else none

/-- The frame check reads its next frame; `upset` are the bits that an upset has changed in it since it was last seen. After the
last frame the sweep ends. -/
def execFrameCheckRead (d : Fin 4) (upset : BitVec 8192) (s : State) : Out :=
  .next <|
    let b := cfeB d
    let x := s.chk d
    if !s.on b CFE_CFG.FCHK_EN ∨ x.repair.isSome ∨ !s.answers .cfe d 0 then s
    else
      match s.chkNext d x.next with
      | none =>
        if x.next = 0 then s
        else
          let s := (s.count b CFE_CHK_STAT.SWEEPS).wr b CFE_CHK_STAT.RUN 0
          (s.wr b CFE_CHK_TIME.V ((s.now - x.start) / 4000)).setChk d {}
      | some k =>
        let no := d.val * 131072 + k
        let s := s.wr b CFE_CHK_STAT.RUN 1
        let s := s.setUpset no (s.upset no ^^^ upset.toNat)
        let x := { x with next := k + 1, start := if x.next = 0 then s.now else x.start }
        if !s.frameMismatch no then s.setChk d x
        else
          let r := no / 2048
          let s := s.chkUpset d no
          if (s.region r).slot.isSome then s.setChk d { x with repair := some (no, 1) }
          else
            let s := (s.count b CFE_CHK_NOCOPY.V).setChk d x
            if s.on b CFE_CFG.NOCOPY_FENCE then (s.wr (frB r) FR_CTL.FENCE 1).fenceRefresh r else s

/-- The frame under repair is read from its Sett copy, rewritten and checked again; `again`: the bits that differ after the rewrite,
`errs`: bit errors that the read of the copy meets (notes/assumptions/102.md). A copy that reads with poison or fails its tag or CRC is a hard error. A region no longer LOADED ends the repair (R299 to R301). -/
def execFrameRepair (d : Fin 4) (again : BitVec 8192) (errs : List (Fin 2097152 × Nat)) (s : State) : Out :=
  .next <|
    let x := s.chk d
    match x.repair with
    | none => s
    | some (no, n) =>
      match (s.region (no / 2048)).slot with
      | none => s.setChk d { x with repair := none }
      | some k =>
        if s.regionState (no / 2048) ≠ frLOADED then s.setChk d { x with repair := none }
        else
          let (f, s) := (s.settMeets d errs).settFrame k no
          match f with
          | none => (s.setChk d { x with repair := none }).chkHard d no
          | some content =>
            let s := ((s.frameWrite no content).setUpset no again.toNat).count (cfeB d) CFE_CHK_REPAIR.V
            if !s.frameMismatch no then s.setChk d { x with repair := none }
            else
              let s := s.chkUpset d no
              if n + 1 ≥ 3 then (s.setChk d { x with repair := none }).chkHard d no
              else s.setChk d { x with repair := some (no, n + 1) }

/-- CFE_CHK_CLR: bits clear UPSET, REPAIR, HARD, NOCOPY. -/
def State.cfeChkClr (s : State) (d : Nat) (v : Word) : State :=
  let b := cfeB d
  let s := s.rsvBits b 15 v.toNat
  let s := if bitAt v.toNat 0 then s.wr b CFE_CHK_UPSET.V 0 else s
  let s := if bitAt v.toNat 1 then s.wr b CFE_CHK_REPAIR.V 0 else s
  let s := if bitAt v.toNat 2 then s.wr b CFE_CHK_HARD.V 0 else s
  if bitAt v.toNat 3 then s.wr b CFE_CHK_NOCOPY.V 0 else s
def execCfeChkClr (d : Fin 4) (v : Word) (s : State) : Out := .next (s.atBlock .cfe d 0 fun s => s.cfeChkClr d v)

end Sys2Proof.Machine
end

