-- ==== Sys2Proof/Machine/Swap.lean ====
section
/-! DEFINITION. Die-to-die bundles (13_noc_and_die_links.md R421 to R425): lane monitoring, swaps and recalibration. Training stands in
Machine/D2d.lean. -/
namespace Sys2Proof.Machine

/-! ## Swaps (R421 to R425) -/

/-- A commanded swap of the die ends with its status. -/
def State.swapResult (s : State) (d status : Nat) : State :=
  (s.wr (d2dB d) D2D_CRES.STATUS status).wr (d2dB d) D2D_CRES.VALID 1

/-- A recalibration move in progress ends: the spare is free again (R423, R425). -/
def State.endRecal (s : State) (d e n : Nat) : State :=
  let k := bundleNo d e n
  match (s.bundle k).recal with
  | some (_, sp) => ((s.setRole d e n sp roleFREE).setBundle k { s.bundle k with recal := none }).bundleStat d e n
  | none => s

/-- A bundle goes DOWN: a swap in progress on it ends, a commanded one ABORTED (R425). -/
def State.bundleDown (s : State) (d e n : Nat) : State :=
  let k := bundleNo d e n
  let x := s.bundle k
  let s := (s.wr (bundleB d e n) D2D_BST.STATE 0).wr (bundleB d e n) D2D_BST.SWAPPING 0
  let s := if x.swap.isSome && x.byCmd then s.swapResult d 5 else s
  s.setBundle k { x with swap := none, announced := false, byCmd := false, waiting := [] }

/-- A lane is lost with no spare free: source 87 and the outcome for the bundle's kind (R424); with a service bundle, loads lose
their way (R292). -/
def State.laneLost (s : State) (d e n lane : Nat) : State :=
  let s := s.raise d 87 none d
  let s := s.setRole d e n lane roleRETIRED
  let st := s.laneState d e n
  if n < 16 then (if st = 0 then s.bundleDown d e n else s.wr (bundleB d e n) D2D_BST.STATE st)
  else
    let s := s.bundleDown d e n
    if n < 20 then s.raise d 88 none d else ((s.raise d 89 none d).raise (peerOf d e) 89 none (peerOf d e)).serviceLost

/-- A swap of a lane starts on the free spare of lowest index; without one the lane is lost (R422, R424). -/
def State.swapStart (s : State) (d e n lane : Nat) (cmd : Bool) : State :=
  let s := s.endRecal d e n
  let k := bundleNo d e n
  match (s.freeLanes d e n).head? with
  | some sp =>
    let s := s.setBundle k { s.bundle k with swap := some (lane, sp), announced := false, byCmd := cmd }
    ((s.setRole d e n sp roleSTANDIN).bundleStat d e n).wr (bundleB d e n) D2D_BST.SWAPPING 1
  | none => s.laneLost d e n lane

/-- A trigger of R421: it waits for a swap in progress on the bundle. -/
def State.swapTrigger (s : State) (d e n lane : Nat) : State :=
  let k := bundleNo d e n
  let x := s.bundle k
  if !s.activeLane d e n lane then s
  else if x.swap.isSome then s.setBundle k { x with waiting := x.waiting ++ [lane] }
  else s.swapStart d e n lane false

/-- The 1 s window of a bundle ends with the disagreements of its lanes (16 bits a lane): lanes at LANE, and the worst lane when the
bundle's CRC errors reached CRC, are swapped out (R421). -/
def execLaneWindowEnd (d : Fin 4) (e : Fin 2) (n : Fin 21) (counts : BitVec 176) (s : State) : Out :=
  .next <|
    if s.bundleState d e n < 2 then s
    else
      let k := bundleNo d e n
      let crc := (s.bundle k).crcWin
      let s := s.setBundle k { s.bundle k with crcWin := 0, counts := counts.toNat }
      let cnt := fun p => bits counts.toNat (16 * p) 16
      let lanes := (List.range 11).filter fun p => s.activeLane d e n p
      let worst := lanes.foldl (fun w p => if cnt w < cnt p then p else w) (lanes.headD 0)
      let out := lanes.filter fun p => s.rd (d2dB d) D2D_THR.LANE ≤ cnt p || (s.rd (d2dB d) D2D_THR.CRC ≤ crc && p == worst)
      s.each out fun p s => s.swapTrigger d e n p

/-- The spare is trained and deskewed, and the switch cycle is announced (R422). -/
def execLaneSwapTrained (d : Fin 4) (e : Fin 2) (n : Fin 21) (s : State) : Out :=
  .next <|
    let k := bundleNo d e n
    if (s.bundle k).swap.isSome then s.setBundle k { s.bundle k with announced := true } else s

/-- The announced cycle: the spare takes the role, the old lane is retired, the swap is counted, source 86; a waiting trigger
starts (R422, R425). -/
def execLaneSwapSwitch (d : Fin 4) (e : Fin 2) (n : Fin 21) (s : State) : Out :=
  .next <|
    let k := bundleNo d e n
    let x := s.bundle k
    match x.swap with
    | some (lane, sp) =>
      if !x.announced then s
      else
        let s := ((s.setRole d e n sp (s.role d e n lane)).setRole d e n lane roleRETIRED).bundleStat d e n
        let s := (s.wr (bundleB d e n) D2D_BST.SWAPPING 0).count (bundleB d e n) D2D_CNT_SWAP.V
        let s := s.setBundle k { x with swap := none, announced := false, byCmd := false, waiting := x.waiting.drop 1 }
        let s := if x.byCmd then s.swapResult d 2 else s
        let s := { s with laneRecDue := if s.laneRecDue.contains (jointOf d e) then s.laneRecDue else jointOf d e :: s.laneRecDue }
        let s := s.raise d 86 none d
        match x.waiting with
        | p :: _ => s.swapTrigger d e n p
        | [] => s
    | none => s

/-- Every 10 ms the next active lane of a bundle moves to the free spare; without one the bundle is not recalibrated (R423). -/
def execLaneRecal (d : Fin 4) (e : Fin 2) (n : Fin 21) (s : State) : Out :=
  .next <|
    let k := bundleNo d e n
    let x := s.bundle k
    if s.bundleState d e n < 2 ∨ x.swap.isSome ∨ x.recal.isSome then s
    else
      match (s.freeLanes d e n).head?, (List.range 11).find? fun i => s.activeLane d e n ((x.next + i) % 11) with
      | some sp, some i =>
        let lane := (x.next + i) % 11
        let s := s.setBundle k { x with recal := some (lane, sp), next := (lane + 1) % 11 }
        ((s.setRole d e n sp roleSTANDIN).bundleStat d e n).wr (bundleB d e n) D2D_BST.RCAL_LATE 0
      | _, _ => s.wr (bundleB d e n) D2D_BST.RCAL_LATE 1

/-- After 20 µs the recalibrated lane takes its role back; its eye is recorded (R423). -/
def execLaneRecalDone (d : Fin 4) (e : Fin 2) (n : Fin 21) (eye : BitVec 10) (s : State) : Out :=
  .next <|
    let k := bundleNo d e n
    match (s.bundle k).recal with
    | some (lane, _) =>
      let s := s.endRecal d e n
      s.setBundle k { s.bundle k with eyes := putBits (s.bundle k).eyes (16 * lane) 16 eye.toNat }
    | none => s

/-- D2D_CMD.SWAP: a new result; REFUSED, NO_SPARE, or PENDING with the swap under way (R425). A command that finds the result
unacknowledged is refused and leaves the register as it is (R22; DESIGN CHOICE: notes/assumptions/106.md). -/
def State.d2dSwap (s : State) (d e n lane : Nat) : State :=
  let b := d2dB d
  let k := bundleNo d e n
  if !s.on b D2D_CRES.ACKD then s
  else
    let ok := s.activeLane d e n lane && 2 ≤ s.bundleState d e n && (s.bundle k).swap.isNone
    let s := ((s.seqUp b D2D_CRES.SEQ).wr b D2D_CRES.VALID 0).wr b D2D_CRES.ACKD 0
    if !ok then s.swapResult d 4
    else
      let s := s.endRecal d e n
      if (s.freeLanes d e n).isEmpty then s.swapResult d 3
      else (s.wr b D2D_CRES.STATUS 1).swapStart d e n lane true

def execD2dSwap (d : Fin 4) (e : Fin 2) (n : Fin 21) (lane : Fin 11) (s : State) : Out :=
  .next (s.atBlock .d2d d 0 fun s => s.d2dSwap d e n lane)

/-- D2D_CMD.ACK releases the result. -/
def State.d2dAck (s : State) (d : Nat) : State := if s.on (d2dB d) D2D_CRES.VALID then s.wr (d2dB d) D2D_CRES.ACKD 1 else s
def execD2dAck (d : Fin 4) (s : State) : Out := .next (s.atBlock .d2d d 0 fun s => s.d2dAck d)

end Sys2Proof.Machine
end

