-- ==== Sys2Proof/Machine/Cores.lean ====
section
/-! DEFINITION. What the resets of cores share (12_processors_locks_debug.md): hardware locks and their owners, an SP's reset and
release, an Owl's restart. -/
namespace Sys2Proof.Machine

/-! ## Locks (R380 to R383) -/

/-- Owner IDs of R380. -/
def ownerSP (n : Nat) : Nat := 0x10 + n
def ownerOwl (d : Nat) : Nat := 0x20 + d
def ownerSAC (n : Nat) : Nat := 0x40 + n
def ownerVF (n : Nat) : Nat := 0x80 + n
def ownerPF : Nat := 0x90
def ownerDen : Nat := 0xA0

/-- Registers of lock `n` of die `d`. -/
def lckN (d n : Nat) : Nat := lckB d + n * 4
def State.lockOwner (s : State) (d n : Nat) : Nat := s.rd (lckN d n) LCK.OWNER

/-- A held lock is released with ORPHAN set, counted and raised (R383). -/
def State.orphanLock (s : State) (d n : Nat) : State :=
  let s := (s.wr (lckN d n) LCK.OWNER 0).wr (lckN d n) LCK.ORPHAN 1
  (s.count (lckB d) LCK_ORPH.V).raise d 99 none d

/-- Every lock of an owner, on every die; every held lock of a die. -/
def State.orphanOwner (s : State) (o : Nat) : State :=
  s.each (List.range 256) fun i s => if s.lockOwner (i / 64) (i % 64) = o then s.orphanLock (i / 64) (i % 64) else s
def State.orphanDie (s : State) (d : Nat) : State :=
  s.each (List.range 64) fun n s => if s.lockOwner d n = 0 then s else s.orphanLock d n

/-! ## Firmware slots in Sett (R303) -/
def owlSlotAddr (d k : Nat) : Nat := settAddr d + 0x6000000 + k * 0x100000
def spSlotAddr (d k : Nat) : Nat := settAddr d + 0x6200000 + k * 0x800000

/-- The slot of a kind in use on a die: TRIAL, else ACTIVE (R322). -/
def State.usedSlot (s : State) (d kind : Nat) : Option Nat :=
  match [0, 1].find? fun k => s.slotState d kind k == 4 with
  | some k => some k
  | none => [0, 1].find? fun k => s.slotState d kind k == 3

/-- BODYLEN of the SP boot firmware in use (R313, R374). -/
def State.spBodyLen (s : State) (d : Nat) : Nat :=
  match s.usedSlot d 2 with
  | some k => leAt (s.bytes (spSlotAddr d k) 256) 0x1C 4
  | none => 0

/-! ## Cores (R374, R378, R384, R387) -/

/-- A core at its reset: everything cleared but its terminal, which belongs to Den. -/
def HartX.cleared (x : HartX) : HartX := { dtx := x.dtx, drx := x.drx, dtxOvf := x.dtxOvf, drxOvf := x.drxOvf }

/-- A core of the die that leaves reset halts before its first instruction under DEN_CTL.HALTRST (R387). -/
def State.haltOnReset (s : State) (d : Nat) : Bool := s.on (denB d) DEN_CTL.HALTRST

/-- Den comparators of a core on an address it issues (R389): of its `n` comparators the lowest enabled match of a kind of `kinds` is
recorded; answers that comparator's ACT. -/
def State.compare (s : State) (d core n : Nat) (kinds : List Nat) (addr : Nat) : State × Option Nat :=
  let hit := fun k => let c := s.cmp (core * 8 + k)
    c.en && decide (c.kind ∈ kinds) && (addr ||| c.mask) == (c.addr ||| c.mask)
  match (List.range n).find? hit with
  | none => (s, none)
  | some k => ((s.wr (denB d) DEN_STAT.HIT 1).wr (denB d) DEN_STAT.CMP k, some (s.cmp (core * 8 + k)).act)

/-- An event of lines 0 to 79 arrives at an SP's hub: pending, code latched, arrival counted (R372). -/
def State.hubEvent (s : State) (sp line code : Nat) : State :=
  let b := ihB sp + line * 4
  ((s.hubPend sp line true).wr b IH_EVT.CODE code).count b IH_EVT.CNT

/-- Values of SP_STAT.STATE. -/
def spRESET : Nat := 0
def spRUN : Nat := 1
def spWFI : Nat := 2
def spHALTED : Nat := 3

/-- SP_CTL.RST = 1: the core, with its caches, is held in reset; its locks are orphaned. -/
def State.spReset (s : State) (n : Nat) : State :=
  let s := (s.wr (spB n) SP_CTL.RST 1).wr (spB n) SP_STAT.STATE spRESET
  (s.setSp n (s.sp n).cleared).orphanOwner (ownerSP n)

/-- RST = 0: the SP starts in M-mode at TCM offset 0 with a0 = mhartid and a1 = BODYLEN. -/
def State.spRelease (s : State) (n : Nat) : State :=
  if !s.on (spB n) SP_CTL.RST then s
  else
    let halt := s.haltOnReset (n / 4)
    let x := { (s.sp n).cleared with
      pc := tcmAddr n, regs := KV.set 0 11 (s.spBodyLen (n / 4)) (KV.set 0 10 n []), halted := halt, booted := true
      trial := (s.usedSlot (n / 4) 2).any fun k => s.slotState (n / 4) 2 k == 4 }
    ((s.wr (spB n) SP_CTL.RST 0).wr (spB n) SP_STAT.STATE (if halt then spHALTED else spRUN)).setSp n x

/-- The Owl of a die restarts: its core begins in ROM again, its firmware does not run, its locks are orphaned (R378, R383). -/
def State.owlRestart (s : State) (d : Nat) : State :=
  let s := s.setOwl d { (s.owl d).cleared with halted := s.haltOnReset d }
  (s.setReady d rdyOWL false).orphanOwner (ownerOwl d)

/-- The Owl of a die runs its firmware: verified, and not halted by Den. -/
def State.owlRuns (s : State) (d : Nat) : Bool := !s.por && s.ready d rdyOWL && !(s.owl d).halted

end Sys2Proof.Machine
end

