-- ==== Sys2Proof/Machine/Faults.lean ====
section
/-! DEFINITION. Faults and the safe state (17_faults_and_safe_state.md; R36, R544, R551): the SAFE nets, injection, clearing a
pending bit, release of a held reaction, escalation, the fault log, supplies and temperature. -/
namespace Sys2Proof.Machine

/-! ## SAFE nets (R36) -/

/-- Something outside the dies pulls SAFE_P or SAFE_Q low, or lets it go: a die that reads either net low enters device-safe. -/
def execSafeNetLow (p q : Bool) (s : State) : Out :=
  .next <|
    let was := s.deviceSafe
    let s := { s with safe := { s.safe with extP := p, extQ := q } }
    (if s.deviceSafe && !was then s.packageSafe else s).fhRefresh

/-- The nets have disagreed for more than 1 µs: every die raises source 3 and keeps acting on the asserted net. -/
def execSafeNetMismatch (s : State) : Out :=
  .next <| if s.safePLow == s.safeQLow then s else s.each (List.range 4) fun d s => s.condOn d 3 none d

/-! ## Injection (R528) -/

/-- FH_INJ: with GO = 1 the source is raised once with FORCE; a reserved source ID is ignored. -/
def State.fhInject (s : State) (d : Nat) (v : Word) : State :=
  let w := v.toNat
  let s := s.rsvBits (fhB d) 0x801F007F w
  let src := bits w 0 7
  if !bitAt w 31 || reservedSource src then s
  else s.faultEvent d src (s.severity d src) (if bitAt w 20 then some (bits w 16 4) else none) d true false
def execFhInject (d : Fin 4) (v : Word) (s : State) : Out := .next (s.atBlock .fh d 0 fun s => s.fhInject d v)

/-! ## Clearing and releasing (R518, R524 to R526) -/

/-- One pending bit is written 1: refused with REJ at severity 5 or 6, its own or that of its reaction in force, while LD0's Owl is not
ready; else cleared, and set again with a new period while the condition behind it lasts. -/
def State.fhClear (s : State) (d src : Nat) : State :=
  if !s.fhPending d src then s
  else if max (s.severity d src) (s.fh (fhKey d src)).react ≥ 5 ∧ !s.ready 0 rdyOWL then s.wr (fhB d) FH_STAT.REJ 1
  else
    let x := s.fh (fhKey d src)
    if !s.condPresent d src then (s.setFhPending d src false).setFh (fhKey d src) { x with react := 0, sites := 0, escd := false }
    else s.setFh (fhKey d src) { x with since := s.now, escd := false }

/-- A write to FH_PENDj. -/
def State.fhPendWrite (s : State) (d j : Nat) (v : Word) : State :=
  ((s.each (List.range 32) fun i s => if bitAt v.toNat i then s.fhClear d (j * 32 + i) else s)).fhRefresh
def execFhPendClear (d j : Fin 4) (v : Word) (s : State) : Out := .next (s.atBlock .fh d 0 fun s => s.fhPendWrite d j v)

/-- A condition behind a source of severity 5 or 6 is present on die `d`: a lasting one, the loss of REFCLK, or a PLL not locked
(R508, R526). -/
def State.holdCause (s : State) (d : Nat) : Bool :=
  (List.range 128).any fun src => 5 ≤ s.severity d src &&
    (s.fhPending d src || s.condPresent d src ||
     (src == 0 && !s.on (ckpB d) CKP_STAT.REFOK) || (src == 1 && s.rd (ckpB d) CKP_STAT.LOCK != 0x1F))

/-- FH_REL.RELEASE: on LD0, with its Owl ready (R34) and no cause pending or present on any die, the held reaction ends; else
ignored with REJ. -/
def State.fhRelease (s : State) (d : Nat) (v : Word) : State :=
  let s := s.rsvBits (fhB d) 1 v.toNat
  if !bitAt v.toNat 0 then s
  else if d ≠ 0 || !s.ready 0 rdyOWL || (List.range 4).any s.holdCause then s.wr (fhB d) FH_STAT.REJ 1
  else ({ s with safe := { s.safe with held := false } }).fhRefresh
def execFhRelease (d : Fin 4) (v : Word) (s : State) : Out := .next (s.atBlock .fh d 0 fun s => s.fhRelease d v)

/-! ## Escalation (R529) -/


/-- A source that has been pending for FH_ESC_TMO is raised again at ESC by the die's running Owl, once per pending period. -/
def execFaultEscalate (d : Fin 4) (src : Fin 128) (s : State) : Out :=
  .next <|
    let x := s.fh (fhKey d src)
    let esc := s.rd (fhB d + src * 4) FH_SEV.ESC
    if s.owlRuns d ∧ s.fhPending d src ∧ !x.escd ∧ 3 ≤ esc ∧ s.severity d src < esc ∧
        x.since + s.rd (fhB d) FH_ESC_TMO.MS * ticksPerMs ≤ s.now then
      s.faultEvent d src esc none d false true
    else s

/-! ## Log and counters (R23, R527) -/

/-- FH_LOG_RD: a value that FH_LOG_WR does not lead by 0 to 256 is discarded (R16). -/
def State.fhLogRd (s : State) (d : Nat) (v : Word) : State :=
  if seqDiff 32 (s.rd (fhB d) FH_LOG_WR.V) v.toNat > 256 then s.rsvw (fhB d) else s.wr (fhB d) FH_LOG_RD.V v.toNat
def execFhLogRdWrite (d : Fin 4) (v : Word) (s : State) : Out := .next (s.atBlock .fh d 0 fun s => s.fhLogRd d v)

/-- FH_CNT_CLR: every counter, or that of source IDX. -/
def State.fhCntClr (s : State) (d : Nat) (v : Word) : State :=
  let s := s.rsvBits (fhB d) 0x8000007F v.toNat
  if bitAt v.toNat 31 then s.each (List.range 128) fun i s => s.wr (fhB d + i * 4) FH_CNT.V 0
  else s.wr (fhB d + bits v.toNat 0 7 * 4) FH_CNT.V 0
def execFhCntClr (d : Fin 4) (v : Word) (s : State) : Out := .next (s.atBlock .fh d 0 fun s => s.fhCntClr d v)

/-! ## Supplies and temperature (R544, R551) -/

/-- A supply of the die has been outside its operating range, inside its POR window, for more than 1 µs: source 4. `n` numbers the
supplies that feed the die; the source is FH-level, so its log entry names the die. -/
def execSupplyOutOfWindow (d : Fin 4) (n : Fin 16) (s : State) : Out :=
  .next <|
    if s.por then s else s.condAs d 4 n

/-- That supply is back in its range: the condition behind source 4 ends with the last one. -/
def execSupplyReturnToRange (d : Fin 4) (n : Fin 16) (s : State) : Out := .next (s.condOff d 4 n)

/-- The hottest sensor of the die reads `t` °C: above 100 source 5, above 110 source 6. -/
def execDieTemperature (d : Fin 4) (t : Int) (s : State) : Out :=
  .next <|
    if s.por then s
    else
      let s := if t > 100 then s.condOn d 5 none d else s
      if t > 110 then s.condOn d 6 none d else s

/-- It has fallen to `t` °C: the conditions end at 110 and at 100. -/
def execDieTemperatureReturn (d : Fin 4) (t : Int) (s : State) : Out :=
  .next <|
    let s := if t ≤ 110 then s.condOff d 6 d else s
    if t ≤ 100 then s.condOff d 5 d else s

end Sys2Proof.Machine
end

