-- ==== Sys2Proof/Machine/Sett.lean ====
section
/-! DEFINITION. Sett and field update (10_sett_and_field_update.md): block writes and wear, retention refresh, the settings store,
staging of images and firmware, activation, trial and fallback, relay. -/
namespace Sys2Proof.Machine

/-! ## Command results (R326, R327) -/
def stcDONE : Nat := 2
def stcFORMAT : Nat := 3
def stcSIG : Nat := 7
def stcFRAME : Nat := 8
def stcSTATE : Nat := 9
def stcEPOCH : Nat := 10
def stcWRITE : Nat := 11
def stcSOURCE : Nat := 12
def stcFULL : Nat := 13
def stcCANCELLED : Nat := 14

/-- The running command ends. -/
def State.stcEnd (s : State) (status detail : Nat) : State :=
  let b := stcB 0
  let s := ((s.wr b STC_RES.STATUS status).wr b STC_RES.DETAIL detail).wr b STC_RES.VALID 1
  { (s.wr b STC_STAT.BUSY 0) with stc := none }

/-- A command is accepted: a new number, PENDING. -/
def State.stcBegin (s : State) (kind : Nat) (relay : Bool) : State :=
  let b := stcB 0
  let s := ((s.seqUp b STC_SEQ.SEQ).wr b STC_RES.VALID 0).wr b STC_RES.ACKD 0
  let s := (((s.wr b STC_RES.STATUS 1).wr b STC_RES.DETAIL 0).wr b STC_RES.KIND kind).wrb b STC_RES.SRC relay
  s.wr b STC_STAT.BUSY 1

/-- Whether LD0's STC takes a command: every die's SETT ready, none PENDING, the last result acknowledged. Activation is arbitrated by
the Owl of LD0: State.stcActivate (R34). -/
def State.stcFree (s : State) : Bool :=
  (List.range 4).all (fun d => s.ready d rdySETT) && s.stc.isNone && s.rd (stcB 0) STC_RES.STATUS != 1 && s.on (stcB 0) STC_RES.ACKD

/-- A command written to die `d`'s STC_CMD with a KIND: the reserved KIND discards the write; refused with REJ where R326 says so. -/
def State.stcCommand (s : State) (d kind : Nat) (f : State → State) : State :=
  if kind = 3 then s.rsvw (stcB d)
  else if d ≠ 0 ∨ !s.stcFree then s.wr (stcB d) STC_STAT.REJ 1
  else f (s.stcBegin kind false)

/-- STC_CMD.ACK releases the result. -/
def State.stcAck (s : State) (d : Nat) : State :=
  if d = 0 ∧ s.on (stcB 0) STC_RES.VALID then s.wr (stcB 0) STC_RES.ACKD 1 else s
def execStcAck (d : Fin 4) (s : State) : Out := .next (s.atBlock .stc d 0 fun s => s.stcAck d)

/-! ## The settings store (R310 to R312) -/

/-- The bytes of a record: header, padded payload, trailer with the CRC. -/
def SetRec.bytes (r : SetRec) : List Byte :=
  let pad := List.replicate ((16 - r.data.length % 16) % 16) (0 : Byte)
  let body := leBytes 2 r.type ++ leBytes 2 r.key ++ leBytes 2 r.fgen ++ leBytes 2 0 ++ leBytes 4 r.data.length ++ leBytes 4 r.seq ++
    r.data ++ pad
  body ++ leBytes 4 (crc32c body) ++ List.replicate 12 (0 : Byte)

/-- The current record of a type, key and generation. -/
def currentRec (rs : List SetRec) (type key fgen : Nat) : Option SetRec :=
  rs.foldl (fun m r =>
    if r.type = type ∧ r.key = key ∧ r.fgen = fgen then
      match m with
      | some q => if q.seq ≤ r.seq then some r else some q
      | none => some r
    else m) none

/-- FGEN of the Owl firmware in use on a die, and the generations that compaction keeps: 0, the active one, and during an Owl trial
the previous one (R312). -/
def State.slotInfo (s : State) (d kind k : Nat) : SlotInfo := KV.get {} (kind * 2 + k) (s.sett d).slots
def State.owlFgen (s : State) (d : Nat) : Nat :=
  match s.usedSlot d 1 with
  | some k => (s.slotInfo d 1 k).fgen
  | none => 0
def State.keptFgens (s : State) (d : Nat) : List Nat :=
  0 :: ([0, 1].filter fun k => [3, 4, 5].contains (s.slotState d 1 k)).map fun k => (s.slotInfo d 1 k).fgen

def halfBytes : Nat := 0x200000
/-- First logical block of half `h` of the settings store, and the identity area's first block. -/
def halfBlock (h : Nat) : Nat := 0x7200000 / 0x10000 + h * 32
def identityBlock : Nat := 0x7600000 / 0x10000

/-- The records of a store that read with a correct CRC, in the order of the store: one that lies on an uncorrectable line has a bad
CRC and is ignored (R304, R311). -/
def State.goodRecs (s : State) (d : Nat) : List SetRec :=
  let x := s.sett d
  (x.recs.foldl (fun (acc : List SetRec × Nat) r =>
    let n := r.bytes.length
    (if s.settBad d (halfBlock x.half * 0x10000 + acc.2) n then acc.1 else acc.1 ++ [r], acc.2 + n)) ([], 0)).1

/-- The record that a die's firmware finds for a type and key: the current one of its own FGEN (R311). -/
def State.ownRec (s : State) (d type key : Nat) : Option SetRec := currentRec (s.goodRecs d) type key (s.owlFgen d)

/-- The live records of a store. -/
def State.liveRecs (s : State) (d : Nat) : List SetRec :=
  let rs := s.goodRecs d
  rs.filter fun r => (s.keptFgens d).contains r.fgen && currentRec rs r.type r.key r.fgen == some r

/-- The block writes that store bytes at an offset of a half. -/
def halfParts (h off : Nat) (data : List Byte) : List SettPart :=
  (List.range ((off + data.length + 65535) / 65536 - off / 65536)).map fun i =>
    let k := off / 65536 + i
    let lo := max off (k * 65536)
    ⟨halfBlock h + k, lo - k * 65536, (data.drop (lo - off)).take ((k + 1) * 65536 - lo)⟩

/-- How a record is appended; none: it finds no room. The compaction that makes room has started already, when the write before left less
than 256 KiB free (R312). -/
def State.recordParts (s : State) (d : Nat) (r : SetRec) : Option (List SettPart × SettCommit) :=
  let x := s.sett d
  let seq := x.recs.foldl (fun m q => max m (q.seq + 1)) 1
  let r := { r with seq := seq }
  let b := r.bytes
  if halfBytes < x.used + b.length then none
  else some (halfParts x.half x.used b, ⟨x.half, x.used + b.length, x.recs ++ [r]⟩)

/-- A compaction: every live record copied to the other half, which then becomes the active one (R312). -/
def State.compactParts (s : State) (d : Nat) : List SettPart × SettCommit :=
  let x := s.sett d
  let live := s.liveRecs d
  let lb := live.flatMap SetRec.bytes
  let whole := lb ++ List.replicate (halfBytes - lb.length) (0 : Byte)
  (halfParts (1 - x.half) 0 whole, ⟨1 - x.half, lb.length, live⟩)

/-! ## Block writes (R305 to R309) -/

/-- Physical block of a logical one. -/
def SettX.phys (x : SettX) (blk : Nat) : Nat := KV.get blk blk x.map

/-- Foreground requests: all but refreshes (R309). -/
def SettReq.fore : SettReq → Bool
  | .refresh _ => false
  | _ => true

/-- Requests of the running command: not a refresh, a compaction or an Owl's settings record (R326). -/
def SettReq.ofCmd : SettReq → Bool
  | .block _ _ | .identity => true
  | .record _ c => c
  | .refresh _ | .compact => false

/-- The request that is written next: foreground ones come before refreshes, but a refresh that has waited for 10 s comes first
(R309). -/
def State.settNext (s : State) (d : Nat) : Option SettReq :=
  let x := s.sett d
  let share := x.refAt + 10000 * ticksPerMs ≤ s.now
  match (if share then x.queue.find? fun r => !r.fore else none) with
  | some r => some r
  | none =>
    match x.queue.find? SettReq.fore with
    | some r => some r
    | none => x.queue.head?

/-- Takes the next request up: its block writes. A record without room ends a RECWRITE with STORE_FULL. -/
def State.settKick (s : State) (d : Nat) : State :=
  let x := s.sett d
  if x.cur.isSome then s
  else
    match s.settNext d with
    | none => s
    | some r =>
      let x := { x with queue := x.queue.erase r }
      match r with
      | .block blk data => s.setSett d { x with cur := some ⟨r, [⟨blk, 0, data⟩], 0, none⟩ }
      | .refresh blk => s.setSett d { x with cur := some ⟨r, [⟨blk, 0, []⟩], 0, none⟩, refAt := s.now }
      | .compact => s.setSett d { x with cur := some ⟨r, (s.compactParts d).1, 0, some (s.compactParts d).2⟩ }
      | .identity => s.setSett d { x with cur := some ⟨r, [⟨identityBlock, 0, []⟩], 0, none⟩ }
      | .record rec' cmd =>
        match s.recordParts d rec' with
        | some (ps, c) => s.setSett d { x with cur := some ⟨r, ps, 0, some c⟩ }
        | none => (s.setSett d x).when cmd fun s => s.stcEnd stcFULL 0

/-- A request joins the queue; a refresh that finds no other waiting begins its wait now. -/
def State.settAsk (s : State) (d : Nat) (r : SettReq) : State :=
  let x := s.sett d
  let refAt := if !r.fore ∧ x.queue.all SettReq.fore then s.now else x.refAt
  (s.setSett d { x with queue := x.queue ++ [r], refAt := refAt }).settKick d

/-- Retention class of a write count, and its refresh age in hours (R308). -/
def settClass (writes : Nat) : Nat := if writes ≤ 10 ^ 6 then 0 else if writes ≤ 10 ^ 7 then 1 else 2
def refreshAge (writes : Nat) : Nat := if writes ≤ 10 ^ 6 then 87600 else if writes ≤ 10 ^ 7 then 43800 else 21900

/-- One programming pass on the transfer block; the wear advisory at 8 × 10^7 (R307). -/
def State.settPass (s : State) (d : Nat) : State :=
  let x := s.sett d
  let n := KV.get 0 x.transfer x.writes + 1
  let s := s.setSett d { x with writes := KV.put x.transfer n x.writes }
  if 8 * 10 ^ 7 ≤ n ∧ !s.on (stcB d) STC_STAT.WEAR_ADV then (s.wr (stcB d) STC_STAT.WEAR_ADV 1).raise d 27 none d else s

/-- Free spares are reported; below 8 an advisory is raised once (R307). -/
def State.settSpares (s : State) (d : Nat) : State :=
  let n := (s.sett d).spares.length
  let s := s.wr (stcB d) STC_SPARE.FREE n
  if n < 8 ∧ !s.on (stcB d) STC_STAT.SPARES_LOW then (s.wr (stcB d) STC_STAT.SPARES_LOW 1).raise d 28 none d else s

/-- The last request of a command is stored on every die that it writes. -/
def State.cmdWritten (s : State) : Bool :=
  (List.range 4).all fun d =>
    let x := s.sett d
    !x.queue.any SettReq.ofCmd && !x.cur.any fun c => c.req.ofCmd

/-- What is left of a command's writes is dropped on every die. -/
def State.cmdDrop (s : State) : State :=
  s.each (List.range 4) fun e s =>
    let x := s.sett e
    s.setSett e { x with queue := x.queue.filter fun r => !r.ofCmd, cur := x.cur.filter fun c => !c.req.ofCmd }

/-- A request is stored: a RECWRITE ends DONE; a KEYINST installs its key once every die holds it (R314). A record that leaves less than
256 KiB free starts a compaction, which comes before what waits (R312). -/
def State.settStored (s : State) (d : Nat) (c : SettCur) : State :=
  let s := match c.commit with
    | some k =>
      let s := s.setSett d { s.sett d with half := k.half, used := k.used, recs := k.recs }
      let s := if d = 0 then s.wr (stcB 0) STC_SETFREE.BYTES (halfBytes - k.used) else s
      if c.req ≠ SettReq.compact ∧ halfBytes - k.used < 0x40000 then
        s.setSett d { s.sett d with queue := .compact :: (s.sett d).queue }
      else s
    | none => s
  match c.req, s.stc with
  | .record _ true, some _ => s.stcEnd stcDONE 0
  | .identity, some k =>
    if k.op = 6 ∧ s.cmdWritten then
      (s.setKeyOf (leAt k.list 0 1) ((k.list.drop 16).take (if leAt k.list 0 1 = 0 then 32 else 49))).stcEnd stcDONE 0
    else s
  | _, _ => s

/-- A command fails for a block that cannot be written on a die: the slots it was writing end FAILED (R306, R316). -/
def State.settFailed (s : State) (d : Nat) (req : SettReq) : State :=
  let s := (s.count (stcB d) STC_HISTF.V).raise d 26 none d
  match s.stc with
  | some k =>
    if !req.ofCmd then s
    else
      let s := s.cmdDrop
      let s := if k.op = 1 ∨ k.op = 2 then s.each k.dies fun e s => s.setSlot e k.kind k.slot 6 else s
      s.stcEnd stcWRITE d
  | none => s

/-- The programming pass of the block write in progress on a die ends with its comparison: the map swaps the block onto the transfer
block, or the pass is repeated up to 8 times; then the transfer block is retired for a spare, or without one the write fails. -/
def execSettBlockWriteDone (d : Fin 4) (same : Bool) (s : State) : Out :=
  .next <|
    match (s.sett d).cur with
    | none => s
    | some c =>
      match c.parts with
      | [] => s
      | p :: ps =>
        let s := s.settPass d
        let x := s.sett d
        if same then
          let old := x.phys p.blk
          let x := { x with
            map := KV.set p.blk p.blk x.transfer x.map
            transfer := old
            wrote := KV.set 0 p.blk x.hours x.wrote
            lineErr := KV.dropRange (p.blk * 1024) (p.blk * 1024 + 1024) x.lineErr
            due := x.due.filter (· != p.blk)
            cur := if ps = [] then none else some { c with parts := ps, tries := 0 } }
          let s := ((s.setSett d x).putBytes (settAddr d + p.blk * 0x10000 + p.off) p.data).count (stcB d + c.tries * 4) STC_HIST.V
          let s := if ps = [] then s.settStored d c else s
          (s.settKick d).settRefresh d
        else if c.tries < 8 then s.setSett d { x with cur := some { c with tries := c.tries + 1 } }
        else
          match x.spares with
          | t :: ts =>
            let s := s.setSett d { x with transfer := t, spares := ts, cur := some { c with tries := 0 } }
            (s.raise d 25 none d).settSpares d
          | [] => ((((s.setSett d { x with cur := none }).settFailed d c.req).settKick d).settRefresh d)

/-- A retention scan of a die: the powered hours since the last scan, and what it finds. A line that needed correction makes its block due, an uncorrectable one raises source 24; blocks that
have reached their refresh age are due as well (R304, R308, R309; notes/assumptions/102.md). -/
def execRetentionScan (d : Fin 4) (hours : Nat) (found : Sys2Proof.ScanFound) (s : State) : Out :=
  .next <|
    if !s.ready d rdySETT then s
    else
      let s := (s.settMeets d found.errs).settRead d 0 0x8000000
      let x := s.sett d
      let now := x.hours + hours
      let aged := (List.range 2048).filter fun b =>
        refreshAge (KV.get 0 (x.phys b) x.writes) ≤ now - KV.get 0 b x.wrote
      (s.setSett d { x with hours := now, due := (x.due ++ found.weak.map (·.val) ++ aged).eraseDups }).settRefresh d

/-- The first block due is rewritten; foreground writes come first. -/
def execRetentionRewrite (d : Fin 4) (s : State) : Out :=
  .next <|
    let x := s.sett d
    match x.due with
    | [] => s
    | b :: bs =>
      if x.queue.contains (.refresh b) then s
      else ((s.setSett d { x with due := bs }).settAsk d (.refresh b)).settRefresh d

/-- The Owl of a die appends a settings record under its own FGEN, behind a running command (R312, R326). -/
def State.owlRecord (s : State) (d type key : Nat) (data : List Byte) : State :=
  s.settAsk d (.record ⟨type, key, s.owlFgen d, 0, data⟩ false)
def execOwlSettingsWrite (d : Fin 4) (type key : BitVec 16) (data : List Byte) (s : State) : Out :=
  .next <|
    if s.owlRuns d ∧ 1 ≤ type.toNat ∧ type.toNat < 0x8000 ∧ 1 ≤ data.length ∧ data.length ≤ 65504 then
      s.owlRecord d type.toNat key.toNat data
    else s

/-- The Owl writes a die's new spare map into its fabric repair record: type 0x0301, a byte per region (R255, R257). -/
def execRepairRecordWrite (d : Fin 4) (s : State) : Out :=
  .next <|
    let regions := (List.range 64).map fun n => d.val * 64 + n
    if s.owlRuns d && regions.any fun r => (s.region r).recDue then
      let data := regions.map fun r =>
        if s.on (frB r) FR_STAT.SPARE_USED && s.on (frB r) FR_STAT.MAPSRC then
          BitVec.ofNat 8 (0x80 + s.rd (frB r) FR_STAT.BADCOL) else (0 : Byte)
      (s.each regions fun r s => s.setRegion r { s.region r with recDue := false }).owlRecord d 0x0301 0 data
    else s

/-- The Owl writes the retired lanes of a joint into the D2D lane record: type 0x0401, KEY = joint, for each direction and bundle a
mask of retired physical lanes; the lower-numbered die sends first (R422). -/
def execLaneRecordWrite (j : Fin 4) (s : State) : Out :=
  .next <|
    if !s.laneRecDue.contains j.val then s
    else
      let a := j.val
      let b := (a + 1) % 4
      -- direction a to b is received by b on its edge 1; b to a is received by a on its edge 0
      let toB := (b, 1)
      let toA := (a, 0)
      let dirs := if a < b then [toB, toA] else [toA, toB]
      let mask := fun (p : Nat × Nat) (n : Nat) =>
        (List.range 11).foldl (fun m l => if s.role p.1 p.2 n l = roleRETIRED then m + 2 ^ l else m) 0
      let data := dirs.flatMap fun p => (List.range 21).flatMap fun n => leBytes 2 (mask p n)
      let owl := min a b
      if !s.owlRuns owl then s
      else { s with laneRecDue := s.laneRecDue.filter (· != a) }.owlRecord owl 0x0401 a data

/-! ## Epochs (R320, R475) -/

/-- The device's EPOCH and MINPEER: over every ACTIVE, TRIAL and PREV slot. -/
def State.deviceEpochs (s : State) : Nat × Nat :=
  let infos := (List.range 4).flatMap fun d => (List.range 6).filterMap fun i =>
    if [3, 4, 5].contains (s.slotState d (i / 2) (i % 2)) then some (s.slotInfo d (i / 2) (i % 2)) else none
  match infos with
  | [] => (0, 0)
  | i :: is => (is.foldl (fun m x => min m x.epoch) i.epoch, is.foldl (fun m x => max m x.minpeer) i.minpeer)

/-- Port states of GSL_PSTAT.STATE. -/
def portDISABLED : Nat := 0
def portTRAINING : Nat := 1
def portUP : Nat := 2
def portHOLD : Nat := 3
def portHELD : Nat := 4
def portLOOP : Nat := 5
def State.portState (s : State) (g : Nat) : Nat := s.rd (gpB g) GSL_PSTAT.STATE

/-- A port changes state; any change sends PF vector 52 (R496). DCTL_READY.GSLn is 1 in UP alone. -/
def State.setPortState (s : State) (g st : Nat) : State :=
  if s.portState g = st then s
  else ((s.wr (gpB g) GSL_PSTAT.STATE st).setReady (g / 6) (rdyGSL (g % 6)) (st == portUP)).sendMsix 52

/-- The partner's values agree with the device's own window (R475). -/
def State.epochsAgree (s : State) (g : Nat) : Bool :=
  s.rd (stcB 0) STC_EPOCH.MINPEER ≤ s.rd (gpB g) GSL_PEPOCH.EPOCH && s.rd (gpB g) GSL_PEPOCH.MINPEER ≤ s.rd (stcB 0) STC_EPOCH.EPOCH

/-- The epoch check of a port that is UP or held for its epoch. -/
def State.epochCheck (s : State) (g : Nat) : State :=
  if s.portState g = portUP ∧ !s.epochsAgree g then
    ((s.setPortState g portHOLD).raise (g / 6) 90 none g).parentPortDown g
  else if s.portState g = portHOLD ∧ s.epochsAgree g then s.setPortState g portUP
  else s

/-- STC_EPOCH follows the slots; a change is reported to the partner of every port that is UP or held for its epoch, in an LMGT frame that
waits for its answer (R320); every port checks its partner again. -/
def State.epochRefresh (s : State) : State :=
  let e := s.deviceEpochs
  let same := s.rd (stcB 0) STC_EPOCH.EPOCH == e.1 && s.rd (stcB 0) STC_EPOCH.MINPEER == e.2
  let s := (s.wr (stcB 0) STC_EPOCH.EPOCH e.1).wr (stcB 0) STC_EPOCH.MINPEER e.2
  let s := if same then s else s.each (List.range 24) fun g s =>
    if s.portState g = portUP ∨ s.portState g = portHOLD then s.setGsl g { s.gsl g with lmgt := true } else s
  s.each (List.range 24) fun g s => s.epochCheck g

/-! ## Staging (R313 to R316) -/

/-- The format of a firmware or key header: kind 1 OWL, 2 SP, 3 KEY. -/
def fwFormat (kind : Nat) (h : List Byte) : Bool :=
  let body := leAt h 0x1C 4
  leAt h 0x00 4 == 0x57465847 && hdrCommon h && leAt h 0x0D 1 == 0 && body % 16 == 0 && leAt h 0x20 8 == 256 + body &&
  zeroFrom h 0x76 0x78 &&
  (if kind = 1 then hdrKind h == 0x10 && body ≤ 1048320 && leAt h 0x74 2 != 0
   else if kind = 2 then hdrKind h == 0x11 && body ≤ 8388352 && leAt h 0x74 2 == 0
   else hdrKind h == 0x12 && body == 80 && leAt h 0x74 2 == 0 && leAt h 0x0E 2 == 1 && leAt h 0x28 1 == 0 && leAt h 0x29 1 == 0)

/-- The plaintext body of a firmware or key image. -/
def State.fwBody (s : State) (img : List Byte) : Option (List Byte) :=
  (s.contentKey img).bind fun k =>
    Config.gcmOpen k (BitVec.ofNat 96 (leAt img 0x58 12)) (img.take 0x58) ((img.drop 0x100).take (leAt img 0x1C 4))
      (BitVec.ofNat 128 (leAt img 0x64 16))

/-- Length of an image of a kind, from its header. -/
def imgLen (kind : Nat) (h : List Byte) : Nat := if kind = 0 then hdrLen h else 256 + leAt h 0x1C 4

/-- Address of a slot of a kind. -/
def settSlotAddr (d kind k : Nat) : Nat := if kind = 0 then imageSlot d k else if kind = 1 then owlSlotAddr d k else spSlotAddr d k

/-- The inactive slot of a kind on a die: not ACTIVE, TRIAL or PREV; the lower of two. -/
def State.inactiveSlot (s : State) (d kind : Nat) : Nat :=
  if [3, 4, 5].contains (s.slotState d kind 0) then 1 else 0

/-- A slot of a kind is in TRIAL on some die. -/
def State.trialOpen (s : State) (kind : Nat) : Bool :=
  (List.range 4).any fun d => s.slotState d kind 0 == 4 || s.slotState d kind 1 == 4

/-- A CFE load reads an image slot of a die. -/
def State.slotInLoad (s : State) (d k : Nat) : Bool := s.cfeState d != cfeIDLE && (s.cfe d).src == k + 1

/-- Regions of a die lose their Sett copy in a slot that is written (R298). -/
def State.copiesVoid (s : State) (d k : Nat) : State :=
  s.each (List.range 64) fun n s => if (s.region (d * 64 + n)).slot = some k then s.setCopy (d * 64 + n) none else s

/-- The dies that a STAGE writes and its target slot: for an image the die that RMASK names, else all four. -/
def stageDies (kind : Nat) (h : List Byte) : List Nat := if kind = 0 then (hdrDies h).take 1 else List.range 4
def State.stageSlot (s : State) (kind : Nat) (h : List Byte) : Nat := s.inactiveSlot ((stageDies kind h).headD 0) kind

/-- REJ_STATE of a STAGE. -/
def State.stageRefused (s : State) (kind : Nat) (h : List Byte) : Bool :=
  s.trialOpen kind || (kind == 0 && (stageDies kind h).any fun d => s.slotInLoad d (s.stageSlot kind h))

/-- The target slot becomes WRITING and loses its copies. -/
def State.stageBegin (s : State) (kind : Nat) (h : List Byte) : State :=
  let slot := s.stageSlot kind h
  s.each (stageDies kind h) fun d s => (s.setSlot d kind slot 1).when (kind == 0) fun s => s.copiesVoid d slot

/-- The STAGE ends with a status and leaves the slot FAILED. -/
def State.stageFail (s : State) (kind : Nat) (h : List Byte) (st : Nat) : State :=
  let slot := s.stageSlot kind h
  (s.each (stageDies kind h) fun d s => s.setSlot d kind slot 6).stcEnd st 0

/-- Step 1 of an image whose slot is WRITING, and the block writes of step 2. -/
def State.stageImage (s : State) (kind : Nat) (img list : List Byte) (relay : Bool) : State :=
  let dies := stageDies kind img
  let slot := s.stageSlot kind img
  let len := imgLen kind img
  let bad := if kind = 0 then !(imageFormat img && hdrKind img == 2) else !fwFormat kind img
  if bad ∨ img.length < len then s.stageFail kind img stcFORMAT
  else
    let id := s.headerIdentity img
    if id ≠ 0 then s.stageFail kind img (3 + id)
    else
      let img := img.take len
      let base := (settSlotAddr 0 kind slot - settAddr 0) / 0x10000
      let s := { s with stc := some ⟨if relay then 2 else 1, kind, slot, dies, img, list, relay⟩ }
      s.each dies fun d s => s.each (List.range ((len + 65535) / 65536)) fun i s =>
        s.settAsk d (.block (base + i) ((img.drop (i * 65536)).take 65536))

/-- A STAGE of an image at hand: the refusals, the slot set WRITING, step 1, and the block writes of step 2 (R316). -/
def State.settStage (s : State) (kind : Nat) (img list : List Byte) (relay : Bool) : State :=
  if s.stageRefused kind img then s.stcEnd stcSTATE 0 else (s.stageBegin kind img).stageImage kind img list relay

/-- The Owl of LD0 reads the operand of a command: `n` bytes, none: a decode error or poison. -/
def State.stcRead (s : State) (a n : Nat) : Option (List Byte) × State :=
  let (g, s) := s.getBytes ⟨.owl 0, true, none⟩ a n
  (if g.err.isSome ∨ g.poison then none else some g.data, s)

/-- The relay list at STC_RADDR (R317), or the status that it ends a RELAY with. -/
def State.relayList (s : State) : (Nat ⊕ List Byte) × State :=
  let a := s.rd2 (stcB 0) STC_RADDR_LO.V STC_RADDR_HI.V
  let r := s.stcRead a 16
  let s := r.2
  match r.1 with
  | none => (.inl stcSOURCE, s)
  | some h =>
    let n := leAt h 4 2
    if leAt h 0 4 ≠ 0x4C525847 ∨ n = 0 ∨ 16384 < n ∨ !zeroFrom h 6 16 then (.inl stcFORMAT, s)
    else
      let r := s.stcRead a (16 + 4 * n)
      match r.1 with
      | none => (.inl stcSOURCE, r.2)
      | some l => (.inr l, r.2)

/-- STAGE and RELAY from local memory (R316, R317). The trial is tested before anything is read; the header of an image is read to find
the slot, and from then on a source that answers with an error leaves the slot FAILED. -/
def State.stcStage (s : State) (kind : Nat) (relay : Bool) : State :=
  let b := stcB 0
  let a := s.rd2 b STC_ADDR_LO.V STC_ADDR_HI.V
  let n := s.rd b STC_LEN.V * 16
  if s.trialOpen kind then s.stcEnd stcSTATE 0
  else
    let k := if kind = 0 then min n 256 else 0
    let r := s.stcRead a k
    let s := r.2
    match r.1 with
    | none => s.stcEnd stcSOURCE 0
    | some h =>
      if s.stageRefused kind h then s.stcEnd stcSTATE 0
      else
        let r := (s.stageBegin kind h).stcRead (a + k) (n - k)
        let s := r.2
        match r.1 with
        | none => s.stageFail kind h stcSOURCE
        | some rest =>
          let img := h ++ rest
          if !relay then s.stageImage kind img [] false
          else
            let l := s.relayList
            match l.1 with
            | .inl st => l.2.stageFail kind img st
            | .inr list => l.2.stageImage kind img list true

def execStage (d kind : Fin 4) (s : State) : Out :=
  .next (s.atBlock .stc d 0 fun s => s.stcCommand d kind fun s => s.stcStage kind false)
def execRelay (d kind : Fin 4) (s : State) : Out :=
  .next (s.atBlock .stc d 0 fun s => s.stcCommand d kind fun s => s.stcStage kind true)

/-- The stored copy of a staged image on a die passes steps 3 and 4: 0, else the status. -/
def State.storedCheck (s : State) (k : StcCmd) (d : Nat) : Nat :=
  let o := settSlotAddr d k.kind k.slot - settAddr d
  let g := s.settGet d o k.img.length
  let img := g.1
  if k.kind = 0 then
    let key := (s.contentKey img).getD 0
    -- the frames seen, and the FRAME 0 of each region among them
    let frames := (List.range (hdrFrames img)).foldl (fun (acc : Option (List Nat × List (Nat × List Byte))) i =>
      acc.bind fun acc =>
        let frame0 := fun r => ((acc.2.find? fun e => e.1 == r).map (·.2)).getD []
        let at_ := 256 + i * 1072
        match s.recordCheck key (hdrRegions img) acc.1 frame0 (s.settBad d (o + at_) 1072) ((img.drop at_).take 1072) with
        | .inr (no, c) => some (no :: acc.1, if no % 2048 = 0x7E0 then (no / 2048, c) :: acc.2 else acc.2)
        | .inl _ => none) (some ([], []))
    if frames.isNone ∨ s.settBad d o 256 then stcFRAME else if s.signatureOk img then 0 else stcSIG
  else if g.2 then stcFRAME
  else if s.signatureOk img ∧ (s.fwBody img).isSome then 0 else stcSIG

/-- The index of this device's entry in a relay list, when exactly one names it; the devices it forwards to (R317, R318). -/
def relayEntries (list : List Byte) : List (Nat × Nat) :=
  (List.range (leAt list 4 2)).map fun i => (leAt list (16 + 4 * i) 4 % 2 ^ 14, leAt list (16 + 4 * i) 4 / 2 ^ 16 % 2 ^ 14)
def relayIndex (list : List Byte) (dev : Nat) : Option Nat :=
  let es := relayEntries list
  match (List.range es.length).filter fun i => (es.getD i (0, 0)).1 == dev with
  | [i] => some i
  | _ => none
def relayChildren (list : List Byte) (dev : Nat) : List Nat :=
  match relayIndex list dev with
  | some i => ((relayEntries list).filter fun e => e.2 == i).map (·.1)
  | none => []
def State.devnum (s : State) : Nat := s.rd (dctlB 0) DCTL_DEVNUM.DEVNUM

/-- Read-back and signature checks of a staged image end: the slot VALID with what it recorded, or FAILED; a RELAY then forwards to its
children (R316, R318). -/
def execStageComplete (s : State) : Out :=
  .next <|
    match s.stc with
    | some k =>
      if (k.op ≠ 1 ∧ k.op ≠ 2) ∨ !s.cmdWritten then s
      else
        let bad := (k.dies.map fun d => s.storedCheck k d).find? (· != 0)
        -- what reading the copy back leaves (R304)
        let s := s.each k.dies fun d s => s.settRead d (settSlotAddr d k.kind k.slot - settAddr d) k.img.length
        match bad with
        | some st => (s.each k.dies fun d s => s.setSlot d k.kind k.slot 6).stcEnd st 0
        | none =>
          let info : SlotInfo := ⟨leAt k.img 0x18 2, leAt k.img 0x1A 2, if k.kind = 1 then leAt k.img 0x74 2 else 0⟩
          let s := s.each k.dies fun d s =>
            let s := s.setSlot d k.kind k.slot 2
            s.setSett d { s.sett d with slots := KV.set {} (k.kind * 2 + k.slot) info (s.sett d).slots }
          let s := if k.op = 2 then
              ((s.wr (stcB 0) STC_RELAY_RES.SENT 0).wr (stcB 0) STC_RELAY_RES.REFUSED 0)
            else s
          let s := s.stcEnd stcDONE 0
          if k.op = 2 then { s with relayOut := relayChildren k.list s.devnum } else s
    | none => s

/-! ## Relay (R318, R319, R482) -/

/-- The link port that the route table names for a device (R318). -/
def State.routePort (s : State) (dev : Nat) : Option Nat :=
  let b := gslB 0 + dev * 4
  let ok := fun (p : Nat) => p < 24 && s.portState p == portUP
  if s.on b GSL_RT.PV && ok (s.rd b GSL_RT.PRIM) then some (s.rd b GSL_RT.PRIM)
  else if s.on b GSL_RT.AV && ok (s.rd b GSL_RT.ALT) then some (s.rd b GSL_RT.ALT)
  else none

/-- After its STAGE a device offers the image to its next child, while fewer than 4 offers are without an answer; a child that no port
reaches counts as refused (R318). -/
def execRelayForward (s : State) : Out :=
  .next <|
    match s.relayOut with
    | [] => s
    | c :: cs =>
      if 4 ≤ (s.sett 0).offers then s
      else
        let s := { s with relayOut := cs }
        match s.routePort c with
        | some p => (s.setSett 0 { s.sett 0 with offers := (s.sett 0).offers + 1 }).relayAnswer p 2 c
        | none => s.count (stcB 0) STC_RELAY_RES.REFUSED

/-- An answer of a child reaches the sender: ACCEPTED counts as SENT, any other or a lost link as REFUSED (R319). An answer to no offer
changes nothing. -/
def execRelayAnswer (accepted : Bool) (s : State) : Out :=
  .next <|
    if (s.sett 0).offers = 0 then s
    else
      (s.setSett 0 { s.sett 0 with offers := (s.sett 0).offers - 1 }).count (stcB 0)
        (if accepted then STC_RELAY_RES.SENT else STC_RELAY_RES.REFUSED)

/-- A neighbour on a link port has sent a relay image of `len` bytes with its list: the answer, and staging when it is accepted
(R319). KIND follows from the header. -/
def execSettRelayOffer (port : Fin 24) (len : Nat) (s : State) : Out :=
  .next <|
    let all := s.relayBuf port
    let img := all.take len
    let list := all.drop len
    let s := s.setRelayBuf port []
    if !s.on (stcB 0) STC_CFG.RELAY_EN ∨ !s.on (dctlB 0) DCTL_DEVNUM.LOCKED then s.relayAnswer port 0 2
    else if !s.stcFree then s.relayAnswer port 0 1
    else if (relayIndex list s.devnum).isNone then s.relayAnswer port 0 3
    else if leAt img 0x0E 2 % 2 = 1 ∧ leAt img 0x10 8 ≠ Config.unitSerial.toNat then s.relayAnswer port 0 4
    else
      let kind := if leAt img 0 4 = 0x4D495847 then 0 else if hdrKind img = 0x10 then 1 else 2
      let s := (s.relayAnswer port 0 0).stcBegin kind true
      let s := s.settStage kind img list true
      match s.stc with
      | some k => { s with stc := some { k with relayed := true } }
      | none => s

/-! ## Records and keys by command (R314, R326) -/

/-- RECWRITE: a customer record at STC_ADDR, appended to LD0's store (notes/assumptions/34.md). -/
def State.stcRecwrite (s : State) : State :=
  let b := stcB 0
  let a := s.rd2 b STC_ADDR_LO.V STC_ADDR_HI.V
  let r := s.stcRead a 16
  let s := r.2
  match r.1 with
  | none => s.stcEnd stcSOURCE 0
  | some h =>
    let type := leAt h 0 2
    let len := leAt h 8 4
    if type < 0x8000 ∨ 0xFFFE < type ∨ leAt h 4 2 ≠ 0 ∨ leAt h 6 2 ≠ 0 ∨ len = 0 ∨ 65504 < len then s.stcEnd stcFORMAT 0
    else
      let r := s.stcRead (a + 16) len
      let s := r.2
      match r.1 with
      | none => s.stcEnd stcSOURCE 0
      | some data =>
        let s := { s with stc := some ⟨5, 0, 0, [0], [], [], false⟩ }
        s.settAsk 0 (.record ⟨type, leAt h 2 2, 0, 0, data⟩ true)
def execRecwrite (d kind : Fin 4) (s : State) : Out :=
  .next (s.atBlock .stc d 0 fun s => s.stcCommand d kind fun s => s.stcRecwrite)

/-- KEYINST: the KEY record passes steps 1, 3 and 4 and its body the limits of R314; its key is written on all four dies. -/
def State.stcKeyinst (s : State) : State :=
  let b := stcB 0
  let r := s.stcRead (s.rd2 b STC_ADDR_LO.V STC_ADDR_HI.V) (s.rd b STC_LEN.V * 16)
  let s := r.2
  match r.1 with
  | none => s.stcEnd stcSOURCE 0
  | some img =>
    if !fwFormat 3 img ∨ img.length < 336 then s.stcEnd stcFORMAT 0
    else
      let img := img.take 336
      let id := s.headerIdentity img
      if id ≠ 0 then s.stcEnd (3 + id) 0
      else
        match s.fwBody img with
        | none => s.stcEnd stcSIG 0
        | some body =>
          let t := leAt body 0 1
          if !s.signatureOk img then s.stcEnd stcSIG 0
          else if 3 < t ∨ !zeroFrom body 1 16 ∨ !zeroFrom body (if t = 0 then 48 else 65) 80 then s.stcEnd stcFORMAT 0
          else
            let s := { s with stc := some ⟨6, 0, 0, [0, 1, 2, 3], [], body, false⟩ }
            s.each (List.range 4) fun d s => s.settAsk d .identity
def execKeyinst (d kind : Fin 4) (s : State) : Out :=
  .next (s.atBlock .stc d 0 fun s => s.stcCommand d kind fun s => s.stcKeyinst)

/-- INVAL: the inactive slot becomes EMPTY on every die. -/
def State.stcInval (s : State) (kind : Nat) : State :=
  let s := s.each (List.range 4) fun d s =>
    let k := s.inactiveSlot d kind
    if [3, 4, 5].contains (s.slotState d kind k) then s
    else (s.setSlot d kind k 0).when (kind == 0) fun s => s.copiesVoid d k
  s.stcEnd stcDONE 0
def execInval (d kind : Fin 4) (s : State) : Out :=
  .next (s.atBlock .stc d 0 fun s => s.stcCommand d kind fun s => s.stcInval kind)

/-! ## Activation, trial and fallback (R321 to R325) -/

/-- TRIES of a kind. -/
def triesFld (kind : Nat) : Fld := if kind = 0 then STC_SLOT.TRIES_IMG else if kind = 1 then STC_SLOT.TRIES_OWL else STC_SLOT.TRIES_SP
def State.setTries (s : State) (kind v : Nat) : State := s.each (List.range 4) fun d s => s.wr (stcB d) (triesFld kind) v

/-- The confirm window of a kind closes; LEFT reads 0 when none is open. -/
def State.windowClose (s : State) (kind : Nat) : State :=
  let s := s.setOpened kind 0
  if (List.range 3).all fun k => s.opened k == 0 then s.wr (stcB 0) STC_CONF.LEFT 0 else s

/-- ACTIVATE: the Owl of LD0 must be ready (R34; notes/assumptions/104.md), the inactive slots VALID everywhere with equal values, no
trial open, and every trained partner inside the new window; then they become TRIAL and the active ones PREV. An Owl restarts from its TRIAL slot. -/
def State.stcActivate (s : State) (kind : Nat) : State :=
  let k := fun d => s.inactiveSlot d kind
  let i0 := s.slotInfo 0 kind (k 0)
  let okSlots := (List.range 4).all fun d => s.slotState d kind (k d) == 2 &&
    (s.slotInfo d kind (k d)).epoch == i0.epoch && (s.slotInfo d kind (k d)).minpeer == i0.minpeer
  if !okSlots ∨ s.trialOpen kind ∨ !s.ready 0 rdyOWL then s.stcEnd stcSTATE 0
  else
    match (List.range 24).find? fun g => s.ready (g / 6) (rdyGSL (g % 6)) &&
        (s.rd (gpB g) GSL_PEPOCH.EPOCH < i0.minpeer || i0.epoch < s.rd (gpB g) GSL_PEPOCH.MINPEER) with
    | some g => s.stcEnd stcEPOCH g
    | none =>
      let s := s.each (List.range 4) fun d s =>
        let n := s.inactiveSlot d kind
        let s := if s.slotState d kind (1 - n) = 3 then s.setSlot d kind (1 - n) 5 else s
        s.setSlot d kind n 4
      let s := (s.setTries kind 0).epochRefresh
      let s := if kind = 1 then s.each (List.range 4) fun d s => s.owlRestart d else s
      s.stcEnd stcDONE 0
def execActivate (d kind : Fin 4) (s : State) : Out :=
  .next (s.atBlock .stc d 0 fun s => s.stcCommand d kind fun s => s.stcActivate kind)

/-- A fallback: TRIAL FAILED, PREV ACTIVE, the fault; Owls restart, SPs of trial firmware are reset and boot again (R325). -/
def State.fallback (s : State) (kind : Nat) : State :=
  if !s.trialOpen kind then s
  else
    let s := s.each (List.range 8) fun i s =>
      let d := i / 2
      let k := i % 2
      if s.slotState d kind k = 4 then s.setSlot d kind k 6
      else if s.slotState d kind k = 5 then s.setSlot d kind k 3 else s
    let s := ((s.windowClose kind).epochRefresh).raise 0 29 none 0
    if kind = 1 then s.each (List.range 4) fun d s => s.owlRestart d
    else if kind = 2 then
      s.each (List.range 16) fun n s =>
        if (s.sp n).trial && !s.on (spB n) SP_CTL.RST then (s.spReset n).spRelease n else s
    else s

/-- The 600 s of an open confirm window have passed (R323). -/
def State.windowOver (s : State) (kind : Nat) : Bool :=
  s.opened kind != 0 && decide (s.opened kind - 1 + 600000 * ticksPerMs ≤ s.now)

/-- CONFIRM: TRIAL becomes ACTIVE and PREV VALID; the window closes. One that arrives with the expiry of the
window or after it finds the trial fallen back (R324). -/
def State.stcConfirm (s : State) (kind : Nat) : State :=
  if s.windowOver kind then (s.fallback kind).stcEnd stcSTATE 0
  else if !s.trialOpen kind then s.stcEnd stcSTATE 0
  else
    let s := s.each (List.range 8) fun i s =>
      let d := i / 2
      let k := i % 2
      if s.slotState d kind k = 4 then s.setSlot d kind k 3
      else if s.slotState d kind k = 5 then s.setSlot d kind k 2 else s
    (((s.setTries kind 0).windowClose kind).epochRefresh).stcEnd stcDONE 0
def execConfirm (d kind : Fin 4) (s : State) : Out :=
  .next (s.atBlock .stc d 0 fun s => s.stcCommand d kind fun s => s.stcConfirm kind)

/-- Where a die's TRIAL slot of a kind lies in its Sett. -/
def State.trialSlot (s : State) (d kind : Nat) : Option Nat :=
  ([0, 1].find? fun k => s.slotState d kind k == 4).map fun k => settSlotAddr d kind k - settAddr d

/-- The firmware in a die's TRIAL slot of a kind passes its signature and tag. -/
def State.trialGood (s : State) (d kind : Nat) : Bool :=
  match s.trialSlot d kind with
  | none => true
  | some o =>
    let h := (s.settGet d o 256).1
    let g := s.settGet d o (imgLen kind h)
    !g.2 && s.signatureOk g.1 && (kind == 0 || (s.fwBody g.1).isSome)

/-- The four dies read their TRIAL slots of a kind (R304). -/
def State.trialRead (s : State) (kind : Nat) : State :=
  s.each (List.range 4) fun d s =>
    match s.trialSlot d kind with
    | some o => s.settRead d o (imgLen kind (s.settGet d o 256).1)
    | none => s

/-- A start of a trial: TRIES advances and the window opens at the first; with TRIES at 3, or a slot that fails its signature or tag, it
falls back instead (R323). `errs` are bit errors that the reads of the slots meet, by die and line (notes/assumptions/102.md). -/
def execTrialStart (kind : Fin 3) (errs : List (Fin 4 × Fin 2097152 × Nat)) (s : State) : Out :=
  .next <|
    let t := s.rd (stcB 0) (triesFld kind)
    if !s.trialOpen kind then s
    else if t = 3 then s.fallback kind
    else
      let s := s.each errs fun e s => s.settMeets e.1 [e.2]
      let good := (List.range 4).all fun d => s.trialGood d kind
      let s := s.trialRead kind
      if !good then s.fallback kind
      else
        let s := s.setTries kind (t + 1)
        if s.opened kind = 0 then (s.setOpened kind (s.now + 1)).wr (stcB 0) STC_CONF.LEFT 600 else s

/-- The 600 s window closes without CONFIRM. -/
def execConfirmWindowExpire (kind : Fin 3) (s : State) : Out :=
  .next <| if s.windowOver kind then s.fallback kind else s

/-! ## Channel calibration (R92, R93) -/

/-- A bank calibration record that passes: 800 bytes, this bank, format 1, reserved fields zero (R93). -/
def calRecordOk (b : Nat) (r : List Byte) : Bool :=
  r.length == 800 && leVal (r.take 2) == b && leVal ((r.drop 2).take 2) == 1 &&
  ((r.drop 15).take 17).all (· == 0) && (List.range 32).all fun p => (r.drop (32 + 24 * p + 7)).head? == some 0

/-- Loads pin `p` of bank `b` from its 24 bytes of the record; no record loads zeros. Of ZTRIM, DDRV and DCMP the bits that their
register fields have are taken, and the others do not make the record fail (DESIGN CHOICE: notes/assumptions/103.md). -/
def State.calPin (s : State) (b p : Nat) (r : List Byte) : State :=
  let c := chB (b * 32 + p)
  let at_ := fun o n => leVal ((r.drop (32 + 24 * p + o)).take n)
  let s := (s.load c CH_DSK.DDRV (at_ 0 2)).load c CH_DSK.DCMP (at_ 2 2)
  let s := (s.load c CH_TRIM.THH_TRIM (at_ 4 1)).load c CH_TRIM.THL_TRIM (at_ 5 1)
  let s := s.load c CH_TRIM.ZTRIM (at_ 6 1)
  s.each (List.range 4) fun n s =>
    (((s.load (c + 4 * n) CH_TGLIN.L0 (at_ (8 + 4 * n) 1)).load (c + 4 * n) CH_TGLIN.L1 (at_ (9 + 4 * n) 1)).load
      (c + 4 * n) CH_TGLIN.L2 (at_ (10 + 4 * n) 1)).load (c + 4 * n) CH_TGLIN.L3 (at_ (11 + 4 * n) 1)

/-- At start-up the running Owl of the die applies a bank's record, of type 0x0201 with KEY = the bank, from its settings store; a bank
whose record is missing or fails loads zeros, sets CAL_DEFAULT and raises source 36 (R92, R93). After READY.TCB nothing is loaded. `errs`
are bit errors that the read of the store meets (notes/assumptions/102.md). -/
def execCalRecordLoad (b : Fin 72) (errs : List (Fin 2097152 × Nat)) (s : State) : Out :=
  .next <|
    let d := b.val / 18
    if !s.owlRuns d ∨ s.ready d rdyTCB then s
    else
      let s := s.settMeets d errs
      let rec' := s.ownRec d 0x0201 b
      let good := match rec' with
        | some r => calRecordOk b r.data
        | none => false
      let r := if good then (rec'.map (·.data)).getD [] else []
      let x := s.sett d
      let s := s.settRead d (halfBlock x.half * 0x10000) x.used
      let s := s.each (List.range 32) fun p s => s.calPin b p r
      let s := s.wr (tcbB b) TCB_STAT.CAL_LOADED 1
      let s := s.wrb (tcbB b) TCB_STAT.CAL_DEFAULT (!good)
      if good then s else s.raise d 36 none b

end Sys2Proof.Machine
end

