-- ==== Sys2Proof/Machine/Sac.lean ====
section
/-! DEFINITION. Signal analysis cores (11_signal_analysis_cores.md): registers and pointers, the exposed pipeline, control flow,
exceptions and interrupts, the 44 instructions, transfer channels, events, core reset. -/
namespace Sys2Proof.Machine

/-! ## Registers (R331, R332, R335) -/

/-- Values of SAC_STAT.STATE. -/
def sacRESET : Nat := 0
def sacRUN : Nat := 1
def sacWAIT : Nat := 2
def sacHALTED : Nat := 3
def sacDFAULT : Nat := 4
def State.sacState (s : State) (c : Nat) : Nat := s.rd (sacB c) SAC_STAT.STATE
def State.setSacState (s : State) (c st : Nat) : State := s.wr (sacB c) SAC_STAT.STATE st

/-- The core is clocked: POR released, the domain SAC not stopped, the block not gated (R503, R504). -/
def State.sacClocked (s : State) (c : Nat) : Bool :=
  s.answers .sac (c / 16) (c % 16) && !s.domStopped (c / 16) 4

/-- The physical register that a specifier names now. -/
def SacX.phys (x : SacX) (r : Nat) : Nat := if r < 32 then r else 32 + (r - 32 + x.rrb) % 32
def SacX.reg (x : SacX) (r : Nat) : Nat := KV.get 0 (x.phys r) x.regs

/-- Halves of a complex value, and a value from two halves. -/
def re (v : Nat) : Int := sgn 16 v
def im (v : Nat) : Int := sgn 16 (v / 2 ^ 16)
def cplx (r i : Int) : Nat := wrapI 16 r + wrapI 16 i * 2 ^ 16

/-- An integer cut to the range of `w` bits. -/
def satI (w : Nat) (v : Int) : Int := max (-(2 ^ (w - 1) : Int)) (min v (2 ^ (w - 1) - 1))
/-- A value shifted right by `n`, ties toward +∞ (R341, R343). -/
def roundShift (v : Int) (n : Nat) : Int := if n = 0 then v else (v + 2 ^ (n - 1)) / 2 ^ n

/-- Sticky bits of STAT, from bit 8 up. -/
def stAOV : Nat := 0
def stSOV : Nat := 1
def stSRSV : Nat := 2
def stDILL : Nat := 3
def stDPSN : Nat := 4
def stXREJ : Nat := 5
def SacX.mark (x : SacX) (i : Nat) (b : Bool := true) : SacX := if b then { x with sticky := putBit x.sticky i true } else x

/-- An accumulator half; setting a pair of halves saturates each at 40 bits (R342). -/
def SacX.half (x : SacX) (i h : Nat) : Int := KV.get 0 (2 * i + h) x.acc
def SacX.setAcc (x : SacX) (i : Nat) (r m : Int) : SacX :=
  { x with acc := KV.set 0 (2 * i + 1) (satI 40 m) (KV.set 0 (2 * i) (satI 40 r) x.acc) }.mark stAOV
    (satI 40 r != r || satI 40 m != m)

def SacX.ptr (x : SacX) (i : Nat) : SacPtr := KV.get {} i x.ptrs
def SacX.setPtr (x : SacX) (i : Nat) (q : SacPtr) : SacX := { x with ptrs := KV.set {} i q x.ptrs }

/-! ## Pointers (R333, R334) -/

/-- The low `n` bits of `v` reversed. -/
def revBits : Nat → Nat → Nat
  | 0, _ => 0
  | n + 1, v => v % 2 * 2 ^ n + revBits n (v / 2)

/-- The pointer's address after a post-modify by `k`; `openV`: what modulo mode gives with a PL that nothing has set
(notes/assumptions/4.md). -/
def SacPtr.post (q : SacPtr) (k : Int) (openV : Nat) : Nat :=
  match q.cfg % 4 with
  | 1 =>
    if q.pl = 0 then openV
    else (q.pb + (((q.p : Int) + k - q.pb) % (q.pl : Int)).toNat) % 32768
  | 2 =>
    let n := bits q.cfg 4 4
    q.p - q.p % 2 ^ n + revBits n (wrapI n ((revBits n (q.p % 2 ^ n) : Int) + k))
  | _ => wrapI 15 ((q.p : Int) + k)

/-- The pointer address that access code `m` leaves. -/
def SacPtr.after (q : SacPtr) (m openV : Nat) : Nat :=
  if m = 2 then q.post 1 openV else if m = 3 then q.post (sgn 16 q.ps) openV else q.p

/-- The post-modifies of an instruction with two accesses; two different ones of one pointer leave an open value. -/
def State.postModify (s : State) (x : SacX) (pa ma pb mb : Nat) : SacX × State :=
  let v := s.free 15
  let a := (x.ptr pa).after ma v
  let b := (x.ptr pb).after mb v
  let clash := ma ≥ 2 ∧ mb ≥ 2 ∧ pa = pb ∧ a ≠ b
  let x' := if ma ≥ 2 then x.setPtr pa { x.ptr pa with p := if clash then v else a } else x
  let x' := if mb ≥ 2 then x'.setPtr pb { x'.ptr pb with p := if clash then v else b } else x'
  let noLen := fun i => decide ((x.ptr i).cfg % 4 = 1 ∧ (x.ptr i).pl = 0)
  let used := clash ∨ (ma ≥ 2 ∧ noLen pa) ∨ (mb ≥ 2 ∧ noLen pb)
  (x', if used then s.drew else s)

/-! ## Data memory (R329, R347) -/

def sacWord (c w : Nat) : Nat := sacDmAddr c 0 + w % 32768 * 4
/-- What a load of a data word returns, and the read counted in its ECC group. -/
def State.sacSee (s : State) (c w : Nat) : Nat × Bool := s.seeChip (sacWord c w) 4
def State.sacCount (s : State) (c w : Nat) : State := s.countChip (sacWord c w) 4 false

/-! ## What an instruction does -/

/-- What executing an instruction word gives: done, with the next address in order; done, continuing elsewhere; an exception with its
cause and, of a poisoned load, the data word. -/
inductive SacRes where
  | ok (s : State)
  | go (s : State) (pc : Nat)
  | bad (s : State) (cause : Nat) (word : Nat)

def cUNDEF : Nat := 1
def cRSVD : Nat := 2
def cCTRL : Nat := 3
def cPLOAD : Nat := 4
def cPFETCH : Nat := 5
def cSTACK : Nat := 6

/-- A meaning: from the state, the core and the word. -/
abbrev SacFn := State → Nat → Nat → SacRes

/-- Fields of a word. -/
def fRD (w : Nat) : Nat := bits w 20 6
def fRA (w : Nat) : Nat := bits w 14 6
def fRB (w : Nat) : Nat := bits w 8 6
def fAUX (w : Nat) : Nat := bits w 3 5

/-- A write that the instruction `l` places on sees. -/
def SacX.send (x : SacX) (r v l : Nat) (part : Nat := 3) : SacX :=
  { x with pend := x.pend ++ [⟨x.phys r, v, part, l⟩] }

/-- An instruction that only touches the core's registers. -/
def sacPure (ok : Bool) (f : SacX → SacX) : SacFn := fun s c _ => if ok then .ok (s.setSac c (f (s.sac c))) else .bad s cRSVD 0

/-! ### Loads (R338, R345, R352) -/

/-- The stall of two accesses to one bank (R347). -/
def State.bankStall (s : State) (c : Nat) (x : SacX) (pa ma pb mb : Nat) : State :=
  if ma ≠ 0 ∧ mb ≠ 0 ∧ (x.ptr pa).p / 16384 = (x.ptr pb).p / 16384 then s.count (sacB c) SAC_CNT_STALL.V else s

/-- Loads ra from [pa] and rb from [pb] with latency 3 and post-modifies the pointers, `x` being the core after the instruction's own
arithmetic. Two loads of one register leave it open (notes/assumptions/4.md). -/
def State.sacLoad2 (s : State) (c : Nat) (x : SacX) (ra pa ma rb pb mb : Nat) : SacRes :=
  let wa := (x.ptr pa).p
  let wb := (x.ptr pb).p
  let (va, ba) := s.sacSee c wa
  let (vb, bb) := s.sacSee c wb
  let s1 := if ma ≠ 0 then s.sacCount c wa else s
  if ma ≠ 0 ∧ ba then .bad s1 cPLOAD wa
  else
    let s1 := if mb ≠ 0 then s1.sacCount c wb else s1
    if mb ≠ 0 ∧ bb then .bad s1 cPLOAD wb
    else
      let clash := ma ≠ 0 ∧ mb ≠ 0 ∧ x.phys ra = x.phys rb
      let o := s1.free 32
      let s1 := if clash then s1.drew else s1
      let x1 := if ma ≠ 0 then x.send ra va 3 else x
      let x1 := if mb ≠ 0 then x1.send rb (if clash then o else vb) 3 else x1
      let (x1, s1) := s1.postModify x1 pa ma pb mb
      .ok ((s1.bankStall c x pa ma pb mb).setSac c x1)

/-! ### C format: accumulator arithmetic (R338, R340, R342) -/

/-- ra × rb or ra × conj(rb), negated for CM 2 and 3: real and imaginary parts. -/
def cprod (cm a b : Nat) : Int × Int :=
  let bi := if cm % 2 = 1 then -(im b) else im b
  let r := re a * re b - im a * bi
  let i := re a * bi + im a * re b
  if cm ≥ 2 then (-r, -i) else (r, i)

/-- The C format: `okF` says which ACC and CM it admits, `useRB` whether RB is an operand (R340), `f` the arithmetic on ACC. -/
def sacC (okF : Nat → Nat → Bool) (useRB : Bool) (f : SacX → Nat → Nat → Nat → Nat → SacX) : SacFn := fun s c w =>
  let acc := bits w 24 2
  let cm := bits w 22 2
  let ra := bits w 16 6
  let rb := bits w 10 6
  let pa := bits w 7 3
  let ma := bits w 5 2
  let pb := bits w 2 3
  let mb := bits w 0 2
  if !okF acc cm || (ma == 0 && pa != 0) || (mb == 0 && pb != 0) || (!useRB && mb == 0 && rb != 0) then .bad s cRSVD 0
  else
    let x := s.sac c
    s.sacLoad2 c (f x acc cm (x.reg ra) (x.reg rb)) ra pa ma rb pb mb

def SacX.addAcc (x : SacX) (i : Nat) (r m : Int) : SacX := x.setAcc i (x.half i 0 + r) (x.half i 1 + m)

def opCmac : SacFn := sacC (fun _ _ => true) true fun x acc cm a b => x.addAcc acc (cprod cm a b).1 (cprod cm a b).2
def opCmul : SacFn := sacC (fun _ _ => true) true fun x acc cm a b => x.setAcc acc (cprod cm a b).1 (cprod cm a b).2
def opDmac : SacFn := sacC (fun acc _ => acc % 2 == 0) true fun x acc cm a b =>
  (x.addAcc acc (cprod cm a b).1 (cprod cm a b).2).addAcc (acc + 1) (-(cprod cm a b).1) (-(cprod cm a b).2)

/-- Sign of RMAC and RMUL. -/
def rsign (cm : Nat) : Int := if cm = 2 then -1 else 1
def opRmac : SacFn := sacC (fun _ cm => cm % 2 == 0) true fun x acc cm a b =>
  x.addAcc acc (rsign cm * (re a * re b)) (rsign cm * (im a * im b))
def opRmul : SacFn := sacC (fun _ cm => cm % 2 == 0) true fun x acc cm a b =>
  x.setAcc acc (rsign cm * (re a * re b)) (rsign cm * (im a * im b))
def opCpwr : SacFn := sacC (fun _ cm => cm == 0) false fun x acc _ a b =>
  x.addAcc acc (re a * re a + im a * im a) (re b * re b + im b * im b)
def opAccl : SacFn := sacC (fun acc cm => cm == 0 || (cm == 1 && acc % 2 == 0)) false fun x acc cm a _ =>
  let x := x.setAcc acc (re a * 2 ^ 15) (im a * 2 ^ 15)
  if cm = 1 then x.setAcc (acc + 1) (re a * 2 ^ 15) (im a * 2 ^ 15) else x

/-! ### K format: clearing and moving accumulators (R343, R344) -/

def opClra : SacFn := fun s c w =>
  sacPure (bits w 0 22 == 0) (fun x => (List.range 4).foldl (fun x i => if bitAt w (22 + i) then x.setAcc i 0 0 else x) x) s c w

/-- One half moved out: shifted, rounded, saturated. -/
def SacX.scaled (x : SacX) (v : Int) : Int := roundShift v (15 + x.shift).toNat
/-- MVA reads an accumulator as it was before the instruction issued last (R345), keeps the largest half and notes saturation. -/
def SacX.moveOut (x : SacX) (i r : Nat) : SacX :=
  let a := KV.get 0 (2 * i) x.accOld
  let b := KV.get 0 (2 * i + 1) x.accOld
  let p := x.scaled a
  let q := x.scaled b
  let x := { x with big := max x.big (max a.natAbs b.natAbs) }
  (x.mark stSOV (satI 16 p != p || satI 16 q != q)).send r (cplx (satI 16 p) (satI 16 q)) 2

def opMva : SacFn := fun s c w => sacPure (bits w 0 18 == 0) (fun x => x.moveOut (bits w 18 2) (fRD w)) s c w
def opMvap : SacFn := fun s c w =>
  sacPure (bits w 0 19 == 0 && fRD w % 32 != 31)
    (fun x => (x.moveOut (2 * bits w 19 1) (fRD w)).moveOut (2 * bits w 19 1 + 1) (fRD w + 1)) s c w

/-- The proposal of the block exponent detector (R344). -/
def SacX.bed (x : SacX) : Int :=
  match (List.range 24).find? fun k => x.big < 2 ^ (22 + k - x.hr) with
  | some k => (k : Int) - 8
  | none => 15

def opBlke : SacFn := fun s c w =>
  sacPure (bits w 0 26 == 0)
    (fun x => { x with
      esum := satI 16 (x.esum + x.shift), shift := if x.auto then x.bed else x.shift, big := 0 }) s c w

/-! ### R format (R338, R341) -/

/-- The R format: `okF` on AUX, RD and RB, `f` the result from AUX and the two operands. -/
def sacR (okF : Nat → Nat → Nat → Bool) (f : Nat → Nat → Nat → Nat) : SacFn := fun s c w =>
  sacPure (okF (fAUX w) (fRD w) (fRB w) && bits w 0 3 == 0)
    (fun x => x.send (fRD w) (f (fAUX w) (x.reg (fRA w)) (x.reg (fRB w))) 1) s c w
def noAux (aux _ _ : Nat) : Bool := aux == 0
/-- Each half by a function, saturating. -/
def halves (f : Int → Int → Int) (_ a b : Nat) : Nat := cplx (satI 16 (f (re a) (re b))) (satI 16 (f (im a) (im b)))

def opCadd : SacFn := sacR noAux (halves fun a b => a + b)
def opCsub : SacFn := sacR noAux (halves fun a b => a - b)
def opCaddh : SacFn := sacR noAux (halves fun a b => roundShift (a + b) 1)
def opCsubh : SacFn := sacR noAux (halves fun a b => roundShift (a - b) 1)
def opCmin : SacFn := sacR noAux (halves fun a b => min a b)
def opCmax : SacFn := sacR noAux (halves fun a b => max a b)
def opCand : SacFn := sacR noAux fun _ a b => a &&& b
def opCor : SacFn := sacR noAux fun _ a b => a ||| b
def opCxor : SacFn := sacR noAux fun _ a b => a ^^^ b

/-- The transforms of CXFM. -/
def xform (aux a _ : Nat) : Nat :=
  match aux with
  | 0 => a
  | 1 => cplx (re a) (satI 16 (-(im a)))
  | 2 => cplx (im a) (re a)
  | 3 => cplx (satI 16 (-(re a))) (satI 16 (-(im a)))
  | 4 => cplx (satI 16 (-(im a))) (re a)
  | _ => cplx (im a) (satI 16 (-(re a)))
def opCxfm : SacFn := sacR (fun aux _ rb => decide (aux ≤ 5) && rb == 0) xform

def shiftHalf (n : Int) (v : Int) : Int := if n ≥ 0 then satI 16 (v * 2 ^ n.toNat) else satI 16 (roundShift v (-n).toNat)
def opCsha : SacFn := sacR (fun aux _ rb => aux != 16 && rb == 0) fun aux a _ =>
  cplx (shiftHalf (sgn 5 aux) (re a)) (shiftHalf (sgn 5 aux) (im a))

def opCcmp : SacFn := fun s c w =>
  sacPure (fAUX w == 0 && fRD w == 0 && bits w 0 3 == 0)
    (fun x =>
      let a := x.reg (fRA w)
      let b := x.reg (fRB w)
      { x with flags := (decide (re a < re b)).toNat + (decide (im a < im b)).toNat * 2 + (re a == re b).toNat * 4 +
        (im a == im b).toNat * 8 }) s c w

/-! ### Immediates, loads and stores, special registers -/

def opLir : SacFn := fun s c w => sacPure (bits w 16 4 == 0) (fun x => x.send (fRD w) (bits w 0 16) 1 1) s c w
def opLii : SacFn := fun s c w => sacPure (bits w 16 4 == 0) (fun x => x.send (fRD w) (bits w 0 16 * 2 ^ 16) 1 2) s c w

/-- The D format's fields are legal (R334, R339). -/
def dOk (w : Nat) : Bool :=
  bits w 0 4 == 0 && (bits w 9 2 != 0 || (fRD w == 0 && bits w 11 3 == 0)) && (bits w 4 2 != 0 || (fRA w == 0 && bits w 6 3 == 0))

def opLdd : SacFn := fun s c w =>
  if !dOk w then .bad s cRSVD 0
  else s.sacLoad2 c (s.sac c) (fRD w) (bits w 11 3) (bits w 9 2) (fRA w) (bits w 6 3) (bits w 4 2)

/-- Two stores to one word leave it open where their values differ (notes/assumptions/4.md). -/
def opStd : SacFn := fun s c w =>
  if !dOk w then .bad s cRSVD 0
  else
    let x := s.sac c
    let pa := bits w 11 3
    let ma := bits w 9 2
    let pb := bits w 6 3
    let mb := bits w 4 2
    let wa := (x.ptr pa).p
    let wb := (x.ptr pb).p
    let va := x.reg (fRD w)
    let vb := x.reg (fRA w)
    let clash := ma ≠ 0 ∧ mb ≠ 0 ∧ wa = wb ∧ va ≠ vb
    let o := s.free 32
    let s := if clash then s.drew else s
    let s := if ma ≠ 0 then s.writeChip (sacWord c wa) 4 va else s
    let s := if mb ≠ 0 then s.writeChip (sacWord c wb) 4 (if clash then o else vb) else s
    let (x1, s) := s.postModify x pa ma pb mb
    .ok ((s.bankStall c x pa ma pb mb).setSac c x1)

/-- An occupancy byte in format FMT (R364). -/
def occupancy (fmt b : Nat) : Int := if fmt = 0 then (b : Int) * 128 else ((b : Int) - 128) * 256

def opLd8 : SacFn := fun s c w =>
  let p := bits w 17 3
  let m := bits w 15 2
  let h := bits w 14 1
  let fmt := bits w 13 1
  if bits w 0 13 ≠ 0 ∨ m = 0 then .bad s cRSVD 0
  else
    let x := s.sac c
    let a := (x.ptr p).p
    let (v, bad) := s.sacSee c a
    let s := s.sacCount c a
    if bad then .bad s cPLOAD a
    else
      let x := x.send (fRD w) (cplx (occupancy fmt (bits v (16 * h) 8)) (occupancy fmt (bits v (16 * h + 8) 8))) 3
      let (x, s) := s.postModify x p m 0 0
      .ok (s.setSac c x)

/-- PSET (R337). -/
def opPset : SacFn := fun s c w =>
  let p := bits w 23 3
  let f := bits w 20 3
  let v := bits w 0 16
  let bad := bits w 16 4 ≠ 0 ∨ f ≥ 5 ∨ ((f = 0 ∨ f = 2) ∧ v ≥ 32768) ∨ (f = 3 ∧ (v = 0 ∨ v > 32768)) ∨
    (f = 4 ∧ (bits v 2 2 ≠ 0 ∨ bits v 8 8 ≠ 0 ∨ bits v 0 2 = 3))
  sacPure (!decide bad)
    (fun x =>
      let q := x.ptr p
      x.setPtr p (match f with
        | 0 => { q with p := v }
        | 1 => { q with ps := v }
        | 2 => { q with pb := v }
        | 3 => { q with pl := v }
        | _ => { q with cfg := v })) s c w

/-- The special register SR as MVS reads it (R335). -/
def State.sacSR (s : State) (c : Nat) (x : SacX) (n : Nat) : Nat :=
  match n with
  | 0 => wrapI 5 x.shift + x.auto.toNat * 32 + x.hr * 64 + wrapI 16 x.esum * 2 ^ 16
  | 1 => x.rrb
  | 2 => x.lc
  | 3 => x.flags + x.sticky * 256 + x.exc.toNat * 2 ^ 16 + x.lact.toNat * 2 ^ 17
  | 4 => x.epc
  | 5 => x.ecause
  | 6 => s.rd (sacB c) SAC_EVT.CODE + s.rd (sacB c) SAC_EVT.SEQ * 2 ^ 16
  | 7 => x.ien + x.gie.toNat * 2 ^ 31
  | 8 => x.ipend
  | 9 => wrapI 5 x.bed
  | 10 => KV.get 0 0 x.xst + KV.get 0 1 x.xst * 256
  | _ => if n < 24 then (x.ptr (n - 16)).p else (x.ptr (n - 24)).ps

def opMvs : SacFn := fun s c w =>
  let n := bits w 15 5
  sacPure (bits w 0 15 == 0 && !decide (11 ≤ n ∧ n ≤ 15)) (fun x => x.send (fRD w) (s.sacSR c x n) 1) s c w

/-- The defined bits of each special register. -/
def srMask (n : Nat) : Nat :=
  match n with
  | 0 => 0xFFFF00FF
  | 1 => 0x1F
  | 2 => 0xFFFF
  | 3 => 0x33F0F
  | 4 => 0x1FFF
  | 5 => 0x7FFF000F
  | 6 => 0xFFFF00FF
  | 7 => 0x8000000F
  | 8 => 0xF
  | 9 => 0x1F
  | 10 => 0x707
  | _ => if n < 24 then 0x7FFF else 0xFFFF

/-- A write of a special register. -/
def SacX.writeSR (x : SacX) (n v : Nat) : SacX :=
  let shift := sgn 5 v
  let low := decide (n = 0 ∧ shift < -8)
  let x := match n with
    | 0 => { x with shift := if low then -8 else shift, auto := bitAt v 5, hr := bits v 6 2, esum := sgn 16 (v / 2 ^ 16) }
    | 1 => { x with rrb := v % 32 }
    | 2 => { x with lc := v % 2 ^ 16 }
    | 3 => { x with flags := v % 16, sticky := x.sticky &&& (63 - bits v 8 6) }
    | 4 => { x with epc := v % 2 ^ 13 }
    | 7 => { x with ien := v % 16, gie := bitAt v 31 }
    | 8 => { x with ipend := x.ipend &&& (15 - v % 16) }
    | 5 | 6 | 9 | 10 => x
    | _ =>
      if n < 24 then x.setPtr (n - 16) { x.ptr (n - 16) with p := v % 2 ^ 15 }
      else x.setPtr (n - 24) { x.ptr (n - 24) with ps := v % 2 ^ 16 }
  x.mark stSRSV (v &&& (2 ^ 32 - 1 - srMask n) != 0 || low)

def opMsv : SacFn := fun s c w =>
  let n := bits w 15 5
  sacPure (bits w 0 15 == 0 && !decide (11 ≤ n ∧ n ≤ 15)) (fun x => x.writeSR n (x.reg (fRD w))) s c w

/-! ### Control flow (R348 to R351, R359) -/

/-- Instructions from the present one to an address, around the program memory. -/
def SacX.ahead (x : SacX) (a : Nat) : Nat := (a + 8192 - x.pc) % 8192
/-- An address lies in the active loop's body. -/
def SacX.inBody (x : SacX) (a : Nat) : Bool := decide ((a + 8192 - x.first) % 8192 < (x.past + 8192 - x.first) % 8192)
/-- The instruction is a delay slot or a repetition. -/
def SacX.inUnit (x : SacX) : Bool := x.slots.isSome || x.rpt.isSome
/-- It is one of the last three of an active loop body. -/
def SacX.nearEnd (x : SacX) : Bool := x.lact && decide (x.ahead x.past ≤ 3)

/-- A branch with two delay slots, after which `target` follows; not taken, the instruction after them. -/
def sacBranch (s : State) (c : Nat) (x : SacX) (target : Option Nat) : SacRes :=
  let t := match target with
    | some t => t
    | none => (x.pc + 3) % 8192
  .go (s.setSac c { x with slots := some (2, t) }) ((x.pc + 1) % 8192)

/-- A condition of BC. -/
def SacX.cond (x : SacX) (k : Nat) : Bool :=
  match k with
  | 0 => bitAt x.flags 0 | 1 => !bitAt x.flags 0 | 2 => bitAt x.flags 1 | 3 => !bitAt x.flags 1
  | 4 => bitAt x.flags 2 | 5 => !bitAt x.flags 2 | 6 => bitAt x.flags 3 | 7 => !bitAt x.flags 3
  | 8 => x.lc != 0 | 9 => x.lc == 0
  | 10 => KV.get 0 0 x.xst == 1 | 11 => KV.get 0 0 x.xst != 1
  | 12 => KV.get 0 1 x.xst == 1 | 13 => KV.get 0 1 x.xst != 1
  | _ => x.ipend &&& x.ien != 0

/-- The instruction's fields, then its place. -/
def sacCtl (fields : Bool) (place : SacX → Bool) (f : State → Nat → SacX → SacRes) : SacFn := fun s c _ =>
  if !fields then .bad s cRSVD 0 else if place (s.sac c) then .bad s cCTRL 0 else f s c (s.sac c)
def branchPlace (x : SacX) : Bool := x.inUnit || x.nearEnd

def opNop : SacFn := fun s c w => sacPure (bits w 0 26 == 0) id s c w
/-- HALT and WAIT. A waiting core's boundary is one at which an interrupt may enter (R359). -/
def opHalt : SacFn := fun s c w =>
  sacCtl (bits w 0 26 == 0) SacX.inUnit (fun s c _ => .ok (s.setSacState c sacHALTED)) s c w
def opWait : SacFn := fun s c w =>
  sacCtl (bits w 0 26 == 0) SacX.inUnit
    (fun s c x => .ok ((if x.ipend &&& x.ien = 0 then s.setSacState c sacWAIT else s).setSac c { x with point := true })) s c w
def opB : SacFn := fun s c w =>
  sacCtl (bits w 0 13 == 0) branchPlace (fun s c x => sacBranch s c x (some (bits w 13 13))) s c w
def opBc : SacFn := fun s c w =>
  sacCtl (bits w 0 9 == 0 && bits w 9 4 != 15) branchPlace
    (fun s c x => sacBranch s c x (if x.cond (bits w 9 4) then some (bits w 13 13) else none)) s c w
def opCall : SacFn := fun s c w =>
  sacCtl (bits w 0 13 == 0) branchPlace
    (fun s c x =>
      if x.stack.length ≥ 8 then .bad s cSTACK 0
      else sacBranch s c { x with stack := (x.pc + 3) % 8192 :: x.stack } (some (bits w 13 13))) s c w
def opRet : SacFn := fun s c w =>
  sacCtl (bits w 0 26 == 0) branchPlace
    (fun s c x =>
      match x.stack with
      | [] => .bad s cSTACK 0
      | t :: rest => sacBranch s c { x with stack := rest } (some t)) s c w
def opReti : SacFn := fun s c w =>
  sacCtl (bits w 0 26 == 0) branchPlace
    (fun s c x =>
      let h := x.shadow
      .go (s.setSac c { x with
        exc := false, gie := true, lc := h.lc, first := h.first, past := h.past, lact := h.lact, rrb := h.rrb }) x.epc) s c w

/-- COUNT and SRC of RPT and LOOP are legal. -/
def countOk (src count : Nat) : Bool := if src = 0 then count != 0 else count == 0

def opRpt : SacFn := fun s c w =>
  let src := bits w 16 1
  let n := bits w 0 16
  sacCtl (bits w 17 9 == 0 && countOk src n) SacX.inUnit
    (fun s c x =>
      let n := if src = 1 then x.lc else n
      if n ≠ 0 then .go (s.setSac c { x with rpt := some n }) ((x.pc + 1) % 8192)
      else if x.lact ∧ (x.pc + 1) % 8192 = x.past then .go (s.setSac c { x with skip := true }) ((x.pc + 1) % 8192)
      else .go s ((x.pc + 2) % 8192)) s c w

def opLoop : SacFn := fun s c w =>
  let src := bits w 13 1
  let n := bits w 0 13
  let len := bits w 14 12 + 1
  sacCtl (len != 1 && countOk src n) (fun x => x.inUnit || x.lact)
    (fun s c x =>
      let n := if src = 1 then x.lc else n
      if n = 0 then .go (s.setSac c { x with lc := 0 }) ((x.pc + 1 + len) % 8192)
      else .ok (s.setSac c { x with lc := n, lact := true, first := (x.pc + 1) % 8192, past := (x.pc + 1 + len) % 8192 })) s c w

/-! ### Transfers and events (R360, R361, R363) -/

/-- Result register of channel `ch`. -/
def xresB (c ch : Nat) : Nat := sacB c + ch * 16
def xBUSY : Nat := 1
def xDONE : Nat := 2
def xREJECTED : Nat := 3
def xERROR : Nat := 4
def xCANCELLED : Nat := 5

/-- A core that waits goes on once an enabled interrupt is pending (R359). -/
def State.sacWake (s : State) (c : Nat) : State :=
  if s.sacState c = sacWAIT ∧ (s.sac c).ipend &&& (s.sac c).ien ≠ 0 then s.setSacState c sacRUN else s

/-- Sets a bit of IPEND: 0 EVT, 1 DBELL, 2 X0, 3 X1 (R355). -/
def State.sacPendSet (s : State) (c i : Nat) : State :=
  (s.setSac c { s.sac c with ipend := putBit (s.sac c).ipend i true }).sacWake c

/-- A transfer ends: result, XST, IPEND. -/
def State.sacXEnd (s : State) (c ch status : Nat) : State :=
  let b := xresB c ch
  let s := (s.wr b SAC_XRES.STATUS status).wr b SAC_XRES.VALID 1
  let x := s.sac c
  (s.setSac c { x with xst := KV.set 0 ch status x.xst, xfers := KV.set none ch none x.xfers }).sacPendSet c (2 + ch)

/-- What an outbound transfer would read at its start (R360; notes/assumptions/42.md). -/
def State.xgoSnap (s : State) (c : Nat) (words : List Nat) : List (Nat × Bool) :=
  match words with
  | [_, _, w2, w3] =>
    if bitAt w2 31 then (List.range (min (bits w3 0 18) 131072 / 4)).map fun i => s.sacSee c (bits w2 0 17 / 4 + i) else []
  | _ => []

/-- Channel `ch` takes a descriptor: BUSY, its previous result released (R360, R361). -/
def State.xgoStart (s : State) (c ch : Nat) (x : SacX) (words : List Nat) (snap : List (Nat × Bool)) : State :=
  let b := xresB c ch
  ((((s.seqUp b SAC_XRES.SEQ).wr b SAC_XRES.VALID 0).wr b SAC_XRES.ACKD 0).wr b SAC_XRES.STATUS xBUSY).setSac c
    { x with xst := KV.set 0 ch xBUSY x.xst, xfers := KV.set none ch (some ⟨words, snap⟩) x.xfers }

/-- XGO on a free channel: the descriptor's words at `ws` are read; a poisoned one is an exception (R352, R360). -/
def State.xgo (s : State) (c ch : Nat) (x : SacX) (ws : List Nat) : SacRes :=
  let s1 := s.each ws fun a s => s.sacCount c a
  match ws.find? fun a => (s.sacSee c a).2 with
  | some a => .bad s1 cPLOAD a
  | none =>
    let words := ws.map fun a => (s.sacSee c a).1
    .ok (s1.xgoStart c ch x words (s.xgoSnap c words))

def opXgo : SacFn := fun s c w =>
  let ch := bits w 25 1
  let x := s.sac c
  let p := (x.ptr (bits w 22 3)).p
  if bits w 0 22 ≠ 0 then .bad s cRSVD 0
  else if KV.get 0 ch x.xst = xBUSY then .ok (s.setSac c (x.mark stXREJ))
  else s.xgo c ch x ((List.range 4).map fun i => (p + i) % 32768)

def opSevt : SacFn := fun s c w =>
  if bits w 0 18 ≠ 0 then .bad s cRSVD 0
  else
    let code := bits w 18 8
    let b := sacB c
    .ok (((s.seqUp b SAC_EVOUT.SEQ).wr b SAC_EVOUT.CODE code).hubEvent (s.rd b SAC_CFG.SP) (16 + c) code)

/-- Reserved opcodes (R338, R352). -/
def opReserved : SacFn := fun s _ _ => .bad s cUNDEF 0

/-! ## The pipeline around an instruction (R345, R346, R352 to R357) -/

/-- One register write takes effect. -/
def SacX.apply (x : SacX) (p : SacPend) : SacX :=
  let old := KV.get 0 p.reg x.regs
  let r := if p.part % 2 = 1 then p.val % 2 ^ 16 else old % 2 ^ 16
  let i := if p.part ≥ 2 then bits p.val 16 16 else bits old 16 16
  { x with regs := KV.set 0 p.reg (r + i * 2 ^ 16) x.regs }

/-- One instruction has been executed: writes whose distance is used up take effect, the later-issued last. -/
def SacX.advance (x : SacX) : SacX :=
  let due := x.pend.filter fun p => decide (p.left ≤ 1)
  let rest := (x.pend.filter fun p => !decide (p.left ≤ 1)).map fun p => { p with left := p.left - 1 }
  due.foldl SacX.apply { x with pend := rest }

/-- Every pending write completes (R357). -/
def SacX.drain (x : SacX) : SacX :=
  let x := ((x.advance).advance).advance
  { x with accOld := x.acc }

/-- After an instruction: `x0` is the core before it. Repetitions, delay slots, the branch out of a loop (R348 to R350). -/
def SacX.next (x0 x : SacX) : SacX :=
  let x := { x with accOld := x0.acc }.advance
  match x0.rpt, x0.slots with
  | some n, _ => if n ≤ 1 then { x with rpt := none, pc := (x0.pc + 1) % 8192 } else { x with rpt := some (n - 1) }
  | none, some (k, t) =>
    if k ≤ 1 then
      let out := x.lact && !x.inBody t
      { x with slots := none, pc := t, lact := x.lact && !out, lc := if out then 0 else x.lc }
    else { x with slots := some (k - 1, t), pc := (x0.pc + 1) % 8192 }
  | none, none => { x with pc := (x0.pc + 1) % 8192 }

/-- Interrupt or exception entry at `handler`, to return to `back`: shadow, pending writes complete, no loop active in the handler. -/
def SacX.enter (x : SacX) (handler back : Nat) : SacX :=
  { x.drain with
    shadow := ⟨x.lc, x.first, x.past, x.lact, x.rrb⟩, lact := false, epc := back, exc := true, gie := false, pc := handler,
    point := false }

/-- An exception of the instruction at pc: a NOP in a delay slot or a repetition (R353), a double fault while EXC = 1 (R354), else a
precise exception (R352). -/
def State.sacExcept (s : State) (c cause word : Nat) : State :=
  let x := s.sac c
  let b := sacB c
  let s := if cause = cPLOAD then s.wr b SAC_EDADDR.WORD word else s
  let s := s.wr b SAC_EXC.ADDR x.pc
  let poison := cause = cPLOAD ∨ cause = cPFETCH
  let s := if poison then s.raise (c / 16) 68 none c else s
  if x.inUnit then
    let s := if poison then s else s.raise (c / 16) 97 none c
    s.setSac c (x.next (x.mark (if poison then stDPSN else stDILL)))
  else
    let s := s.wr b SAC_EXC.CAUSE cause
    if x.exc then ((s.setSac c x.drain).setSacState c sacDFAULT).raise (c / 16) 98 none c
    else
      s.setSac c { x.enter 4 x.pc with ecause := if cause = cPLOAD then cause + word * 2 ^ 16 else cause }

/-- The boundary before the next instruction is an interrupt point (R356, R359). -/
def SacX.atPoint (x : SacX) : Bool := !x.inUnit && (!x.lact || x.point) && !(x.lact && x.pc == x.past)
/-- An enabled interrupt is pending and GIE = 1. -/
def SacX.takeable (x : SacX) : Bool := x.gie && x.ipend &&& x.ien != 0

/-- The core stops in HALTED after its pending writes (R359, R387). -/
def State.sacHaltNow (s : State) (c : Nat) : State :=
  (s.setSac c { (s.sac c).drain with haltReq := false, stepping := false }).setSacState c sacHALTED

/-- After an instruction under DEN_CTL.STEP: the unit done, the core halts again (R387). -/
def State.sacStepEnd (s : State) (c : Nat) : State :=
  if (s.sac c).stepping ∧ !(s.sac c).inUnit ∧ s.sacState c ≠ sacDFAULT then s.sacHaltNow c else s

/-- The program comparators of the core at its fetch; a resumed instruction passes them once (R389). -/
def State.sacFetched (s : State) (c : Nat) (x : SacX) : State × Option Nat :=
  if x.passCmp then (s, none) else s.compare (c / 16) (32 + c) 2 [0] x.pc

/-- What follows an executed word: the next pc, a branch, an exception; then the end of the step. -/
def State.sacAfter (c : Nat) (x : SacX) (r : SacRes) : State :=
  match r with
  | .ok t => (t.setSac c (x.next (t.sac c))).sacStepEnd c
  | .go t pc => (t.setSac c { (({ t.sac c with accOld := x.acc }).advance) with pc := pc }).sacStepEnd c
  | .bad t cause word => (t.sacExcept c cause word).sacStepEnd c

/-- The core issues the instruction at its pc, whose opcode `is` admits, with meaning `f`. Nothing happens where the core does not
run, an iteration end, an interrupt or a halt comes first, or another opcode stands there. -/
def State.sacIssue (s : State) (c : Nat) (is : Nat → Bool) (f : SacFn) : State :=
  let x := s.sac c
  let a := sacPmAddr c + x.pc * 4
  let v := s.seeChip a 4
  if !s.sacClocked c ∨ s.sacState c ≠ sacRUN ∨ (x.lact ∧ x.pc = x.past) ∨ (x.atPoint ∧ (x.takeable ∨ x.haltReq)) ∨
      !is (bits v.1 26 6) then s
  else
    let r := s.sacFetched c x
    if r.2 = some 0 ∧ x.atPoint then r.1.sacHaltNow c
    else
      let x := { x with point := false, passCmp := false, haltReq := x.haltReq || r.2 == some 0 }
      let s := (r.1.countChip a 4 false).setSac c x
      if v.2 then (s.sacExcept c cPFETCH 0).sacStepEnd c
      else State.sacAfter c x (f s c v.1)

/-! ## The instruction commands -/

def execSacNop (c : Fin 64) (s : State) : Out := .next (s.sacIssue c (· == 0x0) opNop)
def execSacHalt (c : Fin 64) (s : State) : Out := .next (s.sacIssue c (· == 0x1) opHalt)
def execSacWait (c : Fin 64) (s : State) : Out := .next (s.sacIssue c (· == 0x2) opWait)
def execSacB (c : Fin 64) (s : State) : Out := .next (s.sacIssue c (· == 0x3) opB)
def execSacBc (c : Fin 64) (s : State) : Out := .next (s.sacIssue c (· == 0x4) opBc)
def execSacCall (c : Fin 64) (s : State) : Out := .next (s.sacIssue c (· == 0x5) opCall)
def execSacRet (c : Fin 64) (s : State) : Out := .next (s.sacIssue c (· == 0x6) opRet)
def execSacReti (c : Fin 64) (s : State) : Out := .next (s.sacIssue c (· == 0x7) opReti)
def execSacRpt (c : Fin 64) (s : State) : Out := .next (s.sacIssue c (· == 0x8) opRpt)
def execSacLoop (c : Fin 64) (s : State) : Out := .next (s.sacIssue c (· == 0x9) opLoop)
def execSacBlke (c : Fin 64) (s : State) : Out := .next (s.sacIssue c (· == 0xA) opBlke)
def execSacXgo (c : Fin 64) (s : State) : Out := .next (s.sacIssue c (· == 0xB) opXgo)
def execSacSevt (c : Fin 64) (s : State) : Out := .next (s.sacIssue c (· == 0xC) opSevt)
def execSacCmac (c : Fin 64) (s : State) : Out := .next (s.sacIssue c (· == 0x10) opCmac)
def execSacCmul (c : Fin 64) (s : State) : Out := .next (s.sacIssue c (· == 0x11) opCmul)
def execSacDmac (c : Fin 64) (s : State) : Out := .next (s.sacIssue c (· == 0x12) opDmac)
def execSacRmac (c : Fin 64) (s : State) : Out := .next (s.sacIssue c (· == 0x13) opRmac)
def execSacRmul (c : Fin 64) (s : State) : Out := .next (s.sacIssue c (· == 0x14) opRmul)
def execSacCpwr (c : Fin 64) (s : State) : Out := .next (s.sacIssue c (· == 0x15) opCpwr)
def execSacAccl (c : Fin 64) (s : State) : Out := .next (s.sacIssue c (· == 0x16) opAccl)
def execSacClra (c : Fin 64) (s : State) : Out := .next (s.sacIssue c (· == 0x17) opClra)
def execSacMva (c : Fin 64) (s : State) : Out := .next (s.sacIssue c (· == 0x18) opMva)
def execSacMvap (c : Fin 64) (s : State) : Out := .next (s.sacIssue c (· == 0x19) opMvap)
def execSacCadd (c : Fin 64) (s : State) : Out := .next (s.sacIssue c (· == 0x20) opCadd)
def execSacCsub (c : Fin 64) (s : State) : Out := .next (s.sacIssue c (· == 0x21) opCsub)
def execSacCaddh (c : Fin 64) (s : State) : Out := .next (s.sacIssue c (· == 0x22) opCaddh)
def execSacCsubh (c : Fin 64) (s : State) : Out := .next (s.sacIssue c (· == 0x23) opCsubh)
def execSacCxfm (c : Fin 64) (s : State) : Out := .next (s.sacIssue c (· == 0x24) opCxfm)
def execSacCmin (c : Fin 64) (s : State) : Out := .next (s.sacIssue c (· == 0x25) opCmin)
def execSacCmax (c : Fin 64) (s : State) : Out := .next (s.sacIssue c (· == 0x26) opCmax)
def execSacCsha (c : Fin 64) (s : State) : Out := .next (s.sacIssue c (· == 0x27) opCsha)
def execSacCand (c : Fin 64) (s : State) : Out := .next (s.sacIssue c (· == 0x28) opCand)
def execSacCor (c : Fin 64) (s : State) : Out := .next (s.sacIssue c (· == 0x29) opCor)
def execSacCxor (c : Fin 64) (s : State) : Out := .next (s.sacIssue c (· == 0x2A) opCxor)
def execSacCcmp (c : Fin 64) (s : State) : Out := .next (s.sacIssue c (· == 0x2B) opCcmp)
def execSacLir (c : Fin 64) (s : State) : Out := .next (s.sacIssue c (· == 0x30) opLir)
def execSacLii (c : Fin 64) (s : State) : Out := .next (s.sacIssue c (· == 0x31) opLii)
def execSacLdd (c : Fin 64) (s : State) : Out := .next (s.sacIssue c (· == 0x32) opLdd)
def execSacStd (c : Fin 64) (s : State) : Out := .next (s.sacIssue c (· == 0x33) opStd)
def execSacLd8 (c : Fin 64) (s : State) : Out := .next (s.sacIssue c (· == 0x34) opLd8)
def execSacPset (c : Fin 64) (s : State) : Out := .next (s.sacIssue c (· == 0x35) opPset)
def execSacMvs (c : Fin 64) (s : State) : Out := .next (s.sacIssue c (· == 0x36) opMvs)
def execSacMsv (c : Fin 64) (s : State) : Out := .next (s.sacIssue c (· == 0x37) opMsv)

/-- The opcodes with a meaning. -/
def sacMeanings : List (Nat × SacFn) :=
  [(0x0, opNop), (0x1, opHalt), (0x2, opWait), (0x3, opB), (0x4, opBc), (0x5, opCall), (0x6, opRet), (0x7, opReti), (0x8, opRpt), (0x9, opLoop), (0xA, opBlke), (0xB, opXgo), (0xC, opSevt), (0x10, opCmac), (0x11, opCmul), (0x12, opDmac), (0x13, opRmac), (0x14, opRmul), (0x15, opCpwr), (0x16, opAccl)] ++
  [(0x17, opClra), (0x18, opMva), (0x19, opMvap), (0x20, opCadd), (0x21, opCsub), (0x22, opCaddh), (0x23, opCsubh), (0x24, opCxfm), (0x25, opCmin), (0x26, opCmax), (0x27, opCsha), (0x28, opCand), (0x29, opCor), (0x2A, opCxor), (0x2B, opCcmp), (0x30, opLir), (0x31, opLii), (0x32, opLdd), (0x33, opStd), (0x34, opLd8), (0x35, opPset), (0x36, opMvs), (0x37, opMsv)]
def sacMeaning (op : Nat) : Option SacFn := (sacMeanings.find? fun e => e.1 == op).map (·.2)
/-- Control instructions, which Den does not feed (R388). -/
def sacControl (op : Nat) : Bool := decide (1 ≤ op ∧ op ≤ 9)

def execSacReservedOpcode (c : Fin 64) (s : State) : Out := .next (s.sacIssue c (fun op => (sacMeaning op).isNone) opReserved)

/-- An iteration ends: LC and RRB decrement; the body runs again while LC is nonzero (R350). -/
def execSacLoopEnd (c : Fin 64) (s : State) : Out :=
  .next <|
    let x := s.sac c
    if s.sacClocked c ∧ (s.sacState c = sacRUN ∨ s.sacState c = sacWAIT ∨ s.sacState c = sacHALTED) ∧ x.lact ∧ x.pc = x.past then
      let lc := (x.lc + 2 ^ 16 - 1) % 2 ^ 16
      let dst := if lc = 0 then x.past else x.first
      s.setSac c { x with
        lc := lc, rrb := (x.rrb + 31) % 32, lact := lc != 0, pc := (dst + x.skip.toNat) % 8192, skip := false, point := true }
    else s

/-- At an interrupt point a takeable interrupt enters the handler at 0x0008; `lat` is its latency in cycles (R355, R358). -/
def execSacInterruptEntry (c : Fin 64) (lat : BitVec 32) (s : State) : Out :=
  .next <|
    let x := s.sac c
    if s.sacClocked c ∧ (s.sacState c = sacRUN ∨ s.sacState c = sacWAIT) ∧ x.atPoint ∧ x.takeable then
      let s := s.wr (sacB c) SAC_ILAT_MAX.V (max (s.rd (sacB c) SAC_ILAT_MAX.V) lat.toNat)
      (s.setSac c (x.enter 8 x.pc)).setSacState c sacRUN
    else s

/-! ## Events, core reset and control (R328, R359, R361 to R363) -/

/-- The site that a SAC is assigned to. -/
def State.sacSite (s : State) (c : Nat) : Option (Fin 16) :=
  if s.on (sacB c) SAC_CFG.ASSIGNED then some (Fin.ofNat 16 (s.rd (sacB c) SAC_CFG.SITE)) else none

/-- An event arrives: code and number latched, IPEND.EVT (R363). -/
def State.sacEvent (s : State) (c code : Nat) : State :=
  ((s.wr (sacB c) SAC_EVT.CODE code).seqUp (sacB c) SAC_EVT.SEQ).sacPendSet c 0

/-- A transfer under way is cancelled. -/
def State.sacXCancel (s : State) (c ch : Nat) : State :=
  if KV.get 0 ch (s.sac c).xst = xBUSY then s.sacXEnd c ch xCANCELLED else s

/-- Core reset is asserted: the core stops, its transfers end CANCELLED, its locks are orphaned (R328, R361, R383). -/
def State.sacReset (s : State) (c : Nat) : State :=
  let s := (s.wr (sacB c) SAC_CTL.RST 1).setSacState c sacRESET
  ((s.sacXCancel c 0).sacXCancel c 1).orphanOwner (ownerSAC c)

/-- Core reset is released: every core register zero, the first instruction at 0x0000; held while its site resets (R328, R362). -/
def State.sacRelease (s : State) (c : Nat) : State :=
  let held : Bool := match s.sacSite c with
    | some st => s.siteState st == siteRESETTING
    | none => false
  if !s.on (sacB c) SAC_CTL.RST ∨ held then s
  else
    let x := s.sac c
    let s := (s.wr (sacB c) SAC_EVT.CODE 0).wr (sacB c) SAC_EVT.SEQ 0
    let s := (s.wr (sacB c) SAC_CTL.RST 0).setSac c { dtx := x.dtx, drx := x.drx, dtxOvf := x.dtxOvf, drxOvf := x.drxOvf }
    s.setSacState c (if s.haltOnReset (c / 16) then sacHALTED else sacRUN)

/-- A site reset holds the SAC in core reset and counts the requests it discards, an open number of at most the two credits that a
SAC holds toward each of sixteen targets (R362, R403; notes/assumptions/4.md). -/
def State.sacSiteReset (s : State) (c : Nat) : State :=
  let busy := KV.get 0 0 (s.sac c).xst = xBUSY ∨ KV.get 0 1 (s.sac c).xst = xBUSY
  let s := if busy then s.drew.count (sacB c) SAC_PURGED.V (s.free 5) else s
  s.sacReset c

def State.sacRst (s : State) (c : Nat) (v : Bool) : State := if v then s.sacReset c else s.sacRelease c
def execSacRstWrite (c : Fin 64) (v : Bool) (s : State) : Out :=
  .next (s.atBlock .sac (c / 16) (c % 16) fun s => s.sacRst c v)

def State.sacDbell (s : State) (c : Nat) : State := s.sacPendSet c 1
def execSacDbell (c : Fin 64) (s : State) : Out := .next (s.atBlock .sac (c / 16) (c % 16) fun s => s.sacDbell c)

/-- HALTREQ: the core is to stop at its next interrupt point. -/
def State.sacHaltreq (s : State) (c : Nat) : State :=
  if s.sacState c = sacRUN ∨ s.sacState c = sacWAIT then s.setSac c { s.sac c with haltReq := true } else s
def execSacHaltreq (c : Fin 64) (s : State) : Out := .next (s.atBlock .sac (c / 16) (c % 16) fun s => s.sacHaltreq c)

/-- START resumes a HALTED core at its pc; the comparators pass over the first instruction. -/
def State.sacStart (s : State) (c : Nat) : State :=
  if s.sacState c = sacHALTED then (s.setSac c { s.sac c with passCmp := true, haltReq := false }).setSacState c sacRUN else s
def execSacStart (c : Fin 64) (s : State) : Out := .next (s.atBlock .sac (c / 16) (c % 16) fun s => s.sacStart c)

/-- A core asked to halt reaches its interrupt point. -/
def State.sacHalted (s : State) (c : Nat) : State :=
  if s.sacClocked c ∧ (s.sac c).haltReq ∧ (s.sacState c = sacRUN ∨ s.sacState c = sacWAIT) ∧ (s.sac c).atPoint then s.sacHaltNow c
  else s

def execSacXcancel (c : Fin 64) (ch : Fin 2) (s : State) : Out :=
  .next (s.atBlock .sac (c / 16) (c % 16) fun s => s.sacXCancel c ch)

def State.sacXAck (s : State) (c ch : Nat) : State :=
  if s.on (xresB c ch) SAC_XRES.VALID then s.wr (xresB c ch) SAC_XRES.ACKD 1 else s
def execSacXack (c : Fin 64) (ch : Fin 2) (s : State) : Out :=
  .next (s.atBlock .sac (c / 16) (c % 16) fun s => s.sacXAck c ch)

def State.sacCntClr (s : State) (c v : Nat) : State :=
  let s := if bitAt v 0 then s.wr (sacB c) SAC_ILAT_MAX.V 0 else s
  if bitAt v 1 then s.wr (sacB c) SAC_CNT_STALL.V 0 else s
def execSacCntClr (c : Fin 64) (v : BitVec 2) (s : State) : Out :=
  .next (s.atBlock .sac (c / 16) (c % 16) fun s => s.sacCntClr c v.toNat)

/-- A SAC commit that changes SAC_CFG passes only in core reset (R362). -/
def State.sacCheck (s : State) (c : Nat) : Bool :=
  let b := sacB c
  s.sacState c == sacRESET ||
    ([SAC_CFG.ASSIGNED, SAC_CFG.SP, SAC_CFG.SITE].all fun f => s.staged b f == s.rd b f)

end Sys2Proof.Machine
end

