-- ==== Sys2Proof/Machine/Svp.lean ====
section
/-! DEFINITION. Service pins, matchers, the lock sequence and the serial ports (18_service_pins.md), with the pin CSRs of the
site processors (12_processors_locks_debug.md R369, R370). -/
namespace Sys2Proof.Machine

/-! ## Matchers (R534, R535) -/

def svpPinB (d p : Nat) : Nat := svpB d + p * 4
def svpMB (d m : Nat) : Nat := svpB d + m * 16
def State.svpIn (s : State) (d : Nat) : Nat := s.rd (svpB d) SVP_IN.IN

/-- A matcher matches: pending, capture, hub line 81 + m of the die's SPs. -/
def State.svpMatch (s : State) (d m : Nat) : State :=
  let s := s.wrBit (svpB d) SVP_MSTAT.PEND m true
  s.each (List.range 4) fun n s => s.hubPend (d * 4 + n) (81 + m) true

/-- (IN AND MASK) = (VALUE AND MASK). -/
def State.svpEq (s : State) (d m : Nat) : Bool :=
  let mask := s.rd (svpMB d m) SVP_MMASK.V
  (s.svpIn d) &&& mask == (s.rd (svpMB d m) SVP_MVAL.V) &&& mask

/-- Evaluates the matchers of a die; `prev`: the levels of the cycle before. -/
def State.svpEval (s : State) (d prev : Nat) : State :=
  s.each (List.range 8) fun m s =>
    let x := s.svp d
    let was := bitAt x.conds m
    let is := s.svpEq d m
    let changed := (s.svpIn d ^^^ prev) &&& s.rd (svpMB d m) SVP_MMASK.V != 0
    let hit := match s.rd (svpMB d m) SVP_MCFG.MODE with
      | 1 => is && !was
      | 2 => !is && was
      | 3 => changed
      | _ => false
    let s := s.setSvp d { x with conds := putBit x.conds m is }
    if hit then (s.wr (svpMB d m) SVP_MCAP.LEVELS (s.svpIn d)).svpMatch d m else s

/-- A write of a matcher's mode: its condition as it stands fires nothing (R534). -/
def State.svpMode (s : State) (d m : Nat) : State :=
  s.setSvp d { s.svp d with conds := putBit (s.svp d).conds m (s.svpEq d m) }

/-- A TRIG with DEST bit 2 from PSQ `p` reaches its die's pins and matchers at tick `t` (R533, R534). -/
def State.svpTrig (s : State) (p evt t : Nat) : State :=
  let d := p / 4
  let s := s.each (List.range 16) fun n s =>
    let b := svpPinB d n
    if s.rd b SVP_PIN.OSRC = 1 ∧ evt &&& s.rd b SVP_PIN.EMASK ≠ 0 then
      s.setSvp d { s.svp d with pulses := KV.set 0 n (t + 8 * (s.rd b SVP_PIN.EWID + 1)) (s.svp d).pulses }
    else s
  s.each (List.range 8) fun m s =>
    let b := svpMB d m
    let mask := s.rd b SVP_MMASK.V % 256
    if s.rd b SVP_MCFG.MODE = 4 ∧ s.bit b SVP_MCFG.PSQM (p % 4) ∧ evt &&& mask = s.rd b SVP_MVAL.V &&& mask then
      (s.wr b SVP_MCAP.EVT evt).svpMatch d m
    else s

/-! ## Pins (R532, R533) -/

/-- The pads of a pin follow its GPIO set-up: not under POR, nor before DCTL_READY.SVP but on a locked pin (R51, R537, R539), nor on pins 0
to 5 of LD0 while the CFE owns them; in Hibernate they hold (R539). -/
def State.svpGpio (s : State) (d n : Nat) : Bool :=
  !s.por && (s.ready d rdySVP || s.bit (svpB d) SVP_LOCKED.PINS n || s.hib == 2) &&
  !(d == 0 && n < 6 && s.on (svpB 0) SVP_STAT.FLASH)

/-- The level that a pin drives, where it drives: a bit of the output register, or its TRIG pulse. While the CFE owns pins 0 to 5, SCK is low
and CS_N high between its commands (R539). -/
def State.svpDrive (s : State) (d n : Nat) : Option Bool :=
  let b := svpPinB d n
  if d = 0 ∧ n < 2 ∧ s.on (svpB 0) SVP_STAT.FLASH ∧ !s.por then some (n == 1)
  else if !s.svpGpio d n || !s.on b SVP_PIN.OE then none
  else if s.rd b SVP_PIN.OSRC = 0 then some (s.bit (svpB d) SVP_OUT.OUT n) else some (KV.get 0 n (s.svp d).pulses != 0)

/-- A pin's synchronized level changes; the filter has still to accept it. -/
def execSvpInputChange (d : Fin 4) (n : Fin 16) (level : Bool) (s : State) : Out :=
  .next <|
    let x := s.svp d
    if bitAt x.raw n = level then s
    else s.setSvp d { x with raw := putBit x.raw n level, since := KV.set 0 n.val s.now x.since }

/-- The level of a pin has been stable for FILT + 1 IOC cycles of 10 ns. -/
def State.svpStable (s : State) (d n : Nat) : Bool := KV.get 0 n (s.svp d).since + 40 * (s.rd (svpPinB d n) SVP_PIN.FILT + 1) ≤ s.now

/-- An IOC cycle: the levels on the pins of `pins` that have been stable for FILT + 1 cycles are accepted, and the matchers are evaluated. -/
def execSvpFilterAccept (d : Fin 4) (pins : BitVec 16) (s : State) : Out :=
  .next <| s.atBlock .svp d 0 fun s =>
    let prev := s.svpIn d
    let new := (List.range 16).foldl (fun v n => if bitAt pins.toNat n && s.svpStable d n then putBit v n (bitAt (s.svp d).raw n) else v) prev
    (s.wr (svpB d) SVP_IN.IN new).svpEval d prev

/-- A TRIG pulse ends at its tick. -/
def execSvpTrigPulseEnd (d : Fin 4) (n : Fin 16) (s : State) : Out :=
  .next <|
    let x := s.svp d
    if KV.get 0 n.val x.pulses ≤ s.tick d then s.setSvp d { x with pulses := KV.set 0 n.val 0 x.pulses } else s

/-- Any write to the SVP block but the next one of the lock sequence returns that sequence to its start (R536). -/
def State.svpOther (s : State) (d : Nat) : State := s.setSvp d { s.svp d with lockStep := 0 }

def State.svpOut (s : State) (d v : Nat) : State := (s.svpOther d).wr (svpB d) SVP_OUT.OUT v
def execSvpOutWrite (d : Fin 4) (v : BitVec 16) (s : State) : Out := .next (s.atBlock .svp d 0 fun s => s.svpOut d v.toNat)

/-- The three writes of the lock sequence: 0x5A, 0xA5, mask (R536). -/
def State.svpLock (s : State) (d v : Nat) : State :=
  let x := s.svp d
  if x.lockStep = 2 then
    (s.setSvp d { x with lockStep := 0 }).wr (svpB d) SVP_LOCKED.PINS (s.rd (svpB d) SVP_LOCKED.PINS ||| v)
  else
    s.setSvp d { x with lockStep := if x.lockStep = 0 ∧ v = 0x5A then 1 else if x.lockStep = 1 ∧ v = 0xA5 then 2 else 0 }
def execSvpLockWrite (d : Fin 4) (v : BitVec 16) (s : State) : Out := .next (s.atBlock .svp d 0 fun s => s.svpLock d v.toNat)

/-! ## UARTs (R540) -/

/-- The balls of a die's UARTs, I2C and SPI are no longer high impedance (R51, R540). -/
def State.serialPads (s : State) (d : Nat) : Bool := !s.por && s.ready d rdySVP

def uB (d u : Nat) : Nat := svpB d + u * 256
def SvpX.txq (x : SvpX) (u : Nat) : List Byte := KV.get [] u x.tx
def SvpX.rxq (x : SvpX) (u : Nat) : List Byte := KV.get [] u x.rx
/-- Sets a FIFO and its count. -/
def State.setTxq (s : State) (d u : Nat) (q : List Byte) : State :=
  (s.setSvp d { s.svp d with tx := KV.set [] u q (s.svp d).tx }).wr (uB d u) U_STAT.TXCNT q.length
def State.setRxq (s : State) (d u : Nat) (q : List Byte) : State :=
  (s.setSvp d { s.svp d with rx := KV.set [] u q (s.svp d).rx }).wr (uB d u) U_STAT.RXCNT q.length

/-- A write of U_DATA queues a byte, or drops it with TXOVF. -/
def State.uartWrite (s : State) (d u : Nat) (b : Byte) : State :=
  let q := (s.svp d).txq u
  if q.length < 64 then s.setTxq d u (q ++ [b]) else s.wr (uB d u) U_STAT.TXOVF 1
def execUartTxWrite (d : Fin 4) (u : Fin 2) (b : BitVec 8) (s : State) : Out :=
  .next (s.atBlock .svp d 0 fun s => (s.svpOther d).uartWrite d u b)

/-- A read of U_DATA: the word it returns, and the byte's removal. -/
def State.uartRead (s : State) (d u : Nat) : Nat × State :=
  match (s.svp d).rxq u with
  | [] => (0, s)
  | b :: q => (2 ^ 31 + b.toNat, s.setRxq d u q)
def execUartRxRead (d : Fin 4) (u : Fin 2) (s : State) : Out := .next (s.atBlock .svp d 0 fun s => (s.uartRead d u).2)

/-- The oldest queued byte has been sent. -/
def execUartByteSent (d : Fin 4) (u : Fin 2) (s : State) : Out :=
  .next <| s.atBlock .svp d 0 fun s => if s.on (uB d u) U_CFG.EN then s.setTxq d u (((s.svp d).txq u).drop 1) else s

/-- A byte arrives: queued; lost to a full FIFO with OVR; or lost with FERR or PERR (R540). -/
def execUartByteReceived (d : Fin 4) (u : Fin 2) (b : BitVec 8) (framing parity : Bool) (s : State) : Out :=
  .next <| s.atBlock .svp d 0 fun s =>
    let q := (s.svp d).rxq u
    let r := uB d u
    if !s.on r U_CFG.EN then s
    else if framing || (parity && s.rd r U_CFG.PAR != 0) then
      let s := if framing then s.wr r U_STAT.FERR 1 else s
      if parity && s.rd r U_CFG.PAR != 0 then s.wr r U_STAT.PERR 1 else s
    else if q.length < 64 then s.setRxq d u (q ++ [b])
    else s.wr r U_STAT.OVR 1

/-! ## I2C and SPI (R540, R541) -/

/-- A GO at a result register: a new number, PENDING; or, while PENDING or unacknowledged, SREJ. -/
def State.serialGo (s : State) (d r : Nat) (valid ackd status seq : Fld) (f : State → State) : State :=
  if s.rd r status = 1 ∨ !s.on r ackd then s.wr (svpB d) SVP_STAT.SREJ 1
  else f ((((s.seqUp r seq).wr r status 1).wr r valid 0).wr r ackd 0)
/-- A transfer ends. -/
def State.serialEnd (s : State) (r : Nat) (valid status : Fld) (st : Nat) : State := (s.wr r status st).wr r valid 1

/-- I_CMD with GO; WLEN and RLEN both 0, or above 32, are reserved (R16). -/
def State.i2cGo (s : State) (d i addr wlen rlen : Nat) : State :=
  let r := uB d i
  if (wlen = 0 ∧ rlen = 0) ∨ wlen > 32 ∨ rlen > 32 then s.rsvw (svpB d)
  else
    s.serialGo d r I_RES.VALID I_RES.ACKD I_RES.STATUS I_RES.SEQ fun s =>
      ((s.wr r I_CMD.ADDR addr).wr r I_CMD.WLEN wlen).wr r I_CMD.RLEN rlen
def execI2cGo (d : Fin 4) (i : Fin 2) (addr : BitVec 7) (wlen rlen : BitVec 6) (s : State) : Out :=
  .next (s.atBlock .svp d 0 fun s => (s.svpOther d).i2cGo d i addr.toNat wlen.toNat rlen.toNat)

def State.i2cAck (s : State) (d i : Nat) : State := if s.on (uB d i) I_RES.VALID then s.wr (uB d i) I_RES.ACKD 1 else s
def execI2cAck (d : Fin 4) (i : Fin 2) (s : State) : Out := .next (s.atBlock .svp d 0 fun s => (s.svpOther d).i2cAck d i)

/-- Bytes read into a buffer of words. -/
def State.bufFill (s : State) (r : Nat) (f : Fld) (data : List Byte) : State :=
  s.each (List.range ((data.length + 3) / 4)) fun k s =>
    let bs := (data.drop (4 * k)).take 4
    let old := s.rd (r + 4 * k) f
    s.wr (r + 4 * k) f (leVal bs + old / 256 ^ bs.length * 256 ^ bs.length)

/-- How a transfer ends on the bus: done with the bytes read, or 3 NACK_ADDR, 4 NACK_DATA, 6 BUS_ERR. -/
def execI2cDone (d : Fin 4) (i : Fin 2) (fail : Option (Fin 3)) (data : List Byte) (s : State) : Out :=
  .next <| s.atBlock .svp d 0 fun s =>
    let r := uB d i
    if s.rd r I_RES.STATUS ≠ 1 then s
    else
      match fail with
      | some f => s.serialEnd r I_RES.VALID I_RES.STATUS (if f.val = 0 then 3 else if f.val = 1 then 4 else 6)
      | none =>
        (s.bufFill r I_BUF.V (data.take (s.rd r I_CMD.RLEN))).serialEnd r I_RES.VALID I_RES.STATUS 2

/-- A target holds SCL low for 25 ms: TIMEOUT, and the lines are recovered. -/
def execI2cSclTimeout (d : Fin 4) (i : Fin 2) (s : State) : Out :=
  .next <| s.atBlock .svp d 0 fun s =>
    if s.rd (uB d i) I_RES.STATUS ≠ 1 then s else s.serialEnd (uB d i) I_RES.VALID I_RES.STATUS 5

def State.spiGo (s : State) (d cs len : Nat) : State :=
  if len = 0 ∨ len > 64 then s.rsvw (svpB d)
  else
    s.serialGo d (svpB d) S_RES.VALID S_RES.ACKD S_RES.STATUS S_RES.SEQ fun s =>
      (s.wr (svpB d) S_CMD.CS cs).wr (svpB d) S_CMD.LEN len
def execSpiGo (d : Fin 4) (cs : Fin 4) (len : BitVec 7) (s : State) : Out :=
  .next (s.atBlock .svp d 0 fun s => (s.svpOther d).spiGo d cs len.toNat)

def State.spiAck (s : State) (d : Nat) : State := if s.on (svpB d) S_RES.VALID then s.wr (svpB d) S_RES.ACKD 1 else s
def execSpiAck (d : Fin 4) (s : State) : Out := .next (s.atBlock .svp d 0 fun s => (s.svpOther d).spiAck d)

/-- A transfer completes: the bytes received stand in S_BUF. -/
def execSpiDone (d : Fin 4) (data : List Byte) (s : State) : Out :=
  .next <| s.atBlock .svp d 0 fun s =>
    if s.rd (svpB d) S_RES.STATUS ≠ 1 then s
    else (s.bufFill (svpB d) S_BUF.V (data.take (s.rd (svpB d) S_CMD.LEN))).serialEnd (svpB d) S_RES.VALID S_RES.STATUS 2

/-! ## Straps (R538) -/

/-- At POR release LD0 samples its pins. -/
def State.svpStrap (s : State) (levels : Nat) : State :=
  let b := svpB 0
  let s := (s.wr b SVP_STRAP.RAW levels).wr b SVP_STRAP.PWID (bits levels 7 2)
  (s.wrb b SVP_STRAP.RECEN (bitAt levels 6)).wrb b SVP_STRAP.BAD (bits levels 7 2 == 3 || bits levels 9 7 != 0)

/-- An SVP reset: reset values but for the frozen fields, SVP_LOCKED, the output bits of locked pins and SVP_STRAP; transfers end and
FIFOs empty (R537, R541). -/
def State.svpReset (s : State) (d : Nat) : State :=
  let b := svpB d
  let locked := s.rd b SVP_LOCKED.PINS
  let keep := fun (k : Nat) =>
    k == (SVP_LOCKED.PINS).key b || k == (SVP_STRAP.RAW).key b || k == (SVP_STRAP.PWID).key b ||
    k == (SVP_STRAP.RECEN).key b || k == (SVP_STRAP.BAD).key b ||
    (List.range 16).any fun n => bitAt locked n &&
      [SVP_PIN.FILT, SVP_PIN.EWID, SVP_PIN.EMASK, SVP_PIN.OSRC, SVP_PIN.DRV, SVP_PIN.PULL, SVP_PIN.OE].any fun f =>
        k == f.key (b + 4 * n)
  let out := s.rd b SVP_OUT.OUT &&& locked
  let lo := Fld.key ⟨0, 0, 1, 0⟩ b
  let hi := Fld.key ⟨0, 0, 1, 0⟩ (b + 0x100000)
  let s := { s with act := s.act.filter fun e => !(decide (lo ≤ e.1 ∧ e.1 < hi)) || keep e.1 }
  (s.wr b SVP_OUT.OUT out).setSvp d { raw := (s.svp d).raw, since := (s.svp d).since }

end Sys2Proof.Machine
end

