-- ==== Sys2Proof/Machine/Den.lean ====
section
/-! DEFINITION. Processor boot and supervision, hardware locks, and Den but for what needs the register bus: claim, TAP, halt mode,
virtual terminals (12_processors_locks_debug.md R371 to R390). -/
namespace Sys2Proof.Machine

/-! ## Boot (R374, R376) -/

/-- Plaintext body of the firmware in a slot, when its tag verifies. -/
def State.slotBody (s : State) (d kind k : Nat) : List Byte :=
  let a := settSlotAddr d kind k
  ((s.fwBody (s.bytes a (256 + leAt (s.bytes a 256) 0x1C 4))).getD [])

/-- Writes a byte string to an on-chip memory. -/
def State.fillChip (s : State) (a : Nat) (data : List Byte) : State :=
  if data = [] then s else s.writeChip a data.length (leVal data)

/-- The ROM has verified the firmware in slot `k`, copies its body into RAM and runs it; that it verifies is the event's own claim. -/
def execOwlFirmwareVerified (d : Fin 4) (k : Fin 2) (s : State) : Out :=
  .next <|
    if s.por ∨ s.ready d rdyOWL then s
    else
      let s := s.fillChip (owlAddr d) ((s.slotBody d 1 k).take 1048320)
      let s := s.setOwl d { s.owl d with pc := 0, booted := true }
      (s.setReady d rdyOWL true).setWdog d (s.now + 1)

/-- The SP boot firmware in use, where there is one, passes its signature and tag (R374). -/
def State.spFirmwareGood (s : State) (d : Nat) : Bool :=
  match s.usedSlot d 2 with
  | some k =>
    let a := settSlotAddr d 2 k
    let img := s.bytes a (256 + leAt (s.bytes a 256) 0x1C 4)
    s.signatureOk img && (s.fwBody img).isSome
  | none => true

/-- The Owl verifies the SP boot firmware, copies it to its SPs' memories, releases those with AUTOBOOT, and sets DCTL_READY.SP; firmware
that fails sets DCTL_READY_FAIL.SP (R374, R516). -/
def execSpBootRelease (d : Fin 4) (s : State) : Out :=
  .next <|
    if !s.owlRuns d then s
    else if !s.spFirmwareGood d then s.setFail d rdySP
    else
      let body := match s.usedSlot d 2 with
        | some k => (s.slotBody d 2 k).take 786432
        | none => []
      let s := s.each (List.range 4) fun n s => s.fillChip (tcmAddr (d * 4 + n)) body
      let s := s.each (List.range 4) fun n s =>
        if s.on (spB (d * 4 + n)) SP_CFG.AUTOBOOT then s.spRelease (d * 4 + n) else s
      s.setReady d rdySP true

/-- Once the memory ports are ready, the rest of the firmware goes to DRAM at each SP's SP_XBASE, and XREADY is set. -/
def execSpXcopy (d : Fin 4) (s : State) : Out :=
  .next <|
    if !(s.owlRuns d && s.ready d (rdyMP 0) && s.ready d (rdyMP 1)) then s
    else
      let rest := match s.usedSlot d 2 with
        | some k => (s.slotBody d 2 k).drop 786432
        | none => []
      s.each (List.range 4) fun n s =>
        let b := spB (d * 4 + n)
        let s := if rest = [] then s
          else (s.storeBytes ⟨.owl d, true, none⟩ (s.rd2 b SP_XBASE_LO.V SP_XBASE_HI.V) rest false).2
        s.wr b SP_STAT.XREADY 1

/-- SP_CTL.RST. -/
def State.spRst (s : State) (n : Nat) (v : Bool) : State := if v then s.spReset n else s.spRelease n
def execSpRstWrite (n : Fin 16) (v : Bool) (s : State) : Out := .next (s.atBlock .spc (n / 4) 0 fun s => s.spRst n v)

/-! ## Owl supervision (R376, R378, R379) -/

/-- A boost request is granted. -/
def execOwlBoostGrant (d : Fin 4) (s : State) : Out := .next (if s.owlRuns d then s.setBoost d true else s)

def State.wdogWrite (s : State) (d : Nat) : State := s.setWdog d (s.now + 1)
def execOwlWdogWrite (d : Fin 4) (s : State) : Out := .next (s.atBlock .dctl d 0 fun s => s.wdogWrite d)

/-- 1 s without a watchdog write: the Owl restarts from ROM, unless Den holds it; the time that Den held it does not count. -/
def execOwlWatchdogExpire (d : Fin 4) (s : State) : Out :=
  .next (if s.owlRuns d && decide (s.wdog d - 1 + 1000 * ticksPerMs ≤ s.now) then ((s.setBoost d false).owlRestart d).raise d 96 none d else s)

/-- A telemetry sample: the record of 64 words, and its place in the ring, as the Owl's firmware chooses them; `late`: more than 10 ms
after its time (R379). -/
def execTelemetrySample (d : Fin 4) (rec : BitVec 2048) (slot : BitVec 16) (late : Bool) (s : State) : Out :=
  .next <|
    if !s.owlRuns d then s
    else
      let b := dctlB d
      let s := s.each (List.range 64) fun i s => s.wr (b + 4 * i) OWL_TLM.V (bits rec.toNat (32 * i) 32)
      let s := if late then s.count b OWL_TLM_LATE.V else s
      if s.ready d (rdyMP 0) && s.ready d (rdyMP 1) then
        (s.storeBytes ⟨.owl d, true, none⟩ (s.rd2 b OWL_TLM_BASE_LO.V OWL_TLM_BASE_HI.V + 256 * slot.toNat) (leBytes 256 rec.toNat)
          false).2
      else s

/-! ## Interrupt hub (R371 to R373) -/

/-- SP_SWI sets hub lines 92 to 95. -/
def State.spSwi (s : State) (n v : Nat) : State :=
  s.each (List.range 4) fun i s => if bitAt v i then s.hubPend n (92 + i) true else s
def execSpSwi (n : Fin 16) (v : BitVec 4) (s : State) : Out := .next (s.atBlock .spc (n / 4) 0 fun s => s.spSwi n v.toNat)

/-- mtime: PTB[63:2] of the die. -/
def State.mtime (s : State) (n : Nat) : Nat := s.tick (n / 4) / 4
def State.mtimecmp (s : State) (n : Nat) : Nat := s.rd2 (spB n) SP_MTCMP_LO.V SP_MTCMP_HI.V
def csrMIP : Nat := 0x344

/-- MTIP follows mtime ≥ mtimecmp. -/
def State.mtipRefresh (s : State) (n : Nat) : State :=
  let x := s.sp n
  s.setSp n { x with csrs := KV.set 0 csrMIP (putBit (KV.get 0 csrMIP x.csrs) 7 (decide (s.mtimecmp n ≤ s.mtime n))) x.csrs }
/-- mtime reaches mtimecmp. -/
def execMtimecmpMatch (n : Fin 16) (s : State) : Out := .next (s.mtipRefresh n)

/-- Pending lines of a hub; the level lines follow their sources: 80 the fault hub's interrupt, 89 and 90 the terminal (R371). -/
def State.hubLine (s : State) (n i : Nat) : Bool :=
  if i = 80 then s.on (fhB (n / 4)) FH_STAT.IRQ
  else if i = 89 then (s.sp n).drx.isSome else if i = 90 then (s.sp n).dtx.isNone
  else s.bit (ihB n + i / 32 * 4) IH_PEND.V (i % 32)

/-- The line chosen for a target (0 MEIP, 1 SEIP): enabled, pending, above the threshold; the highest priority, then the lowest. -/
def State.hubTop (s : State) (n target : Nat) : Option Nat :=
  let thr := if target = 0 then s.rd (ihB n) IH_THR.M else s.rd (ihB n) IH_THR.S
  ((List.range 96).filter fun i =>
      s.hubLine n i && s.rd (ihB n + 4 * i) IH_LINE.IH_PRIO != 0 && decide (thr < s.rd (ihB n + 4 * i) IH_LINE.IH_PRIO) &&
      s.rd (ihB n + 4 * i) IH_LINE.TARGET == target).foldl
    (fun m i => match m with
      | some j => if s.rd (ihB n + 4 * j) IH_LINE.IH_PRIO < s.rd (ihB n + 4 * i) IH_LINE.IH_PRIO then some i else m
      | none => some i) none

/-- IH_TOP: over both targets the chosen line of the higher priority, then the lower number. -/
def State.hubShown (s : State) (n : Nat) : Option Nat :=
  match s.hubTop n 0, s.hubTop n 1 with
  | some i, some j =>
    let p := s.rd (ihB n + 4 * i) IH_LINE.IH_PRIO
    let q := s.rd (ihB n + 4 * j) IH_LINE.IH_PRIO
    if p > q ∨ (p = q ∧ i < j) then some i else some j
  | some i, none => some i
  | none, t => t

/-! ## Locks (R380 to R383) -/

/-- The owner ID of an initiator. -/
def State.ownerOf (s : State) (i : Sys2Proof.Ini) : Nat :=
  match i with
  | .sp n => ownerSP n | .owl d => ownerOwl d | .sac n => ownerSAC n | .vf n => ownerVF n | .pf => ownerPF | .den _ => ownerDen
  | .dma c => match s.dmaSite c with
    | some n => ownerVF n
    | none => ownerPF
  | _ => 0

/-- A read of LCK_n: the answer, and the lock taken where it was free (R381). -/
def State.lockRead (s : State) (d n : Nat) (i : Sys2Proof.Ini) : Nat × State :=
  let o := s.lockOwner d n
  let me := s.ownerOf i
  let orphan := s.rd (lckN d n) LCK.ORPHAN * 2 ^ 30
  if o = 0 ∧ me ≠ 0 then (2 ^ 31 + orphan + me, s.wr (lckN d n) LCK.OWNER me) else (orphan + o, s)
def execLockRead (d : Fin 4) (n : Fin 64) (who : Sys2Proof.Ini) (s : State) : Out :=
  .next (s.atBlock .lck d 0 fun s => (s.lockRead d n who).2)

/-- A write of LCK_n: the owner's releases the lock, another's sets NOTOWN. -/
def State.lockWrite (s : State) (d n : Nat) (i : Sys2Proof.Ini) : State :=
  if s.lockOwner d n ≠ 0 ∧ s.lockOwner d n = s.ownerOf i then (s.wr (lckN d n) LCK.OWNER 0).wr (lckN d n) LCK.ORPHAN 0
  else s.wr (lckB d) LCK_STAT.NOTOWN 1
def execLockRelease (d : Fin 4) (n : Fin 64) (who : Sys2Proof.Ini) (s : State) : Out :=
  .next (s.atBlock .lck d 0 fun s => s.lockWrite d n who)

/-! ## Den: claim and reset (R384, R385) -/

/-- The TAP reaches Den always, the PCIe mailbox once Den is ready. -/
def State.denPath (s : State) (d : Nat) (tap : Bool) (f : State → State) : State := if tap then f s else s.atBlock .den d 0 f
/-- The path holds the claim. -/
def State.denHolds (s : State) (d : Nat) (tap : Bool) : Bool := s.on (denB d) DEN_CLAIM.HELD && s.on (denB d) DEN_CLAIM.BYTAP == tap
/-- A write by a path: without the claim it is ignored and sets NOCLAIM. -/
def State.denWrite (s : State) (d : Nat) (tap : Bool) (f : State → State) : State :=
  s.denPath d tap fun s => if s.denHolds d tap then f s else s.wr (denB d) DEN_STAT.NOCLAIM 1

/-- TAKE: a free claim goes to the path that asks, to the TAP when both do. -/
def State.denTake (s : State) (d : Nat) (tap : Bool) : State :=
  if s.on (denB d) DEN_CLAIM.HELD then s
  else ((s.wr (denB d) DEN_CLAIM.HELD 1).wrb (denB d) DEN_CLAIM.BYTAP tap).raise d 100 none d
def execDenTake (d : Fin 4) (tap pcie : Bool) (s : State) : Out :=
  .next <|
    let s := if tap then s.denPath d true (fun s => s.denTake d true) else s
    if pcie then s.denPath d false (fun s => s.denTake d false) else s

def State.denDrop (s : State) (d : Nat) (tap : Bool) : State :=
  if s.denHolds d tap then (s.wr (denB d) DEN_CLAIM.HELD 0).wr (denB d) DEN_CLAIM.BYTAP 0 else s
def execDenDrop (d : Fin 4) (tap : Bool) (s : State) : Out := .next (s.denPath d tap fun s => s.denDrop d tap)

/-- Removes every register field between two addresses from the register file: they read their reset values. -/
def State.dropRegs (s : State) (lo hi : Nat) : State :=
  { s with act := KV.dropRange (lo * 32) (hi * 32) s.act, stg := KV.dropRange (lo * 32) (hi * 32) s.stg }

/-- Package numbers of the cores of a die, in the numbering of the comparators (R389). -/
def coresOf (d : Nat) : List Nat :=
  (List.range 4).map (d * 4 + ·) ++ [16 + d] ++ (List.range 16).map (32 + d * 16 + ·) ++ (List.range 4).map (96 + d * 4 + ·)

/-- The terminal of a core, empty. -/
def State.clearTerminal (s : State) (core : Nat) : State :=
  if core < 16 then s.setSp core { s.sp core with dtx := none, drx := none, dtxOvf := false, drxOvf := false }
  else if core < 20 then s.setOwl (core - 16) { s.owl (core - 16) with dtx := none, drx := none, dtxOvf := false, drxOvf := false }
  else if core < 96 then s.setSac (core - 32) { s.sac (core - 32) with dtx := none, drx := none, dtxOvf := false, drxOvf := false }
  else s

/-- Den of a die is reset: registers, claim, comparators, terminals; its bus master's locks are orphaned (R383, R384). -/
def State.denReset (s : State) (d : Nat) : State :=
  let s := (s.dropRegs (denB d) (denB d + 0x100000)).setBmReq d none
  let s := s.each (coresOf d) fun c s =>
    (s.each (List.range 8) fun k s => s.setCmp (c * 8 + k) {}).clearTerminal c
  s
def execDenPowerOn (d : Fin 4) (s : State) : Out := .next ((s.denReset d).orphanOwner ownerDen)
/-- TRST_N resets every die's Den, frees its claim and resets the TAP. -/
def execTrstN (s : State) : Out :=
  .next { ((s.each (List.range 4) fun d s => s.denReset d).orphanOwner ownerDen) with tap := { up := true } }

/-! ## TAP instructions (R386) -/

def State.tapIr (s : State) (ir : Nat) : State := { s with tap := { s.tap with up := true, ir := ir } }
/-- A scan of the boundary register: levels sampled, cells updated. -/
def State.tapScan (s : State) (ir : Nat) (levels cells : List Bool) : State :=
  { s with tap := { s.tap with up := true, ir := ir, sampled := levels, cells := cells } }
/-- What the scanned outputs are driven from: none, their boundary cells, or high impedance. -/
inductive BoundaryDrive where
  | system | cells | highz
  deriving DecidableEq, Repr
def State.tapDrive (s : State) : BoundaryDrive :=
  if s.tap.ir ∈ [0x00, 0x04, 0x07, 0x08] then .cells else if s.tap.ir = 0x03 then .highz else .system

/-- What TDO drives; high impedance until the TAP answers, which the first command that reaches it shows (R51). -/
def State.tdoDrive (s : State) : Option Nat := if s.tap.up then some s.tap.tdo else none

def execExtest (levels cells : List Bool) (s : State) : Out := .next (s.tapScan 0x00 levels cells)
def execSamplePreload (levels cells : List Bool) (s : State) : Out := .next (s.tapScan 0x01 levels cells)
/-- The identification register: mask set, part number, manufacturer, 1. -/
def State.idcode (s : State) : Nat :=
  s.rd (dctlB 0) DCTL_STEP.MASKSET % 16 * 2 ^ 28 + 0x6A1C * 2 ^ 12 + Config.manufacturerCode.toNat * 2 + 1
def execIdcode (s : State) : Out := .next { s with tap := { s.tap with up := true, ir := 0x02, tdo := s.idcode } }
def execHighz (s : State) : Out := .next (s.tapIr 0x03)
def execClamp (s : State) : Out := .next (s.tapIr 0x04)
def execExtestPulse (levels cells : List Bool) (s : State) : Out := .next (s.tapScan 0x07 levels cells)
def execExtestTrain (levels cells : List Bool) (s : State) : Out := .next (s.tapScan 0x08 levels cells)
/-- DEN_STAT of LD0. -/
def State.denStatWord (s : State) (d : Nat) : Nat :=
  let b := denB d
  s.rd b DEN_STAT.CMP * 2 ^ 8 + s.rd b DEN_STAT.HIT * 2 ^ 4 + s.rd b DEN_STAT.TAPERR * 2 ^ 3 + s.rd b DEN_STAT.FREJ * 2 ^ 2 +
    s.rd b DEN_STAT.NOCLAIM * 2
def execDenstat (s : State) : Out := .next { s with tap := { s.tap with up := true, ir := 0x11, tdo := s.denStatWord 0 } }
/-- BYPASS, or a reserved code that acts as it. -/
def execBypass (code : BitVec 8) (s : State) : Out :=
  .next <|
    let named := [0x00, 0x01, 0x02, 0x03, 0x04, 0x07, 0x08, 0x10, 0x11]
    if code.toNat ∈ named then s else { s with tap := { s.tap with up := true, ir := code.toNat, tdo := 0 } }

/-- A DBGACC update: the capture before it returned the previous operation's status and data; its own are `status` and `data`. -/
def State.dbgacc (s : State) (status data : Nat) : State :=
  { s with tap := { s.tap with up := true, ir := 0x10, tdo := s.tap.status * 2 ^ 62 + s.tap.data, status := status, data := data } }
/-- DBGACC with OP 0 does nothing; the reserved OP sets TAPERR of the die named. The next capture reports OK with open data. -/
def execDbgaccNop (d : Fin 4) (reserved : Bool) (s : State) : Out :=
  .next <|
    let s := s.drew.dbgacc 0 (s.free 32)
    if reserved then s.wr (denB d) DEN_STAT.TAPERR 1 else s

/-! ## Halt mode (R387) -/

/-- The core that DEN_SEL of a die names, in the numbering of the comparators. -/
def State.selCore (s : State) (d : Nat) : Nat :=
  let i := s.rd (denB d) DEN_SEL.INDEX
  match s.rd (denB d) DEN_SEL.KIND with
  | 0 => d * 4 + i % 4
  | 1 => 16 + d
  | 2 => 32 + d * 16 + i
  | _ => 96 + d * 4 + i % 4

def State.coreHalted (s : State) (core : Nat) : Bool :=
  if core < 16 then (s.sp core).halted else if core < 20 then (s.owl (core - 16)).halted
  else if core < 96 then s.sacState (core - 32) == sacHALTED else false

/-- A core is asked to halt. -/
def State.askHalt (s : State) (core : Nat) : State :=
  if core < 16 then
    if (s.sp core).halted ∨ s.rd (spB core) SP_STAT.STATE = spRESET then s else s.setSp core { s.sp core with haltReq := true }
  else if core < 20 then
    if (s.owl (core - 16)).halted then s else s.setOwl (core - 16) { s.owl (core - 16) with haltReq := true }
  else s.sacHaltreq (core - 32)

/-- A core asked to halt is at an instruction boundary: it halts. -/
def State.haltDone (s : State) (core : Nat) : State :=
  if core < 16 then
    let x := s.sp core
    if !x.haltReq ∨ x.halted then s
    else (s.setSp core { x with halted := true, haltReq := false, stepping := false }).wr (spB core) SP_STAT.STATE spHALTED
  else if core < 20 then
    let x := s.owl (core - 16)
    if !x.haltReq ∨ x.halted then s
    else s.setOwl (core - 16) { x with halted := true, haltReq := false, stepping := false, stopAt := s.now }
  else s.sacHalted (core - 32)
def execCoreHalted (core : Fin 96) (s : State) : Out := .next (s.haltDone core)

/-- A halted core goes on at its pc; `one`: for one instruction. The comparators pass over the first one. -/
def State.coreResume (s : State) (core : Nat) (one : Bool) : State :=
  if !s.coreHalted core then s
  else if core < 16 then
    (s.setSp core { s.sp core with halted := false, wfi := false, haltReq := false, stepping := one, passCmp := true }).wr (spB core)
      SP_STAT.STATE spRUN
  else if core < 20 then
    let x := s.owl (core - 16)
    (s.setOwl (core - 16) { x with halted := false, wfi := false, haltReq := false, stepping := one, passCmp := true }).setWdog (core - 16)
      (s.wdog (core - 16) + (s.now - x.stopAt))
  else
    (s.sacStart (core - 32)).setSac (core - 32) { (s.sacStart (core - 32)).sac (core - 32) with stepping := one }

/-- A DEN_CTL command to the selected core; a PSQ accepts none. -/
def State.denCtl (s : State) (d : Nat) (f : Nat → State → State) : State :=
  let core := s.selCore d
  if core < 96 then f core s else s.wr (denB d) DEN_STAT.FREJ 1
def execDenHalt (d : Fin 4) (tap : Bool) (s : State) : Out :=
  .next (s.denWrite d tap fun s => s.denCtl d fun core s => s.askHalt core)
def execDenResume (d : Fin 4) (tap : Bool) (s : State) : Out :=
  .next (s.denWrite d tap fun s => s.denCtl d fun core s => s.coreResume core false)
def execDenStep (d : Fin 4) (tap : Bool) (s : State) : Out :=
  .next (s.denWrite d tap fun s => s.denCtl d fun core s => s.coreResume core true)

/-! ## Virtual terminals (R390) -/

/-- A core's terminal words and flags: DTX, DRX, DTX_OVF, DRXOVF. -/
def State.terminal (s : State) (core : Nat) : Option Nat × Option Nat × Bool × Bool :=
  if core < 16 then ((s.sp core).dtx, (s.sp core).drx, (s.sp core).dtxOvf, (s.sp core).drxOvf)
  else if core < 20 then
    ((s.owl (core - 16)).dtx, (s.owl (core - 16)).drx, (s.owl (core - 16)).dtxOvf, (s.owl (core - 16)).drxOvf)
  else if core < 96 then
    ((s.sac (core - 32)).dtx, (s.sac (core - 32)).drx, (s.sac (core - 32)).dtxOvf, (s.sac (core - 32)).drxOvf)
  else (none, none, false, false)
def State.setTerminal (s : State) (core : Nat) (t : Option Nat × Option Nat × Bool × Bool) : State :=
  if core < 16 then s.setSp core { s.sp core with dtx := t.1, drx := t.2.1, dtxOvf := t.2.2.1, drxOvf := t.2.2.2 }
  else if core < 20 then
    s.setOwl (core - 16) { s.owl (core - 16) with dtx := t.1, drx := t.2.1, dtxOvf := t.2.2.1, drxOvf := t.2.2.2 }
  else if core < 96 then
    s.setSac (core - 32) { s.sac (core - 32) with dtx := t.1, drx := t.2.1, dtxOvf := t.2.2.1, drxOvf := t.2.2.2 }
  else s

/-- A core sends a word: dropped with DTX_OVF while DTX is full. -/
def State.dtxSend (s : State) (core v : Nat) : State :=
  let (dtx, drx, o, p) := s.terminal core
  match dtx with
  | some _ => s.setTerminal core (dtx, drx, true, p)
  | none => s.setTerminal core (some (v % 2 ^ 32), drx, o, p)
/-- Den empties DTX; Den sends a word, dropped with DRXOVF while DRX is full; the core releases DRX. -/
def State.dtxAck (s : State) (core : Nat) : State :=
  let (_, drx, o, p) := s.terminal core
  s.setTerminal core (none, drx, o, p)
def State.drxSend (s : State) (core v : Nat) : State :=
  let (dtx, drx, o, p) := s.terminal core
  match drx with
  | some _ => s.setTerminal core (dtx, drx, o, true)
  | none => s.setTerminal core (dtx, some (v % 2 ^ 32), o, p)
def State.drxRelease (s : State) (core : Nat) : State :=
  let (dtx, _, o, p) := s.terminal core
  s.setTerminal core (dtx, none, o, p)
/-- DTERM as a core reads it, and its write: 1 to bit 2 clears DTX_OVF. -/
def State.dterm (s : State) (core : Nat) : Nat :=
  let (dtx, drx, o, _) := s.terminal core
  o.toNat * 4 + dtx.isSome.toNat * 2 + drx.isSome.toNat
def State.dtermWrite (s : State) (core v : Nat) : State :=
  let (dtx, drx, o, p) := s.terminal core
  s.setTerminal core (dtx, drx, o && !bitAt v 2, p)

def execDtxack (d : Fin 4) (tap : Bool) (s : State) : Out := .next (s.denWrite d tap fun s => s.dtxAck (s.selCore d))
def execDenDrxWrite (d : Fin 4) (tap : Bool) (v : BitVec 32) (s : State) : Out :=
  .next (s.denWrite d tap fun s => s.drxSend (s.selCore d) v.toNat)

end Sys2Proof.Machine
end

