-- ==== Sys2Proof/Machine/Gsl.lean ====
section
/-! DEFINITION. System links (15_system_links_and_host.md R462 to R489): frames, replay and credits, training, hold and reroute,
encryption keys. Received DATA frames are delivered in Machine/Link.lean. -/
namespace Sys2Proof.Machine

open Sys2Proof (GFrame GPkt GHdr LmgtMsg LinkUp Rsp MemReq)

/-! ## Routing (R476, R485 to R488) -/

def rtB (dst : Nat) : Nat := gslB 0 + dst * 4
def State.primary (s : State) (dst : Nat) : Option Nat :=
  if s.on (rtB dst) GSL_RT.PV && s.rd (rtB dst) GSL_RT.PRIM < 24 then some (s.rd (rtB dst) GSL_RT.PRIM) else none
def State.alternate (s : State) (dst : Nat) : Option Nat :=
  if s.on (rtB dst) GSL_RT.AV && s.rd (rtB dst) GSL_RT.ALT < 24 then some (s.rd (rtB dst) GSL_RT.ALT) else none
def State.portUp (s : State) (g : Nat) : Bool := s.portState g == portUP
/-- The port takes frames: UP, or HELD within its hold time. -/
def State.portTakes (s : State) (g : Nat) : Bool := s.portUp g || (s.portState g == portHELD && (s.gsl g).holding)

def State.enqueue (s : State) (g : Nat) (f : GFrame) : State := s.setGsl g { s.gsl g with queue := (s.gsl g).queue ++ [f] }
def State.park (s : State) (g : Nat) (f : GFrame) : State := s.setGsl g { s.gsl g with parked := (s.gsl g).parked ++ [f] }

/-- GSL_LIFE and GSL_HOLD in ticks. -/
def State.gslLife (s : State) : Nat := s.rd (gslB 0) GSL_LIFE.MS * 4000000
def State.gslHoldTime (s : State) (g : Nat) : Nat := s.rd (gpB g) GSL_HOLD.MS * 4000000

/-- AGE of a DATA or RELAY frame now: what it carried and its time in this device, saturating; zero in others (R468, R476). -/
def State.ageNow (s : State) (f : GFrame) : Nat :=
  if f.type = 1 ∨ f.type = 4 then (if f.at_ = 0 then f.age else min 65535 (f.age + (s.now + 1 - f.at_) / 4000)) else 0
def State.aged (s : State) (f : GFrame) : GFrame := { f with age := s.ageNow f, at_ := s.now + 1 }
/-- A DATA or RELAY frame whose AGE has reached GSL_LIFE (R486, R488). -/
def State.outlived (s : State) (f : GFrame) : Bool :=
  (f.type == 1 || f.type == 4) && s.rd (gslB 0) GSL_LIFE.MS * 1000 ≤ s.ageNow f
/-- GSL_LIFE has not yet passed since the port went down or came back. -/
def State.lifeRuns (s : State) (g : Nat) : Bool := (s.gsl g).since != 0 && s.now + 1 < (s.gsl g).since + s.gslLife

/-- Puts a frame on its destination's way; false: no route is up, it is lost. One whose primary port is lost goes to the alternate once
GSL_LIFE has passed since that port went down (R487). -/
def State.gslPut (s : State) (f : GFrame) : State × Bool :=
  let f := { s.aged f with born := s.nocNext }
  let prim := s.primary f.dst
  let alt := match s.alternate f.dst with
    | some a => if s.portUp a then some a else none
    | none => none
  match s.route f.dst, prim with
  | .leaving, some p | .returning, some p => (s.park p f, true)
  | .alternate, some p =>
    match s.alternate f.dst with
    | some a =>
      if s.portTakes a then (s.enqueue a f, true)
      else if s.portUp p then ((s.setRoute f.dst .returning).park p f, true) else (s, false)
    | none => (s, false)
  | _, some p =>
    if s.portTakes p then (s.enqueue p f, true)
    else
      match alt with
      | some a =>
        if s.lifeRuns p then ((s.setRoute f.dst .leaving).park p f, true) else ((s.setRoute f.dst .alternate).enqueue a f, true)
      | none => (s, false)
  | _, none =>
    match alt with
    | some a => (s.enqueue a f, true)
    | none => (s, false)

/-! ## Lost frames (R482, R489) -/

/-- A relay of port `g` is lost: loads it feeds end, and Sett drops what it has received of an offer (R292, R482). -/
def State.relayLost (s : State) (g : Nat) : State := (s.relayPortLost g).setRelayBuf g []

def State.gslDrop (s : State) (g : Nat) (f : GFrame) : State :=
  let s := (s.count (gpB g) GSL_CNT_LOST.V).raise (g / 6) 93 none g
  if f.type = 2 then s.raise (g / 6) 94 none g else if f.type = 4 then s.relayLost g else s

/-- The response frame of a request's sender: virtual channel plus one. -/
def responseFrame (own : Nat) (f : GFrame) (p : GPkt) : GFrame :=
  { type := 1, vc := (f.vc + 1) % 4, dst := f.src, src := own, pkts := [p] }

/-- The route table has no valid primary and no valid alternate for a destination: counted at the port that would have sent or that
received the frame (R476; notes/assumptions/114.md). -/
def State.noRoute (s : State) (g : Nat) (f : GFrame) : State :=
  if (s.primary f.dst).isNone && (s.alternate f.dst).isNone then s.count (gpB g) GSL_CNT_NOROUTE.V else s

/-- A flight of this device takes a response. -/
def State.flightAnswer (s : State) (tag : Nat) (r : Rsp) : State :=
  { s with flights := s.flights.map fun f => if f.id = tag ∧ f.rsp.isNone then { f with rsp := some r } else f }

/-- A frame is declared lost at a port: counted, raised; each request in it is answered with LINK. -/
def State.gslLost (s : State) (g : Nat) (f : GFrame) : State :=
  (s.gslDrop g f).each f.pkts fun p s =>
    match p with
    | .rsp _ _ => s
    | .req tag _ =>
      if f.src = s.devnum then
        match s.flights.find? fun e => e.id == tag with
        | some e =>
          let d := iniDie e.req.ini
          ((s.complete e .link).count (nocB d) NOC_CNT_LINK.V).raise d 82 (e.req.site.map (·.val)) d
        | none => s
      else
        let r := responseFrame s.devnum f (.rsp tag .link)
        let (s, ok) := s.gslPut r
        if ok then s else (s.noRoute g r).gslDrop g r

/-- Sends a frame; one without a route up is lost at port `g`. -/
def State.gslSend (s : State) (g : Nat) (f : GFrame) : State :=
  let (s, ok) := s.gslPut f
  if ok then s else (s.noRoute g f).gslLost g f

/-! ## Down, hold and return (R485 to R488) -/

def downLOCK : Nat := 1
def downREPLAY : Nat := 2
def downPEER : Nat := 3
def downCONFIG : Nat := 4

/-- A trained port goes down. -/
def State.gslDown (s : State) (g cause : Nat) : State :=
  let st := s.portState g
  if st = portUP ∨ st = portHOLD ∨ st = portLOOP then
    let s := (s.setPortState g portHELD).wr (gpB g) GSL_PSTAT.CAUSE cause
    let s := (s.count (gpB g) GSL_CNT_DOWN.V).raise (g / 6) 92 none g
    (s.setGsl g { s.gsl g with holding := true, replay := [], since := s.now + 1 }).parentPortDown g
  else s

/-- The hold ends without a return: the port is lost with what waited on it (R487, R292; notes/assumptions/109.md). -/
def State.gslExpire (s : State) (g : Nat) : State :=
  let x := s.gsl g
  let s := (s.setGsl g { x with unacked := [], replay := [], queue := [], holding := false }).relayLost g
  let s := s.each x.unacked fun f s => s.gslLost g f
  let stops := s.stopOut.filter fun e => e.1 == g
  let s := { s with stopOut := s.stopOut.filter fun e => e.1 != g }
  let peer := s.rd (gpB g) GSL_PEER.DEV
  let s := s.each stops fun e s =>
    match s.alternate peer with
    | some a =>
      if s.portUp a then { s with stopOut := s.stopOut ++ [(a, e.2.1, e.2.2)] }
      else s.gslLost g { type := 2, gid := e.2.1, stopAt := e.2.2, dst := peer, src := s.devnum }
    | none => s.gslLost g { type := 2, gid := e.2.1, stopAt := e.2.2, dst := peer, src := s.devnum }
  s.each x.queue fun f s =>
    match s.alternate f.dst with
    | some a =>
      if s.portUp a ∧ s.primary f.dst = some g then (s.setRoute f.dst .leaving).park g f
      else s.gslLost g f
    | none => s.gslLost g f

/-- A primary port is UP again: its destinations leave their alternate (R488). -/
def State.gslReturn (s : State) (g : Nat) : State :=
  s.each (s.routes.map (·.1)) fun dst s =>
    if s.primary dst = some g ∧ s.route dst ≠ .primary then s.setRoute dst .returning else s

/-- GSL_HOLD ends: its milliseconds have passed since the port went down (R487). -/
def execGslHoldExpire (g : Fin 24) (s : State) : Out :=
  .next <|
    if (s.gsl g).holding ∧ (s.gsl g).since + s.gslHoldTime g ≤ s.now + 1 then
      let s := s.gslExpire g
      if s.portState g = portHELD then s.setPortState g (if s.on (gpB g) GSL_PCTL.EN then portTRAINING else portDISABLED) else s
    else s

/-- GSL_LIFE has passed since a route change of port `g`'s destinations: the frames that waited leave on the new route; that wait is not
part of their AGE (R487, R488; notes/assumptions/62.md). -/
def execGslLifeExpire (g : Fin 24) (s : State) : Out :=
  .next <|
    if s.lifeRuns g then s else
    let x := s.gsl g
    let s := s.setGsl g { x with parked := [] }
    let s := s.each (s.routes.map (·.1)) fun dst s =>
      if s.primary dst ≠ some g.val then s
      else
        match s.route dst with
        | .leaving => s.setRoute dst .alternate
        | .returning => if s.portUp g then s.setRoute dst .primary else s
        | _ => s
    s.each x.parked fun f s => s.gslSend g { f with at_ := s.now + 1 }

/-- A DATA or RELAY frame that waits on a port reaches the age of GSL_LIFE. -/
def execGslFrameAgeExpire (g : Fin 24) (n : Nat) (s : State) : Out :=
  .next <|
    let x := s.gsl g
    match x.queue[n]? with
    | some f => if s.outlived f then (s.setGsl g { x with queue := x.queue.eraseIdx n }).gslLost g f else s
    | none => s

/-! ## Training and link management (R465 to R467, R475) -/

/-- What the lanes of a port send: nothing, in electrical idle, before its first training attempt (a partner that trains meanwhile is held
in training idle), the training pattern, PRBS31 in loopback, or frames (R51, R465, R467). -/
inductive LaneOut where
  | electricalIdle | training | prbs | frames
  deriving DecidableEq, Repr
def State.gslLanes (s : State) (g : Nat) : LaneOut :=
  let st := s.portState g
  if s.por || st == portDISABLED then .electricalIdle
  else if st == portTRAINING || st == portHELD then .training
  else if st == portLOOP then .prbs
  else .frames

/-- A training attempt starts. -/
def execGslTrainingAttempt (g : Fin 24) (s : State) : Out :=
  .next <|
    if s.por ∨ !s.on (gpB g) GSL_PCTL.EN then s
    else
      let st := s.portState g
      if st = portDISABLED ∨ st = portTRAINING then (s.setPortState g portTRAINING).setGsl g { s.gsl g with lmgt := true }
      else if st = portHELD then s.setGsl g { s.gsl g with lmgt := true }
      else s

/-- The lane order of a training: one of the 24 orders of the four lanes (R464). -/
def laneOrderOk (order : Nat) : Bool := (List.range 4).all fun l => (List.range 4).any fun j => bits order (2 * j) 2 == l

/-- The frames that a resumed port replays, numbered on from the first that was not acknowledged (R486; notes/assumptions/115.md). -/
def renumber (base : Nat) (fs : List GFrame) : List GFrame := (fs.zip (List.range fs.length)).map fun e => { e.1 with seq := (base + e.2) % 65536 }

/-- A held port resumes: the frames that have outlived GSL_LIFE are lost, the others are replayed (R486). -/
def State.gslResume (s : State) (g : Nat) : State :=
  let x := s.gsl g
  let base := (x.unacked.head?.map (·.seq)).getD x.tx
  let kept := renumber base (x.unacked.filter fun f => !s.outlived f)
  let s' := s.setGsl g { x with unacked := kept, replay := kept, tx := (base + kept.length) % 65536 }
  s'.each (x.unacked.filter s.outlived) fun f s => s.gslLost g f

/-- A training ends: failed; in loopback; or UP, resuming a held port whose partner and SESSION are unchanged on both sides, else afresh;
then the epoch check. -/
def execGslTrainingDone (g : Fin 24) (up : Option LinkUp) (s : State) : Out :=
  .next <|
    let b := gpB g
    let st := s.portState g
    match up with
    | none => s
    | some u =>
      if s.por ∨ !s.on b GSL_PCTL.EN ∨ (st ≠ portTRAINING ∧ st ≠ portHELD) ∨ !laneOrderOk u.order.toNat then s
      else if s.rd b GSL_PCTL.LOOP ≠ 0 then s.setPortState g portLOOP
      else
        let x := s.gsl g
        let same := st = portHELD ∧ x.holding ∧ !x.drawn ∧ x.peer = some u.session.toNat ∧ s.rd b GSL_PEER.DEV = u.dev.toNat
        let s := if !same ∧ x.holding then s.gslExpire g else s
        let x := { s.gsl g with
          peer := some u.session.toNat, holding := false, drawn := false, lmgt := false, asym := u.asym.toNat, recal := []
          since := s.now + 1 }
        let s := if same then (s.setGsl g x).gslResume g
          else s.setGsl g { x with tx := 0, rx := 0, unacked := [], replay := [], used := [], owed := [], replays := 0 }
        let s := ((s.wr b GSL_PSTAT.POL u.pol.toNat).wr b GSL_PSTAT.ORDER u.order.toNat).wr b GSL_PSTAT.RATE
          (min u.rate.val (s.rd b GSL_PCTL.RATE))
        let s := (s.wr b GSL_PEER.VALID 1).wr b GSL_PEER.DEV u.dev.toNat
        let s := (s.wr b GSL_PEPOCH.EPOCH u.epoch.toNat).wr b GSL_PEPOCH.MINPEER u.minpeer.toNat
        let s := if s.isFollower ∧ s.parentPort = g.val then s.wr (ptbB 0) PTB_ASYM.PHY u.asym.toNat else s
        ((s.setPortState g portUP).gslReturn g).epochCheck g

/-- A port that carries frames of a kind: UP, or, for what EPOCH_HOLD still carries, held for its epoch. -/
def State.gslOpen (s : State) (g : Nat) (inHold : Bool) : Bool := s.portUp g || (inHold && s.portState g == portHOLD)

/-- A frame is discarded and to be answered with NAK (R470, R471). -/
def State.gslNakOwed (s : State) (g : Nat) : State := s.setGsl g { s.gsl g with nak := true }

/-- An encrypted frame names a valid slot; an unencrypted one is admitted unless REQENC is set (R484). -/
def State.gslAuth (s : State) (g : Nat) (h : GHdr) : Bool :=
  if h.enc then (KV.get none h.key.val (s.gsl g).keys).isSome else !s.on (gpB g) GSL_PCTL.REQENC

/-- Every unacknowledged frame is to be sent again; the eighth replay without an advance of ACK takes the port down (R471). -/
def State.gslReplay (s : State) (g : Nat) : State :=
  let x := s.gsl g
  let s := (s.setGsl g { x with replay := x.unacked, replays := x.replays + 1 }).count (gpB g) GSL_CNT_REPLAY.V
  if x.replays + 1 ≥ 8 then s.gslDown g downREPLAY else s

/-- ACK covers the frames up to its number; credits come back; a NAK starts a replay (R471, R472). -/
def State.gslHeader (s : State) (g : Nat) (h : GHdr) : State :=
  let x := s.gsl g
  let acked := x.unacked.findIdx? fun f => f.seq == h.ack.toNat
  let rest := match acked with
    | some i => x.unacked.drop (i + 1)
    | none => x.unacked
  let x := { x with
    unacked := rest
    replay := x.replay.filter fun f => rest.any fun e => e.seq == f.seq
    replays := if acked.isSome then 0 else x.replays
    used := KV.set 0 h.crvc.val (KV.get 0 h.crvc.val x.used - h.crn.toNat) x.used }
  let s := (s.setGsl g x).count (gpB g) GSL_CNT_FECC.V h.fecc.toNat
  if h.nak then s.gslReplay g else s

/-- A received LMGT frame. -/
def execLmgtFrame (g : Fin 24) (h : GHdr) (m : LmgtMsg) (s : State) : Out :=
  .next <|
    let b := gpB g
    if s.por then s
    else if s.gslOpen g true ∧ !s.gslAuth g h then (s.count b GSL_CNT_AUTH.V).gslNakOwed g
    else
      let s := if s.gslOpen g true then s.gslHeader g h else s
      match m with
      | .session _ dev => if s.gslOpen g true then s else (s.wr b GSL_PEER.VALID 1).wr b GSL_PEER.DEV dev.toNat
      | .epochs e mp => ((s.wr b GSL_PEPOCH.EPOCH e.toNat).wr b GSL_PEPOCH.MINPEER mp.toNat).epochCheck g
      | .down => s.gslDown g downPEER
      | .farLoop =>
        if s.portState g = portTRAINING ∧ s.on b GSL_PCTL.FARLB_OK then s.setPortState g portLOOP else s
      | .key => s
      | .answer => s.setGsl g { s.gsl g with lmgt := false }

/-- The IV of an encrypted frame: the port's package number, the device number, the slot's transmit counter (R484). -/
def State.gslIv (s : State) (g k : Nat) : Nat :=
  g * 2 ^ 91 + s.rd (dctlB 0) DCTL_DEVNUM.DEVNUM * 2 ^ 77 + KV.get 0 k (s.gsl g).txc % 2 ^ 64

/-- The frame that a port sends with its AGE and with what its header carries: a NAK owed, credits of the lowest virtual channel owed (R468). -/
def State.gslWire (s : State) (g : Nat) (f : GFrame) : State :=
  let x := s.gsl g
  let vc := ((List.range 4).find? fun v => KV.get 0 v x.owed != 0).getD 0
  let n := min 63 (KV.get 0 vc x.owed)
  let x := match f.key with
    | some k => { x with iv := s.gslIv g k, txc := KV.set 0 k (KV.get 0 k x.txc + 1) x.txc }
    | none => x
  s.setGsl g { x with wire := some ({ f with age := s.ageNow f }, vc, n), owed := KV.set 0 vc (KV.get 0 vc x.owed - n) x.owed, nak := false }

/-- The slot under which a frame leaves: none unencrypted; not at all while the slot is invalid. -/
def State.gslKey (s : State) (g : Nat) : Option (Option Nat) :=
  let k := s.rd (gpB g) GSL_PCTL.TXKEY
  if !s.on (gpB g) GSL_PCTL.ENC then some none
  else if (KV.get none k (s.gsl g).keys).isSome then some (some k) else none

/-- An unanswered LMGT request is sent again, encrypted where the port encrypts (R469, R484). -/
def execLmgtRepeat (g : Fin 24) (s : State) : Out :=
  .next <|
    match s.gslKey g with
    | some key => if (s.gsl g).lmgt then s.gslWire g { type := 5, src := s.devnum, key := key } else s
    | none => s

/-- Background recalibration of one lane of an UP port: no register changes but the record of when (R466). -/
def execSystemLaneRecalibration (g : Fin 24) (lane : Fin 4) (s : State) : Out :=
  .next (if s.portUp g then s.setGsl g { s.gsl g with recal := KV.set 0 lane.val (s.now + 1) (s.gsl g).recal } else s)

/-- Bit errors of the PRBS31 pattern in loopback. -/
def execPrbsBitError (g : Fin 24) (n : Nat) (s : State) : Out :=
  .next (if s.portState g = portLOOP then s.count (gpB g) GSL_PRBS.V n else s)

/-! ## Sending (R471 to R474, R480, R484) -/

/-- A sequenced frame leaves for the first time. -/
def State.gslFirst (s : State) (g : Nat) (f : GFrame) (key : Option Nat) : State :=
  let x := s.gsl g
  let f := { f with seq := x.tx, key := key }
  (s.setGsl g { x with tx := (x.tx + 1) % 65536, unacked := x.unacked ++ [f] }).gslWire g f

/-- A queued STOP that can leave now: no replay is under way, and the window and the key allow a sequenced frame (R471, R473). -/
def State.stopReady (s : State) (g : Nat) : Option (Nat × Nat × Nat) :=
  let x := s.gsl g
  if s.portUp g && s.on (dctlB 0) DCTL_DEVNUM.LOCKED && (s.gslKey g).isSome && x.replay.isEmpty && x.unacked.length < 256 then
    s.stopOut.find? fun e => e.1 == g
  else none

/-- A port transmits the next frame: a STOP ahead of every queued frame (R179); an exchange response; then, with a device number, a
replay in order and the first DATA or RELAY frame whose virtual channel has a credit. -/
def execGslFrameSend (g : Fin 24) (s : State) : Out :=
  .next <|
    let x := s.gsl g
    if !s.gslOpen g true then s
    else
      match s.stopReady g with
      | some e =>
        { s with stopOut := s.stopOut.erase e }.gslFirst g
          { type := 2, dst := s.rd (gpB g) GSL_PEER.DEV, src := s.devnum, gid := e.2.1, stopAt := e.2.2 } ((s.gslKey g).getD none)
      | none =>
        match s.ptbOut.find? fun a => a.port == g.val with
        | some a => { s with ptbOut := s.ptbOut.erase a }.gslWire g { type := 3, src := s.devnum }
        | none =>
          if !s.on (dctlB 0) DCTL_DEVNUM.LOCKED then s
          else
            match s.gslKey g, x.replay with
            | none, _ => s
            | some key, f :: rest => (s.setGsl g { x with replay := rest }).gslWire g { f with key := key }
            | some key, [] =>
              if 256 ≤ x.unacked.length then s
              else
                match x.queue.findIdx? fun f => decide (KV.get 0 f.vc x.used < 32) && (s.portUp g || f.type == 4) with
                | none => s
                | some i =>
                  match x.queue[i]? with
                  | none => s
                  | some f =>
                    (s.setGsl g { x with queue := x.queue.eraseIdx i, used := KV.set 0 f.vc (KV.get 0 f.vc x.used + 1) x.used }).gslFirst
                      g f key

/-- Credits of a virtual channel owed for 1 µs leave in an IDLE frame. -/
def execGslCreditReturnTimer (g : Fin 24) (vc : Fin 4) (s : State) : Out :=
  .next <|
    let x := s.gsl g
    let n := min 63 (KV.get 0 vc.val x.owed)
    if s.gslOpen g true ∧ n ≠ 0 then
      s.setGsl g { x with owed := KV.set 0 vc.val (KV.get 0 vc.val x.owed - n) x.owed, nak := false
                          wire := some ({ type := 0, src := s.devnum }, vc.val, n) }
    else s

/-- A DATA or RELAY frame without a credit has waited more than 1 ms. -/
def execGslCreditStall (g : Fin 24) (s : State) : Out :=
  .next <|
    let x := s.gsl g
    if x.queue.any fun f => decide (32 ≤ KV.get 0 f.vc x.used ∧ f.at_ + 4000000 < s.now + 1) then
      (s.count (gpB g) GSL_CNT_STALL.V).raise (g / 6) 91 none g
    else s

/-! ## Receiving (R469 to R474, R480) -/

/-- A received sequenced frame: carried only with a device number and in a state that carries it; authenticated; taken in order; its
buffer's credit is owed once it has been taken. -/
def State.gslTake (s : State) (g : Nat) (h : GHdr) (inHold : Bool) (vc : Option Nat) (f : State → State) : State :=
  if !s.gslOpen g true then s
  else if !s.on (dctlB 0) DCTL_DEVNUM.LOCKED then s.count (gpB g) GSL_CNT_NODEV.V
  else if !s.gslOpen g inHold then s
  else if !s.gslAuth g h then (s.count (gpB g) GSL_CNT_AUTH.V).gslNakOwed g
  else
    let s := s.gslHeader g h
    let x := s.gsl g
    if h.seq.toNat ≠ x.rx then s.gslNakOwed g
    else
      let x := { x with rx := (x.rx + 1) % 65536 }
      let x := match vc with
        | some v => { x with owed := KV.set 0 v (KV.get 0 v x.owed + 1) x.owed }
        | none => x
      f (s.setGsl g x)

/-- A received STOP: to every local member of its group, and on the group's other ports unless an earlier or equal STOP_AT of the
group was handled (R480). -/
def execGslStopFrame (g : Fin 24) (h : GHdr) (gid : BitVec 16) (stopAt : BitVec 64) (s : State) : Out :=
  .next <| s.gslTake g h false none fun s =>
    let seen := KV.get 0 gid.toNat s.stopSeen
    if seen ≠ 0 ∧ seen ≤ stopAt.toNat + 1 then
      let here := (List.range 16).filter fun q => s.rd (psqB q) PSQ_LKGRP.GID == gid.toNat
      { s with stops := s.stops ++ here.map fun q => ⟨q, gid.toNat, stopAt.toNat⟩ }
    else s.spreadStop 16 gid.toNat stopAt.toNat (some g.val)

/-- Relay image data for the configuration engine that takes an offer on this port, else for Sett (R482). -/
def execRelayImageData (g : Fin 24) (h : GHdr) (data : List Byte) (s : State) : Out :=
  .next <| s.gslTake g h true (some 2) fun s =>
    let d := g.val / 6
    if (s.cfe d).src = srcRELAY ∧ s.cfeState d ≠ cfeIDLE then s.cfeRelayData d data
    else s.setRelayBuf g (s.relayBuf g ++ data)

def execGslIdleFrame (g : Fin 24) (h : GHdr) (s : State) : Out := .next (if s.gslOpen g true then s.gslHeader g h else s)

/-- A frame fails its FEC (0), its CRC (1) or its GCM tag (2). -/
def execGslBadFrame (g : Fin 24) (kind : Fin 3) (s : State) : Out :=
  .next <|
    if s.gslOpen g true then
      let f := if kind.val = 0 then GSL_CNT_FECU.V else if kind.val = 1 then GSL_CNT_CRC.V else GSL_CNT_AUTH.V
      (s.count (gpB g) f).gslNakOwed g
    else s

/-- A frame with a reserved TYPE or a nonzero reserved field. -/
def execGslReservedFrame (g : Fin 24) (s : State) : Out :=
  .next (if s.gslOpen g true then s.count (gpB g) GSL_CNT_RSVD.V else s)

/-- A received NAK: ACK advances, the rest is replayed. -/
def execGslNak (g : Fin 24) (h : GHdr) (s : State) : Out :=
  .next (if s.gslOpen g true then s.gslHeader g { h with nak := true } else s)

/-- 20 µs with frames unacknowledged and no advance of ACK. -/
def execGslReplayTimeout (g : Fin 24) (s : State) : Out :=
  .next (if s.gslOpen g true ∧ (s.gsl g).unacked ≠ [] then s.gslReplay g else s)

/-- A lane has lost lock for 1 µs. -/
def execGslLockLoss (g : Fin 24) (s : State) : Out := .next (s.gslDown g downLOCK)

/-! ## Keys (R483) -/

def State.gslKeyValid (s : State) (g k : Nat) : Bool := (KV.get none k (s.gsl g).keys).isSome
def State.setGslKey (s : State) (g k : Nat) (key : Option (BitVec 256)) : State :=
  let x := s.gsl g
  let s := s.setGsl g { x with keys := KV.set none k key x.keys, txc := KV.set 0 k 0 x.txc }
  let s := s.wrb (gpB g + 4 * k) GSL_KINFO.VALID key.isSome
  if key.isNone then s.wr (gpB g + 4 * k) GSL_KINFO.RETIRE_PENDING 0 else s

/-- A key command while the last result is acknowledged: a new number, and its result. -/
def State.gslKeyCmd (s : State) (g : Nat) (f : State → Nat × State) : State :=
  let b := gpB g
  if !s.on b GSL_KRES.ACKD then s
  else
    let s := (s.seqUp b GSL_KRES.SEQ).wr b GSL_KRES.ACKD 0
    let (st, s) := f s
    (s.wr b GSL_KRES.STATUS st).wr b GSL_KRES.VALID 1

def State.gslKeyLoad (s : State) (g k : Nat) : State :=
  s.gslKeyCmd g fun s =>
    if s.gslKeyValid g k then (5, s)
    else
      match s.kek 1 with
      | none => (4, s)
      | some kek =>
        let w := (List.range 10).foldl (fun v i => v + s.rd (gpB g + 4 * i) GSL_KWRAP.V * 2 ^ (32 * i)) 0
        match Config.keyUnwrap kek (BitVec.ofNat 320 w) with
        | some key => (2, s.setGslKey g k (some key))
        | none => (3, s)
def execGslKeyLoad (g : Fin 24) (k : Fin 4) (s : State) : Out := .next (s.atBlock .gsl (g / 6) 0 fun s => s.gslKeyLoad g k)

/-- The slot is the transmit slot, or frames sent under it are unacknowledged. -/
def State.gslKeyBusy (s : State) (g k : Nat) : Bool :=
  s.rd (gpB g) GSL_PCTL.TXKEY == k || (s.gsl g).unacked.any fun f => f.key == some k
def State.gslKeyKill (s : State) (g k : Nat) : State :=
  s.gslKeyCmd g fun s =>
    if s.gslKeyBusy g k then (5, s.wrb (gpB g + 4 * k) GSL_KINFO.RETIRE_PENDING (s.gslKeyValid g k)) else (2, s.setGslKey g k none)
def execGslKeyKill (g : Fin 24) (k : Fin 4) (s : State) : Out := .next (s.atBlock .gsl (g / 6) 0 fun s => s.gslKeyKill g k)

def State.gslKeyAck (s : State) (g : Nat) : State := if s.on (gpB g) GSL_KRES.VALID then s.wr (gpB g) GSL_KRES.ACKD 1 else s
def execGslKeyAck (g : Fin 24) (s : State) : Out := .next (s.atBlock .gsl (g / 6) 0 fun s => s.gslKeyAck g)

/-- A slot that waits for retirement is killed once nothing uses it. -/
def execGslKeyRetire (g : Fin 24) (k : Fin 4) (s : State) : Out :=
  .next (if s.on (gpB g + 4 * k) GSL_KINFO.RETIRE_PENDING ∧ !s.gslKeyBusy g k then s.setGslKey g k none else s)

/-! ## Counters, commit, reset -/

def gslCounters : List Fld :=
  [GSL_CNT_CRC.V, GSL_CNT_AUTH.V, GSL_CNT_FECC.V, GSL_CNT_FECU.V, GSL_CNT_REPLAY.V, GSL_CNT_DOWN.V, GSL_CNT_LOST.V, GSL_CNT_NODEV.V,
   GSL_CNT_RSVD.V, GSL_CNT_NOROUTE.V, GSL_CNT_STALL.V]
def State.gslCntClr (s : State) (g v : Nat) : State :=
  s.each ((List.range 11).zip gslCounters) fun e s => if bitAt v e.1 then s.wr (gpB g) e.2 0 else s
def execGslCntClr (g : Fin 24) (v : BitVec 11) (s : State) : Out :=
  .next (s.atBlock .gsl (g / 6) 0 fun s => s.gslCntClr g v.toNat)

/-- A new SESSION, drawn afresh (R465). -/
def State.gslSession (s : State) (g : Nat) : State := s.drew.setGsl g { s.gsl g with session := s.free 32, drawn := true }

/-- After a commit: a port whose EN, RATE or LOOP has changed from `old` draws a SESSION and goes down (R465, R485); without EN it is
DISABLED when its hold ends. -/
def State.gslApplied (s old : State) (d : Nat) : State :=
  s.each ((List.range 6).map (d * 6 + ·)) fun g s =>
    let b := gpB g
    if [GSL_PCTL.EN, GSL_PCTL.RATE, GSL_PCTL.LOOP].all fun f => s.rd b f == old.rd b f then s
    else
      let s := (s.gslSession g).gslDown g downCONFIG
      if s.on b GSL_PCTL.EN || s.portState g == portHELD then s else s.setPortState g portDISABLED

end Sys2Proof.Machine
end

