-- ==== Sys2Proof/Machine/Site.lean ====
section
/-! DEFINITION. Site reset and release (04_sites_and_pattern_sequencers.md R119 to R130), and the host endpoint's link, resets and
DMA channels but for their transfers (15_system_links_and_host.md R490 to R497). -/
namespace Sys2Proof.Machine

open Sys2Proof (CfgReq)

/-! ## DMA channels (R494 to R496) -/

def dmaIDLE : Nat := 0
def dmaRUN : Nat := 1
def dmaHALTED : Nat := 2
def State.dmaState (s : State) (c : Nat) : Nat := s.rd (dmaB c) DMA_STAT.STATE

/-- The function that owns a channel: 0 the PF, n + 1 VF n. -/
def State.dmaFn (s : State) (c : Nat) : Nat :=
  match s.dmaSite c with
  | some n => n + 1
  | none => 0

/-- The channel's vector: 4 + c of the PF; of a VF, 2 + min(k, 5) for its k-th channel (R496). -/
def State.dmaVector (s : State) (c : Nat) : Nat :=
  match s.dmaSite c with
  | none => 4 + c
  | some n => vfVector n (2 + min 5 ((List.range c).filter fun e => s.dmaSite e == some n).length)

/-- An enabled idle channel with descriptors runs; one without any is idle. -/
def State.dmaKick (s : State) (c : Nat) : State :=
  let b := dmaB c
  let more := s.rd b DMA_PROD.V != s.rd b DMA_CONS.V
  if s.dmaState c = dmaHALTED then s
  else s.wr b DMA_STAT.STATE (if (s.on b DMA_CTL.EN && more) || (s.dma c).active != [] then dmaRUN else dmaIDLE)

def State.dmaProd (s : State) (c v : Nat) : State := (s.wr (dmaB c) DMA_PROD.V v).dmaKick c
def execDmaProdWrite (c : Fin 32) (v : BitVec 32) (s : State) : Out := .next (s.atBlock .hst 0 0 fun s => s.dmaProd c v.toNat)

/-- A descriptor's fields, and whether it is to be rejected: a reserved field, a length out of range, another device's number in a VF
channel. -/
def State.dmaParse (s : State) (c : Nat) (desc : BitVec 256) : DmaDesc :=
  let v := desc.toNat
  let dev := bits v 64 64
  let len := bits v 128 32
  let own := s.rd (dctlB 0) DCTL_DEVNUM.DEVNUM
  { host := bits v 0 64, dev := bits dev 0 54, len := len
    toHost := bitAt v 160, irq := bitAt v 161
    bad := decide (bits dev 54 10 ≠ 0 ∨ bits v 163 29 ≠ 0 ∨ bits v 200 56 ≠ 0 ∨ len % 4 ≠ 0 ∨ len < 4 ∨ 16777216 < len ∨
      ((s.dmaSite c).isSome ∧ bits dev 40 14 ≠ own)) }

/-- The channel starts its next descriptor, as read from host memory; with FENCE only after every earlier one has completed. -/
def execDmaDescriptor (c : Fin 32) (desc : BitVec 256) (s : State) : Out :=
  .next <| s.atBlock .hst 0 0 fun s =>
    let b := dmaB c
    let x := s.dma c
    let started := (s.rd b DMA_CONS.V + x.active.length) % 2 ^ 32
    if s.dmaState c ≠ dmaRUN ∨ !s.on b DMA_CTL.EN ∨ started = s.rd b DMA_PROD.V ∨ s.dmaFn c ∈ s.host.d3 ∨
        (bitAt desc.toNat 162 ∧ x.active ≠ []) then s
    else s.setDma c { x with active := x.active ++ [{ s.dmaParse c desc with site := (s.dmaSite c).map (Fin.ofNat 16), born := s.nocNext }] }

/-- The STATUS byte of the descriptor at CONS, in the ring in host memory (R495). -/
def State.dmaStatus (s : State) (c status : Nat) : State :=
  let b := dmaB c
  let ring := s.rd b DMA_RBASE_LO.V * 32 + s.rd b DMA_RBASE_HI.V * 2 ^ 32
  s.setDma c { s.dma c with stat := some (ring + s.rd b DMA_CONS.V % 2 ^ s.rd b DMA_RSIZE.V * 32 + 24, status) }

/-- The oldest descriptor ends with a status, written to its ring: LAST, CONS, its vector; statuses 3 and above halt the channel. -/
def State.dmaEnd (s : State) (c status : Nat) : State :=
  let b := dmaB c
  let x := s.dma c
  match x.active with
  | [] => s
  | e :: rest =>
    let halt := 3 ≤ status
    let s := ((s.dmaStatus c status).wr b DMA_STAT.LAST status).wr b DMA_CONS.V (s.rd b DMA_CONS.V + 1)
    let s := s.setDma c { x with active := if halt then [] else rest }
    let s := if e.irq then s.sendMsix (s.dmaVector c) else s
    if halt then s.wr b DMA_STAT.STATE dmaHALTED else s.dmaKick c

/-- The channel's work ends with CANCELLED. -/
def State.dmaCancel (s : State) (c : Nat) : State :=
  let b := dmaB c
  if s.dmaState c ≠ dmaRUN then s
  else
    let s := (s.wr b DMA_STAT.LAST 6).each (s.dma c).active fun _ s => (s.dmaStatus c 6).wr b DMA_CONS.V (s.rd b DMA_CONS.V + 1)
    (s.setDma c { s.dma c with active := [] }).wr b DMA_STAT.STATE dmaHALTED
def execDmaCancel (c : Fin 32) (s : State) : Out := .next (s.atBlock .hst 0 0 fun s => s.dmaCancel c)

def State.dmaResume (s : State) (c : Nat) : State :=
  if s.dmaState c = dmaHALTED then (s.wr (dmaB c) DMA_STAT.STATE dmaIDLE).dmaKick c else s
def execDmaResume (c : Fin 32) (s : State) : Out := .next (s.atBlock .hst 0 0 fun s => s.dmaResume c)

/-! ## Site reset (R125 to R130) -/

/-- Requests of the site on the NoC that no memory port has accepted end with a decode error and are counted (R126 step 3, R127). -/
def State.sitePurgeFlights (s : State) (st : Nat) : State :=
  s.each (s.flights.filter fun f => f.req.site.map (·.val) == some st && f.rsp.isNone && !s.inPort f.id) fun f s =>
    (s.purged f.req f.dst).answer f.id .decode

/-- A site reset is requested (R125); an ACTIVE site starts it (R126, R127). -/
def State.siteReset (s : State) (st : Nat) (flr : Bool) : State :=
  let b := siteB st
  let s := s.count b SITE_STAT.RCNT
  let s := s.each (List.range 16) fun n s =>
    if s.on (spB n) SP_CFG.ASSIGNED ∧ s.rd (spB n) SP_CFG.SITE = st then s.hubPend n 91 true else s
  if s.siteState st ≠ siteACTIVE then s
  else
    let s := (s.wr b SITE_STAT.STATE siteRESETTING).wrb b SITE_STAT.FLR flr
    let p := s.rd b SITE_CFG.PSQ
    let s := s.haltPsq p runRESET 0 (s.haltTick p)
    let s := s.siteChannelsSafe st
    let s := s.sitePurgeFlights st
    let s := s.each (List.range 4) fun d s => s.fcuPurge d st
    let s := s.each (List.range 8) fun r s => s.raeCancelSite r st
    let s := s.each (List.range 64) fun c s =>
      if (s.sacSite c).map (·.val) = some st then s.sacSiteReset c else s
    let s := s.each (List.range 32) fun c s => if s.dmaSite c = some st then s.dmaCancel c else s
    s.orphanOwner (ownerVF st)

def execSiteReset (st : Fin 16) (s : State) : Out := .next (s.atBlock .site 0 0 fun s => s.siteReset st false)

/-- Nothing tagged with the site is in flight: no request, fail word, TRIG event or record line (R126 step 6). -/
def State.siteDrained (s : State) (st : Nat) : Bool :=
  s.fails.all (fun f => f.site != st) && s.trigs.all (fun m => s.siteOfPsq m.psq != some st) &&
  s.flights.all (fun f => f.req.site.map (·.val) != some st) && (List.range 4).all fun d => (s.fsx (d * 16 + st)).out.isEmpty

def execSiteQuiesced (st : Fin 16) (s : State) : Out :=
  .next <|
    if s.siteState st = siteRESETTING ∧ s.siteDrained st then
      ((s.wr (siteB st) SITE_STAT.STATE siteQUIESCED).wr (siteB st) SITE_STAT.QUIESCED 1).sendMsix (vfVector st 1)
    else s

/-- RELEASE acts in QUIESCED alone (R130). -/
def State.siteRelease (s : State) (st : Nat) : State :=
  let b := siteB st
  if s.siteState st = siteQUIESCED then
    (s.wr b SITE_STAT.QUIESCED 0).wr b SITE_STAT.STATE (if s.on b SITE_CFG.EN then siteACTIVE else siteFREE)
  else s
def execSiteRelease (st : Fin 16) (s : State) : Out := .next (s.atBlock .site 0 0 fun s => s.siteRelease st)

/-- The commit check of the SITE block (R123). -/
def State.siteCheck (s : State) : Bool :=
  let en := fun st => s.staged (siteB st) SITE_CFG.EN == 1
  let lo := fun st => s.staged (siteB st) SITE_DBASE.GRAN
  let hi := fun st => s.staged (siteB st) SITE_DLIM.GRAN
  (List.range 16).all fun st =>
    ((s.siteState st != siteACTIVE && s.siteState st != siteRESETTING) ||
      (KV.range (siteB st * 32 + 0x100 * 32) (siteB st * 32 + 0x140 * 32) s.stg).isEmpty) &&
    (!en st || (decide (lo st ≤ hi st) && (List.range 16).all fun t =>
      t == st || !en t ||
      (s.staged (siteB t) SITE_CFG.PSQ != s.staged (siteB st) SITE_CFG.PSQ && (decide (hi st < lo t) || decide (hi t < lo st)))))

/-- A passed SITE commit: a FREE site with EN = 1 becomes ACTIVE (R122). -/
def State.siteApplied (s : State) : State :=
  s.each (List.range 16) fun st s =>
    if s.siteState st = siteFREE ∧ s.on (siteB st) SITE_CFG.EN then s.wr (siteB st) SITE_STAT.STATE siteACTIVE else s

/-! ## The host link and its resets (R491, R497) -/

/-- As a PF function-level reset: every channel CANCELLED, the PF's locks orphaned, the VFs removed. -/
def State.pfReset (s : State) : State :=
  let s := s.each (List.range 32) fun c s => s.dmaCancel c
  let s := s.orphanOwner ownerPF
  { s with host := { last := s.host.last } }
def execPfFlr (s : State) : Out := .next (s.atBlock .hst 0 0 State.pfReset)

/-- VF Enable cleared acts as a PF FLR. -/
def execVfEnableClear (s : State) : Out := .next (s.atBlock .hst 0 0 fun s => if s.host.vfOn then s.pfReset else s)

/-- A VF FLR: site reset of its site, VF page and channels reset, channels CANCELLED. -/
def State.vfReset (s : State) (n : Nat) : State :=
  let s := s.siteReset n true
  let s := s.each ((List.range 32).filter fun c => s.dmaSite c == some n) fun c s =>
    let b := dmaB c
    let s := s.dmaCancel c
    let last := s.rd b DMA_STAT.LAST
    let s := s.dropRegs (b + 0x1000) (b + 0x1040)
    (s.wr b DMA_STAT.LAST last).setDma c {}
  let h := s.host
  { s with host := { h with
      cfg := KV.dropRange ((n + 1) * 1024) ((n + 2) * 1024) h.cfg
      d3 := h.d3.filter (· != n + 1)
      msixTab := KV.dropRange ((n + 1) * 16384) ((n + 2) * 16384) h.msixTab
      vfBase := KV.set 0 n 0 h.vfBase } }
def execVfFlr (n : Fin 16) (s : State) : Out := .next (s.atBlock .hst 0 0 fun s => s.vfReset n)

/-- The link goes down: as a PF FLR, DCTL_READY.HST = 0, source 95. -/
def State.hostDown (s : State) : State :=
  if s.ready 0 rdyHST ∨ s.on (hstB 0) HST_LINK.UP then
    ((s.pfReset.wr (hstB 0) HST_LINK.UP 0).setReady 0 rdyHST false).raise 0 95 none 0
  else s
def execPcieLinkDown (s : State) : Out := .next s.hostDown

/-- PERST_N: its assertion takes the link down; at its deassertion the link starts to train. -/
def execPerstN (asserted : Bool) (s : State) : Out := .next (if asserted then s.hostDown else s)

/-- The link has trained to a common speed (1 to 6), width and flit mode; DCTL_READY.HST is set. -/
def execPcieLinkUp (speed : Fin 7) (width : BitVec 5) (flit : Bool) (s : State) : Out :=
  .next <|
    if s.por ∨ !s.ready 0 rdyCKP ∨ s.domStopped 0 12 ∨ speed.val = 0 then s
    else
      let b := hstB 0
      let s := ((s.wr b HST_LINK.UP 1).wr b HST_LINK.SPEED speed).wr b HST_LINK.WIDTH width.toNat
      (s.wrb b HST_LINK.FLIT flit).setReady 0 rdyHST true

/-- Function number: PF 0, VF n is n + 1. -/
def fnNo (fn : Option (Fin 16)) : Nat :=
  match fn with
  | some n => n.val + 1
  | none => 0

/-- Identity dwords of the configuration header that the manual gives (R490): the Device ID beside the vendor's own number, class code
and Revision ID. -/
def State.cfgWord (s : State) (fn dword : Nat) : Nat :=
  if dword = 0 then Config.vendorId.toNat + (if fn = 0 then 0x2304 else 0x2305) * 2 ^ 16
  else if dword = 2 then s.rd (dctlB 0) DCTL_STEP.METAL + 0x118000 * 2 ^ 8
  else KV.get 0 (fn * 1024 + dword) s.host.cfg

/-- A configuration request completes: with Retry Status before DCTL_READY.HST, Unsupported Request to a VF that is not enabled. -/
def execPcieConfigRequest (fn : Option (Fin 16)) (r : CfgReq) (s : State) : Out :=
  .next <|
    let n := fnNo fn
    let h := s.host
    if s.por ∨ !s.ready 0 rdyHST then { s with host := { h with last := some .retry } }
    else if n ≠ 0 ∧ !h.vfOn then { s with host := { h with last := some .unsupported } }
    else
      match r with
      | .read dw => { s with host := { h with last := some (.data (leBytes 4 (s.cfgWord n dw.toNat)) false) } }
      | .write dw v =>
        { s with host := { h with
            last := some .ok
            cfg := if dw.toNat = 0 ∨ dw.toNat = 2 then h.cfg else KV.set 0 (n * 1024 + dw.toNat) v.toNat h.cfg } }
      | .vfEnable => { s with host := { h with last := some .ok, vfOn := h.vfOn || n == 0 } }
      | .bar2 k => { s with host := { h with last := some .ok, bar2 := if n = 0 then k.val else h.bar2 } }
      | .power d3 =>
        { s with host := { h with last := some .ok, d3 := if d3 then n :: h.d3.filter (· != n) else h.d3.filter (· != n) } }

/-- The HST commit check: HST_W2BASE aligned to the BAR2 size with its window inside 2^40; no owner of a running channel changes
(R493, R494). -/
def State.hstCheck (s : State) : Bool :=
  let b := hstB 0
  let base := s.staged b HST_W2BASE_LO.V * 2 ^ 30 + s.staged b HST_W2BASE_HI.V * 2 ^ 32
  let size := 2 ^ (30 + s.host.bar2)
  decide (base % size = 0 ∧ base + size ≤ 2 ^ 40) &&
  (List.range 32).all fun c =>
    s.dmaState c != dmaRUN ||
    (s.staged (b + c * 4) HST_DMA_OWN.VF == s.rd (b + c * 4) HST_DMA_OWN.VF &&
      s.staged (b + c * 4) HST_DMA_OWN.VFN == s.rd (b + c * 4) HST_DMA_OWN.VFN)

end Sys2Proof.Machine
end

