-- ==== Sys2Proof/Machine/Power.lean ====
section
/-! DEFINITION. The CKP block (16_clocks_power_startup.md): clock failure and restoration, the checks and effects of its commit,
gating, Doze, Nap, and the entry into Hibernate. -/
namespace Sys2Proof.Machine

/-! ## Failure and return (R505 to R508) -/

/-- The presence detector of a die sees no REFCLK: source 0; the PLLs but for the TPLL, which holds over, lose lock; the domains fed
by REFCLK and by them fall back or stop. -/
def execRefclkLoss (d : Fin 4) (s : State) : Out :=
  .next <|
    if !s.refOk d then s
    else
      let b := ckpB d
      let lost := (List.range 4).map (· + 1) |>.filter fun p => s.pllLocked d p
      let s := (s.wr b CKP_STAT.REFOK 0).wr b CKP_STAT.LOCK (s.rd b CKP_STAT.LOCK % 2)
      let s := (s.sourceFail d srcREFCLK).each lost fun p s => s.pllFail d p
      (s.condAs d 0 d).monitorFallback d

/-- The first edge after a loss: REFCLK is present and the condition of source 0 ends. -/
def execRefclkReturn (d : Fin 4) (s : State) : Out :=
  .next <| (s.wr (ckpB d) CKP_STAT.REFOK 1).condOff d 0 d

/-- A PLL loses lock: its domains fall back or stop; source 1 while REFCLK is present. -/
def execPllUnlock (d : Fin 4) (p : Fin 5) (s : State) : Out :=
  .next <|
    if !s.pllLocked d p then s
    else
      let s := (s.wrBit (ckpB d) CKP_STAT.LOCK p false).pllFail d p
      let s := if s.refOk d then s.condAs d 1 p else s
      s.monitorFallback d

/-- The frequency monitor ends a window: outside NORMAL the domains of each PLL found off its frequency fall back (R505, R507). -/
def execFreqMonitorWindow (d : Fin 4) (bad : BitVec 5) (s : State) : Out :=
  .next <|
    if s.mode = 1 ∨ bad = 0 ∨ s.por then s
    else ((s.each ((List.range 5).filter fun p => bitAt bad.toNat p) fun p s => s.pllFail d p)).monitorFallback d

/-- A PLL locks: it needs REFCLK, the TPLL alone may hold over or follow the recovered clock. Its unlock condition ends; with all five
locked the die's clocks are available. -/
def execPllLock (d : Fin 4) (p : Fin 5) (s : State) : Out :=
  .next <|
    if !s.refOk d ∧ p.val ≠ 0 then s
    else
      let s := (s.wrBit (ckpB d) CKP_STAT.LOCK p true).condOff d 1 p
      if s.rd (ckpB d) CKP_STAT.LOCK = 0x1F then s.setReady d rdyCKP true else s

/-- The Owl returns a domain to its committed source, once that runs and no hold of NORMAL is in force: FB clears; a domain that the
failure stopped restarts (R507, R508). -/
def execDomainRestore (d : Fin 4) (n : Fin 40) (s : State) : Out :=
  .next <|
    let b := domB d n
    if s.owlRuns d ∧ s.sourceOk d (s.domSrc d n) ∧ !(s.safe.held && s.mode == 1) ∧
        (s.on b CKP_DOM.FB ∨ (s.domStopped d n ∧ s.domEn d n)) then
      let s := (s.wr b CKP_DOM.FB 0).wr b CKP_DOM.BUSY 1
      if s.domEn d n then s.setDomFlag (d * 40 + n) false else s
    else s

/-! ## Commit (R499, R500, R502, R504, R506) -/

/-- A staged change of a domain passes R499, R502, R504 and R245; `owl`: the Owl commits, which may change domains marked "No". -/
def State.domCheck (s : State) (d n : Nat) (owl : Bool) : Bool :=
  let b := domB d n
  let src := s.staged b (CKP_DOM.SRC d n)
  let div := s.staged b (CKP_DOM.DIV d n)
  let en := s.staged b CKP_DOM.EN
  let moved := src != s.domSrc d n || div != s.rd b (CKP_DOM.DIV d n)
  if !moved && en == s.rd b CKP_DOM.EN then true
  else
    (domAllowed n).contains src &&
    srcMHz (s.staged (ckpB d) CKP_FPLL.MULT) src ≤ domLimit n * (div + 1) &&
    (owl || domHost n) && (en == 1 || domHost n) &&
    !(n == 9 && s.cfeState d != cfeIDLE) &&
    !(n == 16 && s.crossingUsed) &&
    !(16 ≤ n && if n = 16 then (List.range 4).any fun e => s.fgUsed e 0 else s.fgUsed d (n - 16))

/-- A staged mode passes R506. -/
def State.modeCheck (s : State) : Bool :=
  let m := s.staged (ckpB 0) CKP_MODE.MODE
  if m = s.mode then true
  else if m = 0 then false
  else if s.mode = 1 then !s.anyPsqActive
  else true

/-- The consistency check of a CKP block. FPLL's multiplier stays while a running domain uses it. -/
def State.ckpCheck (s : State) (d : Nat) (owl : Bool) : Bool :=
  (List.range 40).all (fun n => s.domCheck d n owl) &&
  (s.staged (ckpB d) CKP_FPLL.MULT == s.rd (ckpB d) CKP_FPLL.MULT ||
    (List.range 40).all fun n => s.domSrc d n != 8 || s.domStopped d n) &&
  (d != 0 || s.modeCheck)

/-- A commit refused because a PSQ is not IDLE or HALTED also sets REJ (R506). -/
def State.ckpRefused (s : State) (d : Nat) : State :=
  let m := s.staged (ckpB 0) CKP_MODE.MODE
  if d = 0 ∧ m ≠ s.mode ∧ m ≠ 0 ∧ s.mode = 1 ∧ s.anyPsqActive then s.wr (ckpB 0) CKP_STAT.REJ 1 else s

/-- After a commit, with the state `old` before it: a domain whose source, divider or EN changed switches or restarts; one on fallback
whose new source runs leaves it; the mode and FG0's domain take effect on every die. -/
def State.ckpApplied (s old : State) (d : Nat) : State :=
  let s := s.each (List.range 40) fun n s =>
    let b := domB d n
    let moved := s.domSrc d n != old.domSrc d n || s.rd b (CKP_DOM.DIV d n) != old.rd b (CKP_DOM.DIV d n)
    let up := s.domEn d n && !old.domEn d n
    if !moved && !up then s
    else
      let s := if n = 16 then s.each [1, 2, 3] fun e s =>
          ((s.wr (domB e 16) (CKP_DOM.SRC e 16) (s.domSrc 0 16)).wr (domB e 16) (CKP_DOM.DIV e 16) (s.rd b (CKP_DOM.DIV 0 16))).wrb
            (domB e 16) CKP_DOM.EN (s.domEn 0 16)
        else s
      let dies := if n = 16 then [0, 1, 2, 3] else [d]
      if s.sourceOk d (s.domSrc d n) then
        let held := s.safe.held && s.mode == 1
        let s := if moved && !held then s.wr b CKP_DOM.FB 0 else s
        let s := if s.domEn d n && !(held && !up) then s.each dies fun e s => s.setDomFlag (e * 40 + n) false else s
        s.wr b CKP_DOM.BUSY 1
      else s.domFail d n
  let s := if d = 0 ∧ old.domEn 0 16 ∧ !s.domEn 0 16 then s.each [1, 2, 3] fun e s => s.wr (domB e 16) CKP_DOM.EN 0 else s
  let m := s.mode
  if d = 0 ∧ m ≠ old.mode then
    let s := s.each [1, 2, 3] fun e s => s.wr (ckpB e) CKP_MODE.MODE m
    if m = 1 then s.enterNormal else s
  else s

/-- The switch or restart of a domain is complete; with CFG what its CFE held back acts (R499, R500). -/
def execDomainSwitchDone (d : Fin 4) (n : Fin 40) (s : State) : Out :=
  .next <|
    let s := s.wr (domB d n) CKP_DOM.BUSY 0
    if n.val = 9 then s.cfeResume d else s

/-- Every block of a domain with EN = 0 is idle: the domain stops (R504). -/
def execDomainDozeStop (d : Fin 4) (n : Fin 40) (s : State) : Out :=
  .next <| if s.domEn d n ∨ s.domStopped d n then s else s.setDomFlag (d * 40 + n) true

/-! ## Gating (R503) -/

/-- Bits of CKP_GATEj and CKP_BRSTj. -/
def gateMask (j : Nat) : Nat := if j = 0 then 0x7FFFFF else if j = 1 then 0xFFFF else 0x3FFFF

/-- A write to CKP_GATEj: a bit written 1 clocks its block again; a bit written 0 gates it at its next idle point. -/
def State.gateWrite (s : State) (d j : Nat) (v : Word) : State :=
  let b := ckpB d
  let s := s.rsvBits b (gateMask j) v.toNat
  let w := v.toNat &&& gateMask j
  (s.wr b (gateFld j) w).wr b (gstFld j) (s.rd b (gstFld j) ||| w)
def execCkpGateWrite (d : Fin 4) (j : Fin 3) (v : Word) (s : State) : Out := .next (s.atBlock .ckp d 0 fun s => s.gateWrite d j v)

/-- A block whose gate bit is 0 reaches its idle point: CKP_GST shows it gated. -/
def execBlockGated (d : Fin 4) (j : Fin 3) (bit : Fin 23) (s : State) : Out :=
  .next <| if bitAt (s.rd (ckpB d) (gateFld j)) bit || !bitAt (gateMask j) bit then s else s.wrBit (ckpB d) (gstFld j) bit false

/-! ## Nap (R509) -/

def State.napBit (s : State) (r : Nat) : Bool :=
  if r % 64 < 32 then s.bit (ckpB (r / 64)) CKP_NAP_LO.V (r % 64) else s.bit (ckpB (r / 64)) CKP_NAP_HI.V (r % 64 - 32)
def State.setNap (s : State) (r : Nat) (v : Bool) : State :=
  if r % 64 < 32 then s.wrBit (ckpB (r / 64)) CKP_NAP_LO.V (r % 64) v else s.wrBit (ckpB (r / 64)) CKP_NAP_HI.V (r % 64 - 32) v
def State.unpowered (s : State) (r : Nat) : Bool :=
  if r % 64 < 32 then s.bit (ckpB (r / 64)) CKP_NAPST_LO.V (r % 64) else s.bit (ckpB (r / 64)) CKP_NAPST_HI.V (r % 64 - 32)
def State.setUnpowered (s : State) (r : Nat) (v : Bool) : State :=
  if r % 64 < 32 then s.wrBit (ckpB (r / 64)) CKP_NAPST_LO.V (r % 64) v else s.wrBit (ckpB (r / 64)) CKP_NAPST_HI.V (r % 64 - 32) v

/-- A region is put in Nap: refused with REJ while LOADING or RELOCATING, or with a relocation result not acknowledged; else it is
fenced and reads EMPTY. Its record of a Sett copy stays. -/
def State.napEnter (s : State) (r : Nat) : State :=
  if s.napBit r then s
  else if s.regionState r = frLOADING ∨ s.regionState r = frRELOCATING ∨ !s.on (frB r) FR_RELOC_RES.ACKD then
    s.wr (ckpB (r / 64)) CKP_STAT.REJ 1
  else (((s.setNap r true).setRegion r { s.region r with resetting := false }).regionEmpty r)
def execNapEnter (r : Fin 256) (s : State) : Out := .next (s.atBlock .ckp (r / 64) 0 fun s => s.napEnter r)

/-- A region leaves Nap; a Sett copy of it is to be reloaded. -/
def State.napExit (s : State) (r : Nat) : State :=
  if s.napBit r then (s.setNap r false).setRegion r { s.region r with napDue := (s.region r).slot.isSome } else s
def execNapExit (r : Fin 256) (s : State) : Out := .next (s.atBlock .ckp (r / 64) 0 fun s => s.napExit r)

/-- The store blocks of a region lose their contents (R264). -/
def State.storeLost (s : State) (r : Nat) : State :=
  let a := storeAddr r
  { s with
    mem := KV.dropRange a (a + 0x200000) s.mem
    wordOk := KV.dropRange (a / 8) ((a + 0x200000) / 8) s.wordOk
    wordChk := KV.dropRange (a / 8) ((a + 0x200000) / 8) s.wordChk }

/-- Power is removed from a napped region, whose store blocks are lost, or restored to one that has left Nap. -/
def execNapPowerDone (r : Fin 256) (s : State) : Out :=
  .next <|
    if s.napBit r then (if s.unpowered r then s else (s.setUnpowered r true).storeLost r)
    else s.setUnpowered r false

/-- The frames of a region that has left Nap are reloaded from their Sett copy, behind a load that runs on the die: LOADED. -/
def execNapReload (r : Fin 256) (s : State) : Out :=
  .next <|
    let x := s.region r
    if !x.napDue ∨ s.napBit r ∨ s.unpowered r ∨ s.regionState r ≠ frEMPTY ∨ s.cfeState (r / 64) ≠ cfeIDLE then s
    else
      match x.slot with
      | none => s
      | some k => ((s.setRegion r { x with napDue := false }).framesFromSett r k).regionRelease r

/-! ## Hibernate (R510) -/

/-- Nothing of R510 stands in the way of an entry. -/
def State.hibOk (s : State) : Bool :=
  s.ready 0 rdyOWL && !s.anyPsqActive && (List.range 4).all (fun d => s.cfeState d == cfeIDLE) && s.stc.isNone &&
  (List.range 8).all fun m => (s.sweep m).cur.isNone

/-- A write to CKP_HIB: the wake pin; GO on LD0 is refused with REJ, or the entry begins: every channel safe and latched, every PMU
off, the PTB out of sync with cause HIBER. -/
def State.hibWrite (s : State) (d : Nat) (v : Word) : State :=
  let b := ckpB d
  let w := v.toNat
  let s := ((s.rsvBits b 0xF3 w).wr b CKP_HIB.WAKEPIN (bits w 4 4)).wrb b CKP_HIB.WPEN (bitAt w 1)
  if !bitAt w 0 ∨ d ≠ 0 then s
  else if !s.hibOk ∨ s.hib ≠ 0 then s.wr b CKP_STAT.REJ 1
  else ({ s.packageSafe with hib := 1 }).leaveSync causeHIBER ptbLOST
def execHibernateGo (d : Fin 4) (v : Word) (s : State) : Out := .next (s.atBlock .ckp d 0 fun s => s.hibWrite d v)

/-- PTB_CFG.HIBKEEP: the PTB keeps counting in Hibernate. -/
def State.hibKeep (s : State) : Bool := s.on (ptbB 0) PTB_CFG.HIBKEEP

/-- Memories that lose power: all but Sett and the Owls' RAMs. -/
def keptInHibernate (a : Nat) : Bool :=
  (0x4100000000 ≤ a && a < 0x4120000000) || (0x20010000000 ≤ a && a < 0x20010800000)

/-- Every volatile memory is lost: bytes, valid bits, check bytes, lines, pages (R264, R266, R511). -/
def State.memoriesLost (s : State) : State :=
  { s with
    mem := s.mem.filter fun e => keptInHibernate e.1
    wordOk := s.wordOk.filter fun e => keptInHibernate (e.1 * 8)
    wordChk := s.wordChk.filter fun e => keptInHibernate (e.1 * 8)
    lineChk := [], linePsn := [], pages := [], upsets := [], cells := [], storePorts := [], regionXs := [] }

/-- The entry ends: each link port announces down to its partner in an LMGT frame, the host sees its link down, the DIMMs are held in reset,
memories and cores lose power, and every domain but OWL, DEN
and, with HIBKEEP, TGM stands still with its PLLs off. -/
def execHibernateComplete (s : State) : Out :=
  .next <|
    if s.hib ≠ 1 then s
    else
      let keep := s.hibKeep
      let s := s.hostDown
      let s := s.each (List.range 24) fun g s =>
        let s := if s.gslOpen g true then s.gslWire g { type := 5, src := s.devnum } else s
        (s.gslDown g downCONFIG).setPortState g portDISABLED
      let s := s.each (List.range 8) fun m s => s.setPort m { selfRef := true }
      let s := s.each (List.range 16) fun n s => s.spReset n
      let s := s.each (List.range 64) fun c s => s.sacReset c
      let s := s.memoriesLost
      let s := s.each (List.range 4) fun d s =>
        let s := s.wr (ckpB d) CKP_STAT.LOCK (if keep then s.rd (ckpB d) CKP_STAT.LOCK % 2 else 0)
        let s := s.wr (dctlB d) DCTL_READY.BITS (2 ^ rdyOWL + 2 ^ rdySETT + 2 ^ rdyDEN +
          if keep && s.ready d rdyPTB then 2 ^ rdyPTB else 0)
        let s := if keep then s else s.setCounting d false
        s.each (List.range 40) fun n s =>
          if n = 0 ∨ n = 1 ∨ (n = 14 ∧ keep) then s else s.setDomFlag (d * 40 + n) true
      { s with hib := 2, flights := [], fails := [], stops := [], stopOut := [], trigs := [] }

end Sys2Proof.Machine
end

