-- ==== Sys2Proof/Machine/Reset.lean ====
section
/-! DEFINITION. Resets (16_clocks_power_startup.md R511 to R514): POR, die reset, block reset, the wake from Hibernate; POR
release and the Owl's readiness poll (R25, R47 to R50, R538). -/
namespace Sys2Proof.Machine

/-! ## What a reset keeps -/

/-- Only the register fields whose key satisfies `keep` hold their values; the others read their reset values. -/
def State.keepRegs (s : State) (keep : Nat → Bool) : State :=
  { s with
    act := s.act.filter fun e => keep e.1, stg := s.stg.filter fun e => keep e.1, held := s.held.filter fun e => keep e.1 }

/-- The entries of a map with `n` indexes a die go for die `d`. -/
def dropDie {α : Type} (n d : Nat) (m : KV α) : KV α := KV.dropRange (d * n) (d * n + n) m

/-- Die, offset in its register window, and lowest bit of a field key. -/
def keyDie (k : Nat) : Nat := (k / 32 - 0x7F00000000) / 0x40000000
def keyOff (k : Nat) : Nat := (k / 32 - 0x7F00000000) % 0x40000000
def keyLsb (k : Nat) : Nat := k % 32

/-- Den's block; the part of the STC block that stands in Sett: slot states and TRIES, epochs, spares, confirm window, free settings
space, the wear flags. -/
def keptDen (o : Nat) : Bool := 0x3500000 ≤ o && o < 0x3600000
def keptSett (o lsb : Nat) : Bool :=
  o == 0x500034 || o == 0x500038 || o == 0x500040 || o == 0x500044 || o == 0x500088 ||
  (o == 0x50003C && (lsb == 2 || lsb == 3))
/-- DEVNUM with its freeze, and the rotation code. -/
def keptDctl (o : Nat) : Bool := o == 0x20 || o == 0x24
/-- The spare map that FR_STAT shows. -/
def keptSpare (o lsb : Nat) : Bool :=
  0x410000 ≤ o && o < 0x414000 && o % 0x100 == 0 && (lsb == 25 || lsb == 24 || lsb == 16)
/-- What a die reset keeps of the registers (R512): the CKP's PLLs, mode and domain settings; D2D, PTB and IME blocks; the routers'
arbitration and link state; SITE (R122); Den; Sett; DEVNUM. -/
def keptDieReset (o lsb : Nat) : Bool :=
  keptDen o || keptSett o lsb || keptDctl o || keptSpare o lsb ||
  o == 0x100010 || o == 0x100014 || o == 0x100018 || (0x100100 ≤ o && o < 0x1001A0) ||
  (0x600010 ≤ o && o < 0x600020) || (0x700000 ≤ o && o < 0x800000) || (0xA00000 ≤ o && o < 0xB00000) ||
  (0xD00000 ≤ o && o < 0xE00000) || (0x3600000 ≤ o && o < 0x3700000)

/-- Bits of DCTL_READY that a die reset leaves: CKP, OWL, FH, SETT, DEN, PTB, D2D_E, D2D_S, NOC. -/
def readyDieReset : Nat := 0x1FF

/-! ## POR (R512, R544) -/

/-- A supply leaves its POR window, or POR_N is low: every channel safe, everything but Den and the contents of Sett reset; a
confirm window keeps running (R323). -/
def execPorAssert (s : State) : Out :=
  .next { State.reset with
    act := s.act.filter fun e => keptDen (keyOff e.1) || keptSett (keyOff e.1) (keyLsb e.1)
    mem := s.mem.filter fun e => decide (0x4100000000 ≤ e.1 ∧ e.1 < 0x4120000000)
    now := s.now, fresh := s.fresh, msix := s.msix, cmps := s.cmps, keys := s.keys, tap := s.tap
    setts := s.setts.map fun e => (e.1, { e.2 with queue := [], cur := none, offers := 0 })
    sps := s.sps.map fun e => (e.1, e.2.cleared)
    owls := s.owls.map fun e => (e.1, e.2.cleared)
    sacs := s.sacs.map fun e => (e.1, { dtx := e.2.dtx, drx := e.2.drx, dtxOvf := e.2.dtxOvf, drxOvf := e.2.drxOvf })
    safe := { s.safe with held := false }, confirmAt := s.confirmAt
    pending := s.pending }

/-- The spare map of a region at POR: the factory fuses, else the fabric repair record of the die (R255). -/
def State.spareMap (s : State) (r : Nat) : State :=
  let fuse := (Config.fuseColumn r).val
  let d := r / 64
  let rec' := match s.ownRec d 0x0301 0 with
    | some e => leAt e.data (r % 64) 1
    | none => 0
  let bad := bits rec' 5 2 != 0 || (fuse != 0 && bitAt rec' 7)
  let s := if bad then s.raise d 22 none d else s
  if fuse ≠ 0 then (s.wr (frB r) FR_STAT.SPARE_USED 1).wr (frB r) FR_STAT.BADCOL (fuse - 1)
  else if !bad && bitAt rec' 7 then
    ((s.wr (frB r) FR_STAT.SPARE_USED 1).wr (frB r) FR_STAT.BADCOL (rec' % 32)).wr (frB r) FR_STAT.MAPSRC 1
  else s

/-- What a die expects to become ready: everything, HST on LD0 alone, a memory port where a DIMM answers, IME with a port. -/
def State.readyExpected (s : State) (d : Nat) : Nat :=
  let mp := s.rd (dctlB d) DCTL_READY_EXP.BITS &&& 0x600000
  0x3F1FFFFF + mp + (if mp = 0 then 0 else 2 ^ rdyIME) + (if d = 0 then 2 ^ rdyHST else 0)

/-- A slot that a STAGE was writing when the power was lost reads as EMPTY (R315). -/
def State.slotsAfterPower (s : State) (d : Nat) : State :=
  s.each (List.range 6) fun i s => if s.slotState d (i / 2) (i % 2) = 1 then s.setSlot d (i / 2) (i % 2) 0 else s

/-- POR release: ROT and, on LD0, the straps are sampled; the Owls start in ROM, the fault hubs answer, the mode is START; every link
port draws its SESSION (R25, R255, R315, R465, R515, R538). -/
def execPorRelease (straps : BitVec 16) (s : State) : Out :=
  .next <|
    if !s.por then s
    else
      let s := { s with por := false }
      let s := s.each (List.range 4) fun d s =>
        let s := (s.wr (dctlB d) DCTL_ROT.ROT d).wrb (dctlB d) DCTL_ROT.LEAD (d == 0)
        let s := (s.setReady d rdyFH true).slotsAfterPower d
        let s := s.wr (dctlB d) DCTL_READY_EXP.BITS (s.readyExpected d)
        s.setOwl d { s.owl d with halted := s.haltOnReset d }
      let s := s.each (List.range 256) fun r s => s.spareMap r
      (s.svpStrap straps.toNat).each (List.range 24) fun g s => s.gslSession g

/-- The first write to DEVNUM after POR sets and freezes it; on LD1 to LD3 the register is a mirror (R33, R47). -/
def State.devnumWrite (s : State) (d : Nat) (v : Word) : State :=
  if d ≠ 0 then s.lockw (dctlB d)
  else
    let s := s.rsvBits (dctlB 0) 0x80003FFF v.toNat
    if s.on (dctlB 0) DCTL_DEVNUM.LOCKED then s.lockw (dctlB 0)
    else (s.wr (dctlB 0) DCTL_DEVNUM.DEVNUM (v.toNat % 16384)).wr (dctlB 0) DCTL_DEVNUM.LOCKED 1
def execDevnumWrite (d : Fin 4) (v : Word) (s : State) : Out := .next (s.atBlock .dctl d 0 fun s => s.devnumWrite d v)

/-! ## Readiness (R48 to R50) -/

/-- Every bank of the die holds its calibration record. -/
def State.allCal (s : State) (d : Nat) : Bool := (List.range 18).all fun k => s.on (tcbB (d * 18 + k)) TCB_STAT.CAL_LOADED

/-- LD0's mirrors of the dies' readiness, and their summary. -/
def State.pkgReady (s : State) : State :=
  let s := s.each (List.range 4) fun d s =>
    let up := s.reachable 0 d
    let r := s.rd (dctlB d) DCTL_READY.BITS
    let s := s.wr (dctlB 0 + 4 * d) DCTL_READY_D.BITS (if up then r else 0)
    s.wrBit (dctlB 0) DCTL_PKG_READY.DONE d (up && r == s.rd (dctlB d) DCTL_READY_EXP.BITS)
  s.wrb (dctlB 0) DCTL_PKG_READY.ALL (s.rd (dctlB 0) DCTL_PKG_READY.DONE == 15 &&
    (List.range 4).all fun d => s.rd (dctlB d) DCTL_READY_FAIL.BITS == 0)

/-- The Owl's ARP service loads the nominal VREFB of every bank of the die that has not had it since the bank service's reset (R102,
R117). -/
def State.vrefLoad (s : State) (d : Nat) : State :=
  s.each ((List.range 18).map (d * 18 + ·)) fun b s =>
    if (s.bank b).vref then s else (s.setBank b { s.bank b with vref := true }).vrefNominal b

/-- The Owl of a die polls: the functions that follow from its running firmware are ready, TCB once the ARP, the nominal VREFB and
every calibration record are there (R102, R117), IME with a trained port; LD0's poll brings the package's summaries up to date. -/
def execReadyPoll (d : Fin 4) (s : State) : Out :=
  .next <|
    if !s.owlRuns d ∨ s.on (dctlB d) DCTL_DRST.BUSY ∨ s.hib ≠ 0 then s
    else
      let s := s.each [rdySETT, rdyDEN] fun i s => s.setReady d i true
      let s := if s.ready d rdyCKP then s.each [rdyPSQ, rdyFCU, rdyRAE, rdySAC, rdyLCK, rdySVP] fun i s => s.setReady d i true else s
      let s := if d.val % 2 = 1 then s.arpPartnerReady (arpHost d) else s
      let s := if s.ready d rdyARP then s.vrefLoad d else s
      let s := if s.ready d rdyARP && s.allCal d then s.setReady d rdyTCB true else s
      let s := if s.ready d (rdyMP 0) || s.ready d (rdyMP 1) then s.setReady d rdyIME true else s
      let s := s.wr (dctlB d) DCTL_READY_EXP.BITS (s.readyExpected d)
      if d = 0 then s.pkgReady else s

/-! ## Crossings of a reset side (R514) -/

/-- The die that serves a request in flight. -/
def Flight.die (f : Flight) : Nat := f.tgt / 256

/-- The surviving side of the network discards what is on its way to or from endpoints that `hit` names: requests complete with LINK;
so do those whose response is discarded; counted on die `d`, and the crossing accepts no entry until both sides are ready. -/
def State.cdcDiscard (s : State) (d : Nat) (hit : Flight → Bool) : State :=
  let gone := s.flights.filter hit
  let s := s.each gone fun f s => s.answer f.id .link
  (s.count (ckpB d) CKP_CDC_DISC.V gone.length).setShut d true

/-- Both sides of the crossings of a die assert ready again. -/
def execCdcReadyResume (d : Fin 4) (s : State) : Out :=
  .next <| if s.on (dctlB d) DCTL_DRST.BUSY then s else s.setShut d false

/-! ## Die reset (R512, R513) -/

/-- The die's hard blocks lose what lies behind their registers; its regions are EMPTY. What R512 keeps stays: PTB, bundles, DRAM and its
page maps, IME keys and sweeps, store contents, Owl, Den, Sett. -/
def State.dieCleared (s : State) (d : Nat) : State :=
  let fr := fun r => Sys2Proof.Machine.frameAddr (frameNo r 0 0)
  { s with
    pins := dropDie 576 d s.pins, banks := dropDie 18 d s.banks, pmus := dropDie 18 d s.pmus
    fails := s.fails.filter fun f => f.ch / 576 != d
    guests := dropDie 1 d s.guests, psqs := dropDie 4 d s.psqs
    stops := s.stops.filter fun m => m.psq / 4 != d, stopOut := s.stopOut.filter fun m => m.1 / 6 != d
    trigs := s.trigs.filter fun m => m.psq / 4 != d
    storePorts := dropDie 2048 d s.storePorts
    ports := KV.put (d * 2 + 1) { selfRef := true } (KV.put (d * 2) { selfRef := true } (dropDie 2 d s.ports))
    imeOps := dropDie 1 d s.imeOps, panics := s.panics.filter fun i => i / 64 != d
    fcus := dropDie 1 d s.fcus, fcuSites := dropDie 16 d s.fcuSites, fcuTags := dropDie (16 * 2 ^ 64) d s.fcuTags
    raes := dropDie 2 d s.raes, cells := dropDie (64 * 8192) d s.cells
    regionXs := dropDie 64 d s.regionXs
    mem := KV.dropRange (fr (d * 64)) (fr (d * 64 + 64)) s.mem
    upsets := dropDie (64 * 2048) d s.upsets
    cfes := dropDie 1 d s.cfes, chks := dropDie 1 d s.chks, boots := dropDie 1 d s.boots
    relayBufs := dropDie 6 d s.relayBufs, gsls := dropDie 6 d s.gsls
    fhs := dropDie 128 d s.fhs
    routes := if d = 0 then [] else s.routes, relayOut := if d = 0 then [] else s.relayOut
    dmas := if d = 0 then [] else s.dmas }

/-- Fabric crossings and relay bits from a die in die reset read 0 with poison at its neighbours (R243, R514). -/
def State.crossLost (s : State) (d : Nat) : State :=
  s.each [((d + 3) % 4, 0), ((d + 1) % 4, 1)] fun p s =>
    let s := s.each (List.range 320) fun i s => s.setCrossBus ((p.1 * 2 + p.2) * 320 + i) 256
    s.each (List.range 4) fun i s => s.setRelayBit ((p.1 * 2 + p.2) * 4 + i) (2 ^ 27)

/-- What a running STC command has not written is dropped, and the slots that it was writing are EMPTY (R326). -/
def State.stcDrop (s : State) : State :=
  match s.stc with
  | some c => s.cmdDrop.each (List.range 4) fun e s => if s.slotState e c.kind c.slot = 1 then s.setSlot e c.kind c.slot 0 else s
  | none => s

/-- A load of another die that writes frames of die `d` ends CANCELLED (R293); so does a running STC command (R326). -/
def State.loadsCancelled (s : State) (d : Nat) : State :=
  let s := s.each (List.range 4) fun e s => if e = d || (s.cfe e).dies.contains d then s.cfeCancel e else s
  if s.stc.isSome then s.stcDrop.stcEnd stcCANCELLED 0 else s

/-- A die reset: sites with their PSQ or a channel on the die are reset, cores and links go down, the blocks take their reset values. -/
def State.dieReset (s : State) (d : Nat) (cause : Nat) : State :=
  if s.on (dctlB d) DCTL_DRST.BUSY then s
  else
    let b := dctlB d
    let s := s.each (List.range 16) fun st s =>
      if s.on (siteB st) SITE_CFG.EN && (s.rd (siteB st) SITE_CFG.PSQ / 4 == d || s.siteOnDie d st) then s.siteReset st false else s
    let s := s.each (List.range 4) fun n s => s.haltPsq (d * 4 + n) runRESET 0 (s.haltTick (d * 4 + n))
    let s := if d = 0 then s.hostDown else s
    let s := s.each (List.range 6) fun n s => (s.gslDown (d * 6 + n) downCONFIG).setPortState (d * 6 + n) portDISABLED
    let s := s.loadsCancelled d
    let s := s.each (List.range 4) fun n s => s.spReset (d * 4 + n)
    let s := s.each (List.range 16) fun c s => s.sacReset (d * 16 + c)
    let s := (s.orphanOwner (ownerOwl d)).orphanDie d
    let s := s.each (List.range 2) fun n s => s.sweepAbort (d * 2 + n)
    let arps := if d % 2 = 0 then [d, arpPartner d] else [d]
    let s := s.each arps fun e s => (s.wr (arpB e) ARP_LINK.UP 0).setReady e rdyARP false
    let s := if d % 2 = 0 then s.each (arpBanks d) fun k s => s.pmuForceOff k else s
    let s := s.cdcDiscard d fun f => f.rsp.isNone && f.die == d || iniDie f.req.ini == d
    let s := { s with flights := s.flights.filter fun f => iniDie f.req.ini != d }
    let ready := s.rd b DCTL_READY.BITS &&& readyDieReset
    let exp := s.rd b DCTL_READY_EXP.BITS
    let maps := (List.range 64).map fun n => (d * 64 + n, (s.region (d * 64 + n)).recDue)
    let s := (s.svpReset d).dieCleared d
    let s := s.keepRegs fun k => keyDie k != d || keptDieReset (keyOff k) (keyLsb k) ||
      (0x300000 ≤ keyOff k && keyOff k < 0x400000)
    let s := s.each maps fun m s => if m.2 then s.setRegion m.1 { recDue := true } else s
    let s := (s.wr b DCTL_READY.BITS ready).wr b DCTL_READY_EXP.BITS exp
    ((s.crossLost d).wr b DCTL_DRST.BUSY 1).wr b DCTL_RCAUSE.CAUSE cause |>.fhRefresh

/-- DCTL_DRST.GO by the host, or the Owl of the die. -/
def State.drstWrite (s : State) (d : Nat) (v : Word) : State :=
  let s := s.rsvBits (dctlB d) 0x80000001 v.toNat
  if bitAt v.toNat 0 then s.dieReset d 1 else s
def execDieReset (d : Fin 4) (byOwl : Bool) (s : State) : Out :=
  .next <|
    if byOwl then (if s.owlRuns d then s.dieReset d 2 else s)
    else s.atBlock .dctl d 0 fun s => s.dieReset d 1

/-- The die reset ends; the die's functions return through start-up, each in its own command. -/
def execDieResetDone (d : Fin 4) (s : State) : Out := .next (s.wr (dctlB d) DCTL_DRST.BUSY 0)

/-! ## Wake (R511) -/

/-- What ends Hibernate. -/
def State.wakes (s : State) (w : Wake) : Bool :=
  match w with
  | .perst => true
  | .pin n => s.on (ckpB 0) CKP_HIB.WPEN && s.rd (ckpB 0) CKP_HIB.WAKEPIN == n.val
  | .dbgacc => true

/-- A wake event with REFCLK present: start-up from verified Owl firmware. What was unpowered takes its reset values; Den, Sett, DEVNUM,
the straps, the mode and, under HIBKEEP, the PTB are unchanged. -/
def execHibernateWake (w : Wake) (s : State) : Out :=
  .next <|
    if s.hib ≠ 2 ∨ !s.wakes w ∨ !(List.range 4).all s.refOk then s
    else
      let keep := s.hibKeep
      let ready := fun d => s.rd (dctlB d) DCTL_READY.BITS ||| 2 ^ rdyFH
      let s' := (List.range 4).foldl (fun s d => s.svpReset d) s
      let s1 := s'.keepRegs fun k =>
        let o := keyOff k
        keptDen o || keptSett o (keyLsb k) || keptDctl o || (0x300000 ≤ o && o < 0x400000) || o == 0x100010 || o == 0x100014 ||
          (keep && 0xD00000 ≤ o && o < 0xE00000)
      let t : State := { State.reset with
        por := false, act := s1.act, stg := s1.stg, mem := s.mem, wordOk := s.wordOk, wordChk := s.wordChk
        now := s.now, fresh := s.fresh, msix := s.msix, cmps := s.cmps, keys := s.keys, tap := s.tap, setts := s.setts
        sps := s.sps, owls := s.owls, sacs := s.sacs, svps := s1.svps, boosts := s.boosts, wdogs := s.wdogs, safe := s.safe
        confirmAt := s.confirmAt
        ptb := if keep then s.ptb else [], ptbRun := if keep then s.ptbRun else [], sync := if keep then s.sync else {}
        pending := s.pending }
      let t := t.each (List.range 4) fun d s =>
        ((s.wr (dctlB d) DCTL_READY.BITS (ready d)).wr (dctlB d) DCTL_RCAUSE.CAUSE 3).wr (dctlB d) DCTL_READY_EXP.BITS
          (s.readyExpected d)
      let t := t.each (List.range 256) fun r s => s.spareMap r
      let t := t.each ((List.range 8).filter fun i => (s.bundle (bundleNo (i / 2) (i % 2) 20)).mismatch) fun i t => t.pairFailed (i / 2) (i % 2)
      t.each (List.range 24) fun g s => s.gslSession g

/-! ## Block reset (R512) -/

/-- A load on the die is discarded with its regions left EMPTY. -/
def State.loadDropped (s : State) (d : Nat) : State :=
  if s.cfeState d = cfeIDLE then s else { s.cfeFailAll d with cfes := dropDie 1 d s.cfes }

/-- One bit of CKP_BRST: the block's registers take their reset values and its work is discarded; its memories keep their contents. -/
def State.blockReset (s : State) (d j bit : Nat) : State :=
  let regs := fun (s : State) (k : Blk) (i size : Nat) => s.dropRegs (k.base d i) (k.base d i + size)
  if j = 1 then
    let s := (s.sacReset (d * 16 + bit))
    let keep := s.sac (d * 16 + bit)
    (regs s .sac bit 0x10000).setSac (d * 16 + bit)
      { dtx := keep.dtx, drx := keep.drx, dtxOvf := keep.dtxOvf, drxOvf := keep.drxOvf }
  else if j = 2 then
    let k := d * 18 + bit
    let s := s.latchPins k (2 ^ 32 - 1)
    let s := { s with pins := KV.dropRange (k * 32) (k * 32 + 32) s.pins, fails := s.fails.filter fun f => f.ch / 32 != k }
    (regs s .tcb bit 0x100000).setBank k {}
  else if bit = 0 then s.svpReset d
  else if bit = 1 then
    let s := s.loadDropped d
    let s := s.each (List.range 64) fun n s => s.regionEmpty (d * 64 + n)
    let s := { s with regionXs := dropDie 64 d s.regionXs, chks := dropDie 1 d s.chks }
    s.keepRegs fun k => keyDie k != d || keptSpare (keyOff k) (keyLsb k) || !(0x400000 ≤ keyOff k && keyOff k < 0x500000)
  else if bit = 2 then
    let s := if d = 0 then { s.stcDrop with stc := none, relayOut := [] } else s
    let s := s.setSett d { s.sett d with queue := [], cur := none }
    s.keepRegs fun k => keyDie k != d || keptSett (keyOff k) (keyLsb k) || !(0x500000 ≤ keyOff k && keyOff k < 0x600000)
  else if bit = 3 then
    (((regs s .gpt 0 0x100000).setGuest d .idle).setReady d rdyGPT false)
  else if bit = 4 ∨ bit = 5 then
    let m := d * 2 + (bit - 4)
    let s := (s.sweepAbort m).cdcDiscard d fun f => f.rsp.isNone && f.tgt == d * 256 + 0x40 + (bit - 4)
    ((regs s .mp (bit - 4) 0x80000).setPort m { selfRef := true }).setReady d (rdyMP (bit - 4)) false
  else if bit = 6 then
    let s := s.each (List.range 2) fun n s => (s.sweepAbort (d * 2 + n)).setSweep (d * 2 + n) {}
    let s := s.each (List.range 32) fun i s => s.setImeKey (d * 32 + i) 0
    (regs s .ime 0 0x100000).setImeOp d none
  else if bit = 7 then
    let s := s.each (List.range 6) fun n s => (s.gslDown (d * 6 + n) downCONFIG).setPortState (d * 6 + n) portDISABLED
    let s := s.cdcDiscard d fun f => f.rsp.isNone && f.tgt == d * 256 + 0x45
    let s := { s with gsls := dropDie 6 d s.gsls, stopOut := s.stopOut.filter (fun m => m.1 / 6 != d)
                      routes := if d = 0 then [] else s.routes }
    (regs s .gsl 0 0x100000).each (List.range 6) fun n s => s.gslSession (d * 6 + n)
  else if bit = 8 then
    if d = 0 then { (regs s.hostDown .hst 0 0x100000) with dmas := [] } else s
  else if bit < 13 then
    let p := d * 4 + (bit - 9)
    let s := s.haltPsq p runRESET 0 (s.haltTick p)
    let s := { s with stops := s.stops.filter (fun m => m.psq != p), trigs := s.trigs.filter fun m => m.psq != p }
    (regs s .psq (bit - 9) 0x40000).setPsq p {}
  else if bit = 13 then
    let s := { s with fcuSites := dropDie 16 d s.fcuSites }
    (regs s .fcu 0 0x100000).setFcu d {}
  else if bit = 14 ∨ bit = 15 then (regs s .rae (bit - 14) 0x80000).setRae (d * 2 + (bit - 14)) {}
  else if bit < 20 then
    let n := d * 4 + (bit - 16)
    let s := s.spReset n
    (s.dropRegs (spB n + 0x100) (spB n + 0x140)).dropRegs (ihB n + 0x1000) (ihB n + 0x1400)
  else if bit = 20 then regs (s.orphanDie d) .lck 0 0x100000
  else if bit = 21 then
    let s := s.each (List.range 18) fun k s => (s.pmuForceOff (d * 18 + k)).setBank (d * 18 + k) { s.bank (d * 18 + k) with vref := false }
    regs { s with pmus := dropDie 18 d s.pmus } .arp 0 0x100000
  else if d = 0 then regs s .site 0 0x100000
  else s

/-- A write to CKP_BRSTj; during a die reset it is merged into that (R513). -/
def State.brstWrite (s : State) (d j : Nat) (v : Word) : State :=
  let s := s.rsvBits (ckpB d) (gateMask j) v.toNat
  if s.on (dctlB d) DCTL_DRST.BUSY then s else
  s.each ((List.range 23).filter fun i => bitAt (v.toNat &&& gateMask j) i) fun i s => s.blockReset d j i
def execBlockReset (d : Fin 4) (j : Fin 3) (v : Word) (s : State) : Out := .next (s.atBlock .ckp d 0 fun s => s.brstWrite d j v)

end Sys2Proof.Machine
end

