-- ==== Sys2Proof/Machine/Lookup.lean ====
section
/-! DEFINITION. The register bus: which register an address names (R40, R44, R45), who answers (R48, R392), what a register reads
(R4 to R7, R33, R556), and the fields that are computed when they are read. -/
namespace Sys2Proof.Machine

open Sys2Proof (Ini)

/-! ## Where an address lies (R44) -/

/-- A place in a register block: kind, die, instance, offset. -/
structure Place where
  k : Blk
  d : Nat
  i : Nat
  off : Nat
  deriving DecidableEq, Repr

def Place.base (p : Place) : Nat := p.k.base p.d p.i
def Place.addr (p : Place) : Nat := p.base + p.off

/-- The blocks that lie in the megabytes of a die's register window, by number. -/
def blkAt (n : Nat) : Option Blk :=
  [some .dctl, some .ckp, some .fh, some .svp, some .cfe, some .stc, some .noc, some .d2d, some .gpt, some .mp, some .ime, some .gsl,
   some .hst, some .ptb, some .psq, none].getD n
    (if 0x10 ≤ n ∧ n < 0x22 then some .tcb
     else [some .fcu, some .rae, some .sac, some .spc, some .lck, some .den, some .site, some .arp].getD (n - 0x30)
      none |>.filter fun _ => decide (0x30 ≤ n))

/-- Bytes between the instances of a block that share a megabyte. -/
def Blk.pitch (k : Blk) : Nat :=
  match k with
  | .mp | .rae => 0x80000
  | .psq => 0x40000
  | .sac => 0x10000
  | _ => 0x100000

/-- The place of a register address; none where no block is assigned. -/
def placeOf (a : Nat) : Option Place :=
  let o := (a - 0x7F00000000) % 0x40000000
  let n := o / 0x100000
  let r := o % 0x100000
  match blkAt n with
  | some k => some ⟨k, dieOf a, if k = .tcb then n - 0x10 else r / k.pitch, r % k.pitch⟩
  | none => none

/-- The register rows of a block. -/
def Blk.rows (k : Blk) : List RegRow :=
  rowsCommon ++ match k with
  | .dctl => rowsDCTL | .ckp => rowsCKP | .fh => rowsFH | .svp => rowsSVP | .cfe => rowsCFE | .stc => rowsSTC | .noc => rowsNOC
  | .d2d => rowsD2D | .gpt => rowsGPT | .mp => rowsMP | .ime => rowsIME | .gsl => rowsGSL | .hst => rowsHST | .ptb => rowsPTB
  | .psq => rowsPSQ | .tcb => rowsTCB | .fcu => rowsFCU | .rae => rowsRAE | .sac => rowsSAC | .spc => rowsSPC | .lck => rowsLCK
  | .den => rowsDEN | .site => rowsSITE | .arp => rowsARP

/-- BLK_ID.TYPE of a block (R4). -/
def Blk.type (k : Blk) : Nat :=
  match k with
  | .dctl => 0x0DC7 | .ckp => 0x0C6B | .fh => 0x0F4B | .svp => 0x0590 | .cfe => 0x0CFE | .stc => 0x5E77 | .noc => 0x0A0C
  | .d2d => 0x0D2D | .gpt => 0x06E7 | .mp => 0x0D5E | .ime => 0x0E1E | .gsl => 0x0651 | .hst => 0x0457 | .ptb => 0x0B7E
  | .psq => 0x0E5C | .tcb => 0x0C42 | .fcu => 0x0FC4 | .rae => 0x0AE2 | .sac => 0x05AC | .spc => 0x05B0 | .lck => 0x0C0C
  | .den => 0x0DE0 | .site => 0x5173 | .arp => 0x0A4D

/-- A register found: its row and its two indices. -/
structure Hit where
  row : RegRow
  i : Nat
  j : Nat
  deriving DecidableEq, Repr

/-- The offset falls on a register of the row. -/
def RegRow.hit (r : RegRow) (off : Nat) : Option Hit :=
  let x := off - r.off
  let i := x / r.stride
  let j := (x - i * r.stride) / r.stride2
  if r.off ≤ off ∧ i < r.count ∧ j < r.count2 ∧ x = i * r.stride + j * r.stride2 then some ⟨r, i, j⟩ else none

def Place.hit (p : Place) : Option Hit := p.k.rows.findSome? fun r => r.hit p.off

/-- A field of a register found, with the reset value of its index. -/
def RegField.at_ (f : RegField) (d i : Nat) : Fld :=
  match f.tab with
  | some t => { f.fld with rst := t.value d i }
  | none => f.fld

/-! ## Mirrors (R33, R556) -/

/-- The place is a read-only mirror of a register that LD0 holds; of the DRAM map, of LD0's MP0. -/
def Place.mirror (p : Place) : Bool :=
  let o := p.off
  match p.k with
  | .dctl => p.d != 0 && (o ∈ [0x10, 0x18, 0x1C, 0x24, 0x3C] || (0x40 ≤ o && o < 0x50))
  | .ckp => p.d != 0 && (o == 0x10 || o == 0x140)
  | .site => p.d != 0 && 0x100 ≤ o
  | .ptb => p.d != 0 && o ∈ [0x10, 0x34, 0x38, 0x3C, 0x44, 0x48, 0x4C]
  | .mp => (p.d != 0 || p.i != 0) && 0x200 ≤ o && o < 0x290
  | .gsl => p.d != 0 && (o == 0x10 || (0x100 ≤ o && o < 0x200) || (0x10000 ≤ o && o < 0x20000))
  | _ => false

/-- A status of the device's time base that LD1 to LD3 show as LD0 holds it (notes/assumptions/35.md). -/
def Place.shown (p : Place) : Bool := p.k == .ptb && p.d != 0 && p.off ∈ [0x14, 0x2C, 0x30, 0x40]

/-! ## Who answers (R48, R392) -/

/-- The block answers an access of an initiator: under a held claim, Den is served through gating and Doze, which are then emulated; the
SITE mirrors answer while LD0 is reachable. -/
def State.answersTo (s : State) (ini : Ini) (p : Place) : Bool :=
  let t := match ini with
    | .den _ =>
      if s.on (denB p.d) DEN_CLAIM.HELD then
        let s := match p.k.gateBit p.i with
          | some (j, n) => s.wrBit (ckpB p.d) (gstFld j) n true
          | none => s
        if s.domEn p.d p.k.domain then s else s.setDomFlag (p.d * 40 + p.k.domain) false
      else s
    | _ => s
  t.answers p.k p.d p.i && !(p.k == .site && !s.reachable p.d 0)

/-! ## Values computed on reading -/

/-- Some field of the block holds a staged value (R5). -/
def State.pendAny (s : State) (p : Place) : Bool := !(KV.range (p.base * 32) ((p.base + p.k.pitch) * 32) s.stg).isEmpty

/-- The work matched against the tables of a block at its admission and not finished (R7, R12), by the number that requests had reached
then: requests in flight, what a die's ports have accepted under its encryption ranges, frames that wait on link ports or for their
acknowledgement, DMA descriptors in progress. -/
def State.admittedWork (s : State) (p : Place) : List Nat :=
  let flights := fun (use : Flight → Bool) => (s.flights.filter use).map (·.id)
  match p.k with
  | .noc => flights fun f => iniDie f.req.ini == p.d
  | .mp => flights fun f => f.tgt % 256 / 2 == 0x20
  | .ime => (List.range 2).flatMap fun n => ((s.port (p.d * 2 + n)).queue ++ (s.port (p.d * 2 + n)).waits).map (·.born)
  | .gsl => (flights fun f => f.tgt % 256 == 0x45) ++ (List.range 24).flatMap fun g =>
      ((s.gsl g).queue ++ (s.gsl g).parked ++ (s.gsl g).unacked ++ (s.gsl g).replay).map (·.born)
  | .site => flights fun f => f.req.site.isSome
  | .hst => (flights fun f => match f.req.ini with
      | .dma _ => true
      | _ => false) ++ (List.range 32).flatMap fun c => (s.dma c).active.map (·.born)
  | _ => []

/-- Versions behind the current one of the oldest work admitted under the block's tables (R7). -/
def State.drainLag (s : State) (p : Place) : Nat :=
  ((s.admittedWork p).map fun n => ((s.drain p.base).filter fun v => decide (n < v)).length).foldl max 0

/-- The cells of DEN_CMP and its companions for comparator `k` of the selected core (R389). -/
def cmpCount (core : Nat) : Nat := if core < 16 then 8 else if core < 20 then 4 else 2

/-- Seconds left in a confirm window that is open (R323); with several open, which one LEFT tells is not stated. -/
def State.confLeft (s : State) : Nat × State :=
  let left := s.confirmAt.map fun e => (600 * 4000000000 + e.2 - 1 - s.now + 3999999999) / 4000000000
  match left with
  | [] => (0, s)
  | [n] => (n, s)
  | _ => (s.free 10, s.drew)

/-- The pc of a core as Den reads it: of a halted core; else an open value. -/
def State.denPc (s : State) (core : Nat) : Nat × State :=
  if !s.coreHalted core then (s.free 64, s.drew)
  else if core < 16 then ((s.sp core).pc, s)
  else if core < 20 then ((s.owl (core - 16)).pc, s)
  else ((s.sac (core - 32)).pc, s)

/-- The word of an SP's IH_PENDj: latched lines, and the level lines of its terminal. -/
def State.ihPendWord (s : State) (n j : Nat) : Nat :=
  (List.range 32).foldl (fun w b => if s.hubLine n (j * 32 + b) then w + 2 ^ b else w) 0

/-- What a register answers from the state behind it; none: it answers its fields as they stand. -/
def State.computed (s : State) (p : Place) (h : Hit) : Option (Nat × State) :=
  let d := p.d
  let o := h.row.off
  match p.k with
  | .dctl =>
    if o = 0x18 then some (Config.unitSerial.toNat % 2 ^ 32, s) else if o = 0x1C then some (Config.unitSerial.toNat / 2 ^ 32, s) else none
  | .ckp =>
    if o = 0x100 then
      let n := h.i
      let on := s.ready d rdyCKP && !s.domStopped d n
      let b := domB d n
      some (on.toNat * 2 ^ 31 + s.rd b CKP_DOM.BUSY * 2 ^ 30 + s.rd b CKP_DOM.FB * 2 ^ 29 + s.staged b CKP_DOM.EN * 2 ^ 28 +
        s.staged b (CKP_DOM.SRC d n) * 2 ^ 8 + s.staged b (CKP_DOM.DIV d n), s)
    else none
  | .svp =>
    if o = 0x28 then
      match (List.range 8).find? fun m => s.bit (svpB d) SVP_MSTAT.PEND m with
      | some m => some (2 ^ 31 + m, s)
      | none => some (0, s)
    else if o = 0x1004 then some (s.uartRead d h.i)
    else none
  | .stc =>
    let x := s.sett d
    let ph := x.phys (s.rd (stcB d) STC_BLKSEL.V)
    if o = 0x44 then some s.confLeft
    else if o = 0x7C then some (KV.get 0 ph x.writes, s)
    else if o = 0x80 then some (settClass (KV.get 0 ph x.writes) * 2 ^ 16 + ph, s)
    else none
  | .mp => if o = 0x458 then some (s.filling (d * 2 + p.i), s) else none
  | .d2d =>
    let b := d2dB d
    let y := s.bundle (bundleNo d (s.rd b D2D_LSEL.EDGE) (s.rd b D2D_LSEL.BUNDLE))
    if o = 0x20 then some (bits y.counts (16 * s.rd b D2D_LSEL.PLANE) 16, s)
    else if o = 0x24 then some (bits y.eyes (16 * s.rd b D2D_LSEL.PLANE) 10, s)
    else none
  | .ptb => if o = 0x18 then some (s.tick d % 2 ^ 32, s) else if o = 0x1C then some (s.tick d / 2 ^ 32, s) else none
  | .sac =>
    let c := d * 16 + p.i
    let x := s.sac c
    if o = 0x18 then
      some (s.sacState c * 2 ^ 29 + s.rd (sacB c) SAC_STAT.PMREJ * 2 ^ 28 + x.lact.toNat * 2 ^ 17 + x.exc.toNat * 2 ^ 16 +
        x.sticky * 2 ^ 8 + x.flags, s)
    else if o = 0x1C then
      if s.sacState c = sacHALTED ∨ s.sacState c = sacDFAULT then some (x.pc, s) else some (s.free 13, s.drew)
    else none
  | .spc =>
    let n := d * 4 + h.i
    if o = 0x1180 then some (s.ihPendWord n h.j, s)
    else if o = 0x1190 then
      match s.hubShown n with
      | some l => some (2 ^ 31 + l, s)
      | none => some (0, s)
    else none
  | .lck =>
    if o = 0x200 then some (s.rd (lckN d h.i) LCK.ORPHAN * 2 ^ 30 + s.lockOwner d h.i, s) else none
  | .den =>
    let core := s.selCore d
    let t := s.terminal core
    let y := s.cmp (core * 8 + h.i)
    if o = 0x20 then some ((s.hib == 2).toNat * 2 + (s.coreHalted core).toNat, s)
    else if o = 0x24 then some ((s.denPc core).1 % 2 ^ 32, (s.denPc core).2)
    else if o = 0x28 then some ((s.denPc core).1 / 2 ^ 32, (s.denPc core).2)
    else if o = 0x60 then some (t.1.getD 0, s)
    else if o = 0x64 then some (t.2.2.2.toNat * 8 + t.2.1.isSome.toNat * 2 + t.1.isSome.toNat, s)
    else if h.i < cmpCount core then
      if o = 0x100 then some (y.act * 16 + y.kind * 4 + y.en.toNat, s)
      else if o = 0x104 then some (y.addr % 2 ^ 32, s)
      else if o = 0x108 then some (y.addr / 2 ^ 32, s)
      else if o = 0x10C then some (y.mask, s)
      else none
    else none
  | _ => none

/-! ## Reading (R3, R8, R45) -/

/-- The fields of a register as they read: write-only fields zero, staged fields their staged value. -/
def State.fieldsWord (s : State) (a d : Nat) (h : Hit) : Nat :=
  h.row.fields.foldl (fun w f =>
    let x := f.at_ d h.i
    let v := match f.acc with
      | .wo => 0
      | .rws => s.staged (a - x.off) x
      | _ => s.rd (a - x.off) x
    w + v * 2 ^ x.lsb) 0

/-- The four registers that every block has (R4 to R7). -/
def State.commonWord (s : State) (p : Place) : Nat :=
  let b := p.base
  if p.off = 0 then p.k.type * 2 ^ 16 + 0x100
  else if p.off = 4 then
    s.rd b BLK_STAT.RSVW * 2 ^ 31 + s.rd b BLK_STAT.COMMIT_ERR * 2 ^ 30 + (s.pendAny p).toNat * 2 ^ 29 + s.rd b BLK_STAT.LOCKW * 2 ^ 28
  else if p.off = 8 then s.rd b BLK_COMMIT.BUSY * 2 ^ 31
  else (s.rd b BLK_DRAIN.VER + 65536 - s.drainLag p) % 65536 * 2 ^ 16 + s.rd b BLK_DRAIN.VER

/-- The terminal record of SAC `i` of a die: to that SAC its DRX, then the flags of DTERM (R390); zero to others. -/
def State.tportRead (s : State) (ini : Ini) (d i j : Nat) : Nat :=
  match ini with
  | .sac c =>
    if c.val ≠ d * 16 + i then 0
    else if j = 2 then (s.sac c).drx.getD 0
    else if j = 3 then s.dterm (32 + c)
    else 0
  | _ => 0

/-- What a place whose block answers reads: a mirror as LD0 reads it while that is reachable, the odd pin of a differential bank as the
even pin (R56). -/
def State.placeRead (s : State) (ini : Ini) (p : Place) : Nat × State :=
  let at_ : Option Place :=
    if p.mirror || p.shown then (if s.reachable p.d 0 then some { p with d := 0, i := 0 } else none)
    else if p.k = .tcb ∧ 0x10000 ≤ p.off ∧ p.off < 0x80000 ∧ s.differential (p.d * 18 + p.i) then
      some { p with off := p.off - p.off / 0x1000 % 2 * 0x1000 }
    else some p
  match at_ with
  | none => (0, s)
  | some q =>
    if q.off < 0x10 then (s.commonWord q, s)
    else if q.k = .psq ∧ 0x20000 ≤ q.off then
      let a := lsAddr (q.d * 4 + q.i) + s.rd q.base PSQ_LSPAGE.PAGE * 0x20000 + (q.off - 0x20000)
      ((s.seeChip a 4).1, s.countChip a 4)
    else
      match q.hit with
      | none => (0, s)
      | some h =>
        if q.k = .lck ∧ h.row.off = 0x100 then s.lockRead q.d h.i ini
        else if q.k = .den ∧ h.row.off = 0x400 then (s.tportRead ini q.d h.i h.j, s)
        else
          match s.computed q h with
          | some r => r
          | none => (s.fieldsWord q.addr q.d h, s)

/-- A 32-bit read of a register address: zero where nothing is assigned or the block does not answer. -/
def State.readAt (s : State) (ini : Ini) : Option Place → Nat × State
  | some p => if s.answersTo ini p then s.placeRead ini p else (0, s)
  | none => (0, s)
def State.regRead (s : State) (ini : Ini) (a : Nat) : Nat × State := s.readAt ini (placeOf a)

end Sys2Proof.Machine
end

