-- ==== Sys2Proof/Machine/Bus.lean ====
section
/-! DEFINITION. Commits (R8 to R13, R556) and register writes (R3, R15, R16, R18, R45, R555): one write of 32 bits to any register of the
device, and the commands REGISTER_WRITE, BAD_SIZE_ACCESS, COMMIT_GO and COMMIT_DISCARD. -/
namespace Sys2Proof.Machine

open Sys2Proof (Ini)

/-! ## Commit -/

/-- The commit check of a PSQ: not RUNNING; its own die among those its pattern bus reaches; no edge direction of another PSQ (R155). -/
def State.psqCheck (s : State) (p : Nat) : Bool :=
  let b := psqB p
  let dies := s.staged b PSQ_PB.DIES
  let mine := pbEdges p dies (s.staged b PSQ_PB.ROUTE)
  !s.on b PSQ_STAT.RUNNING && bitAt dies (p / 4) &&
  (List.range 16).all fun q => q == p ||
    mine.all fun e => !(pbEdges q (s.rd (psqB q) PSQ_PB.DIES) (s.rd (psqB q) PSQ_PB.ROUTE)).contains e

/-- The consistency check of a block's staged values (R9). -/
def State.commitCheck (s : State) (p : Place) (owl : Bool) : Bool :=
  let d := p.d
  match p.k with
  | .ckp => s.ckpCheck d owl
  | .noc => s.nocCheck d
  | .mp => d != 0 || p.i != 0 || s.mapCheck
  | .ime => s.imeCheck d
  | .hst => s.hstCheck
  | .ptb => s.ptbCheck
  | .psq => s.psqCheck (d * 4 + p.i)
  | .tcb => s.tcbCheck (d * 18 + p.i)
  | .fcu => s.fcuCheck d
  | .sac => s.sacCheck (d * 16 + p.i)
  | .site => s.siteCheck
  | .arp => s.arpCheck d
  | .dctl | .fh | .svp | .cfe | .stc | .d2d | .gpt | .gsl | .rae | .spc | .lck | .den => true

/-- The offset lies in a table that work is matched against (R12; notes/assumptions/36.md). -/
def tableOff (k : Blk) (o : Nat) : Bool :=
  match k with
  | .noc => 0x1000 ≤ o && o < 0x1400
  | .mp => 0x200 ≤ o && o < 0x290
  | .ime => 0x200 ≤ o % 0x400 && o % 0x400 < 0x280
  | .gsl => (0x100 ≤ o && o < 0x200) || 0x10000 ≤ o
  | .site => 0x100 ≤ o
  | .hst => 0x100 ≤ o && o < 0x180
  | _ => false

/-- A staged value of the block changes one of its tables. -/
def State.tableChanged (s : State) (p : Place) : Bool :=
  (KV.range (p.base * 32) ((p.base + p.k.pitch) * 32) s.stg).any fun (e : Nat × Nat) => tableOff p.k (e.1 / 32 - p.base)

/-- A new version of the block's tables (R7): it takes a number of its own among the requests, so that work admitted before it has a
lower number. -/
def State.newVersion (s : State) (p : Place) : State :=
  let s := (s.seqUp p.base BLK_DRAIN.VER).setDrain p.base ((s.nocNext + 1) :: s.drain p.base)
  { s with nocNext := s.nocNext + 1 }

/-- What taking effect brings with it beyond the values, with the state `old` before it. -/
def State.committed (s old : State) (p : Place) : State :=
  match p.k with
  | .ckp => s.ckpApplied old p.d
  | .gsl => s.gslApplied old p.d
  | .ptb => s.ptbCommitted (old.rd (ptbB 0) PTB_CFG.ROLE) (old.rd (ptbB 0) PTB_CFG.PPORT)
  | .site => s.siteApplied
  | .fcu => s.fcuCommitted p.d
  | .ime => (s.imeRefs (p.d * 2)).imeRefs (p.d * 2 + 1)
  | _ => s

/-- The commit registers of a block whose staged fields are all mirrors (R556). -/
def Place.mirrorBlock (p : Place) : Bool := (p.k == .ptb || p.k == .site) && p.d != 0

/-- BLK_COMMIT.GO (R9, R10, R13). Bank and ARP commits stay BUSY until their own command applies them (R88, R108). -/
def State.commitGo (s : State) (p : Place) (owl : Bool) : State :=
  let b := p.base
  if p.mirrorBlock then s.lockw b
  else if s.on b BLK_COMMIT.BUSY then s.commitErr b
  else if !s.commitCheck p owl then (if p.k = .ckp then s.ckpRefused p.d else s).commitErr b
  else if s.tableChanged p && s.drainLag p == 32767 then s.commitErr b
  else
    let mine := KV.range (b * 32) ((b + p.k.pitch) * 32) s.stg
    let t := if s.tableChanged p then s.newVersion p else s
    let t := { t with held := mine.foldl (fun m (e : Nat × Nat) => KV.put e.1 e.2 m) t.held }
    if p.k = .tcb ∨ p.k = .arp then t.wr b BLK_COMMIT.BUSY 1
    else (t.applyHeld b (b + p.k.pitch)).committed s p

/-- BLK_COMMIT.DISCARD (R10, R11). -/
def State.commitDiscard (s : State) (p : Place) : State :=
  let b := p.base
  if p.mirrorBlock then s.lockw b
  else if s.on b BLK_COMMIT.BUSY then s.commitErr b
  else { s with stg := KV.dropRange (b * 32) ((b + p.k.pitch) * 32) s.stg }

/-- A write to BLK_COMMIT: GO with DISCARD is a reserved encoding (R555). -/
def State.commitWrite (s : State) (ini : Ini) (p : Place) (v : Nat) : State :=
  if v % 4 = 3 then s.rsvw p.base
  else
    let s := s.rsvBits p.base 0x80000003 v
    let owl := match ini with
      | .owl _ => true
      | _ => false
    if bitAt v 0 then s.commitGo p owl else if bitAt v 1 then s.commitDiscard p else s

/-! ## Fields -/

/-- The bits that a register defines (R15). -/
def Hit.mask (h : Hit) : Nat := h.row.fields.foldl (fun m f => m ||| (2 ^ f.fld.width - 1) * 2 ^ f.fld.lsb) 0

/-- The word carries a reserved encoding in a field it writes (R16). -/
def Hit.reservedCode (h : Hit) (v : Nat) : Bool :=
  h.row.fields.any fun f => f.acc != .ro && f.resv.any fun r => decide (r.1 ≤ bits v f.fld.lsb f.fld.width ∧ bits v f.fld.lsb f.fld.width ≤ r.2)

/-- Reserved encodings that depend on several fields or on what a field counts: TCB_VWIN with VLO ≥ VHI (R53), I_CMD with no byte either
way (R541), DEN_SEL with an index beyond its kind's count (R387). -/
def Hit.reservedPair (h : Hit) (k : Blk) (v : Nat) : Bool :=
  match k, h.row.off with
  | .tcb, 0x34 => bits v 16 11 ≤ bits v 0 11
  | .svp, 0x1404 => bits v 8 6 == 0 && bits v 0 6 == 0
  | .den, 0x18 => [4, 1, 16, 4].getD (bits v 8 2) 0 ≤ v % 16
  | _, _ => false

/-- One field takes what is written, by its access code (00_scope.md, Notation); while a commit is BUSY, an RWS field's value waits for the
next one (R10). -/
def State.writeField (s : State) (base : Nat) (f : Fld) (acc : Acc) (busy : Bool) (x : Nat) : State :=
  match acc with
  | .rw | .rwl => s.wr base f x
  | .ro | .wo => s
  | .w1c => s.wr base f (s.rd base f - (s.rd base f &&& x))
  | .w1s => s.wr base f (s.rd base f ||| x)
  | .rws => if busy then { s with stg := KV.put (f.key base) (x % 2 ^ f.width) s.stg } else s.stage base f x

/-- Every field of a register takes its part of the word. -/
def State.writeFields (s : State) (p : Place) (h : Hit) (v : Nat) : State :=
  let busy := s.on p.base BLK_COMMIT.BUSY
  s.each h.row.fields fun f s =>
    let x := f.at_ p.d h.i
    s.writeField (p.addr - x.off) x f.acc busy (bits v x.lsb x.width)

/-! ## Registers whose writes act (R555): the state after the write, or none for a register that only holds fields -/

/-- The memory groups whose ECC registers lie in a block (R261). -/
def egroups (k : Blk) (d i : Nat) : List Sys2Proof.EGroup :=
  match k with
  | .cfe => (List.range 64).map fun n => .store (Fin.ofNat 256 (d * 64 + n))
  | .mp => [.mp (Fin.ofNat 8 (d * 2 + i))]
  | .spc => (List.range 4).map fun n => .tcm (Fin.ofNat 16 (d * 4 + n))
  | .sac => [.sacPm (Fin.ofNat 64 (d * 16 + i)), .sacDm (Fin.ofNat 64 (d * 16 + i))]
  | .psq => [.ls (Fin.ofNat 16 (d * 4 + i))]
  | .dctl => [.owl (Fin.ofNat 4 d)]
  | _ => []

/-- EG_CTL with INV, and EG_CNT_CLR. -/
def State.egWrite (s : State) (p : Place) (h : Hit) (v : Word) : Option State :=
  match (egroups p.k p.d p.i).find? fun g => p.addr == egBase g || p.addr == egBase g + 0x20 with
  | some g =>
    if p.addr = egBase g then
      let s := s.writeFields p h v.toNat
      some (if bitAt v.toNat 8 then s.egInv g else s)
    else some (s.egCntClr g v)
  | none => none

def State.dctlWrite (s : State) (p : Place) (h : Hit) (v : Word) : Option State :=
  match h.row.off with
  | 0x24 => some (s.devnumWrite p.d v)
  | 0x50 => some (s.drstWrite p.d v)
  | 0x600 => some (s.wdogWrite p.d)
  | _ => none

/-- A write to CKP_NAP_LO or _HI: each bit that changes puts its region in Nap or takes it out (R509). -/
def State.napWrite (s : State) (d hi v : Nat) : State :=
  s.each (List.range 32) fun b s =>
    let r := d * 64 + hi * 32 + b
    if bitAt v b then s.napEnter r else s.napExit r

def State.ckpWrite (s : State) (p : Place) (h : Hit) (v : Word) : Option State :=
  match h.row.off with
  | 0x1C => some (s.hibWrite p.d v)
  | 0x20 => some (s.napWrite p.d 0 v.toNat)
  | 0x24 => some (s.napWrite p.d 1 v.toNat)
  | 0x30 => some (s.gateWrite p.d 0 v)
  | 0x34 => some (s.gateWrite p.d 1 v)
  | 0x38 => some (s.gateWrite p.d 2 v)
  | 0x50 => some (s.brstWrite p.d 0 v)
  | 0x54 => some (s.brstWrite p.d 1 v)
  | 0x58 => some (s.brstWrite p.d 2 v)
  | _ => none

def State.fhWrite (s : State) (p : Place) (h : Hit) (v : Word) : Option State :=
  match h.row.off with
  | 0x14 => some (s.fhRelease p.d v)
  | 0x24 => some (s.fhLogRd p.d v)
  | 0x2C => some (s.fhCntClr p.d v)
  | 0x40 => some (s.fhInject p.d v)
  | 0x50 => some (s.fhPendWrite p.d h.i v)
  | 0x100 => some (if reservedSource h.i then s.rsvw p.base else (s.writeFields p h v.toNat).fhRefresh)
  | _ => none

/-- The SVP block; any write but the lock sequence's next one has returned that sequence to its start. -/
def State.svpWrite (s : State) (p : Place) (h : Hit) (v : Word) : Option State :=
  let d := p.d
  let w := v.toNat
  match h.row.off with
  | 0x14 => some (s.svpOut d (w % 65536))
  | 0x1C => some (s.svpLock d (w % 65536))
  | 0x40 => some (if s.bit (svpB d) SVP_LOCKED.PINS h.i then s.lockw p.base else s.writeFields p h w)
  | 0x100 => some ((s.writeFields p h w).svpMode d h.i)
  | 0x104 | 0x108 => some ((s.writeFields p h w).svpEval d (s.svpIn d))
  | 0x1004 => some (s.uartWrite d h.i (BitVec.ofNat 8 w))
  | 0x1404 =>
    let s := if bitAt w 30 then s.i2cAck d h.i else s
    some (if bitAt w 31 then s.i2cGo d h.i (bits w 16 7) (bits w 8 6) (bits w 0 6) else s)
  | 0x1804 =>
    let s := if bitAt w 30 then s.spiAck d else s
    some (if bitAt w 31 then s.spiGo d (bits w 16 2) (bits w 0 7) else s)
  | _ => none

def State.cfeWrite (s : State) (p : Place) (h : Hit) (v : Word) : Option State :=
  let d := p.d
  let w := v.toNat
  match h.row.off with
  | 0x14 => if w % 8 = srcFLASH ∧ d ≠ 0 then some (s.rsvw p.base) else none
  | 0x24 =>
    let s := if bitAt w 2 then s.cfeCancel d else s
    let s := if bitAt w 3 then s.cfeAck d else s
    let s := if bitAt w 1 then s.cfeCont d else s
    some (if bitAt w 0 then s.cfeStart d [] else s)
  | 0x74 => some (s.cfeChkClr d v)
  | 0x10004 =>
    let r := d * 64 + h.i
    let s := s.frFence r (bitAt w 0)
    let s := if bitAt w 3 then s.frRack r else s
    let s := if bitAt w 2 then s.frReloc r (bits w 8 5) else s
    some (if bitAt w 1 then s.frReset r else s)
  | _ => none

def State.stcWrite (s : State) (p : Place) (h : Hit) (v : Word) : Option State :=
  let d := p.d
  let op := bits v.toNat 8 4
  let kind := v.toNat % 4
  match h.row.off with
  | 0x14 =>
    if op = 0 ∨ 8 ≤ op ∨ kind = 3 then some (s.rsvw p.base)
    else
      let s := if bitAt v.toNat 31 then s.stcAck d else s
      some (s.stcCommand d kind fun s =>
        match op with
        | 1 => s.stcStage kind false
        | 2 => s.stcStage kind true
        | 3 => s.stcActivate kind
        | 4 => s.stcConfirm kind
        | 5 => s.stcRecwrite
        | 6 => s.stcKeyinst
        | _ => s.stcInval kind)
  | _ => none

def State.nocWrite (s : State) (p : Place) (h : Hit) (v : Word) : Option State :=
  match h.row.off with
  | 0x30 => some (s.nocCntClr p.d v)
  | 0x34 => some (s.nsClr p.d v)
  | 0x40 =>
    let s := s.writeFields p h v.toNat
    some (if bitAt v.toNat 8 then s.ntClear p.d else s)
  | _ => none

def State.d2dWrite (s : State) (p : Place) (h : Hit) (v : Word) : Option State :=
  let w := v.toNat
  match h.row.off with
  | 0x14 =>
    let s := if bitAt w 31 then s.d2dAck p.d else s
    some (if bitAt w 16 then s.d2dSwap p.d (bits w 8 1) (bits w 0 5) (bits w 12 4) else s)
  | _ => none

def State.mpWrite (s : State) (p : Place) (h : Hit) (v : Word) : Option State :=
  let m := p.d * 2 + p.i
  match h.row.off with
  | 0x14 =>
    let s := if bitAt v.toNat 1 then s.mpAck m else s
    some (if bitAt v.toNat 0 then s.mpRetrain m else s)
  | _ => none

def State.imeWrite (s : State) (p : Place) (h : Hit) (v : Word) : Option State :=
  let d := p.d
  let w := v.toNat
  match h.row.off with
  | 0x10 =>
    if w % 8 = 0 ∨ 4 ≤ w % 8 then some (s.rsvw p.base)
    else
      let s := if bitAt w 31 then s.imeAck d else s
      some (s.imeCommand d (w % 8) (bits w 16 1) (bits w 8 4))
  | 0x300 =>
    let m := d * 2 + h.i
    let s := if bitAt w 30 then s.sweepAck m else s
    let s := if bitAt w 31 then s.sweepGo m (bits w 4 3) (w % 16) else s
    some (if bitAt w 29 then s.sweepResume m (bits w 4 3) (w % 16) else s)
  | _ => none

def State.gslWrite (s : State) (p : Place) (h : Hit) (v : Word) : Option State :=
  let g := p.d * 6 + h.i
  let w := v.toNat
  match h.row.off with
  | 0x1040 =>
    if w % 4 = 0 ∨ w % 4 = 3 then some (s.rsvw p.base)
    else
      let s := if bitAt w 31 then s.gslKeyAck g else s
      some (if w % 4 = 1 then s.gslKeyLoad g (bits w 8 2) else s.gslKeyKill g (bits w 8 2))
  | 0x1084 => some (s.gslCntClr g (w % 2048))
  | _ => none

def State.hstWrite (s : State) (p : Place) (h : Hit) (v : Word) : Option State :=
  let w := v.toNat
  match h.row.off with
  | 0x100C => some (s.dmaProd h.i w)
  | 0x1014 =>
    let s := if bitAt w 2 then s.dmaCancel h.i else s
    let s := if bitAt w 1 then s.dmaResume h.i else s
    some ((s.writeFields p h w).dmaKick h.i)
  | _ => none

def State.ptbWrite (s : State) (p : Place) (h : Hit) (v : Word) : Option State :=
  match h.row.off with
  | 0x20 =>
    let s := if bitAt v.toNat 1 then s.ptbReload p.d else s
    some (if bitAt v.toNat 0 then s.ptbSnap p.d else s)
  | 0x54 => some (s.ptbCntClr p.d v)
  | _ => none

def State.psqWrite (s : State) (p : Place) (h : Hit) (v : Word) : Option State :=
  let n := p.d * 4 + p.i
  let w := v.toNat
  match h.row.off with
  | 0x14 =>
    let s := if bitAt w 3 then s.psqGstop n else s
    let s := if bitAt w 2 then s.psqHaltCmd n else s
    let s := if bitAt w 1 then s.psqAck n else s
    some (if bitAt w 0 then s.psqArm n else s)
  | 0xB4 => some (s.psqCntClr n v)
  | 0x100 => some (s.sdWrite n h.i 0 v)
  | 0x104 => some (s.sdWrite n h.i 1 v)
  | 0x108 => some (s.sdWrite n h.i 2 v)
  | 0x10C => some (s.sdCtl n h.i v)
  | _ => none

/-- A channel bank: the odd pin of a differential pair ignores writes (R56), the capture buffer takes none (R89). -/
def State.tcbWrite (s : State) (p : Place) (h : Hit) (v : Word) : Option State :=
  let b := p.d * 18 + p.i
  let ch := b * 32 + h.i
  let o := h.row.off
  if 0x10000 ≤ o ∧ o < 0x80000 ∧ s.differential b ∧ h.i % 2 = 1 then some s
  else
    match o with
    | 0x18 => some (s.tcbEnWrite b v)
    | 0x1C => some (s.tcbSafeWrite b v)
    | 0x40 => some (s.tcbCntClr b v)
    | 0x60 =>
      let s := if bitAt v.toNat 1 then s.etcAck b else s
      some (if bitAt v.toNat 0 then s.etcGo b else s)
    | 0x10000 => some (s.roleWrite ch v)
    | 0x10018 => some (s.capptrWrite ch v)
    | 0x80000 => some (s.reservedWrite p.d)
    | _ => none

def State.fcuWrite (s : State) (p : Place) (h : Hit) (v : Word) : Option State :=
  let d := p.d
  let w := v.toNat
  match h.row.off with
  | 0x18 => some (s.fcuCclr d v)
  | 0x11C => some (s.fsRdptr d h.i v)
  | 0x148 =>
    let s := if bitAt w 1 then s.fsFack d h.i else s
    let s := if bitAt w 4 then s.fsFreset d h.i else s
    let s := if bitAt w 3 then s.fsClear d h.i else s
    let s := if bitAt w 2 then s.fsBmclr d h.i else s
    some (if bitAt w 0 then s.fsFlush d h.i else s)
  | _ => none

def State.raeWrite (s : State) (p : Place) (h : Hit) (v : Word) : Option State :=
  let r := p.d * 2 + p.i
  let w := v.toNat
  match h.row.off with
  | 0x100 | 0x104 => if s.slotClass r h.i = classPENDING then some s else none
  | 0x108 =>
    let s := if bitAt w 2 then s.rjCancel r h.i else s
    let s := if bitAt w 1 then s.rjAck r h.i else s
    some (if bitAt w 0 then s.rjGo r h.i (bits w 16 4) else s)
  | _ => none

def State.sacWrite (s : State) (p : Place) (h : Hit) (v : Word) : Option State :=
  let c := p.d * 16 + p.i
  let w := v.toNat
  match h.row.off with
  | 0x14 =>
    let s := if bitAt w 2 then s.sacHaltreq c else s
    let s := if bitAt w 8 then s.sacDbell c else s
    let s := if bitAt w 1 then s.sacStart c else s
    some (if s.on (sacB c) SAC_CTL.RST == bitAt w 0 then s else s.sacRst c (bitAt w 0))
  | 0x18 =>
    let s := if bitAt w 28 then s.wr (sacB c) SAC_STAT.PMREJ 0 else s
    let x := s.sac c
    some (s.setSac c { x with sticky := x.sticky - (x.sticky &&& bits w 8 6) })
  | 0x38 => some (s.sacCntClr c (w % 4))
  | 0x44 =>
    let s := if bitAt w 1 then s.sacXCancel c h.i else s
    some (if bitAt w 0 then s.sacXAck c h.i else s)
  | _ => none

/-- SP_MSIP is the MSIP bit of the SP's mip (R373). -/
def State.msipWrite (s : State) (n : Nat) (v : Bool) : State :=
  let x := s.sp n
  (s.wrb (spB n) SP_MSIP.V v).setSp n { x with csrs := KV.set 0 csrMIP (putBit (KV.get 0 csrMIP x.csrs) 3 v) x.csrs }

def State.spcWrite (s : State) (p : Place) (h : Hit) (v : Word) : Option State :=
  let n := p.d * 4 + h.i
  let w := v.toNat
  match h.row.off with
  | 0x100 => some (if s.on (spB n) SP_CTL.RST == bitAt w 0 then s else s.spRst n (bitAt w 0))
  | 0x114 => some (s.msipWrite n (bitAt w 0))
  | 0x118 | 0x11C => some ((s.writeFields p h w).mtipRefresh n)
  | 0x120 => some (s.spSwi n (w % 16))
  | 0x1180 => if h.j = 2 then some (s.writeFields p h (w &&& (2 ^ 32 - 1 - 0x6010000))) else none
  | _ => none

def State.lckWrite (s : State) (ini : Ini) (p : Place) (h : Hit) : Option State :=
  match h.row.off with
  | 0x100 => some (s.lockWrite p.d h.i ini)
  | _ => none

def State.siteWrite (s : State) (h : Hit) (v : Word) : Option State :=
  match h.row.off with
  | 0x104 =>
    let s := if bitAt v.toNat 0 then s.siteReset h.i false else s
    some (if bitAt v.toNat 1 then s.siteRelease h.i else s)
  | _ => none

def State.arpWrite (s : State) (p : Place) (h : Hit) (v : Word) : Option State :=
  let b := p.d * 18 + h.i
  match h.row.off with
  | 0x1000 => some (s.vttWrite b v)
  | 0x1004 => some (s.vrefbWrite b v)
  | 0x1010 =>
    let s := if bitAt v.toNat 1 then s.pmuAck b else s
    some (if bitAt v.toNat 0 then s.pmuGo b else s)
  | _ => none

/-! ## Den (R385, R387 to R390) -/

/-- A comparator register of the selected core. -/
def State.cmpWrite (s : State) (core k o w : Nat) : State :=
  if cmpCount core ≤ k then s
  else
    let y := s.cmp (core * 8 + k)
    s.setCmp (core * 8 + k)
      (if o = 0x100 then { y with en := bitAt w 0, kind := bits w 2 2, act := bits w 4 2 }
       else if o = 0x104 then { y with addr := y.addr / 2 ^ 32 * 2 ^ 32 + w }
       else if o = 0x108 then { y with addr := y.addr % 2 ^ 32 + w * 2 ^ 32 }
       else { y with mask := w })

/-- A KIND or ACT that the selected core's comparators do not have: for a SAC and a PSQ as R389 tells, ACT 2 and 3 for every core
(R16, R17). -/
def cmpReserved (core w : Nat) : Bool :=
  decide (2 ≤ bits w 4 2) || (decide (20 ≤ core ∧ core < 96) && (bits w 2 2 != 0 || bits w 4 2 != 0)) ||
  (decide (96 ≤ core) && decide (2 ≤ bits w 2 2))

/-- The halted core's pc takes a half (the SAC's has 13 bits); a core that runs ignores the write. -/
def State.denPcWrite (s : State) (core : Nat) (hi : Bool) (w : Nat) : State :=
  if !s.coreHalted core then s
  else
    let new := fun (old : Nat) => if hi then old % 2 ^ 32 + w * 2 ^ 32 else old / 2 ^ 32 * 2 ^ 32 + w
    if core < 16 then s.setSp core { s.sp core with pc := new (s.sp core).pc }
    else if core < 20 then s.setOwl (core - 16) { s.owl (core - 16) with pc := new (s.owl (core - 16)).pc % 2 ^ 32 }
    else s.setSac (core - 32) { s.sac (core - 32) with pc := new (s.sac (core - 32)).pc % 8192 }

/-- A write to the Den block by a path that holds the claim; DFEED and BMCTL.GO are commands of their own (Machine/Link.lean). -/
def State.denFields (s : State) (p : Place) (h : Hit) (v : Word) : State :=
  let d := p.d
  let w := v.toNat
  let core := s.selCore d
  match h.row.off with
  | 0x1C =>
    let s := s.writeFields p h w
    let s := if bitAt w 0 then s.denCtl d fun c s => s.askHalt c else s
    let s := if bitAt w 2 then s.denCtl d fun c s => s.coreResume c true else s
    if bitAt w 1 then s.denCtl d fun c s => s.coreResume c false else s
  | 0x24 => s.denPcWrite core false w
  | 0x28 => s.denPcWrite core true w
  | 0x64 =>
    let s := if bitAt w 2 then s.dtxAck core else s
    if bitAt w 3 then
      let t := s.terminal core
      s.setTerminal core (t.1, t.2.1, t.2.2.1, false)
    else s
  | 0x68 => s.drxSend core w
  | 0x100 => if cmpReserved core w then s.rsvw p.base else s.cmpWrite core h.i h.row.off w
  | 0x104 | 0x108 | 0x10C => s.cmpWrite core h.i h.row.off w
  | _ => s.writeFields p h w

/-- A SAC's own terminal: DTX from the first word of its record (R390); a write of the third releases DRX, as a write of the CSR does
(DEDUCED: notes/assumptions/112.md). -/
def State.tportWrite (s : State) (c j w : Nat) : State :=
  if j = 0 then s.dtxSend (32 + c) w else if j = 2 then s.drxRelease (32 + c) else s

/-- A write to the Den block: the claim first; then by the path that holds it; others set NOCLAIM; a SAC reaches its terminal. -/
def State.denBus (s : State) (ini : Ini) (tap : Bool) (p : Place) (h : Hit) (v : Word) : State :=
  let d := p.d
  let path := tap || ini == .pf
  match h.row.off with
  | 0x400 =>
    match ini with
    | .sac c => if c.val / 16 = d ∧ c.val % 16 = h.i then s.tportWrite c h.j v.toNat else s
    | _ => s.writeFields p h v.toNat
  | 0x10 =>
    if !path then s
    else
      let s := if bitAt v.toNat 1 then s.denDrop d tap else s
      if bitAt v.toNat 0 then s.denTake d tap else s
  | _ => if path && s.denHolds d tap then s.denFields p h v else s.wr (denB d) DEN_STAT.NOCLAIM 1

/-! ## One write (R3, R15, R16, R18, R45) -/

/-- The write of a register whose block is not Den. -/
def State.special (s : State) (ini : Ini) (p : Place) (h : Hit) (v : Word) : Option State :=
  match s.egWrite p h v with
  | some t => some t
  | none =>
    match p.k with
    | .dctl => s.dctlWrite p h v
    | .ckp => s.ckpWrite p h v
    | .fh => s.fhWrite p h v
    | .svp => s.svpWrite p h v
    | .cfe => s.cfeWrite p h v
    | .stc => s.stcWrite p h v
    | .noc => s.nocWrite p h v
    | .d2d => s.d2dWrite p h v
    | .mp => s.mpWrite p h v
    | .ime => s.imeWrite p h v
    | .gsl => s.gslWrite p h v
    | .hst => s.hstWrite p h v
    | .ptb => s.ptbWrite p h v
    | .psq => s.psqWrite p h v
    | .tcb => s.tcbWrite p h v
    | .fcu => s.fcuWrite p h v
    | .rae => s.raeWrite p h v
    | .sac => s.sacWrite p h v
    | .spc => s.spcWrite p h v
    | .lck => s.lckWrite ini p h
    | .site => s.siteWrite h v
    | .arp => s.arpWrite p h v
    | .gpt | .den => none

/-- A write at a place whose block answers: a mirror takes none (R33); a reserved encoding discards it (R16); reserved bits are ignored
(R15), and RSVW stays set though the same write clears it (R2); then the register acts, or its fields take the word. `tap`: on the
TAP's path to Den. -/
def State.placeWrite (s : State) (ini : Ini) (tap : Bool) (p : Place) (v : Word) : State :=
  let s := if p.k = .svp ∧ p.off ≠ 0x1C then s.svpOther p.d else s
  if p.off = 8 then s.commitWrite ini p v.toNat
  else if p.mirror then s.lockw p.base
  else if p.k = .psq ∧ 0x20000 ≤ p.off then s.lsWrite (p.d * 4 + p.i) (p.off - 0x20000) v
  else
    match p.hit with
    | none => s.reservedWrite p.d
    | some h =>
      if h.reservedCode v.toNat || h.reservedPair p.k v.toNat then s.rsvw p.base
      else
        let s := s.rsvBits p.base h.mask v.toNat
        if p.k = .den ∧ 0x10 ≤ p.off then s.denBus ini tap p h v
        else
          match s.special ini p h v with
          | some t => t
          | none => (s.writeFields p h v.toNat).rsvBits p.base h.mask v.toNat

/-- A 32-bit write to a register address: it raises the reserved-write source where nothing is assigned (R45), and is dropped silently
where the block does not answer (R48, R503). -/
def State.regWrite (s : State) (ini : Ini) (a : Nat) (v : Word) : State :=
  if s.por then s
  else
    match placeOf a with
    | some p => if s.answersTo ini p then s.placeWrite ini false p v else s
    | none => s.reservedWrite (dieOf a)

/-! ## The commands -/

/-- An access of an initiator to register space, admitted as R399, R409 and R49 say: it reaches its block, or is refused. -/
def State.atRegister (s : State) (ini : Ini) (write : Bool) (a : BitVec 40) (f : State → State) : State :=
  let q : Sys2Proof.MemReq := ⟨ini, true, none, if write then .wr else .rd, a, 4, 0, 0, none⟩
  if (match s.targetOf .rd a.toNat with
      | .regs _ => true
      | _ => false) then
    match s.admission q with
    | .no r fault => s.refused q r fault
    | .go _ _ _ => f s
  else s

/-- A register access of a wrong size or alignment (R3). -/
def execBadSizeAccess (ini : Ini) (write : Bool) (a : BitVec 40) (s : State) : Out :=
  .next (if s.por then s else s.atRegister ini write a fun s => s.reservedWrite (dieOf a.toNat))

/-- A write of GO or DISCARD to the BLK_COMMIT at an address. -/
def State.atCommit (s : State) (ini : Ini) (a : BitVec 40) (v : Nat) : State :=
  s.atRegister ini true a fun s =>
    match placeOf a.toNat with
    | some p => if p.off = 8 ∧ !s.por ∧ s.answersTo ini p then s.commitWrite ini p v else s
    | none => s

def execCommitGo (ini : Ini) (a : BitVec 40) (s : State) : Out := .next (s.atCommit ini a 1)
def execCommitDiscard (ini : Ini) (a : BitVec 40) (s : State) : Out := .next (s.atCommit ini a 2)

end Sys2Proof.Machine
end

