-- ==== Sys2Proof/Machine/Feed.lean ====
section
/-! DEFINITION. What sequencers feed and are fed by (04_sites_and_pattern_sequencers.md): delivery of TRIG events, the prefetch
buffer of a stream, the scan of a stream. -/
namespace Sys2Proof.Machine

/-! ## TRIG (R141) -/

/-- The event due first. -/
def firstTrig : List TrigMsg → Option TrigMsg
  | [] => none
  | m :: ms =>
    match firstTrig ms with
    | some n => if n.due < m.due then some n else some m
    | none => some m

/-- The TRIG event due first reaches its destinations: the SACs assigned to the PSQ's site (R363), the SP named in PSQ_TRIG on the
hub line of the PSQ (R371), the service-pin matchers of the PSQ's die (R533, R534) and the FCU of every die that holds a channel
of the site (R195). -/
def execTrigDelivery (s : State) : Out :=
  .next <|
    match firstTrig s.trigs with
    | none => s
    | some m =>
      let s := { s with trigs := s.trigs.erase m }
      let st := s.siteOfPsq m.psq
      let s := if bitAt m.dest 0 then
          s.each (List.range 64) fun c s =>
            match s.sacSite c, st with
            | some x, some y => if x.val = y ∧ s.answers .sac (c / 16) (c % 16) then s.sacEvent c m.evt else s
            | _, _ => s
        else s
      let s := if bitAt m.dest 1 then s.hubEvent (s.rd (psqB m.psq) PSQ_TRIG.SP) m.psq m.evt else s
      let s := if bitAt m.dest 2 then s.svpTrig m.psq m.evt m.due else s
      if bitAt m.dest 3 then
        match st with
        | none => s
        | some x =>
          s.each (List.range 4) fun d s =>
            if s.siteOnDie d x then
              s.setFcu d { s.fcu d with markers := (s.fcu d).markers ++ [(x, m.evt, m.c, m.due)] }
            else s
      else s

/-! ## Prefetch (R145) -/

/-- The first stream word still needed: the body of the outermost open loop of the stream, else the word due, else the return point of
a CALL out of the stream; 0 for words primed before the stream is entered. -/
def PsqX.floor (x : PsqX) : Nat :=
  match (x.loops.filter (·.hold)).getLast? with
  | some l => l.body
  | none =>
    if x.stream then x.pc
    else match x.calls.find? (·.stream) with
      | some c => c.addr
      | none => 0

/-- Who reads a stream: the PSQ, in the pattern class, for its site. -/
def State.psqWho (s : State) (p : Nat) : Who := ⟨.psq (Fin.ofNat 16 p), false, (s.siteOfPsq p).map (Fin.ofNat 16)⟩

/-- What a read of up to four 16-byte words answers, word by word: the word, or that it is bad (poison or an error). -/
def wordsOf (r : Rsp) (n : Nat) : List (Option Nat) :=
  (List.range n).map fun i =>
    match r with
    | .data v p => if bitAt p (2 * i) || bitAt p (2 * i + 1) then none else some (v / 2 ^ (128 * i) % 2 ^ 128)
    | _ => none

/-- A read of `n` words of a descriptor from offset `off`, within one line. -/
def State.streamRead (s : State) (p sd off n : Nat) : List (Option Nat) × State :=
  let w := s.psqWho p
  let (r, s) := s.request ⟨w.ini, w.service, w.site, .rd, BitVec.ofNat 40 (s.sdBase p sd + off * 16), n * 16, 0, 0, none⟩
  (wordsOf r n, s)

/-- The next line of the stream being filled arrives: words that are issued and in no open loop make room first; its words enter
the buffer of 4,096, a word read with poison or an error as a bad one (R134). -/
def execStreamLineFill (p : Fin 16) (s : State) : Out :=
  .next <|
    let x := s.psq p
    if !x.bufOn || !s.psqActive p then s
    else
      let fl := x.floor
      let buf := x.buf.filter fun e => fl ≤ e.1
      let bad := x.bufBad.filter fun o => fl ≤ o
      let n := min (min (4 - x.bufNext % 4) (s.sdLen p x.bufSd - x.bufNext)) (4096 - buf.length - bad.length)
      if n = 0 then s.setPsq p { x with buf := buf, bufBad := bad }
      else
        let (ws, s) := s.streamRead p x.bufSd x.bufNext n
        let at_ := (List.range n).zip ws
        s.setPsq p { x with
          buf := buf ++ at_.filterMap fun e => e.2.map fun w => (x.bufNext + e.1, w)
          bufBad := bad ++ at_.filterMap fun e => if e.2.isNone then some (x.bufNext + e.1) else none
          bufNext := x.bufNext + n }

/-! ## Scan (R144) -/

/-- A scan under way: first word of the segment, open loops and paced loops (innermost first; paced, offset), first error. -/
structure ScanX where
  seg : Nat := 0
  opened : List (Bool × Nat) := []
  err : Option (Nat × Nat) := none
  deriving DecidableEq, Repr

/-- The body of a loop, with its ENDLOOP, exceeds 4,096 words at offset `off`. -/
def bodyOver (opened : List (Bool × Nat)) (off : Nat) : Bool := opened.any fun l => l.2 + 1 + 4096 ≤ off

/-- One word of the stream is checked: read error, segment, body, structure. -/
def ScanX.word (x : ScanX) (elastic : Bool) (off : Nat) (w : Option Nat) : ScanX :=
  match x.err, w with
  | some _, _ => x
  | none, none => { x with err := some (6, off) }
  | none, some v =>
    let op := (pword v).op
    if elastic ∧ x.seg + 4096 ≤ off then { x with err := some (3, off) }
    else if bodyOver x.opened off then { x with err := some (4, off) }
    else if op = 0x02 ∨ op = 0x0D then { x with opened := (op == 0x0D, off) :: x.opened }
    else if op = 0x03 ∨ op = 0x0E then
      match x.opened with
      | (pace, _) :: rest => if pace = (op == 0x0E) then { x with opened := rest } else { x with err := some (5, off) }
      | [] => { x with err := some (5, off) }
    else if op = 0x0F then
      if x.opened.isEmpty then { x with seg := off + 1 } else { x with err := some (5, off) }
    else if op = 0x06 ∨ op = 0x11 then { x with err := some (5, off) }
    else x

/-- Reads the stream line by line until its end or the first error. -/
def State.scanLines (s : State) (p sd : Nat) (elastic : Bool) : (lines : Nat) → (off : Nat) → ScanX → ScanX × State
  | 0, _, x => (x, s)
  | k + 1, off, x =>
    let n := min 4 (s.sdLen p sd - off)
    if n = 0 ∨ x.err.isSome then (x, s)
    else
      let (ws, s) := s.streamRead p sd off n
      let x := ((List.range n).zip ws).foldl (fun x e => x.word elastic (off + e.1) e.2) x
      s.scanLines p sd elastic k (off + 4) x

/-- Status and SD_ERR of a finished scan. -/
def ScanX.result (x : ScanX) : Nat × Nat :=
  match x.err with
  | some e => e
  | none =>
    match x.opened.getLast? with
    | some l => (5, l.2)
    | none => (2, 0)

/-- A scan in progress ends: STATUS and SD_ERR; a descriptor found OK with ELASTIC = 1 serves elastic mode (R143, R144). -/
def execSdScanDone (p : Fin 16) (n : Fin 8) (s : State) : Out :=
  .next <|
    if s.sdStatus p n ≠ 1 then s
    else
      let b := psqB p + n * 0x20
      let el := s.on b SD_CTL.ELASTIC
      let (x, s) := s.scanLines p n el ((s.sdLen p n + 3) / 4) 0 {}
      let (st, off) := x.result
      let s := (s.wr b SD_STAT.STATUS st).wr b SD_ERR.OFFSET off
      s.setPsq p { s.psq p with elastic := putBit (s.psq p).elastic n (el && st == 2) }

end Sys2Proof.Machine
end

