-- ==== Sys2Proof/Machine/Rv.lean ====
section
/-! DEFINITION. The published RISC-V instruction set of the processors (12_processors_locks_debug.md R366, R376; PRESUMED, from the
published specifications the manual names; notes/assumptions/38.md): the compressed forms as the instructions they stand for, and the
integer arithmetic. -/
namespace Sys2Proof.Machine

/-! ## Words of the base formats -/

def rvI (imm rs1 f3 rd op : Nat) : Nat := imm % 4096 * 2 ^ 20 + rs1 * 2 ^ 15 + f3 * 2 ^ 12 + rd * 2 ^ 7 + op
def rvR (f7 rs2 rs1 f3 rd op : Nat) : Nat := f7 * 2 ^ 25 + rs2 * 2 ^ 20 + rs1 * 2 ^ 15 + f3 * 2 ^ 12 + rd * 2 ^ 7 + op
def rvS (imm rs2 rs1 f3 op : Nat) : Nat :=
  bits imm 5 7 * 2 ^ 25 + rs2 * 2 ^ 20 + rs1 * 2 ^ 15 + f3 * 2 ^ 12 + imm % 32 * 2 ^ 7 + op
def rvB (imm rs2 rs1 f3 : Nat) : Nat :=
  bits imm 12 1 * 2 ^ 31 + bits imm 5 6 * 2 ^ 25 + rs2 * 2 ^ 20 + rs1 * 2 ^ 15 + f3 * 2 ^ 12 + bits imm 1 4 * 2 ^ 8 + bits imm 11 1 * 2 ^ 7 + 0x63
def rvJ (imm rd : Nat) : Nat :=
  bits imm 20 1 * 2 ^ 31 + bits imm 1 10 * 2 ^ 21 + bits imm 11 1 * 2 ^ 20 + bits imm 12 8 * 2 ^ 12 + rd * 2 ^ 7 + 0x6F

/-- Immediates of a 32-bit instruction. -/
def immI (w : Nat) : Int := sgn 12 (bits w 20 12)
def immS (w : Nat) : Int := sgn 12 (bits w 25 7 * 32 + bits w 7 5)
def immB (w : Nat) : Int := sgn 13 (bits w 31 1 * 4096 + bits w 7 1 * 2048 + bits w 25 6 * 32 + bits w 8 4 * 2)
def immU (w : Nat) : Int := sgn 32 (bits w 12 20 * 4096)
def immJ (w : Nat) : Int := sgn 21 (bits w 31 1 * 2 ^ 20 + bits w 12 8 * 2 ^ 12 + bits w 20 1 * 2 ^ 11 + bits w 21 10 * 2)

/-! ## Compressed instructions: RV64C with D for 64 bits, RV32C for 32 -/

/-- Quadrant 0. -/
def compressed0 (x h : Nat) : Option Nat :=
  let rd := 8 + bits h 2 3
  let rs := 8 + bits h 7 3
  let uw := bits h 10 3 * 8 + bits h 6 1 * 4 + bits h 5 1 * 64
  let ud := bits h 10 3 * 8 + bits h 5 2 * 64
  match bits h 13 3 with
  | 0 =>
    let imm := bits h 11 2 * 16 + bits h 7 4 * 64 + bits h 6 1 * 4 + bits h 5 1 * 8
    if imm = 0 then none else some (rvI imm 2 0 rd 0x13)
  | 1 => if x = 64 then some (rvI ud rs 3 rd 0x07) else none
  | 2 => some (rvI uw rs 2 rd 0x03)
  | 3 => if x = 64 then some (rvI ud rs 3 rd 0x03) else none
  | 5 => if x = 64 then some (rvS ud rd rs 3 0x27) else none
  | 6 => some (rvS uw rd rs 2 0x23)
  | 7 => if x = 64 then some (rvS ud rd rs 3 0x23) else none
  | _ => none

/-- Quadrant 1. -/
def compressed1 (x h : Nat) : Option Nat :=
  let rd := bits h 7 5
  let r' := 8 + bits h 7 3
  let r2 := 8 + bits h 2 3
  let im6 := wrapI 12 (sgn 6 (bits h 12 1 * 32 + bits h 2 5))
  let sh := bits h 12 1 * 32 + bits h 2 5
  let shOk := x == 64 || sh < 32
  let j := wrapI 21 (sgn 12 (bits h 12 1 * 2 ^ 11 + bits h 11 1 * 16 + bits h 9 2 * 256 + bits h 8 1 * 1024 + bits h 7 1 * 64 +
    bits h 6 1 * 128 + bits h 3 3 * 2 + bits h 2 1 * 32))
  let b := wrapI 13 (sgn 9 (bits h 12 1 * 256 + bits h 10 2 * 8 + bits h 5 2 * 64 + bits h 3 2 * 2 + bits h 2 1 * 32))
  match bits h 13 3 with
  | 0 => some (rvI im6 rd 0 rd 0x13)
  | 1 => if x = 32 then some (rvJ j 1) else if rd = 0 then none else some (rvI im6 rd 0 rd 0x1B)
  | 2 => some (rvI im6 0 0 rd 0x13)
  | 3 =>
    if bits h 12 1 = 0 ∧ bits h 2 5 = 0 then none
    else if rd = 2 then
      some (rvI (wrapI 12 (sgn 10 (bits h 12 1 * 512 + bits h 6 1 * 16 + bits h 5 1 * 64 + bits h 3 2 * 128 + bits h 2 1 * 32))) 2 0 2 0x13)
    else some (wrapI 20 (sgn 6 (bits h 12 1 * 32 + bits h 2 5)) * 4096 + rd * 2 ^ 7 + 0x37)
  | 4 =>
    match bits h 10 2 with
    | 0 => if shOk then some (rvI sh r' 5 r' 0x13) else none
    | 1 => if shOk then some (rvI (0x400 + sh) r' 5 r' 0x13) else none
    | 2 => some (rvI im6 r' 7 r' 0x13)
    | _ =>
      match bits h 12 1, bits h 5 2 with
      | 0, 0 => some (rvR 0x20 r2 r' 0 r' 0x33)
      | 0, 1 => some (rvR 0 r2 r' 4 r' 0x33)
      | 0, 2 => some (rvR 0 r2 r' 6 r' 0x33)
      | 0, _ => some (rvR 0 r2 r' 7 r' 0x33)
      | _, 0 => if x = 64 then some (rvR 0x20 r2 r' 0 r' 0x3B) else none
      | _, 1 => if x = 64 then some (rvR 0 r2 r' 0 r' 0x3B) else none
      | _, _ => none
  | 5 => some (rvJ j 0)
  | 6 => some (rvB b 0 r' 0)
  | _ => some (rvB b 0 r' 1)

/-- Quadrant 2. -/
def compressed2 (x h : Nat) : Option Nat :=
  let rd := bits h 7 5
  let rs := bits h 2 5
  let sh := bits h 12 1 * 32 + rs
  let lw := bits h 12 1 * 32 + bits h 4 3 * 4 + bits h 2 2 * 64
  let ld := bits h 12 1 * 32 + bits h 5 2 * 8 + bits h 2 3 * 64
  let sw := bits h 9 4 * 4 + bits h 7 2 * 64
  let sd := bits h 10 3 * 8 + bits h 7 3 * 64
  match bits h 13 3 with
  | 0 => if x = 64 ∨ sh < 32 then some (rvI sh rd 1 rd 0x13) else none
  | 1 => if x = 64 then some (rvI ld 2 3 rd 0x07) else none
  | 2 => if rd = 0 then none else some (rvI lw 2 2 rd 0x03)
  | 3 => if x = 64 ∧ rd ≠ 0 then some (rvI ld 2 3 rd 0x03) else none
  | 4 =>
    if bits h 12 1 = 0 then
      if rs = 0 then (if rd = 0 then none else some (rvI 0 rd 0 0 0x67)) else some (rvR 0 rs 0 0 rd 0x33)
    else if rs = 0 then (if rd = 0 then some 0x00100073 else some (rvI 0 rd 0 1 0x67))
    else some (rvR 0 rs rd 0 rd 0x33)
  | 5 => if x = 64 then some (rvS sd rs 2 3 0x27) else none
  | 6 => some (rvS sw rs 2 2 0x23)
  | _ => if x = 64 then some (rvS sd rs 2 3 0x23) else none

/-- The 32-bit instruction a compressed one stands for; none: reserved or absent. -/
def expand (x h : Nat) : Option Nat :=
  match h % 4 with
  | 0 => compressed0 x h
  | 1 => compressed1 x h
  | _ => compressed2 x h

/-! ## Integer arithmetic on `x` bits -/

def rvAlu (x f3 : Nat) (alt : Bool) (a b : Nat) : Nat :=
  match f3 with
  | 0 => if alt then (a + 2 ^ x - b) % 2 ^ x else (a + b) % 2 ^ x
  | 1 => a * 2 ^ (b % x) % 2 ^ x
  | 2 => (decide (sgn x a < sgn x b)).toNat
  | 3 => (decide (a < b)).toNat
  | 4 => a ^^^ b
  | 5 => if alt then wrapI x (sgn x a / 2 ^ (b % x)) else a / 2 ^ (b % x)
  | 6 => a ||| b
  | _ => a &&& b

/-- M: division by zero and the overflow of the most negative number by −1 have the published results. -/
def rvMul (x f3 a b : Nat) : Nat :=
  let sa := sgn x a
  let sb := sgn x b
  match f3 with
  | 0 => a * b % 2 ^ x
  | 1 => wrapI x (sa * sb / 2 ^ x)
  | 2 => wrapI x (sa * (b : Int) / 2 ^ x)
  | 3 => a * b / 2 ^ x
  | 4 => if b = 0 then 2 ^ x - 1 else wrapI x (sa.tdiv sb)
  | 5 => if b = 0 then 2 ^ x - 1 else a / b
  | 6 => if b = 0 then a else wrapI x (sa.tmod sb)
  | _ => if b = 0 then a else a % b

/-- The low 32 bits, sign-extended to `x`. -/
def sext32 (x v : Nat) : Nat := wrapI x (sgn 32 v)

/-- A branch is taken. -/
def rvTaken (x f3 a b : Nat) : Option Bool :=
  match f3 with
  | 0 => some (a == b)
  | 1 => some (a != b)
  | 4 => some (decide (sgn x a < sgn x b))
  | 5 => some (decide (sgn x b ≤ sgn x a))
  | 6 => some (decide (a < b))
  | 7 => some (decide (b ≤ a))
  | _ => none

end Sys2Proof.Machine
end

