-- ==== Sys2Proof/Machine/Fp.lean ====
section
/-! DEFINITION. The F and D extensions of the site processors (12_processors_locks_debug.md R366; PRESUMED, from the published
specification; notes/assumptions/38.md): IEEE 754 binary32 and binary64, computed exactly and rounded once. -/
namespace Sys2Proof.Machine

/-- A format: exponent and fraction bits. -/
structure FFmt where
  e : Nat
  m : Nat
  deriving DecidableEq, Repr
def fS : FFmt := ⟨8, 23⟩
def fD : FFmt := ⟨11, 52⟩
def FFmt.bias (f : FFmt) : Nat := 2 ^ (f.e - 1) - 1
def FFmt.width (f : FFmt) : Nat := 1 + f.e + f.m
/-- Infinity without its sign; the canonical NaN. -/
def FFmt.infBits (f : FFmt) : Nat := (2 ^ f.e - 1) * 2 ^ f.m
def FFmt.nanBits (f : FFmt) : Nat := f.infBits + 2 ^ (f.m - 1)
def FFmt.signed (f : FFmt) (neg : Bool) (x : Nat) : Nat := neg.toNat * 2 ^ (f.e + f.m) + x

/-- Accrued flags: invalid, divide by zero, overflow, underflow, inexact. -/
def fNV : Nat := 16
def fDZ : Nat := 8
def fOF : Nat := 4
def fUF : Nat := 2
def fNX : Nat := 1

/-- A value: NaN (signaling or quiet), infinity, or mant × 2^exp. -/
inductive FVal where
  | nan (signaling : Bool)
  | inf (neg : Bool)
  | fin (neg : Bool) (mant : Nat) (exp : Int)
  deriving DecidableEq, Repr

def fUnpack (f : FFmt) (x : Nat) : FVal :=
  let neg := bitAt x (f.e + f.m)
  let ex := bits x f.m f.e
  let fr := bits x 0 f.m
  if ex = 2 ^ f.e - 1 then (if fr = 0 then .inf neg else .nan (!bitAt fr (f.m - 1)))
  else if ex = 0 then .fin neg fr (1 - (f.bias : Int) - f.m)
  else .fin neg (2 ^ f.m + fr) ((ex : Int) - f.bias - f.m)

def FVal.isNan : FVal → Bool
  | .nan _ => true
  | _ => false
def FVal.isSnan : FVal → Bool
  | .nan b => b
  | _ => false

/-- mant × 2^exp as an integer multiple of 2^q, rounded in mode rm (0 nearest even, 1 to zero, 2 down, 3 up, 4 nearest away), and whether
it was inexact. -/
def fQuant (rm : Nat) (neg : Bool) (mant : Nat) (exp q : Int) : Nat × Bool :=
  if q ≤ exp then (mant * 2 ^ (exp - q).toNat, false)
  else
    let sh := (q - exp).toNat
    let r := mant / 2 ^ sh
    let rem := mant % 2 ^ sh
    let half := 2 ^ (sh - 1)
    let up := match rm with
      | 0 => decide (half < rem) || rem == half && r % 2 == 1
      | 1 => false
      | 2 => neg && rem != 0
      | 3 => !neg && rem != 0
      | _ => decide (half ≤ rem)
    (r + up.toNat, rem != 0)

/-- Rounds mant × 2^exp into a format: its bits and flags. Tininess is detected after rounding. -/
def fRound (f : FFmt) (rm : Nat) (neg : Bool) (mant : Nat) (exp : Int) : Nat × Nat :=
  if mant = 0 then (f.signed neg 0, 0)
  else
    let top := (Nat.log2 mant : Int) + exp
    let emin := 1 - (f.bias : Int)
    let q := max (top - f.m) (emin - f.m)
    let (r, nx) := fQuant rm neg mant exp q
    let x := (q + f.m + f.bias - 1).toNat * 2 ^ f.m + r
    if f.infBits ≤ x then
      let toInf := rm == 0 || rm == 4 || rm == 2 && neg || rm == 3 && !neg
      (f.signed neg (if toInf then f.infBits else f.infBits - 1), fOF + fNX)
    else
      let tiny := decide (top < emin) && (decide (top + 1 < emin) || decide ((fQuant rm neg mant exp (top - f.m)).1 < 2 ^ (f.m + 1)))
      (f.signed neg x, nx.toNat + (if tiny && nx then fUF else 0))

/-- A NaN result, invalid when a signaling NaN or the operation itself makes it so. -/
def fNan (f : FFmt) (invalid : Bool) : Nat × Nat := (f.nanBits, if invalid then fNV else 0)

/-- The signed sum of two finite values, both as multiples of the smaller exponent. -/
def fSumFin (f : FFmt) (rm : Nat) (na : Bool) (ma : Nat) (ea : Int) (nb : Bool) (mb : Nat) (eb : Int) : Nat × Nat :=
  let e := min ea eb
  let ia : Int := (if na then -1 else 1) * ((ma * 2 ^ (ea - e).toNat : Nat) : Int)
  let ib : Int := (if nb then -1 else 1) * ((mb * 2 ^ (eb - e).toNat : Nat) : Int)
  let sum := ia + ib
  if sum = 0 then (f.signed (if na = nb then na else rm == 2) 0, 0)
  else fRound f rm (decide (sum < 0)) sum.natAbs e

def fAdd (f : FFmt) (rm : Nat) (a b : FVal) : Nat × Nat :=
  match a, b with
  | .nan x, y => fNan f (x || y.isSnan)
  | _, .nan y => fNan f y
  | .inf x, .inf y => if x = y then (f.signed x f.infBits, 0) else fNan f true
  | .inf x, _ => (f.signed x f.infBits, 0)
  | _, .inf y => (f.signed y f.infBits, 0)
  | .fin na ma ea, .fin nb mb eb => fSumFin f rm na ma ea nb mb eb

def FVal.neg : FVal → FVal
  | .nan b => .nan b
  | .inf n => .inf (!n)
  | .fin n m e => .fin (!n) m e

def fMul (f : FFmt) (rm : Nat) (a b : FVal) : Nat × Nat :=
  match a, b with
  | .nan x, y => fNan f (x || y.isSnan)
  | _, .nan y => fNan f y
  | .inf x, .inf y => (f.signed (x != y) f.infBits, 0)
  | .inf x, .fin y m _ => if m = 0 then fNan f true else (f.signed (x != y) f.infBits, 0)
  | .fin x m _, .inf y => if m = 0 then fNan f true else (f.signed (x != y) f.infBits, 0)
  | .fin na ma ea, .fin nb mb eb => fRound f rm (na != nb) (ma * mb) (ea + eb)

/-- a × b + c, rounded once. -/
def fFma (f : FFmt) (rm : Nat) (a b c : FVal) : Nat × Nat :=
  let bad := match a, b with
    | .inf _, .fin _ 0 _ | .fin _ 0 _, .inf _ => true
    | _, _ => false
  if bad then fNan f true
  else if a.isNan || b.isNan || c.isNan then fNan f (a.isSnan || b.isSnan || c.isSnan)
  else
    let p : FVal := match a, b with
      | .inf x, .inf y => .inf (x != y)
      | .inf x, .fin y _ _ => .inf (x != y)
      | .fin x _ _, .inf y => .inf (x != y)
      | .fin na ma ea, .fin nb mb eb => .fin (na != nb) (ma * mb) (ea + eb)
      | _, _ => .nan false
    fAdd f rm p c

def fDiv (f : FFmt) (rm : Nat) (a b : FVal) : Nat × Nat :=
  match a, b with
  | .nan x, y => fNan f (x || y.isSnan)
  | _, .nan y => fNan f y
  | .inf _, .inf _ => fNan f true
  | .inf x, .fin y _ _ => (f.signed (x != y) f.infBits, 0)
  | .fin x _ _, .inf y => (f.signed (x != y) 0, 0)
  | .fin na ma ea, .fin nb mb eb =>
    if mb = 0 then (if ma = 0 then fNan f true else (f.signed (na != nb) f.infBits, fDZ))
    else
      let k := 2 * f.m + 6
      let n := ma * 2 ^ k
      fRound f rm (na != nb) (n / mb * 2 + (n % mb != 0).toNat) (ea - eb - k - 1)

/-- The integer square root of a number below 4^n. -/
def isqrt : Nat → Nat → Nat
  | 0, _ => 0
  | n + 1, x =>
    let r := isqrt n (x / 4) * 2
    if (r + 1) * (r + 1) ≤ x then r + 1 else r

def fSqrt (f : FFmt) (rm : Nat) (a : FVal) : Nat × Nat :=
  match a with
  | .nan x => fNan f x
  | .inf x => if x then fNan f true else (f.infBits, 0)
  | .fin neg m e =>
    if m = 0 then (f.signed neg 0, 0)
    else if neg then fNan f true
    else
      let k := 2 * (f.m + 3) + (e % 2).toNat
      let n := m * 2 ^ k
      let r := isqrt (2 * f.m + 8) n
      fRound f rm false (r * 2 + (r * r != n).toNat) ((e - k) / 2 - 1)

/-- A finite value as a multiple of 2^b. -/
def fInt : FVal → Int → Int
  | .fin n m e, b => (if n then -1 else 1) * ((m * 2 ^ (e - b).toNat : Nat) : Int)
  | _, _ => 0
def FVal.expOf : FVal → Int
  | .fin _ _ e => e
  | _ => 0
/-- a < b of values that are no NaN (−0 = +0). -/
def fLt (a b : FVal) : Bool :=
  match a, b with
  | .inf x, .inf y => x && !y
  | .inf x, _ => x
  | _, .inf y => !y
  | a, b => let e := min a.expOf b.expOf; decide (fInt a e < fInt b e)
def fEq (a b : FVal) : Bool := !a.isNan && !b.isNan && !fLt a b && !fLt b a
def FVal.isNeg : FVal → Bool
  | .inf n => n
  | .fin n _ _ => n
  | .nan _ => false

/-- FMIN and FMAX: of the bit patterns x and y. -/
def fMinMax (f : FFmt) (isMax : Bool) (x y : Nat) : Nat × Nat :=
  let a := fUnpack f x
  let b := fUnpack f y
  let fl := if a.isSnan || b.isSnan then fNV else 0
  if a.isNan && b.isNan then (f.nanBits, fl)
  else if a.isNan then (y, fl)
  else if b.isNan then (x, fl)
  else
    let less := fLt a b || fEq a b && a.isNeg && !b.isNeg
    (if less != isMax then x else y, fl)

/-- FEQ (2), FLT (1), FLE (0). -/
def fCmp (f3 : Nat) (a b : FVal) : Nat × Nat :=
  if a.isNan || b.isNan then (0, if f3 ≠ 2 ∨ a.isSnan ∨ b.isSnan then fNV else 0)
  else
    ((match f3 with
      | 0 => fLt a b || fEq a b
      | 1 => fLt a b
      | _ => fEq a b).toNat, 0)

def fClass (f : FFmt) (x : Nat) : Nat :=
  match fUnpack f x with
  | .nan s => if s then 2 ^ 8 else 2 ^ 9
  | .inf n => if n then 1 else 2 ^ 7
  | .fin n m _ =>
    if m = 0 then (if n then 2 ^ 3 else 2 ^ 4)
    else if bits x f.m f.e = 0 then (if n then 2 ^ 2 else 2 ^ 5)
    else if n then 2 ^ 1 else 2 ^ 6

/-- To an integer of `w` bits, signed or not: out of range or NaN gives the nearest bound (a NaN the largest) and is invalid. -/
def fToInt (rm w : Nat) (signed : Bool) (a : FVal) : Nat × Nat :=
  let lo : Int := if signed then -(2 ^ (w - 1)) else 0
  let hi : Int := if signed then 2 ^ (w - 1) - 1 else 2 ^ w - 1
  match a with
  | .nan _ => (wrapI w hi, fNV)
  | .inf n => (wrapI w (if n then lo else hi), fNV)
  | .fin n m e =>
    let (r, nx) := fQuant rm n m e 0
    let v : Int := if n then -(r : Int) else r
    if v < lo then (wrapI w lo, fNV) else if hi < v then (wrapI w hi, fNV) else (wrapI w v, nx.toNat)

def fFromInt (f : FFmt) (rm w : Nat) (signed : Bool) (x : Nat) : Nat × Nat :=
  let v : Int := if signed then sgn w x else ((x % 2 ^ w : Nat) : Int)
  fRound f rm (decide (v < 0)) v.natAbs 0

/-- From one format to another. -/
def fConvert (g : FFmt) (rm : Nat) (a : FVal) : Nat × Nat :=
  match a with
  | .nan s => fNan g s
  | .inf n => (g.signed n g.infBits, 0)
  | .fin n m e => fRound g rm n m e

/-! ## Registers of 64 bits: single values are NaN-boxed -/

def fBox (d : Bool) (x : Nat) : Nat := if d then x % 2 ^ 64 else (2 ^ 32 - 1) * 2 ^ 32 + x % 2 ^ 32
def fUnbox (d : Bool) (x : Nat) : Nat := if d then x else if x / 2 ^ 32 = 2 ^ 32 - 1 then x % 2 ^ 32 else fS.nanBits

/-- What a floating-point computation gives: an F register, or an X register (of 64 bits), and flags. -/
structure FRes where
  toX : Bool
  v : Nat
  flags : Nat
  deriving DecidableEq, Repr

/-- The instructions of OP-FP and the fused ones on register values; `xa`: the integer source; `frm`: the dynamic mode. None: illegal. -/
def fpExec (w xa fa fb fc frm : Nat) : Option FRes :=
  let op := w % 128
  let f5 := bits w 27 5
  let fm := bits w 25 2
  let d := fm == 1
  let f := if d then fD else fS
  let f3 := bits w 12 3
  let rs2 := bits w 20 5
  let rm := if f3 = 7 then frm else f3
  let rmOk := decide (rm ≤ 4)
  let a := fUnbox d fa
  let b := fUnbox d fb
  let va := fUnpack f a
  let vb := fUnpack f b
  let vc := fUnpack f (fUnbox d fc)
  let out := fun (r : Nat × Nat) => some (FRes.mk false (fBox d r.1) r.2)
  let outX := fun (r : Nat × Nat) => some (FRes.mk true r.1 r.2)
  if 2 ≤ fm then none
  else if op ≠ 0x53 then
    if !rmOk then none
    else match op with
      | 0x43 => out (fFma f rm va vb vc)
      | 0x47 => out (fFma f rm va vb vc.neg)
      | 0x4B => out (fFma f rm va.neg vb vc)
      | _ => out (fFma f rm va.neg vb vc.neg)
  else match f5 with
    | 0x00 => if rmOk then out (fAdd f rm va vb) else none
    | 0x01 => if rmOk then out (fAdd f rm va vb.neg) else none
    | 0x02 => if rmOk then out (fMul f rm va vb) else none
    | 0x03 => if rmOk then out (fDiv f rm va vb) else none
    | 0x0B => if rmOk ∧ rs2 = 0 then out (fSqrt f rm va) else none
    | 0x04 =>
      let top := f.e + f.m
      let sb := bitAt b top
      match f3 with
      | 0 => out (putBit a top sb, 0)
      | 1 => out (putBit a top !sb, 0)
      | 2 => out (putBit a top (bitAt a top != sb), 0)
      | _ => none
    | 0x05 => if f3 ≤ 1 then out (fMinMax f (f3 == 1) a b) else none
    | 0x08 =>
      if rmOk ∧ rs2 = 1 - fm then out (fConvert f rm (fUnpack (if d then fS else fD) (fUnbox (!d) fa))) else none
    | 0x14 => if f3 ≤ 2 then outX (fCmp f3 va vb) else none
    | 0x18 =>
      if !rmOk then none
      else match rs2 with
        | 0 => let r := fToInt rm 32 true va; outX (sext32 64 r.1, r.2)
        | 1 => let r := fToInt rm 32 false va; outX (sext32 64 r.1, r.2)
        | 2 => outX (fToInt rm 64 true va)
        | 3 => outX (fToInt rm 64 false va)
        | _ => none
    | 0x1A =>
      if !rmOk then none
      else match rs2 with
        | 0 => out (fFromInt f rm 32 true xa)
        | 1 => out (fFromInt f rm 32 false xa)
        | 2 => out (fFromInt f rm 64 true xa)
        | 3 => out (fFromInt f rm 64 false xa)
        | _ => none
    | 0x1C =>
      if rs2 ≠ 0 then none
      else if f3 = 0 then outX (if d then fa else sext32 64 fa, 0)
      else if f3 = 1 then outX (fClass f a, 0)
      else none
    | 0x1E => if rs2 = 0 ∧ f3 = 0 then out (xa, 0) else none
    | _ => none

end Sys2Proof.Machine
end

