-- ==== Sys2Proof/Machine/SpMem.lean ====
section
/-! DEFINITION. One access over the NoC to whatever serves it, and the memory as a processor sees it (12_processors_locks_debug.md R367,
R368, R375; 08_stored_data_integrity.md R263, R272): attributes by address, caches, atomics, reservations. -/
namespace Sys2Proof.Machine

open Sys2Proof (Ini Amo MemOp MemReq Rsp)

/-! ## One access of an initiator (R3, R41, R46, R399) -/

/-- An access of a wrong size or alignment: source 112 (R3). -/
def State.regBad (s : State) (q : MemReq) : Rsp × State :=
  (if isWrite q.op then .ack else .data 0 0, if s.por then s else s.reservedWrite (dieOf q.addr.toNat))

/-- A 64-bit read: the low register first. -/
def State.regPair (s : State) (ini : Ini) (a : Nat) : Rsp × State :=
  (.data ((s.regRead ini a).1 + ((s.regRead ini a).2.regRead ini (a + 4)).1 <<< 32) 0, ((s.regRead ini a).2.regRead ini (a + 4)).2)

/-- An access at the register bridge; `wr` writes one word. -/
def State.regAccess (s : State) (wr : State → Nat → Word → State) (q : MemReq) : Rsp × State :=
  let a := q.addr.toNat
  match q.op with
  | .rd =>
    if q.len = 4 ∧ a % 4 = 0 then (.data (s.regRead q.ini a).1 0, (s.regRead q.ini a).2)
    else if q.len = 8 ∧ a % 8 = 0 then s.regPair q.ini a
    else s.regBad q
  | .wr =>
    if q.len = 4 ∧ a % 4 = 0 then (.ack, wr s a (q.data.truncate 32))
    else if q.len = 8 ∧ a % 8 = 0 then
      (.ack, wr (wr s a (q.data.truncate 32)) (a + 4) ((q.data >>> 32).truncate 32))
    else s.regBad q
  | _ => s.regBad q

/-- A request admitted, served and answered: registers at their bridge, another device by the answer `remote` that comes back over the
links, all else by its memory. -/
def State.nocAccessBy (s : State) (wr : State → Nat → Word → State) (q : MemReq) (remote : Rsp) : Rsp × State :=
  let t := s.reqTarget q
  match s.admission q, t with
  | .go _ _ _, .regs _ =>
    let s := s.probe q (targetId t) none 0
    let (r, s) := s.regAccess wr q
    let ns := s.free 20
    let s := s.drew
    (r, (s.nsCount q (rspOk r) ns).probe q (targetId t) (some r) ns)
  | .go _ _ _, .egress _ =>
    let s := s.probe q (targetId t) none 0
    let ns := s.free 20
    let s := s.drew
    (remote, (s.nsCount q (rspOk remote) ns).probe q (targetId t) (some remote) ns)
  | _, _ => s.request q
def State.nocAccess (s : State) (q : MemReq) (remote : Rsp) : Rsp × State :=
  s.nocAccessBy (fun s a v => s.regWrite q.ini a v) q remote

/-! ## Addresses of an SP (R367, R391) -/

/-- A physical address: local, of a device, or neither. -/
inductive PAddr where
  | near (a : Nat)
  | far (dev a : Nat)
  | bad
  deriving DecidableEq, Repr

def pAddr (pa : Nat) : PAddr :=
  if 2 ^ 56 ≤ pa then .bad
  else if bitAt pa 55 then (if bitAt pa 54 then .bad else .far (bits pa 40 14) (pa % 2 ^ 40))
  else if bits pa 40 15 = 0 then .near pa
  else .bad

/-- An SP's request, tagged with its site when it is assigned to one (R375). -/
def State.spReq (s : State) (n : Nat) (op : MemOp) (dev : Option Nat) (a len data pois : Nat) : MemReq :=
  ⟨.sp (Fin.ofNat 16 n), true,
    if s.on (spB n) SP_CFG.ASSIGNED then some (Fin.ofNat 16 (s.rd (spB n) SP_CFG.SITE)) else none,
    op, BitVec.ofNat 40 a, len, BitVec.ofNat 512 data, BitVec.ofNat 8 pois, dev.map (BitVec.ofNat 14)⟩

/-- What an access of a core finds: a value, or an access fault, by poison or not. -/
inductive MRes where
  | val (v : Nat)
  | fault (poison : Bool)
  deriving DecidableEq, Repr

def ofRsp (r : Rsp) : MRes :=
  match r with
  | .data v p => if p = 0 then .val v else .fault true
  | .ack => .val 0
  | _ => .fault false

/-- The address lies in the SP's own tightly coupled memory. -/
def ownTcm (n a : Nat) : Bool := decide (tcmAddr n ≤ a ∧ a < tcmAddr n + 0x100000)

/-! ## Words of a cache line (R259, R263) -/

def CLine.synOf (y : CLine) (i : Nat) : Nat := bits y.syn (8 * i) 8
def CLine.setSyn (y : CLine) (i c : Nat) : CLine := { y with syn := putBits y.syn (8 * i) 8 c }
/-- What a read of word `i` returns: data, and whether with poison. -/
def CLine.word (y : CLine) (i : Nat) : Nat × Bool := eccSee (bits y.data (64 * i) 64) (y.synOf i)
/-- The poison bits of the line. -/
def CLine.pois (y : CLine) : Nat := ((List.range 8).filter fun i => (y.word i).2).foldl (fun m i => m + 2 ^ i) 0
/-- The line as its words read. -/
def CLine.seen (y : CLine) : Nat := (List.range 8).foldl (fun v i => v + (y.word i).1 * 2 ^ (64 * i)) 0
/-- A clean line of data `v` with the poison bits `p`. -/
def lineOf (v p : Nat) : CLine :=
  ⟨v, (List.range 8).foldl (fun c i => if bitAt p i then c + 0xFF * 2 ^ (8 * i) else c) 0, false⟩

/-- The ECC group in which the caches of an SP count: that of its tightly coupled memory, with the line's address (R263). -/
def spGroup (n : Nat) : Nat := spcB (n / 4) + 0x800 + n % 4 * 0x60
/-- Counts a read of word `i` of line `l`. -/
def State.countCache (s : State) (n l : Nat) (y : CLine) (i : Nat) : State := s.eccCount (spGroup n) (y.synOf i) (l * 64)
/-- Word `i` holds an uncorrectable error. -/
def CLine.lost (y : CLine) (i : Nat) : Bool := eccKind (y.synOf i) == some 1

/-! ## The data cache: 128 sets of 8 ways; the instruction cache: 256 sets of 4 (R263, R368) -/

def State.dline (s : State) (n l : Nat) : Option CLine := ((s.sp n).dcache.find? fun e => e.1 == l).map (·.2)
def State.setDline (s : State) (n l : Nat) (y : CLine) : State := s.setSp n { s.sp n with dcache := KV.put l y (s.sp n).dcache }
def State.dropDline (s : State) (n l : Nat) : State := s.setSp n { s.sp n with dcache := KV.erase l (s.sp n).dcache }

/-- Clean: a dirty line is read and written back, an uncorrectable word as poison (R263). Every word read counts its event (DESIGN
CHOICE: notes/assumptions/110.md). -/
def State.cleanLine (s : State) (n l : Nat) : State :=
  match s.dline n l with
  | some y =>
    if y.dirty then
      let s := s.each (List.range 8) fun i s => s.countCache n l y i
      let s := (s.nocAccess (s.spReq n .wr none (l * 64) 64 y.seen y.pois) .ack).2
      s.setDline n l { y with dirty := false }
    else s
  | none => s
/-- Clean and invalidate. -/
def State.flushLine (s : State) (n l : Nat) : State := (s.cleanLine n l).dropDline n l

/-- Makes room for a line: of a full set one line, left open which, is written back and leaves. -/
def State.dcacheRoom (s : State) (n l : Nat) : State :=
  let way := (s.sp n).dcache.filter fun e => e.1 % 128 == l % 128
  if way.length < 8 then s
  else
    let k := s.free 3
    let s := s.drew
    match way[k]? with
    | some e => s.flushLine n e.1
    | none => s

/-- The line filled from its memory; it keeps the poison of its source. -/
def State.dcacheFill (s : State) (n l : Nat) : Option CLine × State :=
  let s := s.dcacheRoom n l
  let (r, s) := s.nocAccess (s.spReq n .rd none (l * 64) 64 0 0) .ack
  match r with
  | .data v p => (some (lineOf v p), s.setDline n l (lineOf v p))
  | _ => (none, s)

/-- The line in the cache for an access that reads its word `i`, filled when absent. An uncorrectable word of a clean line is counted and
the line fetched again; of a dirty one it is kept as poison (R263). -/
def State.dcacheLine (s : State) (n l i : Nat) : Option CLine × State :=
  match s.dline n l with
  | some y =>
    let s := s.countCache n l y i
    if !y.lost i then (some y, s)
    else if y.dirty then (some (y.setSyn i 0xFF), s.setDline n l (y.setSyn i 0xFF))
    else (s.dropDline n l).dcacheFill n l
  | none => s.dcacheFill n l

/-- The line in the cache for an access that replaces a whole word of it. -/
def State.dcacheHold (s : State) (n l : Nat) : Option CLine × State :=
  match s.dline n l with
  | some y => (some y, s)
  | none => s.dcacheFill n l

/-- The line of the instruction cache filled from its memory, with its poison. -/
def State.icacheFill (s : State) (n l : Nat) : Option CLine × State :=
  let (r, s) := s.nocAccess (s.spReq n .rd none (l * 64) 64 0 0) .ack
  match r with
  | .data v p =>
    let way := (s.sp n).icache.filter fun e => e.1 % 256 == l % 256
    let k := s.free 2
    let (s, kept) := if way.length < 4 then (s, (s.sp n).icache)
      else (s.drew, match way[k]? with
        | some e => KV.erase e.1 (s.sp n).icache
        | none => (s.sp n).icache)
    (some (lineOf v p), s.setSp n { s.sp n with icache := KV.put l (lineOf v p) kept })
  | _ => (none, s)

/-- The line of the instruction cache for a fetch from its word `i`, filled when absent, fetched again when that word is uncorrectable;
none: an error. `first`: the fetch counts. -/
def State.icacheLine (s : State) (n l i : Nat) (first : Bool) : Option CLine × State :=
  match (s.sp n).icache.find? fun e => e.1 == l with
  | some e =>
    let s := if first then s.countCache n l e.2 i else s
    if e.2.lost i then (s.setSp n { s.sp n with icache := KV.erase l (s.sp n).icache }).icacheFill n l
    else (some e.2, s)
  | none => s.icacheFill n l

/-- FENCE.I: the data cache's dirty lines are written back, the instruction cache is emptied. -/
def State.fenceI (s : State) (n : Nat) : State :=
  let s := s.each ((s.sp n).dcache.map (·.1)) fun l s => s.cleanLine n l
  s.setSp n { s.sp n with icache := [] }

/-! ## Loads, stores, atomics of an SP -/

/-- The target of a local address is cached. -/
def State.isDram (s : State) (a : Nat) : Bool :=
  match s.targetOf .rd a with
  | .dram _ _ => true
  | _ => false
def State.isRegs (s : State) (dev : Option Nat) (a : Nat) : Bool :=
  match s.reqTarget ⟨.pf, true, none, .rd, BitVec.ofNat 40 a, 4, 0, 0, dev.map (BitVec.ofNat 14)⟩ with
  | .regs _ => true
  | _ => false

/-- An uncached read: at least four bytes, but of a register the size asked for (R3, R397). -/
def State.ncLoad (s : State) (n : Nat) (dev : Option Nat) (a size : Nat) (remote : Rsp) : MRes × State :=
  if 4 ≤ size ∨ s.isRegs dev a then
    let (r, s) := s.nocAccess (s.spReq n .rd dev a size 0 0) remote
    (ofRsp r, s)
  else
    let (r, s) := s.nocAccess (s.spReq n .rd dev (a / 4 * 4) 4 0 0) remote
    (match ofRsp r with
      | .val v => .val (bits v (8 * (a % 4)) (8 * size))
      | f => f, s)

/-- An uncached write: below four bytes a masked write of the line. -/
def State.ncStore (s : State) (n : Nat) (dev : Option Nat) (a size v : Nat) (remote : Rsp) : MRes × State :=
  let q := if 4 ≤ size ∨ s.isRegs dev a then s.spReq n .wr dev a size v 0
    else s.spReq n (.wrp (BitVec.ofNat 64 ((2 ^ size - 1) * 2 ^ (a % 64)))) dev a size (v % 2 ^ (8 * size) * 2 ^ (8 * (a % 64))) 0
  let (r, s) := s.nocAccess q remote
  (if rspOk r then .val 0 else .fault false, s)

/-- A naturally aligned load of `size` bytes at a physical address. -/
def State.spLoad (s : State) (n pa size : Nat) (remote : Rsp) : MRes × State :=
  match pAddr pa with
  | .bad => (.fault false, s)
  | .far dev a => s.ncLoad n (some dev) a size remote
  | .near a =>
    if s.isDram a then
      match s.dcacheLine n (a / 64) (a % 64 / 8) with
      | (some y, s) => (if bitAt y.pois (a % 64 / 8) then .fault true else .val (bits y.seen (8 * (a % 64)) (8 * size)), s)
      | (none, s) => (.fault false, s)
    else if ownTcm n a then
      let (v, p) := s.seeChip a size
      (if p then .fault true else .val v, s.countChip a size false)
    else s.ncLoad n none a size remote

/-- A naturally aligned store into a line: a narrower one merges into the word as it reads, and keeps its poison (R259, R271). -/
def CLine.store (y : CLine) (o size v : Nat) : CLine :=
  let i := o / 8
  let (old, p) := y.word i
  { (y.setSyn i (if size ≠ 8 ∧ p then 0xFF else 0)) with
    data := putBits (putBits y.data (64 * i) 64 old) (8 * o) (8 * size) v, dirty := true }

/-- A naturally aligned store. A whole word clears its poison in the cache, a narrower one keeps it (R271); Sett takes none. -/
def State.spStore (s : State) (n pa size v : Nat) (remote : Rsp) : MRes × State :=
  match pAddr pa with
  | .bad => (.fault false, s)
  | .far dev a => s.ncStore n (some dev) a size v remote
  | .near a =>
    if s.isDram a then
      match (if size = 8 then s.dcacheHold n (a / 64) else s.dcacheLine n (a / 64) (a % 64 / 8)) with
      | (some y, s) => (.val 0, s.setDline n (a / 64) (y.store (a % 64) size v))
      | (none, s) => (.fault false, s)
    else if ownTcm n a then (.val 0, s.writeChip a size v)
    else s.ncStore n none a size v remote

/-- The granule of a reservation: of the DRAM line's place, or of the tightly coupled memory. -/
def State.granule (s : State) (a : Nat) : Nat :=
  match s.dramPort a with
  | some (m, pa) => dramAddr m pa / 64
  | none => a / 64

/-- An atomic: the old value. DRAM's are done at the port, past the SP's own cache; only DRAM and the own memory take them. -/
def State.spAmo (s : State) (n pa size : Nat) (f : Amo) (v : Nat) : MRes × State :=
  match pAddr pa with
  | .near a =>
    if s.isDram a then
      let s := s.flushLine n (a / 64)
      let (r, s) := s.nocAccess (s.spReq n (.amo f) none a size v 0) .ack
      (ofRsp r, s)
    else if ownTcm n a then
      let (old, p) := s.seeChip a size
      let s := s.countChip a size false
      if p then (.fault true, s) else (.val old, s.writeChip a size (amoNew f size old (v % 2 ^ (8 * size))))
    else (.fault false, s)
  | _ => (.fault false, s)

/-- Load-reserved. -/
def State.spLr (s : State) (n pa size : Nat) : MRes × State :=
  match pAddr pa with
  | .near a =>
    if s.isDram a || ownTcm n a then
      let (r, s) := if s.isDram a then
          let s := s.flushLine n (a / 64)
          let (r, s) := s.nocAccess (s.spReq n .rd none a size 0 0) .ack
          (ofRsp r, s)
        else s.spLoad n pa size .ack
      match r with
      | .val v => (.val v, s.setSp n { s.sp n with resv := some (s.granule a) })
      | r => (r, s)
    else (.fault false, s)
  | _ => (.fault false, s)

/-- Store-conditional: 0 when the reservation holds and the word is stored, else 1. -/
def State.spSc (s : State) (n pa size v : Nat) : MRes × State :=
  match pAddr pa with
  | .near a =>
    if s.isDram a || ownTcm n a then
      let held := (s.sp n).resv == some (s.granule a)
      let s := s.setSp n { s.sp n with resv := none }
      if !held then (.val 1, s)
      else
        let (r, s) := if s.isDram a then
            let s := s.flushLine n (a / 64)
            let (r, s) := s.nocAccess (s.spReq n .wr none a size v 0) .ack
            (ofRsp r, s)
          else s.spStore n pa size v .ack
        match r with
        | .val _ => (.val 0, s)
        | r => (r, s)
    else (.fault false, s)
  | _ => (.fault false, s)

/-- Two bytes of an instruction; of a register word, its half. `first`: no earlier part of the instruction lies in the same word. -/
def State.spFetch (s : State) (n pa : Nat) (first : Bool) (remote : Rsp) : MRes × State :=
  match pAddr pa with
  | .bad => (.fault false, s)
  | .far dev a =>
    let (r, s) := s.nocAccess (s.spReq n .rd (some dev) (a / 4 * 4) 4 0 0) remote
    (match ofRsp r with
      | .val v => .val (bits v (8 * (a % 4)) 16)
      | f => f, s)
  | .near a =>
    if s.isDram a then
      match s.icacheLine n (a / 64) (a % 64 / 8) first with
      | (some y, s) => (if bitAt y.pois (a % 64 / 8) then .fault true else .val (bits y.seen (8 * (a % 64)) 16), s)
      | (none, s) => (.fault false, s)
    else if ownTcm n a then
      let (v, p) := s.seeChip a 2
      (if p then .fault true else .val v, if first then s.countChip a 2 false else s)
    else
      let (r, s) := s.nocAccess (s.spReq n .rd none (a / 4 * 4) 4 0 0) remote
      (match ofRsp r with
        | .val v => .val (bits v (8 * (a % 4)) 16)
        | f => f, s)

/-! ## An Owl's RAM (R376); the rest of its address space is not described (notes/assumptions/38.md) -/

def owlRam (a size : Nat) : Bool := decide (a + size ≤ 0x180000)
def State.owlLoad (s : State) (d a size : Nat) : MRes × State :=
  if owlRam a size then
    let (v, p) := s.seeChip (owlAddr d + a) size
    (if p then .fault true else .val v, s.countChip (owlAddr d + a) size false)
  else (.val (s.free (8 * size)), s.drew)
def State.owlStore (s : State) (d a size v : Nat) : MRes × State :=
  (.val 0, if owlRam a size then s.writeChip (owlAddr d + a) size v else s)
/-- Two bytes of an instruction: RAM once the firmware runs, else the ROM, whose contents the manual does not give. -/
def State.owlFetch (s : State) (d a : Nat) : MRes × State :=
  if s.ready d rdyOWL then s.owlLoad d a 2 else (.val (s.free 16), s.drew)

end Sys2Proof.Machine
end

