-- ==== Sys2Proof/Machine/Csr.lean ====
section
/-! DEFINITION. The control and status registers of the RISC-V cores (12_processors_locks_debug.md R366, R369, R370, R373, R376, R390;
the standard ones PRESUMED from the published privileged specification; notes/assumptions/38.md), and the traps. -/
namespace Sys2Proof.Machine

open Sys2Proof (Rsp)

/-! ## Cores: 0 to 15 the SPs, 16 to 19 the Owls -/

def State.hart (s : State) (c : Nat) : HartX := if c < 16 then s.sp c else s.owl (c - 16)
def State.setHart (s : State) (c : Nat) (x : HartX) : State := if c < 16 then s.setSp c x else s.setOwl (c - 16) x
def hartDie (c : Nat) : Nat := if c < 16 then c / 4 else c - 16
def isSp (c : Nat) : Bool := decide (c < 16)
def xlen (c : Nat) : Nat := if c < 16 then 64 else 32

/-- x0 reads zero and takes no write. -/
def HartX.x (h : HartX) (r : Nat) : Nat := if r = 0 then 0 else KV.get 0 r h.regs
def State.setX (s : State) (c r v : Nat) : State :=
  if r = 0 then s else s.setHart c { s.hart c with regs := KV.set 0 r (v % 2 ^ xlen c) (s.hart c).regs }
def HartX.f (h : HartX) (r : Nat) : Nat := KV.get 0 r h.fregs
def HartX.csr (h : HartX) (n : Nat) : Nat := KV.get 0 n h.csrs
def State.setCsr (s : State) (c n v : Nat) : State :=
  s.setHart c { s.hart c with csrs := KV.set 0 n (v % 2 ^ 64) (s.hart c).csrs }
def State.setPriv (s : State) (c p : Nat) : State := s.setHart c { s.hart c with priv := p }

/-! ## mstatus -/

def csrMSTATUS : Nat := 0x300
/-- Writable bits but MPP: SIE, MIE, SPIE, MPIE, SPP, FS, MPRV, SUM, MXR, TVM, TW, TSR of an SP; MIE, MPIE of an Owl. -/
def mstatusMask (c : Nat) : Nat := if isSp c then 0x7E61AA else 0x88
def State.mstatusRaw (s : State) (c : Nat) : Nat := (s.hart c).csr csrMSTATUS
def State.mbit (s : State) (c i : Nat) : Bool := bitAt (s.mstatusRaw c) i
def State.mpp (s : State) (c : Nat) : Nat := if isSp c then bits (s.mstatusRaw c) 11 2 else 3
def State.fs (s : State) (c : Nat) : Nat := bits (s.mstatusRaw c) 13 2
def sxlBits : Nat := 0xA00000000
def State.mstatus (s : State) (c : Nat) : Nat :=
  if isSp c then s.mstatusRaw c + sxlBits + (if s.fs c = 3 then 2 ^ 63 else 0) else s.mstatusRaw c + 0x1800
/-- A write: MPP takes no reserved mode. -/
def State.writeMstatus (s : State) (c v : Nat) : State :=
  let m := v &&& mstatusMask c
  let mpp := if !isSp c then 0 else if bits v 11 2 = 2 then s.mpp c else bits v 11 2
  s.setCsr c csrMSTATUS (m + mpp * 2 ^ 11)
def sstatusMask : Nat := 0xC6122
def State.dirtyF (s : State) (c : Nat) : State := s.setCsr c csrMSTATUS (putBits (s.mstatusRaw c) 13 2 3)

/-! ## Interrupts -/

/-- mip: MSIP, MTIP and the supervisor bits held; MEIP and SEIP follow the hub (R372). -/
def State.mip (s : State) (c : Nat) : Nat :=
  let v := (s.hart c).csr csrMIP
  if isSp c then putBit (putBit v 11 (s.hubTop c 0).isSome) 9 (bitAt v 9 || (s.hubTop c 1).isSome) else v
def State.mie (s : State) (c : Nat) : Nat := (s.hart c).csr 0x304
def State.mideleg (s : State) (c : Nat) : Nat := (s.hart c).csr 0x303
def mipMask : Nat := 0x222

/-- The interrupt a core takes: of those pending, enabled and allowed in its mode, machine ones first; external, software, timer. -/
def State.interrupt (s : State) (c : Nat) : Option Nat :=
  let p := s.mip c &&& s.mie c
  let pr := (s.hart c).priv
  let deleg := s.mideleg c
  let order := [11, 3, 7, 9, 1, 5]
  let mOn := decide (pr < 3) || s.mbit c 3
  let sOn := decide (pr < 1) || pr == 1 && s.mbit c 1
  match order.find? fun i => mOn && bitAt p i && !bitAt deleg i with
  | some i => some i
  | none => order.find? fun i => sOn && bitAt p i && bitAt deleg i

/-! ## Physical memory protection: 16 entries, OFF, TOR, NAPOT, granularity 4 KiB (R367) -/

def HartX.pmpCfg (h : HartX) (i : Nat) : Nat := bits (h.csr (0x3A0 + i / 8 * 2)) (8 * (i % 8)) 8
def HartX.pmpAddr (h : HartX) (i : Nat) : Nat := h.csr (0x3B0 + i)
def pmpLocked (cfg : Nat) : Bool := bitAt cfg 7
def pmpMode (cfg : Nat) : Nat := bits cfg 3 2

/-- What an address register reads: below the granularity ones under NAPOT, zeros otherwise. -/
def HartX.pmpAddrRead (h : HartX) (i : Nat) : Nat :=
  let v := h.pmpAddr i
  if 2 ≤ pmpMode (h.pmpCfg i) then v ||| 0x1FF else v / 1024 * 1024

/-- Entry `i` holds a physical address. -/
def HartX.pmpHit (h : HartX) (i pa : Nat) : Bool :=
  match pmpMode (h.pmpCfg i) with
  | 1 =>
    let lo := if i = 0 then 0 else h.pmpAddr (i - 1) / 1024
    decide (lo ≤ pa / 4096 ∧ pa / 4096 < h.pmpAddr i / 1024)
  | 3 =>
    let v := h.pmpAddr i ||| 0x1FF
    let m := v ^^^ (v + 1)
    (pa / 4 ||| m) == (v ||| m)
  | _ => false

/-- An access (bits 0 read, 1 write, 2 execute) of a mode is allowed. -/
def HartX.pmpOk (h : HartX) (priv need pa : Nat) : Bool :=
  match (List.range 16).find? fun i => h.pmpHit i pa with
  | some i => let cfg := h.pmpCfg i; priv == 3 && !pmpLocked cfg || cfg &&& need == need
  | none => priv == 3

/-- A write of one configuration byte: locked entries keep theirs; NA4 and write-only are not taken. -/
def pmpByte (old new : Nat) : Nat :=
  if pmpLocked old then old
  else
    let v := new &&& 0x9F
    let v := if pmpMode v = 2 then putBits v 3 2 0 else v
    if v % 4 = 2 then putBit v 1 false else v
def pmpWord (old new : Nat) : Nat :=
  (List.range 8).foldr (fun i acc => pmpByte (bits old (8 * i) 8) (bits new (8 * i) 8) + 256 * acc) 0

/-! ## Reading and writing CSRs -/

/-- Custom registers of R369: SVPSET … DCINV and DDIN of an SP; DTERM, DTX, DRX of an Owl. -/
def customCsr (c : Nat) (dbg : Bool) (n : Nat) : Bool :=
  if isSp c then (0x7C0 ≤ n && n ≤ 0x7C8) || (0x7CA ≤ n && n ≤ 0x7CC) || (n == 0x7B8 && dbg) else 0x7C6 ≤ n && n ≤ 0x7C8

/-- Standard registers with storage of their own, and the bits a write changes. -/
def csrMask (c n : Nat) : Option Nat :=
  let all := 2 ^ xlen c - 1
  let sp := isSp c
  match n with
  | 0x304 => some (if sp then 0xAAA else 0x888)
  | 0x305 => some (all - 2)
  | 0x320 => some 5
  | 0x340 | 0x342 | 0x343 => some all
  | 0x341 => some (all - 1)
  | 0x302 => if sp then some 0xB3FF else none
  | 0x303 => if sp then some 0x222 else none
  | 0x306 | 0x106 => if sp then some 7 else none
  | 0x30A | 0x10A => if sp then some 1 else none
  | 0x105 => if sp then some (all - 2) else none
  | 0x140 | 0x142 | 0x143 => if sp then some all else none
  | 0x141 => if sp then some (all - 1) else none
  | _ => none

/-- A register that exists and reads zero. -/
def csrZero (c n : Nat) : Bool :=
  (0xB03 ≤ n && n ≤ 0xB1F) || (0x323 ≤ n && n ≤ 0x33F) || n == 0xF15 ||
  (isSp c && (0xC03 ≤ n && n ≤ 0xC1F)) || (!isSp c && ((0xB83 ≤ n && n ≤ 0xB9F) || n == 0x310))

/-- misa: RV64IMAFDC with S and U; RV32IMC. -/
def misa (c : Nat) : Nat := if isSp c then 2 ^ 63 + 0x14112D else 2 ^ 30 + 0x1104

/-- The value of a register as an instruction reads it; none: the core has no such register. The cycle counters are not modelled: each
read is open. -/
def State.csrVal (s : State) (c : Nat) (dbg : Bool) (n : Nat) : Option Nat :=
  let h := s.hart c
  let d := hartDie c
  let sp := isSp c
  if customCsr c dbg n then
    some (match n with
      | 0x7C3 => if s.answers .svp d 0 then s.rd (svpB d) SVP_OUT.OUT else 0
      | 0x7C4 => if s.answers .svp d 0 then (s.svp d).raw else 0
      | 0x7C5 => h.csr 0x7C5
      | 0x7C6 => s.dterm c
      | 0x7C8 => h.drx.getD 0
      | 0x7B8 => s.rd2 (denB d) DEN_DIN_LO.V DEN_DIN_HI.V
      | _ => 0)
  else if (csrMask c n).isSome then some (h.csr n)
  else if csrZero c n then some 0
  else
    match n with
    | 0x300 => some (s.mstatus c)
    | 0x301 => some (misa c)
    | 0x344 => some (s.mip c)
    | 0xF11 | 0xF12 | 0xF13 => some ((Config.idCsr c n).toNat % 2 ^ xlen c)
    | 0xF14 => some (if sp then c else (Config.idCsr c n).toNat % 2 ^ 32)
    | 0xB00 => some (s.free (xlen c))
    | 0xB02 => some (h.csr 0xB02 % 2 ^ xlen c)
    | 0xB80 => if sp then none else some (s.free 32)
    | 0xB82 => if sp then none else some (h.csr 0xB02 / 2 ^ 32)
    | _ =>
      if !sp then none
      else if 0x3B0 ≤ n ∧ n ≤ 0x3BF then some (h.pmpAddrRead (n - 0x3B0))
      else
        match n with
        | 0x001 => some (h.csr 3 % 32)
        | 0x002 => some (h.csr 3 / 32)
        | 0x003 => some (h.csr 3)
        | 0x100 => some (s.mstatus c &&& (sstatusMask + 0x200000000 + 2 ^ 63))
        | 0x104 => some (s.mie c &&& s.mideleg c)
        | 0x144 => some (s.mip c &&& s.mideleg c)
        | 0x180 | 0x3A0 | 0x3A2 => some (h.csr n)
        | 0xC00 => some (s.free 64)
        | 0xC01 => some (s.mtime c)
        | 0xC02 => some (h.csr 0xB02)
        | _ => none

/-- Reading a cycle counter draws an open value. -/
def csrDraws (n : Nat) : Bool := n == 0xB00 || n == 0xB80 || n == 0xC00

/-- The core may access the register in its mode: privilege, read-only numbers, TVM, the counter enables, FS. -/
def State.csrAllowed (s : State) (c : Nat) (dbg : Bool) (n : Nat) (write : Bool) : Bool :=
  let h := s.hart c
  let pr := if dbg then 3 else h.priv
  decide (bits n 8 2 ≤ pr) && !(write && n / 1024 == 3) && !(n == 0x180 && pr == 1 && s.mbit c 20) &&
  !(1 ≤ n && n ≤ 3 && s.fs c == 0) &&
  (!(0xC00 ≤ n && n ≤ 0xC1F) || pr == 3 ||
    bitAt (h.csr 0x306) (n - 0xC00) && (pr == 1 || bitAt (h.csr 0x106) (n - 0xC00)))

/-- SVPSET, SVPCLR, SVPTGL: value AND SVPMASK acts on the die's output register (R369, R370). -/
def State.svpCsr (s : State) (c n v : Nat) : State :=
  let d := hartDie c
  let m := v % 2 ^ 16 &&& (s.hart c).csr 0x7C5
  s.atBlock .svp d 0 fun s =>
    let o := s.rd (svpB d) SVP_OUT.OUT
    s.wr (svpB d) SVP_OUT.OUT
      (match n with
        | 0x7C0 => o ||| m
        | 0x7C1 => o - (o &&& m)
        | _ => o ^^^ m)

/-- The line of the data cache that a physical address names: only local addresses are cached. -/
def cacheOp (pa : Nat) (f : Nat → State → State) (s : State) : State :=
  match pAddr pa with
  | .near a => f (a / 64) s
  | _ => s

/-- A write of a register by an instruction. -/
def State.csrWrite (s : State) (c n v : Nat) : State :=
  let h := s.hart c
  match n with
  | 0x7C0 | 0x7C1 | 0x7C2 => if isSp c then s.svpCsr c n v else s
  | 0x7C5 => s.setCsr c 0x7C5 (v % 2 ^ 16)
  | 0x7C6 => s.dtermWrite c v
  | 0x7C7 => s.dtxSend c v
  | 0x7C8 => s.drxRelease c
  | 0x7CA => cacheOp v (fun l s => s.cleanLine c l) s
  | 0x7CB => cacheOp v (fun l s => s.flushLine c l) s
  | 0x7CC => cacheOp v (fun l s => s.dropDline c l) s
  | 0x300 => s.writeMstatus c v
  | 0x344 => if isSp c then s.setCsr c csrMIP (h.csr csrMIP - (h.csr csrMIP &&& mipMask) + (v &&& mipMask)) else s
  | 0xB02 => s.setCsr c 0xB02 (if isSp c then v else h.csr 0xB02 / 2 ^ 32 * 2 ^ 32 + v)
  | 0xB82 => s.setCsr c 0xB02 (h.csr 0xB02 % 2 ^ 32 + v * 2 ^ 32)
  | 0x001 => (s.setCsr c 3 (h.csr 3 / 32 * 32 + v % 32)).dirtyF c
  | 0x002 => (s.setCsr c 3 (h.csr 3 % 32 + v % 8 * 32)).dirtyF c
  | 0x003 => (s.setCsr c 3 (v % 256)).dirtyF c
  | 0x100 =>
    let m := sstatusMask
    s.writeMstatus c (s.mstatusRaw c - (s.mstatusRaw c &&& m) + (v &&& m))
  | 0x104 =>
    let m := s.mideleg c
    s.setCsr c 0x304 (s.mie c - (s.mie c &&& m) + (v &&& m))
  | 0x144 =>
    let m := s.mideleg c &&& 2
    s.setCsr c csrMIP (h.csr csrMIP - (h.csr csrMIP &&& m) + (v &&& m))
  | 0x180 => if v / 2 ^ 60 = 0 ∨ v / 2 ^ 60 = 8 then s.setCsr c 0x180 v else s
  | 0x3A0 | 0x3A2 => s.setCsr c n (pmpWord (h.csr n) v)
  | _ =>
    if 0x3B0 ≤ n ∧ n ≤ 0x3BF then
      let i := n - 0x3B0
      let above := h.pmpCfg (i + 1)
      if pmpLocked (h.pmpCfg i) ∨ (i < 15 ∧ pmpLocked above ∧ pmpMode above = 1) then s else s.setCsr c n (v % 2 ^ 54)
    else
      match csrMask c n with
      | some m => s.setCsr c n (v &&& m)
      | none => s

/-- The value that a set or clear instruction starts from: of mip what is held. -/
def State.csrHeld (s : State) (c n v : Nat) : Nat :=
  if n = 0x344 then (s.hart c).csr csrMIP else if n = 0x144 then (s.hart c).csr csrMIP &&& s.mideleg c else v

/-! ## Traps -/

/-- Trap entry at instruction `pc`: to S-mode when delegated from below M-mode, else to M-mode; the mode and the interrupt enable are
saved, interrupts go off, execution goes on at the trap vector. -/
def State.takeTrap (s : State) (c pc cause tval : Nat) (int : Bool) : State :=
  let h := s.hart c
  let x := xlen c
  let code := int.toNat * 2 ^ (x - 1) + cause
  let st := s.mstatusRaw c
  let vec := fun tv => tv / 4 * 4 + (if int && tv % 4 == 1 then 4 * cause else 0)
  let deleg := isSp c && decide (h.priv ≤ 1) && bitAt (h.csr (if int then 0x303 else 0x302)) cause
  if deleg then
    let st := putBit (putBit (putBits st 8 1 h.priv) 5 (bitAt st 1)) 1 false
    let s := (((s.setCsr c 0x142 code).setCsr c 0x141 (pc / 2 * 2)).setCsr c 0x143 tval).setCsr c csrMSTATUS st
    s.setHart c { s.hart c with priv := 1, pc := vec (h.csr 0x105) % 2 ^ x }
  else
    let st := putBit (putBit (if isSp c then putBits st 11 2 h.priv else st) 7 (bitAt st 3)) 3 false
    let s := (((s.setCsr c 0x342 code).setCsr c 0x341 (pc / 2 * 2)).setCsr c 0x343 tval).setCsr c csrMSTATUS st
    s.setHart c { s.hart c with priv := 3, pc := vec (h.csr 0x305) % 2 ^ x }

/-- MRET: back to MPP with the saved interrupt enable; leaving M-mode clears MPRV. Answers the pc. -/
def State.mret (s : State) (c : Nat) : Nat × State :=
  let st := s.mstatusRaw c
  let mpp := s.mpp c
  let st' := putBit (putBit st 3 (bitAt st 7)) 7 true
  let st' := if isSp c then (if mpp = 3 then putBits st' 11 2 0 else putBit (putBits st' 11 2 0) 17 false) else st'
  ((s.hart c).csr 0x341, (s.setCsr c csrMSTATUS st').setPriv c mpp)

/-- SRET. -/
def State.sret (s : State) (c : Nat) : Nat × State :=
  let st := s.mstatusRaw c
  let spp := bits st 8 1
  let st' := putBit (putBit (putBit (putBit st 1 (bitAt st 5)) 5 true) 8 false) 17 false
  ((s.hart c).csr 0x141, (s.setCsr c csrMSTATUS st').setPriv c spp)

end Sys2Proof.Machine
end

