-- ==== Sys2Proof/Machine/Hart.lean ====
section
/-! DEFINITION. One instruction of a RISC-V core (12_processors_locks_debug.md R366 to R368, R376; the instruction set PRESUMED from
the published specifications; notes/assumptions/38.md): address translation, data accesses, the meaning of a 32-bit word. -/
namespace Sys2Proof.Machine

open Sys2Proof (Rsp Amo)

/-- What an access is for: 0 fetch, 1 load, 2 store or atomic. Causes of its faults. -/
def accessFault (k : Nat) : Nat := if k = 0 then 1 else if k = 1 then 5 else 7
def pageFault (k : Nat) : Nat := if k = 0 then 12 else if k = 1 then 13 else 15
def misaligned (k : Nat) : Nat := if k = 1 then 4 else 6
/-- The permission bits it needs of a PMP entry. -/
def pmpNeed (k : Nat) : Nat := if k = 0 then 4 else if k = 1 then 1 else 2

/-- An address found, or the cause of a trap. -/
inductive ARes where
  | pa (a : Nat)
  | trap (cause : Nat)
  deriving DecidableEq, Repr

/-- A core consumed poison: source 66 at an SP, 67 at an Owl (R272). -/
def State.hartPoison (s : State) (c : Nat) : State :=
  if isSp c then
    s.raise (c / 4) 66 (if s.on (spB c) SP_CFG.ASSIGNED then some (s.rd (spB c) SP_CFG.SITE) else none) c
  else s.raise (c - 16) 67 none (c - 16)
/-- An access fault, with the event of a consumed poison. -/
def State.hartFault (s : State) (c : Nat) (poison : Bool) : State := if poison then s.hartPoison c else s

/-! ## Sv39 -/

/-- Whether a leaf entry permits an access of kind `k` in mode `priv` (0 or 1). -/
def State.leafOk (s : State) (c k priv pte : Nat) : Bool :=
  let u := bitAt pte 4
  (if priv = 0 then u else !u || (k != 0 && s.mbit c 18)) &&
  (if k = 0 then bitAt pte 3 else if k = 1 then bitAt pte 1 || (s.mbit c 19 && bitAt pte 3) else bitAt pte 2)

/-- The walk from level `n - 1` with the table at physical address `tab`. -/
def State.walk (s : State) (c k priv va : Nat) (remote : Rsp) : Nat → Nat → ARes × State
  | 0, _ => (.trap (pageFault k), s)
  | n + 1, tab =>
    let at_ := tab + bits va (12 + 9 * n) 9 * 8
    if !(s.hart c).pmpOk 1 1 at_ then (.trap (accessFault k), s)
    else
      match s.spLoad c at_ 8 remote with
      | (.fault p, s) => (.trap (accessFault k), s.hartFault c p)
      | (.val pte, s) =>
        if !bitAt pte 0 ∨ (!bitAt pte 1 ∧ bitAt pte 2) ∨ pte / 2 ^ 54 ≠ 0 then (.trap (pageFault k), s)
        else if !bitAt pte 1 ∧ !bitAt pte 3 then
          if bitAt pte 4 || bitAt pte 6 || bitAt pte 7 then (.trap (pageFault k), s)
          else s.walk c k priv va remote n (bits pte 10 44 * 4096)
        else if !s.leafOk c k priv pte ∨ bits pte 10 (9 * n) ≠ 0 then (.trap (pageFault k), s)
        else
          let pa := bits pte 10 44 / 2 ^ (9 * n) * 2 ^ (12 + 9 * n) + va % 2 ^ (12 + 9 * n)
          if bitAt pte 6 && (k != 2 || bitAt pte 7) then (.pa pa, s)
          else if !Config.adUpdate then (.trap (pageFault k), s)
          else if !(s.hart c).pmpOk 1 2 at_ then (.trap (accessFault k), s)
          else
            match s.spStore c at_ 8 (putBit (if k = 2 then putBit pte 7 true else pte) 6 true) remote with
            | (.val _, s) => (.pa pa, s)
            | (.fault p, s) => (.trap (accessFault k), s.hartFault c p)

/-- The physical address of an access in mode `priv`, protected by the PMP. -/
def State.translate (s : State) (c k priv va : Nat) (remote : Rsp) : ARes × State :=
  if !isSp c then (.pa va, s)
  else
    let satp := (s.hart c).csr 0x180
    let (r, s) :=
      if priv = 3 ∨ satp / 2 ^ 60 = 0 then (if va < 2 ^ 56 then (ARes.pa va, s) else (.trap (accessFault k), s))
      else if bits va 38 26 ≠ 0 ∧ bits va 38 26 ≠ 2 ^ 26 - 1 then (.trap (pageFault k), s)
      else s.walk c k priv va remote 3 (satp % 2 ^ 44 * 4096)
    match r with
    | .pa a => if (s.hart c).pmpOk priv (pmpNeed k) a then (.pa a, s) else (.trap (accessFault k), s)
    | t => (t, s)

/-- The mode that data accesses are made in: MPP under MPRV. -/
def State.dataPriv (s : State) (c : Nat) (dbg : Bool) : Nat :=
  let p := if dbg then 3 else (s.hart c).priv
  if isSp c && s.mbit c 17 && p == 3 then s.mpp c else p

/-! ## The result of an instruction -/

/-- It retires, with the next pc and the data address it accessed (load, store, both); or it traps. -/
inductive HRes where
  | ok (s : State) (pc : Nat) (acc : Option (Nat × Bool × Bool))
  | trap (s : State) (cause tval : Nat)
  deriving DecidableEq, Repr

/-- What a word is executed with: the core, debug mode, its pc, its length, the raw word, the answer of another device. -/
structure HCtx where
  c : Nat
  dbg : Bool
  pc : Nat
  len : Nat
  raw : Nat
  remote : Rsp
  deriving DecidableEq, Repr

def HCtx.next (k : HCtx) : Nat := (k.pc + k.len) % 2 ^ xlen k.c
def HCtx.illegal (k : HCtx) (s : State) : HRes := .trap s 2 (if Config.trapValue then k.raw else 0)
/-- Writes a register and goes on. -/
def HCtx.done (k : HCtx) (s : State) (rd v : Nat) : HRes := .ok (s.setX k.c rd v) k.next none
def HCtx.jump (k : HCtx) (s : State) (pc : Nat) : HRes := .ok s (pc % 2 ^ xlen k.c) none

/-- An access of `size` bytes at a virtual address: alignment, translation, the access itself, then what its value does. -/
def HCtx.access (k : HCtx) (s : State) (kind va size : Nat) (ld st : Bool) (f : State → Nat → MRes × State)
    (g : State → Nat → State) : HRes :=
  if va % size ≠ 0 then .trap s (misaligned kind) va
  else
    match s.translate k.c kind (s.dataPriv k.c k.dbg) va k.remote with
    | (.trap cause, s) => .trap s cause va
    | (.pa a, s) =>
      match f s a with
      | (.val v, s) => .ok (g s v) k.next (some (a, ld, st))
      | (.fault p, s) => .trap (s.hartFault k.c p) (accessFault kind) va

def State.hLoad (s : State) (c pa size : Nat) (remote : Rsp) : MRes × State :=
  if isSp c then s.spLoad c pa size remote else s.owlLoad (c - 16) pa size
def State.hStore (s : State) (c pa size v : Nat) (remote : Rsp) : MRes × State :=
  if isSp c then s.spStore c pa size v remote else s.owlStore (c - 16) pa size v

/-- rs1 plus an immediate. -/
def HCtx.ea (k : HCtx) (s : State) (rs1 : Nat) (imm : Int) : Nat := wrapI (xlen k.c) (((s.hart k.c).x rs1 : Int) + imm)

/-! ## Families -/

/-- Loads: LB, LH, LW, LD, LBU, LHU, LWU. -/
def HCtx.load (k : HCtx) (s : State) (w rd rs1 f3 : Nat) : HRes :=
  let x := xlen k.c
  if f3 = 7 ∨ (x = 32 ∧ (f3 = 3 ∨ f3 = 6)) then k.illegal s
  else
    let size := 2 ^ (f3 % 4)
    k.access s 1 (k.ea s rs1 (immI w)) size true false (fun s a => s.hLoad k.c a size k.remote)
      fun s v => s.setX k.c rd (if f3 < 4 then wrapI x (sgn (8 * size) v) else v)

def HCtx.store (k : HCtx) (s : State) (w rs1 rs2 f3 : Nat) : HRes :=
  if 4 ≤ f3 ∨ (f3 = 3 ∧ xlen k.c = 32) then k.illegal s
  else
    let size := 2 ^ f3
    let v := (s.hart k.c).x rs2 % 2 ^ (8 * size)
    k.access s 2 (k.ea s rs1 (immS w)) size false true (fun s a => s.hStore k.c a size v k.remote) fun s _ => s

def HCtx.branch (k : HCtx) (s : State) (w rs1 rs2 f3 : Nat) : HRes :=
  match rvTaken (xlen k.c) f3 ((s.hart k.c).x rs1) ((s.hart k.c).x rs2) with
  | none => k.illegal s
  | some t => if t then k.jump s (wrapI (xlen k.c) ((k.pc : Int) + immB w)) else k.jump s k.next

/-- OP-IMM and OP-IMM-32. -/
def HCtx.opImm (k : HCtx) (s : State) (w rd rs1 f3 : Nat) : HRes :=
  let x := xlen k.c
  let a := (s.hart k.c).x rs1
  let top := if x = 64 then bits w 26 6 else bits w 25 7
  let sra := if x = 64 then 0x10 else 0x20
  let sh := bits w 20 (if x = 64 then 6 else 5)
  match f3 with
  | 1 => if top = 0 then k.done s rd (rvAlu x 1 false a sh) else k.illegal s
  | 5 => if top = 0 ∨ top = sra then k.done s rd (rvAlu x 5 (top == sra) a sh) else k.illegal s
  | _ => k.done s rd (rvAlu x f3 false a (wrapI x (immI w)))
def HCtx.opImm32 (k : HCtx) (s : State) (w rd rs1 f3 : Nat) : HRes :=
  let a := (s.hart k.c).x rs1 % 2 ^ 32
  let f7 := bits w 25 7
  let sh := bits w 20 5
  if xlen k.c = 32 then k.illegal s
  else
    match f3 with
    | 0 => k.done s rd (sext32 64 (rvAlu 32 0 false a (wrapI 32 (immI w))))
    | 1 => if f7 = 0 then k.done s rd (sext32 64 (rvAlu 32 1 false a sh)) else k.illegal s
    | 5 => if f7 = 0 ∨ f7 = 0x20 then k.done s rd (sext32 64 (rvAlu 32 5 (f7 == 0x20) a sh)) else k.illegal s
    | _ => k.illegal s

/-- OP and OP-32. -/
def HCtx.op (k : HCtx) (s : State) (w rd rs1 rs2 f3 : Nat) : HRes :=
  let x := xlen k.c
  let a := (s.hart k.c).x rs1
  let b := (s.hart k.c).x rs2
  match bits w 25 7 with
  | 0 => k.done s rd (rvAlu x f3 false a b)
  | 0x20 => if f3 = 0 ∨ f3 = 5 then k.done s rd (rvAlu x f3 true a b) else k.illegal s
  | 1 => k.done s rd (rvMul x f3 a b)
  | _ => k.illegal s
def HCtx.op32 (k : HCtx) (s : State) (w rd rs1 rs2 f3 : Nat) : HRes :=
  let a := (s.hart k.c).x rs1 % 2 ^ 32
  let b := (s.hart k.c).x rs2 % 2 ^ 32
  if xlen k.c = 32 then k.illegal s
  else
    match bits w 25 7 with
    | 0 => if f3 = 0 ∨ f3 = 1 ∨ f3 = 5 then k.done s rd (sext32 64 (rvAlu 32 f3 false a b)) else k.illegal s
    | 0x20 => if f3 = 0 ∨ f3 = 5 then k.done s rd (sext32 64 (rvAlu 32 f3 true a b)) else k.illegal s
    | 1 => if f3 = 0 ∨ 4 ≤ f3 then k.done s rd (sext32 64 (rvMul 32 f3 a b)) else k.illegal s
    | _ => k.illegal s

/-- The atomic operation of a function code. -/
def amoOf (f5 : Nat) : Option Amo :=
  match f5 with
  | 0 => some .add | 1 => some .swap | 4 => some .xor | 8 => some .or | 0xC => some .and
  | 0x10 => some .min | 0x14 => some .max | 0x18 => some .minu | 0x1C => some .maxu
  | _ => none

/-- A atomics: the address is a register's; the old value is sign-extended. -/
def HCtx.amo (k : HCtx) (s : State) (w rd rs1 rs2 f3 : Nat) : HRes :=
  let h := s.hart k.c
  let va := h.x rs1
  let size := 2 ^ f3
  let v := h.x rs2
  let f5 := bits w 27 5
  let ext := fun (u : Nat) => wrapI 64 (sgn (8 * size) u)
  if !isSp k.c ∨ (f3 ≠ 2 ∧ f3 ≠ 3) then k.illegal s
  else if f5 = 2 then
    if rs2 ≠ 0 then k.illegal s
    else k.access s 1 va size true false (fun s a => s.spLr k.c a size) fun s u => s.setX k.c rd (ext u)
  else if f5 = 3 then
    k.access s 2 va size false true (fun s a => s.spSc k.c a size v) fun s u => s.setX k.c rd u
  else
    match amoOf f5 with
    | some f => k.access s 2 va size true true (fun s a => s.spAmo k.c a size f v) fun s u => s.setX k.c rd (ext u)
    | none => k.illegal s

/-- Zicsr: CSRRW, CSRRS, CSRRC and their immediate forms. -/
def HCtx.csrOp (k : HCtx) (s : State) (w rd rs1 f3 : Nat) : HRes :=
  let n := bits w 20 12
  let src := if 5 ≤ f3 then rs1 else (s.hart k.c).x rs1
  let write := f3 % 4 == 1 || rs1 != 0
  match s.csrVal k.c k.dbg n with
  | none => k.illegal s
  | some v =>
    if !s.csrAllowed k.c k.dbg n write then k.illegal s
    else
      let s := if csrDraws n then s.drew else s
      let held := s.csrHeld k.c n v
      let new := match f3 % 4 with
        | 1 => src
        | 2 => held ||| src
        | _ => held - (held &&& src)
      k.done (if write then s.csrWrite k.c n new else s) rd v

/-- SYSTEM instructions without a CSR. -/
def HCtx.system (k : HCtx) (s : State) (w : Nat) : HRes :=
  let pr := if k.dbg then 3 else (s.hart k.c).priv
  let sp := isSp k.c
  if w = 0x73 then .trap s (8 + pr) 0
  else if w = 0x100073 then .trap s 3 (if Config.trapValue then k.pc else 0)
  else if w = 0x30200073 then
    if pr = 3 then
      let (pc, s) := s.mret k.c
      k.jump s pc
    else k.illegal s
  else if w = 0x10200073 ∧ sp then
    if pr = 0 ∨ (pr = 1 ∧ s.mbit k.c 22) then k.illegal s
    else
      let (pc, s) := s.sret k.c
      k.jump s pc
  else if w = 0x10500073 then
    if sp ∧ (pr = 0 ∨ (pr = 1 ∧ s.mbit k.c 21)) then k.illegal s
    else
      let s := s.setHart k.c { s.hart k.c with wfi := true }
      .ok (if sp then s.wr (spB k.c) SP_STAT.STATE spWFI else s) k.next none
  else if bits w 25 7 = 9 ∧ bits w 7 5 = 0 ∧ sp then
    if pr = 0 ∨ (pr = 1 ∧ s.mbit k.c 20) then k.illegal s else .ok s k.next none
  else k.illegal s

/-- F and D loads and stores. -/
def HCtx.fLoad (k : HCtx) (s : State) (w rd rs1 f3 : Nat) : HRes :=
  if !isSp k.c ∨ s.fs k.c = 0 ∨ (f3 ≠ 2 ∧ f3 ≠ 3) then k.illegal s
  else
    let size := 2 ^ f3
    k.access s 1 (k.ea s rs1 (immI w)) size true false (fun s a => s.spLoad k.c a size k.remote) fun s v =>
      (s.setHart k.c { s.hart k.c with fregs := KV.set 0 rd (fBox (f3 == 3) v) (s.hart k.c).fregs }).dirtyF k.c
def HCtx.fStore (k : HCtx) (s : State) (w rs1 rs2 f3 : Nat) : HRes :=
  if !isSp k.c ∨ s.fs k.c = 0 ∨ (f3 ≠ 2 ∧ f3 ≠ 3) then k.illegal s
  else
    let size := 2 ^ f3
    let v := (s.hart k.c).f rs2 % 2 ^ (8 * size)
    k.access s 2 (k.ea s rs1 (immS w)) size false true (fun s a => s.spStore k.c a size v k.remote) fun s _ => s

/-- OP-FP and the fused operations: the result register, the accrued flags, FS dirty. -/
def HCtx.fp (k : HCtx) (s : State) (w rd rs1 rs2 : Nat) : HRes :=
  let h := s.hart k.c
  if !isSp k.c ∨ s.fs k.c = 0 then k.illegal s
  else
    match fpExec w (h.x rs1) (h.f rs1) (h.f rs2) (h.f (bits w 27 5)) (h.csr 3 / 32) with
    | none => k.illegal s
    | some r =>
      let s := s.setCsr k.c 3 (h.csr 3 ||| r.flags)
      let s := if r.toX then s.setX k.c rd r.v
        else s.setHart k.c { s.hart k.c with fregs := KV.set 0 rd r.v (s.hart k.c).fregs }
      .ok (if r.toX ∧ r.flags = 0 then s else s.dirtyF k.c) k.next none

/-- The meaning of a 32-bit instruction word. -/
def HCtx.exec (k : HCtx) (s : State) (w : Nat) : HRes :=
  let rd := bits w 7 5
  let rs1 := bits w 15 5
  let rs2 := bits w 20 5
  let f3 := bits w 12 3
  let x := xlen k.c
  match w % 128 with
  | 0x37 => k.done s rd (wrapI x (immU w))
  | 0x17 => k.done s rd (wrapI x ((k.pc : Int) + immU w))
  | 0x6F => k.jump (s.setX k.c rd k.next) (wrapI x ((k.pc : Int) + immJ w))
  | 0x67 => if f3 = 0 then k.jump (s.setX k.c rd k.next) (k.ea s rs1 (immI w) / 2 * 2) else k.illegal s
  | 0x63 => k.branch s w rs1 rs2 f3
  | 0x03 => k.load s w rd rs1 f3
  | 0x23 => k.store s w rs1 rs2 f3
  | 0x13 => k.opImm s w rd rs1 f3
  | 0x1B => k.opImm32 s w rd rs1 f3
  | 0x33 => k.op s w rd rs1 rs2 f3
  | 0x3B => k.op32 s w rd rs1 rs2 f3
  | 0x0F =>
    if f3 = 0 then .ok s k.next none
    else if f3 = 1 ∧ isSp k.c then .ok (s.fenceI k.c) k.next none
    else k.illegal s
  | 0x2F => k.amo s w rd rs1 rs2 f3
  | 0x07 => k.fLoad s w rd rs1 f3
  | 0x27 => k.fStore s w rs1 rs2 f3
  | 0x43 | 0x47 | 0x4B | 0x4F | 0x53 => k.fp s w rd rs1 rs2
  | 0x73 => if f3 % 4 = 0 then (if f3 = 0 then k.system s w else k.illegal s) else k.csrOp s w rd rs1 f3
  | _ => k.illegal s

/-- The 32-bit word that fetched parcels stand for: a compressed one expanded. -/
def rvWord (c raw len : Nat) : Option Nat := if len = 4 then some raw else expand (xlen c) raw

/-- Executes fetched parcels. -/
def HCtx.run (k : HCtx) (s : State) : HRes :=
  match rvWord k.c k.raw k.len with
  | some w => k.exec s w
  | none => k.illegal s

end Sys2Proof.Machine
end

