-- ==== Sys2Proof/Machine/Sp.lean ====
section
/-! DEFINITION. The RISC-V cores at work (12_processors_locks_debug.md R366 to R376, R387 to R392): one instruction of a running core with
its fetch, interrupts and comparators; the custom CSRs' commands; an instruction fed by Den. -/
namespace Sys2Proof.Machine

open Sys2Proof (Rsp)

/-- The core runs: powered, clocked, out of reset, not halted (R374, R387, R503, R504). -/
def State.executing (s : State) (c : Nat) : Bool :=
  let d := hartDie c
  !s.por && s.hib == 0 && !(s.hart c).halted &&
  (if isSp c then
    s.rd (spB c) SP_STAT.STATE != spRESET && bitAt (s.rd (ckpB d) (gstFld 0)) (16 + c % 4) && !s.domStopped d 3
  else !s.domStopped d 0)

/-- The core halts at this instruction boundary. -/
def State.stopCore (s : State) (c : Nat) : State :=
  let s := s.setHart c { s.hart c with halted := true, haltReq := false, stepping := false, stopAt := s.now }
  if isSp c then s.wr (spB c) SP_STAT.STATE spHALTED else s
/-- A single step ends in a halt. -/
def State.afterStep (s : State) (c : Nat) : State := if (s.hart c).stepping then s.stopCore c else s

/-- The word writes the retired-instruction counter itself. -/
def writesInstret (w : Nat) : Bool :=
  w % 128 == 0x73 && bits w 12 2 != 0 && (bits w 20 12 == 0xB02 || bits w 20 12 == 0xB82) &&
  (bits w 12 2 == 1 || bits w 15 5 != 0)
def State.countInstret (s : State) (c raw : Nat) : State :=
  if bitAt ((s.hart c).csr 0x320) 2 || writesInstret raw then s else s.setCsr c 0xB02 ((s.hart c).csr 0xB02 + 1)

/-- Comparators of a core (R389). -/
def hartCmps (c : Nat) : Nat := if isSp c then 8 else 4

/-- An instruction has completed: the pc, the counter, the data comparators (a breakpoint they raise follows it), the end of a step. -/
def State.retire (s : State) (c raw pc : Nat) (acc : Option (Nat × Bool × Bool)) : State :=
  let s := s.setHart c { s.hart c with pc := pc, passCmp := false }
  let s := s.countInstret c raw
  match acc with
  | none => s.afterStep c
  | some (a, ld, st) =>
    match s.compare (hartDie c) c (hartCmps c) ((if ld then [1] else []) ++ (if st then [2] else []) ++ [3]) a with
    | (s, some 0) => s.stopCore c
    | (s, some 1) => (s.takeTrap c pc 3 (if Config.trapValue then a else 0) false).afterStep c
    | (s, _) => s.afterStep c

/-- Executes the parcels of an instruction at the pc. -/
def State.runRaw (s : State) (c raw len : Nat) (remote : Rsp) : State :=
  let pc := (s.hart c).pc
  match (HCtx.mk c false pc len raw remote).run s with
  | .ok t next acc => t.retire c raw next acc
  | .trap t cause tval =>
    let t := t.setHart c { t.hart c with passCmp := false }
    (t.takeTrap c pc cause tval false).afterStep c

/-- Two bytes of the instruction stream at a virtual address, with their physical address; or a trap. -/
def State.parcel (s : State) (c va : Nat) (first : Bool) (remote : Rsp) : ARes × Nat × State :=
  match s.translate c 0 (s.hart c).priv va remote with
  | (.trap cause, s) => (.trap cause, 0, s)
  | (.pa a, s) =>
    match (if isSp c then s.spFetch c a first remote else s.owlFetch (c - 16) a) with
    | (.val v, s) => (.pa a, v, s)
    | (.fault p, s) => (.trap (accessFault 0), 0, s.hartFault c p)

/-- Fetches and executes the instruction at the pc; a comparator of kind 0 acts before it. -/
def State.fetchRun (s : State) (c : Nat) (remote : Rsp) : State :=
  let pc := (s.hart c).pc
  let fail := fun (s : State) (cause va : Nat) => (s.takeTrap c pc cause va false).afterStep c
  match s.parcel c pc true remote with
  | (.trap cause, _, s) => fail s cause pc
  | (.pa a, lo, s) =>
    let go := fun (s : State) (raw len : Nat) =>
      match (if (s.hart c).passCmp then (s, none) else s.compare (hartDie c) c (hartCmps c) [0] a) with
      | (s, some 0) => s.stopCore c
      | (s, some 1) => fail s 3 (if Config.trapValue then pc else 0)
      | (s, _) => s.runRaw c raw len remote
    if lo % 4 ≠ 3 then go s lo 2
    else
      let va := (pc + 2) % 2 ^ xlen c
      match s.parcel c va (pc % 8 == 6) remote with
      | (.trap cause, _, s) => fail s cause va
      | (.pa _, hi, s) => go s (lo + hi * 2 ^ 16) 4

/-- The non-maskable interrupt of an Owl: its cause and its vector are the firmware's and not given (R507; notes/assumptions/38.md). -/
def State.owlNmi (s : State) (c : Nat) : State :=
  let cause := s.free 32
  let s := s.drew
  let vec := s.free 32
  let s := s.drew
  let s := (s.setCsr c 0x341 (s.hart c).pc).setCsr c 0x342 cause
  s.setHart c { s.hart c with pc := vec, nmi := false, priv := 3 }

/-- A core leaves its wait for interrupt. -/
def State.awake (s : State) (c : Nat) : State :=
  if (s.hart c).wfi then
    let s := s.setHart c { s.hart c with wfi := false }
    if isSp c then s.wr (spB c) SP_STAT.STATE spRUN else s
  else s

/-- One turn of a core: a core asked to halt halts; one that waits goes on waiting until an enabled interrupt is pending; an interrupt is
taken (not in a single step); else the next instruction executes. -/
def State.turn (s : State) (c : Nat) (remote : Rsp) : State :=
  if !s.executing c then s
  else if (s.hart c).haltReq then s.haltDone c
  else if (s.hart c).wfi && s.mip c &&& s.mie c == 0 && !(s.hart c).nmi then s
  else
    let s := s.awake c
    if (s.hart c).nmi then s.owlNmi c
    else
      match (if (s.hart c).stepping then none else s.interrupt c) with
      | some i => s.takeTrap c (s.hart c).pc i 0 true
      | none => s.fetchRun c remote

/-- An SP's next instruction; `remote`: what another device answers to an access of it. -/
def execSpInstruction (n : Fin 16) (remote : Rsp) (s : State) : Out := .next (s.turn n remote)
/-- An Owl's next instruction. -/
def execOwlInstruction (d : Fin 4) (s : State) : Out := .next (s.turn (16 + d) .ack)

/-! ## The custom CSRs as commands (R369, R370, R390): the core executes the CSR instruction next -/

/-- CSRRW rd, csr, rs1 and CSRRS rd, csr, x0. -/
def csrrw (csr rd rs1 : Nat) : Nat := rvI csr rs1 1 rd 0x73
def csrr (csr rd : Nat) : Nat := rvI csr 0 2 rd 0x73

def State.csrTurn (s : State) (c w : Nat) : State :=
  if !s.executing c || (s.hart c).haltReq || (s.hart c).wfi then s else s.runRaw c w 4 .ack

def execSvpset (n : Fin 16) (rd rs1 : Fin 32) (s : State) : Out := .next (s.csrTurn n (csrrw 0x7C0 rd rs1))
def execSvpclr (n : Fin 16) (rd rs1 : Fin 32) (s : State) : Out := .next (s.csrTurn n (csrrw 0x7C1 rd rs1))
def execSvptgl (n : Fin 16) (rd rs1 : Fin 32) (s : State) : Out := .next (s.csrTurn n (csrrw 0x7C2 rd rs1))
def execSvpout (n : Fin 16) (rd : Fin 32) (s : State) : Out := .next (s.csrTurn n (csrr 0x7C3 rd))
def execSvpin (n : Fin 16) (rd : Fin 32) (s : State) : Out := .next (s.csrTurn n (csrr 0x7C4 rd))
def execDterm (core : Fin 20) (rd rs1 : Fin 32) (s : State) : Out := .next (s.csrTurn core (csrrw 0x7C6 rd rs1))
def execDtx (core : Fin 20) (rd rs1 : Fin 32) (s : State) : Out := .next (s.csrTurn core (csrrw 0x7C7 rd rs1))
def execDrxRead (core : Fin 20) (rd : Fin 32) (s : State) : Out := .next (s.csrTurn core (csrr 0x7C8 rd))
def execDrxRelease (core : Fin 20) (rd rs1 : Fin 32) (s : State) : Out := .next (s.csrTurn core (csrrw 0x7C8 rd rs1))
def execDcclean (n : Fin 16) (rd rs1 : Fin 32) (s : State) : Out := .next (s.csrTurn n (csrrw 0x7CA rd rs1))
def execDcflush (n : Fin 16) (rd rs1 : Fin 32) (s : State) : Out := .next (s.csrTurn n (csrrw 0x7CB rd rs1))
def execDcinv (n : Fin 16) (rd rs1 : Fin 32) (s : State) : Out := .next (s.csrTurn n (csrrw 0x7CC rd rs1))

/-! ## Instructions fed by Den (R388) -/

/-- The destination register of a word: none, an F register, or an X register. -/
def insnDest (w : Nat) : Option (Bool × Nat) :=
  let rd := bits w 7 5
  let f5 := bits w 27 5
  match w % 128 with
  | 0x37 | 0x17 | 0x03 | 0x13 | 0x1B | 0x33 | 0x3B | 0x2F => some (false, rd)
  | 0x73 => if bits w 12 3 = 0 then none else some (false, rd)
  | 0x07 | 0x43 | 0x47 | 0x4B | 0x4F => some (true, rd)
  | 0x53 => some (!(f5 == 0x14 || f5 == 0x18 || f5 == 0x1C), rd)
  | _ => none

/-- Branches, jumps, xRET and WFI are refused. -/
def feedRefused (w : Nat) : Bool :=
  w % 128 ∈ [0x63, 0x67, 0x6F] || w == 0x30200073 || w == 0x10200073 || w == 0x10500073

/-- What a fed instruction reports: STATUS 1 OK, 2 EXC, 3 REFUSED; CAUSE; the value written to a destination register. -/
structure FeedRes where
  status : Nat
  cause : Nat := 0
  dres : Option Nat := none
  deriving DecidableEq, Repr

/-- A halted RISC-V core executes one word in M-mode; one that would trap changes nothing. -/
def State.feedHart (s : State) (c word : Nat) (remote : Rsp) : FeedRes × State :=
  let len := if word % 4 = 3 then 4 else 2
  let raw := if len = 4 then word else word % 2 ^ 16
  match rvWord c raw len with
  | some w =>
    if feedRefused w then (⟨3, 0, none⟩, s)
    else
      match (HCtx.mk c true (s.hart c).pc len raw remote).exec s w with
      | .ok t _ _ =>
        (⟨1, 0, (insnDest w).map fun r => if r.1 then (t.hart c).f r.2 else (t.hart c).x r.2⟩, t)
      | .trap _ cause _ => (⟨2, cause, none⟩, s)
  | none => (⟨2, 2, none⟩, s)

/-- DDIN: in debug mode the word written to DEN_DIN; otherwise an illegal instruction. -/
def execDdin (n : Fin 16) (rd : Fin 32) (s : State) : Out :=
  .next (if (s.sp n).halted then (s.feedHart n (csrr 0x7B8 rd) .ack).2 else s.csrTurn n (csrr 0x7B8 rd))

end Sys2Proof.Machine
end

