-- ==== Sys2Proof/Machine/Link.lean ====
section
/-! DEFINITION. What needs the whole register bus: register writes with Den's feed and bus master (12_processors_locks_debug.md R386,
R388, R391), requests at their targets (13_noc_and_die_links.md), transfers of the SACs (11_signal_analysis_cores.md R330, R360,
R361), frames of the links and TLPs and descriptors of the host (15_system_links_and_host.md R476, R477, R492 to R495). -/
namespace Sys2Proof.Machine

open Sys2Proof (Ini Amo MemOp MemReq Rsp Tlp GFrame GHdr)

/-! ## Instructions fed by Den (R388) -/

/-- A halted SAC executes one word; its pending writes complete. The value reported is that of the first register it writes. -/
def State.feedSac (s : State) (c w : Nat) : FeedRes × State :=
  let op := bits w 26 6
  if sacControl op then (⟨3, 0, none⟩, s)
  else
    match ((sacMeaning op).getD opReserved) s c w with
    | .ok t =>
      let x := t.sac c
      let y := x.drain
      (⟨1, 0, x.pend.head?.map fun p => KV.get 0 p.reg y.regs⟩, t.setSac c y)
    | .go _ _ => (⟨3, 0, none⟩, s)
    | .bad _ cause _ => (⟨2, cause, none⟩, s)

/-- DFEED: the selected core, when it is halted, executes the word; DEN_FRES reports. -/
def State.dfeed (s : State) (d v : Nat) (remote : Rsp) : State :=
  let b := denB d
  let core := s.selCore d
  if 96 ≤ core ∨ !s.coreHalted core then s.wr b DEN_STAT.FREJ 1
  else
    let (r, s) := if core < 20 then s.feedHart core v remote else s.feedSac (core - 32) v
    let s := ((s.seqUp b DEN_FRES.SEQ).wr b DEN_FRES.STATUS r.status).wr b DEN_FRES.CAUSE r.cause
    match r.dres with
    | some x => s.wr2 b DRES_LO.V DRES_HI.V x
    | none => s

def execDfeed (d : Fin 4) (tap : Bool) (word : BitVec 32) (remote : Rsp) (s : State) : Out :=
  .next (s.denWrite d tap fun s => s.dfeed d word.toNat remote)

/-! ## The bus master (R391) -/

/-- GO: the previous result is released, the access starts; one under way refuses it. Memory is accessed at natural alignment. -/
def State.bmGo (s : State) (d : Fin 4) : State :=
  let b := denB d
  if (s.bmReq d).isSome then s.wr b DEN_STAT.FREJ 1
  else
    let size := if s.on b DEN_BMCTL.SZ64 then 8 else 4
    let op : MemOp := if s.on b DEN_BMCTL.WR then .wr else .rd
    let data := BitVec.ofNat 512 (s.rd2 b DEN_BMDATA_LO.V DEN_BMDATA_HI.V % 2 ^ (8 * size))
    let make := fun (dev : Option Nat) (a : Nat) =>
      let a := if s.isRegs dev a then a else a / size * size
      (⟨.den d, true, none, op, BitVec.ofNat 40 a, size, data, 0, dev.map (BitVec.ofNat 14)⟩ : MemReq)
    let q := match pAddr (s.rd2 b DEN_BMADDR_LO.V DEN_BMADDR_HI.V) with
      | .near a => some (make none a)
      | .far dev a => some (make (some dev) a)
      | .bad => none
    (((s.seqUp b DEN_BMRES.SEQ).wr b DEN_BMRES.STATUS 0).wr b DEN_BMRES.VALID 0).setBmReq d (some q)

def execDenBmGo (d : Fin 4) (tap sz64 wr : Bool) (s : State) : Out :=
  .next <| s.denWrite d tap fun s =>
    ((s.wrb (denB d) DEN_BMCTL.SZ64 sz64).wrb (denB d) DEN_BMCTL.WR wr).bmGo d

/-- The access completes: OK with the data, POISON with the data as stored, or DECODE. -/
def execDenBmDone (d : Fin 4) (remote : Rsp) (s : State) : Out :=
  .next <|
    let b := denB d
    match s.bmReq d with
    | none => s
    | some q =>
      let (r, s) := match q with
        | some q => s.nocAccess q remote
        | none => (Rsp.decode, s)
      let s := match r with
        | .data v _ => s.wr2 b DEN_BMDATA_LO.V DEN_BMDATA_HI.V v
        | _ => s
      let st := match r with
        | .data _ p => if p = 0 then 1 else 3
        | .ack => 1
        | _ => 2
      ((s.wr b DEN_BMRES.STATUS st).wr b DEN_BMRES.VALID 1).setBmReq d none

/-! ## Register writes with all their effects (R3, R385) -/

/-- A 32-bit register write: to DFEED and DEN_BMCTL by a path that holds the claim it feeds or starts; all else is the bus's. -/
def State.topWriteAt (s : State) (ini : Ini) (tap : Bool) (remote : Rsp) (a : Nat) (v : Word) : Option Place → State
  | some p =>
    let d : Fin 4 := Fin.ofNat 4 p.d
    let mine := p.k == .den && (tap || ini == .pf && !s.por && s.answersTo ini p) && s.denHolds d tap
    if mine && p.off == 0x30 then s.dfeed d v.toNat remote
    else if mine && p.off == 0x80 then
      let s := s.rsvBits p.base 7 v.toNat
      let s := (s.wrb p.base DEN_BMCTL.SZ64 (bitAt v.toNat 2)).wrb p.base DEN_BMCTL.WR (bitAt v.toNat 1)
      if bitAt v.toNat 0 then s.bmGo d else s
    else if tap then s.placeWrite ini true p v
    else s.regWrite ini a v
  | none => s.regWrite ini a v
def State.topWrite (s : State) (ini : Ini) (tap : Bool) (remote : Rsp) (a : Nat) (v : Word) : State :=
  s.topWriteAt ini tap remote a v (placeOf a)

/-- A naturally aligned write of a register, 32 or 64 bits; the lower address first (R3). A misaligned one changes nothing and raises the
reserved-write source. -/
def execRegisterWrite (ini : Ini) (a : BitVec 40) (wide : Bool) (v : BitVec 64) (remote : Rsp) (s : State) : Out :=
  .next <| s.atRegister ini true a fun s =>
    if wide then
      if a.toNat % 8 = 0 then
        (s.topWrite ini false remote a.toNat (v.truncate 32)).topWrite ini false remote (a.toNat + 4) ((v >>> 32).truncate 32)
      else s.reservedWrite (dieOf a.toNat)
    else if a.toNat % 4 = 0 then s.topWrite ini false remote a.toNat (v.truncate 32)
    else s.reservedWrite (dieOf a.toNat)

/-- DBGACC READ and WRITE of a word of a die's Den block: ERROR where the die cannot be reached. -/
def execDbgaccRead (d : Fin 4) (word : BitVec 10) (s : State) : Out :=
  .next <|
    if !s.reachable 0 d then s.drew.dbgacc 2 (s.free 32)
    else
      match placeOf (denB d + 4 * word.toNat) with
      | some p =>
        let (v, s) := s.placeRead (.den d) p
        s.dbgacc 0 v
      | none => s.dbgacc 0 0
def execDbgaccWrite (d : Fin 4) (word : BitVec 10) (v : BitVec 32) (remote : Rsp) (s : State) : Out :=
  .next <|
    let s1 := s.drew.dbgacc (if s.reachable 0 d then 0 else 2) (s.free 32)
    if s.reachable 0 d then s1.topWrite (.den d) true remote (denB d + 4 * word.toNat) v else s1

/-! ## Requests at their targets (R330, R434, R476) -/

/-- An earlier request of the source to the target has not been taken yet: requests of one source are performed in order. -/
def State.behindOwn (s : State) (f : Flight) : Bool :=
  s.flights.any fun e => e.id < f.id && sameSource e.req f.req && e.tgt == f.tgt && e.rsp.isNone &&
    !s.inPort e.id

/-- A target takes the request of a flight: a memory port queues it, registers and on-chip memories answer, the GSL egress sends it in a
DATA frame on the channel of its class. -/
def State.takeRequest (s : State) (f : Flight) : State :=
  let q := f.req
  match f.dst with
  | .dram m pa => s.portAccept f m pa
  | .regs _ =>
    let (r, s) := s.regAccess (fun s a v => s.topWrite q.ini false .ack a v) q
    s.answer f.id r
  | .egress d =>
    s.gslSend (d * 6)
      { type := 1, vc := if q.service then 2 else 0, dst := (q.dev.map (·.toNat)).getD 0, src := s.devnum, pkts := [.req f.id q] }
  | t =>
    let (r, s) := s.serve q t
    s.answer f.id r

def execMemoryRequest (id : Nat) (s : State) : Out :=
  .next <|
    match s.flights.find? fun f => f.id == id with
    | some f => if f.rsp.isNone && !s.inPort id && !s.behindOwn f then s.takeRequest f else s
    | none => s

/-- A data address of a SAC. -/
def sacOfDm (a : Nat) : Option Nat :=
  let o := (a - 0x4200000000) % 0x1000000
  if 0x4200000000 ≤ a ∧ a < 0x4204000000 ∧ 0x800000 ≤ o ∧ o < 0xC00000 ∧ 0x20000 ≤ (o - 0x800000) % 0x40000 then
    some ((a - 0x4200000000) / 0x1000000 * 16 + (o - 0x800000) / 0x40000)
  else none

/-- An access over the NoC to a SAC data bank takes a bank cycle that the core leaves unused, or, having waited 16 cycles, one ahead of the
core, which stalls (R330). -/
def execSacBankAccess (id : Nat) (waited : Bool) (s : State) : Out :=
  .next <|
    match s.flights.find? fun f => f.id == id with
    | some f =>
      match sacOfDm f.req.addr.toNat, f.dst with
      | some c, .mem d =>
        if f.rsp.isNone && !s.behindOwn f then
          let (r, s) := s.serve f.req (.mem d)
          let s := s.answer id r
          if waited && s.sacState c == sacRUN then s.count (sacB c) SAC_CNT_STALL.V else s
        else s
      | _, _ => s
    | none => s

/-! ## Transfers of a SAC (R360 to R362) -/

def State.sacReq (s : State) (c : Fin 64) (op : MemOp) (a data : Nat) (pois : Bool) : MemReq :=
  ⟨.sac c, false, s.sacSite c, op, BitVec.ofNat 40 (a / 8 * 8), 8, BitVec.ofNat 512 data,
    if pois then BitVec.ofNat 8 (2 ^ (a / 8 % 8)) else 0, none⟩

/-- Inbound: 64-bit words from the remote address into data memory; the words that end in an error are not written, the others are
(R558). -/
def State.sacIn (s : State) (c : Fin 64) : Nat → Nat → Nat → Bool × State
  | 0, _, _ => (true, s)
  | n + 1, a, off =>
    let (r, s) := s.nocAccess (s.sacReq c .rd a 0 false) .ack
    match r with
    | .data v p => (s.writeWord ((sacDmAddr c 0 + off) / 8) v 255 (p != 0)).sacIn c n (a + 8) (off + 8)
    | _ => (false, (s.sacIn c n (a + 8) (off + 8)).2)

/-- A 32-bit half of outbound word `i`: as it was at XGO, or as it is now, as `pick` says (R361). -/
def State.sacHalf (s : State) (c : Fin 64) (pick : Nat) (snap : List (Nat × Bool)) (i off k : Nat) : Nat × Bool :=
  let now := s.sacSee c (off / 4 + k)
  if bitAt pick (2 * i + k) then now else snap.getD (2 * i + k) now

/-- The outbound word with its poison. -/
def State.sacWord (s : State) (c : Fin 64) (pick : Nat) (snap : List (Nat × Bool)) (i off : Nat) : Nat × Bool :=
  let lo := s.sacHalf c pick snap i off 0
  let hi := s.sacHalf c pick snap i off 1
  (lo.1 + 2 ^ 32 * hi.1, lo.2 || hi.2)

/-- Outbound: each word is read once (R261). -/
def State.sacOut (s : State) (c : Fin 64) (pick : Nat) (snap : List (Nat × Bool)) : Nat → Nat → Nat → Nat → Bool × State
  | 0, _, _, _ => (true, s)
  | n + 1, i, a, off =>
    let w := s.sacWord c pick snap i off
    let s := s.countChip (sacDmAddr c 0 + off) 8 false
    let sent := s.nocAccess (s.sacReq c .wr a w.1 w.2) .ack
    let rest := sent.2.sacOut c pick snap n (i + 1) (a + 8) (off + 8)
    (rspOk sent.1 && rest.1, rest.2)

/-- A channel's transfer runs and ends: DONE, REJECTED for a descriptor out of its form, ERROR. -/
def execSacTransferDone (c : Fin 64) (ch : Fin 2) (s : State) : Out :=
  .next <|
    match KV.get none ch.val (s.sac c).xfers with
    | some ⟨[w0, w1, w2, w3], snap⟩ =>
      let off := bits w2 0 17
      let len := bits w3 0 18
      let a := w0 + bits w1 0 8 * 2 ^ 32
      if KV.get 0 ch.val (s.sac c).xst ≠ xBUSY then s
      else if bits w1 8 24 ≠ 0 ∨ bits w2 17 14 ≠ 0 ∨ bits w3 18 14 ≠ 0 ∨ off % 8 ≠ 0 ∨ len % 8 ≠ 0 ∨ len < 8 ∨ 131072 < off + len then
        s.sacXEnd c ch xREJECTED
      else
        let (ok, s) :=
          if bitAt w2 31 then s.drew.sacOut c (s.free (len / 4)) snap (len / 8) 0 a off else s.sacIn c (len / 8) a off
        s.sacXEnd c ch (if ok then xDONE else xERROR)
    | _ => s

/-! ## Frames of the system links (R469, R476, R477) -/

/-- A packet for this device: a request is injected as service class without a site, and answered on its channel plus one; a response
reaches the flight it answers, or is late. -/
def State.gslDeliver (s : State) (g : Fin 24) (f : GFrame) (p : Sys2Proof.GPkt) : State :=
  match p with
  | .req tag q =>
    let (r, s) := s.nocAccess { q with ini := .gsl g, service := true, site := none, dev := none } .ack
    s.gslSend g (responseFrame s.devnum f (.rsp tag r))
  | .rsp tag r =>
    if s.flights.any fun e => e.id == tag && e.rsp.isNone then s.flightAnswer tag r
    else s.count (nocB (g / 6)) NOC_CNT_LATE.V

/-- A DATA frame arrives: lost when its AGE has reached GSL_LIFE, else delivered, or forwarded by route (R476, R477, R488). -/
def execGslDataFrame (g : Fin 24) (h : GHdr) (f : GFrame) (s : State) : Out :=
  .next <| s.gslTake g h false (some f.vc) fun s =>
    let f := { f with type := 1, at_ := 0 }
    if s.outlived f then s.gslLost g f
    else if f.dst ≠ s.devnum then s.gslSend g f
    else s.each f.pkts fun p s => s.gslDeliver g f p

/-! ## Host transfers -/

/-- Reads and writes in line packets, over whatever serves them. -/
def State.hostGet (s : State) (w : Who) : List (Nat × Nat) → Got × State
  | [] => (⟨[], [], none⟩, s)
  | (a, n) :: ps =>
    let (r, s) := s.nocAccess ⟨w.ini, w.service, w.site, .rd, BitVec.ofNat 40 a, n, 0, 0, none⟩ .ack
    let (g, s) := s.hostGet w ps
    (g.after r a n, s)
def State.hostPut (s : State) (w : Who) (remote : Rsp) (pois : List Bool) (data : List Byte) : List (Nat × Nat) → Option Rsp × State
  | [] => (none, s)
  | (a, n) :: ps =>
    let (r, s) := s.nocAccessBy (fun s a v => s.topWrite w.ini false remote a v)
      ⟨w.ini, w.service, w.site, .wr, BitVec.ofNat 40 a, n, BitVec.ofNat 512 (leVal (data.take n)),
        BitVec.ofNat 8 (gatherPois a (pois.take n)), none⟩ .ack
    let (e, s) := s.hostPut w remote (pois.drop n) (data.drop n) ps
    (if rspOk r then e else some r, s)

/-! ## TLPs (R385, R492, R493) -/

def State.tlpDone (s : State) (c : PcieCpl) : State := { s with host := { s.host with last := some c } }
/-- Unsupported Request; for a decode error it is counted. -/
def State.unsupported (s : State) (count : Bool) : State :=
  (if count then s.count (hstB 0) HST_CNT_UR.V else s).tlpDone .unsupported

/-- A TLP served at a local address. -/
def State.tlpLocal (s : State) (w : Who) (t : Tlp) (a : Nat) (remote : Rsp) : State :=
  if t.write then
    match s.hostPut w remote (List.replicate t.data.length t.pois) t.data (packets a t.data.length) with
    | (none, s) => s.tlpDone .ok
    | (some e, s) => s.unsupported (e == .decode)
  else
    let (g, s) := s.hostGet w (packets a t.len)
    match g.err with
    | none => s.tlpDone (.data g.data g.poison)
    | some e => s.unsupported (e == .decode)

/-- A page of words kept by function: the MSI-X table at `lo`, its pending bits reading zero. -/
def State.tlpTable (s : State) (fn : Nat) (t : Tlp) (lo n : Nat) : State :=
  let o := t.offset.toNat
  let key := fun i => fn * 16384 + (o + 4 * i) / 4
  if t.write then
    let h := s.host
    let tab := (List.range (t.data.length / 4)).foldl (fun (m : KV Nat) i =>
      if lo ≤ o + 4 * i ∧ o + 4 * i < lo + 16 * n then KV.set 0 (key i) (leAt t.data (4 * i) 4) m else m) h.msixTab
    { s with host := { h with msixTab := tab, last := some .ok } }
  else
    s.tlpDone (.data ((List.range ((t.len + 3) / 4)).flatMap fun i => leBytes 4 (KV.get 0 (key i) s.host.msixTab)) false)

/-- The page of VF `n`: its window base, its own DMA channels, its MSI-X table. -/
def State.tlpVfPage (s : State) (n : Fin 16) (t : Tlp) : State :=
  let o := t.offset.toNat
  if o < 0x1000 then
    if t.write then
      if o = 0 then
        { s with host := { s.host with vfBase := KV.set 0 n.val (leVal t.data % 256) s.host.vfBase, last := some .ok } }
      else s.tlpDone .ok
    else s.tlpDone (.data (leBytes t.len (if o = 0 then KV.get 0 n.val s.host.vfBase else 0)) false)
  else if o < 0x1800 then
    let c := (o - 0x1000) / 0x40
    if s.dmaSite c = some n then
      let q : MemReq := ⟨.vf n, true, none, if t.write then .wr else .rd, BitVec.ofNat 40 (hstB 0 + o), if t.write then t.data.length else t.len,
        BitVec.ofNat 512 (leVal t.data), 0, none⟩
      let (r, s) := s.regAccess (fun s a v => s.regWrite (.vf n) a v) q
      match r with
      | .data v _ => s.tlpDone (.data (leBytes t.len v) false)
      | _ => s.tlpDone .ok
    else if t.write then s.tlpDone .ok
    else s.tlpDone (.data (leBytes t.len 0) false)
  else s.tlpTable (n + 1) t 0x8000 8

/-- A memory TLP to a BAR; a function in D3hot, a VF that is not enabled, a link that is down and an offset beyond the BAR are not
supported. -/
def execPcieMemoryRequest (t : Tlp) (remote : Rsp) (s : State) : Out :=
  .next <|
    let o := t.offset.toNat
    let fn := fnNo t.fn
    let b := hstB 0
    if s.por ∨ !s.ready 0 rdyHST ∨ fn ∈ s.host.d3 ∨ (t.fn.isSome ∧ !s.host.vfOn) then s.unsupported false
    else
      match t.fn, t.bar.val with
      | none, 0 =>
        if o < 2 ^ 32 then s.tlpLocal ⟨.pf, true, none⟩ t (0x7F00000000 + o) remote else s.unsupported false
      | none, 1 =>
        if o + t.len ≤ 2 ^ (30 + s.host.bar2) then
          s.tlpLocal ⟨.pf, true, none⟩ t (s.rd b HST_W2BASE_LO.V * 2 ^ 30 + s.rd b HST_W2BASE_HI.V * 2 ^ 32 + o) remote
        else s.unsupported false
      | none, _ => if o < 0x10000 then s.tlpTable 0 t 0 64 else s.unsupported false
      | some n, 0 => if o < 0x10000 then s.tlpVfPage n t else s.unsupported false
      | some n, 1 =>
        if o + t.len ≤ 2 ^ 32 then
          s.tlpLocal ⟨.vf n, true, some n⟩ t (KV.get 0 n.val s.host.vfBase * 2 ^ 32 + o) remote
        else s.unsupported false
      | some _, _ => s.unsupported false

/-! ## DMA descriptors (R494, R495) -/

/-- The oldest descriptor of a channel ends. `host`: the data the host returned, with the poison of each byte's TLP; `hostErr`: the host answered with an
error; `remote`: what another device answered. -/
def execDmaDescriptorDone (c : Fin 32) (host : List Byte) (pois : List Bool) (hostErr : Bool) (remote : Rsp) (s : State) : Out :=
  .next <| s.atBlock .hst 0 0 fun s =>
    match (s.dma c).active with
    | [] => s
    | e :: _ =>
      let far := e.dev / 2 ^ 40 ≠ s.devnum
      let a := e.dev % 2 ^ 40
      let w : Who := ⟨.dma c, true, e.site⟩
      if e.bad then s.dmaEnd c 5
      else if !e.toHost then
        if hostErr then s.dmaEnd c 4
        else
          let (err, s) := if far then ((if rspOk remote then none else some remote), s)
            else s.hostPut w .ack pois (host.take e.len) (packets a (min e.len host.length))
          match err with
          | some _ => s.dmaEnd c 3
          | none => s.dmaEnd c (if pois.any id then 2 else 1)
      else
        let (g, s) := if far then
            ((match remote with
              | .data v p => ⟨leBytes e.len v, (List.range e.len).map fun j => bitAt p (j / 8), none⟩
              | r => ⟨[], [], some r⟩ : Got), s)
          else s.hostGet w (packets a e.len)
        match g.err with
        | some _ => s.dmaEnd c 3
        | none =>
          if hostErr then s.dmaEnd c 4
          else (s.setDma c { s.dma c with out := some (e.host, g.data, g.pois) }).dmaEnd c (if g.poison then 2 else 1)

end Sys2Proof.Machine
end

