-- ==== Sys2Proof/Machine/Training.lean ====
section
/-! DEFINITION. The end of a die-to-die bundle's training (13_noc_and_die_links.md R27, R418 to R420): its lanes are chosen by the factory
fuses, the D2D lane record in Sett and the measured eyes. -/
namespace Sys2Proof.Machine

/-- Retired lanes of bundle `n` received by die `d` on edge `e`, as the D2D lane record of the joint holds them: type 0x0401, KEY = joint, in
the store of its lower-numbered die, the lower-numbered sender first, 16 bits a bundle (R419, R422). -/
def State.retiredLanes (s : State) (d e n : Nat) : Nat :=
  match s.ownRec (min d (peerOf d e)) 0x0401 (jointOf d e) with
  | some r => leAt r.data (2 * ((if peerOf d e < d then 0 else 21) + n)) 2 % 2 ^ 11
  | none => 0

/-- Lanes whose horizontal eye, in 1/1,024 UI and 16 bits a lane, is not below 0.35 UI (R419). -/
def goodEyes (eyes : Nat) : Nat :=
  ((List.range 11).filter fun p => 35 * 1024 ≤ 100 * bits eyes (16 * p) 16).foldl (fun m p => m + 2 ^ p) 0

/-- The eyes of the 11 lanes, 16 bits a lane, from words of three lanes. -/
def eyeWord (e0 e1 e2 : BitVec 48) (e3 : BitVec 32) : Nat := e0.toNat + 2 ^ 48 * e1.toNat + 2 ^ 96 * e2.toNat + 2 ^ 144 * e3.toNat

/-- The training of a bundle ends; a service bundle first checks the partner's ROT (R27, R419, R420). `e0` to `e3` are the measured horizontal
eyes of its lanes, three lanes a word from lane 0, `rot` the ROT received. -/
def execD2dTrainingDone (d : Fin 4) (e : Fin 2) (n : Fin 21) (e0 e1 e2 : BitVec 48) (e3 : BitVec 32) (rot : BitVec 2)
    (s : State) : Out :=
  .next <|
    let k := bundleNo d e n
    let eyes := eyeWord e0 e1 e2 e3
    if s.bundleState d e n ≠ 1 ∨ !(s.bundle k).launched then s
    else if n.val = 20 ∧ rot.toNat ≠ peerOf d e then
      (s.pairFailed d e).raise d 85 none d
    else
      let s := s.setBundle k { s.bundle k with eyes := eyes }
      let s := (s.chooseLanes d e n (Config.laneFuses k).toNat (goodEyes eyes) (s.retiredLanes d e n)).bundleStat d e n
      let st := s.laneState d e n
      let s := s.wr (bundleB d e n) D2D_BST.STATE st
      let s := if st = 0 ∧ n.val = 20 then s.raise d 85 none d
        else if st = 0 ∧ 16 ≤ n.val then s.raise d 88 none d
        else s
      let s := (s.jointReady (jointOf d e)).nocReadyUp
      if n.val = 20 then s.each [0, 2] fun g s => s.arpPartnerReady g else s

end Sys2Proof.Machine
end

