-- ==== Sys2Proof/Machine/Dispatch.lean ====
section
/-! DEFINITION. The command's meaning: one arm per row of the opcode table. -/
namespace Sys2Proof.Machine

open Sys2Proof

def exec (i : Instr) (s : State) : Host.Outcome State Fault Refusal :=
  match i with
  | .registerWrite ini a wide v remote => Sys2Proof.Machine.execRegisterWrite ini a wide v remote s
  | .badSizeAccess ini write a => Sys2Proof.Machine.execBadSizeAccess ini write a s
  | .commitGo ini a => Sys2Proof.Machine.execCommitGo ini a s
  | .commitDiscard ini a => Sys2Proof.Machine.execCommitDiscard ini a s
  | .tcbCommitApply b => Sys2Proof.Machine.execTcbCommitApply b s
  | .porAssert => Sys2Proof.Machine.execPorAssert s
  | .porRelease straps => Sys2Proof.Machine.execPorRelease straps s
  | .readyPoll d => Sys2Proof.Machine.execReadyPoll d s
  | .devnumWrite d v => Sys2Proof.Machine.execDevnumWrite d v s
  | .safeNetLow p q => Sys2Proof.Machine.execSafeNetLow p q s
  | .safeNetMismatch => Sys2Proof.Machine.execSafeNetMismatch s
  | .epochStartPulse => Sys2Proof.Machine.execEpochStartPulse s
  | .epochPulse => Sys2Proof.Machine.execEpochPulse s
  | .guestDiscovery d => Sys2Proof.Machine.execGuestDiscovery d s
  | .guestSidebandTimeout d => Sys2Proof.Machine.execGuestSidebandTimeout d s
  | .guestAdmissionDone d id gver banks caps trained link => Sys2Proof.Machine.execGuestAdmissionDone d id gver banks caps trained link s
  | .arpLinkDown d => Sys2Proof.Machine.execArpLinkDown d s
  | .arpHeartbeatTimeout d => Sys2Proof.Machine.execArpHeartbeatTimeout d s
  | .arpRetrainDone d up => Sys2Proof.Machine.execArpRetrainDone d up s
  | .arpOverTemperature d temp => Sys2Proof.Machine.execArpOverTemperature d temp s
  | .arpTempSample d t0 t1 t2 t3 => Sys2Proof.Machine.execArpTempSample d t0 t1 t2 t3 s
  | .vccbOutOfWindow b mv => Sys2Proof.Machine.execVccbOutOfWindow b mv s
  | .vccbReturn b mv => Sys2Proof.Machine.execVccbReturn b mv s
  | .vttOvercurrent b ma => Sys2Proof.Machine.execVttOvercurrent b ma s
  | .vttRecover b ma => Sys2Proof.Machine.execVttRecover b ma s
  | .channelWordTake ch w poison c v => Sys2Proof.Machine.execChannelWordTake ch w poison c v s
  | .failWordDelivery => Sys2Proof.Machine.execFailWordDelivery s
  | .roleWrite ch v => Sys2Proof.Machine.execRoleWrite ch v s
  | .roleMidpoint ch => Sys2Proof.Machine.execRoleMidpoint ch s
  | .roleTransitionDone ch => Sys2Proof.Machine.execRoleTransitionDone ch s
  | .tcbEnWrite b v => Sys2Proof.Machine.execTcbEnWrite b v s
  | .tcbSafeWrite b v => Sys2Proof.Machine.execTcbSafeWrite b v s
  | .blankEnd b pin => Sys2Proof.Machine.execBlankEnd b pin s
  | .capptrWrite ch v => Sys2Proof.Machine.execCapptrWrite ch v s
  | .etcGo b => Sys2Proof.Machine.execEtcGo b s
  | .etcAck b => Sys2Proof.Machine.execEtcAck b s
  | .etcTrigger b uv => Sys2Proof.Machine.execEtcTrigger b uv s
  | .reflectStepLaunch ch rising => Sys2Proof.Machine.execReflectStepLaunch ch rising s
  | .etcDone b => Sys2Proof.Machine.execEtcDone b s
  | .etcTimeout b => Sys2Proof.Machine.execEtcTimeout b s
  | .tcbCntClr b v => Sys2Proof.Machine.execTcbCntClr b v s
  | .driftMeasure b need => Sys2Proof.Machine.execDriftMeasure b need s
  | .driftApply point => Sys2Proof.Machine.execDriftApply point s
  | .driftLate b => Sys2Proof.Machine.execDriftLate b s
  | .calRecordLoad b errs => Sys2Proof.Machine.execCalRecordLoad b errs s
  | .vttWrite b v => Sys2Proof.Machine.execVttWrite b v s
  | .vrefbWrite b v => Sys2Proof.Machine.execVrefbWrite b v s
  | .arpCommitApply d => Sys2Proof.Machine.execArpCommitApply d s
  | .pmuGo b => Sys2Proof.Machine.execPmuGo b s
  | .pmuAck b => Sys2Proof.Machine.execPmuAck b s
  | .pmuSettleEnd b => Sys2Proof.Machine.execPmuSettleEnd b s
  | .pmuMeasureDone b amps volts uv code => Sys2Proof.Machine.execPmuMeasureDone b amps volts uv code s
  | .pmuOldRangeDisconnect b => Sys2Proof.Machine.execPmuOldRangeDisconnect b s
  | .pmuRangeSettled b => Sys2Proof.Machine.execPmuRangeSettled b s
  | .siteReset st => Sys2Proof.Machine.execSiteReset st s
  | .siteQuiesced st => Sys2Proof.Machine.execSiteQuiesced st s
  | .siteRelease st => Sys2Proof.Machine.execSiteRelease st s
  | .psqNext p => Sys2Proof.Machine.execPsqNext p s
  | .psqRepeat r => Sys2Proof.Machine.execPsqRepeat r s
  | .psqLoop p => Sys2Proof.Machine.execPsqLoop p s
  | .psqEndloop p => Sys2Proof.Machine.execPsqEndloop p s
  | .psqJump p => Sys2Proof.Machine.execPsqJump p s
  | .psqCall p => Sys2Proof.Machine.execPsqCall p s
  | .psqRet p => Sys2Proof.Machine.execPsqRet p s
  | .psqHalt p => Sys2Proof.Machine.execPsqHalt p s
  | .psqJfail p => Sys2Proof.Machine.execPsqJfail p s
  | .psqJpass p => Sys2Proof.Machine.execPsqJpass p s
  | .psqClrf p => Sys2Proof.Machine.execPsqClrf p s
  | .psqMatch p => Sys2Proof.Machine.execPsqMatch p s
  | .matchResult p c => Sys2Proof.Machine.execMatchResult p c s
  | .matchTimeout p => Sys2Proof.Machine.execMatchTimeout p s
  | .psqSync p => Sys2Proof.Machine.execPsqSync p s
  | .syncTickReached p => Sys2Proof.Machine.execSyncTickReached p s
  | .psqPace p => Sys2Proof.Machine.execPsqPace p s
  | .psqEndpace p => Sys2Proof.Machine.execPsqEndpace p s
  | .paceSlotReached p => Sys2Proof.Machine.execPaceSlotReached p s
  | .psqMark p => Sys2Proof.Machine.execPsqMark p s
  | .psqTrig p => Sys2Proof.Machine.execPsqTrig p s
  | .trigDelivery => Sys2Proof.Machine.execTrigDelivery s
  | .psqStrm p => Sys2Proof.Machine.execPsqStrm p s
  | .psqSret p => Sys2Proof.Machine.execPsqSret p s
  | .psqLkstop p => Sys2Proof.Machine.execPsqLkstop p s
  | .psqLkend p => Sys2Proof.Machine.execPsqLkend p s
  | .psqIllegalWord p => Sys2Proof.Machine.execPsqIllegalWord p s
  | .psqConditionSample p ffail poison => Sys2Proof.Machine.execPsqConditionSample p ffail poison s
  | .segmentResident p n => Sys2Proof.Machine.execSegmentResident p n s
  | .patternUnderrun p => Sys2Proof.Machine.execPatternUnderrun p s
  | .urKeepExpire p b c => Sys2Proof.Machine.execUrKeepExpire p b c s
  | .streamLineFill p => Sys2Proof.Machine.execStreamLineFill p s
  | .sdWrite p n reg v => Sys2Proof.Machine.execSdWrite p n reg v s
  | .sdScan p n v => Sys2Proof.Machine.execSdScan p n v s
  | .sdScanDone p n => Sys2Proof.Machine.execSdScanDone p n s
  | .localStoreWrite p off v => Sys2Proof.Machine.execLocalStoreWrite p off v s
  | .psqArm p => Sys2Proof.Machine.execPsqArm p s
  | .psqCmdAck p => Sys2Proof.Machine.execPsqCmdAck p s
  | .psqCmdHalt p => Sys2Proof.Machine.execPsqCmdHalt p s
  | .psqGstop p => Sys2Proof.Machine.execPsqGstop p s
  | .psqStart p => Sys2Proof.Machine.execPsqStart p s
  | .stopReceive p => Sys2Proof.Machine.execStopReceive p s
  | .stopAtReached p => Sys2Proof.Machine.execStopAtReached p s
  | .runningFall p => Sys2Proof.Machine.execRunningFall p s
  | .psqCntClr p v => Sys2Proof.Machine.execPsqCntClr p v s
  | .ptbBoundary => Sys2Proof.Machine.execPtbBoundary s
  | .ptbDeferredStep => Sys2Proof.Machine.execPtbDeferredStep s
  | .ptbSnap d => Sys2Proof.Machine.execPtbSnap d s
  | .ptbReload d => Sys2Proof.Machine.execPtbReload d s
  | .ptbRequestSend frac => Sys2Proof.Machine.execPtbRequestSend frac s
  | .ptbRequestAnswer g t2frac t3frac wait => Sys2Proof.Machine.execPtbRequestAnswer g t2frac t3frac wait s
  | .ptbResponse t2 t3 t4frac pState pHops => Sys2Proof.Machine.execPtbResponse t2 t3 t4frac pState pHops s
  | .ptbExchangeMissed => Sys2Proof.Machine.execPtbExchangeMissed s
  | .recoveredClockLost => Sys2Proof.Machine.execRecoveredClockLost s
  | .ptbCntClr d v => Sys2Proof.Machine.execPtbCntClr d v s
  | .fcuTagSample d st c tag pois => Sys2Proof.Machine.execFcuTagSample d st c tag pois s
  | .fcuBackendEntry d => Sys2Proof.Machine.execFcuBackendEntry d s
  | .fcuMarkerEntry d st => Sys2Proof.Machine.execFcuMarkerEntry d st s
  | .fcuWriteback d => Sys2Proof.Machine.execFcuWriteback d s
  | .fcuWriteResponse d st => Sys2Proof.Machine.execFcuWriteResponse d st s
  | .fcuPartialLineTimeout d st => Sys2Proof.Machine.execFcuPartialLineTimeout d st s
  | .fsFlush d st => Sys2Proof.Machine.execFsFlush d st s
  | .fsFlushDone d st => Sys2Proof.Machine.execFsFlushDone d st s
  | .fsFack d st => Sys2Proof.Machine.execFsFack d st s
  | .fsFreset d st => Sys2Proof.Machine.execFsFreset d st s
  | .fsCclr d st => Sys2Proof.Machine.execFsCclr d st s
  | .fsBmclr d st => Sys2Proof.Machine.execFsBmclr d st s
  | .fsRdptrWrite d st v => Sys2Proof.Machine.execFsRdptrWrite d st v s
  | .fcuCclr d v => Sys2Proof.Machine.execFcuCclr d v s
  | .rjGo r n st => Sys2Proof.Machine.execRjGo r n st s
  | .rjCancel r n => Sys2Proof.Machine.execRjCancel r n s
  | .rjAck r n => Sys2Proof.Machine.execRjAck r n s
  | .raeJobStart r => Sys2Proof.Machine.execRaeJobStart r s
  | .raeJobEnd r => Sys2Proof.Machine.execRaeJobEnd r s
  | .raeBudgetExhausted r => Sys2Proof.Machine.execRaeBudgetExhausted r s
  | .cellMov r c => Sys2Proof.Machine.execCellMov r c s
  | .cellAdd r c => Sys2Proof.Machine.execCellAdd r c s
  | .cellSub r c => Sys2Proof.Machine.execCellSub r c s
  | .cellRsb r c => Sys2Proof.Machine.execCellRsb r c s
  | .cellAddus r c => Sys2Proof.Machine.execCellAddus r c s
  | .cellSubus r c => Sys2Proof.Machine.execCellSubus r c s
  | .cellNeg r c => Sys2Proof.Machine.execCellNeg r c s
  | .cellAbsd r c => Sys2Proof.Machine.execCellAbsd r c s
  | .cellMinu r c => Sys2Proof.Machine.execCellMinu r c s
  | .cellMaxu r c => Sys2Proof.Machine.execCellMaxu r c s
  | .cellMins r c => Sys2Proof.Machine.execCellMins r c s
  | .cellMaxs r c => Sys2Proof.Machine.execCellMaxs r c s
  | .cellCmp r c => Sys2Proof.Machine.execCellCmp r c s
  | .cellTst r c => Sys2Proof.Machine.execCellTst r c s
  | .cellIncw r c => Sys2Proof.Machine.execCellIncw r c s
  | .cellDecw r c => Sys2Proof.Machine.execCellDecw r c s
  | .cellAnd r c => Sys2Proof.Machine.execCellAnd r c s
  | .cellOr r c => Sys2Proof.Machine.execCellOr r c s
  | .cellXor r c => Sys2Proof.Machine.execCellXor r c s
  | .cellAndn r c => Sys2Proof.Machine.execCellAndn r c s
  | .cellOrn r c => Sys2Proof.Machine.execCellOrn r c s
  | .cellXnor r c => Sys2Proof.Machine.execCellXnor r c s
  | .cellNot r c => Sys2Proof.Machine.execCellNot r c s
  | .cellBitf r c => Sys2Proof.Machine.execCellBitf r c s
  | .cellSelc r c => Sys2Proof.Machine.execCellSelc r c s
  | .cellSelz r c => Sys2Proof.Machine.execCellSelz r c s
  | .cellSeln r c => Sys2Proof.Machine.execCellSeln r c s
  | .cellMuxb r c => Sys2Proof.Machine.execCellMuxb r c s
  | .cellShl r c => Sys2Proof.Machine.execCellShl r c s
  | .cellShr r c => Sys2Proof.Machine.execCellShr r c s
  | .cellSar r c => Sys2Proof.Machine.execCellSar r c s
  | .cellRol r c => Sys2Proof.Machine.execCellRol r c s
  | .cellRor r c => Sys2Proof.Machine.execCellRor r c s
  | .cellShlc r c => Sys2Proof.Machine.execCellShlc r c s
  | .cellShrc r c => Sys2Proof.Machine.execCellShrc r c s
  | .cellRev r c => Sys2Proof.Machine.execCellRev r c s
  | .cellSwap r c => Sys2Proof.Machine.execCellSwap r c s
  | .cellFshl r c => Sys2Proof.Machine.execCellFshl r c s
  | .cellClz r c => Sys2Proof.Machine.execCellClz r c s
  | .cellCtz r c => Sys2Proof.Machine.execCellCtz r c s
  | .cellPopc r c => Sys2Proof.Machine.execCellPopc r c s
  | .cellPmsk r c => Sys2Proof.Machine.execCellPmsk r c s
  | .cellXscr r c => Sys2Proof.Machine.execCellXscr r c s
  | .cellLfsr r c => Sys2Proof.Machine.execCellLfsr r c s
  | .cellGray r c => Sys2Proof.Machine.execCellGray r c s
  | .cellUgray r c => Sys2Proof.Machine.execCellUgray r c s
  | .cellGstep r c => Sys2Proof.Machine.execCellGstep r c s
  | .cellEq r c => Sys2Proof.Machine.execCellEq r c s
  | .cellLtu r c => Sys2Proof.Machine.execCellLtu r c s
  | .cellLts r c => Sys2Proof.Machine.execCellLts r c s
  | .cellBset r c => Sys2Proof.Machine.execCellBset r c s
  | .cellBclr r c => Sys2Proof.Machine.execCellBclr r c s
  | .cellBtst r c => Sys2Proof.Machine.execCellBtst r c s
  | .cellIllegalSlot r c w => Sys2Proof.Machine.execCellIllegalSlot r c w s
  | .storePortAccess r m a b => Sys2Proof.Machine.execStorePortAccess r m a b s
  | .storeServiceAccess id => Sys2Proof.Machine.execStoreServiceAccess id s
  | .frFence r v => Sys2Proof.Machine.execFrFence r v s
  | .frRreset r => Sys2Proof.Machine.execFrRreset r s
  | .rresetEnd r => Sys2Proof.Machine.execRresetEnd r s
  | .frReloc r col => Sys2Proof.Machine.execFrReloc r col s
  | .relocSelftestDone r pass => Sys2Proof.Machine.execRelocSelftestDone r pass s
  | .relocDone r => Sys2Proof.Machine.execRelocDone r s
  | .frRack r => Sys2Proof.Machine.execFrRack r s
  | .repairRecordWrite d => Sys2Proof.Machine.execRepairRecordWrite d s
  | .memoryRequest id => Sys2Proof.Machine.execMemoryRequest id s
  | .aor ini site addr data pois => Sys2Proof.Machine.execAor ini site addr data pois s
  | .pageFillLine m line => Sys2Proof.Machine.execPageFillLine m line s
  | .fillSlotFree m => Sys2Proof.Machine.execFillSlotFree m s
  | .egInv g => Sys2Proof.Machine.execEgInv g s
  | .invSweepDone g => Sys2Proof.Machine.execInvSweepDone g s
  | .egCntClr g v => Sys2Proof.Machine.execEgCntClr g v s
  | .cfeStart d flash => Sys2Proof.Machine.execCfeStart d flash s
  | .cfeCont d => Sys2Proof.Machine.execCfeCont d s
  | .cfeCancel d => Sys2Proof.Machine.execCfeCancel d s
  | .cfeAck d => Sys2Proof.Machine.execCfeAck d s
  | .cfePartReadDone d => Sys2Proof.Machine.execCfePartReadDone d s
  | .cfeWaitTimeout d => Sys2Proof.Machine.execCfeWaitTimeout d s
  | .cfeFrameRecord d flash => Sys2Proof.Machine.execCfeFrameRecord d flash s
  | .cfeSignatureDone d => Sys2Proof.Machine.execCfeSignatureDone d s
  | .cfeReleaseTick d => Sys2Proof.Machine.execCfeReleaseTick d s
  | .cfeRelayOffer d port => Sys2Proof.Machine.execCfeRelayOffer d port s
  | .bootLoadStart d => Sys2Proof.Machine.execBootLoadStart d s
  | .bootFallback d => Sys2Proof.Machine.execBootFallback d s
  | .recoveryFlashLoad flash => Sys2Proof.Machine.execRecoveryFlashLoad flash s
  | .frameCheckRead d upset => Sys2Proof.Machine.execFrameCheckRead d upset s
  | .frameRepair d again errs => Sys2Proof.Machine.execFrameRepair d again errs s
  | .cfeChkClr d v => Sys2Proof.Machine.execCfeChkClr d v s
  | .stage d kind => Sys2Proof.Machine.execStage d kind s
  | .relay d kind => Sys2Proof.Machine.execRelay d kind s
  | .activate d kind => Sys2Proof.Machine.execActivate d kind s
  | .confirm d kind => Sys2Proof.Machine.execConfirm d kind s
  | .recwrite d kind => Sys2Proof.Machine.execRecwrite d kind s
  | .keyinst d kind => Sys2Proof.Machine.execKeyinst d kind s
  | .inval d kind => Sys2Proof.Machine.execInval d kind s
  | .stcAck d => Sys2Proof.Machine.execStcAck d s
  | .settBlockWriteDone d same => Sys2Proof.Machine.execSettBlockWriteDone d same s
  | .stageComplete => Sys2Proof.Machine.execStageComplete s
  | .relayForward => Sys2Proof.Machine.execRelayForward s
  | .settRelayOffer port len => Sys2Proof.Machine.execSettRelayOffer port len s
  | .relayAnswer accepted => Sys2Proof.Machine.execRelayAnswer accepted s
  | .retentionScan d hours found => Sys2Proof.Machine.execRetentionScan d hours found s
  | .retentionRewrite d => Sys2Proof.Machine.execRetentionRewrite d s
  | .owlSettingsWrite d type key data => Sys2Proof.Machine.execOwlSettingsWrite d type key data s
  | .trialStart kind errs => Sys2Proof.Machine.execTrialStart kind errs s
  | .confirmWindowExpire kind => Sys2Proof.Machine.execConfirmWindowExpire kind s
  | .sacNop c => Sys2Proof.Machine.execSacNop c s
  | .sacHalt c => Sys2Proof.Machine.execSacHalt c s
  | .sacWait c => Sys2Proof.Machine.execSacWait c s
  | .sacB c => Sys2Proof.Machine.execSacB c s
  | .sacBc c => Sys2Proof.Machine.execSacBc c s
  | .sacCall c => Sys2Proof.Machine.execSacCall c s
  | .sacRet c => Sys2Proof.Machine.execSacRet c s
  | .sacReti c => Sys2Proof.Machine.execSacReti c s
  | .sacRpt c => Sys2Proof.Machine.execSacRpt c s
  | .sacLoop c => Sys2Proof.Machine.execSacLoop c s
  | .sacLoopEnd c => Sys2Proof.Machine.execSacLoopEnd c s
  | .sacBlke c => Sys2Proof.Machine.execSacBlke c s
  | .sacXgo c => Sys2Proof.Machine.execSacXgo c s
  | .sacSevt c => Sys2Proof.Machine.execSacSevt c s
  | .sacCmac c => Sys2Proof.Machine.execSacCmac c s
  | .sacCmul c => Sys2Proof.Machine.execSacCmul c s
  | .sacDmac c => Sys2Proof.Machine.execSacDmac c s
  | .sacRmac c => Sys2Proof.Machine.execSacRmac c s
  | .sacRmul c => Sys2Proof.Machine.execSacRmul c s
  | .sacCpwr c => Sys2Proof.Machine.execSacCpwr c s
  | .sacAccl c => Sys2Proof.Machine.execSacAccl c s
  | .sacClra c => Sys2Proof.Machine.execSacClra c s
  | .sacMva c => Sys2Proof.Machine.execSacMva c s
  | .sacMvap c => Sys2Proof.Machine.execSacMvap c s
  | .sacCadd c => Sys2Proof.Machine.execSacCadd c s
  | .sacCsub c => Sys2Proof.Machine.execSacCsub c s
  | .sacCaddh c => Sys2Proof.Machine.execSacCaddh c s
  | .sacCsubh c => Sys2Proof.Machine.execSacCsubh c s
  | .sacCxfm c => Sys2Proof.Machine.execSacCxfm c s
  | .sacCmin c => Sys2Proof.Machine.execSacCmin c s
  | .sacCmax c => Sys2Proof.Machine.execSacCmax c s
  | .sacCsha c => Sys2Proof.Machine.execSacCsha c s
  | .sacCand c => Sys2Proof.Machine.execSacCand c s
  | .sacCor c => Sys2Proof.Machine.execSacCor c s
  | .sacCxor c => Sys2Proof.Machine.execSacCxor c s
  | .sacCcmp c => Sys2Proof.Machine.execSacCcmp c s
  | .sacLir c => Sys2Proof.Machine.execSacLir c s
  | .sacLii c => Sys2Proof.Machine.execSacLii c s
  | .sacLdd c => Sys2Proof.Machine.execSacLdd c s
  | .sacStd c => Sys2Proof.Machine.execSacStd c s
  | .sacLd8 c => Sys2Proof.Machine.execSacLd8 c s
  | .sacPset c => Sys2Proof.Machine.execSacPset c s
  | .sacMvs c => Sys2Proof.Machine.execSacMvs c s
  | .sacMsv c => Sys2Proof.Machine.execSacMsv c s
  | .sacReservedOpcode c => Sys2Proof.Machine.execSacReservedOpcode c s
  | .sacInterruptEntry c lat => Sys2Proof.Machine.execSacInterruptEntry c lat s
  | .sacTransferDone c ch => Sys2Proof.Machine.execSacTransferDone c ch s
  | .sacBankAccess id waited => Sys2Proof.Machine.execSacBankAccess id waited s
  | .sacRstWrite c v => Sys2Proof.Machine.execSacRstWrite c v s
  | .sacDbell c => Sys2Proof.Machine.execSacDbell c s
  | .sacHaltreq c => Sys2Proof.Machine.execSacHaltreq c s
  | .sacStart c => Sys2Proof.Machine.execSacStart c s
  | .coreHalted core => Sys2Proof.Machine.execCoreHalted core s
  | .sacXcancel c ch => Sys2Proof.Machine.execSacXcancel c ch s
  | .sacXack c ch => Sys2Proof.Machine.execSacXack c ch s
  | .sacCntClr c v => Sys2Proof.Machine.execSacCntClr c v s
  | .spInstruction n remote => Sys2Proof.Machine.execSpInstruction n remote s
  | .owlInstruction d => Sys2Proof.Machine.execOwlInstruction d s
  | .svpset n rd rs1 => Sys2Proof.Machine.execSvpset n rd rs1 s
  | .svpclr n rd rs1 => Sys2Proof.Machine.execSvpclr n rd rs1 s
  | .svptgl n rd rs1 => Sys2Proof.Machine.execSvptgl n rd rs1 s
  | .svpout n rd => Sys2Proof.Machine.execSvpout n rd s
  | .svpin n rd => Sys2Proof.Machine.execSvpin n rd s
  | .dterm core rd rs1 => Sys2Proof.Machine.execDterm core rd rs1 s
  | .dtx core rd rs1 => Sys2Proof.Machine.execDtx core rd rs1 s
  | .drxRead core rd => Sys2Proof.Machine.execDrxRead core rd s
  | .drxRelease core rd rs1 => Sys2Proof.Machine.execDrxRelease core rd rs1 s
  | .dcclean n rd rs1 => Sys2Proof.Machine.execDcclean n rd rs1 s
  | .dcflush n rd rs1 => Sys2Proof.Machine.execDcflush n rd rs1 s
  | .dcinv n rd rs1 => Sys2Proof.Machine.execDcinv n rd rs1 s
  | .ddin n rd => Sys2Proof.Machine.execDdin n rd s
  | .mtimecmpMatch n => Sys2Proof.Machine.execMtimecmpMatch n s
  | .spSwi n v => Sys2Proof.Machine.execSpSwi n v s
  | .spRstWrite n v => Sys2Proof.Machine.execSpRstWrite n v s
  | .spBootRelease d => Sys2Proof.Machine.execSpBootRelease d s
  | .spXcopy d => Sys2Proof.Machine.execSpXcopy d s
  | .owlFirmwareVerified d k => Sys2Proof.Machine.execOwlFirmwareVerified d k s
  | .owlBoostGrant d => Sys2Proof.Machine.execOwlBoostGrant d s
  | .owlWdogWrite d => Sys2Proof.Machine.execOwlWdogWrite d s
  | .owlWatchdogExpire d => Sys2Proof.Machine.execOwlWatchdogExpire d s
  | .telemetrySample d rec slot late => Sys2Proof.Machine.execTelemetrySample d rec slot late s
  | .lockRead d n who => Sys2Proof.Machine.execLockRead d n who s
  | .lockRelease d n who => Sys2Proof.Machine.execLockRelease d n who s
  | .denPowerOn d => Sys2Proof.Machine.execDenPowerOn d s
  | .trstN => Sys2Proof.Machine.execTrstN s
  | .denTake d tap pcie => Sys2Proof.Machine.execDenTake d tap pcie s
  | .denDrop d tap => Sys2Proof.Machine.execDenDrop d tap s
  | .extest levels cells => Sys2Proof.Machine.execExtest levels cells s
  | .samplePreload levels cells => Sys2Proof.Machine.execSamplePreload levels cells s
  | .idcode => Sys2Proof.Machine.execIdcode s
  | .highz => Sys2Proof.Machine.execHighz s
  | .clamp => Sys2Proof.Machine.execClamp s
  | .extestPulse levels cells => Sys2Proof.Machine.execExtestPulse levels cells s
  | .extestTrain levels cells => Sys2Proof.Machine.execExtestTrain levels cells s
  | .dbgaccRead d word => Sys2Proof.Machine.execDbgaccRead d word s
  | .dbgaccWrite d word v remote => Sys2Proof.Machine.execDbgaccWrite d word v remote s
  | .dbgaccNop d reserved => Sys2Proof.Machine.execDbgaccNop d reserved s
  | .denstat => Sys2Proof.Machine.execDenstat s
  | .bypass code => Sys2Proof.Machine.execBypass code s
  | .denHalt d tap => Sys2Proof.Machine.execDenHalt d tap s
  | .denResume d tap => Sys2Proof.Machine.execDenResume d tap s
  | .denStep d tap => Sys2Proof.Machine.execDenStep d tap s
  | .dfeed d tap word remote => Sys2Proof.Machine.execDfeed d tap word remote s
  | .dtxack d tap => Sys2Proof.Machine.execDtxack d tap s
  | .denDrxWrite d tap v => Sys2Proof.Machine.execDenDrxWrite d tap v s
  | .denBmGo d tap sz64 wr => Sys2Proof.Machine.execDenBmGo d tap sz64 wr s
  | .denBmDone d remote => Sys2Proof.Machine.execDenBmDone d remote s
  | .nocRequestAdmit q => Sys2Proof.Machine.execNocRequestAdmit q s
  | .nocResponse d id => Sys2Proof.Machine.execNocResponse d id s
  | .nocTimeout id => Sys2Proof.Machine.execNocTimeout id s
  | .nocPacketAtDownLink id => Sys2Proof.Machine.execNocPacketAtDownLink id s
  | .nocLinkDown n => Sys2Proof.Machine.execNocLinkDown n s
  | .nocCntClr d v => Sys2Proof.Machine.execNocCntClr d v s
  | .nsClr d v => Sys2Proof.Machine.execNsClr d v s
  | .ntClear d => Sys2Proof.Machine.execNtClear d s
  | .d2dTraining j => Sys2Proof.Machine.execD2dTraining j s
  | .d2dTrainingDone d e n e0 e1 e2 e3 rot => Sys2Proof.Machine.execD2dTrainingDone d e n e0 e1 e2 e3 rot s
  | .d2dFlitReceive d e n ok => Sys2Proof.Machine.execD2dFlitReceive d e n ok s
  | .d2dCrossingFrame d e b bus rest => Sys2Proof.Machine.execD2dCrossingFrame d e b bus rest s
  | .d2dServiceSlot d e slot bad => Sys2Proof.Machine.execD2dServiceSlot d e slot bad s
  | .laneWindowEnd d e n counts => Sys2Proof.Machine.execLaneWindowEnd d e n counts s
  | .laneSwapTrained d e n => Sys2Proof.Machine.execLaneSwapTrained d e n s
  | .laneSwapSwitch d e n => Sys2Proof.Machine.execLaneSwapSwitch d e n s
  | .laneRecordWrite j => Sys2Proof.Machine.execLaneRecordWrite j s
  | .laneRecal d e n => Sys2Proof.Machine.execLaneRecal d e n s
  | .laneRecalDone d e n eye => Sys2Proof.Machine.execLaneRecalDone d e n eye s
  | .d2dSwap d e n lane => Sys2Proof.Machine.execD2dSwap d e n lane s
  | .d2dAck d => Sys2Proof.Machine.execD2dAck d s
  | .mpTraining m answers => Sys2Proof.Machine.execMpTraining m answers s
  | .mpTrainingDone m e => Sys2Proof.Machine.execMpTrainingDone m e s
  | .mpRetrain m => Sys2Proof.Machine.execMpRetrain m s
  | .mpRetrainDone m ok => Sys2Proof.Machine.execMpRetrainDone m ok s
  | .mpAck m => Sys2Proof.Machine.execMpAck m s
  | .mpDqsOscRead m rank => Sys2Proof.Machine.execMpDqsOscRead m rank s
  | .mpZqCal m rank => Sys2Proof.Machine.execMpZqCal m rank s
  | .mpThermalRead m temp => Sys2Proof.Machine.execMpThermalRead m temp s
  | .mpTrackingForce m rank zq => Sys2Proof.Machine.execMpTrackingForce m rank zq s
  | .mpCommandIssue m => Sys2Proof.Machine.execMpCommandIssue m s
  | .requestUrgencyRise m idx => Sys2Proof.Machine.execRequestUrgencyRise m idx s
  | .panicChange d g idx => Sys2Proof.Machine.execPanicChange d g idx s
  | .trefiBoundary m => Sys2Proof.Machine.execTrefiBoundary m s
  | .refsbIssue m set => Sys2Proof.Machine.execRefsbIssue m set s
  | .catchupTimer m set => Sys2Proof.Machine.execCatchupTimer m set s
  | .imeGen d port slot => Sys2Proof.Machine.execImeGen d port slot s
  | .imeLoad d port slot => Sys2Proof.Machine.execImeLoad d port slot s
  | .imeKill d port slot => Sys2Proof.Machine.execImeKill d port slot s
  | .imeKeyDone d => Sys2Proof.Machine.execImeKeyDone d s
  | .imeKeyAck d => Sys2Proof.Machine.execImeKeyAck d s
  | .imeSweepGo m r k => Sys2Proof.Machine.execImeSweepGo m r k s
  | .imeSweepResume m r k => Sys2Proof.Machine.execImeSweepResume m r k s
  | .imeSweepAck m => Sys2Proof.Machine.execImeSweepAck m s
  | .sweepLine m => Sys2Proof.Machine.execSweepLine m s
  | .slotRetire m k => Sys2Proof.Machine.execSlotRetire m k s
  | .gslTrainingAttempt g => Sys2Proof.Machine.execGslTrainingAttempt g s
  | .gslTrainingDone g up => Sys2Proof.Machine.execGslTrainingDone g up s
  | .lmgtFrame g h m => Sys2Proof.Machine.execLmgtFrame g h m s
  | .lmgtRepeat g => Sys2Proof.Machine.execLmgtRepeat g s
  | .gslFrameSend g => Sys2Proof.Machine.execGslFrameSend g s
  | .gslDataFrame g h f => Sys2Proof.Machine.execGslDataFrame g h f s
  | .gslStopFrame g h gid stopAt => Sys2Proof.Machine.execGslStopFrame g h gid stopAt s
  | .relayImageData g h data => Sys2Proof.Machine.execRelayImageData g h data s
  | .gslIdleFrame g h => Sys2Proof.Machine.execGslIdleFrame g h s
  | .gslBadFrame g kind => Sys2Proof.Machine.execGslBadFrame g kind s
  | .gslReservedFrame g => Sys2Proof.Machine.execGslReservedFrame g s
  | .gslNak g h => Sys2Proof.Machine.execGslNak g h s
  | .gslReplayTimeout g => Sys2Proof.Machine.execGslReplayTimeout g s
  | .gslCreditReturnTimer g vc => Sys2Proof.Machine.execGslCreditReturnTimer g vc s
  | .gslCreditStall g => Sys2Proof.Machine.execGslCreditStall g s
  | .gslLockLoss g => Sys2Proof.Machine.execGslLockLoss g s
  | .gslHoldExpire g => Sys2Proof.Machine.execGslHoldExpire g s
  | .gslLifeExpire g => Sys2Proof.Machine.execGslLifeExpire g s
  | .gslFrameAgeExpire g n => Sys2Proof.Machine.execGslFrameAgeExpire g n s
  | .gslKeyLoad g k => Sys2Proof.Machine.execGslKeyLoad g k s
  | .gslKeyKill g k => Sys2Proof.Machine.execGslKeyKill g k s
  | .gslKeyAck g => Sys2Proof.Machine.execGslKeyAck g s
  | .gslKeyRetire g k => Sys2Proof.Machine.execGslKeyRetire g k s
  | .gslCntClr g v => Sys2Proof.Machine.execGslCntClr g v s
  | .perstN asserted => Sys2Proof.Machine.execPerstN asserted s
  | .pcieLinkUp speed width flit => Sys2Proof.Machine.execPcieLinkUp speed width flit s
  | .pcieLinkDown => Sys2Proof.Machine.execPcieLinkDown s
  | .pcieConfigRequest fn r => Sys2Proof.Machine.execPcieConfigRequest fn r s
  | .pcieMemoryRequest t remote => Sys2Proof.Machine.execPcieMemoryRequest t remote s
  | .pfFlr => Sys2Proof.Machine.execPfFlr s
  | .vfFlr n => Sys2Proof.Machine.execVfFlr n s
  | .vfEnableClear => Sys2Proof.Machine.execVfEnableClear s
  | .dmaProdWrite c v => Sys2Proof.Machine.execDmaProdWrite c v s
  | .dmaDescriptor c desc => Sys2Proof.Machine.execDmaDescriptor c desc s
  | .dmaDescriptorDone c host pois hostErr remote => Sys2Proof.Machine.execDmaDescriptorDone c host pois hostErr remote s
  | .dmaCancel c => Sys2Proof.Machine.execDmaCancel c s
  | .dmaResume c => Sys2Proof.Machine.execDmaResume c s
  | .domainSwitchDone d n => Sys2Proof.Machine.execDomainSwitchDone d n s
  | .ckpGateWrite d j v => Sys2Proof.Machine.execCkpGateWrite d j v s
  | .blockGated d j bit => Sys2Proof.Machine.execBlockGated d j bit s
  | .domainDozeStop d n => Sys2Proof.Machine.execDomainDozeStop d n s
  | .refclkLoss d => Sys2Proof.Machine.execRefclkLoss d s
  | .refclkReturn d => Sys2Proof.Machine.execRefclkReturn d s
  | .pllUnlock d p => Sys2Proof.Machine.execPllUnlock d p s
  | .freqMonitorWindow d bad => Sys2Proof.Machine.execFreqMonitorWindow d bad s
  | .pllLock d p => Sys2Proof.Machine.execPllLock d p s
  | .domainRestore d n => Sys2Proof.Machine.execDomainRestore d n s
  | .napEnter r => Sys2Proof.Machine.execNapEnter r s
  | .napExit r => Sys2Proof.Machine.execNapExit r s
  | .napPowerDone r => Sys2Proof.Machine.execNapPowerDone r s
  | .napReload r => Sys2Proof.Machine.execNapReload r s
  | .hibernateGo d v => Sys2Proof.Machine.execHibernateGo d v s
  | .hibernateComplete => Sys2Proof.Machine.execHibernateComplete s
  | .hibernateWake w => Sys2Proof.Machine.execHibernateWake w s
  | .dieReset d byOwl => Sys2Proof.Machine.execDieReset d byOwl s
  | .dieResetDone d => Sys2Proof.Machine.execDieResetDone d s
  | .cdcReadyResume d => Sys2Proof.Machine.execCdcReadyResume d s
  | .blockReset d j v => Sys2Proof.Machine.execBlockReset d j v s
  | .fhInject d v => Sys2Proof.Machine.execFhInject d v s
  | .fhPendClear d j v => Sys2Proof.Machine.execFhPendClear d j v s
  | .fhRelease d v => Sys2Proof.Machine.execFhRelease d v s
  | .faultEscalate d src => Sys2Proof.Machine.execFaultEscalate d src s
  | .fhLogRdWrite d v => Sys2Proof.Machine.execFhLogRdWrite d v s
  | .fhCntClr d v => Sys2Proof.Machine.execFhCntClr d v s
  | .supplyOutOfWindow d n => Sys2Proof.Machine.execSupplyOutOfWindow d n s
  | .dieTemperature d t => Sys2Proof.Machine.execDieTemperature d t s
  | .svpInputChange d n level => Sys2Proof.Machine.execSvpInputChange d n level s
  | .svpFilterAccept d pins => Sys2Proof.Machine.execSvpFilterAccept d pins s
  | .svpTrigPulseEnd d n => Sys2Proof.Machine.execSvpTrigPulseEnd d n s
  | .svpOutWrite d v => Sys2Proof.Machine.execSvpOutWrite d v s
  | .svpLockWrite d v => Sys2Proof.Machine.execSvpLockWrite d v s
  | .uartTxWrite d u b => Sys2Proof.Machine.execUartTxWrite d u b s
  | .uartRxRead d u => Sys2Proof.Machine.execUartRxRead d u s
  | .uartByteSent d u => Sys2Proof.Machine.execUartByteSent d u s
  | .uartByteReceived d u b framing parity => Sys2Proof.Machine.execUartByteReceived d u b framing parity s
  | .i2cGo d idx addr wlen rlen => Sys2Proof.Machine.execI2cGo d idx addr wlen rlen s
  | .i2cAck d idx => Sys2Proof.Machine.execI2cAck d idx s
  | .i2cDone d idx fail data => Sys2Proof.Machine.execI2cDone d idx fail data s
  | .i2cSclTimeout d idx => Sys2Proof.Machine.execI2cSclTimeout d idx s
  | .spiGo d cs len => Sys2Proof.Machine.execSpiGo d cs len s
  | .spiAck d => Sys2Proof.Machine.execSpiAck d s
  | .spiDone d data => Sys2Proof.Machine.execSpiDone d data s
  | .systemLaneRecalibration g lane => Sys2Proof.Machine.execSystemLaneRecalibration g lane s
  | .prbsBitError g n => Sys2Proof.Machine.execPrbsBitError g n s
  | .supplyReturnToRange d n => Sys2Proof.Machine.execSupplyReturnToRange d n s
  | .dieTemperatureReturn d t => Sys2Proof.Machine.execDieTemperatureReturn d t s

end Sys2Proof.Machine
end

