-- ==== Sys2Proof/Safety.lean ====
section
/-! DEFINITION. What counts as a sound state and a safe step, in the terms the statements use. -/
namespace Sys2Proof.Machine

/-- The byte map is in its one canonical form: addresses strictly rising, no byte equal to what an unlisted address reads as. -/
def Memory.wf (m : List Host.Cell) : Bool := KV.wf 0 m

/-- The register file lists each field once, in rising order, and so do the staged values (R8). -/
def State.regsWf (s : State) : Bool := KV.risingFrom 0 s.act && KV.risingFrom 0 s.stg

/-- The invariant of the machine's storage: canonical memory, canonical register file. -/
def State.Inv (s : State) : Prop := Memory.wf s.mem = true ∧ s.regsWf = true

/-- A step is safe when the machine goes on, in a sound state. -/
def SafeStep (s : State) : Prop := ∃ t, step s = .next t ∧ t.Inv

/-! ## How statements say what a command leaves -/

/-- The register field `f` of the block at `b` holds `v`, cut to the field's width: an entry of a list of fields by key. -/
def Fld.is (f : Fld) (b v : Nat) : Nat × Nat := (f.key b, v % 2 ^ f.width)

/-- The value that a list of fields gives the field with key `k`; a field it does not name keeps `old`. -/
def fieldAfter (old k : Nat) : List (Nat × Nat) → Nat
  | [] => old
  | (k', v) :: l => if k = k' then v else fieldAfter old k l

/-- Command `c` completes in `s`: afterwards the register fields listed hold the listed values (the first entry of a field counts), every
other register field holds what it held in `s`, and everything but the register fields is as in `u`. -/
def Gives (c : Instr) (s u : State) (l : List (Nat × Nat)) : Prop :=
  ∃ t, exec c s = .next t ∧ (∀ b f, t.rd b f = fieldAfter (s.rd b f) (f.key b) l) ∧ t = { u with act := t.act }

/-- Command `c` completes in `s` and leaves a state of which `P` holds. -/
def Leads (c : Instr) (s : State) (P : State → Prop) : Prop := ∃ t, exec c s = .next t ∧ P t

/-- A sequencer's next PCLK is due with word `w`: in RUN, no wait, no stop recorded by its tick, and the word passes its checks (R134). -/
def PsqAt (s : State) (p : Nat) (w : PWord) : Prop :=
  s.psqState p = psqRUN ∧ (s.psq p).wait = .none ∧ (∀ t, s.stopAt p = some t → (s.psq p).tick < t) ∧ s.due p = .word w

/-- The commands that issue a pattern word of sequencer `p`, with their opcodes (R135). -/
def psqWords (p : Fin 16) (k : Nat) : List (Nat × Instr) :=
  [(0x00, .psqNext p), (0x01, .psqRepeat ⟨p, k⟩), (0x02, .psqLoop p), (0x03, .psqEndloop p), (0x04, .psqJump p), (0x05, .psqCall p),
   (0x06, .psqRet p), (0x07, .psqHalt p), (0x08, .psqJfail p), (0x09, .psqJpass p), (0x0A, .psqClrf p), (0x0B, .psqMatch p),
   (0x0C, .psqSync p), (0x0D, .psqPace p), (0x0E, .psqEndpace p), (0x0F, .psqMark p), (0x10, .psqTrig p), (0x11, .psqStrm p),
   (0x12, .psqSret p), (0x13, .psqLkstop p), (0x14, .psqLkend p)]

/-- The commands that run an instruction of cell `c` of fabric region `r`, with the opcode and its result function (R233). -/
def cellCommands (r : Fin 256) (c : Fin 8192) : List (Nat × Instr × (CellArgs → CellRes)) :=
  [(0x00, .cellMov r c, cellMOV), (0x01, .cellAdd r c, cellADD), (0x02, .cellSub r c, cellSUB), (0x03, .cellRsb r c, cellRSB),
   (0x04, .cellAddus r c, cellADDUS), (0x05, .cellSubus r c, cellSUBUS), (0x06, .cellNeg r c, cellNEG),
   (0x07, .cellAbsd r c, cellABSD), (0x08, .cellMinu r c, cellMINU), (0x09, .cellMaxu r c, cellMAXU),
   (0x0A, .cellMins r c, cellMINS), (0x0B, .cellMaxs r c, cellMAXS), (0x0C, .cellCmp r c, cellCMP), (0x0D, .cellTst r c, cellTST),
   (0x0E, .cellIncw r c, cellINCW), (0x0F, .cellDecw r c, cellDECW), (0x10, .cellAnd r c, cellAND), (0x11, .cellOr r c, cellOR),
   (0x12, .cellXor r c, cellXOR), (0x13, .cellAndn r c, cellANDN), (0x14, .cellOrn r c, cellORN), (0x15, .cellXnor r c, cellXNOR),
   (0x16, .cellNot r c, cellNOT), (0x17, .cellBitf r c, cellBITF), (0x18, .cellSelc r c, cellSELC), (0x19, .cellSelz r c, cellSELZ),
   (0x1A, .cellSeln r c, cellSELN), (0x1B, .cellMuxb r c, cellMUXB)] ++
  [(0x20, .cellShl r c, cellSHL), (0x21, .cellShr r c, cellSHR), (0x22, .cellSar r c, cellSAR), (0x23, .cellRol r c, cellROL),
   (0x24, .cellRor r c, cellROR), (0x25, .cellShlc r c, cellSHLC), (0x26, .cellShrc r c, cellSHRC), (0x27, .cellRev r c, cellREV),
   (0x28, .cellSwap r c, cellSWAP), (0x29, .cellFshl r c, cellFSHL), (0x30, .cellClz r c, cellCLZ), (0x31, .cellCtz r c, cellCTZ),
   (0x32, .cellPopc r c, cellPOPC), (0x33, .cellPmsk r c, cellPMSK), (0x34, .cellXscr r c, cellXSCR),
   (0x35, .cellLfsr r c, cellLFSR), (0x36, .cellGray r c, cellGRAY), (0x37, .cellUgray r c, cellUGRAY),
   (0x38, .cellGstep r c, cellGSTEP), (0x39, .cellEq r c, cellEQ), (0x3A, .cellLtu r c, cellLTU), (0x3B, .cellLts r c, cellLTS),
   (0x3C, .cellBset r c, cellBSET), (0x3D, .cellBclr r c, cellBCLR), (0x3E, .cellBtst r c, cellBTST)]

/-- Core `c` is about to execute the word `w`: it runs, no iteration end, interrupt or halt comes first, no comparator matches, and the
word at its pc is not poisoned (R345 to R359, R389). -/
def SacAt (s : State) (c w : Nat) : Prop :=
  s.sacClocked c = true ∧ s.sacState c = sacRUN ∧ ((s.sac c).lact = true → (s.sac c).pc ≠ (s.sac c).past) ∧
  ((s.sac c).atPoint = true → (s.sac c).takeable = false ∧ (s.sac c).haltReq = false) ∧
  s.sacFetched c (s.sac c) = (s, none) ∧ s.seeChip (sacPmAddr c + (s.sac c).pc * 4) 4 = (w, false)

/-- That core as the word finds it: its fetch counted, a boundary passed. -/
def State.sacFetch (s : State) (c : Nat) : State :=
  (s.countChip (sacPmAddr c + (s.sac c).pc * 4) 4 false).setSac c { s.sac c with point := false, passCmp := false }

/-- Command `i` executes instructions of SAC `c` with opcode `op`, whose meaning is `f` (R338). -/
def SacCommand (c : Fin 64) (op : Nat) (i : Instr) (f : SacFn) : Prop :=
  (op, i, f) ∈ [(0x0, .sacNop c, opNop), (0x1, .sacHalt c, opHalt), (0x2, .sacWait c, opWait), (0x3, .sacB c, opB), (0x4, .sacBc c, opBc),
   (0x5, .sacCall c, opCall), (0x6, .sacRet c, opRet), (0x7, .sacReti c, opReti), (0x8, .sacRpt c, opRpt),
   (0x9, .sacLoop c, opLoop), (0xA, .sacBlke c, opBlke), (0xB, .sacXgo c, opXgo), (0xC, .sacSevt c, opSevt),
   (0x10, .sacCmac c, opCmac), (0x11, .sacCmul c, opCmul), (0x12, .sacDmac c, opDmac), (0x13, .sacRmac c, opRmac),
   (0x14, .sacRmul c, opRmul), (0x15, .sacCpwr c, opCpwr), (0x16, .sacAccl c, opAccl), (0x17, .sacClra c, opClra),
   (0x18, .sacMva c, opMva), (0x19, .sacMvap c, opMvap), (0x20, .sacCadd c, opCadd), (0x21, .sacCsub c, opCsub),
   (0x22, .sacCaddh c, opCaddh), (0x23, .sacCsubh c, opCsubh), (0x24, .sacCxfm c, opCxfm), (0x25, .sacCmin c, opCmin),
   (0x26, .sacCmax c, opCmax), (0x27, .sacCsha c, opCsha), (0x28, .sacCand c, opCand), (0x29, .sacCor c, opCor),
   (0x2A, .sacCxor c, opCxor), (0x2B, .sacCcmp c, opCcmp), (0x30, .sacLir c, opLir), (0x31, .sacLii c, opLii),
   (0x32, .sacLdd c, opLdd), (0x33, .sacStd c, opStd), (0x34, .sacLd8 c, opLd8), (0x35, .sacPset c, opPset),
   (0x36, .sacMvs c, opMvs), (0x37, .sacMsv c, opMsv)]

/-- A register access of an initiator is admitted and reaches the register space of a die (R399, R409). -/
def RegReach (s : State) (ini : Ini) (write : Bool) (a : BitVec 40) : Prop :=
  (∃ d, s.targetOf .rd a.toNat = .regs d) ∧
  ∃ t out back, s.admission ⟨ini, true, none, if write then .wr else .rd, a, 4, 0, 0, none⟩ = .go t out back

/-! ## What a command may change beside the queue -/

/-- The fields of State but the queue. -/
inductive Part where
  | act | stg | mem | wordOk | wordChk | lineChk | linePsn | pages | por | now | fresh | msix | pins | banks | fails | pmus
  | guests | arps | psqs | stops | stopOut | trigs | ptb | ptbRun | sync | ptbOut | fhs | safe | held | domStops | cmps | flights
  | nocNext | nocLast | storePorts | ports | sweeps | imeOps | panics | imeKeys | bundles | laneRecDue | crossPipes | lineRegs
  | crossBuses | relayBits | ptbAbsent | fcus | fcuSites | fcuTags | raes | cells | regionXs | upsets | cfes | chks | boots
  | keys | relayAnswers | relayBufs | relayOut | setts | stc | confirmAt | sps | owls | sacs | svps | tap | boosts | wdogs | gsls
  | routes | stopSeen | dmas | host | hib | cdcShut | drains | bmReqs
  deriving DecidableEq, Repr

def Part.all : List Part :=
  [.act, .stg, .mem, .wordOk, .wordChk, .lineChk, .linePsn, .pages, .por, .now, .fresh, .msix, .pins, .banks, .fails, .pmus,
   .guests, .arps, .psqs, .stops, .stopOut, .trigs, .ptb, .ptbRun, .sync, .ptbOut, .fhs, .safe, .held, .domStops, .cmps,
   .flights, .nocNext, .nocLast, .storePorts, .ports, .sweeps, .imeOps, .panics, .imeKeys] ++
  [.bundles, .laneRecDue, .crossPipes, .lineRegs, .crossBuses, .relayBits, .ptbAbsent, .fcus, .fcuSites, .fcuTags, .raes, .cells,
   .regionXs, .upsets, .cfes, .chks, .boots, .keys, .relayAnswers, .relayBufs, .relayOut, .setts, .stc, .confirmAt, .sps, .owls,
   .sacs, .svps, .tap, .boosts, .wdogs, .gsls, .routes, .stopSeen, .dmas, .host, .hib, .cdcShut, .drains, .bmReqs]

/-- Every field but those named. -/
def Part.but (l : List Part) : List Part := Part.all.filter fun p => !l.contains p

/-- The field holds in `t` what it holds in `s`. -/
def Part.Same (p : Part) (s t : State) : Prop :=
  match p with
  | .act => t.act = s.act
  | .stg => t.stg = s.stg
  | .mem => t.mem = s.mem
  | .wordOk => t.wordOk = s.wordOk
  | .wordChk => t.wordChk = s.wordChk
  | .lineChk => t.lineChk = s.lineChk
  | .linePsn => t.linePsn = s.linePsn
  | .pages => t.pages = s.pages
  | .por => t.por = s.por
  | .now => t.now = s.now
  | .fresh => t.fresh = s.fresh
  | .msix => t.msix = s.msix
  | .pins => t.pins = s.pins
  | .banks => t.banks = s.banks
  | .fails => t.fails = s.fails
  | .pmus => t.pmus = s.pmus
  | .guests => t.guests = s.guests
  | .arps => t.arps = s.arps
  | .psqs => t.psqs = s.psqs
  | .stops => t.stops = s.stops
  | .stopOut => t.stopOut = s.stopOut
  | .trigs => t.trigs = s.trigs
  | .ptb => t.ptb = s.ptb
  | .ptbRun => t.ptbRun = s.ptbRun
  | .sync => t.sync = s.sync
  | .ptbOut => t.ptbOut = s.ptbOut
  | .fhs => t.fhs = s.fhs
  | .safe => t.safe = s.safe
  | .held => t.held = s.held
  | .domStops => t.domStops = s.domStops
  | .cmps => t.cmps = s.cmps
  | .flights => t.flights = s.flights
  | .nocNext => t.nocNext = s.nocNext
  | .nocLast => t.nocLast = s.nocLast
  | .storePorts => t.storePorts = s.storePorts
  | .ports => t.ports = s.ports
  | .sweeps => t.sweeps = s.sweeps
  | .imeOps => t.imeOps = s.imeOps
  | .panics => t.panics = s.panics
  | .imeKeys => t.imeKeys = s.imeKeys
  | .bundles => t.bundles = s.bundles
  | .laneRecDue => t.laneRecDue = s.laneRecDue
  | .crossPipes => t.crossPipes = s.crossPipes
  | .lineRegs => t.lineRegs = s.lineRegs
  | .crossBuses => t.crossBuses = s.crossBuses
  | .relayBits => t.relayBits = s.relayBits
  | .ptbAbsent => t.ptbAbsent = s.ptbAbsent
  | .fcus => t.fcus = s.fcus
  | .fcuSites => t.fcuSites = s.fcuSites
  | .fcuTags => t.fcuTags = s.fcuTags
  | .raes => t.raes = s.raes
  | .cells => t.cells = s.cells
  | .regionXs => t.regionXs = s.regionXs
  | .upsets => t.upsets = s.upsets
  | .cfes => t.cfes = s.cfes
  | .chks => t.chks = s.chks
  | .boots => t.boots = s.boots
  | .keys => t.keys = s.keys
  | .relayAnswers => t.relayAnswers = s.relayAnswers
  | .relayBufs => t.relayBufs = s.relayBufs
  | .relayOut => t.relayOut = s.relayOut
  | .setts => t.setts = s.setts
  | .stc => t.stc = s.stc
  | .confirmAt => t.confirmAt = s.confirmAt
  | .sps => t.sps = s.sps
  | .owls => t.owls = s.owls
  | .sacs => t.sacs = s.sacs
  | .svps => t.svps = s.svps
  | .tap => t.tap = s.tap
  | .boosts => t.boosts = s.boosts
  | .wdogs => t.wdogs = s.wdogs
  | .gsls => t.gsls = s.gsls
  | .routes => t.routes = s.routes
  | .stopSeen => t.stopSeen = s.stopSeen
  | .dmas => t.dmas = s.dmas
  | .host => t.host = s.host
  | .hib => t.hib = s.hib
  | .cdcShut => t.cdcShut = s.cdcShut
  | .drains => t.drains = s.drains
  | .bmReqs => t.bmReqs = s.bmReqs

/-- What a fault and its reactions may change: registers, vectors, pins, banks, PMUs, sequencers with their STOP messages, the fault
hubs, the SAFE nets (R518 to R525). -/
def faultParts : List Part :=
  [.act, .msix, .pins, .banks, .fails, .pmus, .psqs, .stops, .stopOut, .fhs, .safe, .stopSeen]

/-- The fields that a command may change. -/
def mayChange (c : Instr) : List Part :=
  match c with
  | .registerWrite .. | .denBmDone .. | .pcieMemoryRequest .. | .dmaDescriptorDone .. =>
    Part.but [.por, .now, .arps, .ptb, .ptbRun, .ptbOut, .nocLast, .laneRecDue, .crossPipes, .lineRegs, .ptbAbsent, .keys, .relayAnswers,
    .tap, .boosts]
  | .badSizeAccess .. | .safeNetLow .. | .safeNetMismatch .. | .arpOverTemperature .. | .vccbOutOfWindow .. | .vttOvercurrent ..
  | .channelWordTake .. | .driftLate .. | .psqNext .. | .psqRepeat .. | .psqLoop .. | .psqEndloop .. | .psqJump .. | .psqCall ..
  | .psqRet .. | .psqHalt .. | .psqJfail .. | .psqJpass .. | .psqClrf .. | .psqMatch .. | .psqSync .. | .psqPace ..
  | .psqEndpace .. | .psqMark .. | .psqStrm .. | .psqSret .. | .psqLkstop .. | .psqLkend .. | .psqIllegalWord ..
  | .psqConditionSample .. | .patternUnderrun .. | .stopReceive .. | .denTake .. | .nocLinkDown .. | .gslCreditStall ..
  | .fhInject .. | .faultEscalate .. | .supplyOutOfWindow .. | .dieTemperature .. =>
    faultParts
  | .commitGo .. | .commitDiscard .. =>
    [.stg, .fresh, .sync, .held, .domStops, .nocNext, .gsls, .drains] ++ faultParts
  | .tcbCommitApply .. =>
    [.act, .stg, .pins, .banks, .fails, .held]
  | .porAssert .. | .hibernateWake .. =>
    Part.but []
  | .porRelease .. =>
    [.por, .fresh, .owls, .gsls] ++ faultParts
  | .readyPoll .. | .etcGo .. | .etcDone .. | .etcTimeout .. | .vrefbWrite .. =>
    [.act, .banks, .fails]
  | .devnumWrite .. | .arpTempSample .. | .vccbReturn .. | .vttRecover .. | .capptrWrite .. | .tcbCntClr .. | .vttWrite ..
  | .pmuAck .. | .siteRelease .. | .sdScan .. | .psqCmdAck .. | .runningFall .. | .psqCntClr .. | .ptbSnap .. | .ptbReload ..
  | .ptbCntClr .. | .fsFlushDone .. | .fsFack .. | .fsCclr .. | .fsRdptrWrite .. | .fcuCclr .. | .rjAck .. | .frFence ..
  | .frRack .. | .invSweepDone .. | .egCntClr .. | .cfeAck .. | .cfeChkClr .. | .stcAck .. | .sacXack .. | .sacCntClr ..
  | .spSwi .. | .lockRead .. | .lockRelease .. | .denDrop .. | .nocCntClr .. | .nsClr .. | .ntClear .. | .d2dAck .. | .mpAck ..
  | .imeKeyAck .. | .imeSweepAck .. | .gslReservedFrame .. | .gslKeyAck .. | .gslCntClr .. | .pcieLinkUp .. | .dmaProdWrite ..
  | .dmaResume .. | .ckpGateWrite .. | .blockGated .. | .dieResetDone .. | .fhLogRdWrite .. | .fhCntClr .. | .i2cDone ..
  | .i2cSclTimeout .. | .spiDone .. | .prbsBitError .. =>
    [.act]
  | .epochStartPulse .. =>
    [.act, .ptb, .ptbRun]
  | .epochPulse .. | .ptbExchangeMissed .. | .recoveredClockLost .. =>
    [.sync] ++ faultParts
  | .guestDiscovery .. =>
    [.guests]
  | .guestSidebandTimeout .. | .arpLinkDown .. | .arpHeartbeatTimeout .. =>
    [.guests] ++ faultParts
  | .guestAdmissionDone .. =>
    [.guests, .arps] ++ faultParts
  | .arpRetrainDone .. =>
    [.act, .pmus, .guests]
  | .failWordDelivery .. =>
    [.fcus, .fcuSites] ++ faultParts
  | .roleWrite .. | .tcbEnWrite .. =>
    [.act, .pins, .banks, .fails, .pmus]
  | .roleMidpoint .. =>
    [.pins]
  | .roleTransitionDone .. | .tcbSafeWrite .. =>
    [.act, .pins, .fails]
  | .blankEnd .. | .driftMeasure .. | .driftApply .. =>
    [.act, .pins, .banks]
  | .etcAck .. =>
    [.banks]
  | .etcTrigger .. =>
    [.act, .banks]
  | .reflectStepLaunch .. =>
    [.pins, .banks]
  | .calRecordLoad .. =>
    [.stg, .setts] ++ faultParts
  | .arpCommitApply .. =>
    [.act, .stg, .fresh, .pmus, .held]
  | .pmuGo .. | .pmuRangeSettled .. =>
    [.act, .pmus]
  | .pmuSettleEnd .. | .pmuOldRangeDisconnect .. =>
    [.pmus]
  | .pmuMeasureDone .. =>
    [.act, .fresh, .pmus]
  | .siteReset .. =>
    [.fresh, .flights, .fcus, .fcuSites, .raes, .sacs, .dmas] ++ faultParts
  | .siteQuiesced .. =>
    [.act, .msix]
  | .matchResult .. | .matchTimeout .. | .syncTickReached .. | .paceSlotReached .. | .psqCmdHalt .. | .psqGstop ..
  | .stopAtReached .. =>
    [.act, .msix, .psqs, .stops, .stopOut, .stopSeen]
  | .psqTrig .. =>
    [.trigs] ++ faultParts
  | .trigDelivery .. =>
    [.act, .trigs, .fcus, .sacs, .svps]
  | .segmentResident .. | .sdWrite .. =>
    [.act, .psqs]
  | .urKeepExpire .. =>
    [.psqs]
  | .streamLineFill .. | .sdScanDone .. | .aor .. | .spXcopy .. | .telemetrySample .. =>
    [.mem, .wordOk, .wordChk, .lineChk, .linePsn, .pages, .fresh, .flights, .ports, .regionXs, .setts, .sps] ++ faultParts
  | .localStoreWrite .. | .spBootRelease .. =>
    [.mem, .wordOk, .wordChk, .sps] ++ faultParts
  | .psqArm .. =>
    [.stg, .domStops] ++ faultParts
  | .psqStart .. =>
    [.act, .msix, .pins, .psqs, .stops, .stopOut, .fcuSites, .stopSeen]
  | .ptbBoundary .. | .ptbDeferredStep .. =>
    [.ptb, .sync, .ptbAbsent] ++ faultParts
  | .ptbRequestSend .. =>
    [.act, .sync]
  | .ptbRequestAnswer .. =>
    [.ptbOut]
  | .ptbResponse .. =>
    [.fresh, .sync] ++ faultParts
  | .fcuTagSample .. =>
    [.fcuTags]
  | .fcuBackendEntry .. =>
    [.mem, .wordOk, .wordChk, .lineChk, .linePsn, .pages, .fresh, .flights, .ports, .fcus, .fcuSites, .regionXs, .setts, .sps] ++ faultParts
  | .fcuMarkerEntry .. | .fsFlush .. =>
    [.act, .fcus, .fcuSites]
  | .fcuWriteback .. =>
    [.mem, .wordOk, .wordChk, .lineChk, .linePsn, .pages, .fresh, .flights, .ports, .fcus, .regionXs, .setts, .sps] ++ faultParts
  | .fcuWriteResponse .. | .fsFreset .. =>
    [.act, .fcuSites]
  | .fcuPartialLineTimeout .. =>
    [.mem, .wordOk, .wordChk, .lineChk, .linePsn, .pages, .fresh, .flights, .ports, .fcuSites, .regionXs, .setts, .sps] ++ faultParts
  | .fsBmclr .. =>
    [.act, .fcus]
  | .rjGo .. | .raeJobStart .. | .raeJobEnd .. | .raeBudgetExhausted .. =>
    [.mem, .wordOk, .wordChk, .lineChk, .linePsn, .pages, .fresh, .flights, .ports, .raes, .regionXs, .setts, .sps] ++ faultParts
  | .rjCancel .. =>
    [.act, .raes]
  | .cellMov .. | .cellAdd .. | .cellSub .. | .cellRsb .. | .cellAddus .. | .cellSubus .. | .cellNeg .. | .cellAbsd ..
  | .cellMinu .. | .cellMaxu .. | .cellMins .. | .cellMaxs .. | .cellCmp .. | .cellTst .. | .cellIncw .. | .cellDecw ..
  | .cellAnd .. | .cellOr .. | .cellXor .. | .cellAndn .. | .cellOrn .. | .cellXnor .. | .cellNot .. | .cellBitf ..
  | .cellSelc .. | .cellSelz .. | .cellSeln .. | .cellMuxb .. | .cellShl .. | .cellShr .. | .cellSar .. | .cellRol ..
  | .cellRor .. | .cellShlc .. | .cellShrc .. | .cellRev .. | .cellSwap .. | .cellFshl .. | .cellClz .. | .cellCtz ..
  | .cellPopc .. | .cellPmsk .. | .cellXscr .. | .cellLfsr .. | .cellGray .. | .cellUgray .. | .cellGstep .. | .cellEq ..
  | .cellLtu .. | .cellLts .. | .cellBset .. | .cellBclr .. | .cellBtst .. =>
    [.cells]
  | .cellIllegalSlot .. =>
    [.cells, .upsets]
  | .storePortAccess .. =>
    [.mem, .wordOk, .wordChk, .fresh, .storePorts, .sps] ++ faultParts
  | .storeServiceAccess .. =>
    [.mem, .wordOk, .wordChk, .flights, .sps] ++ faultParts
  | .frRreset .. =>
    [.act, .cells, .regionXs]
  | .rresetEnd .. | .napExit .. =>
    [.act, .regionXs]
  | .frReloc .. =>
    [.cells, .regionXs, .chks] ++ faultParts
  | .relocSelftestDone .. =>
    [.mem, .storePorts, .cells, .regionXs, .upsets] ++ faultParts
  | .relocDone .. | .napReload .. =>
    [.mem, .storePorts, .cells, .regionXs, .upsets, .setts] ++ faultParts
  | .repairRecordWrite .. =>
    [.act, .regionXs, .setts, .stc]
  | .memoryRequest .. =>
    Part.but [.por, .now, .arps, .ptb, .ptbRun, .ptbOut, .laneRecDue, .crossPipes, .lineRegs, .ptbAbsent, .keys, .relayAnswers, .tap,
    .boosts]
  | .pageFillLine .. =>
    [.mem, .lineChk, .linePsn, .pages, .sps] ++ faultParts
  | .fillSlotFree .. | .mpRetrain .. | .mpCommandIssue .. =>
    [.mem, .lineChk, .linePsn, .pages, .flights, .ports, .sps] ++ faultParts
  | .egInv .. | .sacBankAccess .. =>
    [.mem, .wordOk, .wordChk, .lineChk, .linePsn, .pages, .flights, .ports, .regionXs, .setts, .sps] ++ faultParts
  | .cfeStart .. | .cfeCont .. | .bootLoadStart .. | .bootFallback .. =>
    [.mem, .wordOk, .wordChk, .lineChk, .linePsn, .pages, .fresh, .flights, .storePorts, .ports, .cells, .regionXs, .upsets, .cfes,
    .chks, .boots, .setts, .sps] ++ faultParts
  | .cfeCancel .. | .cfeWaitTimeout .. | .cfeReleaseTick .. =>
    [.mem, .storePorts, .cells, .regionXs, .upsets, .cfes, .boots] ++ faultParts
  | .cfePartReadDone .. =>
    [.act, .cfes]
  | .cfeFrameRecord .. =>
    [.mem, .wordOk, .wordChk, .lineChk, .linePsn, .pages, .fresh, .flights, .storePorts, .ports, .cells, .regionXs, .upsets, .cfes,
    .boots, .setts, .sps] ++ faultParts
  | .cfeSignatureDone .. =>
    [.mem, .fresh, .storePorts, .cells, .regionXs, .upsets, .cfes, .boots] ++ faultParts
  | .cfeRelayOffer .. | .domainSwitchDone .. =>
    [.mem, .wordOk, .wordChk, .lineChk, .linePsn, .pages, .fresh, .flights, .storePorts, .ports, .cells, .regionXs, .upsets, .cfes,
    .chks, .boots, .relayAnswers, .setts, .sps] ++ faultParts
  | .recoveryFlashLoad .. =>
    [.stg, .mem, .wordOk, .wordChk, .lineChk, .linePsn, .pages, .fresh, .domStops, .flights, .storePorts, .ports, .cells,
    .regionXs, .upsets, .cfes, .chks, .boots, .setts, .sps] ++ faultParts
  | .frameCheckRead .. =>
    [.upsets, .chks] ++ faultParts
  | .frameRepair .. =>
    [.mem, .upsets, .chks, .setts] ++ faultParts
  | .stage .. | .relay .. | .recwrite .. | .keyinst .. =>
    [.mem, .wordOk, .wordChk, .lineChk, .linePsn, .pages, .fresh, .flights, .ports, .regionXs, .setts, .stc, .sps] ++ faultParts
  | .activate .. =>
    [.sync, .stc, .owls, .gsls] ++ faultParts
  | .confirm .. =>
    [.sync, .stc, .confirmAt, .sps, .owls, .gsls] ++ faultParts
  | .inval .. =>
    [.act, .regionXs, .stc]
  | .settBlockWriteDone .. =>
    [.mem, .keys, .setts, .stc] ++ faultParts
  | .stageComplete .. =>
    [.relayOut, .setts, .stc] ++ faultParts
  | .relayForward .. =>
    [.act, .relayAnswers, .relayOut, .setts]
  | .settRelayOffer .. =>
    [.act, .regionXs, .relayAnswers, .relayBufs, .setts, .stc]
  | .relayAnswer .. =>
    [.act, .setts]
  | .retentionScan .. =>
    [.setts] ++ faultParts
  | .retentionRewrite .. | .owlSettingsWrite .. =>
    [.act, .setts, .stc]
  | .trialStart .. =>
    [.sync, .setts, .confirmAt, .sps, .owls, .gsls] ++ faultParts
  | .confirmWindowExpire .. =>
    [.sync, .confirmAt, .sps, .owls, .gsls] ++ faultParts
  | .sacNop .. | .sacHalt .. | .sacWait .. | .sacB .. | .sacBc .. | .sacCall .. | .sacRet .. | .sacReti .. | .sacRpt ..
  | .sacLoop .. | .sacBlke .. | .sacXgo .. | .sacSevt .. | .sacClra .. | .sacMva .. | .sacMvap .. | .sacCadd .. | .sacCsub ..
  | .sacCaddh .. | .sacCsubh .. | .sacCxfm .. | .sacCmin .. | .sacCmax .. | .sacCsha .. | .sacCand .. | .sacCor .. | .sacCxor ..
  | .sacCcmp .. | .sacLir .. | .sacLii .. | .sacPset .. | .sacMvs .. | .sacMsv .. | .sacReservedOpcode .. | .sacRstWrite .. =>
    [.sacs] ++ faultParts
  | .sacLoopEnd .. | .sacHaltreq .. =>
    [.sacs]
  | .sacCmac .. | .sacCmul .. | .sacDmac .. | .sacRmac .. | .sacRmul .. | .sacCpwr .. | .sacAccl .. | .sacLdd .. | .sacLd8 .. =>
    [.fresh, .sacs] ++ faultParts
  | .sacStd .. =>
    [.mem, .wordOk, .wordChk, .fresh, .sps, .sacs] ++ faultParts
  | .sacInterruptEntry .. | .sacDbell .. | .sacStart .. | .sacXcancel .. =>
    [.act, .sacs]
  | .sacTransferDone .. | .spInstruction .. | .owlInstruction .. | .svpset .. | .svpclr .. | .svptgl .. | .svpout .. | .svpin ..
  | .dterm .. | .dtx .. | .drxRead .. | .drxRelease .. | .dcclean .. | .dcflush .. | .dcinv .. | .ddin .. | .dfeed .. =>
    Part.but [.por, .now, .arps, .ptb, .ptbRun, .ptbOut, .nocLast, .laneRecDue, .crossPipes, .lineRegs, .ptbAbsent, .keys, .relayAnswers,
    .tap, .boosts, .bmReqs]
  | .coreHalted .. | .denHalt .. | .dtxack .. | .denDrxWrite .. =>
    [.act, .sps, .owls, .sacs]
  | .mtimecmpMatch .. =>
    [.sps]
  | .spRstWrite .. =>
    [.sps] ++ faultParts
  | .owlFirmwareVerified .. =>
    [.mem, .wordOk, .wordChk, .sps, .owls, .wdogs] ++ faultParts
  | .owlBoostGrant .. =>
    [.boosts]
  | .owlWdogWrite .. =>
    [.wdogs]
  | .owlWatchdogExpire .. =>
    [.owls, .boosts] ++ faultParts
  | .denPowerOn .. =>
    [.stg, .cmps, .sps, .owls, .sacs, .bmReqs] ++ faultParts
  | .trstN .. =>
    [.stg, .cmps, .sps, .owls, .sacs, .tap, .bmReqs] ++ faultParts
  | .extest .. | .samplePreload .. | .idcode .. | .highz .. | .clamp .. | .extestPulse .. | .extestTrain .. | .denstat ..
  | .bypass .. =>
    [.tap]
  | .dbgaccRead .. =>
    [.fresh, .svps, .tap] ++ faultParts
  | .dbgaccWrite .. =>
    Part.but [.por, .now, .arps, .ptb, .ptbRun, .ptbOut, .nocLast, .laneRecDue, .crossPipes, .lineRegs, .ptbAbsent, .keys, .relayAnswers,
    .boosts]
  | .dbgaccNop .. =>
    [.act, .fresh, .tap]
  | .denResume .. | .denStep .. =>
    [.act, .sps, .owls, .sacs, .wdogs]
  | .denBmGo .. =>
    [.act, .bmReqs]
  | .nocRequestAdmit .. =>
    [.flights, .nocNext, .nocLast] ++ faultParts
  | .nocResponse .. =>
    [.act, .flights, .nocLast]
  | .nocTimeout .. | .nocPacketAtDownLink .. =>
    [.flights, .nocLast] ++ faultParts
  | .d2dTraining .. | .laneSwapTrained .. =>
    [.bundles]
  | .d2dTrainingDone .. =>
    [.bundles] ++ faultParts
  | .d2dFlitReceive .. | .laneRecal .. | .laneRecalDone .. =>
    [.act, .bundles]
  | .d2dCrossingFrame .. =>
    [.act, .bundles, .crossPipes, .crossBuses, .relayBits]
  | .d2dServiceSlot .. =>
    [.act, .psqs, .ptbAbsent]
  | .laneWindowEnd .. | .d2dSwap .. =>
    [.mem, .storePorts, .bundles, .cells, .regionXs, .upsets, .cfes, .boots] ++ faultParts
  | .laneSwapSwitch .. =>
    [.mem, .storePorts, .bundles, .laneRecDue, .cells, .regionXs, .upsets, .cfes, .boots] ++ faultParts
  | .laneRecordWrite .. =>
    [.act, .laneRecDue, .setts, .stc]
  | .mpTraining .. | .refsbIssue .. =>
    [.act, .ports]
  | .mpTrainingDone .. | .mpThermalRead .. | .trefiBoundary .. =>
    [.ports] ++ faultParts
  | .mpRetrainDone .. =>
    [.ports, .sweeps] ++ faultParts
  | .mpDqsOscRead .. | .mpZqCal .. | .mpTrackingForce .. | .requestUrgencyRise .. | .catchupTimer .. =>
    [.ports]
  | .panicChange .. =>
    [.panics]
  | .imeGen .. | .imeLoad .. | .imeKill .. =>
    [.act, .imeOps]
  | .imeKeyDone .. =>
    [.pages, .fresh, .imeOps, .imeKeys] ++ faultParts
  | .imeSweepGo .. | .imeSweepResume .. =>
    [.act, .sweeps]
  | .sweepLine .. =>
    [.stg, .mem, .lineChk, .linePsn, .pages, .sweeps, .imeKeys, .sps] ++ faultParts
  | .slotRetire .. =>
    [.act, .pages, .imeKeys]
  | .gslTrainingAttempt .. =>
    [.act, .msix, .gsls]
  | .gslTrainingDone .. =>
    [.mem, .sync, .flights, .nocLast, .storePorts, .cells, .regionXs, .upsets, .cfes, .boots, .relayBufs, .gsls, .routes] ++ faultParts
  | .lmgtFrame .. | .gslStopFrame .. | .gslIdleFrame .. | .gslNak .. | .gslReplayTimeout .. | .gslLockLoss .. =>
    [.sync, .gsls] ++ faultParts
  | .lmgtRepeat .. | .gslCreditReturnTimer .. | .systemLaneRecalibration .. =>
    [.gsls]
  | .gslFrameSend .. =>
    [.stopOut, .ptbOut, .gsls]
  | .gslDataFrame .. =>
    Part.but [.por, .now, .arps, .ptb, .ptbRun, .ptbOut, .laneRecDue, .crossPipes, .lineRegs, .ptbAbsent, .keys, .relayAnswers, .tap,
    .boosts, .bmReqs]
  | .relayImageData .. =>
    [.mem, .wordOk, .wordChk, .lineChk, .linePsn, .pages, .fresh, .sync, .flights, .storePorts, .ports, .cells, .regionXs, .upsets,
    .cfes, .chks, .boots, .relayBufs, .setts, .sps, .gsls] ++ faultParts
  | .gslBadFrame .. | .gslKeyLoad .. | .gslKeyKill .. | .gslKeyRetire .. =>
    [.act, .gsls]
  | .gslHoldExpire .. | .gslLifeExpire .. | .gslFrameAgeExpire .. =>
    [.mem, .flights, .nocLast, .storePorts, .cells, .regionXs, .upsets, .cfes, .boots, .relayBufs, .gsls, .routes] ++ faultParts
  | .perstN .. | .pcieLinkDown .. | .pfFlr .. | .vfEnableClear .. =>
    [.dmas, .host] ++ faultParts
  | .pcieConfigRequest .. =>
    [.host]
  | .vfFlr .. =>
    [.stg, .fresh, .flights, .fcus, .fcuSites, .raes, .sacs, .dmas, .host] ++ faultParts
  | .dmaDescriptor .. =>
    [.dmas]
  | .dmaCancel .. =>
    [.act, .dmas]
  | .domainDozeStop .. =>
    [.domStops]
  | .refclkLoss .. | .pllUnlock .. | .freqMonitorWindow .. =>
    [.domStops, .owls] ++ faultParts
  | .refclkReturn .. | .pllLock .. =>
    [.act, .fhs]
  | .domainRestore .. =>
    [.act, .domStops]
  | .napEnter .. =>
    [.act, .mem, .storePorts, .cells, .regionXs, .upsets]
  | .napPowerDone .. =>
    [.act, .mem, .wordOk, .wordChk]
  | .hibernateGo .. =>
    [.sync, .hib] ++ faultParts
  | .hibernateComplete .. =>
    [.mem, .wordOk, .wordChk, .lineChk, .linePsn, .pages, .trigs, .ptbRun, .sync, .domStops, .flights, .storePorts, .ports, .cells,
    .regionXs, .upsets, .sps, .sacs, .gsls, .dmas, .host, .hib] ++ faultParts
  | .dieReset .. =>
    [.stg, .mem, .fresh, .guests, .trigs, .sync, .held, .flights, .storePorts, .ports, .sweeps, .imeOps, .panics, .crossBuses,
    .relayBits, .fcus, .fcuSites, .fcuTags, .raes, .cells, .regionXs, .upsets, .cfes, .chks, .boots, .relayBufs, .relayOut,
    .setts, .stc, .sps, .sacs, .svps, .gsls, .routes, .dmas, .host, .cdcShut] ++ faultParts
  | .cdcReadyResume .. =>
    [.cdcShut]
  | .blockReset .. =>
    [.stg, .mem, .fresh, .guests, .trigs, .sync, .held, .flights, .storePorts, .ports, .sweeps, .imeOps, .imeKeys, .fcus,
    .fcuSites, .raes, .cells, .regionXs, .upsets, .cfes, .chks, .relayOut, .setts, .stc, .sps, .sacs, .svps, .gsls, .routes,
    .dmas, .host, .cdcShut] ++ faultParts
  | .fhPendClear .. =>
    [.act, .msix, .fhs]
  | .fhRelease .. =>
    [.act, .msix, .fhs, .safe]
  | .svpInputChange .. | .svpTrigPulseEnd .. =>
    [.svps]
  | .svpFilterAccept .. | .svpOutWrite .. | .svpLockWrite .. | .uartTxWrite .. | .uartRxRead .. | .uartByteSent ..
  | .uartByteReceived .. | .i2cGo .. | .i2cAck .. | .spiGo .. | .spiAck .. =>
    [.act, .svps]
  | .supplyReturnToRange .. | .dieTemperatureReturn .. =>
    [.fhs]

end Sys2Proof.Machine
end

