-- ==== Sys2Proof/Certificates/Slice0/Obligations.lean ====
section
/-! DEFINITION. The statements for the provers: the machine's steps and storage, then each family of commands. -/

open Sys2Proof Sys2Proof.Machine

/-- A step takes the command at the front of the queue, and executes it with the queue's rest. On an empty queue a step is the time of one tick, and no word of
the opcode table spells a command: the model's choices (notes/assumptions/7.md, notes/assumptions/10.md). -/
def Obligations.StepTakesFront : Prop :=
  ∀ (s : State),
  (∀ c rest, s.pending = c :: rest → step s = exec c { s with pending := rest }) ∧
  (s.pending = [] → step s = .next s.idleTick ∧ s.idleTick.now = s.now + 1 ∧ s.idleTick.act = s.act ∧ s.idleTick.mem = s.mem) ∧
  (∀ nbits w, decodeTableWord nbits w = none ∧ s.withFetchWord nbits w = s)

/-- What reset leaves: POR asserted, every register field at its reset value, nothing stored, an empty queue, sound storage. Where the spec gives a field no reset
value, and for memory bytes, the value is the model's choice (notes/assumptions/1.md to notes/assumptions/3.md). -/
def Obligations.ResetState : Prop :=
  State.reset.Inv ∧ State.reset.por = true ∧ State.reset.pending = [] ∧ (∀ b f, State.reset.rd b f = f.rst) ∧
  (∀ b f, State.reset.staged b f = f.rst) ∧ (∀ a, State.reset.byte a = 0) ∧ (∀ k d i, State.reset.answers k d i = false) ∧
  ∀ c, State.reset.pin c = {}

/-- Every step keeps the storage of the machine sound: the byte map lists each address once, in rising order, and no byte equal to what an unlisted one reads as;
the register file and the staged values list each field once, in rising order. -/
def Obligations.StorageInvariant : Prop :=
  ∀ s t : State, s.Inv → step s = .next t → t.Inv

/-- Every command completes in every state: it answers a next state, never a fault nor a refusal, and leaves the queue of the waiting commands as it is. -/
def Obligations.EveryCommandCompletes : Prop :=
  ∀ (c : Instr) (s : State), ∃ t, exec c s = .next t ∧ t.pending = s.pending

/-- The frame of every command: a field of the state that is not among those listed for the command holds after it what it held before. The list of a command
that stores no memory does not name the byte map, so every byte reads as before. -/
def Obligations.CommandFrames : Prop :=
  ∀ (c : Instr) (s t : State), exec c s = .next t → (∀ p : Part, p ∉ mayChange c → p.Same s t) ∧
    (Part.mem ∉ mayChange c → ∀ a, t.byte a = s.byte a) ∧ (Part.act ∉ mayChange c → ∀ b f, t.rd b f = s.rd b f)

/-- Memory: a store leaves the bytes it stores, lowest first, at rising addresses, and every other byte; reading them back gives the value; the register file reads
back what was written to a field and keeps every other field; both keep the storage sound. -/
def Obligations.StoreReadsBack : Prop :=
  ∀ (s : State) (a n v : Nat), s.Inv → (s.wrMem a n v).Inv ∧ (s.wrMem a n v).rdMem a n = v % 2 ^ (8 * n) ∧
    (∀ m, m < a ∨ a + n ≤ m → (s.wrMem a n v).byte m = s.byte m) ∧
    (∀ i, i < n → (s.wrMem a n v).byte (a + i) = BitVec.ofNat 8 (v / 2 ^ (8 * i))) ∧
    ∀ (b : Nat) (f : Fld), (s.wr b f v).Inv ∧ (s.wr b f v).rd b f = v % 2 ^ f.width ∧
      ∀ b' f', f'.key b' ≠ f.key b → (s.wr b f v).rd b' f' = s.rd b' f'

/-- Counters and sequence numbers (R23). A counter of w bits advances to at most 2^w − 1 and stays there, however much is counted in parts or at once;
a sequence number advances modulo 2^w, so that it changes at every operation, and the difference of two numbers is taken modulo 2^w. -/
def Obligations.CountersAndSequences : Prop :=
  ∀ (s : State) (b : Nat) (f : Fld), s.rd b f < 2 ^ f.width →
  (∀ n, (s.count b f n).rd b f = min (s.rd b f + n) (2 ^ f.width - 1) ∧ s.rd b f ≤ (s.count b f n).rd b f) ∧
  (∀ m n, ((s.count b f m).count b f n).rd b f = (s.count b f (m + n)).rd b f) ∧
  (s.seqUp b f).rd b f = (s.rd b f + 1) % 2 ^ f.width ∧ (0 < f.width → (s.seqUp b f).rd b f ≠ s.rd b f) ∧
  (∀ w x k, x < 2 ^ w → k < 2 ^ w → seqDiff w ((x + k) % 2 ^ w) x = k) ∧
  (∀ b' f', f'.key b' ≠ f.key b → (∀ n, (s.count b f n).rd b' f' = s.rd b' f') ∧ (s.seqUp b f).rd b' f' = s.rd b' f')

/-- Die-to-die bundles (R413 to R425). A joint whose dies are ready launches its training bundles; a bundle that is launched ends its training with the
lane choice and the state it gives, and a service bundle with a wrong ROT goes down; a flit with a failed CRC is counted, but on a fabric bundle,
which carries none; a crossing frame delivers the buses sampled six edges before and the relay's piece of the pattern bus, or zero with poison; a
bad fixed slot delivers its safe value.
Completion is stated of: d2dTraining, d2dTrainingDone, d2dFlitReceive, d2dCrossingFrame, d2dServiceSlot. -/
def Obligations.DieLinks : Prop :=
  ∀ (s : State) (d : Fin 4) (e : Fin 2) (n : Fin 21) (k : Nat), k = bundleNo d e n →
  (∀ j : Fin 4, s.ready j rdyCKP = true → s.ready ((j + 1) % 4 : Nat) rdyCKP = true →
    exec (.d2dTraining j) s = .next (s.each [(j.val, 0), ((j.val + 1) % 4, 1)] fun de s => s.each (List.range 21) fun n s =>
      if s.bundleState de.1 de.2 n = 1 then
        s.setBundle (bundleNo de.1 de.2 n) { s.bundle (bundleNo de.1 de.2 n) with launched := true } else s)) ∧
  (∀ e0 e1 e2 e3 rot, s.bundleState d e n = 1 → (s.bundle k).launched = true →
    (n.val = 20 → rot.toNat ≠ peerOf d e → ∀ u, u = (s.wr (dctlB d) DCTL_ROT.PAIR_ERR 1).each (List.range 21) (fun i s =>
        s.wr (bundleB d e i) D2D_BST.STATE 0) →
      exec (.d2dTrainingDone d e n e0 e1 e2 e3 rot) s = .next (((u.setBundle (bundleNo d e 20) { u.bundle (bundleNo d e 20) with
        mismatch := true }).jointReady (jointOf d e)).raise d 85 none d)) ∧
    ((n.val = 20 → rot.toNat = peerOf d e) → ∀ eyes c u v w, eyes = e0.toNat + 2 ^ 48 * e1.toNat + 2 ^ 96 * e2.toNat + 2 ^ 144 * e3.toNat →
      c = s.setBundle k { s.bundle k with eyes := eyes } →
      u = (c.chooseLanes d e n (Config.laneFuses k).toNat (goodEyes eyes) (c.retiredLanes d e n)).bundleStat d e n →
      v = u.wr (bundleB d e n) D2D_BST.STATE (u.laneState d e n) →
      w = (if u.laneState d e n = 0 ∧ n.val = 20 then v.raise d 85 none d
        else if u.laneState d e n = 0 ∧ 16 ≤ n.val then v.raise d 88 none d else v) →
      exec (.d2dTrainingDone d e n e0 e1 e2 e3 rot) s = .next (if n.val = 20 then
        ((w.jointReady (jointOf d e)).nocReadyUp).each [0, 2] fun g s => s.arpPartnerReady g
        else (w.jointReady (jointOf d e)).nocReadyUp))) ∧
  exec (.d2dFlitReceive d e n true) s = .next s ∧
  (16 ≤ n.val → n.val < 20 → exec (.d2dFlitReceive d e n false) s = .next s) ∧
  ((n.val < 16 ∨ n.val = 20) → Gives (.d2dFlitReceive d e n false) s (s.setBundle k { s.bundle k with crcWin := (s.bundle k).crcWin + 1 })
    [D2D_CNT_RPL.V.is (bundleB d e n) (satAdd 32 (s.rd (bundleB d e n) D2D_CNT_RPL.V) 1),
     D2D_CNT_CRC.V.is (bundleB d e n) (satAdd 32 (s.rd (bundleB d e n) D2D_CNT_CRC.V) 1)]) ∧
  (∀ (b : Fin 4) m pipe src sent, m = (d.val * 2 + e.val) * 320 + 80 * b.val → pipe = (d.val * 2 + e.val) * 4 + b.val → src = peerOf d e →
    sent = (List.range 80).foldl (fun v i => v + s.crossingOut src (1 - e) (80 * b + i) * 2 ^ (9 * i)) 0 →
    (s.bundleState d e (16 + b) = 2 → s.crossingClock = true → s.domStopped d 16 = false → s.domStopped src 16 = false →
      ∀ r, r = (match s.pbRelayed src d with
        | some p => bits (s.pbOnEdge src (s.tick d / 8 * 8) p).1 (27 * b) 27 + if (s.pbOnEdge src (s.tick d / 8 * 8) p).2 then 2 ^ 27 else 0
        | none => 0) →
      (∀ v rest, (s.crossPipe pipe) = v :: rest → rest.length = 5 → exec (.d2dCrossingFrame d e b 0 0) s =
        .next (((s.each (List.range 80) fun i s => s.setCrossBus (m + i) (bits v (9 * i) 9)).setCrossPipe pipe (rest ++ [sent])).setRelayBit
          pipe r)) ∧
      ((s.crossPipe pipe).length < 6 → exec (.d2dCrossingFrame d e b 0 0) s = .next (((s.each (List.range 80) fun i s =>
        s.setCrossBus (m + i) busPoison).setCrossPipe pipe (s.crossPipe pipe ++ [sent])).setRelayBit pipe r))) ∧
    (s.bundleState d e (16 + b) ≠ 2 ∨ s.crossingClock = false ∨ s.domStopped d 16 = true ∨ s.domStopped src 16 = true →
      exec (.d2dCrossingFrame d e b 0 0) s = .next (((s.each (List.range 80) fun i s =>
        s.setCrossBus (m + i) busPoison).setCrossPipe pipe []).setRelayBit pipe (2 ^ 27)))) ∧
  (∀ sl, exec (.d2dServiceSlot d e sl false) s = .next s) ∧
  Gives (.d2dServiceSlot d e .ptb true) s { s with ptbAbsent := d.val :: s.ptbAbsent }
    [D2D_CNT_RPL.V.is (bundleB d e 20) (satAdd 32 (s.rd (bundleB d e 20) D2D_CNT_RPL.V) 1)] ∧
  Gives (.d2dServiceSlot d e .override true) s s
    [D2D_CNT_RPL.V.is (bundleB d e 20) (satAdd 32 (s.rd (bundleB d e 20) D2D_CNT_RPL.V) 1)]

/-- Lane monitoring, swaps and recalibration (R421 to R425). The end of a window clears the CRC count, keeps the lane counts, and triggers a swap
for each lane at its threshold; a trained swap is announced; its switch gives the spare the role, retires the old lane, counts the swap and
raises source 86; every 10 ms the next active lane moves to a free spare, and returns with its eye recorded; D2D_CMD.SWAP is refused, finds no
spare, or starts; ACK releases a valid result.
Completion is stated of: laneWindowEnd, laneSwapTrained, laneSwapSwitch, laneRecal, laneRecalDone, d2dSwap, d2dAck. -/
def Obligations.LaneSwaps : Prop :=
  ∀ (s : State) (d : Fin 4) (e : Fin 2) (n : Fin 21) (k : Nat), k = bundleNo d e n →
  (∀ c, s.bundleState d e n < 2 → exec (.laneWindowEnd d e n c) s = .next s) ∧
  (∀ c, 2 ≤ s.bundleState d e n → ∀ u lanes worst, u = s.setBundle k { s.bundle k with crcWin := 0, counts := c.toNat } →
    lanes = (List.range 11).filter (fun p => u.activeLane d e n p) →
    worst = lanes.foldl (fun w p => if bits c.toNat (16 * w) 16 < bits c.toNat (16 * p) 16 then p else w) (lanes.headD 0) →
    exec (.laneWindowEnd d e n c) s = .next (u.each (lanes.filter fun p => u.rd (d2dB d) D2D_THR.LANE ≤ bits c.toNat (16 * p) 16 ||
      (u.rd (d2dB d) D2D_THR.CRC ≤ (s.bundle k).crcWin && p == worst)) fun p s => s.swapTrigger d e n p)) ∧
  ((s.bundle k).swap ≠ none → exec (.laneSwapTrained d e n) s = .next (s.setBundle k { s.bundle k with announced := true })) ∧
  ((s.bundle k).swap = none → exec (.laneSwapTrained d e n) s = .next s ∧ exec (.laneSwapSwitch d e n) s = .next s) ∧
  (∀ lane sp u v, (s.bundle k).swap = some (lane, sp) → (s.bundle k).announced = true → (s.bundle k).byCmd = false →
    (s.bundle k).waiting = [] →
    u = ((((s.setRole d e n sp (s.role d e n lane)).setRole d e n lane roleRETIRED).bundleStat d e n).wr (bundleB d e n) D2D_BST.SWAPPING
      0).count (bundleB d e n) D2D_CNT_SWAP.V →
    v = u.setBundle k { s.bundle k with swap := none, announced := false, byCmd := false, waiting := [] } →
    exec (.laneSwapSwitch d e n) s = .next (State.raise { v with
      laneRecDue := if v.laneRecDue.contains (jointOf d e) then v.laneRecDue else jointOf d e :: v.laneRecDue } d 86 none d)) ∧
  (∀ sp i lane, 2 ≤ s.bundleState d e n → (s.bundle k).swap = none → (s.bundle k).recal = none →
    (s.freeLanes d e n).head? = some sp → ((List.range 11).find? fun i => s.activeLane d e n (((s.bundle k).next + i) % 11)) = some i →
    lane = ((s.bundle k).next + i) % 11 →
    exec (.laneRecal d e n) s = .next ((((s.setBundle k { s.bundle k with recal := some (lane, sp), next := (lane + 1) % 11 }).setRole d e n
      sp roleSTANDIN).bundleStat d e n).wr (bundleB d e n) D2D_BST.RCAL_LATE 0)) ∧
  (2 ≤ s.bundleState d e n → (s.bundle k).swap = none → (s.bundle k).recal = none → s.freeLanes d e n = [] →
    Gives (.laneRecal d e n) s s [D2D_BST.RCAL_LATE.is (bundleB d e n) 1]) ∧
  (∀ lane sp eye, (s.bundle k).recal = some (lane, sp) →
    exec (.laneRecalDone d e n eye) s = .next ((s.endRecal d e n).setBundle k { (s.endRecal d e n).bundle k with
      eyes := putBits ((s.endRecal d e n).bundle k).eyes (16 * lane) 16 eye.toNat })) ∧
  (s.answers .d2d d 0 = true →
    (∀ lane : Fin 11, s.on (d2dB d) D2D_CRES.ACKD = false → exec (.d2dSwap d e n lane) s = .next s) ∧
    (∀ lane : Fin 11, (s.bundle k).swap ≠ none ∨ s.activeLane d e n lane = false → s.on (d2dB d) D2D_CRES.ACKD = true →
      Gives (.d2dSwap d e n lane) s s [D2D_CRES.VALID.is (d2dB d) 1, D2D_CRES.STATUS.is (d2dB d) 4, D2D_CRES.ACKD.is (d2dB d) 0,
        D2D_CRES.SEQ.is (d2dB d) (s.rd (d2dB d) D2D_CRES.SEQ + 1)]) ∧
    (∀ (lane : Fin 11) u, (s.bundle k).swap = none → s.on (d2dB d) D2D_CRES.ACKD = true → s.activeLane d e n lane = true →
      2 ≤ s.bundleState d e n →
      u = (((s.seqUp (d2dB d) D2D_CRES.SEQ).wr (d2dB d) D2D_CRES.VALID 0).wr (d2dB d) D2D_CRES.ACKD 0).endRecal d e n →
      (u.freeLanes d e n ≠ [] →
        exec (.d2dSwap d e n lane) s = .next ((u.wr (d2dB d) D2D_CRES.STATUS 1).swapStart d e n lane true)) ∧
      (u.freeLanes d e n = [] → exec (.d2dSwap d e n lane) s = .next (u.swapResult d 3))) ∧
    (s.on (d2dB d) D2D_CRES.VALID = true → Gives (.d2dAck d) s s [D2D_CRES.ACKD.is (d2dB d) 1]) ∧
    (s.on (d2dB d) D2D_CRES.VALID = false → exec (.d2dAck d) s = .next s)) ∧
  (s.answers .d2d d 0 = false → (∀ l, exec (.d2dSwap d e n l) s = .next s) ∧ exec (.d2dAck d) s = .next s)

/-- The on-chip network (R402 to R411). A request with a credit and a route enters the flights under the next number; one refused at admission completes
at once with its error; without a credit it waits, and an initiator that may issue nothing sends none. A response completes its flight; one that finds no entry is counted late. A timeout (NOC_TMO reached) completes
with a decode error and source 83, a down link on the way with a link error and source 82. A link that is down is shown on every die with source
84. The counters, statistics and trace pointer are cleared as commanded.
Completion is stated of: nocRequestAdmit, nocResponse, nocTimeout, nocPacketAtDownLink, nocLinkDown, nocCntClr, nsClr, ntClear. -/
def Obligations.Network : Prop :=
  ∀ (s : State) (q : MemReq) (d : Fin 4) (id : Nat),
  (s.silent q.ini = true → exec (.nocRequestAdmit q) s = .next s) ∧
  (∀ r f, s.silent q.ini = false → s.admission q = .no r f → exec (.nocRequestAdmit q) s =
    .next { s.refused q r f with nocLast := some ((s.refused q r f).nocNext, r), nocNext := (s.refused q r f).nocNext + 1 }) ∧
  (∀ t out back, s.silent q.ini = false → s.admission q = .go t out back →
    (s.creditsUsed q (targetId t) < s.credits q t → s.oldRoute q (targetId t) out = false → s.shut (targetId t / 256) = false →
      exec (.nocRequestAdmit q) s = .next { s.probe q (targetId t) none 0 with
        flights := (s.probe q (targetId t) none 0).flights ++ [⟨(s.probe q (targetId t) none 0).nocNext, q, t, targetId t, out, back,
          (s.probe q (targetId t) none 0).now, none⟩],
        nocNext := (s.probe q (targetId t) none 0).nocNext + 1 }) ∧
    (s.credits q t ≤ s.creditsUsed q (targetId t) → exec (.nocRequestAdmit q) s = .next s)) ∧
  ((s.flights.find? fun f => f.id == id) = none →
    Gives (.nocResponse d id) s s [NOC_CNT_LATE.V.is (nocB d) (satAdd 32 (s.rd (nocB d) NOC_CNT_LATE.V) 1)]) ∧
  (∀ f r, (s.flights.find? fun f => f.id == id) = some f → f.rsp = some r → exec (.nocResponse d id) s = .next (s.complete f r)) ∧
  (∀ f, (s.flights.find? fun f => f.id == id) = some f →
    (s.now < f.at_ + s.rd (nocB (iniDie f.req.ini)) NOC_TMO.US * 4000 → exec (.nocTimeout id) s = .next s) ∧
    (f.at_ + s.rd (nocB (iniDie f.req.ini)) NOC_TMO.US * 4000 ≤ s.now → exec (.nocTimeout id) s = .next (((s.complete f .decode).count (nocB (iniDie f.req.ini)) NOC_CNT_TMO.V).raise (iniDie f.req.ini) 83
      (f.req.site.map (·.val)) (iniDie f.req.ini))) ∧
    ((if f.rsp.isSome then f.back else f.route).any s.torusLinkDown = true → (f.rsp = none → s.inPort id = false) →
      exec (.nocPacketAtDownLink id) s = .next (((s.complete f .link).count (nocB (iniDie f.req.ini)) NOC_CNT_LINK.V).raise
        (iniDie f.req.ini) 82 (f.req.site.map (·.val)) (iniDie f.req.ini)))) ∧
  (∀ (n : Fin 64) u, s.torusLinkDown n = true →
    u = (s.each (List.range 4) fun d s => if n.val < 32 then s.wrBit (nocB d) NOC_DOWN_LO.V n true
      else s.wrBit (nocB d) NOC_DOWN_HI.V (n - 32) true).raise (n / 16) 84 none (n / 16) →
    (u.torusLinkDown (n / 2 * 2) = true → u.torusLinkDown (n / 2 * 2 + 1) = true →
      exec (.nocLinkDown n) s = .next (u.each (List.range 4) fun d s => s.setReady d rdyNOC false)) ∧
    (u.torusLinkDown (n / 2 * 2) = false ∨ u.torusLinkDown (n / 2 * 2 + 1) = false → exec (.nocLinkDown n) s = .next u)) ∧
  (s.answers .noc d 0 = true →
    Gives (.nocCntClr d 15) s s [NOC_CNT_DENY.V.is (nocB d) 0, NOC_CNT_LATE.V.is (nocB d) 0, NOC_CNT_TMO.V.is (nocB d) 0,
      NOC_CNT_LINK.V.is (nocB d) 0] ∧
    Gives (.nocCntClr d 2) s s [NOC_CNT_TMO.V.is (nocB d) 0] ∧
    (∀ v : Word, exec (.nsClr d v) s = .next (s.each ((List.range 32).filter fun g => bitAt v.toNat g && hasStats g) fun g s =>
      ((s.wr2 (nocB d + g * 128) NS_RDB_LO.V NS_RDB_HI.V 0).wr2 (nocB d + g * 128) NS_WRB_LO.V NS_WRB_HI.V 0).each (List.range 16)
        fun k s => s.wr (nocB d + g * 128 + k * 4) NS_HIST.V 0)) ∧
    Gives (.ntClear d) s s [NT_WPTR.FULL.is (nocB d) 0, NT_WPTR.NEXT.is (nocB d) 0])

/-- Register accesses and commits (R3, R9 to R11, R15, R45, R48, R555). An admitted, aligned write reaches its register; a misaligned or wrongly sized one
changes nothing but raising the reserved-write source. GO with values that pass the check makes the block's staged values active, or leaves them to
a BUSY commit of a bank or a level mirror; a failed check and a GO during BUSY set COMMIT_ERR; DISCARD drops the block's staged values.
Completion is stated of: registerWrite, badSizeAccess, commitGo, commitDiscard. -/
def Obligations.RegisterAccess : Prop :=
  ∀ (s : State) (ini : Ini) (a : BitVec 40) (p : Place),
  (RegReach s ini true a →
    (∀ v r, a.toNat % 4 = 0 → exec (.registerWrite ini a false v r) s = .next (s.topWrite ini false r a.toNat (v.truncate 32))) ∧
    (∀ v r, a.toNat % 8 = 0 → exec (.registerWrite ini a true v r) s =
      .next ((s.topWrite ini false r a.toNat (v.truncate 32)).topWrite ini false r (a.toNat + 4) ((v >>> 32).truncate 32))) ∧
    (∀ v r, a.toNat % 4 ≠ 0 → exec (.registerWrite ini a false v r) s = .next (s.raise (dieOf a.toNat) 112 none (dieOf a.toNat))) ∧
    (∀ v r, a.toNat % 8 ≠ 0 → exec (.registerWrite ini a true v r) s = .next (s.raise (dieOf a.toNat) 112 none (dieOf a.toNat))) ∧
    (s.por = false → exec (.badSizeAccess ini true a) s = .next (s.raise (dieOf a.toNat) 112 none (dieOf a.toNat))) ∧
    (placeOf a.toNat = some p → p.off = 8 → s.por = false → s.answersTo ini p = true →
      exec (.commitGo ini a) s = .next (s.commitGo p (match ini with | .owl _ => true | _ => false)) ∧
      exec (.commitDiscard ini a) s = .next (s.commitDiscard p)) ∧
    (placeOf a.toNat = some p → s.answersTo ini p = false →
      exec (.commitGo ini a) s = .next s ∧ exec (.commitDiscard ini a) s = .next s)) ∧
  (RegReach s ini false a → s.por = false →
    exec (.badSizeAccess ini false a) s = .next (s.raise (dieOf a.toNat) 112 none (dieOf a.toNat))) ∧
  (p.mirrorBlock = false →
    (s.on p.base BLK_COMMIT.BUSY = true → ∀ o, s.commitGo p o = s.wr p.base BLK_STAT.COMMIT_ERR 1 ∧
      s.commitDiscard p = s.wr p.base BLK_STAT.COMMIT_ERR 1) ∧
    (s.on p.base BLK_COMMIT.BUSY = false →
      s.commitDiscard p = { s with stg := KV.dropRange (p.base * 32) ((p.base + p.k.pitch) * 32) s.stg } ∧
      (∀ o, s.commitCheck p o = false → p.k ≠ .ckp → s.commitGo p o = s.wr p.base BLK_STAT.COMMIT_ERR 1) ∧
      (∀ o u, s.commitCheck p o = true → s.tableChanged p = false →
        u = { s with held := (KV.range (p.base * 32) ((p.base + p.k.pitch) * 32) s.stg).foldl (fun m (e : Nat × Nat) => KV.put e.1 e.2 m) s.held } →
        (p.k = .tcb ∨ p.k = .arp → s.commitGo p o = u.wr p.base BLK_COMMIT.BUSY 1) ∧
        (p.k ≠ .tcb → p.k ≠ .arp → s.commitGo p o = (u.applyHeld p.base (p.base + p.k.pitch)).committed s p))))

/-- What one register field takes from a write, by its access code (00_scope.md, Notation; R8, R15): a read-write field the value, a read-only or
write-only one nothing, a write-one-to-clear field loses the bits written 1, a write-one-to-set field gains them, and a staged field keeps its
active value and stages the new one, which reads back. Every other field keeps its value. -/
def Obligations.FieldAccessCodes : Prop :=
  ∀ (s : State) (b : Nat) (f : Fld) (x : Nat),
  (∀ busy, (s.writeField b f .rw busy x).rd b f = x % 2 ^ f.width ∧ (s.writeField b f .rwl busy x).rd b f = x % 2 ^ f.width ∧
    s.writeField b f .ro busy x = s ∧ s.writeField b f .wo busy x = s ∧
    (s.writeField b f .w1c busy x).rd b f = (s.rd b f - (s.rd b f &&& x)) % 2 ^ f.width ∧
    (s.writeField b f .w1s busy x).rd b f = (s.rd b f ||| x) % 2 ^ f.width) ∧
  ((s.writeField b f .rws false x).staged b f = x % 2 ^ f.width ∧ (s.writeField b f .rws false x).rd b f = s.rd b f) ∧
  (∀ b' f' acc busy, f'.key b' ≠ f.key b → (s.writeField b f acc busy x).rd b' f' = s.rd b' f') ∧
  (∀ i, i < f.width → ∀ busy, s.rd b f < 2 ^ f.width →
    ((s.writeField b f .w1c busy x).rd b f).testBit i = ((s.rd b f).testBit i && !x.testBit i))

/-- Bank monitors (R53, R55): a supply that leaves its window, or a VTT overcurrent, of a bank whose flag was set clears the flag, latches the
bank's enabled pins and raises source 32 or 33 for the bank; a return inside the window (by 10 mV), or to 200 mA, sets the flag again. The condition
of the source is present while the flag is 0. The measured value is recorded always.
Completion is stated of: vccbOutOfWindow, vccbReturn, vttOvercurrent, vttRecover. -/
def Obligations.BankMonitors : Prop :=
  ∀ (s : State) (b : Fin 72) (v : BitVec 11),
  (s.on (tcbB b) TCB_STAT.VCCB_OK = true →
    s.vccbOut b v.toNat = true →
    exec (.vccbOutOfWindow b v) s = .next ((((s.wr (tcbB b) TCB_VMON.VCCB v.toNat).wr (tcbB b) TCB_STAT.VCCB_OK 0).latchPins b
      0xFFFFFFFF).raise (b / 18) 32 none b)) ∧
  (s.vccbOut b v.toNat = false ∨ s.on (tcbB b) TCB_STAT.VCCB_OK = false →
    Gives (.vccbOutOfWindow b v) s s [TCB_VMON.VCCB.is (tcbB b) v.toNat]) ∧
  (s.vccbInside b v.toNat = true →
    Gives (.vccbReturn b v) s s [TCB_STAT.VCCB_OK.is (tcbB b) 1, TCB_VMON.VCCB.is (tcbB b) v.toNat]) ∧
  (s.vccbInside b v.toNat = false →
    Gives (.vccbReturn b v) s s [TCB_VMON.VCCB.is (tcbB b) v.toNat]) ∧
  (s.on (tcbB b) TCB_STAT.VTT_OK = true → 200 < v.toNat →
    exec (.vttOvercurrent b v) s = .next ((((s.wr (tcbB b) TCB_VMON.VTTI v.toNat).wr (tcbB b) TCB_STAT.VTT_OK 0).latchPins b
      0xFFFFFFFF).raise (b / 18) 33 none b)) ∧
  (v.toNat ≤ 200 ∨ s.on (tcbB b) TCB_STAT.VTT_OK = false → Gives (.vttOvercurrent b v) s s [TCB_VMON.VTTI.is (tcbB b) v.toNat]) ∧
  (v.toNat ≤ 200 →
    Gives (.vttRecover b v) s s [TCB_STAT.VTT_OK.is (tcbB b) 1, TCB_VMON.VTTI.is (tcbB b) v.toNat]) ∧
  (200 < v.toNat → Gives (.vttRecover b v) s s [TCB_VMON.VTTI.is (tcbB b) v.toNat]) ∧
  (s.on (tcbB b) TCB_STAT.VCCB_OK = false → s.condPresent (b / 18) 32 = true) ∧ (s.on (tcbB b) TCB_STAT.VTT_OK = false → s.condPresent (b / 18) 33 = true)

/-- Channel words (R56, R61, R62, R66, R69, R156): in a PCLK that its bank's cadence takes, a channel executes its input word. In serial mode a clean
word runs its symbol, a poisoned word counts a substitution, raises source 34 and runs as DZ, a reserved word (bit 39, or a symbol code of 8 or more)
the same with source 35 and captures nothing; in vector mode the word's entries run from the first period that starts in the PCLK. Under an override
of the site the pin runs DZ, or keeps its level, whatever the word holds. A PCLK that the cadence does not take, and the odd pin of a differential
pair, change nothing.
Completion is stated of: channelWordTake. -/
def Obligations.ChannelWords : Prop :=
  ∀ (s : State) (ch : Fin 2304) (w : BitVec 40) (poison : BitVec 5) (c : Nat) (v : Seen),
  ∀ data sym cm capt trig, data = bits w.toNat 0 32 → sym = bits w.toNat 32 4 → cm = bitAt w.toNat 36 → capt = bitAt w.toNat 37 →
    trig = bitAt w.toNat 38 →
  (s.takes (ch / 32) c = false ∨ (s.differential (ch / 32) = true ∧ ch.val % 2 = 1) → exec (.channelWordTake ch w poison c v) s = .next s) ∧
  (s.takes (ch / 32) c = true → (s.differential (ch / 32) = true → ch.val % 2 = 0) →
    (s.overrideAt ch c = .none → ∀ u1 u2, u1 = (s.count (chB ch) CH_CNT_SUBST.V).raise (ch / 576) 34 (some (s.chanSite ch)) ch →
        u2 = (s.count (chB ch) CH_CNT_SUBST.V).raise (ch / 576) 35 (some (s.chanSite ch)) ch →
      (∀ k, s.vecMode (ch / 32) = false → serialWord (s.cadM (ch / 32)) (s.cadN (ch / 32)) c = some k →
        (poison = 0 → bitAt w.toNat 39 = false → sym < 8 →
          exec (.channelWordTake ch w poison c v) s = .next (s.serialWordExec ch k c sym data cm capt trig false v)) ∧
        (poison ≠ 0 → exec (.channelWordTake ch w poison c v) s = .next (u1.serialWordExec ch k c 1 data true capt trig false v)) ∧
        (poison = 0 → (bitAt w.toNat 39 = true ∨ 8 ≤ sym) →
          exec (.channelWordTake ch w poison c v) s = .next (u2.serialWordExec ch k c 1 data true false trig false v))) ∧
      (∀ k n, s.vecMode (ch / 32) = true → vectorStarts (s.period (ch / 32)) c = (k, n) →
        (poison = 0 → bitAt w.toNat 39 = false →
          exec (.channelWordTake ch w poison c v) s = .next (s.vectorExec ch k n c data cm capt trig false false 1 v)) ∧
        (poison ≠ 0 → exec (.channelWordTake ch w poison c v) s = .next (u1.vectorExec ch k n c data true capt trig true false 1 v)) ∧
        (poison = 0 → bitAt w.toNat 39 = true →
          exec (.channelWordTake ch w poison c v) s = .next (u2.vectorExec ch k n c data true false trig true false 1 v)))) ∧
    (s.overrideAt ch c ≠ .none → ∀ y, y = (if s.overrideAt ch c = .keep then 2 else 1) →
      (∀ k, s.vecMode (ch / 32) = false → serialWord (s.cadM (ch / 32)) (s.cadN (ch / 32)) c = some k →
        exec (.channelWordTake ch w poison c v) s = .next (s.serialWordExec ch k c y data cm capt trig true v)) ∧
      (∀ k n, s.vecMode (ch / 32) = true → vectorStarts (s.period (ch / 32)) c = (k, n) →
        exec (.channelWordTake ch w poison c v) s = .next (s.vectorExec ch k n c data cm capt trig false true y v))))

/-- Pin roles, enable, safe state and blanking (R56, R78 to R86, R89). A role write answered by its bank: to a new role of a live pin it starts the
break-before-make transition (ROLE recorded, BUSY set, driver, termination and switch off); during a transition, or when another pin has PARAM, it
is rejected; on a safe pin it takes at once; the reserved role is discarded with RSVW; the odd pin of a pair takes none. The midpoint closes the
switch toward PARAM and reconnects the termination away from it; the end loads CUR. TCB_EN and TCB_SAFE act pin by pin. CH_CAPPTR takes 0 to 2048.
Completion is stated of: roleWrite, roleMidpoint, roleTransitionDone, tcbEnWrite, tcbSafeWrite, blankEnd, capptrWrite. -/
def Obligations.PinRolesAndSafe : Prop :=
  ∀ (s : State) (ch : Fin 2304) (b : Fin 72) (v : Word),
  (s.answers .tcb (ch / 576) (ch % 576 / 32) = true → (s.differential (ch / 32) = true → ch.val % 2 = 0) → ∀ r : Fin 3, ∀ w, w = BitVec.ofNat 32 r →
    (s.on (chB ch) CH_ROLE.BUSY = true → Gives (.roleWrite ch w) s s [CH_ROLE.REJ.is (chB ch) 1]) ∧
    (s.on (chB ch) CH_ROLE.BUSY = false → r.val = s.rd (chB ch) CH_ROLE.CUR →
      Gives (.roleWrite ch w) s s [CH_ROLE.ROLE.is (chB ch) r.val]) ∧
    (s.on (chB ch) CH_ROLE.BUSY = false → r.val ≠ s.rd (chB ch) CH_ROLE.CUR →
      (r.val = 1 → s.paramTaken ch = true → Gives (.roleWrite ch w) s s [CH_ROLE.REJ.is (chB ch) 1]) ∧
      ((r.val = 1 → s.paramTaken ch = false) →
        (s.pinSafe ch = true → Gives (.roleWrite ch w) s s [CH_ROLE.CUR.is (chB ch) r.val, CH_ROLE.ROLE.is (chB ch) r.val]) ∧
        (s.pinSafe ch = false → exec (.roleWrite ch w) s = .next (s.startRole ch r.val))))) ∧
  (s.differential (ch / 32) = false → s.rd (chB ch) CH_ROLE.CUR ≠ 1 → bitAt (s.bank (ch / 32)).etcPins (ch % 32) = false → ∀ r, r < 3 →
    s.startRole ch r = (((s.wr (chB ch) CH_ROLE.ROLE r).wr (chB ch) CH_ROLE.BUSY 1).maskPin ch).setPin ch { s.pin ch with
      src := s.rd (chB ch) CH_ROLE.CUR, tgt := r, enab := false, mid := false, drv := false, term := false, sw := false }) ∧
  (s.answers .tcb (ch / 576) (ch % 576 / 32) = true → (s.differential (ch / 32) = true → ch.val % 2 = 0) →
    (v.toNat % 4 = 3 → Gives (.roleWrite ch v) s s [BLK_STAT.RSVW.is (tcbB (ch / 32)) 1]) ∧
    (v.toNat % 4 ≠ 3 → exec (.roleWrite ch v) s = .next (((s.rsvBits (tcbB (ch / 32)) 0x333 v.toNat).when (bitAt v.toNat 9) fun s =>
      s.wr (chB ch) CH_ROLE.REJ 0).roleWrite ch (BitVec.ofNat 32 (v.toNat % 4))))) ∧
  (s.differential (ch / 32) = true → ch.val % 2 = 1 → exec (.roleWrite ch v) s = .next s ∧ exec (.capptrWrite ch v) s = .next s) ∧
  (s.on (chB ch) CH_ROLE.BUSY = true → (s.pin ch).mid = false → (s.pin ch).tgt = 1 →
    exec (.roleMidpoint ch) s = .next (s.setPin ch { s.pin ch with sw := true, mid := true })) ∧
  (s.on (chB ch) CH_ROLE.BUSY = true → (s.pin ch).mid = false → (s.pin ch).tgt ≠ 1 →
    ((s.pin ch).src = 1 ∨ ((s.pin ch).enab = true ∧ (s.pin ch).tgt = 0) →
      exec (.roleMidpoint ch) s = .next (s.setPin ch { s.pin ch with term := s.hasTerm ch, mid := true }))) ∧
  (s.on (chB ch) CH_ROLE.BUSY = true → ∀ u, u = (s.wr (chB ch) CH_ROLE.CUR (s.pin ch).tgt).wr (chB ch) CH_ROLE.BUSY 0 →
    exec (.roleTransitionDone ch) s = .next ((if (s.pin ch).tgt = 0 then u.unmaskPin ch else u).setPin ch { s.pin ch with
      enab := false, sw := (s.pin ch).tgt == 1, term := (s.pin ch).tgt != 1 && s.hasTerm ch, src := (s.pin ch).tgt })) ∧
  (s.answers .tcb (b / 18) (b % 18) = true → ∀ old new, old = s.rd (tcbB b) TCB_EN.EN →
    new = (if s.ready (b / 18) rdyTCB then v.toNat else v.toNat &&& old) →
    exec (.tcbEnWrite b v) s = .next ((s.wr (tcbB b) TCB_EN.EN new).each (List.range 32) fun p s =>
      if bitAt old p && !bitAt new p then s.pinToSafe (b * 32 + p)
      else if bitAt new p && !bitAt old p then s.enablePin (b * 32 + p) else s)) ∧
  (s.answers .tcb (b / 18) (b % 18) = true →
    exec (.tcbSafeWrite b v) s = .next (s.each (List.range 32) fun p s =>
      if bitAt v.toNat p && s.bit (tcbB b) TCB_SAFE.LATCH p && !s.safeCause (b * 32 + p) then
        if s.bit (tcbB b) TCB_EN.EN p then (s.wrBit (tcbB b) TCB_SAFE.LATCH p false).startEnable (b * 32 + p)
        else s.wrBit (tcbB b) TCB_SAFE.LATCH p false
      else s)) ∧
  Gives (.blankEnd b none) s (s.setBank b { s.bank b with blankFrom := 0, blankTo := 0 }) [TCB_STAT.BLANK.is (tcbB b) 0] ∧
  (∀ p : Fin 32, exec (.blankEnd b (some p)) s =
    .next (s.setPin (b * 32 + p) { s.pin (b * 32 + p) with blankFrom := 0, blankTo := 0 })) ∧
  (s.answers .tcb (ch / 576) (ch % 576 / 32) = true → (s.differential (ch / 32) = true → ch.val % 2 = 0) →
    (∀ n : Fin 2049, Gives (.capptrWrite ch (BitVec.ofNat 32 n)) s s
      [CH_CAPPTR.FULL.is (chB ch) (if n.val = 2048 then 1 else 0), CH_CAPPTR.PTR.is (chB ch) n]) ∧
    (2048 < v.toNat % 4096 → Gives (.capptrWrite ch v) s s [BLK_STAT.RSVW.is (tcbB (ch / 32)) 1]))

/-- Equivalent-time capture (R89 to R91). GO on an idle bank whose last result is acknowledged starts a run: SEQ advances, STATUS 1 (running), VALID 0,
the sweep at its first bin, on the pins of TCB_ETC_PINS (the even ones of pairs); otherwise it is ignored with ETC_REJ. ACK releases a valid result.
A REFLECT driver's rising step is a trigger. The oldest trigger adds, for every pin of the run, whether its voltage is above the threshold of the
sweep to the byte of the current bin, and moves the sweep. A finished sweep ends OK with PTR set; 2^24 PCLK without a trigger end it TIMEOUT.
Completion is stated of: etcGo, etcAck, etcTrigger, reflectStepLaunch, etcDone, etcTimeout. -/
def Obligations.EquivalentTime : Prop :=
  ∀ (s : State) (b : Fin 72),
  (s.answers .tcb (b / 18) (b % 18) = true →
    ((s.bank b).etcAckd = true → s.on (tcbB b) TCB_STAT.ETC_BUSY = false → ∀ pins,
      pins = s.rd (tcbB b) TCB_ETC_PINS.PINS &&& (if s.differential b then 0x55555555 else 0xFFFFFFFF) →
      Gives (.etcGo b) s
        ((s.comps (fun ch => ch / 32 == b && bitAt pins (ch % 32)) fun k => if s.nowSteps (b / 18) ≤ k.hi then { k with etc := true } else k).setBank b
          { s.bank b with etcThr := 0, etcBin := 0, etcRep := 0, etcPins := pins, etcTrigs := [], etcAt := s.tick (b / 18) })
        [TCB_STAT.ETC_BUSY.is (tcbB b) 1, TCB_ETC_RES.VALID.is (tcbB b) 0, TCB_ETC_RES.STATUS.is (tcbB b) 1,
         TCB_ETC_RES.SEQ.is (tcbB b) (s.rd (tcbB b) TCB_ETC_RES.SEQ + 1)]) ∧
    ((s.bank b).etcAckd = false ∨ s.on (tcbB b) TCB_STAT.ETC_BUSY = true →
      Gives (.etcGo b) s s [TCB_STAT.ETC_REJ.is (tcbB b) 1]) ∧
    (s.on (tcbB b) TCB_ETC_RES.VALID = true → exec (.etcAck b) s = .next (s.setBank b { s.bank b with etcAckd := true })) ∧
    (s.on (tcbB b) TCB_ETC_RES.VALID = false → exec (.etcAck b) s = .next s)) ∧
  (∀ uv : List Int, s.on (tcbB b) TCB_STAT.ETC_BUSY = true → (s.bank b).etcTrigs ≠ [] → (s.bank b).etcThr < s.etcNTH b →
    ∀ i x y, i = (s.bank b).etcThr * s.etcNT b + (s.bank b).etcBin → x = s.bank b → y = { x with etcTrigs := x.etcTrigs.tail } →
      exec (.etcTrigger b uv) s = .next ((s.each ((List.range 32).filter (bitAt x.etcPins)) fun p s =>
        s.capByte (b * 32 + p) i ((if x.etcRep = 0 then 0 else bits (s.rd (capB (b * 32 + p) (i / 4)) CH_CAPBUF.V) (8 * (i % 4)) 8) +
          if s.threshold (b * 32 + p) (s.rd (tcbB b) TCB_ETC_TH.TH0 + x.etcThr * s.rd (tcbB b) TCB_ETC_TH.THSTEP)
            (s.rd (chB (b * 32 + p)) CH_TRIM.THH_TRIM) < 32 * uv.getD p 0 then 1 else 0)).setBank b
        (if x.etcRep + 1 < s.rd (tcbB b) TCB_ETC_CFG.REPS then { y with etcRep := x.etcRep + 1 }
         else if x.etcBin + 1 < s.etcNT b then { y with etcRep := 0, etcBin := x.etcBin + 1 }
         else { y with etcRep := 0, etcBin := 0, etcThr := x.etcThr + 1 }))) ∧
  (∀ uv : List Int, s.on (tcbB b) TCB_STAT.ETC_BUSY = false ∨ (s.bank b).etcTrigs = [] → exec (.etcTrigger b uv) s = .next s) ∧
  (∀ (ch : Fin 2304) (r : Bool), (s.differential (ch / 32) = true → ch.val % 2 = 0) → s.pinSafe ch = false → s.on (chB ch) CH_ROLE.BUSY = false →
    s.rd (chB ch) CH_ROLE.CUR = 2 → ∀ u, u = s.drive ch true r →
    exec (.reflectStepLaunch ch r) s = .next (if r = true ∧ u.etcCovers ch = true then u.etcTriggered (ch / 32) (u.nowSteps (ch / 576)) else u)) ∧
  (∀ n, s.on (tcbB b) TCB_STAT.ETC_BUSY = true → s.etcNTH b ≤ (s.bank b).etcThr → n = (s.etcNT b * s.etcNTH b + 3) / 4 →
    exec (.etcDone b) s = .next ((s.each ((List.range 32).filter (bitAt (s.bank b).etcPins)) fun p s =>
      (s.wr (chB (b * 32 + p)) CH_CAPPTR.PTR n).wrb (chB (b * 32 + p)) CH_CAPPTR.FULL (n = 2048)).etcEnd b 0)) ∧
  ((s.bank b).etcAt + 8 * 2 ^ 24 ≤ s.tick (b / 18) → exec (.etcTimeout b) s = .next (s.etcEnd b 3)) ∧
  (s.tick (b / 18) < (s.bank b).etcAt + 8 * 2 ^ 24 → exec (.etcTimeout b) s = .next s) ∧
  (∀ k, s.on (tcbB b) TCB_STAT.ETC_BUSY = true → k < 16 → (s.etcEnd b k).rd (tcbB b) TCB_ETC_RES.STATUS = k ∧
    (s.etcEnd b k).on (tcbB b) TCB_ETC_RES.VALID = true ∧ (s.etcEnd b k).on (tcbB b) TCB_STAT.ETC_BUSY = false ∧
    (s.etcEnd b k).bank b = { s.bank b with etcAckd := false, etcPins := 0, etcTrigs := [] })

/-- Counters, drift, calibration and the bank commit (R87, R88, R92 to R95). TCB_CNT_CLR clears five counters of a marked pin and no others;
a drift measurement records the correction needed, and PEND where a pin has not got it; an application, at an application point of its site alone,
moves each of the site's pins at most 4 steps toward it; past a millisecond the deferral is late, raises source 37 once, and counts each further
full millisecond; the Owl loads a bank's record from Sett before READY.TCB: one that passes loads every pin's trims, a missing or failing one leaves
zeros, sets CAL_DEFAULT and raises source 36; a held commit takes effect when no site that owns an enabled pin runs.
Completion is stated of: tcbCommitApply, tcbCntClr, driftMeasure, driftApply, driftLate, calRecordLoad. -/
def Obligations.DriftAndCalibration : Prop :=
  ∀ (s : State) (b : Fin 72),
  (s.answers .tcb (b / 18) (b % 18) = true →
    ∀ v : Word, exec (.tcbCntClr b v) s = .next (s.each ((List.range 32).filter (bitAt v.toNat)) fun p s =>
      ((((s.wr (chB (b * 32 + p)) CH_CNT_MASKED.V 0).wr (chB (b * 32 + p)) CH_CNT_BLANKED.V 0).wr (chB (b * 32 + p)) CH_CNT_SUBST.V 0).wr
        (chB (b * 32 + p)) CH_CNT_EDGE.V 0).wr (chB (b * 32 + p)) CH_CNT_CAPLOST.V 0)) ∧
  (∀ err : Int, Leads (.driftMeasure b err) s fun t => (t.bank b).drift = err ∧
    (∀ p, p < 32 → (t.pin (b * 32 + p)).corr = (s.pin (b * 32 + p)).corr ∧ (t.pin (b * 32 + p)).driftAt =
      if s.driftLeft b p = 0 then s.tick (b / 18) else (s.pin (b * 32 + p)).driftAt) ∧
    t.on (tcbB b) TCB_DRIFT.PEND = (List.range 32).any (fun p => err != (s.pin (b * 32 + p)).corr)) ∧
  (∀ (st : Fin 16) (c : Nat),
    (s.driftPoint st c = false → exec (.driftApply ⟨b, st, c⟩) s = .next s) ∧
    (∀ p0 ps, ((List.range 32).filter fun p => s.chanSite (b * 32 + p) == st.val && s.driftLeft b p != 0) = p0 :: ps →
      s.driftPoint st c = true → Leads (.driftApply ⟨b, st, c⟩) s fun t =>
        (∀ p ∈ p0 :: ps, (t.pin (b * 32 + p)).corr = (s.pin (b * 32 + p)).corr + max (-4) (min 4 (s.driftLeft b p)) ∧
          (t.pin (b * 32 + p)).driftAt = s.tick (b / 18)) ∧
        (∀ q, (∀ p ∈ p0 :: ps, q ≠ b * 32 + p) → t.pin q = s.pin q) ∧
        t.rd (tcbB b) TCB_DRIFT.LAST = wrapI 8 (max (-4) (min 4 (s.driftLeft b p0))) % 2 ^ TCB_DRIFT.LAST.width)) ∧
  (∀ t, s.driftOldest b = some t → s.tick (b / 18) ≤ t + 4000000 → exec (.driftLate b) s = .next s) ∧
  (∀ t ms, s.driftOldest b = some t → t + 4000000 < s.tick (b / 18) → ms = (s.tick (b / 18) - t) / 4000000 - 1 →
    ∀ u, u = ((s.wr (tcbB b) TCB_STAT.DRIFT_LATE 1).count (tcbB b) TCB_DRIFT.LATE_CNT (ms - (s.bank b).lateMs)).setBank b
        { s.bank b with driftLate := true, lateMs := max ms (s.bank b).lateMs } →
      exec (.driftLate b) s = .next (if (s.bank b).driftLate then u else u.raise (b / 18) 37 none b)) ∧
  (s.owlRuns (b / 18) = true → s.ready (b / 18) rdyTCB = false →
    ∀ errs m u, m = s.settMeets (b / 18) errs →
    u = m.settRead (b / 18) (halfBlock (m.sett (b / 18)).half * 0x10000) (m.sett (b / 18)).used →
    (∀ r, m.ownRec (b / 18) 0x0201 b = some r → calRecordOk b r.data = true →
      exec (.calRecordLoad b errs) s = .next ((((u.each (List.range 32) fun p s => s.calPin b p r.data).wr (tcbB b)
        TCB_STAT.CAL_LOADED 1).wr (tcbB b) TCB_STAT.CAL_DEFAULT 0))) ∧
    ((∀ r, m.ownRec (b / 18) 0x0201 b = some r → calRecordOk b r.data = false) →
      exec (.calRecordLoad b errs) s = .next ((((u.each (List.range 32) fun p s => s.calPin b p []).wr (tcbB b)
        TCB_STAT.CAL_LOADED 1).wr (tcbB b) TCB_STAT.CAL_DEFAULT 1).raise (b / 18) 36 none b))) ∧
  (s.ready (b / 18) rdyTCB = true → ∀ errs, exec (.calRecordLoad b errs) s = .next s) ∧
  (s.on (tcbB b) BLK_COMMIT.BUSY = true → s.bankRunning b = false → exec (.tcbCommitApply b) s = .next (s.tcbApply b)) ∧
  (s.bankRunning b = true → exec (.tcbCommitApply b) s = .next s)

/-- The guest port of a die (R96, R98 to R103, R119). Discovery starts the sideband unless the guest is admitted; no answer parks the port and,
on LD0 and LD2, fails the ARP (source 38); an admission with the ARP's identity, GVER major 1, 36 banks and trained links sets PRESENT, GVER and
WIDTH, both mirrors' registers and readiness, another one parks the port (source 39), and the capability registers are held; a lost mainband drops
both mirrors, ends the measurements ABORTED and raises source 40; a lost heartbeat and an over-temperature turn every PMU of the ARP off; a retrain
brings the mirrors back at the rate and width it negotiated, and its third failure leaves the dies without an ARP; the four sensors are copied to
both mirrors. What happens at mainband down, and the PMUs off after every retrain, are the model's choice (notes/assumptions/105.md).
Completion is stated of: guestDiscovery, guestSidebandTimeout, guestAdmissionDone, arpLinkDown, arpHeartbeatTimeout, arpRetrainDone,
arpOverTemperature, arpTempSample. -/
def Obligations.GuestPort : Prop :=
  ∀ (s : State) (d : Fin 4),
  (s.guest d ≠ .admitted → exec (.guestDiscovery d) s = .next (s.setGuest d .discover)) ∧
  (s.guest d = .discover → d.val % 2 = 0 → exec (.guestSidebandTimeout d) s = .next ((s.parkGuest d).arpFailed d 38)) ∧
  (s.guest d = .discover → d.val % 2 = 1 → exec (.guestSidebandTimeout d) s = .next (s.parkGuest d)) ∧
  (∀ (id : BitVec 16) (gver banks : BitVec 8) (caps : Nat) (link : GuestLink), s.guest d = .discover → ∀ u w,
    u = s.setArp d { s.arp d with id := id.toNat, gver := gver.toNat, banks := banks.toNat, caps := caps } → w = (if link.x16 then 16 else 8) →
    (id.toNat = 0x4152 → gver.toNat / 16 = 1 → banks.toNat = 36 →
      exec (.guestAdmissionDone d id gver banks caps true link) s =
        .next (((((((((u.wr (dctlB d) DCTL_GUEST.PRESENT 1).wr (dctlB d) DCTL_GUEST.GVER gver.toNat).setGuest d .admitted).wr (dctlB d)
          DCTL_GUEST.WIDTH w).each [d.val, arpPartner d] fun e s =>
            ((s.wr (arpB e) ARP_LINK.UP 1).wr (arpB e) ARP_LINK.RATE link.rate.toNat).wr (arpB e) ARP_LINK.WIDTH w).setReady d rdyGPT true).each
          [d.val, arpPartner d] fun e s => ((s.wr (arpB e) ARP_INFO.GUEST_ID id.toNat).wr (arpB e) ARP_INFO.GVER gver.toNat).wr (arpB e)
            ARP_INFO.BANKS banks.toNat).setReady d rdyARP true).arpPartnerReady d)) ∧
    (∀ trained, ¬(id.toNat = 0x4152 ∧ gver.toNat / 16 = 1 ∧ banks.toNat = 36 ∧ trained = true) →
      exec (.guestAdmissionDone d id gver banks caps trained link) s = .next ((u.parkGuest d).arpFailed d 39))) ∧
  (∀ u, u = (((s.setGuest d (.retrain 0)).each [d.val, arpPartner d] fun e s => (s.wr (arpB e) ARP_LINK.UP 0).setReady e rdyARP false).each
      (arpBanks d) fun b s => s.pmuEnd b 4).raise d 40 none d → s.guest d = .admitted →
    exec (.arpLinkDown d) s = .next u ∧
    exec (.arpHeartbeatTimeout d) s = .next (u.each (arpBanks d) fun b s => s.pmuForceOff b)) ∧
  (s.arpAlive d = true → s.guest d ≠ .admitted →
    exec (.arpHeartbeatTimeout d) s = .next (s.each (arpBanks d) fun b s => s.pmuForceOff b)) ∧
  (∀ n, s.guest d = .retrain n →
    (∀ link, exec (.arpRetrainDone d (some link)) s = .next (((((s.arpUp d link).each [d.val, arpPartner d] fun e s =>
      s.count (arpB e) ARP_LINK.RETRAIN).each (arpBanks d) fun b s => s.pmuForceOff b).setReady d rdyARP true).arpPartnerReady d)) ∧
    (n < 2 → exec (.arpRetrainDone d none) s = .next (s.setGuest d (.retrain (n + 1)))) ∧
    (2 ≤ n → exec (.arpRetrainDone d none) s = .next ((s.setGuest d .lost).each [d.val, arpPartner d] fun e s =>
      (s.setFail e rdyARP).setFail e rdyTCB))) ∧
  (∀ t : BitVec 16, s.arpAlive d = true → 1100 < t.toInt →
    exec (.arpOverTemperature d t) s = .next ((s.each (arpBanks d) fun b s => s.pmuForceOff b).raise d 41 none d)) ∧
  (∀ t : BitVec 16, t.toInt ≤ 1100 → exec (.arpOverTemperature d t) s = .next s) ∧
  (∀ t0 t1 t2 t3 : BitVec 16, s.guest d = .admitted →
    Gives (.arpTempSample d t0 t1 t2 t3) s s ([arpPartner d, d.val].flatMap fun e => [(3, t3), (2, t2), (1, t1), (0, t0)].flatMap fun (k, t) =>
      [ARP_TEMP.TEMP.is (arpB e + k * 4) t.toNat, ARP_TEMP.VALID.is (arpB e + k * 4) 1]))

/-- Level codes and the commit of the ARP mirror (R104 to R106, R108). VTT takes a code of at most 0xC350, VREFB one within the window of the
bank's threshold range in force, which also blanks the bank for 4000 ticks; other codes are discarded with RSVW. A write of VREFB in the PCLK in
which a range change takes effect waits for it. A mirror that does not answer
takes nothing. A passed mirror commit takes effect for its 18 bank services.
Completion is stated of: vttWrite, vrefbWrite, arpCommitApply. -/
def Obligations.LevelCodes : Prop :=
  ∀ (s : State) (b : Fin 72) (d : Fin 4),
  (∀ v, s.answers .arp (b / 18) 0 = false → exec (.vttWrite b v) s = .next s ∧ exec (.vrefbWrite b v) s = .next s) ∧
  (s.answers .arp (b / 18) 0 = true →
    (∀ c : Fin 50001, Gives (.vttWrite b (BitVec.ofNat 32 c)) s s [AB_VTT.CODE.is (abB b) c]) ∧
    (∀ v : Word, 50000 < v.toNat % 65536 → Gives (.vttWrite b v) s s [BLK_STAT.RSVW.is (arpB (b / 18)) 1]) ∧
    (∀ v : Word, v.toNat % 65536 ≤ 50000 → exec (.vttWrite b v) s = .next ((s.rsvBits (arpB (b / 18)) 0xFFFF v.toNat).wr (abB b)
      AB_VTT.CODE (v.toNat % 65536))) ∧
    (∀ v : Word, s.rangeDue b = true → exec (.vrefbWrite b v) s = .next (s.setBank b { s.bank b with vrefW := (s.bank b).vrefW ++ [v.toNat] })) ∧
    (∀ v : Word, s.rangeDue b = false → vrefbOk (s.rd (tcbB b) TCB_CTL.THR_RNG) (v.toNat % 65536) = true →
      exec (.vrefbWrite b v) s = .next (((s.rsvBits (arpB (b / 18)) 0xFFFF v.toNat).wr (abB b) AB_VREFB.CODE (v.toNat % 65536)).blankBank
        b 4000)) ∧
    (∀ v : Word, s.rangeDue b = false → vrefbOk (s.rd (tcbB b) TCB_CTL.THR_RNG) (v.toNat % 65536) = false →
      Gives (.vrefbWrite b v) s s [BLK_STAT.RSVW.is (arpB (b / 18)) 1])) ∧
  (s.on (arpB d) BLK_COMMIT.BUSY = true → exec (.arpCommitApply d) s = .next (s.arpApply d)) ∧
  (s.on (arpB d) BLK_COMMIT.BUSY = false → exec (.arpCommitApply d) s = .next s)

/-- A PMU measurement (R111 to R118). GO of an idle, acknowledged, connected PMU with a mode starts it: SEQ advances, STATUS 1, VALID 0, BUSY, and
its SETTLE time starts, or waits for a range or mode change in progress; otherwise GO sets REJ. ACK of an ended measurement sets ACKD. The end
of SETTLE starts the conversions, and their end writes CODE (a current beyond full scale reads as the limit, with OVR), DONE, VALID, ACKD 0 and
CLAMP where a limit engages. A range change drops the old range at 1 µs and clears RCHG when it has settled.
Completion is stated of: pmuGo, pmuAck, pmuSettleEnd, pmuMeasureDone, pmuOldRangeDisconnect, pmuRangeSettled. -/
def Obligations.PmuMeasurement : Prop :=
  ∀ (s : State) (b : Fin 72),
  (s.answers .arp (b / 18) 0 = true →
    (s.on (abB b) PMU_STAT.BUSY = false → s.on (abB b) PMU_RES_HI.ACKD = true → s.on (abB b) PMU_STAT.OFF = false →
      s.rd (abB b) PMU_CFG.MODE ≠ 0 → s.bankRoleBusy b = false →
      Gives (.pmuGo b) s (s.setPmu b { s.pmu b with phase := if s.on (abB b) PMU_STAT.RCHG then .waitChange else .settle })
        [PMU_STAT.BUSY.is (abB b) 1, PMU_RES_HI.VALID.is (abB b) 0, PMU_RES_HI.STATUS.is (abB b) 1,
         PMU_RES_HI.SEQ.is (abB b) (s.rd (abB b) PMU_RES_HI.SEQ + 1)]) ∧
    (s.on (abB b) PMU_STAT.BUSY = true ∨ s.on (abB b) PMU_RES_HI.ACKD = false ∨ s.on (abB b) PMU_STAT.OFF = true ∨
      s.rd (abB b) PMU_CFG.MODE = 0 ∨ s.bankRoleBusy b = true → Gives (.pmuGo b) s s [PMU_STAT.REJ.is (abB b) 1]) ∧
    (s.on (abB b) PMU_STAT.BUSY = false → Gives (.pmuAck b) s s [PMU_RES_HI.ACKD.is (abB b) 1]) ∧
    (s.on (abB b) PMU_STAT.BUSY = true → exec (.pmuAck b) s = .next s)) ∧
  ((s.pmu b).phase = .settle → exec (.pmuSettleEnd b) s = .next (s.setPmu b { s.pmu b with phase := .convert })) ∧
  (∀ amps volts uv code : Int, (s.pmu b).phase = .convert →
    (s.rd (abB b) PMU_CFG.MODE = 1 → Gives (.pmuMeasureDone b amps volts uv code) s (s.setPmu b { s.pmu b with phase := .idle })
      [PMU_STAT.BUSY.is (abB b) 0, PMU_RES_HI.OVR.is (abB b) (if 131071 < amps ∨ amps < -131072 then 1 else 0),
       PMU_RES_HI.CLAMP.is (abB b) (s.pmuClamps b uv code).toNat, PMU_RES_HI.ACKD.is (abB b) 0, PMU_RES_HI.VALID.is (abB b) 1,
       PMU_RES_HI.STATUS.is (abB b) 2, PMU_RES_LO.CODE.is (abB b) (max (-131072) (min 131071 amps) % 262144).toNat]) ∧
    (s.rd (abB b) PMU_CFG.MODE ≠ 1 → 0 ≤ volts → volts < 262144 →
      Gives (.pmuMeasureDone b amps volts uv code) s (s.setPmu b { s.pmu b with phase := .idle })
      [PMU_STAT.BUSY.is (abB b) 0, PMU_RES_HI.OVR.is (abB b) 0, PMU_RES_HI.CLAMP.is (abB b) (s.pmuClamps b uv code).toNat,
       PMU_RES_HI.ACKD.is (abB b) 0, PMU_RES_HI.VALID.is (abB b) 1, PMU_RES_HI.STATUS.is (abB b) 2,
       PMU_RES_LO.CODE.is (abB b) volts.toNat])) ∧
  (s.on (abB b) PMU_STAT.RCHG = true →
    exec (.pmuOldRangeDisconnect b) s = .next (s.setPmu b { s.pmu b with oldGone := true }) ∧
    Gives (.pmuRangeSettled b) s (s.setPmu b { s.pmu b with
        phase := if (s.pmu b).phase = .waitChange then .settle else (s.pmu b).phase, oldGone := true })
      [PMU_STAT.RCHG.is (abB b) 0]) ∧
  (s.on (abB b) PMU_STAT.RCHG = false →
    exec (.pmuOldRangeDisconnect b) s = .next s ∧ exec (.pmuRangeSettled b) s = .next s)

/-- What comes before a pattern word issues, for every opcode (R134, R146, R152): a sequencer that is not in RUN, or waits, is left alone; a recorded
stop that has come ends the run first; an illegal word ends it ILLEGAL with its cause; a stream word that is not in the buffer ends it UNDERRUN
in strict mode; and a word of another opcode does nothing under this opcode's command.
Completion is stated of: psqIllegalWord, patternUnderrun. -/
def Obligations.PatternWordChecks : Prop :=
  ∀ (s : State) (p : Fin 16), (∀ k, ∀ x ∈ psqWords p k,
    (s.psqState p ≠ psqRUN ∨ (s.psq p).wait ≠ .none → exec x.2 s = .next s) ∧
    (s.psqState p = psqRUN → (s.psq p).wait = .none →
      (∀ t, s.stopAt p = some t → t ≤ (s.psq p).tick →
        exec x.2 s = .next (s.haltPsq p (if (s.psq p).hostStop then runHOST else runGROUP) 0 t)) ∧
      ((∀ t, s.stopAt p = some t → (s.psq p).tick < t) →
        (∀ c, s.due p = .illegal c → exec x.2 s =
          .next ((s.countFetch p).illegal p c)) ∧
        (s.due p = .missing → s.elasticMode p = false → exec x.2 s =
          .next ((s.haltPsq p runUNDERRUN 0 (s.psq p).tick).raise (p / 4) 50 (s.siteOfPsq p) p)) ∧
        (∀ w, s.due p = .word w → w.op ≠ x.1 → exec x.2 s = .next s)))) ∧
  (s.psqState p = psqRUN → (s.psq p).wait = .none →
    (∀ t, s.stopAt p = some t → t ≤ (s.psq p).tick →
      exec (.psqIllegalWord p) s = .next (s.stopNow p t) ∧ exec (.patternUnderrun p) s = .next (s.stopNow p t)) ∧
    ((∀ t, s.stopAt p = some t → (s.psq p).tick < t) →
      (∀ c, s.due p = .illegal c → exec (.psqIllegalWord p) s = .next ((s.countFetch p).illegal p c)) ∧
      (s.due p = .missing → s.elasticMode p = false → exec (.patternUnderrun p) s = .next (s.underrun p)))) ∧
  (∀ c u, u = s.haltPsq p runILLEGAL c (s.psq p).tick → s.illegal p c = u.raise (p / 4) 48 (s.siteOfPsq p) p)

/-- Straight-line and branching words (R135 to R137), each at a sequencer whose next PCLK is due with the word: NEXT, REPEAT (of its count, as many issues as the
command says, cut by a recorded stop), LOOP and ENDLOOP on the loop stack of 8, JUMP, CALL and RET on the call stack of 16, HALT, the conditionals on SFF, and CLRF; a full
or empty stack, or a top entry of the wrong kind, ends the run STACK.
Completion is stated of: psqNext, psqRepeat, psqLoop, psqEndloop, psqJump, psqCall, psqRet, psqHalt, psqJfail, psqJpass, psqClrf. -/
def Obligations.PatternFlow : Prop :=
  ∀ (s : State) (p : Fin 16) (w : PWord), PsqAt s p w →
  (w.op = 0x00 → exec (.psqNext p) s = .next ((s.issue p 1 w).advance p)) ∧
  (w.op = 0x01 → ∀ (m n j : Nat) t, n = (s.psq p).rep.getD (s.countOf p w) → j = min n (max m 1) →
    (s.issuesBefore p j = j → t = s.issue p j w (s.psq p).rep.isSome →
      (t.psqRunning p = false → exec (.psqRepeat ⟨p, m⟩) s = .next t) ∧
      (t.psqRunning p = true → j < n → exec (.psqRepeat ⟨p, m⟩) s = .next (t.setPsq p { t.psq p with rep := some (n - j) })) ∧
      (t.psqRunning p = true → n ≤ j → exec (.psqRepeat ⟨p, m⟩) s = .next ((t.setPsq p { t.psq p with rep := none }).advance p))) ∧
    (s.issuesBefore p j < j → t = s.issue p (s.issuesBefore p j) w (s.psq p).rep.isSome →
      exec (.psqRepeat ⟨p, m⟩) s = .next (t.stopNow p (t.psq p).tick))) ∧
  (w.op = 0x02 → (s.psq p).loops.length < 8 →
    exec (.psqLoop p) s = .next (((s.issue p 1 w).setPsq p { (s.issue p 1 w).psq p with
      loops := ⟨false, (s.psq p).stream, (s.psq p).stream, (s.psq p).pc + 1, s.countOf p w, 0, 0, 0⟩ :: (s.psq p).loops }).advance p)) ∧
  (w.op = 0x02 → 8 ≤ (s.psq p).loops.length → exec (.psqLoop p) s = .next (s.stackFault p)) ∧
  (w.op = 0x03 → ∀ e es, (s.psq p).loops = e :: es → e.pace = false →
    (e.left ≤ 1 → exec (.psqEndloop p) s =
      .next (((s.issue p 1 w).setPsq p { (s.issue p 1 w).psq p with loops := es }).advance p)) ∧
    (1 < e.left → exec (.psqEndloop p) s = .next ((s.issue p 1 w).setSeq p { (s.issue p 1 w).psq p with
      loops := { e with left := e.left - 1 } :: es, stream := e.stream, pc := e.body }))) ∧
  (w.op = 0x03 → (∀ e es, (s.psq p).loops = e :: es → e.pace = true) → exec (.psqEndloop p) s = .next (s.stackFault p)) ∧
  (w.op = 0x04 → exec (.psqJump p) s = .next ((s.issue p 1 w).jump p w.opd)) ∧
  (w.op = 0x05 → (s.psq p).calls.length < 16 →
    exec (.psqCall p) s = .next ((s.issue p 1 w).setSeq p { (s.issue p 1 w).psq p with
      stream := false, pc := w.opd, calls := ⟨(s.psq p).stream, (s.psq p).pc + 1, (s.psq p).sd, false⟩ :: (s.psq p).calls })) ∧
  (w.op = 0x05 → 16 ≤ (s.psq p).calls.length → exec (.psqCall p) s = .next (s.stackFault p)) ∧
  (w.op = 0x06 → ∀ c cs, (s.psq p).calls = c :: cs → c.byStrm = false →
    exec (.psqRet p) s = .next ((s.issue p 1 w).setSeq p { (s.issue p 1 w).psq p with
      stream := c.stream, pc := c.addr, sd := c.sd, calls := cs })) ∧
  (w.op = 0x06 → (∀ c cs, (s.psq p).calls = c :: cs → c.byStrm = true) → exec (.psqRet p) s = .next (s.stackFault p)) ∧
  (w.op = 0x07 → exec (.psqHalt p) s = .next ((s.issue p 1 w).haltPsq p runHALT 0 (s.psq p).tick)) ∧
  (∀ s', s' = (if w.x then s.clearSff p else s).issue p 1 w →
    (w.op = 0x08 → exec (.psqJfail p) s = .next (if s.sffAt p then s'.jump p w.opd else s'.advance p)) ∧
    (w.op = 0x09 → exec (.psqJpass p) s = .next (if s.sffAt p then s'.advance p else s'.jump p w.opd))) ∧
  (w.op = 0x0A → exec (.psqClrf p) s = .next (((s.clearSff p).issue p 1 w).advance p))

/-- Words that wait or act on other agents (R135, R139 to R141, R143, R149, R151): MATCH waits for a passing result of its n issues; SYNC waits for
its tick, or counts itself late; PACE pushes a paced entry and ENDPACE waits for its schedule, or counts itself late; MARK ends a segment; TRIG
sends its event 64 ticks ahead; STRM enters a stream and SRET leaves it; LKSTOP sends STOP and records its own; LKEND leaves the group.
Completion is stated of: psqMatch, psqSync, psqPace, psqEndpace, psqMark, psqTrig, psqStrm, psqSret, psqLkstop, psqLkend. -/
def Obligations.PatternWaits : Prop :=
  ∀ (s : State) (p : Fin 16) (w : PWord) (t : State), PsqAt s p w → t = s.issue p 1 w →
  (w.op = 0x0B → t.psqState p = psqRUN →
    exec (.psqMatch p) s = .next ((t.setPsq p { t.psq p with results := [] }).setWait p (.mtch (s.countOf p w) (s.psq p).tick))) ∧
  (w.op = 0x0C →
    (s.rd2 (psqB p + w.opd % 4 * 8) PSQ_SYNC_AT_LO.V PSQ_SYNC_AT_HI.V ≤ (s.psq p).tick →
      exec (.psqSync p) s = .next ((t.count (psqB p) PSQ_CNT_SYNCLATE.V).advance p)) ∧
    ((s.psq p).tick < s.rd2 (psqB p + w.opd % 4 * 8) PSQ_SYNC_AT_LO.V PSQ_SYNC_AT_HI.V → s.rd2 (psqB p + w.opd % 4 * 8) PSQ_SYNC_AT_LO.V PSQ_SYNC_AT_HI.V ≤ (s.psq p).tick + 8 →
      exec (.psqSync p) s = .next (t.advance p)) ∧
    ((s.psq p).tick + 8 < s.rd2 (psqB p + w.opd % 4 * 8) PSQ_SYNC_AT_LO.V PSQ_SYNC_AT_HI.V → t.psqState p = psqRUN →
      exec (.psqSync p) s = .next (t.setWait p (.sync (s.rd2 (psqB p + w.opd % 4 * 8) PSQ_SYNC_AT_LO.V PSQ_SYNC_AT_HI.V))))) ∧
  (w.op = 0x0D → (s.psq p).loops.length < 8 →
    exec (.psqPace p) s = .next ((t.setPsq p { t.psq p with loops := ⟨true, (s.psq p).stream, (s.psq p).stream, (s.psq p).pc + 1,
      (if w.x then s.countOf p w else if w.opd % 16384 = 0 then 16384 else w.opd % 16384), (s.psq p).tick + 8,
      s.rd (psqB p + w.opd / 16384 * 4) PSQ_PPER.V, 0⟩ :: (s.psq p).loops }).advance p)) ∧
  (w.op = 0x0E → ∀ e es at_, (s.psq p).loops = e :: es → e.pace = true → at_ = e.t0 + (e.iter + 1) * e.period →
    (e.left ≤ 1 → exec (.psqEndpace p) s = .next ((t.setPsq p { t.psq p with loops := es }).advance p)) ∧
    (1 < e.left → (t.psq p).tick < at_ → t.psqState p = psqRUN → exec (.psqEndpace p) s = .next (t.setWait p (.pace at_))) ∧
    (1 < e.left → t.psqState p ≠ psqRUN → exec (.psqEndpace p) s = .next t) ∧
    (1 < e.left → t.psqState p = psqRUN → at_ ≤ (t.psq p).tick → exec (.psqEndpace p) s = .next ((t.count (psqB p) PSQ_CNT_PACELATE.V).nextIteration p))) ∧
  (w.op = 0x0D → 8 ≤ (s.psq p).loops.length → exec (.psqPace p) s = .next (s.stackFault p)) ∧
  (w.op = 0x0E → (∀ e es, (s.psq p).loops = e :: es → e.pace = false) → exec (.psqEndpace p) s = .next (s.stackFault p)) ∧
  (w.op = 0x11 → 16 ≤ (s.psq p).calls.length → exec (.psqStrm p) s = .next (s.stackFault p)) ∧
  (w.op = 0x12 → (∀ c cs, (s.psq p).calls = c :: cs → c.byStrm = false) → exec (.psqSret p) s = .next (s.stackFault p)) ∧
  (w.op = 0x0F → exec (.psqMark p) s = .next ((t.advance p).elasticWait p)) ∧
  (w.op = 0x10 → exec (.psqTrig p) s = .next (if w.opd % 16 = 0 then t.advance p else
    { t.advance p with trigs := (t.advance p).trigs ++ [⟨p, w.opd % 16, bits w.opd 4 8, (s.psq p).tick + 64,
      ((s.psq p).tick - ((t.advance p).psq p).start) / 8⟩] })) ∧
  (w.op = 0x11 → (s.psq p).calls.length < 16 → ∀ y n, n = w.opd % 8 → y = t.psq p →
    exec (.psqStrm p) s = .next ((t.setSeq p { (if (s.psq p).bufSd = n ∧ (s.psq p).bufOn then y else { y with buf := [], bufBad := [], bufNext := 0 }) with
      stream := true, sd := n, pc := 0, bufSd := n, bufOn := true,
      calls := ⟨false, (s.psq p).pc + 1, (s.psq p).sd, true⟩ :: (s.psq p).calls }).elasticWait p)) ∧
  (w.op = 0x12 → ∀ c cs, (s.psq p).calls = c :: cs → c.byStrm = true →
    exec (.psqSret p) s = .next (t.setSeq p { dropBuf (t.psq p) with
      stream := c.stream, pc := c.addr, sd := c.sd, calls := cs })) ∧
  (w.op = 0x13 → exec (.psqLkstop p) s = .next (if (t.advance p).isMember p then
    ((t.advance p).sendStop p (s.psq p).tick).recordStop p ((t.advance p).stopTick p (s.psq p).tick)
    else t.advance p)) ∧
  (w.op = 0x14 → exec (.psqLkend p) s = .next ((t.advance p).setPsq p { (t.advance p).psq p with lkEnd := true }))

/-- The ends of waits and the STOPs (R138, R139, R140, R146, R147, R149, R152, R157): a passing match result resumes the sequencer in the following
PCLK, the n-th issue with none that passes sets SFF and counts; the SYNC tick, a paced slot and a resident segment resume it; a condition sample in RUN or
WAIT sets SFF, and poison raises source 51; UR_KEEP taken words turn a bank's override to DZ; a STOP on its way is recorded, or halts a late
member at once; the recorded tick halts it; RUNNING falls in a sequencer that does not run.
Completion is stated of: matchResult, matchTimeout, syncTickReached, paceSlotReached, psqConditionSample, segmentResident, urKeepExpire, stopReceive,
stopAtReached, runningFall. -/
def Obligations.PatternWaitEnds : Prop :=
  ∀ (s : State) (p : Fin 16),
  (∀ t u, s.stopAt p = some u → s.matchPassed p t = if u ≤ t then s.stopNow p u else (s.resume p (max t (s.psq p).last)).advance p) ∧
  (∀ c, s.passOf p c = none → (s.fails.any fun f => f.c == c && s.matchWord p f) = false →
    exec (.matchResult p c) s = .next (s.setPsq p { s.psq p with results := (s.psq p).results.filter fun r => r.c != c })) ∧
  (s.stopAt p = none →
    (∀ c t, s.passOf p c = some t → exec (.matchResult p c) s = .next ((s.resume p (max t (s.psq p).last)).advance p)) ∧
    (∀ n first ps, (s.psq p).wait = .mtch n first → ps = (s.matchResults p).filter (fun r => r.passes (s.psq p).start n first) →
      (ps = [] → exec (.matchTimeout p) s =
        .next ((((s.wr (psqB p) PSQ_STAT.SFF 1).count (psqB p) PSQ_CNT_MTO.V).resume p (first + 8 * (n - 1))).advance p)) ∧
      (∀ t, (ps.map (·.tick)).min? = some t → exec (.matchTimeout p) s = .next ((s.resume p (max t (s.psq p).last)).advance p))) ∧
    (∀ at_, (s.psq p).wait = .sync at_ → exec (.syncTickReached p) s = .next ((s.resume p (alignUp 8 at_ - 8)).advance p)) ∧
    (∀ at_, (s.psq p).wait = .pace at_ → exec (.paceSlotReached p) s = .next ((s.resume p (alignUp 8 at_ - 8)).nextIteration p))) ∧
  (∀ n x c, x = s.psq p → x.wait = .segment → s.segmentResident p = true → c = (x.tick - x.start) / 8 →
    exec (.segmentResident p n) s = .next (((s.count2 (psqB p) PSQ_CNT_IDLE_LO.V PSQ_CNT_IDLE_HI.V n).setPsq p { x with
      tick := x.tick + 8 * n, idle := x.idle ++ [(c, c + n)] }).setWait p .none)) ∧
  (s.psqRunning p = true →
    exec (.psqConditionSample p false false) s = .next s ∧
    Gives (.psqConditionSample p true false) s s [PSQ_STAT.SFF.is (psqB p) 1] ∧
    ∀ f, exec (.psqConditionSample p f true) s = .next ((s.wr (psqB p) PSQ_STAT.SFF 1).raise (p / 4) 51 (s.siteOfPsq p) p)) ∧
  (s.psqRunning p = false → (∀ f q, exec (.psqConditionSample p f q) s = .next s) ∧
    Gives (.runningFall p) s s [PSQ_STAT.RUNNING.is (psqB p) 0]) ∧
  (∀ (b : Fin 72) c, (s.psq p).ovr = .keep → s.rd (psqB p) PSQ_RES.STATUS = runUNDERRUN →
    s.rd (psqB p) PSQ_CTL.UR_KEEP ≤ s.takenIn b (s.psq p).ovrC (c + 1) →
    exec (.urKeepExpire p b c) s = .next (s.setPsq p { s.psq p with dzBanks := putBit (s.psq p).dzBanks b true })) ∧
  (∀ m s', (s.stops.find? fun m => m.psq == p.val) = some m → s' = { s with stops := s.stops.erase m } →
    (s'.psqRunning p = false ∨ (s'.psq p).lkEnd = true → exec (.stopReceive p) s = .next s') ∧
    (s'.psqRunning p = true → (s'.psq p).lkEnd = false → s'.haltTick p < m.stopAt →
      exec (.stopReceive p) s = .next (s'.recordStop p m.stopAt)) ∧
    (s'.psqRunning p = true → (s'.psq p).lkEnd = false → m.stopAt ≤ s'.haltTick p →
      exec (.stopReceive p) s = .next (((s'.haltPsq p runGROUP 0 (s'.haltTick p)).wr (psqB p) PSQ_STAT.STOP_LATE 1).raise (p / 4) 52
        (s'.siteOfPsq p) p))) ∧
  (∀ t, s.stopAt p = some t → s.psqRunning p = true →
    exec (.stopAtReached p) s = .next (s.haltPsq p (if (s.psq p).hostStop then runHOST else runGROUP) 0 t))

/-- The registers and commands of a sequencer (R142, R144, R145, R150, R151, R157, R158). While RUNNING, writes to a descriptor and to the local
store set LS_REJ. ARM is refused with ARM_REJ unless the start lies 2048 ticks ahead, the site is ACTIVE, the result acknowledged and the sequencer
IDLE; else it is ARMED with a new pending result. The start tick sets it in RUN at PSQ_ENTRY with empty stacks and SFF clear, or halts a group
member out of sync SYNCLOSS. ACK in HALTED returns it to IDLE. HALT and GSTOP end a run, a member's by STOP. A block that does not answer takes
nothing.
Completion is stated of: sdWrite, sdScan, localStoreWrite, psqArm, psqCmdAck, psqCmdHalt, psqGstop, psqStart, psqCntClr. -/
def Obligations.PatternRuns : Prop :=
  ∀ (s : State) (p : Fin 16),
  (s.answers .psq (p / 4) (p % 4) = false →
    (∀ c ∈ [Instr.psqArm p, .psqCmdAck p, .psqCmdHalt p, .psqGstop p], exec c s = .next s) ∧
    (∀ n r v, exec (.sdWrite p n r v) s = .next s) ∧ (∀ n v, exec (.sdScan p n v) s = .next s) ∧
    (∀ o v, exec (.localStoreWrite p o v) s = .next s) ∧ (∀ v, exec (.psqCntClr p v) s = .next s)) ∧
  (s.answers .psq (p / 4) (p % 4) = true →
    (s.on (psqB p) PSQ_STAT.RUNNING = true →
      (∀ n r v, Gives (.sdWrite p n r v) s s [PSQ_STAT.LS_REJ.is (psqB p) 1]) ∧
      (∀ n v, Gives (.sdScan p n v) s s [PSQ_STAT.LS_REJ.is (psqB p) 1]) ∧
      (∀ o v, Gives (.localStoreWrite p o v) s s [PSQ_STAT.LS_REJ.is (psqB p) 1])) ∧
    (s.on (psqB p) PSQ_STAT.RUNNING = false →
      (∀ (n : Fin 8) (v : Word), v.toNat ≠ 0 → (s.psq p).bufSd ≠ n →
        Gives (.sdWrite p n 2 v) s s [SD_STAT.STATUS.is (psqB p + n * 0x20) 0, SD_LEN.V.is (psqB p + n * 0x20) v.toNat]) ∧
      (∀ (n : Fin 8) (v : Word), v.toNat ≠ 0 → (s.psq p).bufSd = n →
        Gives (.sdWrite p n 2 v) s (s.setPsq p (dropBuf (s.psq p)))
          [SD_STAT.STATUS.is (psqB p + n * 0x20) 0, SD_LEN.V.is (psqB p + n * 0x20) v.toNat]) ∧
      (∀ (n : Fin 8), Gives (.sdWrite p n 2 0) s s [BLK_STAT.RSVW.is (psqB p) 1]) ∧
      (∀ (n : Fin 8) (e : Bool), s.sdLen p n ≠ 0 → Gives (.sdScan p n (if e then 3 else 1)) s s
        [SD_STAT.STATUS.is (psqB p + n * 0x20) 1, SD_CTL.ELASTIC.is (psqB p + n * 0x20) e.toNat]) ∧
      (∀ (n : Fin 8) (e : Bool), s.sdLen p n = 0 → Gives (.sdScan p n (if e then 3 else 1)) s s
        [SD_ERR.OFFSET.is (psqB p + n * 0x20) 0, SD_STAT.STATUS.is (psqB p + n * 0x20) 5,
         SD_CTL.ELASTIC.is (psqB p + n * 0x20) e.toNat]) ∧
      (∀ (o : BitVec 17) (v : Word), exec (.localStoreWrite p o v) s =
        .next (s.writeChip (lsAddr p + s.rd (psqB p) PSQ_LSPAGE.PAGE * 0x20000 + o.toNat / 4 * 4) 4 v.toNat))) ∧
    (∀ st, s.tick (p / 4) + 2048 ≤ s.startAt p → s.siteOfPsq p = some st → s.siteState st = siteACTIVE →
      s.on (psqB p) PSQ_RES.ACKD = true → s.psqState p = psqIDLE → s.mode ≠ 0 → s.on (psqB p) PSQ_CTL.PRIME_EN = false →
      Gives (.psqArm p) s s [PSQ_STAT.STATE.is (psqB p) 1, PSQ_RES.ACKD.is (psqB p) 0, PSQ_RES.VALID.is (psqB p) 0,
        PSQ_RES.STATUS.is (psqB p) 1, PSQ_RES.SEQ.is (psqB p) (s.rd (psqB p) PSQ_RES.SEQ + 1)]) ∧
    (s.startAt p < s.tick (p / 4) + 2048 ∨ s.siteOfPsq p = none ∨ s.on (psqB p) PSQ_RES.ACKD = false ∨ s.psqState p ≠ psqIDLE →
      Gives (.psqArm p) s s [PSQ_STAT.ARM_REJ.is (psqB p) 1]) ∧
    (s.psqState p = psqHALTED →
      Gives (.psqCmdAck p) s s [PSQ_STAT.STATE.is (psqB p) 0, PSQ_RES.ACKD.is (psqB p) 1]) ∧
    (s.psqState p = psqARMED →
      Gives (.psqCmdHalt p) s (s.setPsq p (dropBuf (s.psq p)))
        [PSQ_STAT.STATE.is (psqB p) 0, PSQ_RES.ACKD.is (psqB p) 1, PSQ_RES.VALID.is (psqB p) 1, PSQ_RES.STATUS.is (psqB p) runHOST]) ∧
    (s.psqRunning p = true → s.isMember p = false →
      exec (.psqCmdHalt p) s = .next (s.haltPsq p runHOST 0 (s.haltTick p)) ∧ exec (.psqGstop p) s = .next s) ∧
    (s.psqRunning p = true → s.isMember p = true → ∀ t u, t = s.haltTick p → u = s.sendStop p t →
      ∀ v, v = (u.recordStop p (u.stopTick p t)).setPsq p { u.psq p with hostStop := true } →
      exec (.psqCmdHalt p) s = .next v ∧ exec (.psqGstop p) s = .next v) ∧
    Gives (.psqCntClr p 15) s s [PSQ_CNT_MTO.V.is (psqB p) 0, PSQ_CNT_SYNCLATE.V.is (psqB p) 0, PSQ_CNT_PACELATE.V.is (psqB p) 0,
      PSQ_CNT_IDLE_HI.V.is (psqB p) 0, PSQ_CNT_IDLE_LO.V.is (psqB p) 0] ∧
    Gives (.psqCntClr p 2) s s [PSQ_CNT_PACELATE.V.is (psqB p) 0]) ∧
  (s.psqState p = psqARMED →
    (s.rd (psqB p) PSQ_LKGRP.GID ≠ 0 → s.inSync = false →
      exec (.psqStart p) s = .next (s.haltPsq p runSYNCLOSS 0 (s.startAt p))) ∧
    (s.rd (psqB p) PSQ_LKGRP.GID = 0 ∨ s.inSync = true → Leads (.psqStart p) s fun t =>
      t.psqState p = psqRUN ∧ t.on (psqB p) PSQ_STAT.SFF = false ∧ (t.psq p).wait = .none ∧ (t.psq p).loops = [] ∧ (t.psq p).calls = [] ∧
      (t.psq p).stream = false ∧ (t.psq p).first = true))

/-- The time base on the dies (R161 to R165, R172, R174). The first EPOCH pulse with four locked TGMs and no counting die loads 0 everywhere, starts
the counts and sets DCTL_READY.PTB; a later pulse changes nothing where the low 20 bits agree. A boundary (PTB[10:0] = 0) applies a waiting step
unless a PSQ is active, moves one fine step of slew on each die that holds the decision, and raises source 54 on a counting die that holds none; the
deferred step is applied at a boundary when every PSQ is idle. A fine step moves no count until 256 of them make a tick. SNAP copies the 64-bit count; RELOAD makes the next acquisition a first one unless a PSQ is active; PTB_CNT_CLR clears the
counters.
Completion is stated of: epochStartPulse, epochPulse, ptbBoundary, ptbDeferredStep, ptbSnap, ptbReload, ptbCntClr. -/
def Obligations.TimeBase : Prop :=
  ∀ (s : State) (d : Fin 4),
  ((List.range 4).all (fun d => bitAt (s.rd (ckpB d) CKP_STAT.LOCK) 0 && !s.counting d) = true →
    exec .epochStartPulse s = .next (s.each (List.range 4) fun d s => ((s.setTick d 0).setCounting d true).setReady d rdyPTB true)) ∧
  ((∀ e, e < 4 → s.counting e = true → s.tick e % 2 ^ 20 = s.tick 0 % 2 ^ 20) → exec .epochPulse s = .next s) ∧
  exec .epochPulse s = .next (s.each (List.range 4) fun d s =>
    if s.counting 0 ∧ s.counting d ∧ s.tick d % 2 ^ 20 ≠ s.tick 0 % 2 ^ 20 then
      ((s.count (ptbB d) PTB_CNT_MISALIGN.V).raise d 54 none d).leaveSync causeMISALIGN ptbLOST
    else s) ∧
  (s.atBoundary = false → exec .ptbBoundary s = .next s ∧ exec .ptbDeferredStep s = .next s) ∧
  (s.atBoundary = true → ∀ fine, fine = (fun v : State => (({ v with sync := { v.sync with
      slew := v.sync.slew - (if v.sync.slew > 0 then 1 else if v.sync.slew < 0 then -1 else 0),
      net := v.sync.net + (if v.sync.slew > 0 then 1 else if v.sync.slew < 0 then -1 else 0) } }.each s.deciding fun d u =>
        u.fineStep d (if v.sync.slew > 0 then 1 else if v.sync.slew < 0 then -1 else 0)).missedDecision)) →
    (s.sync.step = none → exec .ptbBoundary s = .next (fine s)) ∧
    (∀ k, s.sync.step = some k →
      (s.anyPsqActive = true → exec .ptbBoundary s = .next (fine (s.wr (ptbB 0) PTB_STAT.DEFER 1)) ∧ exec .ptbDeferredStep s = .next s) ∧
      (s.anyPsqActive = false → exec .ptbBoundary s = .next (fine (s.applyStep k)) ∧
        (s.on (ptbB 0) PTB_STAT.DEFER = true → exec .ptbDeferredStep s = .next (s.applyStep k).missedDecision) ∧
        (s.on (ptbB 0) PTB_STAT.DEFER = false → exec .ptbDeferredStep s = .next s)))) ∧
  (∀ e (u : Int), KV.get 0 e s.sync.fine + u < 256 →
    (s.fineStep e u).tick e = s.tick e ∧ KV.get 0 e (s.fineStep e u).sync.fine = KV.get 0 e s.sync.fine + u) ∧
  (s.answers .ptb d 0 = true →
    Gives (.ptbSnap d) s s [PTB_SNAP_HI.V.is (ptbB d) (s.tick d / 2 ^ 32), PTB_SNAP_LO.V.is (ptbB d) (s.tick d)] ∧
    (s.anyPsqActive = true → Gives (.ptbReload d) s s [BLK_STAT.COMMIT_ERR.is (ptbB d) 1]) ∧
    (s.anyPsqActive = false → Gives (.ptbReload d) s s [PTB_STAT.FIRST.is (ptbB 0) 1]) ∧
    Gives (.ptbCntClr d 8) s s [PTB_CNT_MISALIGN.V.is (ptbB d) 0] ∧
    (d = 0 → Gives (.ptbCntClr d 15) s s [PTB_CNT_MISALIGN.V.is (ptbB 0) 0, PTB_CNT_DLYREJ.V.is (ptbB 0) 0, PTB_CNT_MISS.V.is (ptbB 0) 0,
      PTB_CNT_LOST.V.is (ptbB 0) 0]) ∧
    (d ≠ 0 → Gives (.ptbCntClr d 7) s s [BLK_STAT.LOCKW.is (ptbB d) 1])) ∧
  (s.answers .ptb d 0 = false → ∀ v, exec (.ptbSnap d) s = .next s ∧ exec (.ptbReload d) s = .next s ∧ exec (.ptbCntClr d v) s = .next s)

/-- Two-way exchanges of a follower (R168, R169, R171, R176, R481). A request is stamped in fine steps and starts a new PTB_SLEW interval; a port answers
one with its two stamps, STATE and HOPS; a request without an answer is counted missed. A response whose delay is accepted yields offset and
delay, HOPS one more than the parent's, and the servo's reaction; one that is not is counted rejected. The loss of the recovered clock ends
TRACK.
Completion is stated of: ptbRequestSend, ptbRequestAnswer, ptbResponse, ptbExchangeMissed, recoveredClockLost. -/
def Obligations.TimeExchange : Prop :=
  ∀ (s : State),
  (∀ f, s.isFollower = true → s.ptbState ≠ ptbOFF →
    Gives (.ptbRequestSend f) s { s with sync := { s.sync with t1 := some (s.tick s.syncDie * 256 + f.toNat), net := 0 } }
      [PTB_SLEW.NET.is (ptbB 0) (wrapI 16 s.sync.net)]) ∧
  (∀ f, s.isFollower = false ∨ s.ptbState = ptbOFF → exec (.ptbRequestSend f) s = .next s) ∧
  (∀ (g : Fin 24) t2 t3 w, exec (.ptbRequestAnswer g t2 t3 w) s = .next { s with ptbOut := s.ptbOut ++
    [⟨g, s.tick (g / 6) * 256 + t2.toNat, s.tick (g / 6) * 256 + t3.toNat + w * 256, s.ptbState, s.rd (ptbB 0) PTB_STAT.HOPS⟩] }) ∧
  (s.sync.t1 = none → exec .ptbExchangeMissed s = .next s ∧ ∀ a b c p h, exec (.ptbResponse a b c p h) s = .next s) ∧
  (∀ t, s.sync.t1 = some t →
    exec .ptbExchangeMissed s = .next (((s.count (ptbB 0) PTB_CNT_MISS.V).wr (ptbB 0) PTB_STAT.PWAIT 1).badExchange) ∧
    (s.ptbState ≠ ptbTRACK → Gives .ptbExchangeMissed s
      { s with sync := { s.sync with t1 := none, bad := s.sync.bad + 1, good := 0, thetas := [], beyond := 0 } }
      [PTB_STAT.PWAIT.is (ptbB 0) 1, PTB_CNT_MISS.V.is (ptbB 0) (satAdd 16 (s.rd (ptbB 0) PTB_CNT_MISS.V) 1)]) ∧
    (∀ (t2 t3 : BitVec 72) (f : BitVec 8) (st : BitVec 3) (hops : BitVec 14) (t4 th2 d2 : Int) (s' : State),
      t4 = (s.stamp s.syncDie f : Int) → th2 = (t2.toNat - t) + (t3.toNat - t4) - s.asym2 → d2 = (t4 - t) - (t3.toNat - t2.toNat) →
      s' = s.wrb (ptbB 0) PTB_STAT.PWAIT (!inSyncState st.toNat) →
      (s'.delayOk d2 = false → s'.ptbState = ptbTRACK → inSyncState st.toNat = false → s.sync.probation = false →
        exec (.ptbResponse t2 t3 f st hops) s = .next ({ s'.count (ptbB 0) PTB_CNT_DLYREJ.V with
          sync := { s.sync with t1 := none } }.leaveSync causePARENT ptbLOST)) ∧
      (s'.delayOk d2 = false → ¬(s'.ptbState = ptbTRACK ∧ inSyncState st.toNat = false ∧ s.sync.probation = false) →
        exec (.ptbResponse t2 t3 f st hops) s = .next ((s'.count (ptbB 0) PTB_CNT_DLYREJ.V).badExchange)) ∧
      (s'.delayOk d2 = true →
        exec (.ptbResponse t2 t3 f st hops) s = .next (State.acceptedExchange
          { (((s'.drew.drew.wr (ptbB 0) PTB_OFFS.V (offsWord th2 (th2 % 2 = 1 ∧ s'.free 1 = 1))).wr (ptbB 0) PTB_DELAY.V
              (wrapI 32 ((d2 + (if d2 % 2 = 1 ∧ s'.drew.free 1 = 1 then 1 else 0)).fdiv 2))).wr (ptbB 0) PTB_STAT.HOPS (min (hops.toNat + 1) 16383)) with
            sync := { s.sync with t1 := none, bad := 0, deltas := (d2 :: s.sync.deltas).take 8 } }
          th2 (inSyncState st.toNat))))) ∧
  (s.rd (ptbB 0) PTB_CFG.FSRC = 1 → s.ptbState = ptbTRACK → exec .recoveredClockLost s = .next (s.leaveSync causeRCLK ptbLOST)) ∧
  (s.rd (ptbB 0) PTB_CFG.FSRC ≠ 1 ∨ s.ptbState ≠ ptbTRACK → exec .recoveredClockLost s = .next s)

/-- Fail words on their way to memory (R137, R139, R181 to R187, R190, R191, R195, R197, R202 to R204, R207). A tag sample is kept with its poison. The
fail word due first reaches the sequencer of its site, the channel's counter of fail bits, the site's counter of fail words and, with a bit set,
the capture of the site's mode; a site in reset purges it. The back end moves entries up and processes one, which stays in front while
a part of it waits. A marker starts a flush in BITMAP
mode, else joins the stream. A line is written back by line-OR, and a refused one sets BMINVAL. A write response moves FS_WRPTR, or the FIRST
index. A flush with nothing left on its way is DONE.
Completion is stated of: failWordDelivery, fcuTagSample, fcuBackendEntry, fcuMarkerEntry, fcuWriteback, fcuWriteResponse, fcuPartialLineTimeout,
fsFlush, fsFlushDone. -/
def Obligations.FailCapture : Prop :=
  ∀ (s : State) (d : Fin 4) (st : Fin 16),
  (∀ c tag pois (k : Nat), k = tagKey d st ((s.psq (s.rd (siteB st) SITE_CFG.PSQ)).start + 64 + 8 * c) → ∃ t, exec (.fcuTagSample d st c tag pois) s = .next t ∧
    t.fcuTag k = tag.toNat + (if pois = 0 then 0 else 2 ^ 48) ∧ (∀ k', k' ≠ k → t.fcuTag k' = s.fcuTag k') ∧
    t = { s with fcuTags := t.fcuTags }) ∧
  (nextFail s.fails = none → exec .failWordDelivery s = .next s) ∧
  (∀ f n e k r a b x y, nextFail s.fails = some f → n = f.ch / 576 → e = f.site → k = n * 16 + e →
    r = { s with fails := s.fails.erase f }.countSuppressed f →
    a = (match (List.range 16).find? fun p => r.siteOfPsq p == some e with
      | some p => (if f.bits ≠ 0 ∧ (r.psq p).clrAt ≤ f.due then r.wr (psqB p) PSQ_STAT.SFF 1 else r).matchDelivery p f
      | none => r) →
    b = (if (a.fsx k).autoPend = true ∧ (a.fsx k).runAt ≤ f.pclk then (a.setFsx k { a.fsx k with autoPend := false }).fsClear n e else a) →
    x = b.count2 (fcuB n + f.ch % 576 * 8) FC_LO.V FC_HI.V (popBits 32 f.bits) →
    y = (if bitAt (x.fcuTag (tagKey n e f.pclk)) 48 then ((x.count2 (fsB n e) FS_TOTAL_LO.V FS_TOTAL_HI.V).count (fsB n e)
      FS_TAGPOIS.V).raise n 57 (some e) n else x.count2 (fsB n e) FS_TOTAL_LO.V FS_TOTAL_HI.V) →
    (f.bits = 0 → exec .failWordDelivery s = .next x) ∧
    (f.bits ≠ 0 → y.siteState e = siteRESETTING → exec .failWordDelivery s = .next (y.count (fsB n e) FS_PURGED.V)) ∧
    (f.bits ≠ 0 → y.siteState e ≠ siteRESETTING → y.fsMode n e = modeCOUNT → exec .failWordDelivery s = .next y) ∧
    (f.bits ≠ 0 → y.siteState e ≠ siteRESETTING → exec .failWordDelivery s = .next (y.fcuEntry n {
      kind := .fail, site := e, ch := f.ch, word := f.bits, c := f.c, tick := f.tick, pclk := f.pclk
      tag := x.fcuTag (tagKey n e f.pclk) % 2 ^ 48, tagPois := bitAt (x.fcuTag (tagKey n e f.pclk)) 48 } f.due))) ∧
  (∀ y, y = s.fcuMove d 16 →
    (((List.range 16).findSome? fun i => match (y.fcu d).fifo.find? fun e => e.site == ((y.fcu d).rotOut + i) % 16 with
      | some e => (y.fcuProcess d e).map fun t => (e, t)
      | none => none) = none → exec (.fcuBackendEntry d) s = .next (y.fcuOcc d)) ∧
    (∀ e t rest, ((List.range 16).findSome? fun i => match (y.fcu d).fifo.find? fun e => e.site == ((y.fcu d).rotOut + i) % 16 with
      | some e => (y.fcuProcess d e).map fun t => (e, t)
      | none => none) = some (e, t, rest) →
      exec (.fcuBackendEntry d) s = .next ((t.setFcu d { t.fcu d with
        fifo := (match rest with
          | none => (t.fcu d).fifo.erase e
          | some e' => (t.fcu d).fifo.replace e e'), rotOut := (e.site + 1) % 16 }).fcuOcc d))) ∧
  (((s.fcu d).markers.find? fun m => m.1 == st.val) = none → exec (.fcuMarkerEntry d st) s = .next s) ∧
  (∀ m u, ((s.fcu d).markers.find? fun m => m.1 == st.val) = some m →
    u = s.setFcu d { s.fcu d with markers := (s.fcu d).markers.erase m } →
    (u.siteState st = siteRESETTING → exec (.fcuMarkerEntry d st) s = .next u) ∧
    (u.siteState st ≠ siteRESETTING → u.fsMode d st = modeBITMAP → exec (.fcuMarkerEntry d st) s =
      .next (if u.on (fsB d st) FS_CFG.MFLUSH && bitAt m.2.1 7 then u.fsFlush d st else u)) ∧
    (u.siteState st ≠ siteRESETTING → u.fsMode d st ≠ modeBITMAP → ∀ v e,
      v = u.setFsx (d * 16 + st) { u.fsx (d * 16 + st) with drops := 0 } →
      e = {
        kind := .marker, site := st, evt := m.2.1, c := m.2.2.1, tick := m.2.2.2, pclk := m.2.2.2
        drops := (u.fsx (d * 16 + st)).drops } →
      exec (.fcuMarkerEntry d st) s = .next (v.setFcu d { v.fcu d with intake := (v.fcu d).intake ++ [e] }))) ∧
  ((s.fcu d).nextLine = none → exec (.fcuWriteback d) s = .next s) ∧
  (∀ l x e t, (s.fcu d).nextLine = some (l, x) → (s.setFcu d x).lineOr (fcuWho d l.site) (l.line * 64) l.data false = (e, t) →
    exec (.fcuWriteback d) s = .next ((if e.isSome then t.wr (fsB d l.site) FS_STAT.BMINVAL 1 else t).fcuOcc d)) ∧
  ((s.fsx (d * 16 + st)).out = [] → exec (.fcuWriteResponse d st) s = .next s) ∧
  (∀ l ls, (s.fsx (d * 16 + st)).out = l :: ls →
    (l.first = true → s.rd (fsB d st) FS_FIRSTN.N ≤ l.next → Gives (.fcuWriteResponse d st) s
      (s.setFsx (d * 16 + st) { s.fsx (d * 16 + st) with out := ls, firstDone := l.next }) [FS_STAT.FIRST_DONE.is (fsB d st) 1]) ∧
    (l.first = true → l.next < s.rd (fsB d st) FS_FIRSTN.N → exec (.fcuWriteResponse d st) s =
      .next (s.setFsx (d * 16 + st) { s.fsx (d * 16 + st) with out := ls, firstDone := l.next })) ∧
    (l.first = false → Gives (.fcuWriteResponse d st) s (s.setFsx (d * 16 + st) { s.fsx (d * 16 + st) with out := ls })
      [FS_STAT.RING_FULL.is (fsB d st) (decide (2 ^ s.rd (fsB d st) FS_RSIZE.LOG2 ≤
        seqDiff 32 (l.next % 2 ^ 32) (s.rd (fsB d st) FS_RDPTR.RD))).toNat, FS_WRPTR.WR.is (fsB d st) l.next])) ∧
  ((s.fsx (d * 16 + st)).part = none → exec (.fcuPartialLineTimeout d st) s = .next s) ∧
  (∀ l, (s.fsx (d * 16 + st)).part = some l → exec (.fcuPartialLineTimeout d st) s =
    .next ((s.setFsx (d * 16 + st) { s.fsx (d * 16 + st) with part := none, out := (s.fsx (d * 16 + st)).out ++ [l] }).storeBytes
      (fcuWho d st) l.addr l.data false).2) ∧
  (∀ b, b = (((s.fcu d).cache ++ (s.fcu d).wbq ++ (s.fcu d).marks).any fun l => l.site == st.val && l.flush) →
    (s.rd (fsB d st) FS_FLUSH_RES.STATUS = 1 → (s.fsx (d * 16 + st)).flushAhead = false → (s.fsx (d * 16 + st)).out = [] → b = false →
      Gives (.fsFlushDone d st) s s [FS_FLUSH_RES.VALID.is (fsB d st) 1, FS_FLUSH_RES.STATUS.is (fsB d st) 2]) ∧
    (s.rd (fsB d st) FS_FLUSH_RES.STATUS ≠ 1 ∨ (s.fsx (d * 16 + st)).flushAhead = true ∨ (s.fsx (d * 16 + st)).out ≠ [] ∨ b = true →
      exec (.fsFlushDone d st) s = .next s))

/-- Controls of a site's capture (R184, R190, R191, R204, R205). FLUSH takes the next number and its place in the stream, is merged into a PENDING one, or
is refused; FACK releases a valid result; FRESET starts the first records again; CCLR clears the site's counters and those of its channels; BMCLR
is refused while the site runs or the engine holds its entries or lines, else clears the coarse status; FS_RDPTR takes a value within the ring and
discards another with RSVW; FCU_CCLR clears one channel's counter or all of them.
Completion is stated of: fsFlush, fsFack, fsFreset, fsCclr, fsBmclr, fsRdptrWrite, fcuCclr. -/
def Obligations.FailControls : Prop :=
  ∀ (s : State) (d : Fin 4) (st : Fin 16),
  (s.answers .fcu d 0 = false → exec (.fsFlush d st) s = .next s ∧ exec (.fsFack d st) s = .next s ∧ exec (.fsFreset d st) s = .next s ∧
    exec (.fsCclr d st) s = .next s ∧ exec (.fsBmclr d st) s = .next s ∧ (∀ v, exec (.fsRdptrWrite d st v) s = .next s) ∧
    (∀ v, exec (.fcuCclr d v) s = .next s)) ∧
  (s.answers .fcu d 0 = true →
    (s.rd (fsB d st) FS_FLUSH_RES.STATUS = 1 → exec (.fsFlush d st) s = .next s) ∧
    (s.rd (fsB d st) FS_FLUSH_RES.STATUS ≠ 1 → s.on (fsB d st) FS_FLUSH_RES.ACKD = false →
      Gives (.fsFlush d st) s s [FS_STAT.CMD_REJ.is (fsB d st) 1]) ∧
    (s.rd (fsB d st) FS_FLUSH_RES.STATUS ≠ 1 → s.on (fsB d st) FS_FLUSH_RES.ACKD = true →
      Gives (.fsFlush d st) s ((s.setFsx (d * 16 + st) { s.fsx (d * 16 + st) with flushAhead := true }).setFcu d
          { s.fcu d with intake := (s.fcu d).intake ++ [{ kind := .flush, site := st }] })
        [FS_FLUSH_RES.ACKD.is (fsB d st) 0, FS_FLUSH_RES.VALID.is (fsB d st) 0, FS_FLUSH_RES.STATUS.is (fsB d st) 1,
         FS_FLUSH_RES.SEQ.is (fsB d st) (s.rd (fsB d st) FS_FLUSH_RES.SEQ + 1)]) ∧
    (s.on (fsB d st) FS_FLUSH_RES.VALID = true → Gives (.fsFack d st) s s [FS_FLUSH_RES.ACKD.is (fsB d st) 1]) ∧
    (s.on (fsB d st) FS_FLUSH_RES.VALID = false → exec (.fsFack d st) s = .next s) ∧
    Gives (.fsFreset d st) s (s.setFsx (d * 16 + st) { s.fsx (d * 16 + st) with
        firstMade := 0, firstDone := 0
        part := (s.fsx (d * 16 + st)).part.filter fun l => !l.first
        out := (s.fsx (d * 16 + st)).out.filter fun l => !l.first })
      [FS_STAT.FIRST_GAP.is (fsB d st) 0, FS_STAT.FIRST_DONE.is (fsB d st) 0] ∧
    Leads (.fsCclr d st) s (fun t =>
      (∀ f ∈ [FS_TOTAL_LO.V, FS_TOTAL_HI.V, FS_DROPPED_LO.V, FS_DROPPED_HI.V, FS_PURGED.V, FS_COARSE_ENT.V, FS_COARSE_ROWS.V,
        FS_UNMAPPED.V, FS_TAGPOIS.V, FS_PURGED_LINES.V], t.rd (fsB d st) f = 0) ∧
      (∀ i < 576, s.chanSite (d * 576 + i) = st → t.rd (fcuB d + i * 8) FC_LO.V = 0 ∧ t.rd (fcuB d + i * 8) FC_HI.V = 0)) ∧
    ((s.siteRunning st || s.fcuHolds d st || s.fcuLines d st || s.rd (fsB d st) FS_FLUSH_RES.STATUS == 1) = true →
      Gives (.fsBmclr d st) s s [FS_STAT.CMD_REJ.is (fsB d st) 1]) ∧
    ((s.siteRunning st || s.fcuHolds d st || s.fcuLines d st || s.rd (fsB d st) FS_FLUSH_RES.STATUS == 1) = false →
      Gives (.fsBmclr d st) s (s.setFcu d { s.fcu d with flags := (s.fcu d).flags.filter fun f => f.1 != st.val })
        [FS_STAT.BMINVAL.is (fsB d st) 0, FS_STAT.TAGLOSS.is (fsB d st) 0, FS_STAT.BLKCOARSE.is (fsB d st) 0,
         FS_STAT.COARSENED.is (fsB d st) 0]) ∧
    (∀ v : Word, 2 ^ s.rd (fsB d st) FS_RSIZE.LOG2 < seqDiff 32 (s.rd (fsB d st) FS_WRPTR.WR) v.toNat →
      Gives (.fsRdptrWrite d st v) s s [BLK_STAT.RSVW.is (fcuB d) 1]) ∧
    (∀ v : Word, seqDiff 32 (s.rd (fsB d st) FS_WRPTR.WR) v.toNat ≤ 2 ^ s.rd (fsB d st) FS_RSIZE.LOG2 →
      Gives (.fsRdptrWrite d st v) s s [FS_STAT.RING_FULL.is (fsB d st) (decide (2 ^ s.rd (fsB d st) FS_RSIZE.LOG2 ≤
        seqDiff 32 (s.rd (fsB d st) FS_WRPTR.WR) v.toNat)).toNat, FS_RDPTR.RD.is (fsB d st) v.toNat]) ∧
    (∀ i : Fin 576, Gives (.fcuCclr d (BitVec.ofNat 32 i)) s s [FC_HI.V.is (fcuB d + i * 8) 0, FC_LO.V.is (fcuB d + i * 8) 0]) ∧
    (∀ v : Word, bitAt v.toNat 31 = true → Leads (.fcuCclr d v) s fun t =>
      ∀ i < 576, t.rd (fcuB d + i * 8) FC_LO.V = 0 ∧ t.rd (fcuB d + i * 8) FC_HI.V = 0))

/-- Repair jobs (R209, R211 to R216, R221 to R223). GO queues a new PENDING job of an ACTIVE site and writes its number and class into the descriptor, or
is refused; CANCEL ends a PENDING job; ACK releases a valid result. The first job that does not wait starts: it runs, or ends REJECTED or ERROR. The
running job ends with the verdict on its input: the end commands act where the node budget lasted, and where it ran out.
Completion is stated of: rjGo, rjCancel, rjAck, raeJobStart, raeJobEnd, raeBudgetExhausted. -/
def Obligations.RepairJobs : Prop :=
  ∀ (s : State) (r : Fin 8) (n st : Fin 16),
  (s.answers .rae (r / 2) (r % 2) = false →
    exec (.rjGo r n st) s = .next s ∧ exec (.rjCancel r n) s = .next s ∧ exec (.rjAck r n) s = .next s) ∧
  (s.answers .rae (r / 2) (r % 2) = true →
    (s.slotClass r n = classPENDING ∨ s.on (rjB r n) RJ_RES.ACKD = false ∨ s.siteState st ≠ siteACTIVE →
      Gives (.rjGo r n st) s s [RAE_STAT.REJ.is (raeB r) 1]) ∧
    (s.slotClass r n ≠ classPENDING → s.on (rjB r n) RJ_RES.ACKD = true → s.siteState st = siteACTIVE → ∀ u v,
      u = ((((s.seqUp (rjB r n) RJ_RES.SEQ).wr (rjB r n) RJ_RES.CLASS classPENDING).wr (rjB r n) RJ_RES.VALID 0).wr (rjB r n) RJ_RES.ACKD
        0).wr (rjB r n) RJ_RES.SITE st →
      v = u.setRae r { u.rae r with queue := (u.rae r).queue ++ [n.val] } →
      exec (.rjGo r n st) s = .next ((v.storeBytes (v.raeWho r n) (v.slotAddr r n + 0x68) (leBytes 2 (v.rd (rjB r n) RJ_RES.SEQ) ++
        leBytes 1 classPENDING) false).2.raeStat r)) ∧
    (s.slotClass r n = classPENDING → Leads (.rjCancel r n) s fun t =>
      t.rd (rjB r n) RJ_RES.CLASS = classCANCELLED ∧ t.rd (rjB r n) RJ_RES.VALID = 1 ∧
      t.rd (raeB r) RAE_CNT_JOBS.V = satAdd RAE_CNT_JOBS.V.width (s.rd (raeB r) RAE_CNT_JOBS.V) 1 ∧ t.mem = s.mem ∧
      (t.rae r).run ≠ some n.val) ∧
    (s.slotClass r n ≠ classPENDING → exec (.rjCancel r n) s = .next s) ∧
    (s.on (rjB r n) RJ_RES.VALID = true → Gives (.rjAck r n) s s [RJ_RES.ACKD.is (rjB r n) 1]) ∧
    (s.on (rjB r n) RJ_RES.VALID = false → exec (.rjAck r n) s = .next s)) ∧
  ((s.rae r).run.isSome = true → exec (.raeJobStart r) s = .next s) ∧
  ((s.rae r).run = none →
    (((s.rae r).queue.find? fun n => decide ((s.startOf r n).1 ≠ .waits)) = none → exec (.raeJobStart r) s = .next s) ∧
    (∀ m t, ((s.rae r).queue.find? fun n => decide ((s.startOf r n).1 ≠ .waits)) = some m →
      (s.startOf r m = (.outside, t) → exec (.raeJobStart r) s = .next (t.raeResult r m classREJECTED 5 false false 0 0 0)) ∧
      (s.startOf r m = (.refused, t) → exec (.raeJobStart r) s = .next (t.raeError r m 1)) ∧
      (s.startOf r m = (.poison, t) → exec (.raeJobStart r) s =
        .next ((t.raise (r / 2) 59 (some (s.slotSite r m)) (r % 2)).raeError r m 0)) ∧
      (s.startOf r m = (.aborted, t) → exec (.raeJobStart r) s = .next (t.raeError r m 2)) ∧
      (∀ desc, s.startOf r m = (.reads desc, t) →
        (∀ sub, t.descReject (s.slotSite r m) desc = some sub → exec (.raeJobStart r) s = .next (t.raeReject r m sub)) ∧
        (t.descReject (s.slotSite r m) desc = none → exec (.raeJobStart r) s = .next ((t.setRae r { t.rae r with
          queue := (t.rae r).queue.filter (· != m), run := some m, desc := desc }).raeStat r))))) ∧
  ((s.rae r).run = none → exec (.raeJobEnd r) s = .next s ∧ exec (.raeBudgetExhausted r) s = .next s) ∧
  (∀ m desc inp t v, (s.rae r).run = some m → desc = (s.rae r).desc → s.raeInput r m desc = (inp, t) →
    v = solve ⟨leAt desc 0x14 1, leAt desc 0x15 1, leAt desc 0x10 4, bitAt (leAt desc 0x06 2) 1⟩
      (if leAt desc 0x18 4 = 0 then 2 ^ 32 else leAt desc 0x18 4) inp.rows →
    (v.out = true → exec (.raeJobEnd r) s = .next s) ∧ (v.out = false → exec (.raeBudgetExhausted r) s = .next s) ∧
    (∀ c ∈ [(Instr.raeJobEnd r, false), (Instr.raeBudgetExhausted r, true)], v.out = c.2 →
      (inp.err = true → exec c.1 s = .next (t.raeError r m 1)) ∧
      (inp.err = false → ∀ u cls sub lines e w ok z, u = t.each (List.range v.rescans) (fun _ t => (t.raeInput r m desc).2) →
        cls = (if inp.coarse ∧ (v.cls = classREPAIRABLE ∨ v.cls = classUNREPAIRABLE) then classCOARSE else v.cls) →
        sub = (if inp.coarse ∧ v.cls = classUNREPAIRABLE then v.sub + 1 else v.sub) →
        lines = (sortedLines (leAt desc 0x0C 4) v.rows ++ sortedLines (leAt desc 0x10 4) v.cols).flatMap (leBytes 2) →
        (if v.cls = classREPAIRABLE then u.storeBytes (u.raeWho r m) (leAt desc 0x60 8)
          (if lines.length % 4 = 0 then lines else lines ++ [0, 0]) false else (none, u)) = (e, w) →
        (if e.isSome then (false, w) else w.descResults r m cls sub (w.fit 32 v.nodes) (w.fit 16 v.rows.length) (w.fit 16 v.cols.length)
          (min ((inp.rows.map fun x => popBits (leAt desc 0x10 4) x.2).sum) (2 ^ 32 - 1)) (w.fit 16 v.mustr) (w.fit 16 v.mustc)
          (min inp.crows 65535)) = (ok, z) →
        (ok = false → exec c.1 s = .next (z.raeError r m 1).drew) ∧
        (ok = true → exec c.1 s = .next (z.raeResult r m cls sub inp.coarse (v.optimal && cls == classREPAIRABLE) (w.fit 32 v.nodes)
          (z.fit 8 v.rows.length) (z.fit 8 v.cols.length)).drew))))

/-- The repair solver is sound: a REPAIRABLE verdict uses at most the spare rows and columns, and its lines cover every failing cell. -/
def Obligations.RepairCovers : Prop :=
  ∀ (P : Spares) (budget : Nat) (cells : List (Nat × Nat)) (v : Verdict), v = solve P budget cells → v.cls = classREPAIRABLE →
    v.rows.length ≤ P.sr ∧ v.cols.length ≤ P.sc ∧
    ∀ e ∈ cells, ∀ c, bitAt e.2 c = true → e.1 ∈ v.rows ∨ c ∈ v.cols

/-- A cycle of a fabric cell (R227 to R241), for all 53 opcodes of R233: where the region runs on the cluster's clock and the selected slot holds that
opcode in a legal word, the cell's registers, flags, output bus, carry output and their poison follow that opcode's result, and the context for the
next cycle is sampled; otherwise the command changes nothing. The result loads QA and QB by WE, drives the bus by OSEL, and its poison is that of
what the opcode consumes; after a poisoned context everything driven or loaded is poisoned. Each input is one of 16 cell outputs and 32 cluster
inputs; a global line comes over a region boundary through the boundary's register where it is enabled.
Completion is stated of: cellMov, cellAdd, cellSub, cellRsb, cellAddus, cellSubus, cellNeg, cellAbsd, cellMinu, cellMaxu, cellMins, cellMaxs, cellCmp,
cellTst, cellIncw, cellDecw, cellAnd, cellOr, cellXor, cellAndn, cellOrn, cellXnor, cellNot, cellBitf, cellSelc, cellSelz, cellSeln, cellMuxb,
cellShl, cellShr, cellSar, cellRol, cellRor, cellShlc, cellShrc, cellRev, cellSwap, cellFshl, cellClz, cellCtz, cellPopc, cellPmsk, cellXscr,
cellLfsr, cellGray, cellUgray, cellGstep, cellEq, cellLtu, cellLts, cellBset, cellBclr, cellBtst. -/
def Obligations.CellCycle : Prop :=
  (∀ (s : State) (reg : Fin 256) (cell : Fin 8192) (n : Nat) (io : CellIn), n = reg.val * 8192 + cell.val → io = s.cellIn n →
    ∀ k ∈ cellCommands reg cell, ∃ u, cellUses k.1 = some u ∧
    (∀ go, go = (s.regionRuns (cellRegion n) (s.clusterClock (cellRegion n) (cellCol n) (cellRow n)) &&
        decide (insnOp (s.slotWord n) = k.1) && insnLegal (cellRow n) (cellPos n) (s.slotWord n)) →
      (go = false → exec k.2.1 s = .next s) ∧
      (go = true → ∀ w x a b c t r p y, w = s.slotWord n → x = s.cell n → a = x.source io w (insnSrcA w) → b = x.source io w (insnSrcB w) →
        t = x.third io w → c = x.ci (s.carryIn n) w →
        r = k.2.2 ⟨a.1, b.1, t.1, insnImm w, c.1, bitAt x.flags 3, bitAt x.flags 2, bitAt x.flags 1⟩ →
        p = (x.ctxP || a.2 || (u.b && b.2) || (u.t && t.2) || (u.ci && c.2) || (u.flags && x.fp)) →
        y = s.sampleCtx n io (x.execute io (s.carryIn n) w u k.2.2) →
        exec k.2.1 s = .next (s.setCell n y) ∧
        (insnWeA w = true → y.qa = r.r ∧ y.qaP = p) ∧ (insnWeA w = false → y.qa = x.qa ∧ y.qaP = x.qaP) ∧
        (insnWeB w = true → y.qb = r.r ∧ y.qbP = p) ∧ (insnWeB w = false → y.qb = x.qb ∧ y.qbP = x.qbP) ∧
        y.flags = flagsAfter x.flags r ∧ y.fp = (if r.loads then p else x.fp) ∧ y.co = r.c.getD false ∧ y.coP = p ∧
        (insnOsel w = 0 → y.out = r.r + p.toNat * 256) ∧ (insnOsel w = 1 → y.out = x.qa + (x.qaP || x.ctxP).toNat * 256) ∧
        (insnOsel w = 2 → y.out = x.qb + (x.qbP || x.ctxP).toNat * 256) ∧ (insnOsel w = 3 → y.out = x.flags + (x.fp || x.ctxP).toNat * 256)))) ∧
  (∀ (s : State) (c : Cluster) (pos input : Nat), s.cellInput c pos input =
    (Config.crossbar (s.columnSettings c.region c.col) c.row pos input).elim (Config.undrivenBus (c.cell pos)).toNat
      fun k => if k.val < 16 then (s.cell (c.cell k)).out else s.clusterInput c (k - 16)) ∧
  (∀ (s : State) (r m i : Nat) (v b : Bool) q, lineFrom r v b = some q → s.globalLine (m + 1) r v b i =
    (Config.lineDriver (s.regionSettings r) v b i).elim
      (if (s.fenced r || s.fenced q) = true then busPoison
       else if (Config.lineRegister (s.regionSettings r) v b i).isSome = true then s.lineReg (wireKey r v b i)
       else s.globalLine m q v b i)
      fun src => s.busSource (fun v b i => s.globalLine m r v b i) r src)

/-- What the cell's opcodes compute (the table of R233), in numbers and bits: sums with their carry and their signed overflow, saturation,
extremes, wrap counters, bitwise functions, shifts and rotations, counts of zeros and ones, parity, Gray codes (the binary value of a Gray code
undoes the code; the Gray step adds one), comparisons and single bits. -/
def Obligations.CellResults : Prop :=
  ∀ (x : CellArgs), x.a < 256 → x.b < 256 → x.t < 256 → x.imm < 256 → x.ci < 2 →
  (∀ f y z, (f, y, z) ∈ [(cellADD, x.a, (x.b : Int)), (cellSUB, x.a, 255 - (x.b : Int)), (cellRSB, x.b, 255 - (x.a : Int))] →
    ((f x).r : Int) = (y + z + x.ci) % 256 ∧ (f x).c = some (decide (256 ≤ y + z + x.ci)) ∧
    (f x).v = some (!decide (-128 ≤ sgn 8 y + sgn 8 z.toNat + x.ci ∧ sgn 8 y + sgn 8 z.toNat + x.ci ≤ 127)) ∧
    (f x).z = some (decide ((f x).r = 0)) ∧ (f x).n = some (bitAt (f x).r 7)) ∧
  ((cellCMP x).r = x.a ∧ (cellCMP x).c = (cellSUB x).c ∧ (cellCMP x).v = (cellSUB x).v ∧ (cellCMP x).z = (cellSUB x).z ∧
    (cellCMP x).n = (cellSUB x).n) ∧
  (cellADDUS x).r = min (x.a + x.b + x.ci) 255 ∧ (cellADDUS x).c = some (decide (255 < x.a + x.b + x.ci)) ∧
  ((cellSUBUS x).r : Int) = max ((x.a : Int) - x.b - 1 + x.ci) 0 ∧
  (cellSUBUS x).c = some (decide ((x.a : Int) - x.b - 1 + x.ci < 0)) ∧
  (((cellNEG x).r : Int) = (-(x.a : Int)) % 256 ∧ (cellNEG x).c = some (decide (x.a = 0)) ∧ (cellNEG x).v = some (decide (x.a = 128))) ∧
  ((cellABSD x).r = ((x.a : Int) - x.b).natAbs ∧ (cellABSD x).c = some (decide (x.a < x.b))) ∧
  ((cellMINU x).r = min x.a x.b ∧ (cellMAXU x).r = max x.a x.b ∧ sgn 8 (cellMINS x).r = min (sgn 8 x.a) (sgn 8 x.b) ∧
    sgn 8 (cellMAXS x).r = max (sgn 8 x.a) (sgn 8 x.b)) ∧
  ((cellINCW x).r = (if x.a = x.b then 0 else (x.a + 1) % 256) ∧ (cellDECW x).r = (if x.a = 0 then x.b else x.a - 1)) ∧
  (∀ i < 8, ∀ a b, a = bitAt x.a i → b = bitAt x.b i →
    bitAt (cellAND x).r i = (a && b) ∧ bitAt (cellOR x).r i = (a || b) ∧ bitAt (cellXOR x).r i = (a != b) ∧
    bitAt (cellANDN x).r i = (a && !b) ∧ bitAt (cellORN x).r i = (a || !b) ∧ bitAt (cellXNOR x).r i = (a == b) ∧
    bitAt (cellNOT x).r i = !a ∧ bitAt (cellXSCR x).r i = (a != (b && bitAt x.imm i)) ∧ bitAt (cellREV x).r i = bitAt x.a (7 - i) ∧
    bitAt (cellSWAP x).r i = bitAt x.a ((i + 4) % 8) ∧
    bitAt (cellBITF x).r i = bitAt x.imm (4 * a.toNat + 2 * b.toNat + (bitAt x.t i).toNat) ∧
    bitAt (cellSHL x).r i = (decide (x.b % 8 ≤ i) && bitAt x.a (i - x.b % 8)) ∧
    bitAt (cellSHR x).r i = (decide (i + x.b % 8 < 8) && bitAt x.a (i + x.b % 8)) ∧
    bitAt (cellSAR x).r i = bitAt x.a (min (i + x.b % 8) 7) ∧
    bitAt (cellROL x).r ((i + x.b % 8) % 8) = a ∧ bitAt (cellROR x).r i = bitAt x.a ((i + x.b % 8) % 8) ∧
    bitAt (cellBSET x).r i = (a || decide (i = x.b % 8)) ∧ bitAt (cellBCLR x).r i = (a && !decide (i = x.b % 8))) ∧
  ((cellSHLC x).r = x.a % 128 * 2 + x.ci ∧ (cellSHLC x).c = some (bitAt x.a 7) ∧ (cellSHRC x).r = x.ci * 128 + x.a / 2 ∧
    (cellSHRC x).c = some (bitAt x.a 0) ∧ (cellFSHL x).r = (x.a * 256 + x.b) * 2 ^ (x.imm % 8) / 256 % 256) ∧
  (sgn 8 (cellSAR x).r = sgn 8 x.a / 2 ^ (x.b % 8)) ∧
  (x.a < 2 ^ (8 - (cellCLZ x).r) ∧ (x.a ≠ 0 → 2 ^ 7 ≤ x.a * 2 ^ (cellCLZ x).r) ∧ (cellCTZ x).r ≤ 8 ∧
    (x.a ≠ 0 → x.a / 2 ^ (cellCTZ x).r % 2 = 1 ∧ x.a % 2 ^ (cellCTZ x).r = 0) ∧ (x.a = 0 → (cellCTZ x).r = 8)) ∧
  ((cellPOPC x).r = ((List.range 8).filter fun i => bitAt x.a i).length ∧
    (cellPMSK x).r = ((List.range 8).filter fun i => bitAt x.a i && bitAt x.imm i).length % 2 ∧
    (cellLFSR x).r = x.a % 128 * 2 + ((cellPMSK x).r + x.ci) % 2) ∧
  (ungray8 (cellGRAY x).r = x.a ∧ (cellGRAY { x with a := (cellUGRAY x).r }).r = x.a ∧
    ungray8 (cellGSTEP x).r = (ungray8 x.a + 1) % 256 ∧ (cellGSTEP x).c = some (decide (x.a = 128))) ∧
  ((cellEQ x).r = (if x.a = x.b then 255 else 0) ∧ (cellLTU x).r = (if x.a < x.b then 255 else 0) ∧
    (cellLTS x).r = (if sgn 8 x.a < sgn 8 x.b then 255 else 0)) ∧
  ((cellMOV x).r = x.a ∧ (cellMOV x).loads = false ∧ (cellTST x).r = x.a ∧ (cellTST x).z = some (decide ((cellAND x).r = 0)) ∧
    (cellBTST x).r = x.a ∧ (cellBTST x).c = some (bitAt x.a (x.b % 8)) ∧ (cellBTST x).n = none ∧
    (cellSELC x).r = (if x.c then x.a else x.b) ∧ (cellSELZ x).r = (if x.z then x.a else x.b) ∧
    (cellSELN x).r = (if x.n then x.a else x.b) ∧ (cellMUXB x).r = (if bitAt x.t 0 then x.a else x.b))

/-- Store-block ports and service accesses (R247 to R252). The ports of a fenced region are idle. Otherwise each port that is used, at an edge of its
running clock, samples one access; the two act on the store as one pair, their outputs move on by one edge, and a bad access raises source 69. A
waiting service access is performed and answered, with a decode error where the store does not answer; any other flight is left alone.
Completion is stated of: storePortAccess, storeServiceAccess. -/
def Obligations.StorePorts : Prop :=
  ∀ (s : State) (r : Fin 256) (m : Fin 32),
  (∀ a b, s.on (frB r) FR_STAT.FENCED = true → exec (.storePortAccess r m a b) s = .next s) ∧
  (s.on (frB r) FR_STAT.FENCED = false → ∀ a b x k accA accB seen t u v, k = r.val * 32 + m.val → x = s.storePort k →
    accA = (match a with
      | some p => if x.usedA && a.isSome && s.regionRuns r x.clkA then portAcc x.wA ((storeAddr r + m * 0x10000) / 8) p else .idle
      | none => .idle) →
    accB = (match b with
      | some p => if x.usedB && b.isSome && s.regionRuns r x.clkB then portAcc x.wB ((storeAddr r + m * 0x10000) / 8) p else .idle
      | none => .idle) →
    s.portPair (x.clkA == x.clkB) accA accB = (seen, t) →
    u = t.setStorePort k { x with
      outA := if x.usedA && a.isSome && s.regionRuns r x.clkA then pipe x.outA (portOut x.wA accA seen.1) else x.outA
      outB := if x.usedB && b.isSome && s.regionRuns r x.clkB then pipe x.outB (portOut x.wB accB seen.2) else x.outB } →
    v = (if accA = .bad then u.raise (r / 64) 69 none r else u) →
    exec (.storePortAccess r m a b) s = .next (if accB = .bad then v.raise (r / 64) 69 none r else v)) ∧
  (∀ id f, (s.flights.find? fun f => f.id == id) = some f →
    (∀ k, f.rsp = none → f.dst = .store k →
      (s.storeAnswers f.req.addr.toNat = true → exec (.storeServiceAccess id) s =
        .next ((s.chipOp f.req).2.answer id (s.chipOp f.req).1)) ∧
      (s.storeAnswers f.req.addr.toNat = false → exec (.storeServiceAccess id) s = .next (s.answer id .decode))) ∧
    (f.rsp.isSome ∨ (∀ k, f.dst ≠ .store k) → exec (.storeServiceAccess id) s = .next s)) ∧
  (∀ id, (s.flights.find? fun f => f.id == id) = none → exec (.storeServiceAccess id) s = .next s)

/-- Regions (R229, R252 to R257). FENCE is set as written; a region reset of a LOADED region gives its cells their initial values behind a fence that
ends with the reset; a relocation is refused, finds its spare in use, or starts; the self-test of the spare column writes the spare map or ends the
relocation with the region EMPTY; the end restores the frames from the Sett copy, or leaves the region EMPTY; RACK releases a valid result. An
upset that leaves an illegal word in a running cell's slot drives its outputs as zero with poison.
Completion is stated of: cellIllegalSlot, frFence, frRreset, rresetEnd, frReloc, relocSelftestDone, relocDone, frRack. -/
def Obligations.RegionControl : Prop :=
  ∀ (s : State) (r : Fin 256) (col : Fin 32),
  (s.answers .cfe (r / 64) 0 = false → (∀ v, exec (.frFence r v) s = .next s) ∧ exec (.frRreset r) s = .next s ∧
    exec (.frReloc r col) s = .next s ∧ exec (.frRack r) s = .next s) ∧
  (s.answers .cfe (r / 64) 0 = true →
    (∀ v, Gives (.frFence r v) s s [FR_STAT.FENCED.is (frB r) (s.regionState r != frLOADED || (s.region r).resetting || v).toNat,
      FR_CTL.FENCE.is (frB r) v.toNat]) ∧
    (s.regionState r ≠ frLOADED → Gives (.frRreset r) s s [FR_STAT.REJ.is (frB r) 1]) ∧
    (s.regionState r = frLOADED → exec (.frRreset r) s =
      .next (((s.setRegion r { s.region r with resetting := true }).applyInitial r).fenceRefresh r)) ∧
    ((s.regionState r ≠ frLOADED ∧ s.regionState r ≠ frEMPTY) ∨ s.napped r = true ∨ s.on (frB r) FR_RELOC_RES.ACKD = false →
      Gives (.frReloc r col) s s [FR_STAT.REJ.is (frB r) 1]) ∧
    (s.regionState r = frLOADED ∨ s.regionState r = frEMPTY → s.napped r = false → s.on (frB r) FR_RELOC_RES.ACKD = true → ∀ u,
      u = ((s.seqUp (frB r) FR_RELOC_RES.SEQ).wr (frB r) FR_RELOC_RES.VALID 0).wr (frB r) FR_RELOC_RES.ACKD 0 →
      (s.on (frB r) FR_STAT.SPARE_USED = true → exec (.frReloc r col) s = .next (u.relocResult r 5)) ∧
      (s.on (frB r) FR_STAT.SPARE_USED = false → exec (.frReloc r col) s = .next (((((u.chkAbandon r).setRegion r { u.region r with
        reloc := some col.val, fromSett := s.regionState r == frLOADED && (s.region r).slot.isSome, tested := false
        resetting := false }).wr (frB r) FR_RELOC_RES.STATUS 1).cellsVoid r).setRegionState r frRELOCATING))) ∧
    (s.on (frB r) FR_RELOC_RES.VALID = true → Gives (.frRack r) s s [FR_RELOC_RES.ACKD.is (frB r) 1]) ∧
    (s.on (frB r) FR_RELOC_RES.VALID = false → exec (.frRack r) s = .next s)) ∧
  ((s.region r).resetting = true → exec (.rresetEnd r) s =
    .next ((s.setRegion r { s.region r with resetting := false }).fenceRefresh r)) ∧
  ((s.region r).resetting = false → exec (.rresetEnd r) s = .next s) ∧
  (∀ c, (s.region r).reloc = some c → (s.region r).tested = false →
    Gives (.relocSelftestDone r true) s (s.setRegion r { s.region r with tested := true })
      [FR_STAT.MAPSRC.is (frB r) 1, FR_STAT.BADCOL.is (frB r) c, FR_STAT.SPARE_USED.is (frB r) 1] ∧
    exec (.relocSelftestDone r false) s = .next ((((s.setRegion r { s.region r with reloc := none }).setCopy r none).regionEmpty
      r).relocResult r 4)) ∧
  ((s.region r).reloc = none ∨ (s.region r).tested = true → ∀ pass, exec (.relocSelftestDone r pass) s = .next s) ∧
  ((s.region r).reloc = none ∨ (s.region r).tested = false → exec (.relocDone r) s = .next s) ∧
  ((s.region r).reloc ≠ none → (s.region r).tested = true → ∀ u,
    u = s.setRegion r { s.region r with reloc := none, tested := false, recDue := true } →
    (∀ k, (s.region r).fromSett = true → (s.region r).slot = some k → exec (.relocDone r) s =
      .next (((u.framesFromSett r k).regionRelease r).relocResult r 2)) ∧
    ((s.region r).fromSett = false ∨ (s.region r).slot = none → exec (.relocDone r) s =
      .next (((u.setCopy r none).regionEmpty r).relocResult r 3))) ∧
  (∀ (reg : Fin 256) (cell : Fin 8192) (n : Nat) (w : Word) no off u, n = reg.val * 8192 + cell.val → no = frameNo (cellRegion n) (cellCol n) (cellRow n / 4) →
    off = (cellRow n % 4 * 16 + cellPos n) * 16 + (s.cell n).ctx * 4 →
    u = s.setUpset no (s.upset no ^^^ (s.slotWord n ^^^ w.toNat) * 2 ^ (8 * off)) →
    (insnLegal (cellRow n) (cellPos n) w.toNat = true ∨ s.regionRuns (cellRegion n)
      (s.clusterClock (cellRegion n) (cellCol n) (cellRow n)) = false → exec (.cellIllegalSlot reg cell w) s = .next s) ∧
    (insnLegal (cellRow n) (cellPos n) w.toNat = false → s.regionRuns (cellRegion n)
      (s.clusterClock (cellRegion n) (cellCol n) (cellRow n)) = true → exec (.cellIllegalSlot reg cell w) s =
        .next (u.setCell n (u.sampleCtx n (u.cellIn n) { u.cell n with out := 256, co := false, coP := true }))))

/-- A memory port at work (R202, R265 to R268, R430, R434 to R446). The scheduler performs the preferred request that may issue; an ageing request gains
urgency, to 3; a freed fill slot lets the oldest waiting write start; each tREFI boundary adds to the debts, each REFsb pays one, unless urgent requests
hold it off; a set left in catch-up is forced; tracking takes its rank with its banks idle; a thermal read above 95 °C holds source 7. A group's INV
makes its pages read zero, and its counters clear as commanded.
Completion is stated of: aor, pageFillLine, fillSlotFree, egInv, invSweepDone, egCntClr, mpDqsOscRead, mpZqCal, mpThermalRead, mpTrackingForce,
mpCommandIssue, requestUrgencyRise, panicChange, trefiBoundary, refsbIssue, catchupTimer. -/
def Obligations.MemoryPorts : Prop :=
  ∀ (s : State) (m : Fin 8) (g : EGroup),
  (s.preferred m = none → exec (.mpCommandIssue m) s = .next s) ∧
  (∀ i e, s.preferred m = some (i, e) → (isWrite e.req.op && s.fillBlocked m (e.pa / 64)) = false → exec (.mpCommandIssue m) s =
    .next ((s.setPort m { s.port m with queue := (s.port m).queue.eraseIdx i }).perform m e)) ∧
  (∀ i e, s.preferred m = some (i, e) → (isWrite e.req.op && s.fillBlocked m (e.pa / 64)) = true →
    Leads (.mpCommandIssue m) s fun t => t.rd (mpB m) EG_FILLWAIT.V = satAdd EG_FILLWAIT.V.width (s.rd (mpB m) EG_FILLWAIT.V) 1 ∧
      t.port m = { s.port m with
        queue := ((s.port m).queue.eraseIdx i).filter fun o => !sameSource o.req e.req
        waits := (s.port m).waits ++ e :: ((s.port m).queue.eraseIdx i).filter fun o => sameSource o.req e.req }) ∧
  (∀ i e, s.preferred m = some (i, e) → (s.port m).queue[i]? = some e ∧ s.mayIssue m ((s.port m).queue.take i) e = true) ∧
  (∀ i e g, (s.port m).queue[i]? = some e → g = (if s.target m e.slot ≤ s.ageOf e then 3
      else if 3 * s.target m e.slot ≤ 4 * s.ageOf e then 2 else if s.target m e.slot ≤ 2 * s.ageOf e then 1 else 0) →
    exec (.requestUrgencyRise m i) s =
      .next (s.setPort m { s.port m with queue := (s.port m).queue.set i { e with urg := max e.urg g } })) ∧
  (∀ i, (s.port m).queue.length ≤ i → exec (.requestUrgencyRise m i) s = .next s) ∧
  (∀ (d : Fin 4) (g i : Fin 8) l, l = g.val * 8 + i.val → Leads (.panicChange d g i) s fun t =>
    (d.val * 64 + l ∈ t.panics ↔ s.panicOut d l = true) ∧
    (∀ k, k ≠ d.val * 64 + l → (k ∈ t.panics ↔ k ∈ s.panics)) ∧ t = { s with panics := t.panics }) ∧
  ((s.port m).waits = [] → exec (.fillSlotFree m) s = .next s) ∧
  (∀ e es, (s.port m).waits = e :: es →
    (s.filling m < 64 → exec (.fillSlotFree m) s = .next ((((s.setPort m { s.port m with
        queue := (s.port m).queue.filter fun o => !sameSource o.req e.req, waits := es }).each
          ((s.port m).queue.filter fun o => sameSource o.req e.req) fun o s => s.perform m o).perform m e).unblock m)) ∧
    (64 ≤ s.filling m → exec (.fillSlotFree m) s = .next s)) ∧
  (∀ line : BitVec 29, exec (.pageFillLine m line) s = .next (s.fillLine m line.toNat)) ∧
  (∀ ini site (a : BitVec 40) data pois, exec (.aor ini site a data pois) s =
    .next (s.request ⟨ini, false, site, .aor, BitVec.ofNat 40 (a.toNat / 64 * 64), 64, data, pois, none⟩).2) ∧
  (s.ready (m / 2) (rdyMP (m % 2)) = false → exec (.trefiBoundary m) s = .next s ∧ (∀ r, exec (.mpDqsOscRead m r) s = .next s ∧
    exec (.mpZqCal m r) s = .next s ∧ ∀ zq, exec (.mpTrackingForce m r zq) s = .next s) ∧ ∀ t, exec (.mpThermalRead m t) s = .next s) ∧
  (s.ready (m / 2) (rdyMP (m % 2)) = true →
    exec (.trefiBoundary m) s = .next (s.refreshDue m) ∧
    ((∀ b ∈ s.bankSets m, s.debt m b < 4) → Leads (.trefiBoundary m) s fun t => ∀ b ∈ s.bankSets m, t.debt m b = s.debt m b + 1) ∧
    (∀ (r : Fin 2) x, x = { s.port m with rows := (s.port m).rows.filter fun e => e.1 / 64 != r.val } →
      exec (.mpDqsOscRead m r) s = .next (s.setPort m { x with dqsReads := x.dqsReads + 1 }) ∧
      exec (.mpZqCal m r) s = .next (s.setPort m { x with zqCals := x.zqCals + 1 }) ∧
      exec (.mpTrackingForce m r true) s = .next (s.setPort m { x with zqCals := x.zqCals + 1 }) ∧
      exec (.mpTrackingForce m r false) s = .next (s.setPort m { x with dqsReads := x.dqsReads + 1 })) ∧
    (∀ (t : BitVec 16) u, u = (((s.wr (mpB m) MP_TEMP.VALID 1).wr (mpB m) MP_TEMP.TEMP t.toNat).wrb (mpB m) MP_TEMP.HOT
        (decide (t.toInt > 950))).setPort m { s.port m with
          fastNext := decide (t.toInt > 850), thermReads := (s.port m).thermReads + 1 } →
      (t.toInt > 950 → exec (.mpThermalRead m t) s = .next (u.condOn (m / 2) 7 none m)) ∧
      (t.toInt ≤ 950 → exec (.mpThermalRead m t) s = .next (u.condOff (m / 2) 7 m)))) ∧
  (∀ set : Fin 8,
    (s.debt m set = 0 → exec (.refsbIssue m set) s = .next s) ∧
    (s.setForced m set = false → ((s.port m).queue.any fun e => s.setNo m e.pa == set.val && 2 ≤ s.urgency m e) = true →
      exec (.refsbIssue m set) s = .next s) ∧
    (s.debt m set ≠ 0 → (s.setForced m set = true ∨ ((s.port m).queue.any fun e => s.setNo m e.pa == set.val && 2 ≤ s.urgency m e) = false) →
      Leads (.refsbIssue m set) s fun t => t.debt m set + 1 = s.debt m set ∧ (∀ b, b ≠ set.val → t.debt m b = s.debt m b) ∧
        (∀ e ∈ (t.port m).rows, ¬(e.1 / 64 = set.val / 4 ∧ e.1 % 64 / 16 = set.val % 4)) ∧
        t.rd (mpB m) MR_CNT_SB.V = satAdd MR_CNT_SB.V.width (s.rd (mpB m) MR_CNT_SB.V) 1) ∧
    ((s.port m).catchup.contains set.val = true → 1 ≤ s.debt m set → (s.port m).forced.contains set.val = false →
      KV.get 0 set.val (s.port m).refAt + (s.port m).halfTrefi ≤ s.now →
      exec (.catchupTimer m set) s = .next (s.setPort m { s.port m with forced := set.val :: (s.port m).forced })) ∧
    ((s.port m).catchup.contains set.val = false ∨ s.debt m set = 0 ∨ (s.port m).forced.contains set.val = true ∨
      s.now < KV.get 0 set.val (s.port m).refAt + (s.port m).halfTrefi →
      exec (.catchupTimer m set) s = .next s)) ∧
  Gives (.invSweepDone g) s s [EG_STAT.INVBUSY.is (egBase g) 0] ∧
  (∀ k d i, egBlk g = (k, d, i) →
    (s.answers k d i = false → exec (.egInv g) s = .next s ∧ ∀ v, exec (.egCntClr g v) s = .next s) ∧
    (s.answers k d i = true →
      (s.on (egBase g) EG_STAT.INVBUSY = true → Gives (.egInv g) s s [BLK_STAT.COMMIT_ERR.is (k.base d i) 1]) ∧
      (s.on (egBase g) EG_STAT.INVBUSY = false → ∀ lo hi u,
        lo = (if s.rd (egBase g) EG_ICNT.V = 0 then 0 else s.rd (egBase g) EG_IBASE.V) →
        hi = (if s.rd (egBase g) EG_ICNT.V = 0 then (egMem g).2 / 4096
          else min ((egMem g).2 / 4096) (s.rd (egBase g) EG_IBASE.V + s.rd (egBase g) EG_ICNT.V)) →
        u = (s.settleGroup g).wr (egBase g) EG_STAT.INVBUSY 1 →
        (∀ n, g = .mp n → exec (.egInv g) s = .next (u.invalidatePages n lo hi)) ∧
        ((∀ n, g ≠ .mp n) → exec (.egInv g) s = .next (u.invalidateChip ((egMem g).1 + lo * 4096) ((egMem g).1 + hi * 4096)))) ∧
      Gives (.egCntClr g 7) s s [EG_CNT_PSN.V.is (egBase g) 0, EG_CNT_UE.V.is (egBase g) 0, EG_CNT_CE.V.is (egBase g) 0] ∧
      Gives (.egCntClr g 4) s s [EG_CNT_PSN.V.is (egBase g) 0] ∧ Gives (.egCntClr g 2) s s [EG_CNT_UE.V.is (egBase g) 0] ∧
      Gives (.egCntClr g 1) s s [EG_CNT_CE.V.is (egBase g) 0]))

/-- Training, keys and sweeps of the memory ports (R428, R429, R452, R453, R457 to R460). A port that is clocked and not ready trains under the next number and
ends DONE and ready, or failed; RETRAIN is refused, or completes what is accepted and trains again. A key command is refused, or noted with its epoch
and wrapped key, and ends by its slot's state; a sweep is refused, or runs from the range's first line to its last under the new key, and the old slot
retires; ACK releases a valid result.
Completion is stated of: mpTraining, mpTrainingDone, mpRetrain, mpRetrainDone, mpAck, imeGen, imeLoad, imeKill, imeKeyDone, imeKeyAck, imeSweepGo,
imeSweepResume, imeSweepAck, sweepLine, slotRetire. -/
def Obligations.MemoryKeys : Prop :=
  ∀ (s : State) (m : Fin 8) (d : Fin 4),
  (∀ answers, (s.ready (m / 2) rdyCKP && !s.ready (m / 2) (rdyMP (m % 2)) && s.rd (mpB m) MP_TRES.STATUS == 0) = true →
    exec (.mpTraining m answers) s = .next (((s.wrBit (dctlB (m / 2)) DCTL_READY_EXP.BITS (rdyMP (m % 2)) answers).setPort m
      { s.port m with retrain := false }).trainStart m)) ∧
  (∀ answers, (s.ready (m / 2) rdyCKP && !s.ready (m / 2) (rdyMP (m % 2)) && s.rd (mpB m) MP_TRES.STATUS == 0) = false →
    exec (.mpTraining m answers) s = .next s) ∧
  (∀ e, s.rd (mpB m) MP_TRES.STATUS ≠ 1 ∨ (s.port m).retrain = true → exec (.mpTrainingDone m e) s = .next s) ∧
  (s.rd (mpB m) MP_TRES.STATUS = 1 → (s.port m).retrain = false →
    (∀ kind ranks x8 dens, dimmSupported kind ranks.val dens.toNat = false →
      exec (.mpTrainingDone m (.done kind ranks x8 dens)) s = .next (s.trainFail m 4)) ∧
    (∀ ranks x8 dens u, dens ∈ ([16, 24, 32] : List (BitVec 8)) → ranks.val = 1 ∨ ranks.val = 2 →
      u = ((((((s.wr (mpB m) MP_DIMM.SIZE (min 32 (ranks.val * dens.toNat * if x8 then 1 else 2))).wr (mpB m) MP_DIMM.RANKS ranks.val).wrb (mpB m)
        MP_DIMM.WIDTH x8).wr (mpB m) MP_DIMM.DENS dens.toNat).wr (mpB m) MP_TRES.STATUS 2).wr (mpB m) MP_TRES.VALID 1).setPort m
          { s.port m with rows := [], debts := [], catchup := [], forced := [], refAt := [], selfRef := false } →
      exec (.mpTrainingDone m (.done true ranks x8 dens)) s = .next ((u.refreshStat m).setReady (m / 2) (rdyMP (m % 2)) true)) ∧
    exec (.mpTrainingDone m .noDimm) s = .next (s.trainFail m 3) ∧
    exec (.mpTrainingDone m .failed) s = .next (s.trainFail m 5)) ∧
  (s.answers .mp (m / 2) (m % 2) = false → exec (.mpRetrain m) s = .next s ∧ exec (.mpAck m) s = .next s) ∧
  (s.answers .mp (m / 2) (m % 2) = true →
    (s.rd (mpB m) MP_TRES.STATUS = 1 ∨ s.on (mpB m) MP_TRES.ACKD = false → Gives (.mpRetrain m) s s [MP_STAT.REJ.is (mpB m) 1]) ∧
    (s.rd (mpB m) MP_TRES.STATUS ≠ 1 → s.on (mpB m) MP_TRES.ACKD = true → exec (.mpRetrain m) s =
      .next ((((s.setPort m { s.port m with queue := [], waits := [], retrain := true, selfRef := true }).each
        ((s.port m).queue ++ (s.port m).waits) fun e s => (if isWrite e.req.op && s.fillBlocked m (e.pa / 64) then s.endOneFill m
          else s).perform m e).setReady (m / 2) (rdyMP (m % 2)) false).trainStart m)) ∧
    (s.on (mpB m) MP_TRES.VALID = true → Gives (.mpAck m) s s [MP_TRES.ACKD.is (mpB m) 1]) ∧
    (s.on (mpB m) MP_TRES.VALID = false → exec (.mpAck m) s = .next s)) ∧
  (∀ ok, s.rd (mpB m) MP_TRES.STATUS ≠ 1 ∨ (s.port m).retrain = false → exec (.mpRetrainDone m ok) s = .next s) ∧
  (s.rd (mpB m) MP_TRES.STATUS = 1 → (s.port m).retrain = true →
    exec (.mpRetrainDone m true) s = .next ((((s.setPort m { s.port m with retrain := false, rows := [], selfRef := false }).wr (mpB m)
      MP_TRES.STATUS 2).wr (mpB m) MP_TRES.VALID 1).setReady (m / 2) (rdyMP (m % 2)) true) ∧
    exec (.mpRetrainDone m false) s = .next (((s.setPort m { s.port m with retrain := false, rows := [] }).sweepAbort m).trainFail m 5)) ∧
  (∀ (p : Fin 2) (k : Fin 16), ∀ c ∈ [(Instr.imeGen d p k, 1), (.imeLoad d p k, 2), (.imeKill d p k, 3)],
    (s.answers .ime d 0 = false → exec c.1 s = .next s) ∧
    (s.answers .ime d 0 = true → s.rd (imeB d) MI_KRES.STATUS = 1 ∨ s.on (imeB d) MI_KRES.ACKD = false →
      Gives c.1 s s [MI_STAT.REJ.is (imeB d) 1]) ∧
    (s.answers .ime d 0 = true → s.rd (imeB d) MI_KRES.STATUS ≠ 1 → s.on (imeB d) MI_KRES.ACKD = true →
      Gives c.1 s (s.setImeOp d (some ⟨c.2, p, k, s.rd (imeB d) MI_KEPOCH.EPOCH, s.kwrap d⟩))
        [MI_KRES.ACKD.is (imeB d) 0, MI_KRES.VALID.is (imeB d) 0, MI_KRES.STATUS.is (imeB d) 1,
         MI_KRES.SEQ.is (imeB d) (s.rd (imeB d) MI_KRES.SEQ + 1)])) ∧
  (s.imeOp d = none → exec (.imeKeyDone d) s = .next s) ∧
  (∀ o n b, s.imeOp d = some o → n = d.val * 2 + o.port → b = imeP n + o.slot * 4 →
    (o.op = 3 →
      (s.rd b MI_KINFO.REFS ≠ 0 → exec (.imeKeyDone d) s = .next (s.imeEnd d 4)) ∧
      (s.rd b MI_KINFO.REFS = 0 → s.keyInFlight n o.slot = true → Gives (.imeKeyDone d) s s [MI_KINFO.RETIRE_PENDING.is b 1]) ∧
      (s.rd b MI_KINFO.REFS = 0 → s.keyInFlight n o.slot = false →
        exec (.imeKeyDone d) s = .next ((s.zeroise n o.slot).imeEnd d 2))) ∧
    (o.op ≠ 3 → s.on b MI_KINFO.VALID = true → exec (.imeKeyDone d) s = .next (s.imeEnd d 4)) ∧
    (o.op = 1 → s.on b MI_KINFO.VALID = false → ∀ key w, key = Config.freeValue s.fresh 256 →
      w = (Config.keyWrap Config.deviceKek key).toNat → exec (.imeKeyDone d) s = .next (((s.drew.setKey n o.slot o.epoch key).each
        (List.range 10) fun i s => s.wr (imeB d + i * 4) MI_KWRAP.V (bits w (32 * i) 32)).imeEnd d 2)) ∧
    (o.op = 2 → s.on b MI_KINFO.VALID = false →
      exec (.imeKeyDone d) s = .next ((Config.keyUnwrap Config.deviceKek (BitVec.ofNat 320 o.wrap)).elim
        ((s.imeEnd d 3).raise d 72 none d) fun key => (s.setKey n o.slot o.epoch key).imeEnd d 2))) ∧
  (s.answers .ime d 0 = true → (s.on (imeB d) MI_KRES.VALID = true → Gives (.imeKeyAck d) s s [MI_KRES.ACKD.is (imeB d) 1]) ∧
    (s.on (imeB d) MI_KRES.VALID = false → exec (.imeKeyAck d) s = .next s)) ∧
  (s.answers .ime d 0 = false → exec (.imeKeyAck d) s = .next s) ∧
  (∀ (r : Fin 8) (k : Fin 16), s.answers .ime (m / 2) 0 = false →
    exec (.imeSweepGo m r k) s = .next s ∧ exec (.imeSweepResume m r k) s = .next s ∧ exec (.imeSweepAck m) s = .next s) ∧
  (∀ (r : Fin 8) (k : Fin 16), s.answers .ime (m / 2) 0 = true →
    (s.rd (imeP m) MI_SWRES.STATUS = 1 ∨ s.on (imeP m) MI_SWRES.ACKD = false ∨ s.on (imeP m + r * 16) MI_RCFG.EN = false ∨
      s.keyValid m k = false ∨ s.rd (imeP m + r * 16) MI_RCFG.KEY = k ∨ (s.sweep m).under r = true →
      Gives (.imeSweepGo m r k) s s [MI_STAT.REJ.is (imeB (m / 2)) 1]) ∧
    (s.rd (imeP m) MI_SWRES.STATUS ≠ 1 → s.on (imeP m) MI_SWRES.ACKD = true → s.on (imeP m + r * 16) MI_RCFG.EN = true →
      s.keyValid m k = true → s.rd (imeP m + r * 16) MI_RCFG.KEY ≠ k → (s.sweep m).under r = false →
      exec (.imeSweepGo m r k) s = .next ((((s.wr (imeP m) MI_SWPTR.V (s.rd (imeP m + r * 16) MI_RBASE.V * 64)).sweepStart m).setSweep m
        { s.sweep m with cur := some (r.val, k.val) }).imeRefs m)) ∧
    (∀ e, ((s.sweep m).stopped.find? fun e => e.1 == r.val && e.2.1 == k.val) = some e → s.on (imeP m) MI_SWRES.ACKD = true →
      (s.sweep m).cur = none → exec (.imeSweepResume m r k) s = .next (((s.wr (imeP m) MI_SWPTR.V e.2.2).sweepStart m).setSweep m
        ⟨some (r.val, k.val), (s.sweep m).stopped.filter fun e => e.1 != r.val⟩)) ∧
    ((∀ e ∈ (s.sweep m).stopped, ¬(e.1 = r.val ∧ e.2.1 = k.val)) ∨ s.on (imeP m) MI_SWRES.ACKD = false ∨ (s.sweep m).cur ≠ none →
      Gives (.imeSweepResume m r k) s s [MI_STAT.REJ.is (imeB (m / 2)) 1]) ∧
    (s.on (imeP m) MI_SWRES.VALID = true → Gives (.imeSweepAck m) s s [MI_SWRES.ACKD.is (imeP m) 1]) ∧
    (s.on (imeP m) MI_SWRES.VALID = false → exec (.imeSweepAck m) s = .next s)) ∧
  ((s.sweep m).cur = none → exec (.sweepLine m) s = .next s) ∧
  (∀ r k line st u, (s.sweep m).cur = some (r, k) → line = s.rd (imeP m) MI_SWPTR.V →
    st = (s.page (pageNo m (line / 64))).st →
    u = (if st = .invalid then s else ((if (s.seeLine m line (1 + s.rd (imeP m + r * 16) MI_RCFG.KEY)).2 then
        (s.countLine m line).count (imeP m) MI_SWPSN.V else s.countLine m line).putLine m line (1 + k)
          (s.seeLine m line (1 + s.rd (imeP m + r * 16) MI_RCFG.KEY)).1 (s.seeLine m line (1 + s.rd (imeP m + r * 16) MI_RCFG.KEY)).2)) →
    (st = .filling ∨ s.lineWaits m line = true → exec (.sweepLine m) s = .next s) ∧
    (st ≠ .filling → s.lineWaits m line = false →
      (line < u.rd (imeP m + r * 16) MI_RLIM.V * 64 + 63 → exec (.sweepLine m) s = .next (u.wr (imeP m) MI_SWPTR.V (line + 1))) ∧
      (u.rd (imeP m + r * 16) MI_RLIM.V * 64 + 63 ≤ line → exec (.sweepLine m) s =
        .next ((u.wr (imeP m) MI_SWPTR.V (line + 1)).sweepEnd m r k)))) ∧
  (∀ k : Fin 16, (s.on (imeP m + k * 4) MI_KINFO.RETIRE_PENDING = true → s.keyInFlight m k = false →
      exec (.slotRetire m k) s = .next (s.zeroise m k)) ∧
    (s.on (imeP m + k * 4) MI_KINFO.RETIRE_PENDING = false ∨ s.keyInFlight m k = true → exec (.slotRetire m k) s = .next s))

/-- Configuration loads (R281 to R301). START begins a load from its source, or is refused; CONT goes on with the next part; while the CFG clock
changes both are held; CANCEL, a second in WAIT_MORE, a lost die and a failed signature end the load with its regions EMPTY; ACK releases a valid result;
records are taken one by one; a passed signature releases the regions, over several dies when their counts reach a tick at least 2 µs ahead; a relay offer
is answered; boot loads start, fall back to the other slot and then to the recovery flash, which strap RECEN = 0 rules out; the frame check counts, repairs
from the Sett copy, and gives up after three rewrites.
Completion is stated of: cfeStart, cfeCont, cfeCancel, cfeAck, cfePartReadDone, cfeWaitTimeout, cfeFrameRecord, cfeSignatureDone, cfeReleaseTick,
cfeRelayOffer, bootLoadStart, bootFallback, recoveryFlashLoad, frameCheckRead, frameRepair, cfeChkClr, relayAnswer. -/
def Obligations.ConfigLoads : Prop :=
  ∀ (s : State) (d : Fin 4),
  (s.answers .cfe d 0 = false → (∀ fl, exec (.cfeStart d fl) s = .next s) ∧ exec (.cfeCont d) s = .next s ∧
    exec (.cfeCancel d) s = .next s ∧ exec (.cfeAck d) s = .next s ∧ (∀ v, exec (.cfeChkClr d v) s = .next s) ∧
    (∀ u, exec (.frameCheckRead d u) s = .next s)) ∧
  (s.answers .cfe d 0 = true → s.cfgSwitching d = true →
    (∀ fl, exec (.cfeStart d fl) s = .next (s.setCfe d { s.cfe d with held := (s.cfe d).held ++ [.start fl] })) ∧
    exec (.cfeCont d) s = .next (s.setCfe d { s.cfe d with held := (s.cfe d).held ++ [.cont] })) ∧
  (s.answers .cfe d 0 = true → s.cfgSwitching d = false →
    (∀ fl src, src = s.rd (cfeB d) CFE_SRC.KIND →
      (s.cfeState d ≠ cfeIDLE ∨ s.on (cfeB d) CFE_RES.ACKD = false ∨ src = 0 ∨ 5 ≤ src ∨ (src = srcFLASH ∧ d ≠ 0) →
        Gives (.cfeStart d fl) s s [CFE_STAT.REJ.is (cfeB d) 1]) ∧
      (s.cfeState d = cfeIDLE → s.on (cfeB d) CFE_RES.ACKD = true → 1 ≤ src → src ≤ 4 → (src = srcFLASH → d = 0) →
        exec (.cfeStart d fl) s = .next (s.cfeBegin d src (s.cfeSource d src).1 (s.cfeSource d src).2 false fl))) ∧
    (s.cfeState d ≠ cfeWAIT → Gives (.cfeCont d) s s [CFE_STAT.REJ.is (cfeB d) 1]) ∧
    (s.cfeState d = cfeWAIT → ∀ u, u = s.setCfe d { s.cfe d with at_ := (s.cfeSource d srcMEM).1, left := (s.cfeSource d srcMEM).2 } →
      ((s.cfe d).img = [] → exec (.cfeCont d) s = .next ((u.wr (cfeB d) CFE_STAT.STATE cfeHEADER).cfeHeader d [])) ∧
      ((s.cfe d).img ≠ [] → exec (.cfeCont d) s = .next (u.wr (cfeB d) CFE_STAT.STATE cfeFRAMES)))) ∧
  (s.answers .cfe d 0 = true →
    (s.cfeState d ≠ cfeIDLE → exec (.cfeCancel d) s = .next ((s.cfeFailAll d).cfeEnd d loadCANCELLED)) ∧
    (s.cfeState d = cfeIDLE → exec (.cfeCancel d) s = .next s) ∧
    (s.on (cfeB d) CFE_RES.VALID = true → Gives (.cfeAck d) s s [CFE_RES.ACKD.is (cfeB d) 1]) ∧
    (s.on (cfeB d) CFE_RES.VALID = false → exec (.cfeAck d) s = .next s) ∧
    (∀ c : Fin 4, Gives (.cfeChkClr d (BitVec.ofNat 32 (2 ^ c.val))) s s [((if c = 0 then CFE_CHK_UPSET.V else if c = 1 then
      CFE_CHK_REPAIR.V else if c = 2 then CFE_CHK_HARD.V else CFE_CHK_NOCOPY.V) : Fld).is (cfeB d) 0]) ∧
    (∀ up, s.on (cfeB d) CFE_CFG.FCHK_EN = false ∨ (s.chk d).repair.isSome = true → exec (.frameCheckRead d up) s = .next s) ∧
    (∀ up, s.on (cfeB d) CFE_CFG.FCHK_EN = true → (s.chk d).repair = none →
      (s.chkNext d (s.chk d).next = none → (s.chk d).next = 0 → exec (.frameCheckRead d up) s = .next s) ∧
      (s.chkNext d (s.chk d).next = none → (s.chk d).next ≠ 0 → Gives (.frameCheckRead d up) s (s.setChk d {})
        [CFE_CHK_TIME.V.is (cfeB d) ((s.now - (s.chk d).start) / 4000), CFE_CHK_STAT.RUN.is (cfeB d) 0,
         CFE_CHK_STAT.SWEEPS.is (cfeB d) (satAdd CFE_CHK_STAT.SWEEPS.width (s.rd (cfeB d) CFE_CHK_STAT.SWEEPS) 1)]) ∧
      (∀ k no u x, s.chkNext d (s.chk d).next = some k → no = d.val * 131072 + k →
        u = (s.wr (cfeB d) CFE_CHK_STAT.RUN 1).setUpset no (s.upset no ^^^ up.toNat) →
        x = { s.chk d with next := k + 1, start := if (s.chk d).next = 0 then s.now else (s.chk d).start } →
        (u.frameMismatch no = false → exec (.frameCheckRead d up) s = .next (u.setChk d x)) ∧
        (u.frameMismatch no = true → ((u.chkUpset d no).region (no / 2048)).slot.isSome = true → exec (.frameCheckRead d up) s =
          .next ((u.chkUpset d no).setChk d { x with repair := some (no, 1) })) ∧
        (u.frameMismatch no = true → ((u.chkUpset d no).region (no / 2048)).slot = none → ∀ v,
          v = ((u.chkUpset d no).count (cfeB d) CFE_CHK_NOCOPY.V).setChk d x → exec (.frameCheckRead d up) s =
            .next (if v.on (cfeB d) CFE_CFG.NOCOPY_FENCE then (v.wr (frB (no / 2048)) FR_CTL.FENCE 1).fenceRefresh (no / 2048) else v))))) ∧
  (∀ again errs, (s.chk d).repair = none → exec (.frameRepair d again errs) s = .next s) ∧
  (∀ again errs no n, (s.chk d).repair = some (no, n) →
    (s.regionState (no / 2048) ≠ frLOADED ∨ (s.region (no / 2048)).slot = none →
      exec (.frameRepair d again errs) s = .next (s.setChk d { s.chk d with repair := none })) ∧
    (∀ k r v, s.regionState (no / 2048) = frLOADED → (s.region (no / 2048)).slot = some k → r = (s.settMeets d errs).settFrame k no → v = r.2 →
      (r.1 = none → exec (.frameRepair d again errs) s = .next ((v.setChk d { s.chk d with repair := none }).chkHard d no)) ∧
      (∀ content u, r.1 = some content →
        u = ((v.frameWrite no content).setUpset no again.toNat).count (cfeB d) CFE_CHK_REPAIR.V →
        (u.frameMismatch no = false → exec (.frameRepair d again errs) s = .next (u.setChk d { s.chk d with repair := none })) ∧
        (u.frameMismatch no = true → n < 2 → exec (.frameRepair d again errs) s =
          .next ((u.chkUpset d no).setChk d { s.chk d with repair := some (no, n + 1) })) ∧
        (u.frameMismatch no = true → 2 ≤ n → exec (.frameRepair d again errs) s =
          .next (((u.chkUpset d no).setChk d { s.chk d with repair := none }).chkHard d no))))) ∧
  ((s.cfe d).src = srcMEM → (s.cfe d).left = 0 → ∀ u, u = s.setCfe d { s.cfe d with since := s.now } →
    (s.cfeState d = cfeHEADER → (s.cfe d).buf.length < 256 → Gives (.cfePartReadDone d) s u [CFE_STAT.STATE.is (cfeB d) cfeWAIT]) ∧
    (s.cfeState d = cfeFRAMES → (s.cfe d).buf.length < 1072 → Gives (.cfePartReadDone d) s u [CFE_STAT.STATE.is (cfeB d) cfeWAIT])) ∧
  (s.cfeState d = cfeWAIT ∨ s.relayStarved d = true → (s.cfe d).since + 4000000000 ≤ s.now →
    exec (.cfeWaitTimeout d) s = .next ((s.cfeFailAll d).cfeEnd d loadSOURCE)) ∧
  ((s.cfeState d ≠ cfeWAIT ∧ s.relayStarved d = false) ∨ s.now < (s.cfe d).since + 4000000000 →
    exec (.cfeWaitTimeout d) s = .next s) ∧
  (∀ fl, (s.cfeState d = cfeFRAMES → exec (.cfeFrameRecord d fl) s = .next (s.cfeRecord d fl)) ∧
    (s.cfeState d ≠ cfeFRAMES → exec (.cfeFrameRecord d fl) s = .next s)) ∧
  (s.cfeState d ≠ cfeVERIFY → exec (.cfeSignatureDone d) s = .next s) ∧
  (s.cfeState d = cfeVERIFY → ((s.cfe d).dies.any fun e => !s.reachable d e) = true →
    exec (.cfeSignatureDone d) s = .next ((s.cfeFailAll d).cfeEnd d loadSOURCE)) ∧
  (s.cfeState d = cfeVERIFY → ((s.cfe d).dies.any fun e => !s.reachable d e) = false →
    (s.signatureOk (s.cfe d).img = false → exec (.cfeSignatureDone d) s = .next ((s.cfeFailAll d).cfeEnd d loadSIGFAIL)) ∧
    (s.signatureOk (s.cfe d).img = true → (s.cfe d).dies.length ≤ 1 → exec (.cfeSignatureDone d) s = .next (s.cfeRelease d)) ∧
    (s.signatureOk (s.cfe d).img = true → 1 < (s.cfe d).dies.length → Leads (.cfeSignatureDone d) s fun t =>
      t.cfeState d = cfeRELEASE ∧ ∃ k, (t.cfe d).release = some k ∧ s.tick d + 8000 ≤ k)) ∧
  (s.cfeState d = cfeRELEASE → ((s.cfe d).dies.any fun e => !s.reachable d e) = true →
    exec (.cfeReleaseTick d) s = .next ((s.cfeFailAll d).cfeEnd d loadSOURCE)) ∧
  (s.cfeState d = cfeRELEASE → ((s.cfe d).dies.any fun e => !s.reachable d e) = false → ∀ k, (s.cfe d).release = some k →
    ((∀ e ∈ (s.cfe d).dies, k ≤ s.tick e) → exec (.cfeReleaseTick d) s = .next (s.cfeRelease d)) ∧
    (∀ e ∈ (s.cfe d).dies, s.tick e < k → exec (.cfeReleaseTick d) s = .next s)) ∧
  (s.cfeState d ≠ cfeRELEASE → exec (.cfeReleaseTick d) s = .next s) ∧
  (∀ port : Fin 24, (s.on (cfeB d) CFE_CFG.RELAY_EN = false ∨ s.on (dctlB 0) DCTL_DEVNUM.LOCKED = false ∨ s.answers .cfe d 0 = false →
      exec (.cfeRelayOffer d port) s = .next (s.relayAnswer port 1 2)) ∧
    (s.on (cfeB d) CFE_CFG.RELAY_EN = true → s.on (dctlB 0) DCTL_DEVNUM.LOCKED = true → s.answers .cfe d 0 = true →
      (s.cfgSwitching d = true → exec (.cfeRelayOffer d port) s =
        .next (s.setCfe d { s.cfe d with held := (s.cfe d).held ++ [.offer port] })) ∧
      (s.cfgSwitching d = false → s.cfeState d ≠ cfeIDLE ∨ s.on (cfeB d) CFE_RES.ACKD = false → exec (.cfeRelayOffer d port) s = .next (s.relayAnswer port 1 1)) ∧
      (s.cfgSwitching d = false → s.cfeState d = cfeIDLE → s.on (cfeB d) CFE_RES.ACKD = true → exec (.cfeRelayOffer d port) s =
        .next ((s.relayAnswer port 1 0).cfeBegin d srcRELAY 0 0 false [] (some port.val))))) ∧
  (s.por = true ∨ s.boot d ≠ .none ∨ s.ready d rdyOWL = false ∨ s.cfeState d ≠ cfeIDLE ∨ s.on (cfeB d) CFE_RES.ACKD = false →
    exec (.bootLoadStart d) s = .next s) ∧
  (s.por = false → s.boot d = .none → s.ready d rdyOWL = true → s.cfeState d = cfeIDLE →
    s.on (cfeB d) CFE_RES.ACKD = true → ∀ u, u = s.setReady d rdyCFE true →
    (u.slotState d 0 0 = 0 → u.slotState d 0 1 = 0 → exec (.bootLoadStart d) s = .next ((u.setReady d rdyIMG true).setBoot d .ended)) ∧
    (u.slotState d 0 0 ≠ 0 ∨ u.slotState d 0 1 ≠ 0 →
      (∀ k, u.bootSlot d = some k → exec (.bootLoadStart d) s = .next ((u.setBoot d .first).cfeBegin d (k + 1) (imageSlot d k) 0 true [])) ∧
      (u.bootSlot d = none → exec (.bootLoadStart d) s = .next (u.setBoot d .first)))) ∧
  (s.por = true ∨ s.cfeState d ≠ cfeIDLE → exec (.bootFallback d) s = .next s) ∧
  (s.por = false → s.cfeState d = cfeIDLE →
    (s.boot d = .none ∨ s.boot d = .ended → exec (.bootFallback d) s = .next s) ∧
    (s.boot d = .other → exec (.bootFallback d) s = .next ((s.cfeAck d).setBoot d .flash)) ∧
    (∀ k, s.boot d = .first → (s.bootSlot d = some (1 - k) ∧ k < 2 ∨
        s.bootSlot d = none ∧ ([0, 1].find? fun k => slotUsable (s.slotState d 0 k)) = some k) →
      (slotUsable (s.slotState d 0 k) = true → exec (.bootFallback d) s =
        .next (((s.cfeAck d).setBoot d .other).cfeBegin d (k + 1) (imageSlot d k) 0 true [])) ∧
      (slotUsable (s.slotState d 0 k) = false → exec (.bootFallback d) s = .next ((s.cfeAck d).setBoot d .flash))) ∧
    (s.boot d = .flash →
      (s.on (svpB 0) SVP_STRAP.RECEN = false ∨ (s.cfeState 0 = cfeIDLE ∧ s.rd (cfeB 0) CFE_RES.SRC = srcFLASH ∧
        s.rd (cfeB 0) CFE_RES.STATUS ≠ loadDONE) →
        exec (.bootFallback d) s = .next (((s.setFail d rdyIMG).setBoot d .ended).raise d 19 none d)) ∧
      (s.on (svpB 0) SVP_STRAP.RECEN = true → s.cfeState 0 ≠ cfeIDLE ∨ s.rd (cfeB 0) CFE_RES.SRC ≠ srcFLASH ∨
        s.rd (cfeB 0) CFE_RES.STATUS = loadDONE → exec (.bootFallback d) s = .next s))) ∧
  (∀ fl b, b = (s.on (cfeB 0) CFE_RES.ACKD && s.on (svpB 0) SVP_STRAP.RECEN && (List.range 4).any fun d => decide (s.boot d = .flash)) →
    (s.por = false → s.cfeState 0 = cfeIDLE → b = true → exec (.recoveryFlashLoad fl) s =
      .next ((s.setMode 3).cfeBegin 0 srcFLASH 0 0 true fl)) ∧
    (s.por = true ∨ s.cfeState 0 ≠ cfeIDLE ∨ b = false → exec (.recoveryFlashLoad fl) s = .next s))

/-- Field update by command (R314 to R327). A command on a free LD0 takes the next number and does its work; KIND 3 is discarded with RSVW; elsewhere, or while
Sett is busy, it sets REJ. STAGE and RELAY write a slot; a written copy that passes its checks is VALID, else FAILED; ACTIVATE makes the new slots
TRIAL; CONFIRM makes them ACTIVE, and without an open trial ends STATE; a trial that starts too often, or whose window closes, falls back.
Completion is stated of: stage, relay, activate, confirm, recwrite, keyinst, inval, stcAck, stageComplete, trialStart, confirmWindowExpire. -/
def Obligations.FieldUpdate : Prop :=
  ∀ (s : State) (d kind : Fin 4) (u : State), u = s.stcBegin kind false →
  (s.answers .stc d 0 = false → ∀ c ∈ [Instr.stage d kind, .relay d kind, .recwrite d kind, .keyinst d kind, .inval d kind,
    .activate d kind, .confirm d kind, .stcAck d], exec c s = .next s) ∧
  (s.answers .stc d 0 = true →
    (∀ c ∈ [Instr.stage d kind, .relay d kind, .recwrite d kind, .keyinst d kind, .inval d kind, .activate d kind, .confirm d kind],
      (kind = 3 → Gives c s s [BLK_STAT.RSVW.is (stcB d) 1]) ∧
      (kind ≠ 3 → d ≠ 0 ∨ s.stcFree = false → Gives c s s [STC_STAT.REJ.is (stcB d) 1])) ∧
    (kind ≠ 3 → d = 0 → s.stcFree = true →
      exec (.stage d kind) s = .next (u.stcStage kind false) ∧ exec (.relay d kind) s = .next (u.stcStage kind true) ∧
      exec (.recwrite d kind) s = .next u.stcRecwrite ∧ exec (.keyinst d kind) s = .next u.stcKeyinst ∧
      exec (.inval d kind) s = .next (u.stcInval kind) ∧ exec (.activate d kind) s = .next (u.stcActivate kind) ∧
      exec (.confirm d kind) s = .next (u.stcConfirm kind) ∧
      (s.trialOpen kind = false → Gives (.confirm d kind) s { s with stc := none }
        [STC_STAT.BUSY.is (stcB 0) 0, STC_RES.VALID.is (stcB 0) 1, STC_RES.DETAIL.is (stcB 0) 0, STC_RES.STATUS.is (stcB 0) stcSTATE,
         STC_RES.SRC.is (stcB 0) 0, STC_RES.KIND.is (stcB 0) kind, STC_RES.ACKD.is (stcB 0) 0,
         STC_SEQ.SEQ.is (stcB 0) (s.rd (stcB 0) STC_SEQ.SEQ + 1)])) ∧
    (d = 0 → s.on (stcB 0) STC_RES.VALID = true → Gives (.stcAck d) s s [STC_RES.ACKD.is (stcB 0) 1]) ∧
    (d ≠ 0 ∨ s.on (stcB 0) STC_RES.VALID = false → exec (.stcAck d) s = .next s)) ∧
  (s.stc = none → exec .stageComplete s = .next s) ∧
  (∀ k r, s.stc = some k → k.op = 1 ∨ k.op = 2 → s.cmdWritten = true →
    r = s.each k.dies (fun d s => s.settRead d (settSlotAddr d k.kind k.slot - settAddr d) k.img.length) →
    (∀ st, ((k.dies.map fun d => s.storedCheck k d).find? (· != 0)) = some st →
      exec .stageComplete s = .next ((r.each k.dies fun d s => s.setSlot d k.kind k.slot 6).stcEnd st 0)) ∧
    (((k.dies.map fun d => s.storedCheck k d).find? (· != 0)) = none → ∀ v w info,
      info = (⟨leAt k.img 0x18 2, leAt k.img 0x1A 2, if k.kind = 1 then leAt k.img 0x74 2 else 0⟩ : SlotInfo) →
      v = r.each k.dies (fun d s => (s.setSlot d k.kind k.slot 2).setSett d { (s.setSlot d k.kind k.slot 2).sett d with
        slots := KV.set {} (k.kind * 2 + k.slot) info ((s.setSlot d k.kind k.slot 2).sett d).slots }) →
      w = ((v.wr (stcB 0) STC_RELAY_RES.SENT 0).wr (stcB 0) STC_RELAY_RES.REFUSED 0).stcEnd stcDONE 0 →
      (k.op = 1 → exec .stageComplete s = .next (v.stcEnd stcDONE 0)) ∧
      (k.op = 2 → exec .stageComplete s = .next { w with relayOut := relayChildren k.list w.devnum }))) ∧
  (∀ k, s.stc = some k → s.cmdWritten = false → exec .stageComplete s = .next s) ∧
  (∀ (kd : Fin 3) errs t r v, t = s.rd (stcB 0) (triesFld kd) → r = s.each errs (fun e s => s.settMeets e.1 [e.2]) → v = r.trialRead kd →
    (s.trialOpen kd = false → exec (.trialStart kd errs) s = .next s) ∧
    (s.trialOpen kd = true → t = 3 → exec (.trialStart kd errs) s = .next (s.fallback kd)) ∧
    (s.trialOpen kd = true → t ≠ 3 → (∃ d, d < 4 ∧ r.trialGood d kd = false) → exec (.trialStart kd errs) s = .next (v.fallback kd)) ∧
    (s.trialOpen kd = true → t ≠ 3 → (∀ d, d < 4 → r.trialGood d kd = true) →
      ((v.setTries kd (t + 1)).opened kd = 0 → exec (.trialStart kd errs) s =
        .next (((v.setTries kd (t + 1)).setOpened kd ((v.setTries kd (t + 1)).now + 1)).wr (stcB 0) STC_CONF.LEFT 600)) ∧
      ((v.setTries kd (t + 1)).opened kd ≠ 0 → exec (.trialStart kd errs) s = .next (v.setTries kd (t + 1)))) ∧
    (∀ k, s.opened kd = k + 1 → k + 600 * 4000000000 ≤ s.now → exec (.confirmWindowExpire kd) s = .next (s.fallback kd)) ∧
    (s.opened kd = 0 → exec (.confirmWindowExpire kd) s = .next s) ∧
    (∀ k, s.opened kd = k + 1 → s.now < k + 600 * 4000000000 → exec (.confirmWindowExpire kd) s = .next s))

/-- Sett blocks, records and relay (R305 to R312, R317 to R319, R422). A pass whose comparison agrees stores the block and moves the map; one that differs is
repeated up to 8 times, then takes a spare, or without one fails the command. A scan adds what is due, and the first block due is rewritten. The Owl
appends settings, repair and lane records. Relay offers leave one by one, are answered, and their answers counted.
Completion is stated of: repairRecordWrite, settBlockWriteDone, relayForward, settRelayOffer, relayAnswer, retentionScan, retentionRewrite,
owlSettingsWrite, laneRecordWrite. -/
def Obligations.SettStore : Prop :=
  ∀ (s : State) (d : Fin 4),
  (∀ same, (s.sett d).cur = none → exec (.settBlockWriteDone d same) s = .next s) ∧
  (∀ c p ps u, (s.sett d).cur = some c → c.parts = p :: ps → u = s.settPass d →
    (∀ x v w, x = u.sett d →
      v = ((u.setSett d { x with
        map := KV.set p.blk p.blk x.transfer x.map
        transfer := x.phys p.blk
        wrote := KV.set 0 p.blk x.hours x.wrote
        lineErr := KV.dropRange (p.blk * 1024) (p.blk * 1024 + 1024) x.lineErr
        due := x.due.filter (· != p.blk)
        cur := if ps = [] then none else some { c with parts := ps, tries := 0 } }).putBytes
          (settAddr d + p.blk * 0x10000 + p.off) p.data).count (stcB d + c.tries * 4) STC_HIST.V →
      w = (if ps = [] then v.settStored d c else v) →
      exec (.settBlockWriteDone d true) s = .next ((w.settKick d).settRefresh d)) ∧
    (c.tries < 8 → exec (.settBlockWriteDone d false) s = .next (u.setSett d { u.sett d with cur := some { c with tries := c.tries + 1 } })) ∧
    (8 ≤ c.tries → (∀ t ts, (u.sett d).spares = t :: ts → exec (.settBlockWriteDone d false) s =
        .next (((u.setSett d { u.sett d with transfer := t, spares := ts, cur := some { c with tries := 0 } }).raise d 25 none d).settSpares d)) ∧
      ((u.sett d).spares = [] → exec (.settBlockWriteDone d false) s =
        .next ((((u.setSett d { u.sett d with cur := none }).settFailed d c.req).settKick d).settRefresh d)))) ∧
  (∀ c same, (s.sett d).cur = some c → c.parts = [] → exec (.settBlockWriteDone d same) s = .next s) ∧
  (∀ h found, s.ready d rdySETT = false → exec (.retentionScan d h found) s = .next s) ∧
  (∀ h found u, s.ready d rdySETT = true → u = ((s.setSett d { s.sett d with
      lineErr := found.errs.foldl (fun m e => KV.set 0 e.1.val e.2 m) (s.sett d).lineErr }).settRead d 0 0x8000000) →
    exec (.retentionScan d h found) s = .next ((u.setSett d { u.sett d with
      hours := (u.sett d).hours + h
      due := ((u.sett d).due ++ found.weak.map (·.val) ++ (List.range 2048).filter fun b => refreshAge (KV.get 0 ((u.sett d).phys b)
        (u.sett d).writes) ≤ (u.sett d).hours + h - KV.get 0 b (u.sett d).wrote).eraseDups }).settRefresh d)) ∧
  ((s.sett d).due = [] → exec (.retentionRewrite d) s = .next s) ∧
  (∀ b bs, (s.sett d).due = b :: bs →
    (.refresh b ∈ (s.sett d).queue → exec (.retentionRewrite d) s = .next s) ∧
    (.refresh b ∉ (s.sett d).queue → exec (.retentionRewrite d) s =
      .next (((s.setSett d { s.sett d with due := bs }).settAsk d (.refresh b)).settRefresh d))) ∧
  (∀ (t k : BitVec 16) data, s.owlRuns d = true → 1 ≤ t.toNat → t.toNat < 0x8000 → 1 ≤ data.length → data.length ≤ 65504 →
    exec (.owlSettingsWrite d t k data) s = .next (s.settAsk d (.record ⟨t.toNat, k.toNat, s.owlFgen d, 0, data⟩ false))) ∧
  (∀ t k data, s.owlRuns d = false → exec (.owlSettingsWrite d t k data) s = .next s ∧ exec (.repairRecordWrite d) s = .next s) ∧
  (∀ regions, regions = (List.range 64).map (fun n => d.val * 64 + n) → s.owlRuns d = true →
    ((regions.any fun r => (s.region r).recDue) = true → exec (.repairRecordWrite d) s =
      .next ((s.each regions fun r s => s.setRegion r { s.region r with recDue := false }).owlRecord d 0x0301 0 (regions.map fun r =>
        if s.on (frB r) FR_STAT.SPARE_USED && s.on (frB r) FR_STAT.MAPSRC then BitVec.ofNat 8 (0x80 + s.rd (frB r) FR_STAT.BADCOL)
        else (0 : Byte)))) ∧
    ((regions.any fun r => (s.region r).recDue) = false → exec (.repairRecordWrite d) s = .next s)) ∧
  (s.laneRecDue.contains d.val = false → exec (.laneRecordWrite d) s = .next s) ∧
  (∀ b o dirs, b = (d.val + 1) % 4 → o = min d.val b → dirs = (if d.val < b then [(b, 1), (d.val, 0)] else [(d.val, 0), (b, 1)]) →
    s.laneRecDue.contains d.val = true →
    (s.owlRuns o = false → exec (.laneRecordWrite d) s = .next s) ∧
    (s.owlRuns o = true → exec (.laneRecordWrite d) s = .next (({ s with laneRecDue := s.laneRecDue.filter (· != d.val) } : State).owlRecord
      o 0x0401 d (dirs.flatMap fun (p : Nat × Nat) => (List.range 21).flatMap fun n => leBytes 2 ((List.range 11).foldl (fun m l =>
        if s.role p.1 p.2 n l = roleRETIRED then m + 2 ^ l else m) 0))))) ∧
  (s.relayOut = [] → exec .relayForward s = .next s) ∧
  (4 ≤ (s.sett 0).offers → exec .relayForward s = .next s) ∧
  (∀ c cs, s.relayOut = c :: cs → (s.sett 0).offers < 4 →
    (∀ p, s.routePort c = some p → exec .relayForward s = .next ((({ s with relayOut := cs } : State).setSett 0
      { s.sett 0 with offers := (s.sett 0).offers + 1 }).relayAnswer p 2 c)) ∧
    (s.routePort c = none → Gives .relayForward s { s with relayOut := cs }
      [STC_RELAY_RES.REFUSED.is (stcB 0) (satAdd STC_RELAY_RES.REFUSED.width (s.rd (stcB 0) STC_RELAY_RES.REFUSED) 1)])) ∧
  ((s.sett 0).offers = 0 → ∀ a, exec (.relayAnswer a) s = .next s) ∧
  (∀ n, (s.sett 0).offers = n + 1 → ∀ u, u = s.setSett 0 { s.sett 0 with offers := n } →
    Gives (.relayAnswer true) s u [STC_RELAY_RES.SENT.is (stcB 0) (satAdd STC_RELAY_RES.SENT.width (s.rd (stcB 0) STC_RELAY_RES.SENT) 1)] ∧
    Gives (.relayAnswer false) s u
      [STC_RELAY_RES.REFUSED.is (stcB 0) (satAdd STC_RELAY_RES.REFUSED.width (s.rd (stcB 0) STC_RELAY_RES.REFUSED) 1)]) ∧
  (∀ (port : Fin 24) len img list u, img = (s.relayBuf port).take len → list = (s.relayBuf port).drop len → u = s.setRelayBuf port [] →
    (s.on (stcB 0) STC_CFG.RELAY_EN = false ∨ s.on (dctlB 0) DCTL_DEVNUM.LOCKED = false →
      exec (.settRelayOffer port len) s = .next (u.relayAnswer port 0 2)) ∧
    (s.on (stcB 0) STC_CFG.RELAY_EN = true → s.on (dctlB 0) DCTL_DEVNUM.LOCKED = true →
      (s.stcFree = false → exec (.settRelayOffer port len) s = .next (u.relayAnswer port 0 1)) ∧
      (s.stcFree = true → relayIndex list s.devnum = none → exec (.settRelayOffer port len) s = .next (u.relayAnswer port 0 3)) ∧
      (s.stcFree = true → relayIndex list s.devnum ≠ none →
        (leAt img 0x0E 2 % 2 = 1 → leAt img 0x10 8 ≠ Config.unitSerial.toNat →
          exec (.settRelayOffer port len) s = .next (u.relayAnswer port 0 4)) ∧
        (¬(leAt img 0x0E 2 % 2 = 1 ∧ leAt img 0x10 8 ≠ Config.unitSerial.toNat) → ∀ kd v,
          kd = (if leAt img 0 4 = 0x4D495847 then 0 else if hdrKind img = 0x10 then 1 else 2) →
          v = ((u.relayAnswer port 0 0).stcBegin kd true).settStage kd img list true →
          (v.stc = none → exec (.settRelayOffer port len) s = .next v) ∧
          (∀ k, v.stc = some k → exec (.settRelayOffer port len) s = .next { v with stc := some { k with relayed := true } })))))

/-- A SAC executes one instruction (R338, R345 to R354, R389): the command whose opcode stands at the pc runs its meaning and the pipeline around it; a command of
another opcode changes nothing, nor does any where the core does not run, where an iteration end, an interrupt or a halt comes first; an opcode that
no command has raises UNDEF. An exception outside a handler saves the pc and the cause, and continues at 0x0004; one
inside a handler stops the core; in a delay slot or a repetition it is a NOP with its sticky bit.
Completion is stated of: sacReservedOpcode. -/
def Obligations.SacIssue : Prop :=
  ∀ (s : State) (c : Fin 64) (op : Nat) (i : Instr) (f : SacFn), SacCommand c op i f →
  (∀ w, SacAt s c w →
    (bits w 26 6 = op → exec i s = .next (State.sacAfter c ((s.sacFetch c).sac c) (f (s.sacFetch c) c w))) ∧
    (bits w 26 6 ≠ op → exec i s = .next s) ∧
    ((∀ e ∈ sacMeanings, e.1 ≠ bits w 26 6) → exec (.sacReservedOpcode c) s =
      .next (((s.sacFetch c).sacExcept c cUNDEF 0).sacStepEnd c)) ∧
    ((∃ e ∈ sacMeanings, e.1 = bits w 26 6) → exec (.sacReservedOpcode c) s = .next s)) ∧
  (s.sacClocked c = false ∨ s.sacState c ≠ sacRUN ∨ ((s.sac c).lact = true ∧ (s.sac c).pc = (s.sac c).past) ∨
    ((s.sac c).atPoint = true ∧ ((s.sac c).takeable = true ∨ (s.sac c).haltReq = true)) →
      exec i s = .next s ∧ exec (.sacReservedOpcode c) s = .next s) ∧
  (∀ cause word t, t = s.sacExcept c cause word → cause < 16 → word < 32768 → (s.sac c).pc < 8192 →
    t.rd (sacB c) SAC_EXC.ADDR = (s.sac c).pc ∧
    ((s.sac c).inUnit = false → t.rd (sacB c) SAC_EXC.CAUSE = cause ∧
      ((s.sac c).exc = false → (t.sac c).pc = 4 ∧ (t.sac c).epc = (s.sac c).pc ∧ (t.sac c).exc = true ∧ (t.sac c).gie = false ∧
        (t.sac c).lact = false ∧ (t.sac c).ecause % 65536 = cause ∧ t.sacState c = s.sacState c) ∧
      ((s.sac c).exc = true → t.sacState c = sacDFAULT ∧ (t.sac c).pc = (s.sac c).pc)) ∧
    ((s.sac c).inUnit = true → t.sacState c = s.sacState c ∧ (t.sac c).exc = (s.sac c).exc ∧
      bitAt (t.sac c).sticky (if cause = cPLOAD ∨ cause = cPFETCH then stDPSN else stDILL) = true))

/-- What the SAC's computing instructions leave (R332 to R345, R364). In straight-line code, with legal fields: the destination register, the accumulator halves,
the flags, the pointer, the special register or the data word that the instruction names, and the pc moved by one; a load reaches its register two
instructions later, an accumulator move one later; reserved bits raise RSVD.
Completion is stated of: sacBlke, sacCmac, sacCmul, sacDmac, sacRmac, sacRmul, sacCpwr, sacAccl, sacClra, sacMva, sacMvap, sacCadd, sacCsub, sacCaddh,
sacCsubh, sacCxfm, sacCmin, sacCmax, sacCsha, sacCand, sacCor, sacCxor, sacCcmp, sacLir, sacLii, sacLdd, sacStd, sacLd8, sacPset, sacMvs, sacMsv. -/
def Obligations.SacResults : Prop :=
  ∀ (s : State) (c : Fin 64) (w : Nat) (x : SacX), SacAt s c w → x = s.sac c → x.inUnit = false → x.lact = false → x.stepping = false →
  ∀ op d a b aux, op = bits w 26 6 → d = fRD w → a = x.reg (fRA w) → b = x.reg (fRB w) → aux = fAUX w →
  (∀ (e : Nat × Instr × (Int → Int → Int)), e ∈ ([(0x20, .sacCadd c, fun p q => p + q), (0x21, .sacCsub c, fun p q => p - q),
      (0x22, .sacCaddh c, fun p q => (p + q + 1) / 2), (0x23, .sacCsubh c, fun p q => (p - q + 1) / 2),
      (0x25, .sacCmin c, fun p q => if p ≤ q then p else q), (0x26, .sacCmax c, fun p q => if p ≤ q then q else p)] : List _) →
    op = e.1 → aux = 0 → w % 8 = 0 → Leads e.2.1 s fun t => (t.sac c).pc = (x.pc + 1) % 8192 ∧
      (t.sac c).reg d = cplx (satI 16 (e.2.2 (re a) (re b))) (satI 16 (e.2.2 (im a) (im b))) ∧ (t.sac c).acc = x.acc ∧
      (t.sac c).ptrs = x.ptrs ∧ (t.sac c).flags = x.flags) ∧
  (∀ (e : Nat × Instr × (Nat → Nat → Nat)), e ∈ ([(0x28, .sacCand c, fun p q => p &&& q), (0x29, .sacCor c, fun p q => p ||| q),
      (0x2A, .sacCxor c, fun p q => p ^^^ q)] : List _) → op = e.1 → aux = 0 → w % 8 = 0 → Leads e.2.1 s fun t =>
      (t.sac c).pc = (x.pc + 1) % 8192 ∧ (t.sac c).reg d = e.2.2 a b % 2 ^ 32 ∧ (t.sac c).acc = x.acc) ∧
  (op = 0x24 → aux ≤ 5 → fRB w = 0 → w % 8 = 0 → Leads (.sacCxfm c) s fun t => (t.sac c).reg d = xform aux a 0 % 2 ^ 32) ∧
  (op = 0x27 → aux ≠ 16 → fRB w = 0 → w % 8 = 0 → Leads (.sacCsha c) s fun t =>
    (t.sac c).reg d = cplx (shiftHalf (sgn 5 aux) (re a)) (shiftHalf (sgn 5 aux) (im a))) ∧
  (op = 0x2B → aux = 0 → d = 0 → w % 8 = 0 → Leads (.sacCcmp c) s fun t => (bitAt (t.sac c).flags 0 = true ↔ re a < re b) ∧
    (bitAt (t.sac c).flags 1 = true ↔ im a < im b) ∧ (bitAt (t.sac c).flags 2 = true ↔ re a = re b) ∧
    (bitAt (t.sac c).flags 3 = true ↔ im a = im b)) ∧
  (∀ k cm p q, k = bits w 24 2 → cm = bits w 22 2 → p = x.reg (bits w 16 6) → q = x.reg (bits w 10 6) → w % 1024 = 0 →
    (op = 0x10 → Leads (.sacCmac c) s fun t => (t.sac c).half k 0 = satI 40 (x.half k 0 + (cprod cm p q).1) ∧
      (t.sac c).half k 1 = satI 40 (x.half k 1 + (cprod cm p q).2) ∧ (t.sac c).accOld = x.acc) ∧
    (op = 0x11 → Leads (.sacCmul c) s fun t => (t.sac c).half k 0 = satI 40 (cprod cm p q).1 ∧ (t.sac c).half k 1 = satI 40 (cprod cm p q).2) ∧
    (op = 0x12 → k % 2 = 0 → Leads (.sacDmac c) s fun t => (t.sac c).half k 0 = satI 40 (x.half k 0 + (cprod cm p q).1) ∧
      (t.sac c).half (k + 1) 0 = satI 40 (x.half (k + 1) 0 - (cprod cm p q).1) ∧
      (t.sac c).half (k + 1) 1 = satI 40 (x.half (k + 1) 1 - (cprod cm p q).2)) ∧
    (op = 0x13 → cm % 2 = 0 → Leads (.sacRmac c) s fun t => (t.sac c).half k 0 = satI 40 (x.half k 0 + rsign cm * (re p * re q)) ∧
      (t.sac c).half k 1 = satI 40 (x.half k 1 + rsign cm * (im p * im q))) ∧
    (op = 0x14 → cm % 2 = 0 → Leads (.sacRmul c) s fun t => (t.sac c).half k 0 = satI 40 (rsign cm * (re p * re q)) ∧
      (t.sac c).half k 1 = satI 40 (rsign cm * (im p * im q))) ∧
    (op = 0x15 → cm = 0 → bits w 10 6 = 0 → Leads (.sacCpwr c) s fun t =>
      (t.sac c).half k 0 = satI 40 (x.half k 0 + (re p * re p + im p * im p)) ∧
      (t.sac c).half k 1 = satI 40 (x.half k 1 + (re q * re q + im q * im q))) ∧
    (op = 0x16 → cm = 0 → bits w 10 6 = 0 → Leads (.sacAccl c) s fun t => (t.sac c).half k 0 = re p * 32768 ∧ (t.sac c).half k 1 = im p * 32768)) ∧
  (∀ (y : SacX) (k : Nat) (r m : Int), (y.setAcc k r m).half k 0 = max (-2 ^ 39) (min r (2 ^ 39 - 1)) ∧
    (y.setAcc k r m).half k 1 = max (-2 ^ 39) (min m (2 ^ 39 - 1)) ∧
    (bitAt (y.setAcc k r m).sticky stAOV = true ↔ bitAt y.sticky stAOV = true ∨ r < -2 ^ 39 ∨ 2 ^ 39 ≤ r ∨ m < -2 ^ 39 ∨ 2 ^ 39 ≤ m)) ∧
  (op = 0x17 → w % 2 ^ 22 = 0 → Leads (.sacClra c) s fun t => ∀ k < 4, bitAt w (22 + k) = true →
    (t.sac c).half k 0 = 0 ∧ (t.sac c).half k 1 = 0) ∧
  (∀ v : Nat → Nat, (∀ k, v k = cplx (satI 16 (x.scaled (KV.get 0 (2 * k) x.accOld))) (satI 16 (x.scaled (KV.get 0 (2 * k + 1) x.accOld)))) →
    (op = 0x18 → w % 2 ^ 18 = 0 → Leads (.sacMva c) s fun t => ⟨x.phys d, v (bits w 18 2), 3, 1⟩ ∈ (t.sac c).pend ∧
      (bitAt (t.sac c).sticky stSOV = true ↔ bitAt x.sticky stSOV = true ∨ ∃ j < 2, ∃ h : Int,
        h = x.scaled (KV.get 0 (2 * bits w 18 2 + j) x.accOld) ∧ (h < -32768 ∨ 32767 < h))) ∧
    (op = 0x19 → w % 2 ^ 19 = 0 → d % 32 ≠ 31 → Leads (.sacMvap c) s fun t =>
      ⟨x.phys d, v (2 * bits w 19 1), 3, 1⟩ ∈ (t.sac c).pend ∧ ⟨x.phys (d + 1), v (2 * bits w 19 1 + 1), 3, 1⟩ ∈ (t.sac c).pend)) ∧
  (∀ (h : Int) (n : Nat), n = (15 + x.shift).toNat → 1 ≤ n → x.scaled h = (h + 2 ^ (n - 1)) / 2 ^ n ∧
    (x.shift = 0 → x.scaled (h * 32768) = h)) ∧
  (op = 0x0A → w % 2 ^ 26 = 0 → Leads (.sacBlke c) s fun t => (t.sac c).esum = satI 16 (x.esum + x.shift) ∧ (t.sac c).big = 0 ∧
    (t.sac c).shift = (if x.auto then x.bed else x.shift)) ∧
  (op = 0x30 → bits w 16 4 = 0 → Leads (.sacLir c) s fun t => (t.sac c).reg d % 65536 = w % 65536) ∧
  (op = 0x31 → bits w 16 4 = 0 → Leads (.sacLii c) s fun t => bits ((t.sac c).reg d) 16 16 = w % 65536) ∧
  (∀ p q : Nat, p = bits w 11 3 → q = (x.ptr p).p → bits w 9 2 = 1 → w % 512 = 0 → fRA w = 0 →
    (op = 0x32 → ∀ v, (s.sacFetch c).sacSee c q = (v, false) → Leads (.sacLdd c) s fun t =>
      ⟨x.phys d, v, 3, 2⟩ ∈ (t.sac c).pend ∧ (t.sac c).ptrs = x.ptrs) ∧
    (op = 0x33 → Leads (.sacStd c) s fun t => ∀ m, t.byte m = ((s.sacFetch c).writeChip (sacWord c q) 4 (x.reg d)).byte m)) ∧
  (∀ p q v : Nat, p = bits w 17 3 → q = (x.ptr p).p → bits w 15 2 = 1 → w % 2 ^ 13 = 0 → (s.sacFetch c).sacSee c q = (v, false) → op = 0x34 →
    Leads (.sacLd8 c) s fun t => ⟨x.phys d, cplx (occupancy (bits w 13 1) (bits v (16 * bits w 14 1) 8))
      (occupancy (bits w 13 1) (bits v (16 * bits w 14 1 + 8) 8)), 3, 2⟩ ∈ (t.sac c).pend) ∧
  (∀ p v : Nat, p = bits w 23 3 → v = w % 65536 → op = 0x35 → bits w 16 4 = 0 →
    (bits w 20 3 = 0 → v < 32768 → Leads (.sacPset c) s fun t => (t.sac c).ptr p = { x.ptr p with p := v }) ∧
    (bits w 20 3 = 1 → Leads (.sacPset c) s fun t => (t.sac c).ptr p = { x.ptr p with ps := v }) ∧
    (bits w 20 3 = 2 → v < 32768 → Leads (.sacPset c) s fun t => (t.sac c).ptr p = { x.ptr p with pb := v }) ∧
    (bits w 20 3 = 3 → 0 < v → v ≤ 32768 → Leads (.sacPset c) s fun t => (t.sac c).ptr p = { x.ptr p with pl := v }) ∧
    (bits w 20 3 = 4 → bits v 2 2 = 0 → v < 256 → v % 4 ≠ 3 → Leads (.sacPset c) s fun t => (t.sac c).ptr p = { x.ptr p with cfg := v })) ∧
  (∀ n, n = bits w 15 5 → w % 2 ^ 15 = 0 → (n < 11 ∨ 15 < n) →
    (op = 0x36 → Leads (.sacMvs c) s fun t => (t.sac c).reg d = s.sacSR c x n % 2 ^ 32) ∧
    (op = 0x37 → ∀ v, v = x.reg d →
      (n = 1 → Leads (.sacMsv c) s fun t => (t.sac c).rrb = v % 32) ∧ (n = 2 → Leads (.sacMsv c) s fun t => (t.sac c).lc = v % 2 ^ 16) ∧
      (n = 3 → Leads (.sacMsv c) s fun t => (t.sac c).flags = v % 16) ∧ (n = 4 → Leads (.sacMsv c) s fun t => (t.sac c).epc = v % 2 ^ 13) ∧
      (n = 7 → Leads (.sacMsv c) s fun t => (t.sac c).ien = v % 16 ∧ (t.sac c).gie = bitAt v 31) ∧
      (16 ≤ n → n < 24 → Leads (.sacMsv c) s fun t => (t.sac c).ptr (n - 16) = { x.ptr (n - 16) with p := v % 2 ^ 15 }) ∧
      (24 ≤ n → Leads (.sacMsv c) s fun t => (t.sac c).ptr (n - 24) = { x.ptr (n - 24) with ps := v % 2 ^ 16 }))) ∧
  (op = 0x20 → aux ≠ 0 ∨ w % 8 ≠ 0 → exec (.sacCadd c) s = .next (((s.sacFetch c).sacExcept c cRSVD 0).sacStepEnd c))

/-- Control flow, events and control of a SAC (R328, R348 to R363): a branch takes effect behind its two delay slots; CALL and RET use the return stack of eight;
RETI leaves the handler; RPT and LOOP set up their counts; an iteration end counts; HALT and WAIT stop the core; XGO starts a transfer, SEVT sends an
event; a takeable interrupt enters at 0x0008; the host's commands reset, release, halt, start and acknowledge.
Completion is stated of: sacNop, sacHalt, sacWait, sacB, sacBc, sacCall, sacRet, sacReti, sacRpt, sacLoop, sacLoopEnd, sacXgo, sacSevt,
sacInterruptEntry, sacRstWrite, sacDbell, sacHaltreq, sacStart, sacXcancel, sacXack, sacCntClr. -/
def Obligations.SacControl : Prop :=
  ∀ (s : State) (c : Fin 64) (x : SacX), x = s.sac c →
  (∀ w, SacAt s c w → x.inUnit = false → x.lact = false → x.stepping = false → ∀ op target, op = bits w 26 6 → target = bits w 13 13 →
    (op = 0x00 → w % 2 ^ 26 = 0 → Leads (.sacNop c) s fun t => (t.sac c).pc = (x.pc + 1) % 8192 ∧ (t.sac c).acc = x.acc ∧
      (t.sac c).ptrs = x.ptrs ∧ (t.sac c).flags = x.flags ∧ t.sacState c = sacRUN) ∧
    (op = 0x01 → w % 2 ^ 26 = 0 → Leads (.sacHalt c) s fun t => t.sacState c = sacHALTED ∧ (t.sac c).pc = (x.pc + 1) % 8192) ∧
    (op = 0x02 → w % 2 ^ 26 = 0 → Leads (.sacWait c) s fun t => (t.sac c).point = true ∧
      t.sacState c = (if x.ipend &&& x.ien = 0 then sacWAIT else sacRUN)) ∧
    (op = 0x03 → w % 2 ^ 13 = 0 → Leads (.sacB c) s fun t => (t.sac c).slots = some (2, target) ∧ (t.sac c).pc = (x.pc + 1) % 8192) ∧
    (op = 0x04 → w % 512 = 0 → bits w 9 4 ≠ 15 → Leads (.sacBc c) s fun t => (t.sac c).pc = (x.pc + 1) % 8192 ∧
      (t.sac c).slots = some (2, if x.cond (bits w 9 4) then target else (x.pc + 3) % 8192)) ∧
    (op = 0x05 → w % 2 ^ 13 = 0 → x.stack.length < 8 → Leads (.sacCall c) s fun t => (t.sac c).slots = some (2, target) ∧
      (t.sac c).stack = (x.pc + 3) % 8192 :: x.stack) ∧
    (op = 0x05 → w % 2 ^ 13 = 0 → 8 ≤ x.stack.length → exec (.sacCall c) s = .next (((s.sacFetch c).sacExcept c cSTACK 0).sacStepEnd c)) ∧
    (op = 0x06 → w % 2 ^ 26 = 0 → ∀ r rest, x.stack = r :: rest → Leads (.sacRet c) s fun t => (t.sac c).slots = some (2, r) ∧
      (t.sac c).stack = rest) ∧
    (op = 0x06 → w % 2 ^ 26 = 0 → x.stack = [] → exec (.sacRet c) s = .next (((s.sacFetch c).sacExcept c cSTACK 0).sacStepEnd c)) ∧
    (op = 0x07 → w % 2 ^ 26 = 0 → Leads (.sacReti c) s fun t => (t.sac c).pc = x.epc ∧ (t.sac c).exc = false ∧ (t.sac c).gie = true ∧
      (t.sac c).lc = x.shadow.lc ∧ (t.sac c).first = x.shadow.first ∧ (t.sac c).past = x.shadow.past ∧ (t.sac c).lact = x.shadow.lact ∧
      (t.sac c).rrb = x.shadow.rrb) ∧
    (∀ n, n = (if bits w 16 1 = 1 then x.lc else w % 65536) → op = 0x08 → bits w 17 9 = 0 → (bits w 16 1 = 1 ↔ w % 65536 = 0) →
      (n ≠ 0 → Leads (.sacRpt c) s fun t => (t.sac c).rpt = some n ∧ (t.sac c).pc = (x.pc + 1) % 8192) ∧
      (n = 0 → Leads (.sacRpt c) s fun t => (t.sac c).rpt = none ∧ (t.sac c).pc = (x.pc + 2) % 8192)) ∧
    (∀ n len, n = (if bits w 13 1 = 1 then x.lc else w % 2 ^ 13) → len = bits w 14 12 + 1 → op = 0x09 → len ≠ 1 →
      (bits w 13 1 = 1 ↔ w % 2 ^ 13 = 0) →
      (n ≠ 0 → Leads (.sacLoop c) s fun t => (t.sac c).lc = n ∧ (t.sac c).lact = true ∧ (t.sac c).first = (x.pc + 1) % 8192 ∧
        (t.sac c).past = (x.pc + 1 + len) % 8192 ∧ (t.sac c).pc = (x.pc + 1) % 8192) ∧
      (n = 0 → Leads (.sacLoop c) s fun t => (t.sac c).lc = 0 ∧ (t.sac c).lact = false ∧ (t.sac c).rrb = x.rrb ∧ (t.sac c).pc = (x.pc + 1 + len) % 8192)) ∧
    (∀ ch, ch = bits w 25 1 → op = 0x0B → w % 2 ^ 22 = 0 →
      (KV.get 0 ch x.xst = xBUSY → Leads (.sacXgo c) s fun t => bitAt (t.sac c).sticky stXREJ = true) ∧
      (KV.get 0 ch x.xst ≠ xBUSY → (∀ k, k < 4 → ((s.sacFetch c).sacSee c (((x.ptr (bits w 22 3)).p + k) % 32768)).2 = false) →
        Leads (.sacXgo c) s fun t => KV.get 0 ch (t.sac c).xst = xBUSY ∧ t.rd (xresB c ch) SAC_XRES.STATUS = xBUSY ∧
          t.rd (xresB c ch) SAC_XRES.VALID = 0)) ∧
    (op = 0x0C → w % 2 ^ 18 = 0 → Leads (.sacSevt c) s fun t => t.rd (sacB c) SAC_EVOUT.CODE = bits w 18 8 ∧
      t.rd (ihB (s.rd (sacB c) SAC_CFG.SP) + (16 + c) * 4) IH_EVT.CODE = bits w 18 8)) ∧
  (∀ (y y' : SacX) (k target : Nat), y.rpt = none → y.slots = some (k, target) →
    (2 ≤ k → (y.next y').slots = some (k - 1, target) ∧ (y.next y').pc = (y.pc + 1) % 8192) ∧
    (k ≤ 1 → (y.next y').slots = none ∧ (y.next y').pc = target ∧
      (y'.lact = true → y'.inBody target = false → (y.next y').lact = false ∧ (y.next y').lc = 0) ∧
      (y'.inBody target = true → (y.next y').lact = y'.lact ∧ (y.next y').lc = y'.lc))) ∧
  (∀ (y y' : SacX) (n : Nat), y.rpt = some n → (n ≤ 1 → (y.next y').rpt = none ∧ (y.next y').pc = (y.pc + 1) % 8192) ∧
    (2 ≤ n → (y.next y').rpt = some (n - 1) ∧ (y.next y').pc = y'.pc)) ∧
  (s.sacClocked c = true → (s.sacState c = sacRUN ∨ s.sacState c = sacWAIT ∨ s.sacState c = sacHALTED) → x.lact = true → x.pc = x.past →
    x.skip = false → x.lc < 2 ^ 16 → x.first < 8192 → x.past < 8192 → Leads (.sacLoopEnd c) s fun t =>
      (t.sac c).lc = (if x.lc = 0 then 65535 else x.lc - 1) ∧ (t.sac c).rrb = (x.rrb + 31) % 32 ∧
      (t.sac c).pc = (if x.lc = 1 then x.past else x.first) ∧ (t.sac c).lact = decide (x.lc ≠ 1)) ∧
  (x.lact = false ∨ x.pc ≠ x.past → exec (.sacLoopEnd c) s = .next s) ∧
  (s.sacClocked c = true → (s.sacState c = sacRUN ∨ s.sacState c = sacWAIT) → x.atPoint = true → x.takeable = true → ∀ lat : BitVec 32,
    Leads (.sacInterruptEntry c lat) s fun t => (t.sac c).pc = 8 ∧ (t.sac c).epc = x.pc ∧ (t.sac c).exc = true ∧ (t.sac c).gie = false ∧
      (t.sac c).lact = false ∧ (t.sac c).shadow = ⟨x.lc, x.first, x.past, x.lact, x.rrb⟩ ∧ t.sacState c = sacRUN) ∧
  (x.atPoint = false ∨ x.takeable = false → ∀ lat, exec (.sacInterruptEntry c lat) s = .next s) ∧
  (s.answers .sac (c / 16) (c % 16) = false → ∀ v ch k, exec (.sacRstWrite c v) s = .next s ∧ exec (.sacDbell c) s = .next s ∧
    exec (.sacHaltreq c) s = .next s ∧ exec (.sacStart c) s = .next s ∧ exec (.sacXcancel c ch) s = .next s ∧
    exec (.sacXack c ch) s = .next s ∧ exec (.sacCntClr c k) s = .next s) ∧
  (s.answers .sac (c / 16) (c % 16) = true →
    (Leads (.sacRstWrite c true) s fun t => t.on (sacB c) SAC_CTL.RST = true ∧ t.sacState c = sacRESET ∧
      ∀ ch < 2, KV.get 0 ch (t.sac c).xst ≠ xBUSY) ∧
    (s.on (sacB c) SAC_CTL.RST = true → s.on (sacB c) SAC_CFG.ASSIGNED = false → Leads (.sacRstWrite c false) s fun t =>
      t.on (sacB c) SAC_CTL.RST = false ∧ t.sacState c = (if s.haltOnReset (c / 16) then sacHALTED else sacRUN) ∧ (t.sac c).pc = 0 ∧
      (t.sac c).regs = [] ∧ (t.sac c).acc = [] ∧ (t.sac c).pend = []) ∧
    (Leads (.sacDbell c) s fun t => bitAt (t.sac c).ipend 1 = true) ∧
    ((s.sacState c = sacRUN ∨ s.sacState c = sacWAIT) → exec (.sacHaltreq c) s = .next (s.setSac c { x with haltReq := true })) ∧
    (s.sacState c = sacHALTED → Leads (.sacStart c) s fun t => t.sacState c = sacRUN ∧ (t.sac c).pc = x.pc) ∧
    (s.sacState c ≠ sacHALTED → exec (.sacStart c) s = .next s) ∧
    (∀ ch : Fin 2,
      (KV.get 0 ch x.xst = xBUSY → Leads (.sacXcancel c ch) s fun t => t.rd (xresB c ch) SAC_XRES.STATUS = xCANCELLED ∧
        t.on (xresB c ch) SAC_XRES.VALID = true ∧ KV.get 0 ch (t.sac c).xst = xCANCELLED ∧ bitAt (t.sac c).ipend (2 + ch) = true) ∧
      (KV.get 0 ch x.xst ≠ xBUSY → exec (.sacXcancel c ch) s = .next s) ∧
      (s.on (xresB c ch) SAC_XRES.VALID = true → Gives (.sacXack c ch) s s [SAC_XRES.ACKD.is (xresB c ch) 1]) ∧
      (s.on (xresB c ch) SAC_XRES.VALID = false → exec (.sacXack c ch) s = .next s)) ∧
    Gives (.sacCntClr c 1) s s [SAC_ILAT_MAX.V.is (sacB c) 0] ∧ Gives (.sacCntClr c 2) s s [SAC_CNT_STALL.V.is (sacB c) 0] ∧
    Gives (.sacCntClr c 3) s s [SAC_CNT_STALL.V.is (sacB c) 0, SAC_ILAT_MAX.V.is (sacB c) 0])

/-- The RISC-V cores (R366 to R376, R387 to R390, R507). One turn of a core does nothing where it does not execute, ends a requested halt, waits in WFI for an
enabled interrupt, takes an interrupt, or executes the word at its pc; words of the integer group leave their result and the next pc; the custom CSRs act in
M-mode on the service pins through SVPMASK, on the core's terminal, and on the data cache's line; below M-mode they are illegal; DDIN reads DEN_DIN in debug
mode alone.
Completion is stated of: spInstruction, owlInstruction, svpset, svpclr, svptgl, svpout, svpin, dterm, dtx, drxRead, drxRelease, dcclean, dcflush,
dcinv, ddin. -/
def Obligations.ProcessorTurns : Prop :=
  ∀ (s : State),
  (∀ (c : Nat) (r : Rsp) (i : Instr), (∃ n : Fin 16, c = n.val ∧ i = .spInstruction n r) ∨
      (∃ d : Fin 4, c = 16 + d.val ∧ r = .ack ∧ i = .owlInstruction d) →
    (s.executing c = false → exec i s = .next s) ∧
    (s.executing c = true → (s.hart c).haltReq = true → Leads i s fun t => (t.hart c).halted = true ∧ (t.hart c).pc = (s.hart c).pc) ∧
    (s.executing c = true → (s.hart c).haltReq = false →
      ((s.hart c).wfi = true → s.mip c &&& s.mie c = 0 → (s.hart c).nmi = false → exec i s = .next s) ∧
      ((s.hart c).wfi = false → (s.hart c).nmi = false →
        (∀ k, (s.hart c).stepping = false → s.interrupt c = some k → exec i s = .next (s.takeTrap c (s.hart c).pc k 0 true)) ∧
        ((s.hart c).stepping = true ∨ s.interrupt c = none → exec i s = .next (s.fetchRun c r))) ∧
      ((s.hart c).wfi = false → (s.hart c).nmi = true → Leads i s fun t => (t.hart c).nmi = false ∧ (t.hart c).priv = 3))) ∧
  (∀ (c : Fin 20) (r : Rsp) (rd rs1 rs2 imm : Nat), rd < 32 → rs1 < 32 → rs2 < 32 → imm < 2048 → (s.hart c).stepping = false →
    ∀ next, next = ((s.hart c).pc + 4) % 2 ^ xlen c →
    (∀ t, t = s.runRaw c (rvI imm rs1 0 rd 0x13) 4 r → (t.hart c).pc = next ∧
      (rd ≠ 0 → (t.hart c).x rd = ((s.hart c).x rs1 + imm) % 2 ^ xlen c) ∧ ∀ k, k ≠ rd → (t.hart c).x k = (s.hart c).x k) ∧
    (∀ t, t = s.runRaw c (rvR 0 rs2 rs1 0 rd 0x33) 4 r → (t.hart c).pc = next ∧
      (rd ≠ 0 → (t.hart c).x rd = ((s.hart c).x rs1 + (s.hart c).x rs2) % 2 ^ xlen c) ∧ ∀ k, k ≠ rd → (t.hart c).x k = (s.hart c).x k) ∧
    (∀ t, t = s.runRaw c (rvR 0 rs2 rs1 7 rd 0x33) 4 r → (t.hart c).pc = next ∧
      (rd ≠ 0 → (t.hart c).x rd = ((s.hart c).x rs1 &&& (s.hart c).x rs2) % 2 ^ xlen c) ∧ ∀ k, k ≠ rd → (t.hart c).x k = (s.hart c).x k) ∧
    (∀ t, t = s.runRaw c 0x73 4 r → (s.hart c).priv = 3 → (t.hart c).csr 0x342 = 11 ∧ (t.hart c).priv = 3 ∧
      (t.hart c).csr 0x341 = (s.hart c).pc / 2 * 2 % 2 ^ 64 ∧ (t.hart c).pc = (s.hart c).csr 0x305 / 4 * 4 % 2 ^ xlen c)) ∧
  (∀ (n : Fin 16) (core : Fin 20) (rd rs1 : Fin 32),
    (s.executing n = false ∨ (s.hart n).haltReq = true ∨ (s.hart n).wfi = true →
      exec (.svpset n rd rs1) s = .next s ∧ exec (.svpclr n rd rs1) s = .next s ∧ exec (.svptgl n rd rs1) s = .next s ∧
      exec (.svpout n rd) s = .next s ∧ exec (.svpin n rd) s = .next s ∧ exec (.dcclean n rd rs1) s = .next s ∧
      exec (.dcflush n rd rs1) s = .next s ∧ exec (.dcinv n rd rs1) s = .next s) ∧
    (s.executing core = false ∨ (s.hart core).haltReq = true ∨ (s.hart core).wfi = true →
      exec (.dterm core rd rs1) s = .next s ∧ exec (.dtx core rd rs1) s = .next s ∧ exec (.drxRead core rd) s = .next s ∧
      exec (.drxRelease core rd rs1) s = .next s) ∧
    (s.executing n = true → (s.hart n).haltReq = false → (s.hart n).wfi = false → (s.hart n).priv < 3 → ∀ u,
      u = s.setHart n { s.hart n with passCmp := false } →
      exec (.svpset n rd rs1) s = .next ((u.takeTrap n (s.hart n).pc 2 (if Config.trapValue then csrrw 0x7C0 rd rs1 else 0) false).afterStep n) ∧
      exec (.dcinv n rd rs1) s = .next ((u.takeTrap n (s.hart n).pc 2 (if Config.trapValue then csrrw 0x7CC rd rs1 else 0) false).afterStep n)) ∧
    (s.executing n = true → (s.hart n).haltReq = false → (s.hart n).wfi = false → (s.hart n).priv = 3 → (s.hart n).stepping = false →
      ∀ v m o l b, v = (s.hart n).x rs1 → m = v % 2 ^ 16 &&& (s.hart n).csr 0x7C5 → b = svpB (n.val / 4) → o = s.rd b SVP_OUT.OUT → l = v / 64 →
      (s.answers .svp (n / 4) 0 = true →
        (Leads (.svpset n rd rs1) s fun t => t.rd b SVP_OUT.OUT = (o ||| m) % 2 ^ 16 ∧ (t.hart n).pc = ((s.hart n).pc + 4) % 2 ^ 64 ∧
          (rd ≠ 0 → (t.hart n).x rd = 0)) ∧
        (Leads (.svpclr n rd rs1) s fun t => t.rd b SVP_OUT.OUT = (o - (o &&& m)) % 2 ^ 16) ∧
        (Leads (.svptgl n rd rs1) s fun t => t.rd b SVP_OUT.OUT = (o ^^^ m) % 2 ^ 16) ∧
        (rd ≠ 0 → Leads (.svpout n rd) s fun t => (t.hart n).x rd = o % 2 ^ 64 ∧ t.rd b SVP_OUT.OUT = o) ∧
        (rd ≠ 0 → Leads (.svpin n rd) s fun t => (t.hart n).x rd = (s.svp (n / 4)).raw % 2 ^ 64)) ∧
      (v < 2 ^ 40 →
        (Leads (.dcclean n rd rs1) s fun t => (t.sp n).dcache = ((s.cleanLine n l).sp n).dcache ∧ ∀ a, t.byte a = (s.cleanLine n l).byte a) ∧
        (Leads (.dcflush n rd rs1) s fun t => (t.sp n).dcache = KV.erase l ((s.cleanLine n l).sp n).dcache) ∧
        (Leads (.dcinv n rd rs1) s fun t => (t.sp n).dcache = KV.erase l (s.sp n).dcache ∧ ∀ a, t.byte a = s.byte a))) ∧
    (s.executing core = true → (s.hart core).haltReq = false → (s.hart core).wfi = false → (s.hart core).priv = 3 →
      (s.hart core).stepping = false → ∀ v, v = (s.hart core).x rs1 →
      ((s.hart core).dtx = none → Leads (.dtx core rd rs1) s fun t => (t.hart core).dtx = some (v % 2 ^ 32) ∧
        (t.hart core).pc = ((s.hart core).pc + 4) % 2 ^ xlen core) ∧
      (∀ old, (s.hart core).dtx = some old → Leads (.dtx core rd rs1) s fun t => (t.hart core).dtx = some old ∧ (t.hart core).dtxOvf = true) ∧
      (Leads (.dterm core rd rs1) s fun t => (t.hart core).dtxOvf = ((s.hart core).dtxOvf && !bitAt v 2) ∧
        (rd ≠ 0 → (t.hart core).x rd = (s.hart core).dtxOvf.toNat * 4 + (s.hart core).dtx.isSome.toNat * 2 + (s.hart core).drx.isSome.toNat)) ∧
      (rd ≠ 0 → Leads (.drxRead core rd) s fun t => (t.hart core).x rd = (s.hart core).drx.getD 0 % 2 ^ xlen core ∧
        (t.hart core).drx = (s.hart core).drx) ∧
      (Leads (.drxRelease core rd rs1) s fun t => (t.hart core).drx = none)) ∧
    ((s.sp n).halted = true → rd ≠ 0 → Leads (.ddin n rd) s fun t => (t.sp n).pc = (s.sp n).pc ∧
      (t.hart n).x rd = s.rd2 (denB (n / 4)) DEN_DIN_LO.V DEN_DIN_HI.V % 2 ^ 64) ∧
    ((s.sp n).halted = false → s.executing n = true → (s.hart n).haltReq = false → (s.hart n).wfi = false → exec (.ddin n rd) s =
      .next (((s.setHart n { s.hart n with passCmp := false }).takeTrap n (s.hart n).pc 2
        (if Config.trapValue then csrr 0x7B8 rd else 0) false).afterStep n)))

/-- Processor boot, supervision, interrupts and locks (R371 to R383). A verified Owl firmware fills the RAM and starts the Owl; a running Owl releases
its SPs with their firmware where that passes its checks, copies the rest to DRAM, is granted boost, records telemetry, and restarts with source 96 when
its watchdog has run for 1 s;
SP_CTL resets or releases an SP; SP_SWI sets hub lines; MTIP follows the timer. A read of a free lock by an owner takes it; its owner's write
releases it; another's sets NOTOWN.
Completion is stated of: mtimecmpMatch, spSwi, spRstWrite, spBootRelease, spXcopy, owlFirmwareVerified, owlBoostGrant, owlWdogWrite,
owlWatchdogExpire, telemetrySample, lockRead, lockRelease. -/
def Obligations.Supervision : Prop :=
  ∀ (s : State) (d : Fin 4) (n : Fin 16),
  (∀ k, s.por = true ∨ s.ready d rdyOWL = true → exec (.owlFirmwareVerified d k) s = .next s) ∧
  (∀ (k : Fin 2) u, s.por = false → s.ready d rdyOWL = false → u = s.fillChip (owlAddr d) ((s.slotBody d 1 k).take 1048320) →
    exec (.owlFirmwareVerified d k) s = .next (((u.setOwl d { u.owl d with pc := 0, booted := true }).setReady d rdyOWL true).setWdog d
      (u.now + 1))) ∧
  (s.owlRuns d = false → exec (.spBootRelease d) s = .next s ∧ exec (.spXcopy d) s = .next s ∧ exec (.owlBoostGrant d) s = .next s ∧
    exec (.owlWatchdogExpire d) s = .next s ∧ ∀ r k l, exec (.telemetrySample d r k l) s = .next s) ∧
  (s.owlRuns d = true →
    (∀ body, body = (match s.usedSlot d 2 with
        | some k => (s.slotBody d 2 k).take 786432
        | none => []) →
      s.spFirmwareGood d = true → exec (.spBootRelease d) s = .next (((s.each (List.range 4) fun n s => s.fillChip (tcmAddr (d * 4 + n)) body).each (List.range 4)
        fun n s => if s.on (spB (d * 4 + n)) SP_CFG.AUTOBOOT then s.spRelease (d * 4 + n) else s).setReady d rdySP true)) ∧
    (s.spFirmwareGood d = false → exec (.spBootRelease d) s = .next (s.setFail d rdySP)) ∧
    (s.ready d (rdyMP 0) = true → s.ready d (rdyMP 1) = true → s.usedSlot d 2 = none →
      Gives (.spXcopy d) s s [SP_STAT.XREADY.is (spB (d * 4 + 3)) 1, SP_STAT.XREADY.is (spB (d * 4 + 2)) 1,
        SP_STAT.XREADY.is (spB (d * 4 + 1)) 1, SP_STAT.XREADY.is (spB (d * 4)) 1]) ∧
    (∀ k, s.ready d (rdyMP 0) = true → s.ready d (rdyMP 1) = true → s.usedSlot d 2 = some k → (s.slotBody d 2 k).drop 786432 ≠ [] →
      exec (.spXcopy d) s = .next (s.each (List.range 4) fun n s => (s.storeBytes ⟨.owl d, true, none⟩
        (s.rd2 (spB (d * 4 + n)) SP_XBASE_LO.V SP_XBASE_HI.V) ((s.slotBody d 2 k).drop 786432) false).2.wr (spB (d * 4 + n))
          SP_STAT.XREADY 1)) ∧
    exec (.owlBoostGrant d) s = .next (s.setBoost d true) ∧
    (s.wdog d - 1 + 4000000000 ≤ s.now → exec (.owlWatchdogExpire d) s = .next (((s.setBoost d false).owlRestart d).raise d 96 none d)) ∧
    (s.now < s.wdog d - 1 + 4000000000 → exec (.owlWatchdogExpire d) s = .next s) ∧
    (∀ (r : BitVec 2048) k late u v, u = s.each (List.range 64) (fun i s => s.wr (dctlB d + 4 * i) OWL_TLM.V (bits r.toNat (32 * i) 32)) →
      v = (if late then u.count (dctlB d) OWL_TLM_LATE.V else u) →
      ((v.ready d (rdyMP 0) && v.ready d (rdyMP 1)) = true → exec (.telemetrySample d r k late) s =
        .next (v.storeBytes ⟨.owl d, true, none⟩ (v.rd2 (dctlB d) OWL_TLM_BASE_LO.V OWL_TLM_BASE_HI.V + 256 * k.toNat)
          (leBytes 256 r.toNat) false).2) ∧
      ((v.ready d (rdyMP 0) && v.ready d (rdyMP 1)) = false → exec (.telemetrySample d r k late) s = .next v))) ∧
  (s.answers .dctl d 0 = true → exec (.owlWdogWrite d) s = .next (s.setWdog d (s.now + 1))) ∧
  (s.answers .spc (n / 4) 0 = true →
    exec (.spRstWrite n true) s = .next (s.spReset n) ∧ exec (.spRstWrite n false) s = .next (s.spRelease n) ∧
    (∀ v, exec (.spSwi n v) s = .next (s.each (List.range 4) fun i s => if bitAt v.toNat i then s.hubPend n (92 + i) true else s))) ∧
  (s.answers .spc (n / 4) 0 = false → (∀ v, exec (.spRstWrite n v) s = .next s) ∧ ∀ v, exec (.spSwi n v) s = .next s) ∧
  Leads (.mtimecmpMatch n) s (fun t => bitAt (KV.get 0 csrMIP (t.sp n).csrs) 7 = decide (s.mtimecmp n ≤ s.mtime n) ∧
    t = { s with sps := t.sps }) ∧
  (∀ (l : Fin 64) (who : Ini), s.answers .lck d 0 = true →
    (s.lockOwner d l = 0 → s.ownerOf who ≠ 0 → Gives (.lockRead d l who) s s [LCK.OWNER.is (lckN d l) (s.ownerOf who)]) ∧
    (s.lockOwner d l ≠ 0 ∨ s.ownerOf who = 0 → exec (.lockRead d l who) s = .next s) ∧
    (s.lockOwner d l ≠ 0 → s.lockOwner d l = s.ownerOf who → Gives (.lockRelease d l who) s s
      [LCK.ORPHAN.is (lckN d l) 0, LCK.OWNER.is (lckN d l) 0]) ∧
    (s.lockOwner d l = 0 ∨ s.lockOwner d l ≠ s.ownerOf who → Gives (.lockRelease d l who) s s [LCK_STAT.NOTOWN.is (lckB d) 1])) ∧
  (∀ (l : Fin 64) (who : Ini), s.answers .lck d 0 = false →
    exec (.lockRead d l who) s = .next s ∧ exec (.lockRelease d l who) s = .next s)

/-- Den's claim and its commands to cores (R384, R385, R387 to R391). TAKE gives a free claim to the path that asks, to the TAP when both do, and raises
source 100; a held claim stays; DROP by its holder frees it. A command by a path without the claim only sets NOCLAIM. The selected core halts,
resumes, steps, is fed a word, and exchanges words with its terminal; a PSQ accepts none, which sets FREJ. The bus master starts one access and
completes it with its status. A core asked to halt halts at its boundary.
Completion is stated of: coreHalted, denPowerOn, trstN, denTake, denDrop, denHalt, denResume, denStep, dfeed, dtxack, denDrxWrite, denBmGo, denBmDone. -/
def Obligations.DenCommands : Prop :=
  ∀ (s : State) (d : Fin 4) (tap : Bool),
  (s.on (denB d) DEN_CLAIM.HELD = true → ∀ p, exec (.denTake d tap p) s = .next s) ∧
  (s.on (denB d) DEN_CLAIM.HELD = false →
    (∀ u, u = ((s.wr (denB d) DEN_CLAIM.HELD 1).wr (denB d) DEN_CLAIM.BYTAP 1).raise d 100 none d →
      exec (.denTake d true false) s = .next u) ∧
    (s.answers .den d 0 = true → exec (.denTake d false true) s =
      .next (((s.wr (denB d) DEN_CLAIM.HELD 1).wr (denB d) DEN_CLAIM.BYTAP 0).raise d 100 none d)) ∧
    (s.answers .den d 0 = false → exec (.denTake d false true) s = .next s) ∧
    exec (.denTake d false false) s = .next s) ∧
  (s.denHolds d tap = true → (tap = false → s.answers .den d 0 = true) → Gives (.denDrop d tap) s s
    [DEN_CLAIM.BYTAP.is (denB d) 0, DEN_CLAIM.HELD.is (denB d) 0]) ∧
  (s.denHolds d tap = false → exec (.denDrop d tap) s = .next s) ∧
  exec (.denPowerOn d) s = .next ((s.denReset d).orphanOwner ownerDen) ∧
  exec .trstN s = .next { ((s.each (List.range 4) fun d s => s.denReset d).orphanOwner ownerDen) with tap := { up := true } } ∧
  (∀ c word r v sz w, c ∈ [Instr.denHalt d tap, .denResume d tap, .denStep d tap, .dfeed d tap word r, .dtxack d tap,
      .denDrxWrite d tap v, .denBmGo d tap sz w] →
    (s.denHolds d tap = false → (tap = false → s.answers .den d 0 = true) → Gives c s s [DEN_STAT.NOCLAIM.is (denB d) 1]) ∧
    (tap = false → s.answers .den d 0 = false → exec c s = .next s)) ∧
  (s.denHolds d tap = true → (tap = false → s.answers .den d 0 = true) →
    (s.selCore d < 96 →
      exec (.denHalt d tap) s = .next (s.askHalt (s.selCore d)) ∧
      exec (.denResume d tap) s = .next (s.coreResume (s.selCore d) false) ∧
      exec (.denStep d tap) s = .next (s.coreResume (s.selCore d) true) ∧
      (∀ word r, s.coreHalted (s.selCore d) = true → ∀ f u v, f = (if s.selCore d < 20 then s.feedHart (s.selCore d) word.toNat r
          else s.feedSac (s.selCore d - 32) word.toNat) →
        u = f.2 → v = ((u.seqUp (denB d) DEN_FRES.SEQ).wr (denB d) DEN_FRES.STATUS f.1.status).wr (denB d) DEN_FRES.CAUSE f.1.cause →
        (∀ x, f.1.dres = some x → exec (.dfeed d tap word r) s = .next (v.wr2 (denB d) DRES_LO.V DRES_HI.V x)) ∧
        (f.1.dres = none → exec (.dfeed d tap word r) s = .next v))) ∧
    (96 ≤ s.selCore d → ∀ word r, ∀ c ∈ [Instr.denHalt d tap, .denResume d tap, .denStep d tap, .dfeed d tap word r],
      Gives c s s [DEN_STAT.FREJ.is (denB d) 1]) ∧
    (∀ word r, s.coreHalted (s.selCore d) = false → Gives (.dfeed d tap word r) s s [DEN_STAT.FREJ.is (denB d) 1]) ∧
    exec (.dtxack d tap) s = .next (s.dtxAck (s.selCore d)) ∧
    (∀ v : BitVec 32, exec (.denDrxWrite d tap v) s = .next (s.drxSend (s.selCore d) v.toNat)) ∧
    (∀ sz w u, u = (s.wrb (denB d) DEN_BMCTL.SZ64 sz).wrb (denB d) DEN_BMCTL.WR w →
      (s.bmReq d ≠ none → exec (.denBmGo d tap sz w) s = .next (u.wr (denB d) DEN_STAT.FREJ 1)) ∧
      (s.bmReq d = none → Leads (.denBmGo d tap sz w) s fun t => (t.bmReq d).isSome = true ∧ t.rd (denB d) DEN_BMRES.STATUS = 0 ∧
        t.rd (denB d) DEN_BMRES.VALID = 0 ∧ t.rd (denB d) DEN_BMRES.SEQ = (s.rd (denB d) DEN_BMRES.SEQ + 1) % 2 ^ DEN_BMRES.SEQ.width ∧
        t.mem = s.mem))) ∧
  (∀ r, s.bmReq d = none → exec (.denBmDone d r) s = .next s) ∧
  (∀ r, s.bmReq d = some none → Gives (.denBmDone d r) s (s.setBmReq d none)
    [DEN_BMRES.VALID.is (denB d) 1, DEN_BMRES.STATUS.is (denB d) 2]) ∧
  (∀ r q x t, s.bmReq d = some (some q) → s.nocAccess q r = (x, t) →
    (∀ v p, x = .data v p → exec (.denBmDone d r) s = .next ((((t.wr2 (denB d) DEN_BMDATA_LO.V DEN_BMDATA_HI.V v).wr (denB d)
      DEN_BMRES.STATUS (if p = 0 then 1 else 3)).wr (denB d) DEN_BMRES.VALID 1).setBmReq d none)) ∧
    (x = .ack → exec (.denBmDone d r) s = .next (((t.wr (denB d) DEN_BMRES.STATUS 1).wr (denB d) DEN_BMRES.VALID 1).setBmReq d none)) ∧
    (x ≠ .ack → (∀ v p, x ≠ .data v p) → exec (.denBmDone d r) s = .next (((t.wr (denB d) DEN_BMRES.STATUS 2).wr (denB d)
      DEN_BMRES.VALID 1).setBmReq d none))) ∧
  (∀ core : Fin 96, exec (.coreHalted core) s = .next (s.haltDone core)) ∧
  (∀ core : Fin 16, (s.sp core).haltReq = true → (s.sp core).halted = false →
    Gives (.coreHalted ⟨core, by omega⟩) s (s.setSp core { s.sp core with halted := true, haltReq := false, stepping := false })
      [SP_STAT.STATE.is (spB core) spHALTED])

/-- The test access port (R51, R386). TDO is driven once a command has reached the port. Each instruction becomes the current one; EXTEST, SAMPLE/PRELOAD, EXTEST_PULSE and EXTEST_TRAIN take the sampled levels
and the boundary cells; IDCODE and DENSTAT shift out their words; a reserved code acts as BYPASS. Each DBGACC shifts out the status and data of the
one before: a read returns a Den word, a write takes effect as the TAP's, both end in ERROR where the die cannot be reached, OP 0 does nothing and a
reserved OP sets TAPERR.
Completion is stated of: extest, samplePreload, idcode, highz, clamp, extestPulse, extestTrain, dbgaccRead, dbgaccWrite, dbgaccNop, denstat, bypass. -/
def Obligations.TestPort : Prop :=
  ∀ (s : State) (levels cells : List Bool) (d : Fin 4),
  (∀ c k, (c, k) ∈ [(Instr.extest levels cells, 0x00), (.samplePreload levels cells, 0x01), (.extestPulse levels cells, 0x07),
      (.extestTrain levels cells, 0x08)] →
    exec c s = .next { s with tap := { s.tap with up := true, ir := k, sampled := levels, cells := cells } }) ∧
  exec .highz s = .next { s with tap := { s.tap with up := true, ir := 0x03 } } ∧
  exec .clamp s = .next { s with tap := { s.tap with up := true, ir := 0x04 } } ∧
  exec .idcode s = .next { s with tap := { s.tap with
    up := true
    ir := 0x02
    tdo := s.rd (dctlB 0) DCTL_STEP.MASKSET % 16 * 2 ^ 28 + 0x6A1C * 2 ^ 12 + Config.manufacturerCode.toNat * 2 + 1 } } ∧
  exec .denstat s = .next { s with tap := { s.tap with up := true, ir := 0x11, tdo := s.denStatWord 0 } } ∧
  (∀ code : BitVec 8, code.toNat ∉ [0x00, 0x01, 0x02, 0x03, 0x04, 0x07, 0x08, 0x10, 0x11] →
    exec (.bypass code) s = .next { s with tap := { s.tap with up := true, ir := code.toNat, tdo := 0 } }) ∧
  (∀ out, out = s.tap.status * 2 ^ 62 + s.tap.data →
    (∀ r, Leads (.dbgaccNop d r) s fun t => t.tap.ir = 0x10 ∧ t.tap.tdo = out ∧ t.tap.status = 0 ∧ t.tdoDrive = some out ∧
      (r = true → t.rd (denB d) DEN_STAT.TAPERR = 1) ∧ (r = false → ∀ b f, t.rd b f = s.rd b f)) ∧
    (∀ word : BitVec 10,
      (s.reachable 0 d = false → Leads (.dbgaccRead d word) s fun t => t.tap.tdo = out ∧ t.tap.status = 2 ∧ t.mem = s.mem) ∧
      (s.reachable 0 d = true → ∀ p v u, placeOf (denB d + 4 * word.toNat) = some p → s.placeRead (.den d) p = (v, u) →
        exec (.dbgaccRead d word) s = .next (u.dbgacc 0 v)) ∧
      (∀ v r u, u = s.drew.dbgacc (if s.reachable 0 d then 0 else 2) (s.free 32) →
        (s.reachable 0 d = true → exec (.dbgaccWrite d word v r) s = .next (u.topWrite (.den d) true r (denB d + 4 * word.toNat) v)) ∧
        (s.reachable 0 d = false → exec (.dbgaccWrite d word v r) s = .next u))))

/-- Service pins and serial ports (R51, R532 to R536, R540, R541). A raw level is noted with its time; the levels that have been stable for FILT + 1 cycles of
10 ns enter SVP_IN and the matchers are evaluated; a pulse ends at its tick; before DCTL_READY.SVP an unlocked pin and the serial ports drive nothing; the output register is written; the writes 0x5A, 0xA5, mask lock pins, any other order starts over. A byte queues for sending, or is dropped
with TXOVF; a read takes the oldest received byte; a sent byte leaves; a received one queues, or is lost with its error. GO starts a serial transfer
under the next number, is refused with SREJ, or is a reserved length; a transfer's end writes its data, STATUS and VALID; ACK releases a valid
result.
Completion is stated of: svpInputChange, svpFilterAccept, svpTrigPulseEnd, svpOutWrite, svpLockWrite, uartTxWrite, uartRxRead, uartByteSent,
uartByteReceived, i2cGo, i2cAck, i2cDone, i2cSclTimeout, spiGo, spiAck, spiDone. -/
def Obligations.ServicePins : Prop :=
  ∀ (s : State) (d : Fin 4) (n : Fin 16) (u : Fin 2),
  (∀ level, bitAt (s.svp d).raw n = level → exec (.svpInputChange d n level) s = .next s) ∧
  (∀ level, bitAt (s.svp d).raw n ≠ level → exec (.svpInputChange d n level) s = .next (s.setSvp d { s.svp d with
    raw := putBit (s.svp d).raw n level, since := KV.set 0 n.val s.now (s.svp d).since })) ∧
  (KV.get 0 n.val (s.svp d).pulses ≤ s.tick d → exec (.svpTrigPulseEnd d n) s =
    .next (s.setSvp d { s.svp d with pulses := KV.set 0 n.val 0 (s.svp d).pulses })) ∧
  (s.tick d < KV.get 0 n.val (s.svp d).pulses → exec (.svpTrigPulseEnd d n) s = .next s) ∧
  (s.ready d rdySVP = false → s.serialPads d = false ∧ (s.bit (svpB d) SVP_LOCKED.PINS n = false → s.hib ≠ 2 →
    ¬(d = 0 ∧ n < 2 ∧ s.on (svpB 0) SVP_STAT.FLASH = true) → s.svpDrive d n = none)) ∧
  (s.answers .svp d 0 = false → ∀ c, (∃ v, c = .svpFilterAccept d v) ∨ (∃ v, c = .svpOutWrite d v) ∨ (∃ v, c = .svpLockWrite d v) ∨
    (∃ v, c = .uartTxWrite d u v) ∨ c = .uartRxRead d u ∨ c = .uartByteSent d u ∨ (∃ v f p, c = .uartByteReceived d u v f p) ∨
    (∃ a w r, c = .i2cGo d u a w r) ∨ c = .i2cAck d u ∨ (∃ f l, c = .i2cDone d u f l) ∨ c = .i2cSclTimeout d u ∨
    (∃ a l, c = .spiGo d a l) ∨ c = .spiAck d ∨ (∃ l, c = .spiDone d l) → exec c s = .next s) ∧
  (s.answers .svp d 0 = true →
    (∀ pins : BitVec 16, exec (.svpFilterAccept d pins) s = .next ((s.wr (svpB d) SVP_IN.IN ((List.range 16).foldl (fun v n =>
      if bitAt pins.toNat n && decide (KV.get 0 n (s.svp d).since + 40 * (s.rd (svpPinB d n) SVP_PIN.FILT + 1) ≤ s.now) then putBit v n (bitAt (s.svp d).raw n) else v) (s.svpIn d))).svpEval d (s.svpIn d))) ∧
    (∀ v, Gives (.svpOutWrite d v) s (s.setSvp d { s.svp d with lockStep := 0 }) [SVP_OUT.OUT.is (svpB d) v.toNat]) ∧
    (∀ v, (s.svp d).lockStep = 2 → Gives (.svpLockWrite d v) s (s.setSvp d { s.svp d with lockStep := 0 })
      [SVP_LOCKED.PINS.is (svpB d) (s.rd (svpB d) SVP_LOCKED.PINS ||| v.toNat)]) ∧
    (∀ v : BitVec 16, (s.svp d).lockStep ≠ 2 → exec (.svpLockWrite d v) s = .next (s.setSvp d { s.svp d with
      lockStep := if (s.svp d).lockStep = 0 ∧ v = 0x5A then 1 else if (s.svp d).lockStep = 1 ∧ v = 0xA5 then 2 else 0 })) ∧
    (∀ b, ((s.svp d).txq u).length < 64 →
      Gives (.uartTxWrite d u b) s (s.setSvp d { s.svp d with lockStep := 0, tx := KV.set [] u (((s.svp d).txq u) ++ [b]) (s.svp d).tx })
        [U_STAT.TXCNT.is (uB d u) (((s.svp d).txq u).length + 1)]) ∧
    (∀ b, 64 ≤ ((s.svp d).txq u).length → Gives (.uartTxWrite d u b) s (s.setSvp d { s.svp d with lockStep := 0 })
      [U_STAT.TXOVF.is (uB d u) 1]) ∧
    ((s.svp d).rxq u = [] → exec (.uartRxRead d u) s = .next s) ∧
    (∀ b q, (s.svp d).rxq u = b :: q → Gives (.uartRxRead d u) s (s.setSvp d { s.svp d with rx := KV.set [] u q (s.svp d).rx })
      [U_STAT.RXCNT.is (uB d u) q.length]) ∧
    (s.on (uB d u) U_CFG.EN = false → exec (.uartByteSent d u) s = .next s ∧ ∀ b f p, exec (.uartByteReceived d u b f p) s = .next s) ∧
    (s.on (uB d u) U_CFG.EN = true →
      Gives (.uartByteSent d u) s (s.setSvp d { s.svp d with tx := KV.set [] u (((s.svp d).txq u).drop 1) (s.svp d).tx })
        [U_STAT.TXCNT.is (uB d u) (((s.svp d).txq u).length - 1)] ∧
      (∀ b, ((s.svp d).rxq u).length < 64 →
        Gives (.uartByteReceived d u b false false) s (s.setSvp d { s.svp d with rx := KV.set [] u (((s.svp d).rxq u) ++ [b]) (s.svp d).rx })
          [U_STAT.RXCNT.is (uB d u) (((s.svp d).rxq u).length + 1)]) ∧
      (∀ b, 64 ≤ ((s.svp d).rxq u).length → Gives (.uartByteReceived d u b false false) s s [U_STAT.OVR.is (uB d u) 1]) ∧
      (∀ b, Gives (.uartByteReceived d u b true false) s s [U_STAT.FERR.is (uB d u) 1] ∧
        (s.rd (uB d u) U_CFG.PAR ≠ 0 → Gives (.uartByteReceived d u b false true) s s [U_STAT.PERR.is (uB d u) 1] ∧
          Gives (.uartByteReceived d u b true true) s s [U_STAT.PERR.is (uB d u) 1, U_STAT.FERR.is (uB d u) 1]) ∧
        (s.rd (uB d u) U_CFG.PAR = 0 → ∀ f,
          exec (.uartByteReceived d u b f true) s = exec (.uartByteReceived d u b f false) s))) ∧
    (∀ (a : BitVec 7) (w r : BitVec 6),
      (w = 0 ∧ r = 0 ∨ 32 < w.toNat ∨ 32 < r.toNat → Gives (.i2cGo d u a w r) s (s.setSvp d { s.svp d with lockStep := 0 })
        [BLK_STAT.RSVW.is (svpB d) 1]) ∧
      (¬(w = 0 ∧ r = 0) → w.toNat ≤ 32 → r.toNat ≤ 32 →
        (s.rd (uB d u) I_RES.STATUS = 1 ∨ s.on (uB d u) I_RES.ACKD = false →
          Gives (.i2cGo d u a w r) s (s.setSvp d { s.svp d with lockStep := 0 }) [SVP_STAT.SREJ.is (svpB d) 1]) ∧
        (s.rd (uB d u) I_RES.STATUS ≠ 1 → s.on (uB d u) I_RES.ACKD = true →
          Gives (.i2cGo d u a w r) s (s.setSvp d { s.svp d with lockStep := 0 }) [I_CMD.RLEN.is (uB d u) r.toNat,
            I_CMD.WLEN.is (uB d u) w.toNat, I_CMD.ADDR.is (uB d u) a.toNat, I_RES.ACKD.is (uB d u) 0, I_RES.VALID.is (uB d u) 0,
            I_RES.STATUS.is (uB d u) 1, I_RES.SEQ.is (uB d u) (s.rd (uB d u) I_RES.SEQ + 1)]))) ∧
    (∀ (cs : Fin 4) (l : BitVec 7),
      (l = 0 ∨ 64 < l.toNat → Gives (.spiGo d cs l) s (s.setSvp d { s.svp d with lockStep := 0 }) [BLK_STAT.RSVW.is (svpB d) 1]) ∧
      (l ≠ 0 → l.toNat ≤ 64 →
        (s.rd (svpB d) S_RES.STATUS = 1 ∨ s.on (svpB d) S_RES.ACKD = false →
          Gives (.spiGo d cs l) s (s.setSvp d { s.svp d with lockStep := 0 }) [SVP_STAT.SREJ.is (svpB d) 1]) ∧
        (s.rd (svpB d) S_RES.STATUS ≠ 1 → s.on (svpB d) S_RES.ACKD = true →
          Gives (.spiGo d cs l) s (s.setSvp d { s.svp d with lockStep := 0 }) [S_CMD.LEN.is (svpB d) l.toNat, S_CMD.CS.is (svpB d) cs.val,
            S_RES.ACKD.is (svpB d) 0, S_RES.VALID.is (svpB d) 0, S_RES.STATUS.is (svpB d) 1,
            S_RES.SEQ.is (svpB d) (s.rd (svpB d) S_RES.SEQ + 1)]))) ∧
    (∀ u', u' = s.setSvp d { s.svp d with lockStep := 0 } →
      (s.on (uB d u) I_RES.VALID = true → Gives (.i2cAck d u) s u' [I_RES.ACKD.is (uB d u) 1]) ∧
      (s.on (uB d u) I_RES.VALID = false → exec (.i2cAck d u) s = .next u') ∧
      (s.on (svpB d) S_RES.VALID = true → Gives (.spiAck d) s u' [S_RES.ACKD.is (svpB d) 1]) ∧
      (s.on (svpB d) S_RES.VALID = false → exec (.spiAck d) s = .next u')) ∧
    (∀ l, s.rd (uB d u) I_RES.STATUS = 1 →
      (∀ f : Fin 3, Gives (.i2cDone d u (some f) l) s s [I_RES.VALID.is (uB d u) 1,
        I_RES.STATUS.is (uB d u) (if f = 0 then 3 else if f = 1 then 4 else 6)]) ∧
      exec (.i2cDone d u none l) s = .next (((s.bufFill (uB d u) I_BUF.V (l.take (s.rd (uB d u) I_CMD.RLEN))).wr (uB d u) I_RES.STATUS
        2).wr (uB d u) I_RES.VALID 1) ∧
      Gives (.i2cSclTimeout d u) s s [I_RES.VALID.is (uB d u) 1, I_RES.STATUS.is (uB d u) 5]) ∧
    (∀ f l, s.rd (uB d u) I_RES.STATUS ≠ 1 → exec (.i2cDone d u f l) s = .next s ∧ exec (.i2cSclTimeout d u) s = .next s) ∧
    (∀ l, s.rd (svpB d) S_RES.STATUS = 1 → exec (.spiDone d l) s = .next (((s.bufFill (svpB d) S_BUF.V
      (l.take (s.rd (svpB d) S_CMD.LEN))).wr (svpB d) S_RES.STATUS 2).wr (svpB d) S_RES.VALID 1)) ∧
    (∀ l, s.rd (svpB d) S_RES.STATUS ≠ 1 → exec (.spiDone d l) s = .next s))

/-- System-link ports (R51, R464 to R467, R475, R485 to R489). An attempt starts the training of an enabled port; a training in one of the 24 lane orders ends in
loopback, or UP with the peer's number, epochs and rate, as a resumption where a held port's partner and both SESSIONs are unchanged and afresh
otherwise; a lost lane takes a trained port to HELD with its cause; GSL_HOLD later the hold gives up its frames; after GSL_LIFE the waiting frames leave on
their new route; a frame whose AGE reaches GSL_LIFE is lost; an LMGT frame acts by its message, and an unanswered one is sent again; a disabled port's lanes
idle.
Completion is stated of: gslTrainingAttempt, gslTrainingDone, lmgtFrame, lmgtRepeat, gslLockLoss, gslHoldExpire, gslLifeExpire, gslFrameAgeExpire,
systemLaneRecalibration, prbsBitError. -/
def Obligations.LinkPorts : Prop :=
  ∀ (s : State) (g : Fin 24),
  ((s.gsl g).holding = false ∨ s.now + 1 < (s.gsl g).since + s.gslHoldTime g → exec (.gslHoldExpire g) s = .next s) ∧
  ((s.gsl g).holding = true → (s.gsl g).since + s.gslHoldTime g ≤ s.now + 1 → ∀ u, u = s.gslExpire g → exec (.gslHoldExpire g) s = .next (if u.portState g = portHELD then
    u.setPortState g (if u.on (gpB g) GSL_PCTL.EN then portTRAINING else portDISABLED) else u)) ∧
  (s.lifeRuns g = true → exec (.gslLifeExpire g) s = .next s) ∧
  (∀ u, s.lifeRuns g = false → u = (s.setGsl g { s.gsl g with parked := [] }).each (s.routes.map (·.1)) (fun dst s =>
      if s.primary dst ≠ some g.val then s
      else match s.route dst with
        | .leaving => s.setRoute dst .alternate
        | .returning => if s.portUp g then s.setRoute dst .primary else s
        | _ => s) →
    exec (.gslLifeExpire g) s = .next (u.each (s.gsl g).parked fun f s => s.gslSend g { f with at_ := s.now + 1 })) ∧
  (∀ n f, (s.gsl g).queue[n]? = some f → f.type = 1 ∨ f.type = 4 → s.rd (gslB 0) GSL_LIFE.MS * 1000 ≤ s.ageNow f → exec (.gslFrameAgeExpire g n) s =
    .next ((s.setGsl g { s.gsl g with queue := (s.gsl g).queue.eraseIdx n }).gslLost g f)) ∧
  (∀ n, (∀ f, (s.gsl g).queue[n]? = some f → (f.type ≠ 1 ∧ f.type ≠ 4) ∨ s.ageNow f < s.rd (gslB 0) GSL_LIFE.MS * 1000) → exec (.gslFrameAgeExpire g n) s = .next s) ∧
  (s.por = true ∨ s.on (gpB g) GSL_PCTL.EN = false →
    exec (.gslTrainingAttempt g) s = .next s ∧ ∀ up, exec (.gslTrainingDone g up) s = .next s) ∧
  (s.por = false → s.on (gpB g) GSL_PCTL.EN = true →
    (s.portState g = portDISABLED ∨ s.portState g = portTRAINING → exec (.gslTrainingAttempt g) s =
      .next ((s.setPortState g portTRAINING).setGsl g { s.gsl g with lmgt := true })) ∧
    (s.portState g = portHELD → exec (.gslTrainingAttempt g) s = .next (s.setGsl g { s.gsl g with lmgt := true })) ∧
    (s.portState g = portUP ∨ s.portState g = portHOLD ∨ s.portState g = portLOOP → exec (.gslTrainingAttempt g) s = .next s ∧
      ∀ up, exec (.gslTrainingDone g up) s = .next s) ∧
    (∀ m : LinkUp, laneOrderOk m.order.toNat = false → exec (.gslTrainingDone g (some m)) s = .next s) ∧
    (∀ m : LinkUp, laneOrderOk m.order.toNat = true → s.portState g = portTRAINING ∨ s.portState g = portHELD →
      (s.rd (gpB g) GSL_PCTL.LOOP ≠ 0 → exec (.gslTrainingDone g (some m)) s = .next (s.setPortState g portLOOP)) ∧
      (s.rd (gpB g) GSL_PCTL.LOOP = 0 → ∀ same u x v w z,
        same = (decide (s.portState g = portHELD) && (s.gsl g).holding && !(s.gsl g).drawn && decide ((s.gsl g).peer = some m.session.toNat) &&
          decide (s.rd (gpB g) GSL_PEER.DEV = m.dev.toNat)) →
        u = (if same = false ∧ (s.gsl g).holding = true then s.gslExpire g else s) →
        x = { u.gsl g with
          peer := some m.session.toNat, holding := false, drawn := false, lmgt := false, asym := m.asym.toNat, recal := []
          since := u.now + 1 } →
        v = (if same then (u.setGsl g x).gslResume g
          else u.setGsl g { x with tx := 0, rx := 0, unacked := [], replay := [], used := [], owed := [], replays := 0 }) →
        w = (((((((v.wr (gpB g) GSL_PSTAT.POL m.pol.toNat).wr (gpB g) GSL_PSTAT.ORDER m.order.toNat).wr (gpB g) GSL_PSTAT.RATE
          (min m.rate.val (v.rd (gpB g) GSL_PCTL.RATE))).wr (gpB g) GSL_PEER.VALID 1).wr (gpB g) GSL_PEER.DEV m.dev.toNat).wr (gpB g)
          GSL_PEPOCH.EPOCH m.epoch.toNat).wr (gpB g) GSL_PEPOCH.MINPEER m.minpeer.toNat) →
        z = (if w.isFollower ∧ w.parentPort = g.val then w.wr (ptbB 0) PTB_ASYM.PHY m.asym.toNat else w) →
        exec (.gslTrainingDone g (some m)) s = .next (((z.setPortState g portUP).gslReturn g).epochCheck g))) ∧
    exec (.gslTrainingDone g none) s = .next s) ∧
  (s.portState g = portUP ∨ s.portState g = portHOLD ∨ s.portState g = portLOOP → ∀ u,
    u = ((((s.setPortState g portHELD).wr (gpB g) GSL_PSTAT.CAUSE downLOCK).count (gpB g) GSL_CNT_DOWN.V).raise (g / 6) 92 none g) →
    exec (.gslLockLoss g) s = .next ((u.setGsl g { u.gsl g with holding := true, replay := [], since := u.now + 1 }).parentPortDown g)) ∧
  (s.portState g ≠ portUP → s.portState g ≠ portHOLD → s.portState g ≠ portLOOP → exec (.gslLockLoss g) s = .next s) ∧
  (∀ h m, s.por = true → exec (.lmgtFrame g h m) s = .next s) ∧
  (∀ h m, s.por = false → s.gslOpen g true = true → s.gslAuth g h = false →
    exec (.lmgtFrame g h m) s = .next ((s.count (gpB g) GSL_CNT_AUTH.V).gslNakOwed g)) ∧
  (∀ h u, s.por = false → (s.gslOpen g true = true → s.gslAuth g h = true) → u = (if s.gslOpen g true then s.gslHeader g h else s) →
    (∀ x dev, u.gslOpen g true = false → exec (.lmgtFrame g h (.session x dev)) s =
      .next ((u.wr (gpB g) GSL_PEER.VALID 1).wr (gpB g) GSL_PEER.DEV dev.toNat)) ∧
    (∀ x dev, u.gslOpen g true = true → exec (.lmgtFrame g h (.session x dev)) s = .next u) ∧
    (∀ e mp, exec (.lmgtFrame g h (.epochs e mp)) s =
      .next (((u.wr (gpB g) GSL_PEPOCH.EPOCH e.toNat).wr (gpB g) GSL_PEPOCH.MINPEER mp.toNat).epochCheck g)) ∧
    exec (.lmgtFrame g h .down) s = .next (u.gslDown g downPEER) ∧
    exec (.lmgtFrame g h .farLoop) s = .next (if u.portState g = portTRAINING ∧ u.on (gpB g) GSL_PCTL.FARLB_OK then
      u.setPortState g portLOOP else u) ∧
    exec (.lmgtFrame g h .key) s = .next u ∧
    exec (.lmgtFrame g h .answer) s = .next (u.setGsl g { u.gsl g with lmgt := false })) ∧
  (∀ key, (s.gsl g).lmgt = true → s.gslKey g = some key → exec (.lmgtRepeat g) s =
    .next (s.gslWire g { type := 5, src := s.devnum, key := key })) ∧
  ((s.gsl g).lmgt = false ∨ s.gslKey g = none → exec (.lmgtRepeat g) s = .next s) ∧
  (∀ (base : Nat) (fs : List GFrame) (i : Nat) (f : GFrame), fs[i]? = some f → (renumber base fs)[i]? = some { f with seq := (base + i) % 65536 }) ∧
  (s.por = true ∨ s.portState g = portDISABLED → s.gslLanes g = .electricalIdle) ∧
  (∀ lane, s.portUp g = true → exec (.systemLaneRecalibration g lane) s =
    .next (s.setGsl g { s.gsl g with recal := KV.set 0 lane.val (s.now + 1) (s.gsl g).recal })) ∧
  (∀ lane, s.portUp g = false → exec (.systemLaneRecalibration g lane) s = .next s) ∧
  (∀ n, s.portState g = portLOOP → Gives (.prbsBitError g n) s s [GSL_PRBS.V.is (gpB g) (satAdd 32 (s.rd (gpB g) GSL_PRBS.V) n)]) ∧
  (∀ n, s.portState g ≠ portLOOP → exec (.prbsBitError g n) s = .next s)

/-- Frames on a system link (R179, R468 to R474, R476, R477, R480, R482, R484). A carrying port sends, in this order, a STOP that can leave, an exchange response, a
replayed frame, and the first queued frame whose channel has a credit; owed credits leave in an IDLE frame; a frame that waits more than 1 ms for a credit
raises source 91. A received frame is counted away without a device number, answered with NAK where it fails its check, its authentication or its turn,
and else delivered: STOP to the local members and on, DATA to this device or on by its route, image data to the engine that takes it. Header
numbers release frames and credits, and a NAK or a timeout starts a replay.
Completion is stated of: gslFrameSend, gslDataFrame, gslStopFrame, relayImageData, gslIdleFrame, gslBadFrame, gslReservedFrame, gslNak,
gslReplayTimeout, gslCreditReturnTimer, gslCreditStall. -/
def Obligations.LinkFrames : Prop :=
  ∀ (s : State) (g : Fin 24) (h : GHdr),
  (s.gslOpen g true = false → exec (.gslFrameSend g) s = .next s ∧ exec (.gslIdleFrame g h) s = .next s ∧
    (∀ k, exec (.gslBadFrame g k) s = .next s) ∧ exec (.gslReservedFrame g) s = .next s ∧ exec (.gslNak g h) s = .next s ∧
    exec (.gslReplayTimeout g) s = .next s) ∧
  (s.gslOpen g true = true →
    (∀ e key, s.portUp g = true → s.on (dctlB 0) DCTL_DEVNUM.LOCKED = true → s.gslKey g = some key → (s.gsl g).replay = [] →
      (s.gsl g).unacked.length < 256 → (s.stopOut.find? fun e => e.1 == g.val) = some e → exec (.gslFrameSend g) s =
        .next (({ s with stopOut := s.stopOut.erase e } : State).gslFirst g {
          type := 2, dst := s.rd (gpB g) GSL_PEER.DEV, src := s.devnum, gid := e.2.1, stopAt := e.2.2 } key)) ∧
    (s.stopReady g = none →
      (∀ a, (s.ptbOut.find? fun a => a.port == g.val) = some a → exec (.gslFrameSend g) s =
        .next (({ s with ptbOut := s.ptbOut.erase a } : State).gslWire g { type := 3, src := s.devnum })) ∧
      ((s.ptbOut.find? fun a => a.port == g.val) = none →
        (s.on (dctlB 0) DCTL_DEVNUM.LOCKED = false ∨ s.gslKey g = none → exec (.gslFrameSend g) s = .next s) ∧
        (∀ key, s.on (dctlB 0) DCTL_DEVNUM.LOCKED = true → s.gslKey g = some key →
          (∀ f fs, (s.gsl g).replay = f :: fs → exec (.gslFrameSend g) s =
            .next ((s.setGsl g { s.gsl g with replay := fs }).gslWire g { f with key := key })) ∧
          ((s.gsl g).replay = [] → (s.gsl g).unacked.length < 256 →
            (∀ i f, ((s.gsl g).queue.findIdx? fun f => decide (KV.get 0 f.vc (s.gsl g).used < 32) && (s.portUp g || f.type == 4)) = some i →
              (s.gsl g).queue[i]? = some f → exec (.gslFrameSend g) s = .next ((s.setGsl g { s.gsl g with
                queue := (s.gsl g).queue.eraseIdx i, used := KV.set 0 f.vc (KV.get 0 f.vc (s.gsl g).used + 1) (s.gsl g).used }).gslFirst g f
                key)) ∧
            (((s.gsl g).queue.findIdx? fun f => decide (KV.get 0 f.vc (s.gsl g).used < 32) && (s.portUp g || f.type == 4)) = none →
              exec (.gslFrameSend g) s = .next s)) ∧
          ((s.gsl g).replay = [] → 256 ≤ (s.gsl g).unacked.length → exec (.gslFrameSend g) s = .next s)))) ∧
    exec (.gslIdleFrame g h) s = .next (s.gslHeader g h) ∧
    exec (.gslBadFrame g 0) s = .next ((s.count (gpB g) GSL_CNT_FECU.V).gslNakOwed g) ∧
    exec (.gslBadFrame g 1) s = .next ((s.count (gpB g) GSL_CNT_CRC.V).gslNakOwed g) ∧
    exec (.gslBadFrame g 2) s = .next ((s.count (gpB g) GSL_CNT_AUTH.V).gslNakOwed g) ∧
    Gives (.gslReservedFrame g) s s [GSL_CNT_RSVD.V.is (gpB g) (satAdd 32 (s.rd (gpB g) GSL_CNT_RSVD.V) 1)] ∧
    exec (.gslNak g h) s = .next (s.gslHeader g { h with nak := true }) ∧
    ((s.gsl g).unacked ≠ [] → exec (.gslReplayTimeout g) s = .next (s.gslReplay g)) ∧
    ((s.gsl g).unacked = [] → exec (.gslReplayTimeout g) s = .next s)) ∧
  (∀ (vc : Fin 4) n, n = min 63 (KV.get 0 vc.val (s.gsl g).owed) →
    (s.gslOpen g true = true → n ≠ 0 → exec (.gslCreditReturnTimer g vc) s = .next (s.setGsl g { s.gsl g with
      owed := KV.set 0 vc.val (KV.get 0 vc.val (s.gsl g).owed - n) (s.gsl g).owed, nak := false
      wire := some ({ type := 0, src := s.devnum }, vc.val, n) })) ∧
    (s.gslOpen g true = false ∨ n = 0 → exec (.gslCreditReturnTimer g vc) s = .next s)) ∧
  (((s.gsl g).queue.any fun f => decide (32 ≤ KV.get 0 f.vc (s.gsl g).used ∧ f.at_ + 4000000 < s.now + 1)) = true →
    exec (.gslCreditStall g) s = .next ((s.count (gpB g) GSL_CNT_STALL.V).raise (g / 6) 91 none g)) ∧
  (((s.gsl g).queue.any fun f => decide (32 ≤ KV.get 0 f.vc (s.gsl g).used ∧ f.at_ + 4000000 < s.now + 1)) = false → exec (.gslCreditStall g) s = .next s) ∧
  (∀ gid stopAt data fr c hold vc next, (c, hold, vc, next) ∈ ([
      (.gslStopFrame g h gid stopAt, false, none, fun s =>
        if KV.get 0 gid.toNat s.stopSeen ≠ 0 ∧ KV.get 0 gid.toNat s.stopSeen ≤ stopAt.toNat + 1 then
          { s with
            stops := s.stops ++ ((List.range 16).filter fun q => s.rd (psqB q) PSQ_LKGRP.GID == gid.toNat).map
              fun q => ⟨q, gid.toNat, stopAt.toNat⟩ }
        else s.spreadStop 16 gid.toNat stopAt.toNat (some g.val)),
      (.relayImageData g h data, true, some 2, fun s =>
        if (s.cfe (g / 6)).src = srcRELAY ∧ s.cfeState (g / 6) ≠ cfeIDLE then s.cfeRelayData (g / 6) data
        else s.setRelayBuf g (s.relayBuf g ++ data)),
      (.gslDataFrame g h fr, false, some fr.vc, fun s =>
        if fr.dst ≠ s.devnum then s.gslSend g { fr with type := 1 } else s.each fr.pkts fun p s => s.gslDeliver g fr p)]
        : List (Instr × Bool × Option Nat × (State → State))) →
    (s.gslOpen g true = false → exec c s = .next s) ∧
    (s.gslOpen g true = true → s.on (dctlB 0) DCTL_DEVNUM.LOCKED = false → exec c s = .next (s.count (gpB g) GSL_CNT_NODEV.V)) ∧
    (s.on (dctlB 0) DCTL_DEVNUM.LOCKED = true →
      (s.gslOpen g hold = false → exec c s = .next s) ∧
      (s.gslOpen g hold = true → s.gslAuth g h = false → exec c s = .next ((s.count (gpB g) GSL_CNT_AUTH.V).gslNakOwed g)) ∧
      (s.gslOpen g hold = true → s.gslAuth g h = true → ∀ u, u = s.gslHeader g h →
        (h.seq.toNat ≠ (u.gsl g).rx → exec c s = .next (u.gslNakOwed g)) ∧
        (h.seq.toNat = (u.gsl g).rx → exec c s = .next (next (u.setGsl g { u.gsl g with
          rx := ((u.gsl g).rx + 1) % 65536
          owed := match vc with
            | some v => KV.set 0 v (KV.get 0 v (u.gsl g).owed + 1) (u.gsl g).owed
            | none => (u.gsl g).owed }))))))

/-- Encryption keys and counters of a port (R483, R489). LOAD puts the unwrapped key into a free slot, or reports a busy slot, a missing wrapping key or a
failed unwrap; KILL empties a slot that nothing uses and marks a used one, which RETIRE empties later; every result takes the next number; ACK
releases it. A counter clear clears the counters whose bits are written 1.
Completion is stated of: gslKeyLoad, gslKeyKill, gslKeyAck, gslKeyRetire, gslCntClr. -/
def Obligations.LinkKeys : Prop :=
  ∀ (s : State) (g : Fin 24) (k : Fin 4),
  (s.answers .gsl (g / 6) 0 = false → exec (.gslKeyLoad g k) s = .next s ∧ exec (.gslKeyKill g k) s = .next s ∧
    exec (.gslKeyAck g) s = .next s ∧ ∀ v, exec (.gslCntClr g v) s = .next s) ∧
  (s.answers .gsl (g / 6) 0 = true →
    (s.on (gpB g) GSL_KRES.ACKD = false → exec (.gslKeyLoad g k) s = .next s ∧ exec (.gslKeyKill g k) s = .next s) ∧
    (s.on (gpB g) GSL_KRES.ACKD = true → ∀ u w, u = (s.seqUp (gpB g) GSL_KRES.SEQ).wr (gpB g) GSL_KRES.ACKD 0 →
      w = (List.range 10).foldl (fun v i => v + u.rd (gpB g + 4 * i) GSL_KWRAP.V * 2 ^ (32 * i)) 0 →
      (u.gslKeyValid g k = true → exec (.gslKeyLoad g k) s = .next ((u.wr (gpB g) GSL_KRES.STATUS 5).wr (gpB g) GSL_KRES.VALID 1)) ∧
      (u.gslKeyValid g k = false →
        (u.kek 1 = none → exec (.gslKeyLoad g k) s = .next ((u.wr (gpB g) GSL_KRES.STATUS 4).wr (gpB g) GSL_KRES.VALID 1)) ∧
        (∀ kek, u.kek 1 = some kek → exec (.gslKeyLoad g k) s = .next ((Config.keyUnwrap kek (BitVec.ofNat 320 w)).elim
          ((u.wr (gpB g) GSL_KRES.STATUS 3).wr (gpB g) GSL_KRES.VALID 1)
          fun key => ((u.setGslKey g k (some key)).wr (gpB g) GSL_KRES.STATUS 2).wr (gpB g) GSL_KRES.VALID 1))) ∧
      (u.gslKeyBusy g k = true → exec (.gslKeyKill g k) s = .next (((u.wrb (gpB g + 4 * k) GSL_KINFO.RETIRE_PENDING
        (u.gslKeyValid g k)).wr (gpB g) GSL_KRES.STATUS 5).wr (gpB g) GSL_KRES.VALID 1)) ∧
      (u.gslKeyBusy g k = false → exec (.gslKeyKill g k) s =
        .next (((u.setGslKey g k none).wr (gpB g) GSL_KRES.STATUS 2).wr (gpB g) GSL_KRES.VALID 1))) ∧
    (s.on (gpB g) GSL_KRES.VALID = true → Gives (.gslKeyAck g) s s [GSL_KRES.ACKD.is (gpB g) 1]) ∧
    (s.on (gpB g) GSL_KRES.VALID = false → exec (.gslKeyAck g) s = .next s) ∧
    (∀ v, Leads (.gslCntClr g v) s fun t => t = { s with act := t.act } ∧
      ∀ e ∈ (List.range 11).zip gslCounters, t.rd (gpB g) e.2 = if bitAt v.toNat e.1 then 0 else s.rd (gpB g) e.2)) ∧
  (s.on (gpB g + 4 * k) GSL_KINFO.RETIRE_PENDING = true → s.gslKeyBusy g k = false →
    exec (.gslKeyRetire g k) s = .next (s.setGslKey g k none)) ∧
  (s.on (gpB g + 4 * k) GSL_KINFO.RETIRE_PENDING = false ∨ s.gslKeyBusy g k = true → exec (.gslKeyRetire g k) s = .next s)

/-- The life of a site (R122, R125 to R130). A site reset counts itself and warns the SPs of the site; an ACTIVE site then halts its sequencer RESET, takes its
channels to the safe state, purges what it has in flight and in its engines, and orphans its locks. A drained resetting site is QUIESCED and tells
its VF; RELEASE makes a QUIESCED site ACTIVE or FREE and does nothing to another.
Completion is stated of: siteReset, siteQuiesced, siteRelease, dmaCancel. -/
def Obligations.SiteLife : Prop :=
  ∀ (s : State) (st : Fin 16),
  (s.answers .site 0 0 = false → exec (.siteReset st) s = .next s ∧ exec (.siteRelease st) s = .next s) ∧
  (s.answers .site 0 0 = true →
    (∀ u v w, u = (s.count (siteB st) SITE_STAT.RCNT).each (List.range 16) (fun n s =>
        if s.on (spB n) SP_CFG.ASSIGNED ∧ s.rd (spB n) SP_CFG.SITE = st then s.hubPend n 91 true else s) →
      (u.siteState st ≠ siteACTIVE → exec (.siteReset st) s = .next u) ∧
      (u.siteState st = siteACTIVE → v = (u.wr (siteB st) SITE_STAT.STATE siteRESETTING).wrb (siteB st) SITE_STAT.FLR false →
        w = (((v.haltPsq (v.rd (siteB st) SITE_CFG.PSQ) runRESET 0 (v.haltTick (v.rd (siteB st) SITE_CFG.PSQ))).siteChannelsSafe
          st).sitePurgeFlights st).each (List.range 4) (fun d s => s.fcuPurge d st) →
        exec (.siteReset st) s = .next ((((w.each (List.range 8) fun r s => s.raeCancelSite r st).each (List.range 64) fun c s =>
          if (s.sacSite c).map (·.val) = some st.val then s.sacSiteReset c else s).each (List.range 32) fun c s =>
            if s.dmaSite c = some st.val then s.dmaCancel c else s).orphanOwner (ownerVF st)))) ∧
    (s.siteState st = siteQUIESCED → Gives (.siteRelease st) s s
      [SITE_STAT.STATE.is (siteB st) (if s.on (siteB st) SITE_CFG.EN then siteACTIVE else siteFREE), SITE_STAT.QUIESCED.is (siteB st) 0]) ∧
    (s.siteState st ≠ siteQUIESCED → exec (.siteRelease st) s = .next s)) ∧
  (s.siteState st = siteRESETTING → s.siteDrained st = true →
    Leads (.siteQuiesced st) s fun t => t.siteState st = siteQUIESCED ∧ t.on (siteB st) SITE_STAT.QUIESCED = true ∧
      (∀ b f, f.key b ≠ SITE_STAT.STATE.key (siteB st) → f.key b ≠ SITE_STAT.QUIESCED.key (siteB st) →
        t.rd b f = s.rd b f) ∧ t = { s with act := t.act, msix := t.msix }) ∧
  (s.siteState st ≠ siteRESETTING ∨ s.siteDrained st = false → exec (.siteQuiesced st) s = .next s)

/-- The host endpoint (R490 to R493, R497). PERST_N and a lost link act as a PF reset, clear HST readiness and raise source 95; a trained link sets
HST_LINK and readiness; a configuration request is retried before readiness, unsupported for a VF that is not enabled, else served; the function
resets cancel the channels. A memory TLP is unsupported where the function, the BAR or the offset does not serve it, else is served by its window,
the vector table or the VF page.
Completion is stated of: perstN, pcieLinkUp, pcieLinkDown, pcieConfigRequest, pcieMemoryRequest, pfFlr, vfFlr, vfEnableClear. -/
def Obligations.HostEndpoint : Prop :=
  ∀ (s : State) (n : Fin 16),
  exec (.perstN false) s = .next s ∧
  (s.ready 0 rdyHST = true ∨ s.on (hstB 0) HST_LINK.UP = true → ∀ t,
    t = ((s.pfReset.wr (hstB 0) HST_LINK.UP 0).setReady 0 rdyHST false).raise 0 95 none 0 →
    exec (.perstN true) s = .next t ∧ exec .pcieLinkDown s = .next t) ∧
  (s.ready 0 rdyHST = false → s.on (hstB 0) HST_LINK.UP = false → exec (.perstN true) s = .next s ∧ exec .pcieLinkDown s = .next s) ∧
  (∀ (speed : Fin 7) (w : BitVec 5) flit,
    (s.por = false → s.ready 0 rdyCKP = true → s.domStopped 0 12 = false → speed ≠ 0 → exec (.pcieLinkUp speed w flit) s =
      .next (((((s.wr (hstB 0) HST_LINK.UP 1).wr (hstB 0) HST_LINK.SPEED speed).wr (hstB 0) HST_LINK.WIDTH w.toNat).wrb (hstB 0)
        HST_LINK.FLIT flit).setReady 0 rdyHST true)) ∧
    (s.por = true ∨ s.ready 0 rdyCKP = false ∨ s.domStopped 0 12 = true ∨ speed = 0 → exec (.pcieLinkUp speed w flit) s = .next s)) ∧
  (s.answers .hst 0 0 = true → exec .pfFlr s = .next s.pfReset ∧ exec (.vfFlr n) s = .next (s.vfReset n) ∧
    exec .vfEnableClear s = .next (if s.host.vfOn then s.pfReset else s)) ∧
  (s.answers .hst 0 0 = false → exec .pfFlr s = .next s ∧ exec (.vfFlr n) s = .next s ∧ exec .vfEnableClear s = .next s) ∧
  (∀ fn r, s.por = true ∨ s.ready 0 rdyHST = false →
    exec (.pcieConfigRequest fn r) s = .next { s with host := { s.host with last := some .retry } }) ∧
  (s.por = false → s.ready 0 rdyHST = true →
    (∀ r, s.host.vfOn = false → exec (.pcieConfigRequest (some n) r) s =
      .next { s with host := { s.host with last := some .unsupported } }) ∧
    (∀ fn, (fn = none ∨ s.host.vfOn = true) →
      (∀ dw, exec (.pcieConfigRequest fn (.read dw)) s =
        .next { s with host := { s.host with last := some (.data (leBytes 4 (s.cfgWord (fnNo fn) dw.toNat)) false) } }) ∧
      (∀ dw v, dw.toNat ≠ 0 → dw.toNat ≠ 2 → exec (.pcieConfigRequest fn (.write dw v)) s = .next { s with host := { s.host with
        last := some .ok, cfg := KV.set 0 (fnNo fn * 1024 + dw.toNat) v.toNat s.host.cfg } }) ∧
      (∀ dw v, dw.toNat = 0 ∨ dw.toNat = 2 → exec (.pcieConfigRequest fn (.write dw v)) s =
        .next { s with host := { s.host with last := some .ok } }) ∧
      (∀ d3, exec (.pcieConfigRequest fn (.power d3)) s = .next { s with host := { s.host with
        last := some .ok
        d3 := if d3 then fnNo fn :: s.host.d3.filter (· != fnNo fn) else s.host.d3.filter (· != fnNo fn) } })) ∧
    exec (.pcieConfigRequest none .vfEnable) s = .next { s with host := { s.host with last := some .ok, vfOn := true } } ∧
    (∀ k, exec (.pcieConfigRequest none (.bar2 k)) s = .next { s with host := { s.host with last := some .ok, bar2 := k.val } })) ∧
  (∀ t r, (s.por = true ∨ s.ready 0 rdyHST = false ∨ fnNo t.fn ∈ s.host.d3 ∨ (t.fn.isSome ∧ s.host.vfOn = false)) →
    exec (.pcieMemoryRequest t r) s = .next (s.unsupported false)) ∧
  (∀ t r, s.por = false → s.ready 0 rdyHST = true → fnNo t.fn ∉ s.host.d3 → (t.fn.isSome → s.host.vfOn = true) →
    (t.fn = none → t.bar.val = 0 → exec (.pcieMemoryRequest t r) s = .next (if t.offset.toNat < 2 ^ 32 then
      s.tlpLocal ⟨.pf, true, none⟩ t (0x7F00000000 + t.offset.toNat) r else s.unsupported false)) ∧
    (t.fn = none → t.bar.val = 1 → exec (.pcieMemoryRequest t r) s = .next (if t.offset.toNat + t.len ≤ 2 ^ (30 + s.host.bar2) then
      s.tlpLocal ⟨.pf, true, none⟩ t (s.rd (hstB 0) HST_W2BASE_LO.V * 2 ^ 30 + s.rd (hstB 0) HST_W2BASE_HI.V * 2 ^ 32 + t.offset.toNat) r
      else s.unsupported false)) ∧
    (t.fn = none → 2 ≤ t.bar.val → exec (.pcieMemoryRequest t r) s = .next (if t.offset.toNat < 0x10000 then s.tlpTable 0 t 0 64
      else s.unsupported false)) ∧
    (t.fn = some n → t.bar.val = 0 → exec (.pcieMemoryRequest t r) s = .next (if t.offset.toNat < 0x10000 then s.tlpVfPage n t
      else s.unsupported false)) ∧
    (t.fn = some n → t.bar.val = 1 → exec (.pcieMemoryRequest t r) s = .next (if t.offset.toNat + t.len ≤ 2 ^ 32 then
      s.tlpLocal ⟨.vf n, true, some n⟩ t (KV.get 0 n.val s.host.vfBase * 2 ^ 32 + t.offset.toNat) r else s.unsupported false)) ∧
    (t.fn = some n → 2 ≤ t.bar.val → exec (.pcieMemoryRequest t r) s = .next (s.unsupported false)))

/-- The DMA channels (R494 to R496). PROD starts an enabled idle channel; a running one starts its next descriptor, with FENCE after all earlier ones; the
oldest descriptor ends with its status, which goes to its place in the ring, sets LAST and advances CONS; poison is kept byte by byte; CANCEL halts a running
channel; RESUME leaves HALTED.
Completion is stated of: dmaProdWrite, dmaDescriptor, dmaDescriptorDone, dmaCancel, dmaResume. -/
def Obligations.DmaChannels : Prop :=
  ∀ (s : State) (c : Fin 32),
  (s.answers .hst 0 0 = false → (∀ v, exec (.dmaProdWrite c v) s = .next s) ∧ (∀ v, exec (.dmaDescriptor c v) s = .next s) ∧
    exec (.dmaCancel c) s = .next s ∧ exec (.dmaResume c) s = .next s ∧
    (∀ h p e r, exec (.dmaDescriptorDone c h p e r) s = .next s)) ∧
  (s.answers .hst 0 0 = true →
    (∀ v : BitVec 32, exec (.dmaProdWrite c v) s = .next ((s.wr (dmaB c) DMA_PROD.V v.toNat).dmaKick c)) ∧
    (∀ desc : BitVec 256, s.dmaState c = dmaRUN → s.on (dmaB c) DMA_CTL.EN = true →
      (s.rd (dmaB c) DMA_CONS.V + (s.dma c).active.length) % 2 ^ 32 ≠ s.rd (dmaB c) DMA_PROD.V → s.dmaFn c ∉ s.host.d3 →
      (bitAt desc.toNat 162 = true → (s.dma c).active = []) →
      exec (.dmaDescriptor c desc) s = .next (s.setDma c { s.dma c with active := (s.dma c).active ++
        [{ s.dmaParse c desc with site := (s.dmaSite c).map (Fin.ofNat 16), born := s.nocNext }] })) ∧
    (∀ desc : BitVec 256, s.dmaState c ≠ dmaRUN ∨ s.on (dmaB c) DMA_CTL.EN = false ∨ s.dmaFn c ∈ s.host.d3 ∨
      (s.rd (dmaB c) DMA_CONS.V + (s.dma c).active.length) % 2 ^ 32 = s.rd (dmaB c) DMA_PROD.V ∨
      (bitAt desc.toNat 162 = true ∧ (s.dma c).active ≠ []) → exec (.dmaDescriptor c desc) s = .next s) ∧
    (s.dmaState c = dmaRUN → ∀ ring n, ring = s.rd (dmaB c) DMA_RBASE_LO.V * 32 + s.rd (dmaB c) DMA_RBASE_HI.V * 2 ^ 32 →
      n = (s.dma c).active.length → s.rd (dmaB c) DMA_CONS.V < 2 ^ 32 → Gives (.dmaCancel c) s (s.setDma c { s.dma c with
          active := []
          stat := if n = 0 then (s.dma c).stat
            else some (ring + (s.rd (dmaB c) DMA_CONS.V + (n - 1)) % 2 ^ 32 % 2 ^ s.rd (dmaB c) DMA_RSIZE.V * 32 + 24, 6) })
        [DMA_STAT.STATE.is (dmaB c) dmaHALTED, DMA_CONS.V.is (dmaB c) (s.rd (dmaB c) DMA_CONS.V + n), DMA_STAT.LAST.is (dmaB c) 6]) ∧
    (s.dmaState c ≠ dmaRUN → exec (.dmaCancel c) s = .next s) ∧
    (s.dmaState c = dmaHALTED → exec (.dmaResume c) s = .next ((s.wr (dmaB c) DMA_STAT.STATE dmaIDLE).dmaKick c)) ∧
    (s.dmaState c ≠ dmaHALTED → exec (.dmaResume c) s = .next s) ∧
    ((s.dma c).active = [] → ∀ h p e r, exec (.dmaDescriptorDone c h p e r) s = .next s) ∧
    (∀ e es h p herr r w far, (s.dma c).active = e :: es → w = ⟨.dma c, true, e.site⟩ →
      far = decide (e.dev / 2 ^ 40 ≠ s.devnum) →
      (e.bad = true → exec (.dmaDescriptorDone c h p herr r) s = .next (s.dmaEnd c 5)) ∧
      (e.bad = false → e.toHost = false →
        (herr = true → exec (.dmaDescriptorDone c h p herr r) s = .next (s.dmaEnd c 4)) ∧
        (herr = false → far = true → exec (.dmaDescriptorDone c h p herr r) s =
          .next (s.dmaEnd c (if rspOk r then (if p.any id then 2 else 1) else 3))) ∧
        (herr = false → far = false → ∀ x t,
          s.hostPut w .ack p (h.take e.len) (packets (e.dev % 2 ^ 40) (min e.len h.length)) = (x, t) →
          exec (.dmaDescriptorDone c h p herr r) s = .next (t.dmaEnd c (if x.isSome then 3 else if p.any id then 2 else 1)))) ∧
      (e.bad = false → e.toHost = true → ∀ g t, (if far then ((match r with
          | .data v q => ⟨leBytes e.len v, (List.range e.len).map fun j => bitAt q (j / 8), none⟩
          | x => ⟨[], [], some x⟩ : Got), s) else s.hostGet w (packets (e.dev % 2 ^ 40) e.len)) = (g, t) →
        (g.err.isSome = true → exec (.dmaDescriptorDone c h p herr r) s = .next (t.dmaEnd c 3)) ∧
        (g.err = none → herr = true → exec (.dmaDescriptorDone c h p herr r) s = .next (t.dmaEnd c 4)) ∧
        (g.err = none → herr = false → exec (.dmaDescriptorDone c h p herr r) s = .next ((t.setDma c { t.dma c with
          out := some (e.host, g.data, g.pois) }).dmaEnd c (if g.poison then 2 else 1)))))) ∧
  (∀ e es st, (s.dma c).active = e :: es → (s.dmaEnd c st).rd (dmaB c) DMA_STAT.LAST = st % 2 ^ DMA_STAT.LAST.width ∧
    (s.dmaEnd c st).rd (dmaB c) DMA_CONS.V = (s.rd (dmaB c) DMA_CONS.V + 1) % 2 ^ 32 ∧
    ((s.dmaEnd c st).dma c).stat = some (s.rd (dmaB c) DMA_RBASE_LO.V * 32 + s.rd (dmaB c) DMA_RBASE_HI.V * 2 ^ 32 +
      s.rd (dmaB c) DMA_CONS.V % 2 ^ s.rd (dmaB c) DMA_RSIZE.V * 32 + 24, st) ∧
    (3 ≤ st → (s.dmaEnd c st).dmaState c = dmaHALTED ∧ ((s.dmaEnd c st).dma c).active = []) ∧
    (st < 3 → ((s.dmaEnd c st).dma c).active = es))

/-- Transfers at their targets (R134, R141, R143 to R145, R195, R330, R360 to R363, R434, R476). The request of a flight is taken once, in its source's order; an
access to a SAC's data takes a free bank cycle, or makes the core stall once it has waited; a SAC transfer ends DONE, REJECTED or in ERROR, an error of one
word leaving the others (R558); a TRIG event reaches the destinations it names; the next stream line enters the buffer; a scan ends with its status.
Completion is stated of: trigDelivery, streamLineFill, sdScanDone, memoryRequest, sacTransferDone, sacBankAccess. -/
def Obligations.Transfers : Prop :=
  ∀ (s : State) (id : Nat),
  ((s.flights.find? fun f => f.id == id) = none → exec (.memoryRequest id) s = .next s ∧ ∀ w, exec (.sacBankAccess id w) s = .next s) ∧
  (∀ f, (s.flights.find? fun f => f.id == id) = some f →
    (f.rsp = none → s.inPort id = false → s.behindOwn f = false → exec (.memoryRequest id) s = .next (s.takeRequest f)) ∧
    (f.rsp ≠ none ∨ s.inPort id = true ∨ s.behindOwn f = true → exec (.memoryRequest id) s = .next s) ∧
    (∀ c d r t, sacOfDm f.req.addr.toNat = some c → f.dst = .mem d → f.rsp = none → s.behindOwn f = false →
      s.serve f.req (.mem d) = (r, t) → ∀ u, u = t.answer id r →
      exec (.sacBankAccess id false) s = .next u ∧
      (u.sacState c = sacRUN → exec (.sacBankAccess id true) s = .next (u.count (sacB c) SAC_CNT_STALL.V)) ∧
      (u.sacState c ≠ sacRUN → exec (.sacBankAccess id true) s = .next u))) ∧
  (∀ (c : Fin 64) (ch : Fin 2) w0 w1 w2 w3 snap bad off len a, KV.get none ch.val (s.sac c).xfers = some ⟨[w0, w1, w2, w3], snap⟩ →
    off = bits w2 0 17 → len = bits w3 0 18 → a = w0 + bits w1 0 8 * 2 ^ 32 →
    bad = decide (bits w1 8 24 ≠ 0 ∨ bits w2 17 14 ≠ 0 ∨ bits w3 18 14 ≠ 0 ∨ off % 8 ≠ 0 ∨ len % 8 ≠ 0 ∨ len < 8 ∨ 131072 < off + len) →
    (KV.get 0 ch.val (s.sac c).xst ≠ xBUSY → exec (.sacTransferDone c ch) s = .next s) ∧
    (KV.get 0 ch.val (s.sac c).xst = xBUSY →
      (bad = true → exec (.sacTransferDone c ch) s = .next (s.sacXEnd c ch xREJECTED)) ∧
      (bad = false → ∀ ok t, (if bitAt w2 31 then s.drew.sacOut c (s.free (len / 4)) snap (len / 8) 0 a off
        else s.sacIn c (len / 8) a off) = (ok, t) →
        exec (.sacTransferDone c ch) s = .next (t.sacXEnd c ch (if ok then xDONE else xERROR))))) ∧
  (∀ (c : Fin 64) n i a off pick snap r t w,
    (s.nocAccess (s.sacReq c .rd a 0 false) .ack = (r, t) →
      (∀ v p, r = .data v p → s.sacIn c (n + 1) a off = (t.writeWord ((sacDmAddr c 0 + off) / 8) v 255 (p != 0)).sacIn c n (a + 8) (off + 8)) ∧
      ((∀ v p, r ≠ .data v p) → s.sacIn c (n + 1) a off = (false, (t.sacIn c n (a + 8) (off + 8)).2))) ∧
    (w = s.sacWord c pick snap i off → (s.countChip (sacDmAddr c 0 + off) 8 false).nocAccess
        ((s.countChip (sacDmAddr c 0 + off) 8 false).sacReq c .wr a w.1 w.2) .ack = (r, t) →
      s.sacOut c pick snap (n + 1) i a off =
        (rspOk r && (t.sacOut c pick snap n (i + 1) (a + 8) (off + 8)).1, (t.sacOut c pick snap n (i + 1) (a + 8) (off + 8)).2))) ∧
  (firstTrig s.trigs = none → exec .trigDelivery s = .next s) ∧
  (∀ m u v, firstTrig s.trigs = some m → u = { s with trigs := s.trigs.erase m } →
    v = (if bitAt m.dest 0 then u.each (List.range 64) (fun c s => match s.sacSite c, u.siteOfPsq m.psq with
      | some x, some y => if x.val = y ∧ s.answers .sac (c / 16) (c % 16) then s.sacEvent c m.evt else s
      | _, _ => s) else u) →
    ∀ w x, w = (if bitAt m.dest 1 then v.hubEvent (v.rd (psqB m.psq) PSQ_TRIG.SP) m.psq m.evt else v) →
    x = (if bitAt m.dest 2 then w.svpTrig m.psq m.evt m.due else w) →
    (bitAt m.dest 3 = false ∨ u.siteOfPsq m.psq = none → exec .trigDelivery s = .next x) ∧
    (∀ st, bitAt m.dest 3 = true → u.siteOfPsq m.psq = some st → exec .trigDelivery s =
      .next (x.each (List.range 4) fun d s => if s.siteOnDie d st then s.setFcu d { s.fcu d with
        markers := (s.fcu d).markers ++ [(st, m.evt, m.c, m.due)] } else s))) ∧
  (∀ (p : Fin 16) buf bad n, buf = (s.psq p).buf.filter (fun e => (s.psq p).floor ≤ e.1) →
    bad = (s.psq p).bufBad.filter (fun o => (s.psq p).floor ≤ o) →
    n = min (min (4 - (s.psq p).bufNext % 4) (s.sdLen p (s.psq p).bufSd - (s.psq p).bufNext)) (4096 - buf.length - bad.length) →
    ((s.psq p).bufOn = false ∨ s.psqActive p = false → exec (.streamLineFill p) s = .next s) ∧
    ((s.psq p).bufOn = true → s.psqActive p = true →
      (n = 0 → exec (.streamLineFill p) s = .next (s.setPsq p { s.psq p with buf := buf, bufBad := bad })) ∧
      (n ≠ 0 → ∀ ws t, s.streamRead p (s.psq p).bufSd (s.psq p).bufNext n = (ws, t) → exec (.streamLineFill p) s =
        .next (t.setPsq p { s.psq p with
          buf := buf ++ ((List.range n).zip ws).filterMap fun e => e.2.map fun w => ((s.psq p).bufNext + e.1, w)
          bufBad := bad ++ ((List.range n).zip ws).filterMap fun e => if e.2.isNone then some ((s.psq p).bufNext + e.1) else none
          bufNext := (s.psq p).bufNext + n })))) ∧
  (∀ (p : Fin 16) (n : Fin 8), (s.sdStatus p n ≠ 1 → exec (.sdScanDone p n) s = .next s) ∧
    (s.sdStatus p n = 1 → ∀ x t el, el = s.on (psqB p + n * 0x20) SD_CTL.ELASTIC →
      s.scanLines p n el ((s.sdLen p n + 3) / 4) 0 {} = (x, t) → exec (.sdScanDone p n) s =
        .next (((t.wr (psqB p + n * 0x20) SD_STAT.STATUS x.result.1).wr (psqB p + n * 0x20) SD_ERR.OFFSET x.result.2).setPsq p
          { t.psq p with elastic := putBit (t.psq p).elastic n (el && x.result.1 == 2) })))

/-- Clock failures, returns and switches (R503 to R508). A lost REFCLK clears REFOK, unlocks every PLL but the TPLL, and fails the domains it and
they feed; a PLL that unlocks fails its domains, and is reported while REFCLK is there; the monitor acts outside NORMAL; each return ends its
condition; the Owl restores a domain once its source runs and no hold of NORMAL is in force; a failed domain moves to OSC100 where its mode lets it and
stops otherwise; a switch ends, and with
that of CFG a load that it held goes on (R499); a gated block answers as CKP_GST says; a dozing domain stops when idle.
Completion is stated of: domainSwitchDone, ckpGateWrite, blockGated, domainDozeStop, refclkLoss, refclkReturn, pllUnlock, freqMonitorWindow, pllLock,
domainRestore. -/
def Obligations.ClockDomains : Prop :=
  ∀ (s : State) (d : Fin 4),
  (s.refOk d = false → exec (.refclkLoss d) s = .next s) ∧
  (s.refOk d = true → ∀ lost u, lost = ((List.range 4).map (· + 1)).filter (fun p => s.pllLocked d p) →
    u = (s.wr (ckpB d) CKP_STAT.REFOK 0).wr (ckpB d) CKP_STAT.LOCK (s.rd (ckpB d) CKP_STAT.LOCK % 2) →
    exec (.refclkLoss d) s = .next ((((u.sourceFail d srcREFCLK).each lost fun p x => x.pllFail d p).condAs d 0 d).monitorFallback d)) ∧
  Gives (.refclkReturn d) s (s.condOff d 0 d) [CKP_STAT.REFOK.is (ckpB d) 1] ∧
  (∀ p : Fin 5,
    (s.pllLocked d p = false → exec (.pllUnlock d p) s = .next s) ∧
    (s.pllLocked d p = true → ∀ u, u = (s.wrBit (ckpB d) CKP_STAT.LOCK p false).pllFail d p →
      (u.refOk d = true → exec (.pllUnlock d p) s = .next ((u.condAs d 1 p).monitorFallback d)) ∧
      (u.refOk d = false → exec (.pllUnlock d p) s = .next (u.monitorFallback d))) ∧
    (s.refOk d = false → p ≠ 0 → exec (.pllLock d p) s = .next s) ∧
    ((s.refOk d = true ∨ p = 0) → ∀ v, v = putBit (s.rd (ckpB d) CKP_STAT.LOCK) p true →
      (v % 32 = 31 → exec (.pllLock d p) s = .next (((s.wr (ckpB d) CKP_STAT.LOCK v).condOff d 1 p).setReady d rdyCKP true)) ∧
      (v % 32 ≠ 31 → exec (.pllLock d p) s = .next ((s.wr (ckpB d) CKP_STAT.LOCK v).condOff d 1 p)))) ∧
  (∀ bad : BitVec 5,
    (s.mode = 1 ∨ bad = 0 ∨ s.por = true → exec (.freqMonitorWindow d bad) s = .next s) ∧
    (s.mode ≠ 1 → bad ≠ 0 → s.por = false → exec (.freqMonitorWindow d bad) s = .next
      ((s.each ((List.range 5).filter fun p => bitAt bad.toNat p) fun p x => x.pllFail d p).monitorFallback d))) ∧
  (∀ n : Fin 40,
    (n ≠ 9 → Gives (.domainSwitchDone d n) s s [CKP_DOM.BUSY.is (domB d n) 0]) ∧
    (n = 9 → exec (.domainSwitchDone d n) s = .next ((s.wr (domB d n) CKP_DOM.BUSY 0).cfeResume d)) ∧
    (s.domEn d n = true ∨ s.domStopped d n = true → exec (.domainDozeStop d n) s = .next s) ∧
    (s.domEn d n = false → s.domStopped d n = false → exec (.domainDozeStop d n) s = .next (s.setDomFlag (d.val * 40 + n) true)) ∧
    (s.owlRuns d = false ∨ s.sourceOk d (s.domSrc d n) = false ∨ (s.safe.held = true ∧ s.mode = 1) ∨
      (s.on (domB d n) CKP_DOM.FB = false ∧ (s.domStopped d n = false ∨ s.domEn d n = false)) →
        exec (.domainRestore d n) s = .next s) ∧
    (s.owlRuns d = true → s.sourceOk d (s.domSrc d n) = true → (s.safe.held = true → s.mode ≠ 1) →
      (s.domEn d n = true → (s.on (domB d n) CKP_DOM.FB = true ∨ s.domStopped d n = true) → Gives (.domainRestore d n) s
        (s.setDomFlag (d.val * 40 + n) false) [CKP_DOM.BUSY.is (domB d n) 1, CKP_DOM.FB.is (domB d n) 0]) ∧
      (s.domEn d n = false → s.on (domB d n) CKP_DOM.FB = true → Gives (.domainRestore d n) s s
        [CKP_DOM.BUSY.is (domB d n) 1, CKP_DOM.FB.is (domB d n) 0])) ∧
    (∀ moves, moves = (if s.mode = 1 then n.val == 2 || n.val == 9 || n.val == 11 || n.val == 15 else (domAllowed n).contains srcOSC100) →
      (moves = true → s.domFail d n = s.wr (domB d n) CKP_DOM.FB 1) ∧
      (moves = false → s.domFail d n = (s.wr (domB d n) CKP_DOM.FB 0).setDomFlag (d.val * 40 + n) true))) ∧
  (∀ j : Fin 3,
    (s.answers .ckp d 0 = false → ∀ v, exec (.ckpGateWrite d j v) s = .next s) ∧
    (s.answers .ckp d 0 = true → ∀ v : Word,
      (v.toNat ≤ gateMask j → Gives (.ckpGateWrite d j v) s s [(gstFld j).is (ckpB d) (s.rd (ckpB d) (gstFld j) ||| v.toNat),
        (gateFld j).is (ckpB d) v.toNat]) ∧
      (gateMask j < v.toNat → Gives (.ckpGateWrite d j v) s s [(gstFld j).is (ckpB d) (s.rd (ckpB d) (gstFld j) ||| v.toNat &&& gateMask j),
        (gateFld j).is (ckpB d) (v.toNat &&& gateMask j), BLK_STAT.RSVW.is (ckpB d) 1])) ∧
    (∀ i : Fin 23,
      (bitAt (s.rd (ckpB d) (gateFld j)) i = true ∨ bitAt (gateMask j) i = false → exec (.blockGated d j i) s = .next s) ∧
      (bitAt (s.rd (ckpB d) (gateFld j)) i = false → bitAt (gateMask j) i = true → Gives (.blockGated d j i) s s
        [(gstFld j).is (ckpB d) (putBit (s.rd (ckpB d) (gstFld j)) i false)])))

/-- Nap and Hibernate (R509 to R511). A region enters Nap unless it loads, relocates or holds a result, and then reads EMPTY; its power goes, and its
store contents with it, comes back after it has left, and a region with a Sett copy is reloaded. A Hibernate that something forbids sets REJ; else every
die is made safe and the time base leaves sync for HIBER; at the end of the entry memories and cores are without power, and every domain but OWL, DEN and,
under HIBKEEP, TGM stands still.
Completion is stated of: napEnter, napExit, napPowerDone, napReload, hibernateGo, hibernateComplete. -/
def Obligations.NapAndHibernate : Prop :=
  ∀ (s : State),
  (∀ r : Fin 256,
    (s.answers .ckp (r / 64) 0 = false → exec (.napEnter r) s = .next s ∧ exec (.napExit r) s = .next s) ∧
    (s.napBit r = true → exec (.napEnter r) s = .next s) ∧
    (s.napBit r = false → exec (.napExit r) s = .next s) ∧
    (s.answers .ckp (r / 64) 0 = true →
      (s.napBit r = false → (s.regionState r = frLOADING ∨ s.regionState r = frRELOCATING ∨ s.on (frB r) FR_RELOC_RES.ACKD = false) →
        Gives (.napEnter r) s s [CKP_STAT.REJ.is (ckpB (r / 64)) 1]) ∧
      (s.napBit r = false → s.regionState r ≠ frLOADING → s.regionState r ≠ frRELOCATING → s.on (frB r) FR_RELOC_RES.ACKD = true →
        exec (.napEnter r) s = .next (((s.setNap r true).setRegion r { s.region r with resetting := false }).regionEmpty r)) ∧
      (s.napBit r = true → exec (.napExit r) s =
        .next ((s.setNap r false).setRegion r { s.region r with napDue := (s.region r).slot.isSome }))) ∧
    (s.napBit r = true → s.unpowered r = true → exec (.napPowerDone r) s = .next s) ∧
    (s.napBit r = true → s.unpowered r = false → Leads (.napPowerDone r) s fun t => t.unpowered r = true ∧ t = (s.setUnpowered r true).storeLost r) ∧
    (s.napBit r = false → Leads (.napPowerDone r) s fun t => t.unpowered r = false ∧ t = s.setUnpowered r false) ∧
    (∀ a, storeAddr r ≤ a → a < storeAddr r + 0x200000 → (s.storeLost r).byte a = 0) ∧
    ((s.region r).napDue = false ∨ s.napBit r = true ∨ s.unpowered r = true ∨ s.regionState r ≠ frEMPTY ∨ s.cfeState (r / 64) ≠ cfeIDLE ∨
      (s.region r).slot = none → exec (.napReload r) s = .next s) ∧
    (∀ k, (s.region r).napDue = true → s.napBit r = false → s.unpowered r = false → s.regionState r = frEMPTY → s.cfeState (r / 64) = cfeIDLE →
      (s.region r).slot = some k → exec (.napReload r) s =
        .next (((s.setRegion r { s.region r with napDue := false }).framesFromSett r k).regionRelease r))) ∧
  (∀ (d : Fin 4) (v : Word),
    (s.answers .ckp d 0 = false → exec (.hibernateGo d v) s = .next s) ∧
    (s.answers .ckp d 0 = true → ∀ u, u = ((s.rsvBits (ckpB d) 0xF3 v.toNat).wr (ckpB d) CKP_HIB.WAKEPIN (bits v.toNat 4 4)).wrb (ckpB d)
        CKP_HIB.WPEN (bitAt v.toNat 1) →
      (bitAt v.toNat 0 = false ∨ d ≠ 0 → exec (.hibernateGo d v) s = .next u) ∧
      (bitAt v.toNat 0 = true → d = 0 → (u.hibOk = false ∨ u.hib ≠ 0) → exec (.hibernateGo d v) s = .next (u.wr (ckpB 0) CKP_STAT.REJ 1)) ∧
      (bitAt v.toNat 0 = true → d = 0 → u.hibOk = true → u.hib = 0 → exec (.hibernateGo d v) s =
        .next (({ u.packageSafe with
          hib := 1 }).leaveSync causeHIBER ptbLOST)))) ∧
  (s.hib ≠ 1 → exec .hibernateComplete s = .next s) ∧
  (s.hib = 1 → Leads .hibernateComplete s fun t => t.hib = 2 ∧ t.flights = [] ∧ t.fails = [] ∧ t.stops = [] ∧ t.stopOut = [] ∧ t.trigs = [] ∧
    (∀ d n, d < 4 → 2 ≤ n → n < 40 → n ≠ 14 → t.domStopped d n = true) ∧
    (s.hibKeep = false → ∀ d < 4, t.domStopped d 14 = true ∧ t.counting d = false) ∧
    (∀ d < 4, t.rd (ckpB d) CKP_STAT.LOCK % 32 ≤ (if s.hibKeep then 1 else 0)) ∧
    (∀ d < 4, ∀ i < 31, i ≠ rdyOWL → i ≠ rdySETT → i ≠ rdyDEN → i ≠ rdyPTB → t.ready d i = false) ∧
    (∀ a, keptInHibernate a = false → t.byte a = 0))

/-- Faults (R36, R518 to R529, R544, R551). An event sets its source's pending bit, counts it, starts a pending period, logs it at severity 1 or more, takes
the severity's reaction; a lasting condition is one event at its onset. The nets make every die safe at a falling edge and raise source 3 while they disagree;
FH_INJ raises a source with FORCE; a pending bit clears unless its condition lasts (it then starts a new period), or its severity or its reaction is 5 or 6 without LD0's Owl; a held reaction is released
on LD0 with no cause left; the running Owl escalates; the log pointer and counters follow the host; supplies and temperatures raise sources 4, 5, 6.
Completion is stated of: safeNetLow, safeNetMismatch, fhInject, fhPendClear, fhRelease, faultEscalate, fhLogRdWrite, fhCntClr, supplyOutOfWindow,
dieTemperature, supplyReturnToRange, dieTemperatureReturn. -/
def Obligations.FaultHub : Prop :=
  ∀ (s : State) (d : Fin 4),
  (∀ src sev site inst force esc t, src < 128 → sev < 7 → t = s.faultEvent d src sev site inst force esc →
    t.rd (fhB d + src * 4) FH_CNT.V = satAdd FH_CNT.V.width (s.rd (fhB d + src * 4) FH_CNT.V) 1 ∧ t.fhPending d src = true ∧
    (s.fhPending d src = false → (t.fh (fhKey d src)).since = s.now) ∧ (5 ≤ sev → t.deviceSafe = true)) ∧
  (∀ src site (inst : Nat), inst ∈ (s.fh (fhKey d src)).conds → s.condOn d src site inst = s) ∧
  (∀ p q u, u = { s with safe := { s.safe with extP := p, extQ := q } } →
    (u.deviceSafe = true → s.deviceSafe = false → exec (.safeNetLow p q) s = .next u.packageSafe.fhRefresh) ∧
    (u.deviceSafe = false ∨ s.deviceSafe = true → exec (.safeNetLow p q) s = .next u.fhRefresh)) ∧
  (s.safePLow = s.safeQLow → exec .safeNetMismatch s = .next s) ∧
  (s.safePLow ≠ s.safeQLow → exec .safeNetMismatch s = .next (s.each (List.range 4) fun d x => x.condOn d 3 none d)) ∧
  (s.answers .fh d 0 = false → ∀ v, exec (.fhInject d v) s = .next s ∧ (∀ j, exec (.fhPendClear d j v) s = .next s) ∧
    exec (.fhRelease d v) s = .next s ∧ exec (.fhLogRdWrite d v) s = .next s ∧ exec (.fhCntClr d v) s = .next s) ∧
  (s.answers .fh d 0 = true → ∀ v : Word,
    (∀ u, u = s.rsvBits (fhB d) 0x801F007F v.toNat →
      (v.toNat < 2 ^ 31 ∨ reservedSource (v.toNat % 128) = true → exec (.fhInject d v) s = .next u) ∧
      (2 ^ 31 ≤ v.toNat → reservedSource (v.toNat % 128) = false → exec (.fhInject d v) s = .next
        (u.faultEvent d (v.toNat % 128) (u.severity d (v.toNat % 128)) (if bitAt v.toNat 20 then some (bits v.toNat 16 4) else none) d true false))) ∧
    (∀ j : Fin 4, exec (.fhPendClear d j v) s = .next
      ((s.each (List.range 32) fun i x => if bitAt v.toNat i then x.fhClear d (j.val * 32 + i) else x).fhRefresh)) ∧
    (∀ j : Fin 4, ∀ i, i < 32 → v.toNat = 2 ^ i → ∀ src, src = j.val * 32 + i →
      (5 ≤ max (s.severity d src) (s.fh (fhKey d src)).react → s.ready 0 rdyOWL = false → s.fhPending d src = true → exec (.fhPendClear d j v) s =
        .next (s.wr (fhB d) FH_STAT.REJ 1).fhRefresh) ∧
      ((max (s.severity d src) (s.fh (fhKey d src)).react < 5 ∨ s.ready 0 rdyOWL = true) →
        (s.condPresent d src = false → Leads (.fhPendClear d j v) s fun t =>
          t.fhPending d src = false ∧ ∀ k, k < 128 → k ≠ src → t.fhPending d k = s.fhPending d k) ∧
        (s.condPresent d src = true → s.fhPending d src = true → Leads (.fhPendClear d j v) s fun t =>
          t.fhPending d src = true ∧ (t.fh (fhKey d src)).since = s.now ∧ (t.fh (fhKey d src)).escd = false))) ∧
    (∀ u, u = s.rsvBits (fhB d) 1 v.toNat →
      (v.toNat % 2 = 0 → exec (.fhRelease d v) s = .next u) ∧
      (v.toNat % 2 = 1 → (d ≠ 0 ∨ u.ready 0 rdyOWL = false ∨ (List.range 4).any u.holdCause = true) →
        exec (.fhRelease d v) s = .next (u.wr (fhB d) FH_STAT.REJ 1)) ∧
      (v.toNat % 2 = 1 → d = 0 → u.ready 0 rdyOWL = true → (List.range 4).any u.holdCause = false → Leads (.fhRelease d v) s fun t =>
        t.safe.held = false ∧ t = State.fhRefresh { u with safe := { u.safe with held := false } })) ∧
    (256 < seqDiff 32 (s.rd (fhB d) FH_LOG_WR.V) v.toNat → Gives (.fhLogRdWrite d v) s s [BLK_STAT.RSVW.is (fhB d) 1]) ∧
    (seqDiff 32 (s.rd (fhB d) FH_LOG_WR.V) v.toNat ≤ 256 → Gives (.fhLogRdWrite d v) s s [FH_LOG_RD.V.is (fhB d) v.toNat]) ∧
    (v.toNat < 128 → Gives (.fhCntClr d v) s s [FH_CNT.V.is (fhB d + v.toNat * 4) 0]) ∧
    (2 ^ 31 ≤ v.toNat → v.toNat < 2 ^ 31 + 128 → Gives (.fhCntClr d v) s s ((List.range 128).map fun i => FH_CNT.V.is (fhB d + i * 4) 0))) ∧
  (∀ src : Fin 128, ∀ e, e = s.rd (fhB d + src * 4) FH_SEV.ESC →
    (s.owlRuns d = false ∨ s.fhPending d src = false ∨ (s.fh (fhKey d src)).escd = true ∨ e < 3 ∨ e ≤ s.severity d src ∨
      s.now < (s.fh (fhKey d src)).since + s.rd (fhB d) FH_ESC_TMO.MS * 4000000 → exec (.faultEscalate d src) s = .next s) ∧
    (s.owlRuns d = true → s.fhPending d src = true → (s.fh (fhKey d src)).escd = false → 3 ≤ e → s.severity d src < e →
      (s.fh (fhKey d src)).since + s.rd (fhB d) FH_ESC_TMO.MS * 4000000 ≤ s.now →
      exec (.faultEscalate d src) s = .next (s.faultEvent d src e none d false true))) ∧
  (∀ n : Fin 16, (s.por = true → exec (.supplyOutOfWindow d n) s = .next s) ∧
    (s.por = false → exec (.supplyOutOfWindow d n) s = .next (s.condAs d 4 n)) ∧
    exec (.supplyReturnToRange d n) s = .next (s.condOff d 4 n)) ∧
  (∀ t : Int,
    (s.por = true ∨ t ≤ 100 → exec (.dieTemperature d t) s = .next s) ∧
    (s.por = false → 100 < t → t ≤ 110 → exec (.dieTemperature d t) s = .next (s.condOn d 5 none d)) ∧
    (s.por = false → 110 < t → exec (.dieTemperature d t) s = .next ((s.condOn d 5 none d).condOn d 6 none d)) ∧
    (110 < t → exec (.dieTemperatureReturn d t) s = .next s) ∧
    (100 < t → t ≤ 110 → exec (.dieTemperatureReturn d t) s = .next (s.condOff d 6 d)) ∧
    (t ≤ 100 → exec (.dieTemperatureReturn d t) s = .next ((s.condOff d 6 d).condOff d 5 d)))

/-- POR, start-up and wake (R25, R33, R47 to R50, R511, R512, R544). POR leaves Den's and Sett's registers and Sett's bytes; every other field reads its
reset value and every other byte 0. Its release fixes ROT, LEAD and the straps, starts the Owls, and makes the fault hubs ready; a slot whose STAGE the POR cut off is EMPTY (R315). DEVNUM is written once.
The Owl's poll makes ready what follows from it. A wake needs its event and REFCLK on every die; it keeps memory, DEVNUM, the mode and
an edge that failed by mismatch (R27). The poll loads each bank's nominal VREFB once the ARP answers (R102).
Completion is stated of: porAssert, porRelease, readyPoll, devnumWrite, hibernateWake, cdcReadyResume. -/
def Obligations.StartUp : Prop :=
  ∀ (s : State),
  Leads .porAssert s (fun t => t.por = true ∧ t.pins = [] ∧ t.flights = [] ∧ t.safe.held = false ∧ t.hib = 0 ∧ t.pending = s.pending ∧
    t.now = s.now ∧ t.confirmAt = s.confirmAt ∧
    (∀ b f, keptDen (keyOff (f.key b)) = true ∨ keptSett (keyOff (f.key b)) (keyLsb (f.key b)) = true → t.rd b f = s.rd b f) ∧
    (∀ b f, keptDen (keyOff (f.key b)) = false → keptSett (keyOff (f.key b)) (keyLsb (f.key b)) = false → t.rd b f = f.rst) ∧
    (∀ a, 0x4100000000 ≤ a → a < 0x4120000000 → t.byte a = s.byte a) ∧ (∀ a, a < 0x4100000000 ∨ 0x4120000000 ≤ a → t.byte a = 0)) ∧
  (∀ straps : BitVec 16,
    (s.por = false → exec (.porRelease straps) s = .next s) ∧
    (s.por = true → Leads (.porRelease straps) s fun t => t.por = false ∧ t.rd (svpB 0) SVP_STRAP.RAW = straps.toNat ∧ t.mode = s.mode ∧
      (∀ a, t.byte a = s.byte a) ∧
      (∀ d, d < 4 → t.rd (dctlB d) DCTL_ROT.ROT = d ∧ t.on (dctlB d) DCTL_ROT.LEAD = (d == 0) ∧ t.ready d rdyFH = true ∧
        (t.owl d).halted = s.haltOnReset d ∧
        ∀ kind k, kind < 3 → k < 2 → t.slotState d kind k = if s.slotState d kind k = 1 then 0 else s.slotState d kind k) ∧
      (∀ r, r < 256 → Config.fuseColumn r = 0 ∨ t.on (frB r) FR_STAT.SPARE_USED = true))) ∧
  (∀ (d : Fin 4) (v : Word),
    (s.answers .dctl d 0 = false → exec (.devnumWrite d v) s = .next s) ∧
    (s.answers .dctl d 0 = true →
      (d ≠ 0 → Gives (.devnumWrite d v) s s [BLK_STAT.LOCKW.is (dctlB d) 1]) ∧
      (d = 0 → v.toNat < 16384 → s.on (dctlB 0) DCTL_DEVNUM.LOCKED = true → Gives (.devnumWrite d v) s s [BLK_STAT.LOCKW.is (dctlB 0) 1]) ∧
      (d = 0 → v.toNat < 16384 → s.on (dctlB 0) DCTL_DEVNUM.LOCKED = false → Gives (.devnumWrite d v) s s
        [DCTL_DEVNUM.LOCKED.is (dctlB 0) 1, DCTL_DEVNUM.DEVNUM.is (dctlB 0) v.toNat]))) ∧
  (∀ d : Fin 4,
    (s.owlRuns d = false ∨ s.on (dctlB d) DCTL_DRST.BUSY = true ∨ s.hib ≠ 0 → exec (.readyPoll d) s = .next s) ∧
    (s.owlRuns d = true → s.on (dctlB d) DCTL_DRST.BUSY = false → s.hib = 0 → Leads (.readyPoll d) s fun t =>
      t.ready d rdySETT = true ∧ t.ready d rdyDEN = true ∧ (∀ i, i < 31 → s.ready d i = true → t.ready d i = true) ∧
      (s.ready d rdyCKP = true → ∀ i ∈ [rdyPSQ, rdyFCU, rdyRAE, rdySAC, rdyLCK, rdySVP], t.ready d i = true) ∧
      (s.ready d rdyARP = true → ∀ k, k < 18 → (t.bank (d.val * 18 + k)).vref = true) ∧
      (s.ready d rdyARP = true → s.allCal d = true → t.ready d rdyTCB = true) ∧
      (s.ready d (rdyMP 0) = true ∨ s.ready d (rdyMP 1) = true → t.ready d rdyIME = true)) ∧
    (s.on (dctlB d) DCTL_DRST.BUSY = true → exec (.cdcReadyResume d) s = .next s) ∧
    (s.on (dctlB d) DCTL_DRST.BUSY = false → exec (.cdcReadyResume d) s = .next (s.setShut d false))) ∧
  (∀ w : Wake,
    (s.hib ≠ 2 ∨ s.wakes w = false ∨ (∃ d < 4, s.refOk d = false) → exec (.hibernateWake w) s = .next s) ∧
    (s.hib = 2 → s.wakes w = true → (∀ d < 4, s.refOk d = true) → Leads (.hibernateWake w) s fun t =>
      t.hib = 0 ∧ t.por = false ∧ (∀ a, t.byte a = s.byte a) ∧ t.mode = s.mode ∧
      t.rd (dctlB 0) DCTL_DEVNUM.DEVNUM = s.rd (dctlB 0) DCTL_DEVNUM.DEVNUM ∧
      t.rd (dctlB 0) DCTL_DEVNUM.LOCKED = s.rd (dctlB 0) DCTL_DEVNUM.LOCKED ∧
      (∀ d < 4, t.rd (dctlB d) DCTL_RCAUSE.CAUSE = 3 ∧ t.ready d rdyFH = true) ∧ (s.hibKeep = true → t.ptb = s.ptb) ∧
      (∀ d e, d < 4 → e < 2 → (s.bundle (bundleNo d e 20)).mismatch = true → (t.bundle (bundleNo d e 20)).mismatch = true)))

/-- Die reset and block reset (R512 to R514). A die reset, by the host or the running Owl, leaves READY with its kept functions at most, the regions
EMPTY, the sequencers IDLE, no fault pending, BUSY set and its cause recorded, and ends; while one runs nothing more happens. CKP_BRST, while no die reset runs, resets the blocks it names:
every register field of such a block reads its reset value.
Completion is stated of: dieReset, dieResetDone, blockReset. -/
def Obligations.DieAndBlockResets : Prop :=
  ∀ (s : State) (d : Fin 4),
  (s.on (dctlB d) DCTL_DRST.BUSY = true → ∀ o, exec (.dieReset d o) s = .next s) ∧
  (s.answers .dctl d 0 = false → exec (.dieReset d false) s = .next s) ∧
  (s.owlRuns d = false → exec (.dieReset d true) s = .next s) ∧
  (∀ o, (o = false → s.answers .dctl d 0 = true) → (o = true → s.owlRuns d = true) → s.on (dctlB d) DCTL_DRST.BUSY = false →
    Leads (.dieReset d o) s fun t => t.on (dctlB d) DCTL_DRST.BUSY = true ∧ t.rd (dctlB d) DCTL_RCAUSE.CAUSE = (if o then 2 else 1) ∧
      (∀ i, 9 ≤ i → i < 31 → t.ready d i = false) ∧ (∀ n, n < 64 → t.regionState (d.val * 64 + n) = frEMPTY) ∧
      (∀ n, n < 4 → t.psqState (d.val * 4 + n) = psqIDLE) ∧ (∀ src, src < 128 → t.fhPending d src = false) ∧
      (∀ c ∈ t.pins, c.1 / 576 ≠ d.val) ∧ (∀ f ∈ t.flights, iniDie f.req.ini ≠ d.val)) ∧
  Gives (.dieResetDone d) s s [DCTL_DRST.BUSY.is (dctlB d) 0] ∧
  (s.answers .ckp d 0 = false → ∀ j v, exec (.blockReset d j v) s = .next s) ∧
  (s.answers .ckp d 0 = true → ∀ (j : Fin 3) (v : Word),
    (s.on (dctlB d) DCTL_DRST.BUSY = true → exec (.blockReset d j v) s = .next (s.rsvBits (ckpB d) (gateMask j) v.toNat)) ∧
    (s.on (dctlB d) DCTL_DRST.BUSY = false → exec (.blockReset d j v) s = .next ((s.rsvBits (ckpB d) (gateMask j) v.toNat).each
      ((List.range 23).filter fun i => bitAt (v.toNat &&& gateMask j) i) fun i x => x.blockReset d j i)) ∧
    (∀ i, i < 23 → v.toNat = 2 ^ i → v.toNat ≤ gateMask j → s.on (dctlB d) DCTL_DRST.BUSY = false → Leads (.blockReset d j v) s fun t => t = s.blockReset d j i ∧
      (∀ f : Fld, f.lsb < 32 →
        (j = 1 → f.off < 0x10000 → t.rd (sacB (d.val * 16 + i)) f = f.rst) ∧
        (j = 2 → f.off < 0x100000 → t.rd (tcbB (d.val * 18 + i)) f = f.rst) ∧
        (∀ e ∈ [(3, Blk.gpt, 0, 0x100000), (4, Blk.mp, 0, 0x80000), (5, Blk.mp, 1, 0x80000), (6, Blk.ime, 0, 0x100000),
            (7, Blk.gsl, 0, 0x100000), (9, Blk.psq, 0, 0x40000), (10, Blk.psq, 1, 0x40000), (11, Blk.psq, 2, 0x40000),
            (12, Blk.psq, 3, 0x40000), (13, Blk.fcu, 0, 0x100000), (14, Blk.rae, 0, 0x80000), (15, Blk.rae, 1, 0x80000),
            (20, Blk.lck, 0, 0x100000), (21, Blk.arp, 0, 0x100000)], j = 0 → i = e.1 → f.off < e.2.2.2 →
          t.rd (e.2.1.base d e.2.2.1) f = f.rst)) ∧
      (j = 2 → ∀ k, k / 32 = d.val * 18 + i → t.pin k = {}) ∧
      (j = 0 → i = 1 → ∀ n, n < 64 → t.regionState (d.val * 64 + n) = frEMPTY)))
end

