-- ==== Sys2Proof/Laws/KV.lean ====
section
/-! SUPPORT. Laws of the sparse maps: a key just written reads back, every other key reads as before, and each operation keeps
the rising order of the keys and the canonical form. -/
namespace Sys2Proof.Machine.KV
variable {α : Type}

theorem get_insert (d : α) (k j : Nat) (v : α) (m : KV α) (h : ∀ e ∈ m, e.1 ≠ k) :
    get d j (insert k v m) = if j = k then v else get d j m := by
  induction m with
  | nil => simp [insert, get, eq_comm]
  | cons e m ih =>
    obtain ⟨k', v'⟩ := e
    have hk : k' ≠ k := h (k', v') (by simp)
    have ih := ih fun e he => h e (by simp [he])
    simp only [insert]
    split <;> simp only [get, ih] <;> grind

theorem get_erase (d : α) (k j : Nat) (m : KV α) : get d j (erase k m) = if j = k then d else get d j m := by
  induction m with
  | nil => simp [erase, get]
  | cons e m ih => simp only [erase]; split <;> simp only [get, ih] <;> grind

theorem ne_of_mem_erase (k : Nat) (m : KV α) : ∀ e ∈ erase k m, e.1 ≠ k := by
  induction m with
  | nil => simp [erase]
  | cons e m ih =>
    intro x hx
    simp only [erase] at hx
    split at hx <;> grind

/-- Read after write of any key. -/
theorem get_set [DecidableEq α] (d : α) (k j : Nat) (v : α) (m : KV α) :
    get d j (set d k v m) = if j = k then v else get d j m := by
  unfold set
  split
  · subst v; exact get_erase d k j m
  · rw [get_insert d k j v _ (ne_of_mem_erase k m), get_erase]; grind

theorem get_put (d : α) (k j : Nat) (v : α) (m : KV α) : get d j (put k v m) = if j = k then v else get d j m := by
  unfold put
  rw [get_insert d k j v _ (ne_of_mem_erase k m), get_erase]; grind

theorem erase_of_absent (k : Nat) (m : KV α) (h : ∀ e ∈ m, e.1 ≠ k) : erase k m = m := by
  induction m with
  | nil => rfl
  | cons e m ih =>
    have h1 := h e (by simp)
    simp only [erase]; rw [if_neg h1, ih fun x hx => h x (by simp [hx])]
theorem erase_insert (k : Nat) (v : α) (m : KV α) (h : ∀ e ∈ m, e.1 ≠ k) : erase k (insert k v m) = m := by
  induction m with
  | nil => simp [insert, erase]
  | cons e m ih =>
    have h1 := h e (by simp)
    simp only [insert]
    split
    · simp only [erase, if_true]; rw [if_neg h1, erase_of_absent k m fun x hx => h x (by simp [hx])]
    · simp only [erase]; rw [if_neg h1, ih fun x hx => h x (by simp [hx])]
/-- Of two writes at one key the second stays. -/
@[simp] theorem set_set [DecidableEq α] (d : α) (k : Nat) (v w : α) (m : KV α) : set d k w (set d k v m) = set d k w m := by
  have h : erase k (set d k v m) = erase k m := by
    unfold set
    split
    · exact erase_of_absent k _ (ne_of_mem_erase k m)
    · exact erase_insert k v _ (ne_of_mem_erase k m)
  show (if w = d then erase k (set d k v m) else insert k w (erase k (set d k v m))) = _
  rw [h]; rfl
@[simp] theorem put_put (k : Nat) (v w : α) (m : KV α) : put k w (put k v m) = put k w m := by
  unfold put; rw [erase_insert k v _ (ne_of_mem_erase k m)]

@[simp] theorem get_set_self [DecidableEq α] (d : α) (k : Nat) (v : α) (m : KV α) : get d k (set d k v m) = v := by
  simp [get_set]
@[simp] theorem get_put_self (d : α) (k : Nat) (v : α) (m : KV α) : get d k (put k v m) = v := by simp [get_put]
theorem get_set_ne [DecidableEq α] (d : α) {k j : Nat} (v : α) (m : KV α) (h : j ≠ k) :
    get d j (set d k v m) = get d j m := by simp [get_set, h]
theorem get_put_ne (d : α) {k j : Nat} (v : α) (m : KV α) (h : j ≠ k) : get d j (put k v m) = get d j m := by
  simp [get_put, h]

/-! Rising keys. -/

theorem risingFrom_mono {lo lo' : Nat} (h : lo' ≤ lo) {m : KV α} (hm : risingFrom lo m = true) : risingFrom lo' m = true := by
  cases m with
  | nil => rfl
  | cons e m =>
    simp only [risingFrom, Bool.and_eq_true, decide_eq_true_eq] at *
    exact ⟨by omega, hm.2⟩

theorem risingFrom_filter (p : Nat × α → Bool) : ∀ {lo : Nat} {m : KV α}, risingFrom lo m = true →
    risingFrom lo (m.filter p) = true := by
  intro lo m
  induction m generalizing lo with
  | nil => intro _; rfl
  | cons e m ih =>
    intro h
    simp only [risingFrom, Bool.and_eq_true, decide_eq_true_eq] at h
    rw [List.filter_cons]
    split
    · simp only [risingFrom, Bool.and_eq_true, decide_eq_true_eq]; exact ⟨h.1, ih h.2⟩
    · exact risingFrom_mono (by omega) (ih h.2)

theorem erase_eq_filter (k : Nat) (m : KV α) : erase k m = m.filter fun e => !decide (e.1 = k) := by
  induction m with
  | nil => rfl
  | cons e m ih => simp only [erase, List.filter_cons, ih]; split <;> simp_all

theorem risingFrom_erase (k : Nat) {lo : Nat} {m : KV α} (h : risingFrom lo m = true) :
    risingFrom lo (erase k m) = true := by rw [erase_eq_filter]; exact risingFrom_filter _ h

theorem risingFrom_insert (k : Nat) (v : α) : ∀ {lo : Nat} {m : KV α}, risingFrom lo m = true → lo ≤ k →
    (∀ e ∈ m, e.1 ≠ k) → risingFrom lo (insert k v m) = true := by
  intro lo m
  induction m generalizing lo with
  | nil => intro _ h _; simp [insert, risingFrom, h]
  | cons e m ih =>
    intro h hk hne
    simp only [risingFrom, Bool.and_eq_true, decide_eq_true_eq] at h
    have hn : e.1 ≠ k := hne e (by simp)
    simp only [insert]
    split
    · simp only [risingFrom, Bool.and_eq_true, decide_eq_true_eq]; exact ⟨hk, by omega, h.2⟩
    · simp only [risingFrom, Bool.and_eq_true, decide_eq_true_eq]
      exact ⟨h.1, ih h.2 (by omega) fun e he => hne e (by simp [he])⟩

theorem risingFrom_put (k : Nat) (v : α) {m : KV α} (h : risingFrom 0 m = true) : risingFrom 0 (put k v m) = true :=
  risingFrom_insert k v (risingFrom_erase k h) (Nat.zero_le k) (ne_of_mem_erase k m)

theorem risingFrom_set [DecidableEq α] (d : α) (k : Nat) (v : α) {m : KV α} (h : risingFrom 0 m = true) :
    risingFrom 0 (set d k v m) = true := by
  unfold set
  split
  · exact risingFrom_erase k h
  · exact risingFrom_put k v h

theorem risingFrom_dropRange (lo hi : Nat) {m : KV α} (h : risingFrom 0 m = true) :
    risingFrom 0 (dropRange lo hi m) = true := risingFrom_filter _ h

theorem risingFrom_foldl (xs : List (Nat × α)) {m : KV α} (h : risingFrom 0 m = true) :
    risingFrom 0 (xs.foldl (fun m e => put e.1 e.2 m) m) = true := by
  induction xs generalizing m with
  | nil => exact h
  | cons e xs ih => exact ih (risingFrom_put e.1 e.2 h)

/-! The canonical form. -/

theorem mem_insert (k : Nat) (v : α) (m : KV α) : ∀ e ∈ insert k v m, e = (k, v) ∨ e ∈ m := by
  induction m with
  | nil => simp [insert]
  | cons e m ih => intro x hx; simp only [insert] at hx; split at hx <;> grind

variable [DecidableEq α] {d : α} {m : KV α}

theorem wf_filter (p : Nat × α → Bool) (h : wf d m = true) : wf d (m.filter p) = true := by
  simp only [wf, Bool.and_eq_true, List.all_eq_true] at *
  exact ⟨risingFrom_filter p h.1, fun e he => h.2 e (List.mem_filter.1 he).1⟩

theorem wf_erase (k : Nat) (h : wf d m = true) : wf d (erase k m) = true := by rw [erase_eq_filter]; exact wf_filter _ h

theorem wf_set (k : Nat) (v : α) (h : wf d m = true) : wf d (set d k v m) = true := by
  unfold set
  split
  · exact wf_erase k h
  · rename_i hv
    have he := wf_erase k h
    simp only [wf, Bool.and_eq_true, List.all_eq_true, decide_eq_true_eq] at *
    refine ⟨risingFrom_put k v h.1, fun e hm => ?_⟩
    rcases mem_insert k v _ e hm with rfl | hm
    · exact hv
    · exact he.2 e hm

theorem wf_dropRange (lo hi : Nat) (h : wf d m = true) : wf d (dropRange lo hi m) = true := wf_filter _ h

/-! Two canonical maps that read alike at every key are equal. -/

omit [DecidableEq α] in
theorem get_of_lt (k : Nat) (m : KV α) (h : ∀ e ∈ m, k < e.1) : get d k m = d := by
  induction m with
  | nil => rfl
  | cons e m ih =>
    have := h e (by simp)
    simp only [get]; rw [if_neg (by omega)]; exact ih fun e he => h e (by simp [he])

omit [DecidableEq α] in
theorem le_of_rising {lo : Nat} {m : KV α} (h : risingFrom lo m = true) : ∀ e ∈ m, lo ≤ e.1 := by
  induction m generalizing lo with
  | nil => simp
  | cons e m ih =>
    simp only [risingFrom, Bool.and_eq_true, decide_eq_true_eq] at h
    intro x hx
    rcases List.mem_cons.1 hx with rfl | hx
    · exact h.1
    · have := ih h.2 x hx; omega

end Sys2Proof.Machine.KV
end

