-- ==== Sys2Proof/Laws/FrameAccess.lean ====
section
/-! SUPPORT. What each operation of Machine/Access.lean can change (Laws/Frame.lean). -/
namespace Sys2Proof.Machine

theorem State.setPin_frame {s : State} {i : Nat} {x : PinX} : Frame 4096 s (State.setPin s i x) := by
  unfold State.setPin
  repeat' first
    | exact rfl | intro _
    | (with_reducible first | exact Frame.refl _ _ | assumption)
    | split
    | with_reducible apply Frame.step Frame.upd_pins

theorem State.setBank_frame {s : State} {i : Nat} {x : BankX} : Frame 8192 s (State.setBank s i x) := by
  unfold State.setBank
  repeat' first
    | exact rfl | intro _
    | (with_reducible first | exact Frame.refl _ _ | assumption)
    | split
    | with_reducible apply Frame.step Frame.upd_banks

theorem State.setPmu_frame {s : State} {i : Nat} {x : PmuX} : Frame 32768 s (State.setPmu s i x) := by
  unfold State.setPmu
  repeat' first
    | exact rfl | intro _
    | (with_reducible first | exact Frame.refl _ _ | assumption)
    | split
    | with_reducible apply Frame.step Frame.upd_pmus

theorem State.setPsq_frame {s : State} {i : Nat} {x : PsqX} : Frame 262144 s (State.setPsq s i x) := by
  unfold State.setPsq
  repeat' first
    | exact rfl | intro _
    | (with_reducible first | exact Frame.refl _ _ | assumption)
    | split
    | with_reducible apply Frame.step Frame.upd_psqs

theorem State.setFh_frame {s : State} {i : Nat} {x : FhSrc} : Frame 67108864 s (State.setFh s i x) := by
  unfold State.setFh
  repeat' first
    | exact rfl | intro _
    | (with_reducible first | exact Frame.refl _ _ | assumption)
    | split
    | with_reducible apply Frame.step Frame.upd_fhs

theorem State.setGuest_frame {s : State} {i : Nat} {x : GuestPhase} : Frame 65536 s (State.setGuest s i x) := by
  unfold State.setGuest
  repeat' first
    | exact rfl | intro _
    | (with_reducible first | exact Frame.refl _ _ | assumption)
    | split
    | with_reducible apply Frame.step Frame.upd_guests

theorem State.setArp_frame {s : State} {i : Nat} {x : ArpX} : Frame 131072 s (State.setArp s i x) := by
  unfold State.setArp
  repeat' first
    | exact rfl | intro _
    | (with_reducible first | exact Frame.refl _ _ | assumption)
    | split
    | with_reducible apply Frame.step Frame.upd_arps

theorem State.setTick_frame {s : State} {i x : Nat} : Frame 4194304 s (State.setTick s i x) := by
  unfold State.setTick
  repeat' first
    | exact rfl | intro _
    | (with_reducible first | exact Frame.refl _ _ | assumption)
    | split
    | with_reducible apply Frame.step Frame.upd_ptb

theorem State.setCounting_frame {s : State} {i : Nat} {x : Bool} : Frame 8388608 s (State.setCounting s i x) := by
  unfold State.setCounting
  repeat' first
    | exact rfl | intro _
    | (with_reducible first | exact Frame.refl _ _ | assumption)
    | split
    | with_reducible apply Frame.step Frame.upd_ptbRun

theorem State.setDomFlag_frame {s : State} {i : Nat} {x : Bool} : Frame 536870912 s (State.setDomFlag s i x) := by
  unfold State.setDomFlag
  repeat' first
    | exact rfl | intro _
    | (with_reducible first | exact Frame.refl _ _ | assumption)
    | split
    | with_reducible apply Frame.step Frame.upd_domStops

theorem State.setValid_frame {s : State} {i : Nat} {x : Bool} : Frame 8 s (State.setValid s i x) := by
  unfold State.setValid
  repeat' first
    | exact rfl | intro _
    | (with_reducible first | exact Frame.refl _ _ | assumption)
    | split
    | with_reducible apply Frame.step Frame.upd_wordOk

theorem State.setSyndrome_frame {s : State} {i x : Nat} : Frame 16 s (State.setSyndrome s i x) := by
  unfold State.setSyndrome
  repeat' first
    | exact rfl | intro _
    | (with_reducible first | exact Frame.refl _ _ | assumption)
    | split
    | with_reducible apply Frame.step Frame.upd_wordChk

theorem State.setLineSyn_frame {s : State} {i x : Nat} : Frame 32 s (State.setLineSyn s i x) := by
  unfold State.setLineSyn
  repeat' first
    | exact rfl | intro _
    | (with_reducible first | exact Frame.refl _ _ | assumption)
    | split
    | with_reducible apply Frame.step Frame.upd_lineChk

theorem State.setLinePoison_frame {s : State} {i : Nat} {x : Bool} : Frame 64 s (State.setLinePoison s i x) := by
  unfold State.setLinePoison
  repeat' first
    | exact rfl | intro _
    | (with_reducible first | exact Frame.refl _ _ | assumption)
    | split
    | with_reducible apply Frame.step Frame.upd_linePsn

theorem State.setPage_frame {s : State} {i : Nat} {x : PageX} : Frame 128 s (State.setPage s i x) := by
  unfold State.setPage
  repeat' first
    | exact rfl | intro _
    | (with_reducible first | exact Frame.refl _ _ | assumption)
    | split
    | with_reducible apply Frame.step Frame.upd_pages

theorem State.setCmp_frame {s : State} {i : Nat} {x : CmpX} : Frame 1073741824 s (State.setCmp s i x) := by
  unfold State.setCmp
  repeat' first
    | exact rfl | intro _
    | (with_reducible first | exact Frame.refl _ _ | assumption)
    | split
    | with_reducible apply Frame.step Frame.upd_cmps

theorem State.setStorePort_frame {s : State} {i : Nat} {x : StoreX} :
    Frame 17179869184 s (State.setStorePort s i x) := by
  unfold State.setStorePort
  repeat' first
    | exact rfl | intro _
    | (with_reducible first | exact Frame.refl _ _ | assumption)
    | split
    | with_reducible apply Frame.step Frame.upd_storePorts

theorem State.setPort_frame {s : State} {i : Nat} {x : MpX} : Frame 34359738368 s (State.setPort s i x) := by
  unfold State.setPort
  repeat' first
    | exact rfl | intro _
    | (with_reducible first | exact Frame.refl _ _ | assumption)
    | split
    | with_reducible apply Frame.step Frame.upd_ports

theorem State.setSweep_frame {s : State} {i : Nat} {x : SweepX} : Frame 68719476736 s (State.setSweep s i x) := by
  unfold State.setSweep
  repeat' first
    | exact rfl | intro _
    | (with_reducible first | exact Frame.refl _ _ | assumption)
    | split
    | with_reducible apply Frame.step Frame.upd_sweeps

theorem State.setImeKey_frame {s : State} {i : Nat} {x : BitVec 256} :
    Frame 549755813888 s (State.setImeKey s i x) := by
  unfold State.setImeKey
  repeat' first
    | exact rfl | intro _
    | (with_reducible first | exact Frame.refl _ _ | assumption)
    | split
    | with_reducible apply Frame.step Frame.upd_imeKeys

theorem State.setImeOp_frame {s : State} {i : Nat} {x : Option ImeOp} :
    Frame 137438953472 s (State.setImeOp s i x) := by
  unfold State.setImeOp
  repeat' first
    | exact rfl | intro _
    | (with_reducible first | exact Frame.refl _ _ | assumption)
    | split
    | with_reducible apply Frame.step Frame.upd_imeOps

theorem State.setBundle_frame {s : State} {i : Nat} {x : BundleX} : Frame 1099511627776 s (State.setBundle s i x) := by
  unfold State.setBundle
  repeat' first
    | exact rfl | intro _
    | (with_reducible first | exact Frame.refl _ _ | assumption)
    | split
    | with_reducible apply Frame.step Frame.upd_bundles

theorem State.setCrossBus_frame {s : State} {i x : Nat} : Frame 17592186044416 s (State.setCrossBus s i x) := by
  unfold State.setCrossBus
  repeat' first
    | exact rfl | intro _
    | (with_reducible first | exact Frame.refl _ _ | assumption)
    | split
    | with_reducible apply Frame.step Frame.upd_crossBuses

theorem State.setCrossPipe_frame {s : State} {i : Nat} {x : List Nat} :
    Frame 4398046511104 s (State.setCrossPipe s i x) := by
  unfold State.setCrossPipe
  repeat' first
    | exact rfl | intro _
    | (with_reducible first | exact Frame.refl _ _ | assumption)
    | split
    | with_reducible apply Frame.step Frame.upd_crossPipes

theorem State.setLineReg_frame {s : State} {i x : Nat} : Frame 8796093022208 s (State.setLineReg s i x) := by
  unfold State.setLineReg
  repeat' first
    | exact rfl | intro _
    | (with_reducible first | exact Frame.refl _ _ | assumption)
    | split
    | with_reducible apply Frame.step Frame.upd_lineRegs

theorem State.setRelayBit_frame {s : State} {i x : Nat} : Frame 35184372088832 s (State.setRelayBit s i x) := by
  unfold State.setRelayBit
  repeat' first
    | exact rfl | intro _
    | (with_reducible first | exact Frame.refl _ _ | assumption)
    | split
    | with_reducible apply Frame.step Frame.upd_relayBits

theorem State.setFcu_frame {s : State} {i : Nat} {x : FcuX} : Frame 140737488355328 s (State.setFcu s i x) := by
  unfold State.setFcu
  repeat' first
    | exact rfl | intro _
    | (with_reducible first | exact Frame.refl _ _ | assumption)
    | split
    | with_reducible apply Frame.step Frame.upd_fcus

theorem State.setFsx_frame {s : State} {i : Nat} {x : FsX} : Frame 281474976710656 s (State.setFsx s i x) := by
  unfold State.setFsx
  repeat' first
    | exact rfl | intro _
    | (with_reducible first | exact Frame.refl _ _ | assumption)
    | split
    | with_reducible apply Frame.step Frame.upd_fcuSites

theorem State.setFcuTag_frame {s : State} {i x : Nat} : Frame 562949953421312 s (State.setFcuTag s i x) := by
  unfold State.setFcuTag
  repeat' first
    | exact rfl | intro _
    | (with_reducible first | exact Frame.refl _ _ | assumption)
    | split
    | with_reducible apply Frame.step Frame.upd_fcuTags

theorem State.setRae_frame {s : State} {i : Nat} {x : RaeX} : Frame 1125899906842624 s (State.setRae s i x) := by
  unfold State.setRae
  repeat' first
    | exact rfl | intro _
    | (with_reducible first | exact Frame.refl _ _ | assumption)
    | split
    | with_reducible apply Frame.step Frame.upd_raes

theorem State.setCell_frame {s : State} {i : Nat} {x : CellX} : Frame 2251799813685248 s (State.setCell s i x) := by
  unfold State.setCell
  repeat' first
    | exact rfl | intro _
    | (with_reducible first | exact Frame.refl _ _ | assumption)
    | split
    | with_reducible apply Frame.step Frame.upd_cells

theorem State.setRegion_frame {s : State} {i : Nat} {x : RegionX} :
    Frame 4503599627370496 s (State.setRegion s i x) := by
  unfold State.setRegion
  repeat' first
    | exact rfl | intro _
    | (with_reducible first | exact Frame.refl _ _ | assumption)
    | split
    | with_reducible apply Frame.step Frame.upd_regionXs

theorem State.setUpset_frame {s : State} {i x : Nat} : Frame 9007199254740992 s (State.setUpset s i x) := by
  unfold State.setUpset
  repeat' first
    | exact rfl | intro _
    | (with_reducible first | exact Frame.refl _ _ | assumption)
    | split
    | with_reducible apply Frame.step Frame.upd_upsets

theorem State.setCfe_frame {s : State} {i : Nat} {x : CfeX} : Frame 18014398509481984 s (State.setCfe s i x) := by
  unfold State.setCfe
  repeat' first
    | exact rfl | intro _
    | (with_reducible first | exact Frame.refl _ _ | assumption)
    | split
    | with_reducible apply Frame.step Frame.upd_cfes

theorem State.setChk_frame {s : State} {i : Nat} {x : ChkX} : Frame 36028797018963968 s (State.setChk s i x) := by
  unfold State.setChk
  repeat' first
    | exact rfl | intro _
    | (with_reducible first | exact Frame.refl _ _ | assumption)
    | split
    | with_reducible apply Frame.step Frame.upd_chks

theorem State.setBoot_frame {s : State} {i : Nat} {x : BootStage} :
    Frame 72057594037927936 s (State.setBoot s i x) := by
  unfold State.setBoot
  repeat' first
    | exact rfl | intro _
    | (with_reducible first | exact Frame.refl _ _ | assumption)
    | split
    | with_reducible apply Frame.step Frame.upd_boots

theorem State.setKeyOf_frame {s : State} {i : Nat} {x : List (BitVec 8)} :
    Frame 144115188075855872 s (State.setKeyOf s i x) := by
  unfold State.setKeyOf
  repeat' first
    | exact rfl | intro _
    | (with_reducible first | exact Frame.refl _ _ | assumption)
    | split
    | with_reducible apply Frame.step Frame.upd_keys

theorem State.setRelayBuf_frame {s : State} {i : Nat} {x : List (BitVec 8)} :
    Frame 576460752303423488 s (State.setRelayBuf s i x) := by
  unfold State.setRelayBuf
  repeat' first
    | exact rfl | intro _
    | (with_reducible first | exact Frame.refl _ _ | assumption)
    | split
    | with_reducible apply Frame.step Frame.upd_relayBufs

theorem State.setSett_frame {s : State} {i : Nat} {x : SettX} : Frame 2305843009213693952 s (State.setSett s i x) := by
  unfold State.setSett
  repeat' first
    | exact rfl | intro _
    | (with_reducible first | exact Frame.refl _ _ | assumption)
    | split
    | with_reducible apply Frame.step Frame.upd_setts

theorem State.setOpened_frame {s : State} {i x : Nat} : Frame 9223372036854775808 s (State.setOpened s i x) := by
  unfold State.setOpened
  repeat' first
    | exact rfl | intro _
    | (with_reducible first | exact Frame.refl _ _ | assumption)
    | split
    | with_reducible apply Frame.step Frame.upd_confirmAt

theorem State.setSp_frame {s : State} {i : Nat} {x : HartX} : Frame 18446744073709551616 s (State.setSp s i x) := by
  unfold State.setSp
  repeat' first
    | exact rfl | intro _
    | (with_reducible first | exact Frame.refl _ _ | assumption)
    | split
    | with_reducible apply Frame.step Frame.upd_sps

theorem State.setOwl_frame {s : State} {i : Nat} {x : HartX} : Frame 36893488147419103232 s (State.setOwl s i x) := by
  unfold State.setOwl
  repeat' first
    | exact rfl | intro _
    | (with_reducible first | exact Frame.refl _ _ | assumption)
    | split
    | with_reducible apply Frame.step Frame.upd_owls

theorem State.setSac_frame {s : State} {i : Nat} {x : SacX} : Frame 73786976294838206464 s (State.setSac s i x) := by
  unfold State.setSac
  repeat' first
    | exact rfl | intro _
    | (with_reducible first | exact Frame.refl _ _ | assumption)
    | split
    | with_reducible apply Frame.step Frame.upd_sacs

theorem State.setSvp_frame {s : State} {i : Nat} {x : SvpX} : Frame 147573952589676412928 s (State.setSvp s i x) := by
  unfold State.setSvp
  repeat' first
    | exact rfl | intro _
    | (with_reducible first | exact Frame.refl _ _ | assumption)
    | split
    | with_reducible apply Frame.step Frame.upd_svps

theorem State.setBoost_frame {s : State} {i : Nat} {x : Bool} :
    Frame 590295810358705651712 s (State.setBoost s i x) := by
  unfold State.setBoost
  repeat' first
    | exact rfl | intro _
    | (with_reducible first | exact Frame.refl _ _ | assumption)
    | split
    | with_reducible apply Frame.step Frame.upd_boosts

theorem State.setWdog_frame {s : State} {i x : Nat} : Frame 1180591620717411303424 s (State.setWdog s i x) := by
  unfold State.setWdog
  repeat' first
    | exact rfl | intro _
    | (with_reducible first | exact Frame.refl _ _ | assumption)
    | split
    | with_reducible apply Frame.step Frame.upd_wdogs

theorem State.setGsl_frame {s : State} {i : Nat} {x : GslX} : Frame 2361183241434822606848 s (State.setGsl s i x) := by
  unfold State.setGsl
  repeat' first
    | exact rfl | intro _
    | (with_reducible first | exact Frame.refl _ _ | assumption)
    | split
    | with_reducible apply Frame.step Frame.upd_gsls

theorem State.setRoute_frame {s : State} {i : Nat} {x : RouteMode} :
    Frame 4722366482869645213696 s (State.setRoute s i x) := by
  unfold State.setRoute
  repeat' first
    | exact rfl | intro _
    | (with_reducible first | exact Frame.refl _ _ | assumption)
    | split
    | with_reducible apply Frame.step Frame.upd_routes

theorem State.setDma_frame {s : State} {i : Nat} {x : DmaX} : Frame 18889465931478580854784 s (State.setDma s i x) := by
  unfold State.setDma
  repeat' first
    | exact rfl | intro _
    | (with_reducible first | exact Frame.refl _ _ | assumption)
    | split
    | with_reducible apply Frame.step Frame.upd_dmas

theorem State.setShut_frame {s : State} {i : Nat} {x : Bool} :
    Frame 151115727451828646838272 s (State.setShut s i x) := by
  unfold State.setShut
  repeat' first
    | exact rfl | intro _
    | (with_reducible first | exact Frame.refl _ _ | assumption)
    | split
    | with_reducible apply Frame.step Frame.upd_cdcShut

theorem State.setDrain_frame {s : State} {i : Nat} {x : List Nat} :
    Frame 302231454903657293676544 s (State.setDrain s i x) := by
  unfold State.setDrain
  repeat' first
    | exact rfl | intro _
    | (with_reducible first | exact Frame.refl _ _ | assumption)
    | split
    | with_reducible apply Frame.step Frame.upd_drains

theorem State.setBmReq_frame {s : State} {i : Nat} {x : Option (Option MemReq)} :
    Frame 604462909807314587353088 s (State.setBmReq s i x) := by
  unfold State.setBmReq
  repeat' first
    | exact rfl | intro _
    | (with_reducible first | exact Frame.refl _ _ | assumption)
    | split
    | with_reducible apply Frame.step Frame.upd_bmReqs

end Sys2Proof.Machine
end

