-- ==== Sys2Proof/Laws/FrameOps.lean ====
section
/-! SUPPORT. What each operation of Machine/Ops.lean can change (Laws/Frame.lean). -/
namespace Sys2Proof.Machine

theorem State.wr_frame {s : State} {base : Nat} {f : Fld} {v : Nat} : Frame 1 s (s.wr base f v) :=
  Frame.upd_act (KV.risingFrom_put _ _)

theorem State.wrb_frame {s : State} {base : Nat} {f : Fld} {b : Bool} : Frame 1 s (State.wrb s base f b) := by
  unfold State.wrb
  repeat' first
    | exact rfl | intro _
    | (with_reducible first | exact Frame.refl _ _ | assumption | apply Frame.step State.wr_frame)
    | split
    | dsimp only

theorem State.wrBit_frame {s : State} {base : Nat} {f : Fld} {i : Nat} {b : Bool} :
    Frame 1 s (State.wrBit s base f i b) := by
  unfold State.wrBit
  repeat' first
    | exact rfl | intro _
    | (with_reducible first | exact Frame.refl _ _ | assumption | apply Frame.step State.wr_frame)
    | split
    | dsimp only

theorem State.stage_frame {s : State} {base : Nat} {f : Fld} {v : Nat} : Frame 2 s (s.stage base f v) :=
  Frame.upd_stg (KV.risingFrom_set _ _ _)

theorem State.load_frame {s : State} {base : Nat} {f : Fld} {v : Nat} : Frame 3 s (s.load base f v) :=
  Frame.step (Frame.upd_stg (KV.risingFrom_erase _)) (by decide) (State.wr_frame.mono (by decide))

theorem State.count_frame {s : State} {base : Nat} {f : Fld} {n : optParam Nat 1} :
    Frame 1 s (State.count s base f n) := by
  unfold State.count
  repeat' first
    | exact rfl | intro _
    | (with_reducible first | exact Frame.refl _ _ | assumption | apply Frame.step State.wr_frame)
    | split
    | dsimp only

theorem State.seqUp_frame {s : State} {base : Nat} {f : Fld} : Frame 1 s (State.seqUp s base f) := by
  unfold State.seqUp
  repeat' first
    | exact rfl | intro _
    | (with_reducible first | exact Frame.refl _ _ | assumption | apply Frame.step State.wr_frame)
    | split
    | dsimp only

theorem State.wr2_frame {s : State} {base : Nat} {lo hi : Fld} {v : Nat} : Frame 1 s (State.wr2 s base lo hi v) := by
  unfold State.wr2
  repeat' first
    | exact rfl | intro _
    | (with_reducible first | exact Frame.refl _ _ | assumption | apply Frame.step State.wr_frame)
    | split
    | dsimp only

theorem State.count2_frame {s : State} {base : Nat} {lo hi : Fld} {n : optParam Nat 1} :
    Frame 1 s (State.count2 s base lo hi n) := by
  unfold State.count2
  repeat' first
    | exact rfl | intro _
    | (with_reducible first | exact Frame.refl _ _ | assumption | apply Frame.step State.wr2_frame)
    | split
    | dsimp only

theorem State.rsvw_frame {s : State} {blk : Nat} : Frame 1 s (State.rsvw s blk) := by
  unfold State.rsvw
  repeat' first
    | exact rfl | intro _
    | (with_reducible first | exact Frame.refl _ _ | assumption | apply Frame.step State.wr_frame)
    | split
    | dsimp only

theorem State.lockw_frame {s : State} {blk : Nat} : Frame 1 s (State.lockw s blk) := by
  unfold State.lockw
  repeat' first
    | exact rfl | intro _
    | (with_reducible first | exact Frame.refl _ _ | assumption | apply Frame.step State.wr_frame)
    | split
    | dsimp only

theorem State.commitErr_frame {s : State} {blk : Nat} : Frame 1 s (State.commitErr s blk) := by
  unfold State.commitErr
  repeat' first
    | exact rfl | intro _
    | (with_reducible first | exact Frame.refl _ _ | assumption | apply Frame.step State.wr_frame)
    | split
    | dsimp only

theorem State.drew_frame {s : State} : Frame 1024 s (State.drew s) := by
  unfold State.drew
  repeat' first
    | exact rfl | intro _
    | (with_reducible first | exact Frame.refl _ _ | assumption)
    | split
    | with_reducible apply Frame.step Frame.upd_fresh

theorem State.rsvBits_frame {s : State} {blk mask v : Nat} : Frame 1 s (State.rsvBits s blk mask v) := by
  unfold State.rsvBits
  repeat' first
    | exact rfl | intro _
    | (with_reducible first | exact Frame.refl _ _ | assumption | apply Frame.ite | apply Frame.step State.rsvw_frame)
    | split
    | dsimp only

theorem State.setReady_frame {s : State} {d i : Nat} {b : Bool} : Frame 1 s (State.setReady s d i b) := by
  unfold State.setReady
  repeat' first
    | exact rfl | intro _
    | (with_reducible first | exact Frame.refl _ _ | assumption | apply Frame.step State.wrBit_frame)
    | split
    | dsimp only

theorem State.setFail_frame {s : State} {d i : Nat} : Frame 1 s (State.setFail s d i) := by
  unfold State.setFail
  repeat' first
    | exact rfl | intro _
    | (with_reducible first | exact Frame.refl _ _ | assumption | apply Frame.step State.wrBit_frame)
    | split
    | dsimp only

-- HO 2
theorem State.atBlock_frame {W : Nat} {s t : State} {k : Blk} {d i : Nat} {f : State → State} (_ : 0 &&& W = 0) (hs : Frame W s t)
    (hf : ∀ t, Frame W s t → Frame W s (f t)) : Frame W s (t.atBlock k d i f) := by
  unfold State.atBlock
  split
  · exact hf t hs
  · exact hs

theorem State.putByte_frame {s : State} {a : Nat} {b : Byte} : Frame 4 s (s.putByte a b) :=
  Frame.upd_mem (KV.wf_set _ _)

theorem State.putBytes_frame {s : State} {a : Nat} {x2 : List Byte} : Frame 4 s (s.putBytes a x2) := by
  induction x2 generalizing s a with
  | nil => exact Frame.refl _ _
  | cons b bs ih => exact State.putByte_frame.trans ih

theorem State.wrMem_frame {s : State} {a n v : Nat} : Frame 4 s (State.wrMem s a n v) := by
  unfold State.wrMem
  repeat' first
    | exact rfl | intro _
    | (with_reducible first | exact Frame.refl _ _ | assumption | apply Frame.step State.putBytes_frame)
    | split
    | dsimp only

theorem State.sendMsix_frame {s : State} {v : Nat} : Frame 2048 s (State.sendMsix s v) := by
  unfold State.sendMsix
  repeat' first
    | exact rfl | intro _
    | (with_reducible first | exact Frame.refl _ _ | assumption | apply Frame.ite)
    | split
    | with_reducible apply Frame.step Frame.upd_msix

theorem State.spreadStop_frame {s : State} {sender gid stopAt : Nat} {fromPort : Option Nat} :
    Frame 9444732965739292000256 s (State.spreadStop s sender gid stopAt fromPort) := by
  unfold State.spreadStop
  repeat' first
    | exact rfl | intro _
    | (with_reducible first | exact Frame.refl _ _ | assumption | apply Frame.ite)
    | split
    | with_reducible apply Frame.step Frame.upd_stops_stopOut_stopSeen

theorem State.sendStop_frame {s : State} {p f : Nat} : Frame 9444732965739292000256 s (State.sendStop s p f) := by
  unfold State.sendStop
  repeat' first
    | exact rfl | intro _
    | (with_reducible first | exact Frame.refl _ _ | assumption | apply Frame.ite | apply Frame.step State.spreadStop_frame)
    | split
    | dsimp only

theorem State.haltPsq_frame {s : State} {p status cause f : Nat} :
    Frame 9444732965739292264449 s (State.haltPsq s p status cause f) := by
  unfold State.haltPsq
  repeat' first
    | exact rfl | intro _
    | (with_reducible first | exact Frame.refl _ _ | assumption | apply Frame.ite | apply Frame.step State.sendStop_frame
                            | apply Frame.step State.sendMsix_frame | apply Frame.step State.count2_frame
                            | apply Frame.step State.wr2_frame | apply Frame.step State.wrb_frame
                            | apply Frame.step State.wr_frame | apply Frame.step State.setPsq_frame)
    | split
    | dsimp only

theorem State.pmuEnd_frame {s : State} {b status : Nat} : Frame 32769 s (State.pmuEnd s b status) := by
  unfold State.pmuEnd
  repeat' first
    | exact rfl | intro _
    | (with_reducible first | exact Frame.refl _ _ | assumption | apply Frame.ite | apply Frame.step State.wr_frame
                            | apply Frame.step State.setPmu_frame)
    | split
    | dsimp only

theorem State.comps_frame {s : State} {who : Nat → Bool} {f : Comp → Comp} : Frame 16384 s (State.comps s who f) := by
  unfold State.comps
  repeat' first
    | exact rfl | intro _
    | (with_reducible first | exact Frame.refl _ _ | assumption | apply Frame.ite)
    | split
    | with_reducible apply Frame.step Frame.upd_fails

theorem State.maskPin_frame {s : State} {ch : Nat} : Frame 16384 s (State.maskPin s ch) := by
  unfold State.maskPin
  repeat' first
    | exact rfl | intro _
    | (with_reducible first | exact Frame.refl _ _ | assumption | apply Frame.ite | apply Frame.step State.comps_frame)
    | split
    | dsimp only

theorem State.unmaskPin_frame {s : State} {ch : Nat} : Frame 16384 s (State.unmaskPin s ch) := by
  unfold State.unmaskPin
  repeat' first
    | exact rfl | intro _
    | (with_reducible first | exact Frame.refl _ _ | assumption | apply Frame.ite | apply Frame.step State.comps_frame)
    | split
    | dsimp only

theorem State.blankComps_frame {s : State} {who : Nat → Bool} {lo hi : Nat} :
    Frame 16384 s (State.blankComps s who lo hi) := by
  unfold State.blankComps
  repeat' first
    | exact rfl | intro _
    | (with_reducible first | exact Frame.refl _ _ | assumption | apply Frame.ite | apply Frame.step State.comps_frame)
    | split
    | dsimp only

theorem State.etcEnd_frame {s : State} {b status : Nat} : Frame 24577 s (State.etcEnd s b status) := by
  unfold State.etcEnd
  repeat' first
    | exact rfl | intro _
    | (with_reducible first | exact Frame.refl _ _ | assumption | apply Frame.ite | apply Frame.step State.comps_frame
                            | apply Frame.step State.wr_frame | apply Frame.step State.setBank_frame)
    | split
    | dsimp only

theorem State.pinToSafe_frame {s : State} {ch : Nat} : Frame 61441 s (State.pinToSafe s ch) := by
  unfold State.pinToSafe
  repeat' first
    | exact rfl | intro _
    | (with_reducible first | exact Frame.refl _ _ | assumption | apply Frame.ite | apply Frame.step State.etcEnd_frame
                            | apply Frame.step State.maskPin_frame | apply Frame.step State.pmuEnd_frame
                            | apply Frame.step State.wr_frame | apply Frame.step State.setPin_frame)
    | split
    | dsimp only

theorem State.latchPins_frame {s : State} {b mask : Nat} : Frame 61441 s (State.latchPins s b mask) := by
  unfold State.latchPins
  repeat' first
    | exact rfl | intro _
    | (with_reducible first | exact Frame.refl _ _ | assumption | apply Frame.ite | apply Frame.each
                            | apply Frame.step State.pinToSafe_frame | apply Frame.step State.wr_frame)
    | split
    | dsimp only

theorem State.siteChannelsSafe_frame {s : State} {st : Nat} : Frame 61441 s (State.siteChannelsSafe s st) := by
  unfold State.siteChannelsSafe
  repeat' first
    | exact rfl | intro _
    | (with_reducible first | exact Frame.refl _ _ | assumption | apply Frame.ite | apply Frame.each
                            | apply Frame.step State.latchPins_frame)
    | split
    | dsimp only

theorem State.pmuForceOff_frame {s : State} {b : Nat} : Frame 32769 s (State.pmuForceOff s b) := by
  unfold State.pmuForceOff
  repeat' first
    | exact rfl | intro _
    | (with_reducible first | exact Frame.refl _ _ | assumption | apply Frame.step State.pmuEnd_frame
                            | apply Frame.step State.wr_frame)
    | split
    | dsimp only

theorem State.setFhPending_frame {s : State} {d src : Nat} {b : Bool} : Frame 1 s (State.setFhPending s d src b) := by
  unfold State.setFhPending
  repeat' first
    | exact rfl | intro _
    | (with_reducible first | exact Frame.refl _ _ | assumption | apply Frame.step State.wrBit_frame)
    | split
    | dsimp only

theorem State.hubPend_frame {s : State} {sp line : Nat} {b : Bool} : Frame 1 s (State.hubPend s sp line b) := by
  unfold State.hubPend
  repeat' first
    | exact rfl | intro _
    | (with_reducible first | exact Frame.refl _ _ | assumption | apply Frame.step State.wrBit_frame)
    | split
    | dsimp only

theorem State.fhRefresh_frame {s : State} : Frame 67110913 s (State.fhRefresh s) := by
  unfold State.fhRefresh
  repeat' first
    | exact rfl | intro _
    | (with_reducible first | exact Frame.refl _ _ | assumption | apply Frame.ite | apply Frame.each
                            | apply Frame.step State.sendMsix_frame | apply Frame.step State.wrb_frame
                            | apply Frame.step State.wr_frame | apply Frame.step State.setFh_frame)
    | split
    | dsimp only

theorem State.siteSafe_frame {s : State} {st : Nat} : Frame 9444732965739292325889 s (State.siteSafe s st) := by
  unfold State.siteSafe
  repeat' first
    | exact rfl | intro _
    | (with_reducible first | exact Frame.refl _ _ | assumption | apply Frame.ite
                            | apply Frame.step State.siteChannelsSafe_frame | apply Frame.step State.haltPsq_frame)
    | split
    | dsimp only

theorem State.dieSafe_frame {s : State} {d : Nat} : Frame 9444732965739292325889 s (State.dieSafe s d) := by
  unfold State.dieSafe
  repeat' first
    | exact rfl | intro _
    | (with_reducible first | exact Frame.refl _ _ | assumption | apply Frame.each | apply Frame.step State.siteSafe_frame
                            | apply Frame.step State.pmuForceOff_frame | apply Frame.step State.latchPins_frame
                            | apply Frame.step State.haltPsq_frame)
    | split
    | dsimp only

theorem State.packageSafe_frame {s : State} : Frame 9444732965739292325889 s (State.packageSafe s) := by
  unfold State.packageSafe
  repeat' first
    | exact rfl | intro _
    | (with_reducible first | exact Frame.refl _ _ | assumption | apply Frame.each | apply Frame.step State.dieSafe_frame)
    | split
    | dsimp only

theorem State.fhLog_frame {s : State} {d src sev : Nat} {site : Option Nat} {inst : Nat} {force esc : Bool} :
    Frame 1 s (State.fhLog s d src sev site inst force esc) := by
  unfold State.fhLog
  repeat' first
    | exact rfl | intro _
    | (with_reducible first | exact Frame.refl _ _ | assumption | apply Frame.ite | apply Frame.step State.count_frame
                            | apply Frame.step State.wr_frame)
    | split
    | dsimp only

theorem State.react_frame {s : State} {d sev : Nat} {sites : List Nat} :
    Frame 9444732965739426543617 s (State.react s d sev sites) := by
  unfold State.react
  repeat' first
    | exact rfl | intro _
    | (with_reducible first | exact Frame.refl _ _ | assumption | apply Frame.ite | apply Frame.each
                            | apply Frame.step State.packageSafe_frame | apply Frame.step State.dieSafe_frame
                            | apply Frame.step State.siteSafe_frame)
    | split
    | with_reducible apply Frame.step Frame.upd_safe

theorem State.faultEvent_frame {s : State} {d src sev : Nat} {site : Option Nat} {inst : Nat} {force esc : Bool} :
    Frame 9444732965739493652481 s (State.faultEvent s d src sev site inst force esc) := by
  unfold State.faultEvent
  repeat' first
    | exact rfl | intro _
    | (with_reducible first | exact Frame.refl _ _ | assumption | apply Frame.ite | apply Frame.foldl | apply Frame.foldl1
                            | apply Frame.foldlP1 | apply Frame.foldlP2 | apply Frame.foldlP3 | apply Frame.foldlP4
                            | apply Frame.foldlP5 | apply Frame.step State.react_frame
                            | apply Frame.step State.fhLog_frame | apply Frame.step State.fhRefresh_frame
                            | apply Frame.step State.setFhPending_frame | apply Frame.step State.count_frame
                            | apply Frame.step State.setFh_frame)
    | split
    | dsimp only

theorem State.raise_frame {s : State} {d src : Nat} {site : Option Nat} {inst : Nat} :
    Frame 9444732965739493652481 s (State.raise s d src site inst) := by
  unfold State.raise
  repeat' first
    | exact rfl | intro _
    | (with_reducible first | exact Frame.refl _ _ | assumption | apply Frame.ite | apply Frame.step State.faultEvent_frame)
    | split
    | dsimp only

theorem State.condOn_frame {s : State} {d src : Nat} {site : Option Nat} {inst : Nat} :
    Frame 9444732965739493652481 s (State.condOn s d src site inst) := by
  unfold State.condOn
  repeat' first
    | exact rfl | intro _
    | (with_reducible first | exact Frame.refl _ _ | assumption | apply Frame.ite | apply Frame.step State.raise_frame
                            | apply Frame.step State.setFh_frame)
    | split
    | dsimp only

theorem State.condOff_frame {s : State} {d src inst : Nat} : Frame 67108864 s (State.condOff s d src inst) := by
  unfold State.condOff
  repeat' first
    | exact rfl | intro _
    | (with_reducible first | exact Frame.refl _ _ | assumption | apply Frame.step State.setFh_frame)
    | split
    | dsimp only

theorem State.reservedWrite_frame {s : State} {d : Nat} : Frame 9444732965739493652481 s (State.reservedWrite s d) := by
  unfold State.reservedWrite
  repeat' first
    | exact rfl | intro _
    | (with_reducible first | exact Frame.refl _ _ | assumption | apply Frame.step State.raise_frame)
    | split
    | dsimp only

end Sys2Proof.Machine
end

