-- ==== Sys2Proof/Laws/FrameClock.lean ====
section
/-! SUPPORT. What each operation of Machine/Clock.lean can change (Laws/Frame.lean). -/
namespace Sys2Proof.Machine

theorem State.domFail_frame {s : State} {d n : Nat} : Frame 536870913 s (State.domFail s d n) := by
  unfold State.domFail
  repeat' first
    | exact rfl | intro _
    | (with_reducible first | exact Frame.refl _ _ | assumption | apply Frame.ite | apply Frame.step State.wr_frame
                            | apply Frame.step State.setDomFlag_frame)
    | split
    | dsimp only

theorem State.sourceFail_frame {s : State} {d src : Nat} : Frame 536870913 s (State.sourceFail s d src) := by
  unfold State.sourceFail
  repeat' first
    | exact rfl | intro _
    | (with_reducible first | exact Frame.refl _ _ | assumption | apply Frame.ite | apply Frame.each
                            | apply Frame.step State.domFail_frame)
    | split
    | dsimp only

theorem State.pllFail_frame {s : State} {d p : Nat} : Frame 536870913 s (State.pllFail s d p) := by
  unfold State.pllFail
  repeat' first
    | exact rfl | intro _
    | (with_reducible first | exact Frame.refl _ _ | assumption | apply Frame.step State.sourceFail_frame
                            | apply Frame.step State.wrBit_frame)
    | split
    | dsimp only

theorem State.monitorFallback_frame {s : State} {d : Nat} :
    Frame 9481626453886912755713 s (State.monitorFallback s d) := by
  unfold State.monitorFallback
  repeat' first
    | exact rfl | intro _
    | (with_reducible first | exact Frame.refl _ _ | assumption | apply Frame.ite | apply Frame.step State.raise_frame
                            | apply Frame.step State.setOwl_frame)
    | split
    | dsimp only

theorem State.condAs_frame {s : State} {d src key : Nat} :
    Frame 9444732965739493652481 s (State.condAs s d src key) := by
  unfold State.condAs
  repeat' first
    | exact rfl | intro _
    | (with_reducible first | exact Frame.refl _ _ | assumption | apply Frame.ite | apply Frame.step State.raise_frame
                            | apply Frame.step State.setFh_frame)
    | split
    | dsimp only

theorem State.enterNormal_frame {s : State} : Frame 9444732965740030523393 s (State.enterNormal s) := by
  unfold State.enterNormal
  repeat' first
    | exact rfl | intro _
    | (with_reducible first | exact Frame.refl _ _ | assumption | apply Frame.ite | apply Frame.each
                            | apply Frame.step State.condAs_frame | apply Frame.step State.sourceFail_frame
                            | apply Frame.step State.condOff_frame)
    | split
    | dsimp only

theorem State.setMode_frame {s : State} {m : Nat} : Frame 9444732965740030523395 s (State.setMode s m) := by
  unfold State.setMode
  repeat' first
    | exact rfl | intro _
    | (with_reducible first | exact Frame.refl _ _ | assumption | apply Frame.ite | apply Frame.each
                            | apply Frame.step State.enterNormal_frame | apply Frame.step State.load_frame)
    | split
    | dsimp only

end Sys2Proof.Machine
end

