-- ==== Sys2Proof/Laws/FrameTester.lean ====
section
/-! SUPPORT. What each operation of Machine/Tester.lean can change (Laws/Frame.lean). -/
namespace Sys2Proof.Machine

theorem State.latchBank_frame {s : State} {b : Nat} : Frame 61441 s (State.latchBank s b) := by
  unfold State.latchBank
  repeat' first
    | exact rfl | intro _
    | (with_reducible first | exact Frame.refl _ _ | assumption | apply Frame.step State.latchPins_frame)
    | split
    | dsimp only

theorem execVccbOutOfWindow_frame {b : Fin 72} {mv : BitVec 11} {s : State} :
    FrameOut 9444732965739493652481 s (execVccbOutOfWindow b mv s) := by
  unfold execVccbOutOfWindow
  repeat' first
    | exact rfl | intro _
    | (with_reducible first | exact Frame.refl _ _ | assumption | apply FrameOut.next | apply FrameOut.ite | apply Frame.ite
                            | apply Frame.step State.latchBank_frame | apply Frame.step State.raise_frame
                            | apply Frame.step State.wr_frame)
    | split
    | dsimp only

theorem execVccbReturn_frame {b : Fin 72} {mv : BitVec 11} {s : State} : FrameOut 1 s (execVccbReturn b mv s) := by
  unfold execVccbReturn
  repeat' first
    | exact rfl | intro _
    | (with_reducible first | exact Frame.refl _ _ | assumption | apply FrameOut.next | apply FrameOut.ite | apply Frame.ite
                            | apply Frame.step State.wr_frame)
    | split
    | dsimp only

theorem execVttOvercurrent_frame {b : Fin 72} {ma : BitVec 11} {s : State} :
    FrameOut 9444732965739493652481 s (execVttOvercurrent b ma s) := by
  unfold execVttOvercurrent
  repeat' first
    | exact rfl | intro _
    | (with_reducible first | exact Frame.refl _ _ | assumption | apply FrameOut.next | apply FrameOut.ite | apply Frame.ite
                            | apply Frame.step State.latchBank_frame | apply Frame.step State.raise_frame
                            | apply Frame.step State.wr_frame)
    | split
    | dsimp only

theorem execVttRecover_frame {b : Fin 72} {ma : BitVec 11} {s : State} : FrameOut 1 s (execVttRecover b ma s) := by
  unfold execVttRecover
  repeat' first
    | exact rfl | intro _
    | (with_reducible first | exact Frame.refl _ _ | assumption | apply FrameOut.next | apply FrameOut.ite | apply Frame.ite
                            | apply Frame.step State.wr_frame)
    | split
    | dsimp only

theorem State.driveOne_frame {s : State} {ch : Nat} {on lvl : Bool} : Frame 4096 s (State.driveOne s ch on lvl) := by
  unfold State.driveOne
  repeat' first
    | exact rfl | intro _
    | (with_reducible first | exact Frame.refl _ _ | assumption | apply Frame.step State.setPin_frame)
    | split
    | dsimp only

theorem State.drive_frame {s : State} {ch : Nat} {on lvl : Bool} : Frame 4096 s (State.drive s ch on lvl) := by
  unfold State.drive
  repeat' first
    | exact rfl | intro _
    | (with_reducible first | exact Frame.refl _ _ | assumption | apply Frame.ite | apply Frame.step State.driveOne_frame)
    | split
    | dsimp only

theorem State.capture_frame {s : State} {ch w : Nat} : Frame 1 s (State.capture s ch w) := by
  unfold State.capture
  repeat' first
    | exact rfl | intro _
    | (with_reducible first | exact Frame.refl _ _ | assumption | apply Frame.ite | apply Frame.step State.count_frame
                            | apply Frame.step State.wrb_frame | apply Frame.step State.wr_frame)
    | split
    | dsimp only

theorem State.countSuppressed_frame {s : State} {w : FailWord} : Frame 1 s (State.countSuppressed s w) := by
  unfold State.countSuppressed
  repeat' first
    | exact rfl | intro _
    | (with_reducible first | exact Frame.refl _ _ | assumption | apply Frame.ite | apply Frame.step State.count_frame)
    | split
    | dsimp only

theorem State.sendFail_frame {s : State} {ch : Nat} {comps : List Comp} {c tick endSteps : Nat} :
    Frame 16384 s (State.sendFail s ch comps c tick endSteps) := by
  unfold State.sendFail
  repeat' first
    | exact rfl | intro _
    | (with_reducible first | exact Frame.refl _ _ | assumption)
    | split
    | with_reducible apply Frame.step Frame.upd_fails

theorem State.etcTriggered_frame {s : State} {b t : Nat} : Frame 8192 s (State.etcTriggered s b t) := by
  unfold State.etcTriggered
  repeat' first
    | exact rfl | intro _
    | (with_reducible first | exact Frame.refl _ _ | assumption | apply Frame.ite | apply Frame.step State.setBank_frame)
    | split
    | dsimp only

theorem State.serialWordExec_frame {s : State} {ch k c sym data : Nat} {cmask capt trig ov : Bool} {v : Seen} :
    Frame 28673 s (State.serialWordExec s ch k c sym data cmask capt trig ov v) := by
  unfold State.serialWordExec
  repeat' first
    | exact rfl | intro _
    | (with_reducible first | exact Frame.refl _ _ | assumption | apply Frame.ite
                            | apply Frame.step State.etcTriggered_frame | apply Frame.step State.sendFail_frame
                            | apply Frame.step State.capture_frame | apply Frame.step State.drive_frame
                            | apply Frame.step State.setPin_frame)
    | split
    | dsimp only

theorem State.placeEdges_frame {s : State} {ch start : Nat} {x3 : List (Nat × Bool × Bool)} :
    Frame 4097 s (State.placeEdges s ch start x3) := by
  induction x3 generalizing s ch start with
  | nil =>
    unfold State.placeEdges
    repeat' first
      | exact rfl | intro _
      | (with_reducible first | exact Frame.refl _ _ | assumption | apply Frame.ite | apply Frame.step State.drive_frame
                              | apply Frame.step State.count_frame | apply Frame.step State.setPin_frame)
      | with_reducible apply Frame.step ih
      | split
      | dsimp only
  | cons _ _ ih =>
    unfold State.placeEdges
    repeat' first
      | exact rfl | intro _
      | (with_reducible first | exact Frame.refl _ _ | assumption | apply Frame.ite | apply Frame.step State.drive_frame
                              | apply Frame.step State.count_frame | apply Frame.step State.setPin_frame)
      | with_reducible apply Frame.step ih
      | split
      | dsimp only

theorem State.entryExec_frame {s : State} {ch k i : Nat} {e : Entry} {cmask : Bool} {v : Seen} :
    Frame 4097 s (State.entryExec s ch k i e cmask v).2 := by
  unfold State.entryExec
  repeat' first
    | exact rfl | intro _
    | (with_reducible first | exact Frame.refl _ _ | assumption | apply Frame.iteP1 | apply Frame.ite
                            | apply Frame.step State.placeEdges_frame)
    | split
    | dsimp only

theorem State.vectorExec_frame {s : State} {ch k n c data : Nat} {cmask capt trig subst ov : Bool} {ovSym : Nat}
    {v : Seen} :
    Frame 9444732965739493652481 s (State.vectorExec s ch k n c data cmask capt trig subst ov ovSym v) := by
  unfold State.vectorExec
  repeat' first
    | exact rfl | intro _
    | (with_reducible first | exact Frame.refl _ _ | assumption | apply Frame.ite | apply Frame.foldl | apply Frame.foldl1
                            | apply Frame.foldlP1 | apply Frame.foldlP2 | apply Frame.foldlP3 | apply Frame.foldlP4
                            | apply Frame.foldlP5 | apply Frame.step State.entryExec_frame
                            | apply Frame.step State.placeEdges_frame | apply Frame.step State.etcTriggered_frame
                            | apply Frame.step State.sendFail_frame | apply Frame.step State.capture_frame
                            | apply Frame.step State.raise_frame | apply Frame.step State.count_frame
                            | apply Frame.ofP1 (by assumption))
    | split
    | dsimp only

theorem execChannelWordTake_frame {ch : Fin 2304} {w : BitVec 40} {poison : BitVec 5} {c : Nat} {v : Seen} {s : State} :
    FrameOut 9444732965739493652481 s (execChannelWordTake ch w poison c v s) := by
  unfold execChannelWordTake
  repeat' first
    | exact rfl | intro _
    | (with_reducible first | exact Frame.refl _ _ | assumption | apply FrameOut.next | apply FrameOut.ite | apply Frame.ite
                            | apply Frame.step State.vectorExec_frame | apply Frame.step State.serialWordExec_frame
                            | apply Frame.step State.raise_frame | apply Frame.step State.count_frame)
    | split
    | dsimp only

theorem State.startEnable_frame {s : State} {ch : Nat} : Frame 20481 s (State.startEnable s ch) := by
  unfold State.startEnable
  repeat' first
    | exact rfl | intro _
    | (with_reducible first | exact Frame.refl _ _ | assumption | apply Frame.step State.maskPin_frame
                            | apply Frame.step State.wr_frame | apply Frame.step State.setPin_frame)
    | split
    | dsimp only

theorem State.startRole_frame {s : State} {ch role : Nat} : Frame 61441 s (State.startRole s ch role) := by
  unfold State.startRole
  repeat' first
    | exact rfl | intro _
    | (with_reducible first | exact Frame.refl _ _ | assumption | apply Frame.ite | apply Frame.each
                            | apply Frame.step State.etcEnd_frame | apply Frame.step State.maskPin_frame
                            | apply Frame.step State.pmuEnd_frame | apply Frame.step State.wr_frame
                            | apply Frame.step State.setPin_frame)
    | split
    | dsimp only

theorem State.roleWrite_frame {s : State} {ch : Nat} {v : Word} : Frame 61441 s (State.roleWrite s ch v) := by
  unfold State.roleWrite
  repeat' first
    | exact rfl | intro _
    | (with_reducible first | exact Frame.refl _ _ | assumption | apply Frame.ite | apply Frame.step State.startRole_frame
                            | apply Frame.step State.rsvBits_frame | apply Frame.step State.rsvw_frame
                            | apply Frame.step State.wr_frame)
    | split
    | dsimp only

theorem execRoleWrite_frame {ch : Fin 2304} {v : Word} {s : State} : FrameOut 61441 s (execRoleWrite ch v s) := by
  unfold execRoleWrite
  repeat' first
    | exact rfl | intro _
    | (with_reducible first | exact Frame.refl _ _ | assumption | apply FrameOut.next
                            | apply Frame.step State.roleWrite_frame | apply State.atBlock_frame)
    | split
    | dsimp only

theorem execRoleMidpoint_frame {ch : Fin 2304} {s : State} : FrameOut 4096 s (execRoleMidpoint ch s) := by
  unfold execRoleMidpoint
  repeat' first
    | exact rfl | intro _
    | (with_reducible first | exact Frame.refl _ _ | assumption | apply FrameOut.next | apply FrameOut.ite | apply Frame.ite
                            | apply Frame.step State.setPin_frame)
    | split
    | dsimp only

theorem execRoleTransitionDone_frame {ch : Fin 2304} {s : State} : FrameOut 20481 s (execRoleTransitionDone ch s) := by
  unfold execRoleTransitionDone
  repeat' first
    | exact rfl | intro _
    | (with_reducible first | exact Frame.refl _ _ | assumption | apply FrameOut.next | apply FrameOut.ite | apply Frame.ite
                            | apply Frame.step State.unmaskPin_frame | apply Frame.step State.wr_frame
                            | apply Frame.step State.setPin_frame)
    | split
    | dsimp only

theorem State.enablePin_frame {s : State} {ch : Nat} : Frame 20481 s (State.enablePin s ch) := by
  unfold State.enablePin
  repeat' first
    | exact rfl | intro _
    | (with_reducible first | exact Frame.refl _ _ | assumption | apply Frame.ite | apply Frame.step State.startEnable_frame
                            | apply Frame.step State.wrBit_frame)
    | split
    | dsimp only

theorem State.tcbEnWrite_frame {s : State} {b : Nat} {v : Word} : Frame 61441 s (State.tcbEnWrite s b v) := by
  unfold State.tcbEnWrite
  repeat' first
    | exact rfl | intro _
    | (with_reducible first | exact Frame.refl _ _ | assumption | apply Frame.ite | apply Frame.each
                            | apply Frame.step State.enablePin_frame | apply Frame.step State.pinToSafe_frame
                            | apply Frame.step State.wr_frame)
    | split
    | dsimp only

theorem execTcbEnWrite_frame {b : Fin 72} {v : Word} {s : State} : FrameOut 61441 s (execTcbEnWrite b v s) := by
  unfold execTcbEnWrite
  repeat' first
    | exact rfl | intro _
    | (with_reducible first | exact Frame.refl _ _ | assumption | apply FrameOut.next
                            | apply Frame.step State.tcbEnWrite_frame | apply State.atBlock_frame)
    | split
    | dsimp only

theorem State.tcbSafeWrite_frame {s : State} {b : Nat} {v : Word} : Frame 20481 s (State.tcbSafeWrite s b v) := by
  unfold State.tcbSafeWrite
  repeat' first
    | exact rfl | intro _
    | (with_reducible first | exact Frame.refl _ _ | assumption | apply Frame.ite | apply Frame.each
                            | apply Frame.step State.startEnable_frame | apply Frame.step State.wrBit_frame)
    | split
    | dsimp only

theorem execTcbSafeWrite_frame {b : Fin 72} {v : Word} {s : State} : FrameOut 20481 s (execTcbSafeWrite b v s) := by
  unfold execTcbSafeWrite
  repeat' first
    | exact rfl | intro _
    | (with_reducible first | exact Frame.refl _ _ | assumption | apply FrameOut.next
                            | apply Frame.step State.tcbSafeWrite_frame | apply State.atBlock_frame)
    | split
    | dsimp only

theorem State.blankBank_frame {s : State} {b ticks : Nat} : Frame 24577 s (State.blankBank s b ticks) := by
  unfold State.blankBank
  repeat' first
    | exact rfl | intro _
    | (with_reducible first | exact Frame.refl _ _ | assumption | apply Frame.ite | apply Frame.step State.blankComps_frame
                            | apply Frame.step State.wr_frame | apply Frame.step State.setBank_frame)
    | split
    | dsimp only

theorem State.blankPin_frame {s : State} {ch ticks : Nat} : Frame 20480 s (State.blankPin s ch ticks) := by
  unfold State.blankPin
  repeat' first
    | exact rfl | intro _
    | (with_reducible first | exact Frame.refl _ _ | assumption | apply Frame.ite | apply Frame.step State.blankComps_frame
                            | apply Frame.step State.setPin_frame)
    | split
    | dsimp only

theorem execBlankEnd_frame {b : Fin 72} {pin : Option (Fin 32)} {s : State} :
    FrameOut 12289 s (execBlankEnd b pin s) := by
  unfold execBlankEnd
  repeat' first
    | exact rfl | intro _
    | (with_reducible first | exact Frame.refl _ _ | assumption | apply FrameOut.next | apply Frame.step State.wr_frame
                            | apply Frame.step State.setBank_frame | apply Frame.step State.setPin_frame)
    | split
    | dsimp only

theorem State.capptrWrite_frame {s : State} {ch : Nat} {v : Word} : Frame 1 s (State.capptrWrite s ch v) := by
  unfold State.capptrWrite
  repeat' first
    | exact rfl | intro _
    | (with_reducible first | exact Frame.refl _ _ | assumption | apply Frame.ite | apply Frame.step State.rsvBits_frame
                            | apply Frame.step State.rsvw_frame | apply Frame.step State.wrb_frame
                            | apply Frame.step State.wr_frame)
    | split
    | dsimp only

theorem execCapptrWrite_frame {ch : Fin 2304} {v : Word} {s : State} : FrameOut 1 s (execCapptrWrite ch v s) := by
  unfold execCapptrWrite
  repeat' first
    | exact rfl | intro _
    | (with_reducible first | exact Frame.refl _ _ | assumption | apply FrameOut.next
                            | apply Frame.step State.capptrWrite_frame | apply State.atBlock_frame)
    | split
    | dsimp only

theorem State.etcGo_frame {s : State} {b : Nat} : Frame 24577 s (State.etcGo s b) := by
  unfold State.etcGo
  repeat' first
    | exact rfl | intro _
    | (with_reducible first | exact Frame.refl _ _ | assumption | apply Frame.ite | apply Frame.step State.comps_frame
                            | apply Frame.step State.seqUp_frame | apply Frame.step State.wr_frame
                            | apply Frame.step State.setBank_frame)
    | split
    | dsimp only

theorem execEtcGo_frame {b : Fin 72} {s : State} : FrameOut 24577 s (execEtcGo b s) := by
  unfold execEtcGo
  repeat' first
    | exact rfl | intro _
    | (with_reducible first | exact Frame.refl _ _ | assumption | apply FrameOut.next | apply Frame.step State.etcGo_frame
                            | apply State.atBlock_frame)
    | split
    | dsimp only

theorem State.etcAck_frame {s : State} {b : Nat} : Frame 8192 s (State.etcAck s b) := by
  unfold State.etcAck
  repeat' first
    | exact rfl | intro _
    | (with_reducible first | exact Frame.refl _ _ | assumption | apply Frame.ite | apply Frame.step State.setBank_frame)
    | split
    | dsimp only

theorem execEtcAck_frame {b : Fin 72} {s : State} : FrameOut 8192 s (execEtcAck b s) := by
  unfold execEtcAck
  repeat' first
    | exact rfl | intro _
    | (with_reducible first | exact Frame.refl _ _ | assumption | apply FrameOut.next | apply Frame.step State.etcAck_frame
                            | apply State.atBlock_frame)
    | split
    | dsimp only

theorem State.capByte_frame {s : State} {ch i v : Nat} : Frame 1 s (State.capByte s ch i v) := by
  unfold State.capByte
  repeat' first
    | exact rfl | intro _
    | (with_reducible first | exact Frame.refl _ _ | assumption | apply Frame.step State.wr_frame)
    | split
    | dsimp only

theorem execEtcTrigger_frame {b : Fin 72} {uv : List Int} {s : State} : FrameOut 8193 s (execEtcTrigger b uv s) := by
  unfold execEtcTrigger
  repeat' first
    | exact rfl | intro _
    | (with_reducible first | exact Frame.refl _ _ | assumption | apply FrameOut.next | apply FrameOut.ite | apply Frame.ite
                            | apply Frame.each | apply Frame.step State.capByte_frame
                            | apply Frame.step State.setBank_frame)
    | split
    | dsimp only

theorem execReflectStepLaunch_frame {ch : Fin 2304} {rising : Bool} {s : State} :
    FrameOut 12288 s (execReflectStepLaunch ch rising s) := by
  unfold execReflectStepLaunch
  repeat' first
    | exact rfl | intro _
    | (with_reducible first | exact Frame.refl _ _ | assumption | apply FrameOut.next | apply FrameOut.ite | apply Frame.ite
                            | apply Frame.step State.etcTriggered_frame | apply Frame.step State.drive_frame)
    | split
    | dsimp only

theorem execEtcDone_frame {b : Fin 72} {s : State} : FrameOut 24577 s (execEtcDone b s) := by
  unfold execEtcDone
  repeat' first
    | exact rfl | intro _
    | (with_reducible first | exact Frame.refl _ _ | assumption | apply FrameOut.next | apply FrameOut.ite | apply Frame.ite
                            | apply Frame.each | apply Frame.step State.etcEnd_frame
                            | apply Frame.step State.wrb_frame | apply Frame.step State.wr_frame)
    | split
    | dsimp only

theorem execEtcTimeout_frame {b : Fin 72} {s : State} : FrameOut 24577 s (execEtcTimeout b s) := by
  unfold execEtcTimeout
  repeat' first
    | exact rfl | intro _
    | (with_reducible first | exact Frame.refl _ _ | assumption | apply FrameOut.next | apply FrameOut.ite | apply Frame.ite
                            | apply Frame.step State.etcEnd_frame)
    | split
    | dsimp only

theorem State.tcbCntClr_frame {s : State} {b : Nat} {v : Word} : Frame 1 s (State.tcbCntClr s b v) := by
  unfold State.tcbCntClr
  repeat' first
    | exact rfl | intro _
    | (with_reducible first | exact Frame.refl _ _ | assumption | apply Frame.each | apply Frame.step State.wr_frame)
    | split
    | dsimp only

theorem execTcbCntClr_frame {b : Fin 72} {v : Word} {s : State} : FrameOut 1 s (execTcbCntClr b v s) := by
  unfold execTcbCntClr
  repeat' first
    | exact rfl | intro _
    | (with_reducible first | exact Frame.refl _ _ | assumption | apply FrameOut.next
                            | apply Frame.step State.tcbCntClr_frame | apply State.atBlock_frame)
    | split
    | dsimp only

theorem State.driftRefresh_frame {s : State} {b : Nat} {was : Option Nat} :
    Frame 8193 s (State.driftRefresh s b was) := by
  unfold State.driftRefresh
  repeat' first
    | exact rfl | intro _
    | (with_reducible first | exact Frame.refl _ _ | assumption | apply Frame.ite | apply Frame.step State.wrb_frame
                            | apply Frame.step State.setBank_frame)
    | split
    | dsimp only

theorem execDriftMeasure_frame {b : Fin 72} {need : Int} {s : State} :
    FrameOut 12289 s (execDriftMeasure b need s) := by
  unfold execDriftMeasure
  repeat' first
    | exact rfl | intro _
    | (with_reducible first | exact Frame.refl _ _ | assumption | apply FrameOut.next | apply FrameOut.ite | apply Frame.ite
                            | apply Frame.each | apply Frame.step State.driftRefresh_frame
                            | apply Frame.step State.setBank_frame | apply Frame.step State.setPin_frame)
    | split
    | dsimp only

theorem execDriftApply_frame {point : DriftPoint} {s : State} : FrameOut 12289 s (execDriftApply point s) := by
  unfold execDriftApply
  repeat' first
    | exact rfl | intro _
    | (with_reducible first | exact Frame.refl _ _ | assumption | apply FrameOut.next | apply FrameOut.ite | apply Frame.ite
                            | apply Frame.each | apply Frame.step State.driftRefresh_frame
                            | apply Frame.step State.wr_frame | apply Frame.step State.setPin_frame)
    | split
    | dsimp only

theorem execDriftLate_frame {b : Fin 72} {s : State} : FrameOut 9444732965739493652481 s (execDriftLate b s) := by
  unfold execDriftLate
  repeat' first
    | exact rfl | intro _
    | (with_reducible first | exact Frame.refl _ _ | assumption | apply FrameOut.next | apply FrameOut.ite | apply Frame.ite
                            | apply Frame.step State.raise_frame | apply Frame.step State.count_frame
                            | apply Frame.step State.wr_frame | apply Frame.step State.setBank_frame)
    | split
    | dsimp only

theorem State.applyHeld_frame {s : State} {lo hi : Nat} : Frame 268435459 s (State.applyHeld s lo hi) := by
  unfold State.applyHeld
  repeat' first
    | exact rfl | intro _
    | (with_reducible first | exact Frame.refl _ _ | assumption | apply Frame.foldl | apply Frame.foldl1
                            | apply Frame.foldlP1 | apply Frame.foldlP2 | apply Frame.foldlP3 | apply Frame.foldlP4
                            | apply Frame.foldlP5)
    | split
    | with_reducible apply Frame.step (Frame.upd_act_stg_held (by first | exact KV.risingFrom_filter _ | exact KV.risingFrom_dropRange _ _ | exact KV.wf_filter _ | exact KV.wf_dropRange _ _ | exact KV.risingFrom_put _ _ | exact KV.risingFrom_foldl _) (by first | exact KV.risingFrom_filter _ | exact KV.risingFrom_dropRange _ _ | exact KV.wf_filter _ | exact KV.wf_dropRange _ _ | exact KV.risingFrom_put _ _ | exact KV.risingFrom_foldl _))

theorem State.vrefbTake_frame {s : State} {b v : Nat} : Frame 24577 s (State.vrefbTake s b v) := by
  unfold State.vrefbTake
  repeat' first
    | exact rfl | intro _
    | (with_reducible first | exact Frame.refl _ _ | assumption | apply Frame.ite | apply Frame.step State.blankBank_frame
                            | apply Frame.step State.rsvBits_frame | apply Frame.step State.rsvw_frame
                            | apply Frame.step State.wr_frame)
    | split
    | dsimp only

theorem State.vrefNominal_frame {s : State} {b : Nat} : Frame 24577 s (State.vrefNominal s b) := by
  unfold State.vrefNominal
  repeat' first
    | exact rfl | intro _
    | (with_reducible first | exact Frame.refl _ _ | assumption | apply Frame.step State.blankBank_frame
                            | apply Frame.step State.wr_frame)
    | split
    | dsimp only

theorem State.tcbApply_frame {s : State} {b : Nat} : Frame 268464131 s (State.tcbApply s b) := by
  unfold State.tcbApply
  repeat' first
    | exact rfl | intro _
    | (with_reducible first | exact Frame.refl _ _ | assumption | apply Frame.ite | apply Frame.each
                            | apply Frame.step State.vrefNominal_frame | apply Frame.step State.vrefbTake_frame
                            | apply Frame.step State.applyHeld_frame | apply Frame.step State.blankPin_frame
                            | apply Frame.step State.wr_frame | apply Frame.step State.setBank_frame
                            | apply Frame.step State.setPin_frame)
    | split
    | dsimp only

theorem execTcbCommitApply_frame {b : Fin 72} {s : State} : FrameOut 268464131 s (execTcbCommitApply b s) := by
  unfold execTcbCommitApply
  repeat' first
    | exact rfl | intro _
    | (with_reducible first | exact Frame.refl _ _ | assumption | apply FrameOut.next | apply FrameOut.ite | apply Frame.ite
                            | apply Frame.step State.tcbApply_frame)
    | split
    | dsimp only

end Sys2Proof.Machine
end

