-- ==== Sys2Proof/Laws/FrameLevels.lean ====
section
/-! SUPPORT. What each operation of Machine/Levels.lean can change (Laws/Frame.lean). -/
namespace Sys2Proof.Machine

theorem State.arpUnusable_frame {s : State} {d : Nat} : Frame 1 s (State.arpUnusable s d) := by
  unfold State.arpUnusable
  repeat' first
    | exact rfl | intro _
    | (with_reducible first | exact Frame.refl _ _ | assumption | apply Frame.each | apply Frame.step State.setFail_frame)
    | split
    | dsimp only

theorem State.arpFailed_frame {s : State} {d src : Nat} : Frame 9444732965739493652481 s (State.arpFailed s d src) := by
  unfold State.arpFailed
  repeat' first
    | exact rfl | intro _
    | (with_reducible first | exact Frame.refl _ _ | assumption | apply Frame.step State.arpUnusable_frame
                            | apply Frame.step State.raise_frame)
    | split
    | dsimp only

theorem State.parkGuest_frame {s : State} {d : Nat} : Frame 65537 s (State.parkGuest s d) := by
  unfold State.parkGuest
  repeat' first
    | exact rfl | intro _
    | (with_reducible first | exact Frame.refl _ _ | assumption | apply Frame.step State.setReady_frame
                            | apply Frame.step State.wr_frame | apply Frame.step State.setGuest_frame)
    | split
    | dsimp only

theorem State.arpPartnerReady_frame {s : State} {d : Nat} : Frame 1 s (State.arpPartnerReady s d) := by
  unfold State.arpPartnerReady
  repeat' first
    | exact rfl | intro _
    | (with_reducible first | exact Frame.refl _ _ | assumption | apply Frame.ite | apply Frame.step State.setReady_frame)
    | split
    | dsimp only

theorem execGuestDiscovery_frame {d : Fin 4} {s : State} : FrameOut 65536 s (execGuestDiscovery d s) := by
  unfold execGuestDiscovery
  repeat' first
    | exact rfl | intro _
    | (with_reducible first | exact Frame.refl _ _ | assumption | apply FrameOut.next | apply FrameOut.ite | apply Frame.ite
                            | apply Frame.step State.setGuest_frame)
    | split
    | dsimp only

theorem execGuestSidebandTimeout_frame {d : Fin 4} {s : State} :
    FrameOut 9444732965739493718017 s (execGuestSidebandTimeout d s) := by
  unfold execGuestSidebandTimeout
  repeat' first
    | exact rfl | intro _
    | (with_reducible first | exact Frame.refl _ _ | assumption | apply FrameOut.next | apply FrameOut.ite | apply Frame.ite
                            | apply Frame.step State.parkGuest_frame | apply Frame.step State.arpFailed_frame)
    | split
    | dsimp only

theorem State.arpUp_frame {s : State} {d : Nat} {link : GuestLink} : Frame 65537 s (State.arpUp s d link) := by
  unfold State.arpUp
  repeat' first
    | exact rfl | intro _
    | (with_reducible first | exact Frame.refl _ _ | assumption | apply Frame.ite | apply Frame.each
                            | apply Frame.step State.wr_frame | apply Frame.step State.setGuest_frame)
    | split
    | dsimp only

theorem execGuestAdmissionDone_frame {d : Fin 4} {id : BitVec 16} {gver banks : BitVec 8} {caps : Nat}
    {trained : Bool} {link : GuestLink} {s : State} :
    FrameOut 9444732965739493849089 s (execGuestAdmissionDone d id gver banks caps trained link s) := by
  unfold execGuestAdmissionDone
  repeat' first
    | exact rfl | intro _
    | (with_reducible first | exact Frame.refl _ _ | assumption | apply FrameOut.next | apply FrameOut.ite | apply Frame.ite
                            | apply Frame.each | apply Frame.step State.arpUp_frame
                            | apply Frame.step State.arpPartnerReady_frame | apply Frame.step State.parkGuest_frame
                            | apply Frame.step State.arpFailed_frame | apply Frame.step State.setReady_frame
                            | apply Frame.step State.wr_frame | apply Frame.step State.setArp_frame)
    | split
    | dsimp only

theorem State.arpLost_frame {s : State} {d : Nat} : Frame 9444732965739493718017 s (State.arpLost s d) := by
  unfold State.arpLost
  repeat' first
    | exact rfl | intro _
    | (with_reducible first | exact Frame.refl _ _ | assumption | apply Frame.each | apply Frame.step State.raise_frame
                            | apply Frame.step State.pmuEnd_frame | apply Frame.step State.setReady_frame
                            | apply Frame.step State.wr_frame | apply Frame.step State.setGuest_frame)
    | split
    | dsimp only

theorem execArpLinkDown_frame {d : Fin 4} {s : State} : FrameOut 9444732965739493718017 s (execArpLinkDown d s) := by
  unfold execArpLinkDown
  repeat' first
    | exact rfl | intro _
    | (with_reducible first | exact Frame.refl _ _ | assumption | apply FrameOut.next | apply FrameOut.ite | apply Frame.ite
                            | apply Frame.step State.arpLost_frame)
    | split
    | dsimp only

theorem execArpHeartbeatTimeout_frame {d : Fin 4} {s : State} :
    FrameOut 9444732965739493718017 s (execArpHeartbeatTimeout d s) := by
  unfold execArpHeartbeatTimeout
  repeat' first
    | exact rfl | intro _
    | (with_reducible first | exact Frame.refl _ _ | assumption | apply FrameOut.next | apply FrameOut.ite | apply Frame.ite
                            | apply Frame.each | apply Frame.step State.arpLost_frame
                            | apply Frame.step State.pmuForceOff_frame)
    | split
    | dsimp only

theorem execArpRetrainDone_frame {d : Fin 4} {up : Option GuestLink} {s : State} :
    FrameOut 98305 s (execArpRetrainDone d up s) := by
  unfold execArpRetrainDone
  repeat' first
    | exact rfl | intro _
    | (with_reducible first | exact Frame.refl _ _ | assumption | apply FrameOut.next | apply FrameOut.ite | apply Frame.ite
                            | apply Frame.each | apply Frame.step State.arpUp_frame
                            | apply Frame.step State.arpPartnerReady_frame | apply Frame.step State.arpUnusable_frame
                            | apply Frame.step State.pmuForceOff_frame | apply Frame.step State.setReady_frame
                            | apply Frame.step State.count_frame | apply Frame.step State.setGuest_frame)
    | split
    | dsimp only

theorem execArpOverTemperature_frame {d : Fin 4} {temp : BitVec 16} {s : State} :
    FrameOut 9444732965739493652481 s (execArpOverTemperature d temp s) := by
  unfold execArpOverTemperature
  repeat' first
    | exact rfl | intro _
    | (with_reducible first | exact Frame.refl _ _ | assumption | apply FrameOut.next | apply FrameOut.ite | apply Frame.ite
                            | apply Frame.each | apply Frame.step State.raise_frame
                            | apply Frame.step State.pmuForceOff_frame)
    | split
    | dsimp only

theorem execArpTempSample_frame {d : Fin 4} {t0 t1 t2 t3 : BitVec 16} {s : State} :
    FrameOut 1 s (execArpTempSample d t0 t1 t2 t3 s) := by
  unfold execArpTempSample
  repeat' first
    | exact rfl | intro _
    | (with_reducible first | exact Frame.refl _ _ | assumption | apply FrameOut.next | apply FrameOut.ite | apply Frame.ite
                            | apply Frame.each | apply Frame.step State.wr_frame)
    | split
    | dsimp only

theorem State.vttWrite_frame {s : State} {b : Nat} {v : Word} : Frame 1 s (State.vttWrite s b v) := by
  unfold State.vttWrite
  repeat' first
    | exact rfl | intro _
    | (with_reducible first | exact Frame.refl _ _ | assumption | apply Frame.ite | apply Frame.step State.rsvBits_frame
                            | apply Frame.step State.rsvw_frame | apply Frame.step State.wr_frame)
    | split
    | dsimp only

theorem execVttWrite_frame {b : Fin 72} {v : Word} {s : State} : FrameOut 1 s (execVttWrite b v s) := by
  unfold execVttWrite
  repeat' first
    | exact rfl | intro _
    | (with_reducible first | exact Frame.refl _ _ | assumption | apply FrameOut.next
                            | apply Frame.step State.vttWrite_frame | apply State.atBlock_frame)
    | split
    | dsimp only

theorem State.vrefbWrite_frame {s : State} {b : Nat} {v : Word} : Frame 24577 s (State.vrefbWrite s b v) := by
  unfold State.vrefbWrite
  repeat' first
    | exact rfl | intro _
    | (with_reducible first | exact Frame.refl _ _ | assumption | apply Frame.ite | apply Frame.step State.vrefbTake_frame
                            | apply Frame.step State.setBank_frame)
    | split
    | dsimp only

theorem execVrefbWrite_frame {b : Fin 72} {v : Word} {s : State} : FrameOut 24577 s (execVrefbWrite b v s) := by
  unfold execVrefbWrite
  repeat' first
    | exact rfl | intro _
    | (with_reducible first | exact Frame.refl _ _ | assumption | apply FrameOut.next
                            | apply Frame.step State.vrefbWrite_frame | apply State.atBlock_frame)
    | split
    | dsimp only

theorem State.pmuResult_frame {s : State} {b r : Nat} : Frame 1 s (State.pmuResult s b r) := by
  unfold State.pmuResult
  repeat' first
    | exact rfl | intro _
    | (with_reducible first | exact Frame.refl _ _ | assumption | apply Frame.step State.wrb_frame
                            | apply Frame.step State.wr_frame)
    | split
    | dsimp only

theorem State.pmuCommitted_frame {s : State} {b : Nat} {old : List Nat} :
    Frame 33793 s (State.pmuCommitted s b old) := by
  unfold State.pmuCommitted
  repeat' first
    | exact rfl | intro _
    | (with_reducible first | exact Frame.refl _ _ | assumption | apply Frame.ite | apply Frame.step State.pmuResult_frame
                            | apply Frame.step State.pmuEnd_frame | apply Frame.step State.drew_frame
                            | apply Frame.step State.wrb_frame | apply Frame.step State.wr_frame
                            | apply Frame.step State.setPmu_frame)
    | split
    | dsimp only

theorem State.arpApply_frame {s : State} {d : Nat} : Frame 268469251 s (State.arpApply s d) := by
  unfold State.arpApply
  repeat' first
    | exact rfl | intro _
    | (with_reducible first | exact Frame.refl _ _ | assumption | apply Frame.each
                            | apply Frame.step State.pmuCommitted_frame | apply Frame.step State.applyHeld_frame
                            | apply Frame.step State.wr_frame)
    | split
    | dsimp only

theorem execArpCommitApply_frame {d : Fin 4} {s : State} : FrameOut 268469251 s (execArpCommitApply d s) := by
  unfold execArpCommitApply
  repeat' first
    | exact rfl | intro _
    | (with_reducible first | exact Frame.refl _ _ | assumption | apply FrameOut.next | apply FrameOut.ite | apply Frame.ite
                            | apply Frame.step State.arpApply_frame)
    | split
    | dsimp only

theorem State.pmuGo_frame {s : State} {b : Nat} : Frame 32769 s (State.pmuGo s b) := by
  unfold State.pmuGo
  repeat' first
    | exact rfl | intro _
    | (with_reducible first | exact Frame.refl _ _ | assumption | apply Frame.ite | apply Frame.step State.seqUp_frame
                            | apply Frame.step State.wr_frame | apply Frame.step State.setPmu_frame)
    | split
    | dsimp only

theorem execPmuGo_frame {b : Fin 72} {s : State} : FrameOut 32769 s (execPmuGo b s) := by
  unfold execPmuGo
  repeat' first
    | exact rfl | intro _
    | (with_reducible first | exact Frame.refl _ _ | assumption | apply FrameOut.next | apply Frame.step State.pmuGo_frame
                            | apply State.atBlock_frame)
    | split
    | dsimp only

theorem State.pmuAck_frame {s : State} {b : Nat} : Frame 1 s (State.pmuAck s b) := by
  unfold State.pmuAck
  repeat' first
    | exact rfl | intro _
    | (with_reducible first | exact Frame.refl _ _ | assumption | apply Frame.ite | apply Frame.step State.wr_frame)
    | split
    | dsimp only

theorem execPmuAck_frame {b : Fin 72} {s : State} : FrameOut 1 s (execPmuAck b s) := by
  unfold execPmuAck
  repeat' first
    | exact rfl | intro _
    | (with_reducible first | exact Frame.refl _ _ | assumption | apply FrameOut.next | apply Frame.step State.pmuAck_frame
                            | apply State.atBlock_frame)
    | split
    | dsimp only

theorem execPmuSettleEnd_frame {b : Fin 72} {s : State} : FrameOut 32768 s (execPmuSettleEnd b s) := by
  unfold execPmuSettleEnd
  repeat' first
    | exact rfl | intro _
    | (with_reducible first | exact Frame.refl _ _ | assumption | apply FrameOut.next | apply FrameOut.ite | apply Frame.ite
                            | apply Frame.step State.setPmu_frame)
    | split
    | dsimp only

theorem execPmuMeasureDone_frame {b : Fin 72} {amps volts uv code : Int} {s : State} :
    FrameOut 33793 s (execPmuMeasureDone b amps volts uv code s) := by
  unfold execPmuMeasureDone
  repeat' first
    | exact rfl | intro _
    | (with_reducible first | exact Frame.refl _ _ | assumption | apply FrameOut.next | apply FrameOut.ite | apply Frame.ite
                            | apply Frame.step State.pmuResult_frame | apply Frame.step State.drew_frame
                            | apply Frame.step State.wr_frame | apply Frame.step State.setPmu_frame)
    | split
    | dsimp only

theorem execPmuOldRangeDisconnect_frame {b : Fin 72} {s : State} :
    FrameOut 32768 s (execPmuOldRangeDisconnect b s) := by
  unfold execPmuOldRangeDisconnect
  repeat' first
    | exact rfl | intro _
    | (with_reducible first | exact Frame.refl _ _ | assumption | apply FrameOut.next | apply FrameOut.ite | apply Frame.ite
                            | apply Frame.step State.setPmu_frame)
    | split
    | dsimp only

theorem execPmuRangeSettled_frame {b : Fin 72} {s : State} : FrameOut 32769 s (execPmuRangeSettled b s) := by
  unfold execPmuRangeSettled
  repeat' first
    | exact rfl | intro _
    | (with_reducible first | exact Frame.refl _ _ | assumption | apply FrameOut.next | apply FrameOut.ite | apply Frame.ite
                            | apply Frame.step State.wr_frame | apply Frame.step State.setPmu_frame)
    | split
    | dsimp only

end Sys2Proof.Machine
end

