-- ==== Sys2Proof/Laws/FrameOnChip.lean ====
section
/-! SUPPORT. What each operation of Machine/OnChip.lean can change (Laws/Frame.lean). -/
namespace Sys2Proof.Machine

theorem State.egEvent_frame {s : State} {g kind syn addr : Nat} :
    Frame 9444732965739493652481 s (State.egEvent s g kind syn addr) := by
  unfold State.egEvent
  repeat' first
    | exact rfl | intro _
    | (with_reducible first | exact Frame.refl _ _ | assumption | apply Frame.ite | apply Frame.step State.raise_frame
                            | apply Frame.step State.count_frame | apply Frame.step State.wr_frame)
    | split
    | dsimp only

theorem State.eccCount_frame {s : State} {g y addr : Nat} :
    Frame 9444732965739493652481 s (State.eccCount s g y addr) := by
  unfold State.eccCount
  repeat' first
    | exact rfl | intro _
    | (with_reducible first | exact Frame.refl _ _ | assumption | apply Frame.step State.egEvent_frame)
    | split
    | dsimp only

theorem State.readWord_frame {s : State} {w : Nat} {noc : optParam Bool true} :
    Frame 9444732965739493652481 s (State.readWord s w noc) := by
  unfold State.readWord
  repeat' first
    | exact rfl | intro _
    | (with_reducible first | exact Frame.refl _ _ | assumption | apply Frame.ite | apply Frame.step State.eccCount_frame
                            | apply Frame.step State.wr_frame)
    | split
    | dsimp only

theorem State.breakResv_frame {s : State} {g : Nat} : Frame 18446744073709551616 s (State.breakResv s g) := by
  unfold State.breakResv
  repeat' first
    | exact rfl | intro _
    | (with_reducible first | exact Frame.refl _ _ | assumption | apply Frame.ite | apply Frame.each
                            | apply Frame.step State.setSp_frame)
    | split
    | dsimp only

theorem State.writeWord_frame {s : State} {w v mask : Nat} {pois : Bool} {rmw : optParam Bool true} :
    Frame 9463179709813203204125 s (State.writeWord s w v mask pois rmw) := by
  unfold State.writeWord
  repeat' first
    | exact rfl | intro _
    | (with_reducible first | exact Frame.refl _ _ | assumption | apply Frame.ite | apply Frame.foldl | apply Frame.foldl1
                            | apply Frame.foldlP1 | apply Frame.foldlP2 | apply Frame.foldlP3 | apply Frame.foldlP4
                            | apply Frame.foldlP5 | apply Frame.step State.breakResv_frame
                            | apply Frame.step State.readWord_frame | apply Frame.step State.wrMem_frame
                            | apply Frame.step State.setSyndrome_frame | apply Frame.step State.setValid_frame)
    | split
    | dsimp only

theorem State.countChip_frame {s : State} {a n : Nat} {noc : optParam Bool true} :
    Frame 9444732965739493652481 s (State.countChip s a n noc) := by
  unfold State.countChip
  repeat' first
    | exact rfl | intro _
    | (with_reducible first | exact Frame.refl _ _ | assumption | apply Frame.each | apply Frame.step State.readWord_frame)
    | split
    | dsimp only

theorem State.writeChip_frame {s : State} {a n v : Nat} {pois : optParam Bool false} {rmw : optParam Bool true} :
    Frame 9463179709813203204125 s (State.writeChip s a n v pois rmw) := by
  unfold State.writeChip
  repeat' first
    | exact rfl | intro _
    | (with_reducible first | exact Frame.refl _ _ | assumption | apply Frame.each | apply Frame.step State.writeWord_frame)
    | split
    | dsimp only

theorem State.invalidateChip_frame {s : State} {lo hi : Nat} : Frame 28 s (State.invalidateChip s lo hi) := by
  unfold State.invalidateChip
  repeat' first
    | exact rfl | intro _
    | (with_reducible first | exact Frame.refl _ _ | assumption)
    | split
    | with_reducible apply Frame.step (Frame.upd_mem_wordOk_wordChk (by first | exact KV.risingFrom_filter _ | exact KV.risingFrom_dropRange _ _ | exact KV.wf_filter _ | exact KV.wf_dropRange _ _ | exact KV.risingFrom_put _ _ | exact KV.risingFrom_foldl _))

end Sys2Proof.Machine
end

