-- ==== Sys2Proof/Laws/FramePsq.lean ====
section
/-! SUPPORT. What each operation of Machine/Psq.lean can change (Laws/Frame.lean). -/
namespace Sys2Proof.Machine

theorem State.setSeq_frame {s : State} {p : Nat} {x : PsqX} : Frame 262145 s (State.setSeq s p x) := by
  unfold State.setSeq
  repeat' first
    | exact rfl | intro _
    | (with_reducible first | exact Frame.refl _ _ | assumption | apply Frame.step State.wrb_frame
                            | apply Frame.step State.wr_frame | apply Frame.step State.setPsq_frame)
    | split
    | dsimp only

theorem State.recordStop_frame {s : State} {p t : Nat} : Frame 1 s (State.recordStop s p t) := by
  unfold State.recordStop
  repeat' first
    | exact rfl | intro _
    | (with_reducible first | exact Frame.refl _ _ | assumption | apply Frame.step State.wr2_frame
                            | apply Frame.step State.wr_frame)
    | split
    | dsimp only

theorem State.stopNow_frame {s : State} {p t : Nat} : Frame 9444732965739292264449 s (State.stopNow s p t) := by
  unfold State.stopNow
  repeat' first
    | exact rfl | intro _
    | (with_reducible first | exact Frame.refl _ _ | assumption | apply Frame.ite | apply Frame.step State.haltPsq_frame)
    | split
    | dsimp only

theorem State.countFetch_frame {s : State} {p : Nat} : Frame 9444732965739493652481 s (State.countFetch s p) := by
  unfold State.countFetch
  repeat' first
    | exact rfl | intro _
    | (with_reducible first | exact Frame.refl _ _ | assumption | apply Frame.ite | apply Frame.step State.countChip_frame)
    | split
    | dsimp only

theorem State.psqCompare_frame {s : State} {p : Nat} {stream : Bool} {addr : Nat} :
    Frame 1 s (State.psqCompare s p stream addr).1 := by
  unfold State.psqCompare
  repeat' first
    | exact rfl | intro _
    | (with_reducible first | exact Frame.refl _ _ | assumption | apply Frame.ite1 | apply Frame.ite
                            | apply Frame.step State.wr_frame)
    | split
    | dsimp only

theorem State.hostHalt_frame {s : State} {p : Nat} : Frame 9444732965739292264449 s (State.hostHalt s p) := by
  unfold State.hostHalt
  repeat' first
    | exact rfl | intro _
    | (with_reducible first | exact Frame.refl _ _ | assumption | apply Frame.ite | apply Frame.step State.recordStop_frame
                            | apply Frame.step State.haltPsq_frame | apply Frame.step State.sendStop_frame
                            | apply Frame.step State.setPsq_frame)
    | split
    | dsimp only

theorem State.issue_frame {s : State} {p n : Nat} {w : PWord} {again : optParam Bool false} :
    Frame 9444732965739493652481 s (State.issue s p n w again) := by
  unfold State.issue
  repeat' first
    | exact rfl | intro _
    | (with_reducible first | exact Frame.refl _ _ | assumption | apply Frame.ite | apply Frame.step State.hostHalt_frame
                            | apply Frame.step State.psqCompare_frame | apply Frame.step State.countFetch_frame
                            | apply Frame.step State.wr_frame | apply Frame.step State.setPsq_frame
                            | apply Frame.of1 (by assumption))
    | split
    | dsimp only

theorem State.advance_frame {s : State} {p : Nat} : Frame 262145 s (State.advance s p) := by
  unfold State.advance
  repeat' first
    | exact rfl | intro _
    | (with_reducible first | exact Frame.refl _ _ | assumption | apply Frame.step State.setSeq_frame)
    | split
    | dsimp only

theorem State.jump_frame {s : State} {p target : Nat} : Frame 262145 s (State.jump s p target) := by
  unfold State.jump
  repeat' first
    | exact rfl | intro _
    | (with_reducible first | exact Frame.refl _ _ | assumption | apply Frame.ite | apply Frame.step State.setSeq_frame)
    | split
    | dsimp only

theorem State.illegal_frame {s : State} {p cause : Nat} : Frame 9444732965739493652481 s (State.illegal s p cause) := by
  unfold State.illegal
  repeat' first
    | exact rfl | intro _
    | (with_reducible first | exact Frame.refl _ _ | assumption | apply Frame.step State.raise_frame
                            | apply Frame.step State.haltPsq_frame)
    | split
    | dsimp only

theorem State.stackFault_frame {s : State} {p : Nat} : Frame 9444732965739493652481 s (State.stackFault s p) := by
  unfold State.stackFault
  repeat' first
    | exact rfl | intro _
    | (with_reducible first | exact Frame.refl _ _ | assumption | apply Frame.step State.raise_frame
                            | apply Frame.step State.haltPsq_frame)
    | split
    | dsimp only

theorem State.underrun_frame {s : State} {p : Nat} : Frame 9444732965739493652481 s (State.underrun s p) := by
  unfold State.underrun
  repeat' first
    | exact rfl | intro _
    | (with_reducible first | exact Frame.refl _ _ | assumption | apply Frame.step State.raise_frame
                            | apply Frame.step State.haltPsq_frame)
    | split
    | dsimp only

-- HO 2
theorem State.inPclk_frame {s f : State} {p W : Nat} (hW : 9444732965739292264449 &&& W = 9444732965739292264449) (hf :
    Frame W s f) : Frame W s (State.inPclk s p f) := by
  have hn {t : Nat} := (State.stopNow_frame (s := s) (p := p) (t := t)).mono (mono_of (by decide) hW)
  unfold State.inPclk
  repeat' first
    | exact Frame.refl _ _
    | with_reducible assumption
    | exact hn
    | split
    | dsimp only

-- HO 2
theorem State.atWord_frame {s : State} {p op : Nat} {f : PWord → State} {W : Nat} (hW : 9444732965739493652481 &&& W = 9444732965739493652481)
    (hf : ∀ w, Frame W s (f w)) : Frame W s (State.atWord s p op f) := by
  unfold State.atWord
  apply State.inPclk_frame (mono_of (by decide) hW)
  split
  · split
    · exact hf _
    · exact Frame.refl _ _
  · exact Frame.mono (mono_of (by decide) hW) (Frame.step State.illegal_frame (by decide) State.countFetch_frame)
  · split
    · exact Frame.refl _ _
    · exact State.underrun_frame.mono (mono_of (by decide) hW)

theorem execPsqNext_frame {p : Fin 16} {s : State} : FrameOut 9444732965739493652481 s (execPsqNext p s) := by
  unfold execPsqNext
  repeat' first
    | exact rfl | intro _
    | (with_reducible first | exact Frame.refl _ _ | assumption | apply FrameOut.next | apply State.atWord_frame
                            | apply Frame.step State.advance_frame | apply Frame.step State.issue_frame)
    | split
    | dsimp only

theorem execPsqRepeat_frame {r : RepeatPart} {s : State} : FrameOut 9444732965739493652481 s (execPsqRepeat r s) := by
  unfold execPsqRepeat
  repeat' first
    | exact rfl | intro _
    | (with_reducible first | exact Frame.refl _ _ | assumption | apply FrameOut.next | apply FrameOut.ite | apply Frame.ite
                            | apply FrameO.getD | apply State.atWord_frame | apply Frame.step State.advance_frame
                            | apply Frame.step State.issue_frame | apply Frame.step State.stopNow_frame
                            | apply Frame.step State.setPsq_frame)
    | split
    | dsimp only

theorem execPsqLoop_frame {p : Fin 16} {s : State} : FrameOut 9444732965739493652481 s (execPsqLoop p s) := by
  unfold execPsqLoop
  repeat' first
    | exact rfl | intro _
    | (with_reducible first | exact Frame.refl _ _ | assumption | apply FrameOut.next | apply FrameOut.ite | apply Frame.ite
                            | apply State.atWord_frame | apply Frame.step State.stackFault_frame
                            | apply Frame.step State.advance_frame | apply Frame.step State.issue_frame
                            | apply Frame.step State.setPsq_frame)
    | split
    | dsimp only

theorem execPsqEndloop_frame {p : Fin 16} {s : State} : FrameOut 9444732965739493652481 s (execPsqEndloop p s) := by
  unfold execPsqEndloop
  repeat' first
    | exact rfl | intro _
    | (with_reducible first | exact Frame.refl _ _ | assumption | apply FrameOut.next | apply FrameOut.ite | apply Frame.ite
                            | apply State.atWord_frame | apply Frame.step State.stackFault_frame
                            | apply Frame.step State.advance_frame | apply Frame.step State.issue_frame
                            | apply Frame.step State.setSeq_frame | apply Frame.step State.setPsq_frame)
    | split
    | dsimp only

theorem execPsqJump_frame {p : Fin 16} {s : State} : FrameOut 9444732965739493652481 s (execPsqJump p s) := by
  unfold execPsqJump
  repeat' first
    | exact rfl | intro _
    | (with_reducible first | exact Frame.refl _ _ | assumption | apply FrameOut.next | apply State.atWord_frame
                            | apply Frame.step State.jump_frame | apply Frame.step State.issue_frame)
    | split
    | dsimp only

theorem execPsqCall_frame {p : Fin 16} {s : State} : FrameOut 9444732965739493652481 s (execPsqCall p s) := by
  unfold execPsqCall
  repeat' first
    | exact rfl | intro _
    | (with_reducible first | exact Frame.refl _ _ | assumption | apply FrameOut.next | apply FrameOut.ite | apply Frame.ite
                            | apply State.atWord_frame | apply Frame.step State.stackFault_frame
                            | apply Frame.step State.issue_frame | apply Frame.step State.setSeq_frame)
    | split
    | dsimp only

theorem execPsqRet_frame {p : Fin 16} {s : State} : FrameOut 9444732965739493652481 s (execPsqRet p s) := by
  unfold execPsqRet
  repeat' first
    | exact rfl | intro _
    | (with_reducible first | exact Frame.refl _ _ | assumption | apply FrameOut.next | apply FrameOut.ite | apply Frame.ite
                            | apply State.atWord_frame | apply Frame.step State.stackFault_frame
                            | apply Frame.step State.issue_frame | apply Frame.step State.setSeq_frame)
    | split
    | dsimp only

theorem execPsqHalt_frame {p : Fin 16} {s : State} : FrameOut 9444732965739493652481 s (execPsqHalt p s) := by
  unfold execPsqHalt
  repeat' first
    | exact rfl | intro _
    | (with_reducible first | exact Frame.refl _ _ | assumption | apply FrameOut.next | apply State.atWord_frame
                            | apply Frame.step State.issue_frame | apply Frame.step State.haltPsq_frame)
    | split
    | dsimp only

theorem State.clearSff_frame {s : State} {p : Nat} : Frame 262145 s (State.clearSff s p) := by
  unfold State.clearSff
  repeat' first
    | exact rfl | intro _
    | (with_reducible first | exact Frame.refl _ _ | assumption | apply Frame.step State.wr_frame
                            | apply Frame.step State.setPsq_frame)
    | split
    | dsimp only

theorem State.conditional_frame {s : State} {p : Nat} {w : PWord} {take : Bool} :
    Frame 9444732965739493652481 s (State.conditional s p w take) := by
  unfold State.conditional
  repeat' first
    | exact rfl | intro _
    | (with_reducible first | exact Frame.refl _ _ | assumption | apply Frame.ite | apply Frame.step State.clearSff_frame
                            | apply Frame.step State.jump_frame | apply Frame.step State.advance_frame
                            | apply Frame.step State.issue_frame)
    | split
    | dsimp only

theorem execPsqJfail_frame {p : Fin 16} {s : State} : FrameOut 9444732965739493652481 s (execPsqJfail p s) := by
  unfold execPsqJfail
  repeat' first
    | exact rfl | intro _
    | (with_reducible first | exact Frame.refl _ _ | assumption | apply FrameOut.next
                            | apply Frame.step State.conditional_frame | apply State.atWord_frame)
    | split
    | dsimp only

theorem execPsqJpass_frame {p : Fin 16} {s : State} : FrameOut 9444732965739493652481 s (execPsqJpass p s) := by
  unfold execPsqJpass
  repeat' first
    | exact rfl | intro _
    | (with_reducible first | exact Frame.refl _ _ | assumption | apply FrameOut.next
                            | apply Frame.step State.conditional_frame | apply State.atWord_frame)
    | split
    | dsimp only

theorem execPsqClrf_frame {p : Fin 16} {s : State} : FrameOut 9444732965739493652481 s (execPsqClrf p s) := by
  unfold execPsqClrf
  repeat' first
    | exact rfl | intro _
    | (with_reducible first | exact Frame.refl _ _ | assumption | apply FrameOut.next
                            | apply Frame.step State.clearSff_frame | apply State.atWord_frame
                            | apply Frame.step State.advance_frame | apply Frame.step State.issue_frame)
    | split
    | dsimp only

theorem State.setWait_frame {s : State} {p : Nat} {w : PsqWait} : Frame 262145 s (State.setWait s p w) := by
  unfold State.setWait
  repeat' first
    | exact rfl | intro _
    | (with_reducible first | exact Frame.refl _ _ | assumption | apply Frame.ite | apply Frame.step State.wr_frame
                            | apply Frame.step State.setPsq_frame)
    | split
    | dsimp only

theorem execPsqMatch_frame {p : Fin 16} {s : State} : FrameOut 9444732965739493652481 s (execPsqMatch p s) := by
  unfold execPsqMatch
  repeat' first
    | exact rfl | intro _
    | (with_reducible first | exact Frame.refl _ _ | assumption | apply FrameOut.next | apply FrameOut.ite | apply Frame.ite
                            | apply Frame.step State.setWait_frame | apply State.atWord_frame
                            | apply Frame.step State.issue_frame | apply Frame.step State.setPsq_frame)
    | split
    | dsimp only

theorem State.resume_frame {s : State} {p last : Nat} : Frame 262145 s (State.resume s p last) := by
  unfold State.resume
  repeat' first
    | exact rfl | intro _
    | (with_reducible first | exact Frame.refl _ _ | assumption | apply Frame.ite | apply Frame.step State.setWait_frame
                            | apply Frame.step State.setPsq_frame)
    | split
    | dsimp only

theorem State.matchPassed_frame {s : State} {p t : Nat} : Frame 9444732965739292264449 s (State.matchPassed s p t) := by
  unfold State.matchPassed
  repeat' first
    | exact rfl | intro _
    | (with_reducible first | exact Frame.refl _ _ | assumption | apply Frame.ite | apply Frame.step State.resume_frame
                            | apply Frame.step State.advance_frame | apply Frame.step State.stopNow_frame)
    | split
    | dsimp only

theorem execMatchResult_frame {p : Fin 16} {c : Nat} {s : State} :
    FrameOut 9444732965739292264449 s (execMatchResult p c s) := by
  unfold execMatchResult
  repeat' first
    | exact rfl | intro _
    | (with_reducible first | exact Frame.refl _ _ | assumption | apply FrameOut.next | apply FrameOut.ite | apply Frame.ite
                            | apply Frame.step State.matchPassed_frame | apply Frame.step State.setPsq_frame)
    | split
    | dsimp only

theorem execMatchTimeout.fin_frame {p : Fin 16} {s : State} {last : Nat} :
    Frame 262145 s (execMatchTimeout.fin p s last) := by
  unfold execMatchTimeout.fin
  repeat' first
    | exact rfl | intro _
    | (with_reducible first | exact Frame.refl _ _ | assumption | apply Frame.step State.resume_frame
                            | apply Frame.step State.advance_frame | apply Frame.step State.count_frame
                            | apply Frame.step State.wr_frame)
    | split
    | dsimp only

theorem execMatchTimeout_frame {p : Fin 16} {s : State} : FrameOut 9444732965739292264449 s (execMatchTimeout p s) := by
  unfold execMatchTimeout
  repeat' first
    | exact rfl | intro _
    | (with_reducible first | exact Frame.refl _ _ | assumption | apply FrameOut.next | apply FrameOut.ite | apply Frame.ite
                            | apply Frame.step execMatchTimeout.fin_frame | apply Frame.step State.matchPassed_frame
                            | apply Frame.step State.resume_frame | apply Frame.step State.advance_frame
                            | apply Frame.step State.stopNow_frame | apply Frame.step State.count_frame
                            | apply Frame.step State.wr_frame)
    | split
    | dsimp only

theorem execPsqSync_frame {p : Fin 16} {s : State} : FrameOut 9444732965739493652481 s (execPsqSync p s) := by
  unfold execPsqSync
  repeat' first
    | exact rfl | intro _
    | (with_reducible first | exact Frame.refl _ _ | assumption | apply FrameOut.next | apply FrameOut.ite | apply Frame.ite
                            | apply Frame.step State.setWait_frame | apply State.atWord_frame
                            | apply Frame.step State.advance_frame | apply Frame.step State.issue_frame
                            | apply Frame.step State.count_frame)
    | split
    | dsimp only

theorem execSyncTickReached_frame {p : Fin 16} {s : State} :
    FrameOut 9444732965739292264449 s (execSyncTickReached p s) := by
  unfold execSyncTickReached
  repeat' first
    | exact rfl | intro _
    | (with_reducible first | exact Frame.refl _ _ | assumption | apply FrameOut.next | apply FrameOut.ite | apply Frame.ite
                            | apply Frame.step State.resume_frame | apply Frame.step State.advance_frame
                            | apply Frame.step State.stopNow_frame)
    | split
    | dsimp only

theorem execPsqPace_frame {p : Fin 16} {s : State} : FrameOut 9444732965739493652481 s (execPsqPace p s) := by
  unfold execPsqPace
  repeat' first
    | exact rfl | intro _
    | (with_reducible first | exact Frame.refl _ _ | assumption | apply FrameOut.next | apply FrameOut.ite | apply Frame.ite
                            | apply State.atWord_frame | apply Frame.step State.stackFault_frame
                            | apply Frame.step State.advance_frame | apply Frame.step State.issue_frame
                            | apply Frame.step State.setPsq_frame)
    | split
    | dsimp only

theorem State.nextIteration_frame {s : State} {p : Nat} : Frame 262145 s (State.nextIteration s p) := by
  unfold State.nextIteration
  repeat' first
    | exact rfl | intro _
    | (with_reducible first | exact Frame.refl _ _ | assumption | apply Frame.step State.setSeq_frame)
    | split
    | dsimp only

theorem execPsqEndpace_frame {p : Fin 16} {s : State} : FrameOut 9444732965739493652481 s (execPsqEndpace p s) := by
  unfold execPsqEndpace
  repeat' first
    | exact rfl | intro _
    | (with_reducible first | exact Frame.refl _ _ | assumption | apply FrameOut.next | apply FrameOut.ite | apply Frame.ite
                            | apply Frame.step State.nextIteration_frame | apply Frame.step State.setWait_frame
                            | apply State.atWord_frame | apply Frame.step State.stackFault_frame
                            | apply Frame.step State.advance_frame | apply Frame.step State.issue_frame
                            | apply Frame.step State.count_frame | apply Frame.step State.setPsq_frame)
    | split
    | dsimp only

theorem execPaceSlotReached_frame {p : Fin 16} {s : State} :
    FrameOut 9444732965739292264449 s (execPaceSlotReached p s) := by
  unfold execPaceSlotReached
  repeat' first
    | exact rfl | intro _
    | (with_reducible first | exact Frame.refl _ _ | assumption | apply FrameOut.next | apply FrameOut.ite | apply Frame.ite
                            | apply Frame.step State.nextIteration_frame | apply Frame.step State.resume_frame
                            | apply Frame.step State.stopNow_frame)
    | split
    | dsimp only

theorem State.elasticWait_frame {s : State} {p : Nat} : Frame 262145 s (State.elasticWait s p) := by
  unfold State.elasticWait
  repeat' first
    | exact rfl | intro _
    | (with_reducible first | exact Frame.refl _ _ | assumption | apply Frame.ite | apply Frame.step State.setWait_frame
                            | apply Frame.step State.setPsq_frame)
    | split
    | dsimp only

theorem execPsqMark_frame {p : Fin 16} {s : State} : FrameOut 9444732965739493652481 s (execPsqMark p s) := by
  unfold execPsqMark
  repeat' first
    | exact rfl | intro _
    | (with_reducible first | exact Frame.refl _ _ | assumption | apply FrameOut.next
                            | apply Frame.step State.elasticWait_frame | apply State.atWord_frame
                            | apply Frame.step State.advance_frame | apply Frame.step State.issue_frame)
    | split
    | dsimp only

theorem execPsqTrig_frame {p : Fin 16} {s : State} : FrameOut 9444732965739495749633 s (execPsqTrig p s) := by
  unfold execPsqTrig
  repeat' first
    | exact rfl | intro _
    | (with_reducible first | exact Frame.refl _ _ | assumption | apply FrameOut.next | apply FrameOut.ite | apply Frame.ite
                            | apply State.atWord_frame | apply Frame.step State.advance_frame
                            | apply Frame.step State.issue_frame)
    | split
    | with_reducible apply Frame.step Frame.upd_trigs

theorem execPsqStrm_frame {p : Fin 16} {s : State} : FrameOut 9444732965739493652481 s (execPsqStrm p s) := by
  unfold execPsqStrm
  repeat' first
    | exact rfl | intro _
    | (with_reducible first | exact Frame.refl _ _ | assumption | apply FrameOut.next | apply FrameOut.ite | apply Frame.ite
                            | apply Frame.step State.elasticWait_frame | apply State.atWord_frame
                            | apply Frame.step State.stackFault_frame | apply Frame.step State.issue_frame
                            | apply Frame.step State.setSeq_frame)
    | split
    | dsimp only

theorem execPsqSret_frame {p : Fin 16} {s : State} : FrameOut 9444732965739493652481 s (execPsqSret p s) := by
  unfold execPsqSret
  repeat' first
    | exact rfl | intro _
    | (with_reducible first | exact Frame.refl _ _ | assumption | apply FrameOut.next | apply FrameOut.ite | apply Frame.ite
                            | apply State.atWord_frame | apply Frame.step State.stackFault_frame
                            | apply Frame.step State.issue_frame | apply Frame.step State.setSeq_frame)
    | split
    | dsimp only

theorem execPsqLkstop_frame {p : Fin 16} {s : State} : FrameOut 9444732965739493652481 s (execPsqLkstop p s) := by
  unfold execPsqLkstop
  repeat' first
    | exact rfl | intro _
    | (with_reducible first | exact Frame.refl _ _ | assumption | apply FrameOut.next | apply FrameOut.ite | apply Frame.ite
                            | apply State.atWord_frame | apply Frame.step State.advance_frame
                            | apply Frame.step State.issue_frame | apply Frame.step State.recordStop_frame
                            | apply Frame.step State.sendStop_frame)
    | split
    | dsimp only

theorem execPsqLkend_frame {p : Fin 16} {s : State} : FrameOut 9444732965739493652481 s (execPsqLkend p s) := by
  unfold execPsqLkend
  repeat' first
    | exact rfl | intro _
    | (with_reducible first | exact Frame.refl _ _ | assumption | apply FrameOut.next | apply State.atWord_frame
                            | apply Frame.step State.advance_frame | apply Frame.step State.issue_frame
                            | apply Frame.step State.setPsq_frame)
    | split
    | dsimp only

theorem execPsqIllegalWord_frame {p : Fin 16} {s : State} :
    FrameOut 9444732965739493652481 s (execPsqIllegalWord p s) := by
  unfold execPsqIllegalWord
  repeat' first
    | exact rfl | intro _
    | (with_reducible first | exact Frame.refl _ _ | assumption | apply FrameOut.next | apply State.inPclk_frame
                            | apply Frame.step State.illegal_frame | apply Frame.step State.countFetch_frame)
    | split
    | dsimp only

theorem execPsqConditionSample_frame {p : Fin 16} {ffail poison : Bool} {s : State} :
    FrameOut 9444732965739493652481 s (execPsqConditionSample p ffail poison s) := by
  unfold execPsqConditionSample
  repeat' first
    | exact rfl | intro _
    | (with_reducible first | exact Frame.refl _ _ | assumption | apply FrameOut.next | apply FrameOut.ite | apply Frame.ite
                            | apply Frame.step State.raise_frame | apply Frame.step State.wr_frame)
    | split
    | dsimp only

theorem execSegmentResident_frame {p : Fin 16} {n : Nat} {s : State} :
    FrameOut 262145 s (execSegmentResident p n s) := by
  unfold execSegmentResident
  repeat' first
    | exact rfl | intro _
    | (with_reducible first | exact Frame.refl _ _ | assumption | apply FrameOut.next | apply FrameOut.ite | apply Frame.ite
                            | apply Frame.step State.setWait_frame | apply Frame.step State.count2_frame
                            | apply Frame.step State.setPsq_frame)
    | split
    | dsimp only

theorem execPatternUnderrun_frame {p : Fin 16} {s : State} :
    FrameOut 9444732965739493652481 s (execPatternUnderrun p s) := by
  unfold execPatternUnderrun
  repeat' first
    | exact rfl | intro _
    | (with_reducible first | exact Frame.refl _ _ | assumption | apply FrameOut.next | apply FrameOut.ite | apply Frame.ite
                            | apply State.inPclk_frame | apply Frame.step State.underrun_frame)
    | split
    | dsimp only

theorem execUrKeepExpire_frame {p : Fin 16} {b : Fin 72} {c : Nat} {s : State} :
    FrameOut 262144 s (execUrKeepExpire p b c s) := by
  unfold execUrKeepExpire
  repeat' first
    | exact rfl | intro _
    | (with_reducible first | exact Frame.refl _ _ | assumption | apply FrameOut.next | apply FrameOut.ite | apply Frame.ite
                            | apply Frame.step State.setPsq_frame)
    | split
    | dsimp only

theorem State.sdWrite_frame {s : State} {p n reg : Nat} {v : Word} : Frame 262145 s (State.sdWrite s p n reg v) := by
  unfold State.sdWrite
  repeat' first
    | exact rfl | intro _
    | (with_reducible first | exact Frame.refl _ _ | assumption | apply Frame.ite | apply Frame.step State.rsvBits_frame
                            | apply Frame.step State.rsvw_frame | apply Frame.step State.wr_frame
                            | apply Frame.step State.setPsq_frame)
    | split
    | dsimp only

theorem execSdWrite_frame {p : Fin 16} {n : Fin 8} {reg : Fin 3} {v : Word} {s : State} :
    FrameOut 262145 s (execSdWrite p n reg v s) := by
  unfold execSdWrite
  repeat' first
    | exact rfl | intro _
    | (with_reducible first | exact Frame.refl _ _ | assumption | apply FrameOut.next | apply Frame.step State.sdWrite_frame
                            | apply State.atBlock_frame)
    | split
    | dsimp only

theorem State.sdCtl_frame {s : State} {p n : Nat} {v : Word} : Frame 1 s (State.sdCtl s p n v) := by
  unfold State.sdCtl
  repeat' first
    | exact rfl | intro _
    | (with_reducible first | exact Frame.refl _ _ | assumption | apply Frame.ite | apply Frame.step State.rsvBits_frame
                            | apply Frame.step State.wrb_frame | apply Frame.step State.wr_frame)
    | split
    | dsimp only

theorem execSdScan_frame {p : Fin 16} {n : Fin 8} {v : Word} {s : State} : FrameOut 1 s (execSdScan p n v s) := by
  unfold execSdScan
  repeat' first
    | exact rfl | intro _
    | (with_reducible first | exact Frame.refl _ _ | assumption | apply FrameOut.next | apply Frame.step State.sdCtl_frame
                            | apply State.atBlock_frame)
    | split
    | dsimp only

theorem State.lsWrite_frame {s : State} {p off : Nat} {v : Word} :
    Frame 9463179709813203204125 s (State.lsWrite s p off v) := by
  unfold State.lsWrite
  repeat' first
    | exact rfl | intro _
    | (with_reducible first | exact Frame.refl _ _ | assumption | apply Frame.ite | apply Frame.step State.writeChip_frame
                            | apply Frame.step State.wr_frame)
    | split
    | dsimp only

theorem execLocalStoreWrite_frame {p : Fin 16} {off : BitVec 17} {v : Word} {s : State} :
    FrameOut 9463179709813203204125 s (execLocalStoreWrite p off v s) := by
  unfold execLocalStoreWrite
  repeat' first
    | exact rfl | intro _
    | (with_reducible first | exact Frame.refl _ _ | assumption | apply FrameOut.next | apply Frame.step State.lsWrite_frame
                            | apply State.atBlock_frame)
    | split
    | dsimp only

theorem State.psqArm_frame {s : State} {p : Nat} : Frame 9444732965740030523395 s (State.psqArm s p) := by
  unfold State.psqArm
  repeat' first
    | exact rfl | intro _
    | (with_reducible first | exact Frame.refl _ _ | assumption | apply Frame.ite | apply Frame.step State.setMode_frame
                            | apply Frame.step State.seqUp_frame | apply Frame.step State.wr_frame
                            | apply Frame.step State.setPsq_frame)
    | split
    | dsimp only

theorem execPsqArm_frame {p : Fin 16} {s : State} : FrameOut 9444732965740030523395 s (execPsqArm p s) := by
  unfold execPsqArm
  repeat' first
    | exact rfl | intro _
    | (with_reducible first | exact Frame.refl _ _ | assumption | apply FrameOut.next | apply Frame.step State.psqArm_frame
                            | apply State.atBlock_frame)
    | split
    | dsimp only

theorem State.psqAck_frame {s : State} {p : Nat} : Frame 1 s (State.psqAck s p) := by
  unfold State.psqAck
  repeat' first
    | exact rfl | intro _
    | (with_reducible first | exact Frame.refl _ _ | assumption | apply Frame.ite | apply Frame.step State.wr_frame)
    | split
    | dsimp only

theorem execPsqCmdAck_frame {p : Fin 16} {s : State} : FrameOut 1 s (execPsqCmdAck p s) := by
  unfold execPsqCmdAck
  repeat' first
    | exact rfl | intro _
    | (with_reducible first | exact Frame.refl _ _ | assumption | apply FrameOut.next | apply Frame.step State.psqAck_frame
                            | apply State.atBlock_frame)
    | split
    | dsimp only

theorem State.psqHaltCmd_frame {s : State} {p : Nat} : Frame 9444732965739292264449 s (State.psqHaltCmd s p) := by
  unfold State.psqHaltCmd
  repeat' first
    | exact rfl | intro _
    | (with_reducible first | exact Frame.refl _ _ | assumption | apply Frame.ite | apply Frame.step State.hostHalt_frame
                            | apply Frame.step State.wr_frame | apply Frame.step State.setPsq_frame)
    | split
    | dsimp only

theorem execPsqCmdHalt_frame {p : Fin 16} {s : State} : FrameOut 9444732965739292264449 s (execPsqCmdHalt p s) := by
  unfold execPsqCmdHalt
  repeat' first
    | exact rfl | intro _
    | (with_reducible first | exact Frame.refl _ _ | assumption | apply FrameOut.next
                            | apply Frame.step State.psqHaltCmd_frame | apply State.atBlock_frame)
    | split
    | dsimp only

theorem State.psqGstop_frame {s : State} {p : Nat} : Frame 9444732965739292264449 s (State.psqGstop s p) := by
  unfold State.psqGstop
  repeat' first
    | exact rfl | intro _
    | (with_reducible first | exact Frame.refl _ _ | assumption | apply Frame.ite | apply Frame.step State.hostHalt_frame)
    | split
    | dsimp only

theorem execPsqGstop_frame {p : Fin 16} {s : State} : FrameOut 9444732965739292264449 s (execPsqGstop p s) := by
  unfold execPsqGstop
  repeat' first
    | exact rfl | intro _
    | (with_reducible first | exact Frame.refl _ _ | assumption | apply FrameOut.next
                            | apply Frame.step State.psqGstop_frame | apply State.atBlock_frame)
    | split
    | dsimp only

theorem State.clearRun_frame {s : State} {st : Nat} : Frame 4096 s (State.clearRun s st) := by
  unfold State.clearRun
  repeat' first
    | exact rfl | intro _
    | (with_reducible first | exact Frame.refl _ _ | assumption | apply Frame.ite)
    | split
    | with_reducible apply Frame.step Frame.upd_pins

theorem State.fcuRunStart_frame {s : State} {st : Nat} : Frame 281474976710657 s (State.fcuRunStart s st) := by
  unfold State.fcuRunStart
  repeat' first
    | exact rfl | intro _
    | (with_reducible first | exact Frame.refl _ _ | assumption | apply Frame.ite | apply Frame.each
                            | apply Frame.step State.wr_frame | apply Frame.step State.setFsx_frame)
    | split
    | dsimp only

theorem execPsqStart_frame {p : Fin 16} {s : State} : FrameOut 9444733247214268979201 s (execPsqStart p s) := by
  unfold execPsqStart
  repeat' first
    | exact rfl | intro _
    | (with_reducible first | exact Frame.refl _ _ | assumption | apply FrameOut.next | apply FrameOut.ite | apply Frame.ite
                            | apply Frame.step State.fcuRunStart_frame | apply Frame.step State.clearRun_frame
                            | apply Frame.step State.setSeq_frame | apply Frame.step State.haltPsq_frame
                            | apply Frame.step State.wr_frame)
    | split
    | dsimp only

theorem execStopReceive_frame {p : Fin 16} {s : State} : FrameOut 9444732965739493652481 s (execStopReceive p s) := by
  unfold execStopReceive
  repeat' first
    | exact rfl | intro _
    | (with_reducible first | exact Frame.refl _ _ | assumption | apply FrameOut.next | apply FrameOut.ite | apply Frame.ite
                            | apply Frame.step State.recordStop_frame | apply Frame.step State.raise_frame
                            | apply Frame.step State.haltPsq_frame | apply Frame.step State.wr_frame)
    | split
    | with_reducible apply Frame.step Frame.upd_stops

theorem execStopAtReached_frame {p : Fin 16} {s : State} :
    FrameOut 9444732965739292264449 s (execStopAtReached p s) := by
  unfold execStopAtReached
  repeat' first
    | exact rfl | intro _
    | (with_reducible first | exact Frame.refl _ _ | assumption | apply FrameOut.next | apply FrameOut.ite | apply Frame.ite
                            | apply Frame.step State.stopNow_frame)
    | split
    | dsimp only

theorem execRunningFall_frame {p : Fin 16} {s : State} : FrameOut 1 s (execRunningFall p s) := by
  unfold execRunningFall
  repeat' first
    | exact rfl | intro _
    | (with_reducible first | exact Frame.refl _ _ | assumption | apply FrameOut.next | apply FrameOut.ite | apply Frame.ite
                            | apply Frame.step State.wr_frame)
    | split
    | dsimp only

theorem State.psqCntClr_frame {s : State} {p : Nat} {v : Word} : Frame 1 s (State.psqCntClr s p v) := by
  unfold State.psqCntClr
  repeat' first
    | exact rfl | intro _
    | (with_reducible first | exact Frame.refl _ _ | assumption | apply Frame.ite | apply Frame.step State.rsvBits_frame
                            | apply Frame.step State.wr2_frame | apply Frame.step State.wr_frame)
    | split
    | dsimp only

theorem execPsqCntClr_frame {p : Fin 16} {v : Word} {s : State} : FrameOut 1 s (execPsqCntClr p v s) := by
  unfold execPsqCntClr
  repeat' first
    | exact rfl | intro _
    | (with_reducible first | exact Frame.refl _ _ | assumption | apply FrameOut.next
                            | apply Frame.step State.psqCntClr_frame | apply State.atBlock_frame)
    | split
    | dsimp only

end Sys2Proof.Machine
end

