-- ==== Sys2Proof/Laws/FramePtb.lean ====
section
/-! SUPPORT. What each operation of Machine/Ptb.lean can change (Laws/Frame.lean). -/
namespace Sys2Proof.Machine

theorem State.setPtbState_frame {s : State} {st : Nat} : Frame 1 s (State.setPtbState s st) := by
  unfold State.setPtbState
  repeat' first
    | exact rfl | intro _
    | (with_reducible first | exact Frame.refl _ _ | assumption | apply Frame.step State.wrb_frame
                            | apply Frame.step State.wr_frame)
    | split
    | dsimp only

theorem State.syncLossHalts_frame {s : State} : Frame 9444732965739292264449 s (State.syncLossHalts s) := by
  unfold State.syncLossHalts
  repeat' first
    | exact rfl | intro _
    | (with_reducible first | exact Frame.refl _ _ | assumption | apply Frame.ite | apply Frame.each
                            | apply Frame.step State.haltPsq_frame)
    | split
    | dsimp only

theorem State.dropStep_frame {s : State} : Frame 16777217 s (State.dropStep s) := by
  unfold State.dropStep
  repeat' first
    | exact rfl | intro _
    | (with_reducible first | exact Frame.refl _ _ | assumption | apply Frame.step State.wr_frame)
    | split
    | with_reducible apply Frame.step Frame.upd_sync

theorem State.leaveSync_frame {s : State} {cause st : Nat} :
    Frame 9444732965739510429697 s (State.leaveSync s cause st) := by
  unfold State.leaveSync
  repeat' first
    | exact rfl | intro _
    | (with_reducible first | exact Frame.refl _ _ | assumption | apply Frame.ite | apply Frame.step State.dropStep_frame
                            | apply Frame.step State.syncLossHalts_frame | apply Frame.step State.setPtbState_frame
                            | apply Frame.step State.raise_frame | apply Frame.step State.count_frame
                            | apply Frame.step State.wr_frame)
    | split
    | with_reducible apply Frame.step Frame.upd_sync

theorem State.parentPortDown_frame {s : State} {g : Nat} :
    Frame 9444732965739510429697 s (State.parentPortDown s g) := by
  unfold State.parentPortDown
  repeat' first
    | exact rfl | intro _
    | (with_reducible first | exact Frame.refl _ _ | assumption | apply Frame.ite | apply Frame.step State.leaveSync_frame)
    | split
    | dsimp only

theorem execEpochStartPulse_frame {s : State} : FrameOut 12582913 s (execEpochStartPulse s) := by
  unfold execEpochStartPulse
  repeat' first
    | exact rfl | intro _
    | (with_reducible first | exact Frame.refl _ _ | assumption | apply FrameOut.next | apply FrameOut.ite | apply Frame.ite
                            | apply Frame.each | apply Frame.step State.setReady_frame
                            | apply Frame.step State.setCounting_frame | apply Frame.step State.setTick_frame)
    | split
    | dsimp only

theorem execEpochPulse_frame {s : State} : FrameOut 9444732965739510429697 s (execEpochPulse s) := by
  unfold execEpochPulse
  repeat' first
    | exact rfl | intro _
    | (with_reducible first | exact Frame.refl _ _ | assumption | apply FrameOut.next | apply FrameOut.ite | apply Frame.ite
                            | apply Frame.each | apply Frame.step State.leaveSync_frame
                            | apply Frame.step State.raise_frame | apply Frame.step State.count_frame)
    | split
    | dsimp only

theorem State.moveTick_frame {s : State} {d : Nat} {k : Int} : Frame 4194304 s (State.moveTick s d k) := by
  unfold State.moveTick
  repeat' first
    | exact rfl | intro _
    | (with_reducible first | exact Frame.refl _ _ | assumption | apply Frame.step State.setTick_frame)
    | split
    | dsimp only

theorem State.missedDecision_frame {s : State} : Frame 9444733036108237830145 s (State.missedDecision s) := by
  unfold State.missedDecision
  repeat' first
    | exact rfl | intro _
    | (with_reducible first | exact Frame.refl _ _ | assumption | apply Frame.each | apply Frame.step State.raise_frame)
    | split
    | with_reducible apply Frame.step Frame.upd_ptbAbsent

theorem State.applyStep_frame {s : State} {k : Int} : Frame 20971521 s (State.applyStep s k) := by
  unfold State.applyStep
  repeat' first
    | exact rfl | intro _
    | (with_reducible first | exact Frame.refl _ _ | assumption | apply Frame.ite | apply Frame.each
                            | apply Frame.step State.moveTick_frame | apply Frame.step State.wr_frame)
    | split
    | with_reducible apply Frame.step Frame.upd_sync

theorem State.fineStep_frame {s : State} {d : Nat} {unit : Int} : Frame 20971520 s (State.fineStep s d unit) := by
  unfold State.fineStep
  repeat' first
    | exact rfl | intro _
    | (with_reducible first | exact Frame.refl _ _ | assumption | apply Frame.ite | apply Frame.step State.moveTick_frame)
    | split
    | with_reducible apply Frame.step Frame.upd_sync

theorem execPtbBoundary_frame {s : State} : FrameOut 9444733036108258801665 s (execPtbBoundary s) := by
  unfold execPtbBoundary
  repeat' first
    | exact rfl | intro _
    | (with_reducible first | exact Frame.refl _ _ | assumption | apply FrameOut.next | apply FrameOut.ite | apply Frame.ite
                            | apply Frame.each | apply Frame.step State.fineStep_frame
                            | apply Frame.step State.applyStep_frame | apply Frame.step State.missedDecision_frame
                            | apply Frame.step State.wr_frame)
    | split
    | with_reducible apply Frame.step Frame.upd_sync

theorem execPtbDeferredStep_frame {s : State} : FrameOut 9444733036108258801665 s (execPtbDeferredStep s) := by
  unfold execPtbDeferredStep
  repeat' first
    | exact rfl | intro _
    | (with_reducible first | exact Frame.refl _ _ | assumption | apply FrameOut.next | apply FrameOut.ite | apply Frame.ite
                            | apply Frame.step State.applyStep_frame | apply Frame.step State.missedDecision_frame)
    | split
    | dsimp only

theorem State.ptbSnap_frame {s : State} {d : Nat} : Frame 1 s (State.ptbSnap s d) := by
  unfold State.ptbSnap
  repeat' first
    | exact rfl | intro _
    | (with_reducible first | exact Frame.refl _ _ | assumption | apply Frame.step State.wr2_frame)
    | split
    | dsimp only

theorem execPtbSnap_frame {d : Fin 4} {s : State} : FrameOut 1 s (execPtbSnap d s) := by
  unfold execPtbSnap
  repeat' first
    | exact rfl | intro _
    | (with_reducible first | exact Frame.refl _ _ | assumption | apply FrameOut.next | apply Frame.step State.ptbSnap_frame
                            | apply State.atBlock_frame)
    | split
    | dsimp only

theorem State.ptbReload_frame {s : State} {d : Nat} : Frame 1 s (State.ptbReload s d) := by
  unfold State.ptbReload
  repeat' first
    | exact rfl | intro _
    | (with_reducible first | exact Frame.refl _ _ | assumption | apply Frame.ite | apply Frame.step State.commitErr_frame
                            | apply Frame.step State.wr_frame)
    | split
    | dsimp only

theorem execPtbReload_frame {d : Fin 4} {s : State} : FrameOut 1 s (execPtbReload d s) := by
  unfold execPtbReload
  repeat' first
    | exact rfl | intro _
    | (with_reducible first | exact Frame.refl _ _ | assumption | apply FrameOut.next
                            | apply Frame.step State.ptbReload_frame | apply State.atBlock_frame)
    | split
    | dsimp only

theorem State.ptbCntClr_frame {s : State} {d : Nat} {v : Word} : Frame 1 s (State.ptbCntClr s d v) := by
  unfold State.ptbCntClr
  repeat' first
    | exact rfl | intro _
    | (with_reducible first | exact Frame.refl _ _ | assumption | apply Frame.ite | apply Frame.step State.rsvBits_frame
                            | apply Frame.step State.lockw_frame | apply Frame.step State.wr_frame)
    | split
    | dsimp only

theorem execPtbCntClr_frame {d : Fin 4} {v : Word} {s : State} : FrameOut 1 s (execPtbCntClr d v s) := by
  unfold execPtbCntClr
  repeat' first
    | exact rfl | intro _
    | (with_reducible first | exact Frame.refl _ _ | assumption | apply FrameOut.next
                            | apply Frame.step State.ptbCntClr_frame | apply State.atBlock_frame)
    | split
    | dsimp only

theorem execPtbRequestSend_frame {frac : BitVec 8} {s : State} : FrameOut 16777217 s (execPtbRequestSend frac s) := by
  unfold execPtbRequestSend
  repeat' first
    | exact rfl | intro _
    | (with_reducible first | exact Frame.refl _ _ | assumption | apply FrameOut.next | apply FrameOut.ite | apply Frame.ite
                            | apply Frame.step State.wr_frame)
    | split
    | with_reducible apply Frame.step Frame.upd_sync

theorem execPtbRequestAnswer_frame {g : Fin 24} {t2frac t3frac : BitVec 8} {wait : Nat} {s : State} :
    FrameOut 33554432 s (execPtbRequestAnswer g t2frac t3frac wait s) := by
  unfold execPtbRequestAnswer
  repeat' first
    | exact rfl | intro _
    | (with_reducible first | exact Frame.refl _ _ | assumption | apply FrameOut.next)
    | split
    | with_reducible apply Frame.step Frame.upd_ptbOut

theorem State.badExchange_frame {s : State} : Frame 9444732965739510429697 s (State.badExchange s) := by
  unfold State.badExchange
  repeat' first
    | exact rfl | intro _
    | (with_reducible first | exact Frame.refl _ _ | assumption | apply Frame.ite | apply Frame.step State.leaveSync_frame)
    | split
    | with_reducible apply Frame.step Frame.upd_sync

theorem execPtbExchangeMissed_frame {s : State} : FrameOut 9444732965739510429697 s (execPtbExchangeMissed s) := by
  unfold execPtbExchangeMissed
  repeat' first
    | exact rfl | intro _
    | (with_reducible first | exact Frame.refl _ _ | assumption | apply FrameOut.next
                            | apply Frame.step State.badExchange_frame | apply Frame.step State.count_frame
                            | apply Frame.step State.wr_frame)
    | split
    | dsimp only

theorem State.enterAcq_frame {s : State} : Frame 16777217 s (State.enterAcq s) := by
  unfold State.enterAcq
  repeat' first
    | exact rfl | intro _
    | (with_reducible first | exact Frame.refl _ _ | assumption | apply Frame.step State.dropStep_frame
                            | apply Frame.step State.setPtbState_frame | apply Frame.step State.wr_frame)
    | split
    | with_reducible apply Frame.step Frame.upd_sync

theorem State.acquire_frame {s : State} {th2 : Int} : Frame 9444732965739510429697 s (State.acquire s th2) := by
  unfold State.acquire
  repeat' first
    | exact rfl | intro _
    | (with_reducible first | exact Frame.refl _ _ | assumption | apply Frame.ite | apply Frame.step State.dropStep_frame
                            | apply Frame.step State.setPtbState_frame | apply Frame.step State.raise_frame
                            | apply Frame.step State.wr_frame)
    | split
    | with_reducible apply Frame.step Frame.upd_sync

theorem State.acceptedExchange_frame {s : State} {th2 : Int} {parentIn : Bool} :
    Frame 9444732965739510429697 s (State.acceptedExchange s th2 parentIn) := by
  unfold State.acceptedExchange
  repeat' first
    | exact rfl | intro _
    | (with_reducible first | exact Frame.refl _ _ | assumption | apply Frame.ite | apply Frame.step State.acquire_frame
                            | apply Frame.step State.enterAcq_frame | apply Frame.step State.leaveSync_frame)
    | split
    | with_reducible apply Frame.step Frame.upd_sync

theorem execPtbResponse_frame {t2 t3 : BitVec 72} {t4frac : BitVec 8} {pState : BitVec 3} {pHops : BitVec 14}
    {s : State} : FrameOut 9444732965739510430721 s (execPtbResponse t2 t3 t4frac pState pHops s) := by
  unfold execPtbResponse
  repeat' first
    | exact rfl | intro _
    | (with_reducible first | exact Frame.refl _ _ | assumption | apply FrameOut.next | apply FrameOut.ite | apply Frame.ite
                            | apply Frame.step State.acceptedExchange_frame | apply Frame.step State.badExchange_frame
                            | apply Frame.step State.leaveSync_frame | apply Frame.step State.drew_frame
                            | apply Frame.step State.count_frame | apply Frame.step State.wrb_frame
                            | apply Frame.step State.wr_frame)
    | split
    | with_reducible apply Frame.step Frame.upd_sync

theorem execRecoveredClockLost_frame {s : State} : FrameOut 9444732965739510429697 s (execRecoveredClockLost s) := by
  unfold execRecoveredClockLost
  repeat' first
    | exact rfl | intro _
    | (with_reducible first | exact Frame.refl _ _ | assumption | apply FrameOut.next | apply FrameOut.ite | apply Frame.ite
                            | apply Frame.step State.leaveSync_frame)
    | split
    | dsimp only

theorem State.ptbCommitted_frame {s : State} {role pport : Nat} :
    Frame 9444732965739510429697 s (State.ptbCommitted s role pport) := by
  unfold State.ptbCommitted
  repeat' first
    | exact rfl | intro _
    | (with_reducible first | exact Frame.refl _ _ | assumption | apply Frame.ite | apply Frame.step State.enterAcq_frame
                            | apply Frame.step State.leaveSync_frame | apply Frame.step State.dropStep_frame
                            | apply Frame.step State.setPtbState_frame | apply Frame.step State.wr_frame)
    | split
    | with_reducible apply Frame.step Frame.upd_sync

end Sys2Proof.Machine
end

