-- ==== Sys2Proof/Laws/FrameNet.lean ====
section
/-! SUPPORT. What each operation of Machine/Net.lean can change (Laws/Frame.lean). -/
namespace Sys2Proof.Machine

theorem State.nsCount_frame {s : State} {q : MemReq} {ok : Bool} {ns : Nat} : Frame 1 s (State.nsCount s q ok ns) := by
  unfold State.nsCount
  repeat' first
    | exact rfl | intro _
    | (with_reducible first | exact Frame.refl _ _ | assumption | apply Frame.ite | apply Frame.step State.count2_frame
                            | apply Frame.step State.count_frame)
    | split
    | dsimp only

theorem State.traceRecord_frame {s : State} {d : Nat} {ws : List Nat} : Frame 1 s (State.traceRecord s d ws) := by
  unfold State.traceRecord
  repeat' first
    | exact rfl | intro _
    | (with_reducible first | exact Frame.refl _ _ | assumption | apply Frame.ite | apply Frame.each
                            | apply Frame.step State.count_frame | apply Frame.step State.wr_frame)
    | split
    | dsimp only

theorem State.probe_frame {s : State} {q : MemReq} {tgt : Nat} {rsp : Option Rsp} {lat : Nat} :
    Frame 1 s (State.probe s q tgt rsp lat) := by
  unfold State.probe
  repeat' first
    | exact rfl | intro _
    | (with_reducible first | exact Frame.refl _ _ | assumption | apply Frame.ite | apply Frame.each
                            | apply Frame.step State.traceRecord_frame | apply Frame.step State.count2_frame
                            | apply Frame.step State.count_frame)
    | split
    | dsimp only

end Sys2Proof.Machine
end

