-- ==== Sys2Proof/Laws/FrameMemory.lean ====
section
/-! SUPPORT. What each operation of Machine/Memory.lean can change (Laws/Frame.lean). -/
namespace Sys2Proof.Machine

theorem State.countLine_frame {s : State} {m line : Nat} {noc : optParam Bool true} :
    Frame 9444732965739493652481 s (State.countLine s m line noc) := by
  unfold State.countLine
  repeat' first
    | exact rfl | intro _
    | (with_reducible first | exact Frame.refl _ _ | assumption | apply Frame.ite | apply Frame.each
                            | apply Frame.step State.egEvent_frame | apply Frame.step State.wr_frame)
    | split
    | dsimp only

theorem State.markLine_frame {s : State} {m line key : Nat} : Frame 128 s (State.markLine s m line key) := by
  unfold State.markLine
  repeat' first
    | exact rfl | intro _
    | (with_reducible first | exact Frame.refl _ _ | assumption | apply Frame.ite | apply Frame.step State.setPage_frame)
    | split
    | dsimp only

theorem State.fillsLost_frame {s : State} {m k : Nat} : Frame 128 s (State.fillsLost s m k) := by
  unfold State.fillsLost
  repeat' first
    | exact rfl | intro _
    | (with_reducible first | exact Frame.refl _ _ | assumption | apply Frame.ite)
    | split
    | with_reducible apply Frame.step Frame.upd_pages

theorem State.putLine_frame {s : State} {m line key data : Nat} {poison : Bool} :
    Frame 18446744073709551844 s (State.putLine s m line key data poison) := by
  unfold State.putLine
  repeat' first
    | exact rfl | intro _
    | (with_reducible first | exact Frame.refl _ _ | assumption | apply Frame.ite | apply Frame.step State.markLine_frame
                            | apply Frame.step State.breakResv_frame | apply Frame.step State.wrMem_frame
                            | apply Frame.step State.setLinePoison_frame | apply Frame.step State.setLineSyn_frame)
    | split
    | dsimp only

theorem State.fillLine_frame {s : State} {m line : Nat} : Frame 9463179709813203204325 s (State.fillLine s m line) := by
  unfold State.fillLine
  repeat' first
    | exact rfl | intro _
    | (with_reducible first | exact Frame.refl _ _ | assumption | apply Frame.ite | apply Frame.step State.putLine_frame
                            | apply Frame.step State.raise_frame)
    | split
    | dsimp only

theorem State.endOneFill_frame {s : State} {m : Nat} : Frame 9463179709813203204325 s (State.endOneFill s m) := by
  unfold State.endOneFill
  repeat' first
    | exact rfl | intro _
    | (with_reducible first | exact Frame.refl _ _ | assumption | apply Frame.each | apply Frame.step State.fillLine_frame)
    | split
    | dsimp only

theorem State.lineOp_frame {s : State} {m line key : Nat} {q : MemReq} :
    Frame 9463179709813203204325 s (State.lineOp s m line key q).2 := by
  unfold State.lineOp
  repeat' first
    | exact rfl | intro _
    | (with_reducible first | exact Frame.refl _ _ | assumption | apply Frame.iteP1 | apply Frame.ite
                            | apply Frame.step State.putLine_frame | apply Frame.step State.countLine_frame)
    | split
    | dsimp only

theorem State.portPerform_frame {s : State} {m pa key : Nat} {q : MemReq} :
    Frame 9463179709813203204325 s (State.portPerform s m pa key q).2 := by
  unfold State.portPerform
  repeat' first
    | exact rfl | intro _
    | (with_reducible first | exact Frame.refl _ _ | assumption | apply Frame.iteP1 | apply Frame.ite
                            | apply Frame.step State.lineOp_frame | apply Frame.step State.raise_frame
                            | apply Frame.step State.count_frame | apply Frame.ofP1 (by assumption))
    | split
    | dsimp only

theorem State.memInflight_frame {s : State} {st : Nat} : Frame 1 s (State.memInflight s st) := by
  unfold State.memInflight
  repeat' first
    | exact rfl | intro _
    | (with_reducible first | exact Frame.refl _ _ | assumption | apply Frame.step State.wr_frame)
    | split
    | dsimp only

theorem State.inflightOf_frame {s : State} {q : MemReq} : Frame 1 s (State.inflightOf s q) := by
  unfold State.inflightOf
  repeat' first
    | exact rfl | intro _
    | (with_reducible first | exact Frame.refl _ _ | assumption | apply Frame.step State.memInflight_frame)
    | split
    | dsimp only

theorem State.answer_frame {s : State} {id : Nat} {r : Rsp} : Frame 2147483648 s (State.answer s id r) := by
  unfold State.answer
  repeat' first
    | exact rfl | intro _
    | (with_reducible first | exact Frame.refl _ _ | assumption | apply Frame.ite)
    | split
    | with_reducible apply Frame.step Frame.upd_flights

theorem State.perform_frame {s : State} {m : Nat} {e : MpReq} :
    Frame 9463179709849710426341 s (State.perform s m e) := by
  unfold State.perform
  repeat' first
    | exact rfl | intro _
    | (with_reducible first | exact Frame.refl _ _ | assumption | apply Frame.ite | apply Frame.step State.answer_frame
                            | apply Frame.step State.inflightOf_frame | apply Frame.step State.portPerform_frame
                            | apply Frame.step State.count_frame | apply Frame.step State.setPort_frame
                            | apply Frame.ofP1 (by assumption))
    | split
    | dsimp only

theorem State.sourceFirst_frame {s : State} {m : Nat} {q : MemReq} :
    Frame 9463179709849710426341 s (State.sourceFirst s m q) := by
  unfold State.sourceFirst
  repeat' first
    | exact rfl | intro _
    | (with_reducible first | exact Frame.refl _ _ | assumption | apply Frame.ite | apply Frame.each
                            | apply Frame.step State.perform_frame | apply Frame.step State.endOneFill_frame
                            | apply Frame.step State.setPort_frame)
    | split
    | dsimp only

theorem State.chipOp_frame {s : State} {q : MemReq} : Frame 9463179709813203204125 s (State.chipOp s q).2 := by
  unfold State.chipOp
  repeat' first
    | exact rfl | intro _
    | (with_reducible first | exact Frame.refl _ _ | assumption | apply Frame.iteP1 | apply Frame.ite | apply Frame.each
                            | apply Frame.step State.writeChip_frame | apply Frame.step State.countChip_frame
                            | apply Frame.step State.writeWord_frame | apply Frame.step State.readWord_frame)
    | split
    | dsimp only

theorem State.purged_frame {s : State} {q : MemReq} {t : Target} : Frame 1 s (State.purged s q t) := by
  unfold State.purged
  repeat' first
    | exact rfl | intro _
    | (with_reducible first | exact Frame.refl _ _ | assumption | apply Frame.step State.count_frame)
    | split
    | dsimp only

theorem State.refused_frame {s : State} {q : MemReq} {r : Rsp} {fault : Option Nat} :
    Frame 9444732965739493652481 s (State.refused s q r fault) := by
  unfold State.refused
  repeat' first
    | exact rfl | intro _
    | (with_reducible first | exact Frame.refl _ _ | assumption | apply Frame.ite | apply Frame.step State.purged_frame
                            | apply Frame.step State.raise_frame | apply Frame.step State.count_frame)
    | split
    | dsimp only

theorem State.settRefresh_frame {s : State} {d : Nat} : Frame 1 s (State.settRefresh s d) := by
  unfold State.settRefresh
  repeat' first
    | exact rfl | intro _
    | (with_reducible first | exact Frame.refl _ _ | assumption | apply Frame.step State.wrb_frame)
    | split
    | dsimp only

theorem State.settMeets_frame {s : State} {d : Nat} {errs : List (Fin 2097152 × Nat)} :
    Frame 2305843009213693952 s (State.settMeets s d errs) := by
  unfold State.settMeets
  repeat' first
    | exact rfl | intro _
    | (with_reducible first | exact Frame.refl _ _ | assumption | apply Frame.foldl | apply Frame.foldl1
                            | apply Frame.foldlP1 | apply Frame.foldlP2 | apply Frame.foldlP3 | apply Frame.foldlP4
                            | apply Frame.foldlP5 | apply Frame.step State.setSett_frame)
    | split
    | dsimp only

theorem State.settRead_frame {s : State} {d o n : Nat} : Frame 9447038808748707346433 s (State.settRead s d o n) := by
  unfold State.settRead
  repeat' first
    | exact rfl | intro _
    | (with_reducible first | exact Frame.refl _ _ | assumption | apply Frame.ite | apply Frame.each
                            | apply Frame.step State.settRefresh_frame | apply Frame.step State.raise_frame
                            | apply Frame.step State.setSett_frame)
    | split
    | dsimp only

theorem State.settServe_frame {s : State} {d : Nat} {q : MemReq} :
    Frame 9447038808748707346433 s (State.settServe s d q).2 := by
  unfold State.settServe
  repeat' first
    | exact rfl | intro _
    | (with_reducible first | exact Frame.refl _ _ | assumption | apply Frame.iteP1 | apply Frame.ite
                            | apply Frame.step State.settRead_frame)
    | split
    | dsimp only

theorem State.serve_frame {s : State} {q : MemReq} {t : Target} :
    Frame 9465490056458551490813 s (State.serve s q t).2 := by
  unfold State.serve
  repeat' first
    | exact rfl | intro _
    | (with_reducible first | exact Frame.refl _ _ | assumption | apply Frame.iteP1 | apply Frame.ite
                            | apply Frame.step State.settServe_frame | apply Frame.step State.chipOp_frame
                            | apply Frame.step State.sourceFirst_frame | apply Frame.step State.portPerform_frame
                            | apply Frame.step State.endOneFill_frame | apply Frame.step State.raise_frame
                            | apply Frame.step State.count_frame | apply Frame.step State.wr_frame
                            | apply Frame.step State.setRegion_frame | apply Frame.ofP1 (by assumption))
    | split
    | dsimp only

theorem State.request_frame {s : State} {q : MemReq} : Frame 9465490056458551491837 s (State.request s q).2 := by
  unfold State.request
  repeat' first
    | exact rfl | intro _
    | (with_reducible first | exact Frame.refl _ _ | assumption | apply Frame.step State.serve_frame
                            | apply Frame.step State.refused_frame | apply Frame.step State.probe_frame
                            | apply Frame.step State.nsCount_frame | apply Frame.step State.drew_frame
                            | apply Frame.ofP1 (by assumption))
    | split
    | dsimp only

theorem State.getPackets_frame {s : State} {w : Who} {x2 : List (Nat × Nat)} :
    Frame 9465490056458551491837 s (State.getPackets s w x2).2 := by
  induction x2 generalizing s w with
  | nil =>
    unfold State.getPackets
    repeat' first
      | exact rfl | intro _
      | (with_reducible first | exact Frame.refl _ _ | assumption | apply Frame.step State.request_frame
                              | apply Frame.ofP1 (by assumption))
      | with_reducible apply Frame.step ih
      | split
      | dsimp only
  | cons _ _ ih =>
    unfold State.getPackets
    repeat' first
      | exact rfl | intro _
      | (with_reducible first | exact Frame.refl _ _ | assumption | apply Frame.step State.request_frame
                              | apply Frame.ofP1 (by assumption))
      | with_reducible apply Frame.step ih
      | split
      | dsimp only

theorem State.getBytes_frame {s : State} {w : Who} {a n : Nat} :
    Frame 9465490056458551491837 s (State.getBytes s w a n).2 := by
  unfold State.getBytes
  repeat' first
    | exact rfl | intro _
    | (with_reducible first | exact Frame.refl _ _ | assumption | apply Frame.step State.getPackets_frame
                            | apply Frame.ofP1 (by assumption))
    | split
    | dsimp only

theorem State.putPackets_frame {s : State} {w : Who} {pois : List Bool} {data : List Byte} {x4 : List (Nat × Nat)} :
    Frame 9465490056458551491837 s (State.putPackets s w pois data x4).2 := by
  induction x4 generalizing s w pois data with
  | nil =>
    unfold State.putPackets
    repeat' first
      | exact rfl | intro _
      | (with_reducible first | exact Frame.refl _ _ | assumption | apply Frame.iteP1 | apply Frame.ite
                              | apply Frame.step State.request_frame | apply Frame.ofP1 (by assumption))
      | with_reducible apply Frame.step ih
      | split
      | dsimp only
  | cons _ _ ih =>
    unfold State.putPackets
    repeat' first
      | exact rfl | intro _
      | (with_reducible first | exact Frame.refl _ _ | assumption | apply Frame.iteP1 | apply Frame.ite
                              | apply Frame.step State.request_frame | apply Frame.ofP1 (by assumption))
      | with_reducible apply Frame.step ih
      | split
      | dsimp only

theorem State.storeBytes_frame {s : State} {w : Who} {a : Nat} {data : List Byte} {poison : Bool} :
    Frame 9465490056458551491837 s (State.storeBytes s w a data poison).2 := by
  unfold State.storeBytes
  repeat' first
    | exact rfl | intro _
    | (with_reducible first | exact Frame.refl _ _ | assumption | apply Frame.iteP1 | apply Frame.ite
                            | apply Frame.step State.putPackets_frame | apply Frame.ofP1 (by assumption))
    | split
    | dsimp only

theorem State.lineOr_frame {s : State} {w : Who} {a data : Nat} {poison : Bool} :
    Frame 9465490056458551491837 s (State.lineOr s w a data poison).2 := by
  unfold State.lineOr
  repeat' first
    | exact rfl | intro _
    | (with_reducible first | exact Frame.refl _ _ | assumption | apply Frame.iteP1 | apply Frame.ite
                            | apply Frame.step State.request_frame | apply Frame.ofP1 (by assumption))
    | split
    | dsimp only

end Sys2Proof.Machine
end

