-- ==== Sys2Proof/Laws/FrameMp.lean ====
section
/-! SUPPORT. What each operation of Machine/Mp.lean can change (Laws/Frame.lean). -/
namespace Sys2Proof.Machine

theorem State.invalidatePages_frame {s : State} {m lo hi : Nat} : Frame 224 s (State.invalidatePages s m lo hi) := by
  unfold State.invalidatePages
  repeat' first
    | exact rfl | intro _
    | (with_reducible first | exact Frame.refl _ _ | assumption)
    | split
    | with_reducible apply Frame.step Frame.upd_lineChk_linePsn_pages

theorem State.settleGroup_frame {s : State} {g : EGroup} : Frame 9465490056458551490813 s (State.settleGroup s g) := by
  unfold State.settleGroup
  repeat' first
    | exact rfl | intro _
    | (with_reducible first | exact Frame.refl _ _ | assumption | apply Frame.each | apply Frame.step State.serve_frame
                            | apply Frame.step State.answer_frame | apply Frame.step State.portPerform_frame
                            | apply Frame.step State.setPort_frame | apply Frame.ofP1 (by assumption))
    | split
    | dsimp only

theorem State.egInv_frame {s : State} {g : EGroup} : Frame 9465490056458551490813 s (State.egInv s g) := by
  unfold State.egInv
  repeat' first
    | exact rfl | intro _
    | (with_reducible first | exact Frame.refl _ _ | assumption | apply Frame.ite | apply Frame.step State.settleGroup_frame
                            | apply Frame.step State.invalidatePages_frame
                            | apply Frame.step State.invalidateChip_frame | apply Frame.step State.commitErr_frame
                            | apply Frame.step State.wr_frame)
    | split
    | dsimp only

theorem execEgInv_frame {g : EGroup} {s : State} : FrameOut 9465490056458551490813 s (execEgInv g s) := by
  unfold execEgInv
  repeat' first
    | exact rfl | intro _
    | (with_reducible first | exact Frame.refl _ _ | assumption | apply FrameOut.next | apply Frame.step State.egInv_frame
                            | apply State.atBlock_frame)
    | split
    | dsimp only

theorem execInvSweepDone_frame {g : EGroup} {s : State} : FrameOut 1 s (execInvSweepDone g s) := by
  unfold execInvSweepDone
  repeat' first
    | exact rfl | intro _
    | (with_reducible first | exact Frame.refl _ _ | assumption | apply FrameOut.next | apply Frame.step State.wr_frame)
    | split
    | dsimp only

theorem State.egCntClr_frame {s : State} {g : EGroup} {v : Word} : Frame 1 s (State.egCntClr s g v) := by
  unfold State.egCntClr
  repeat' first
    | exact rfl | intro _
    | (with_reducible first | exact Frame.refl _ _ | assumption | apply Frame.ite | apply Frame.step State.rsvBits_frame
                            | apply Frame.step State.wr_frame)
    | split
    | dsimp only

theorem execEgCntClr_frame {g : EGroup} {v : Word} {s : State} : FrameOut 1 s (execEgCntClr g v s) := by
  unfold execEgCntClr
  repeat' first
    | exact rfl | intro _
    | (with_reducible first | exact Frame.refl _ _ | assumption | apply FrameOut.next
                            | apply Frame.step State.egCntClr_frame | apply State.atBlock_frame)
    | split
    | dsimp only

theorem State.refreshStat_frame {s : State} {m : Nat} : Frame 1 s (State.refreshStat s m) := by
  unfold State.refreshStat
  repeat' first
    | exact rfl | intro _
    | (with_reducible first | exact Frame.refl _ _ | assumption | apply Frame.foldl | apply Frame.foldl1
                            | apply Frame.foldlP1 | apply Frame.foldlP2 | apply Frame.foldlP3 | apply Frame.foldlP4
                            | apply Frame.foldlP5 | apply Frame.step State.wrb_frame | apply Frame.step State.wr_frame)
    | split
    | dsimp only

theorem State.portAccept_frame {s : State} {f : Flight} {m pa : Nat} :
    Frame 9444732965776000874497 s (State.portAccept s f m pa) := by
  unfold State.portAccept
  repeat' first
    | exact rfl | intro _
    | (with_reducible first | exact Frame.refl _ _ | assumption | apply Frame.ite | apply Frame.step State.purged_frame
                            | apply Frame.step State.answer_frame | apply Frame.step State.inflightOf_frame
                            | apply Frame.step State.raise_frame | apply Frame.step State.count_frame
                            | apply Frame.step State.setPort_frame)
    | split
    | dsimp only

theorem execMpCommandIssue_frame {m : Fin 8} {s : State} :
    FrameOut 9463179709849710426341 s (execMpCommandIssue m s) := by
  unfold execMpCommandIssue
  repeat' first
    | exact rfl | intro _
    | (with_reducible first | exact Frame.refl _ _ | assumption | apply FrameOut.next | apply FrameOut.ite | apply Frame.ite
                            | apply Frame.step State.perform_frame | apply Frame.step State.count_frame
                            | apply Frame.step State.setPort_frame)
    | split
    | dsimp only

theorem execRequestUrgencyRise_frame {m : Fin 8} {i : Nat} {s : State} :
    FrameOut 34359738368 s (execRequestUrgencyRise m i s) := by
  unfold execRequestUrgencyRise
  repeat' first
    | exact rfl | intro _
    | (with_reducible first | exact Frame.refl _ _ | assumption | apply FrameOut.next | apply Frame.step State.setPort_frame)
    | split
    | dsimp only

theorem execPanicChange_frame {d : Fin 4} {g i : Fin 8} {s : State} :
    FrameOut 274877906944 s (execPanicChange d g i s) := by
  unfold execPanicChange
  repeat' first
    | exact rfl | intro _
    | (with_reducible first | exact Frame.refl _ _ | assumption | apply FrameOut.next | apply FrameOut.ite | apply Frame.ite)
    | split
    | with_reducible apply Frame.step Frame.upd_panics

theorem State.unblock_frame {s : State} {m : Nat} : Frame 34359738368 s (State.unblock s m) := by
  unfold State.unblock
  repeat' first
    | exact rfl | intro _
    | (with_reducible first | exact Frame.refl _ _ | assumption | apply Frame.ite | apply Frame.each
                            | apply Frame.step State.setPort_frame)
    | split
    | dsimp only

theorem execFillSlotFree_frame {m : Fin 8} {s : State} : FrameOut 9463179709849710426341 s (execFillSlotFree m s) := by
  unfold execFillSlotFree
  repeat' first
    | exact rfl | intro _
    | (with_reducible first | exact Frame.refl _ _ | assumption | apply FrameOut.next | apply FrameOut.ite | apply Frame.ite
                            | apply Frame.each | apply Frame.step State.unblock_frame
                            | apply Frame.step State.perform_frame | apply Frame.step State.setPort_frame)
    | split
    | dsimp only

theorem execPageFillLine_frame {m : Fin 8} {line : BitVec 29} {s : State} :
    FrameOut 9463179709813203204325 s (execPageFillLine m line s) := by
  unfold execPageFillLine
  repeat' first
    | exact rfl | intro _
    | (with_reducible first | exact Frame.refl _ _ | assumption | apply FrameOut.next
                            | apply Frame.step State.fillLine_frame)
    | split
    | dsimp only

theorem execAor_frame {ini : Ini} {site : Option (Fin 16)} {addr : BitVec 40} {data : BitVec 512} {pois : BitVec 8}
    {s : State} : FrameOut 9465490056458551491837 s (execAor ini site addr data pois s) := by
  unfold execAor
  repeat' first
    | exact rfl | intro _
    | (with_reducible first | exact Frame.refl _ _ | assumption | apply FrameOut.next | apply Frame.step State.request_frame
                            | apply Frame.ofP1 (by assumption))
    | split
    | dsimp only

theorem State.refreshDue_frame {s : State} {m : Nat} : Frame 9444732965773853390849 s (State.refreshDue s m) := by
  unfold State.refreshDue
  repeat' first
    | exact rfl | intro _
    | (with_reducible first | exact Frame.refl _ _ | assumption | apply Frame.ite | apply Frame.each | apply Frame.foldl
                            | apply Frame.foldl1 | apply Frame.foldlP1 | apply Frame.foldlP2 | apply Frame.foldlP3
                            | apply Frame.foldlP4 | apply Frame.foldlP5 | apply Frame.step State.refreshStat_frame
                            | apply Frame.step State.raise_frame | apply Frame.step State.count_frame
                            | apply Frame.step State.setPort_frame)
    | split
    | dsimp only

theorem execTrefiBoundary_frame {m : Fin 8} {s : State} :
    FrameOut 9444732965773853390849 s (execTrefiBoundary m s) := by
  unfold execTrefiBoundary
  repeat' first
    | exact rfl | intro _
    | (with_reducible first | exact Frame.refl _ _ | assumption | apply FrameOut.next | apply FrameOut.ite | apply Frame.ite
                            | apply Frame.step State.refreshDue_frame)
    | split
    | dsimp only

theorem State.refsb_frame {s : State} {m set : Nat} : Frame 34359738369 s (State.refsb s m set) := by
  unfold State.refsb
  repeat' first
    | exact rfl | intro _
    | (with_reducible first | exact Frame.refl _ _ | assumption | apply Frame.ite | apply Frame.step State.refreshStat_frame
                            | apply Frame.step State.count_frame | apply Frame.step State.setPort_frame)
    | split
    | dsimp only

theorem execRefsbIssue_frame {m set : Fin 8} {s : State} : FrameOut 34359738369 s (execRefsbIssue m set s) := by
  unfold execRefsbIssue
  repeat' first
    | exact rfl | intro _
    | (with_reducible first | exact Frame.refl _ _ | assumption | apply FrameOut.next | apply Frame.step State.refsb_frame)
    | split
    | dsimp only

theorem execCatchupTimer_frame {m set : Fin 8} {s : State} : FrameOut 34359738368 s (execCatchupTimer m set s) := by
  unfold execCatchupTimer
  repeat' first
    | exact rfl | intro _
    | (with_reducible first | exact Frame.refl _ _ | assumption | apply FrameOut.next | apply FrameOut.ite | apply Frame.ite
                            | apply Frame.step State.setPort_frame)
    | split
    | dsimp only

theorem State.rankIdle_frame {s : State} {m rank : Nat} : Frame 34359738368 s (State.rankIdle s m rank) := by
  unfold State.rankIdle
  repeat' first
    | exact rfl | intro _
    | (with_reducible first | exact Frame.refl _ _ | assumption | apply Frame.step State.setPort_frame)
    | split
    | dsimp only

theorem execMpDqsOscRead_frame {m : Fin 8} {rank : Fin 2} {s : State} :
    FrameOut 34359738368 s (execMpDqsOscRead m rank s) := by
  unfold execMpDqsOscRead
  repeat' first
    | exact rfl | intro _
    | (with_reducible first | exact Frame.refl _ _ | assumption | apply FrameOut.next | apply FrameOut.ite | apply Frame.ite
                            | apply Frame.step State.rankIdle_frame | apply Frame.step State.setPort_frame)
    | split
    | dsimp only

theorem execMpZqCal_frame {m : Fin 8} {rank : Fin 2} {s : State} : FrameOut 34359738368 s (execMpZqCal m rank s) := by
  unfold execMpZqCal
  repeat' first
    | exact rfl | intro _
    | (with_reducible first | exact Frame.refl _ _ | assumption | apply FrameOut.next | apply FrameOut.ite | apply Frame.ite
                            | apply Frame.step State.rankIdle_frame | apply Frame.step State.setPort_frame)
    | split
    | dsimp only

theorem execMpThermalRead_frame {m : Fin 8} {temp : BitVec 16} {s : State} :
    FrameOut 9444732965773853390849 s (execMpThermalRead m temp s) := by
  unfold execMpThermalRead
  repeat' first
    | exact rfl | intro _
    | (with_reducible first | exact Frame.refl _ _ | assumption | apply FrameOut.next | apply FrameOut.ite | apply Frame.ite
                            | apply Frame.step State.condOff_frame | apply Frame.step State.condOn_frame
                            | apply Frame.step State.wrb_frame | apply Frame.step State.wr_frame
                            | apply Frame.step State.setPort_frame)
    | split
    | dsimp only

theorem execMpTrackingForce_frame {m : Fin 8} {rank : Fin 2} {zq : Bool} {s : State} :
    FrameOut 34359738368 s (execMpTrackingForce m rank zq s) := by
  unfold execMpTrackingForce
  repeat' first
    | exact rfl | intro _
    | (with_reducible first | exact Frame.refl _ _ | assumption | apply FrameOut.next | apply FrameOut.ite | apply Frame.ite
                            | apply Frame.step State.rankIdle_frame | apply Frame.step State.setPort_frame)
    | split
    | dsimp only

theorem State.trainStart_frame {s : State} {m : Nat} : Frame 1 s (State.trainStart s m) := by
  unfold State.trainStart
  repeat' first
    | exact rfl | intro _
    | (with_reducible first | exact Frame.refl _ _ | assumption | apply Frame.step State.seqUp_frame
                            | apply Frame.step State.wr_frame)
    | split
    | dsimp only

theorem execMpTraining_frame {m : Fin 8} {answers : Bool} {s : State} :
    FrameOut 34359738369 s (execMpTraining m answers s) := by
  unfold execMpTraining
  repeat' first
    | exact rfl | intro _
    | (with_reducible first | exact Frame.refl _ _ | assumption | apply FrameOut.next | apply FrameOut.ite | apply Frame.ite
                            | apply Frame.step State.trainStart_frame | apply Frame.step State.wrBit_frame
                            | apply Frame.step State.setPort_frame)
    | split
    | dsimp only

theorem State.trainFail_frame {s : State} {m status : Nat} :
    Frame 9444732965773853390849 s (State.trainFail s m status) := by
  unfold State.trainFail
  repeat' first
    | exact rfl | intro _
    | (with_reducible first | exact Frame.refl _ _ | assumption | apply Frame.step State.raise_frame
                            | apply Frame.step State.setFail_frame | apply Frame.step State.wr_frame
                            | apply Frame.step State.setPort_frame)
    | split
    | dsimp only

theorem State.sweepAbort_frame {s : State} {m : Nat} : Frame 68719476737 s (State.sweepAbort s m) := by
  unfold State.sweepAbort
  repeat' first
    | exact rfl | intro _
    | (with_reducible first | exact Frame.refl _ _ | assumption | apply Frame.step State.wr_frame
                            | apply Frame.step State.setSweep_frame)
    | split
    | dsimp only

theorem execMpTrainingDone_frame {m : Fin 8} {e : DimmEnd} {s : State} :
    FrameOut 9444732965773853390849 s (execMpTrainingDone m e s) := by
  unfold execMpTrainingDone
  repeat' first
    | exact rfl | intro _
    | (with_reducible first | exact Frame.refl _ _ | assumption | apply FrameOut.next | apply FrameOut.ite | apply Frame.ite
                            | apply Frame.step State.trainFail_frame | apply Frame.step State.refreshStat_frame
                            | apply Frame.step State.setReady_frame | apply Frame.step State.wrb_frame
                            | apply Frame.step State.wr_frame | apply Frame.step State.setPort_frame)
    | split
    | dsimp only

theorem State.mpRetrain_frame {s : State} {m : Nat} : Frame 9463179709849710426341 s (State.mpRetrain s m) := by
  unfold State.mpRetrain
  repeat' first
    | exact rfl | intro _
    | (with_reducible first | exact Frame.refl _ _ | assumption | apply Frame.ite | apply Frame.each
                            | apply Frame.step State.trainStart_frame | apply Frame.step State.perform_frame
                            | apply Frame.step State.endOneFill_frame | apply Frame.step State.setReady_frame
                            | apply Frame.step State.wr_frame | apply Frame.step State.setPort_frame)
    | split
    | dsimp only

theorem execMpRetrain_frame {m : Fin 8} {s : State} : FrameOut 9463179709849710426341 s (execMpRetrain m s) := by
  unfold execMpRetrain
  repeat' first
    | exact rfl | intro _
    | (with_reducible first | exact Frame.refl _ _ | assumption | apply FrameOut.next
                            | apply Frame.step State.mpRetrain_frame | apply State.atBlock_frame)
    | split
    | dsimp only

theorem execMpRetrainDone_frame {m : Fin 8} {ok : Bool} {s : State} :
    FrameOut 9444732965842572867585 s (execMpRetrainDone m ok s) := by
  unfold execMpRetrainDone
  repeat' first
    | exact rfl | intro _
    | (with_reducible first | exact Frame.refl _ _ | assumption | apply FrameOut.next | apply FrameOut.ite | apply Frame.ite
                            | apply Frame.step State.sweepAbort_frame | apply Frame.step State.trainFail_frame
                            | apply Frame.step State.setReady_frame | apply Frame.step State.wr_frame
                            | apply Frame.step State.setPort_frame)
    | split
    | dsimp only

theorem State.mpAck_frame {s : State} {m : Nat} : Frame 1 s (State.mpAck s m) := by
  unfold State.mpAck
  repeat' first
    | exact rfl | intro _
    | (with_reducible first | exact Frame.refl _ _ | assumption | apply Frame.ite | apply Frame.step State.wr_frame)
    | split
    | dsimp only

theorem execMpAck_frame {m : Fin 8} {s : State} : FrameOut 1 s (execMpAck m s) := by
  unfold execMpAck
  repeat' first
    | exact rfl | intro _
    | (with_reducible first | exact Frame.refl _ _ | assumption | apply FrameOut.next | apply Frame.step State.mpAck_frame
                            | apply State.atBlock_frame)
    | split
    | dsimp only

theorem State.imeRefs_frame {s : State} {m : Nat} : Frame 1 s (State.imeRefs s m) := by
  unfold State.imeRefs
  repeat' first
    | exact rfl | intro _
    | (with_reducible first | exact Frame.refl _ _ | assumption | apply Frame.each | apply Frame.step State.wr_frame)
    | split
    | dsimp only

theorem State.imeCommand_frame {s : State} {d op port slot : Nat} :
    Frame 137438953473 s (State.imeCommand s d op port slot) := by
  unfold State.imeCommand
  repeat' first
    | exact rfl | intro _
    | (with_reducible first | exact Frame.refl _ _ | assumption | apply Frame.ite | apply Frame.step State.seqUp_frame
                            | apply Frame.step State.wr_frame | apply Frame.step State.setImeOp_frame)
    | split
    | dsimp only

theorem execImeGen_frame {d : Fin 4} {port : Fin 2} {slot : Fin 16} {s : State} :
    FrameOut 137438953473 s (execImeGen d port slot s) := by
  unfold execImeGen
  repeat' first
    | exact rfl | intro _
    | (with_reducible first | exact Frame.refl _ _ | assumption | apply FrameOut.next
                            | apply Frame.step State.imeCommand_frame | apply State.atBlock_frame)
    | split
    | dsimp only

theorem execImeLoad_frame {d : Fin 4} {port : Fin 2} {slot : Fin 16} {s : State} :
    FrameOut 137438953473 s (execImeLoad d port slot s) := by
  unfold execImeLoad
  repeat' first
    | exact rfl | intro _
    | (with_reducible first | exact Frame.refl _ _ | assumption | apply FrameOut.next
                            | apply Frame.step State.imeCommand_frame | apply State.atBlock_frame)
    | split
    | dsimp only

theorem execImeKill_frame {d : Fin 4} {port : Fin 2} {slot : Fin 16} {s : State} :
    FrameOut 137438953473 s (execImeKill d port slot s) := by
  unfold execImeKill
  repeat' first
    | exact rfl | intro _
    | (with_reducible first | exact Frame.refl _ _ | assumption | apply FrameOut.next
                            | apply Frame.step State.imeCommand_frame | apply State.atBlock_frame)
    | split
    | dsimp only

theorem State.imeEnd_frame {s : State} {d status : Nat} : Frame 137438953473 s (State.imeEnd s d status) := by
  unfold State.imeEnd
  repeat' first
    | exact rfl | intro _
    | (with_reducible first | exact Frame.refl _ _ | assumption | apply Frame.step State.wr_frame
                            | apply Frame.step State.setImeOp_frame)
    | split
    | dsimp only

theorem State.setKey_frame {s : State} {m k epoch : Nat} {key : BitVec 256} :
    Frame 549755813889 s (State.setKey s m k epoch key) := by
  unfold State.setKey
  repeat' first
    | exact rfl | intro _
    | (with_reducible first | exact Frame.refl _ _ | assumption | apply Frame.step State.wr_frame
                            | apply Frame.step State.setImeKey_frame)
    | split
    | dsimp only

theorem State.zeroise_frame {s : State} {m k : Nat} : Frame 549755814017 s (State.zeroise s m k) := by
  unfold State.zeroise
  repeat' first
    | exact rfl | intro _
    | (with_reducible first | exact Frame.refl _ _ | assumption | apply Frame.step State.fillsLost_frame
                            | apply Frame.step State.wr_frame | apply Frame.step State.setImeKey_frame)
    | split
    | dsimp only

theorem execImeKeyDone_frame {d : Fin 4} {s : State} : FrameOut 9444732966426688420993 s (execImeKeyDone d s) := by
  unfold execImeKeyDone
  repeat' first
    | exact rfl | intro _
    | (with_reducible first | exact Frame.refl _ _ | assumption | apply FrameOut.next | apply FrameOut.ite | apply Frame.ite
                            | apply Frame.each | apply Frame.step State.zeroise_frame
                            | apply Frame.step State.setKey_frame | apply Frame.step State.imeEnd_frame
                            | apply Frame.step State.raise_frame | apply Frame.step State.drew_frame
                            | apply Frame.step State.wr_frame)
    | split
    | dsimp only

theorem State.imeAck_frame {s : State} {d : Nat} : Frame 1 s (State.imeAck s d) := by
  unfold State.imeAck
  repeat' first
    | exact rfl | intro _
    | (with_reducible first | exact Frame.refl _ _ | assumption | apply Frame.ite | apply Frame.step State.wr_frame)
    | split
    | dsimp only

theorem execImeKeyAck_frame {d : Fin 4} {s : State} : FrameOut 1 s (execImeKeyAck d s) := by
  unfold execImeKeyAck
  repeat' first
    | exact rfl | intro _
    | (with_reducible first | exact Frame.refl _ _ | assumption | apply FrameOut.next | apply Frame.step State.imeAck_frame
                            | apply State.atBlock_frame)
    | split
    | dsimp only

theorem State.sweepStart_frame {s : State} {m : Nat} : Frame 1 s (State.sweepStart s m) := by
  unfold State.sweepStart
  repeat' first
    | exact rfl | intro _
    | (with_reducible first | exact Frame.refl _ _ | assumption | apply Frame.step State.seqUp_frame
                            | apply Frame.step State.wr_frame)
    | split
    | dsimp only

theorem State.sweepGo_frame {s : State} {m r k : Nat} : Frame 68719476737 s (State.sweepGo s m r k) := by
  unfold State.sweepGo
  repeat' first
    | exact rfl | intro _
    | (with_reducible first | exact Frame.refl _ _ | assumption | apply Frame.ite | apply Frame.step State.sweepStart_frame
                            | apply Frame.step State.imeRefs_frame | apply Frame.step State.wr_frame
                            | apply Frame.step State.setSweep_frame)
    | split
    | dsimp only

theorem execImeSweepGo_frame {m r : Fin 8} {k : Fin 16} {s : State} :
    FrameOut 68719476737 s (execImeSweepGo m r k s) := by
  unfold execImeSweepGo
  repeat' first
    | exact rfl | intro _
    | (with_reducible first | exact Frame.refl _ _ | assumption | apply FrameOut.next | apply Frame.step State.sweepGo_frame
                            | apply State.atBlock_frame)
    | split
    | dsimp only

theorem State.sweepResume_frame {s : State} {m r k : Nat} : Frame 68719476737 s (State.sweepResume s m r k) := by
  unfold State.sweepResume
  repeat' first
    | exact rfl | intro _
    | (with_reducible first | exact Frame.refl _ _ | assumption | apply Frame.ite | apply Frame.step State.sweepStart_frame
                            | apply Frame.step State.wr_frame | apply Frame.step State.setSweep_frame)
    | split
    | dsimp only

theorem execImeSweepResume_frame {m r : Fin 8} {k : Fin 16} {s : State} :
    FrameOut 68719476737 s (execImeSweepResume m r k s) := by
  unfold execImeSweepResume
  repeat' first
    | exact rfl | intro _
    | (with_reducible first | exact Frame.refl _ _ | assumption | apply FrameOut.next
                            | apply Frame.step State.sweepResume_frame | apply State.atBlock_frame)
    | split
    | dsimp only

theorem State.sweepAck_frame {s : State} {m : Nat} : Frame 1 s (State.sweepAck s m) := by
  unfold State.sweepAck
  repeat' first
    | exact rfl | intro _
    | (with_reducible first | exact Frame.refl _ _ | assumption | apply Frame.ite | apply Frame.step State.wr_frame)
    | split
    | dsimp only

theorem execImeSweepAck_frame {m : Fin 8} {s : State} : FrameOut 1 s (execImeSweepAck m s) := by
  unfold execImeSweepAck
  repeat' first
    | exact rfl | intro _
    | (with_reducible first | exact Frame.refl _ _ | assumption | apply FrameOut.next
                            | apply Frame.step State.sweepAck_frame | apply State.atBlock_frame)
    | split
    | dsimp only

theorem State.sweepEnd_frame {s : State} {m r k : Nat} : Frame 618475290755 s (State.sweepEnd s m r k) := by
  unfold State.sweepEnd
  repeat' first
    | exact rfl | intro _
    | (with_reducible first | exact Frame.refl _ _ | assumption | apply Frame.ite | apply Frame.step State.zeroise_frame
                            | apply Frame.step State.imeRefs_frame | apply Frame.step State.load_frame
                            | apply Frame.step State.wr_frame | apply Frame.step State.setSweep_frame)
    | split
    | dsimp only

theorem execSweepLine_frame {m : Fin 8} {s : State} : FrameOut 9463179710431678494951 s (execSweepLine m s) := by
  unfold execSweepLine
  repeat' first
    | exact rfl | intro _
    | (with_reducible first | exact Frame.refl _ _ | assumption | apply FrameOut.next | apply FrameOut.ite | apply Frame.ite
                            | apply Frame.step State.sweepEnd_frame | apply Frame.step State.putLine_frame
                            | apply Frame.step State.countLine_frame | apply Frame.step State.count_frame
                            | apply Frame.step State.wr_frame)
    | split
    | dsimp only

theorem execSlotRetire_frame {m : Fin 8} {k : Fin 16} {s : State} : FrameOut 549755814017 s (execSlotRetire m k s) := by
  unfold execSlotRetire
  repeat' first
    | exact rfl | intro _
    | (with_reducible first | exact Frame.refl _ _ | assumption | apply FrameOut.next | apply FrameOut.ite | apply Frame.ite
                            | apply Frame.step State.zeroise_frame)
    | split
    | dsimp only

end Sys2Proof.Machine
end

