-- ==== Sys2Proof/Laws/FrameD2d.lean ====
section
/-! SUPPORT. What each operation of Machine/D2d.lean can change (Laws/Frame.lean). -/
namespace Sys2Proof.Machine

theorem State.setRole_frame {s : State} {d e n p r : Nat} : Frame 1 s (State.setRole s d e n p r) := by
  unfold State.setRole
  repeat' first
    | exact rfl | intro _
    | (with_reducible first | exact Frame.refl _ _ | assumption | apply Frame.ite | apply Frame.step State.wr_frame)
    | split
    | dsimp only

theorem State.bundleStat_frame {s : State} {d e n : Nat} : Frame 1 s (State.bundleStat s d e n) := by
  unfold State.bundleStat
  repeat' first
    | exact rfl | intro _
    | (with_reducible first | exact Frame.refl _ _ | assumption | apply Frame.step State.wrb_frame
                            | apply Frame.step State.wr_frame)
    | split
    | dsimp only

theorem execD2dTraining_frame {j : Fin 4} {s : State} : FrameOut 1099511627776 s (execD2dTraining j s) := by
  unfold execD2dTraining
  repeat' first
    | exact rfl | intro _
    | (with_reducible first | exact Frame.refl _ _ | assumption | apply FrameOut.next | apply FrameOut.ite | apply Frame.ite
                            | apply Frame.each | apply Frame.step State.setBundle_frame)
    | split
    | dsimp only

theorem State.chooseLanes_frame {s : State} {d e n fuse pass retired : Nat} :
    Frame 1 s (State.chooseLanes s d e n fuse pass retired) := by
  unfold State.chooseLanes
  repeat' first
    | exact rfl | intro _
    | (with_reducible first | exact Frame.refl _ _ | assumption | apply Frame.ite | apply Frame.each
                            | apply Frame.step State.setRole_frame)
    | split
    | dsimp only

theorem State.jointReady_frame {s : State} {j : Nat} : Frame 1 s (State.jointReady s j) := by
  unfold State.jointReady
  repeat' first
    | exact rfl | intro _
    | (with_reducible first | exact Frame.refl _ _ | assumption | apply Frame.ite | apply Frame.step State.setFail_frame
                            | apply Frame.step State.setReady_frame)
    | split
    | dsimp only

theorem State.nocReadyUp_frame {s : State} : Frame 1 s (State.nocReadyUp s) := by
  unfold State.nocReadyUp
  repeat' first
    | exact rfl | intro _
    | (with_reducible first | exact Frame.refl _ _ | assumption | apply Frame.ite | apply Frame.each
                            | apply Frame.step State.setReady_frame)
    | split
    | dsimp only

theorem State.pairFailed_frame {s : State} {d e : Nat} : Frame 1099511627777 s (State.pairFailed s d e) := by
  unfold State.pairFailed
  repeat' first
    | exact rfl | intro _
    | (with_reducible first | exact Frame.refl _ _ | assumption | apply Frame.each | apply Frame.step State.jointReady_frame
                            | apply Frame.step State.wr_frame | apply Frame.step State.setBundle_frame)
    | split
    | dsimp only

theorem execD2dFlitReceive_frame {d : Fin 4} {e : Fin 2} {n : Fin 21} {ok : Bool} {s : State} :
    FrameOut 1099511627777 s (execD2dFlitReceive d e n ok s) := by
  unfold execD2dFlitReceive
  repeat' first
    | exact rfl | intro _
    | (with_reducible first | exact Frame.refl _ _ | assumption | apply FrameOut.next | apply FrameOut.ite | apply Frame.ite
                            | apply Frame.step State.count_frame | apply Frame.step State.setBundle_frame)
    | split
    | dsimp only

theorem execD2dServiceSlot_frame {d : Fin 4} {e : Fin 2} {slot : SlotKind} {bad : Bool} {s : State} :
    FrameOut 70368744439809 s (execD2dServiceSlot d e slot bad s) := by
  unfold execD2dServiceSlot
  repeat' first
    | exact rfl | intro _
    | (with_reducible first | exact Frame.refl _ _ | assumption | apply FrameOut.next | apply FrameOut.ite | apply Frame.ite
                            | apply Frame.step State.count_frame | apply Frame.step State.wr_frame
                            | apply Frame.step State.setPsq_frame)
    | split
    | with_reducible apply Frame.step Frame.upd_ptbAbsent

end Sys2Proof.Machine
end

