-- ==== Sys2Proof/Laws/FrameNoc.lean ====
section
/-! SUPPORT. What each operation of Machine/Noc.lean can change (Laws/Frame.lean). -/
namespace Sys2Proof.Machine

theorem State.nocAdmit_frame {s : State} {q : MemReq} : Frame 9444732965754526038017 s (State.nocAdmit s q) := by
  unfold State.nocAdmit
  repeat' first
    | exact rfl | intro _
    | (with_reducible first | exact Frame.refl _ _ | assumption | apply Frame.ite | apply Frame.step State.refused_frame
                            | apply Frame.step State.probe_frame)
    | split
    | with_reducible apply Frame.step Frame.upd_nocNext_nocLast
    | with_reducible apply Frame.step Frame.upd_flights_nocNext

theorem execNocRequestAdmit_frame {q : MemReq} {s : State} :
    FrameOut 9444732965754526038017 s (execNocRequestAdmit q s) := by
  unfold execNocRequestAdmit
  repeat' first
    | exact rfl | intro _
    | (with_reducible first | exact Frame.refl _ _ | assumption | apply FrameOut.next
                            | apply Frame.step State.nocAdmit_frame)
    | split
    | dsimp only

theorem State.complete_frame {s : State} {f : Flight} {r : Rsp} : Frame 10737418241 s (State.complete s f r) := by
  unfold State.complete
  repeat' first
    | exact rfl | intro _
    | (with_reducible first | exact Frame.refl _ _ | assumption | apply Frame.step State.probe_frame
                            | apply Frame.step State.nsCount_frame)
    | split
    | with_reducible apply Frame.step Frame.upd_flights_nocLast

theorem execNocResponse_frame {d : Fin 4} {id : Nat} {s : State} : FrameOut 10737418241 s (execNocResponse d id s) := by
  unfold execNocResponse
  repeat' first
    | exact rfl | intro _
    | (with_reducible first | exact Frame.refl _ _ | assumption | apply FrameOut.next
                            | apply Frame.step State.complete_frame | apply Frame.step State.count_frame)
    | split
    | dsimp only

theorem execNocTimeout_frame {id : Nat} {s : State} : FrameOut 9444732965750231070721 s (execNocTimeout id s) := by
  unfold execNocTimeout
  repeat' first
    | exact rfl | intro _
    | (with_reducible first | exact Frame.refl _ _ | assumption | apply FrameOut.next | apply FrameOut.ite | apply Frame.ite
                            | apply Frame.step State.complete_frame | apply Frame.step State.raise_frame
                            | apply Frame.step State.count_frame)
    | split
    | dsimp only

theorem execNocPacketAtDownLink_frame {id : Nat} {s : State} :
    FrameOut 9444732965750231070721 s (execNocPacketAtDownLink id s) := by
  unfold execNocPacketAtDownLink
  repeat' first
    | exact rfl | intro _
    | (with_reducible first | exact Frame.refl _ _ | assumption | apply FrameOut.next | apply FrameOut.ite | apply Frame.ite
                            | apply Frame.step State.complete_frame | apply Frame.step State.raise_frame
                            | apply Frame.step State.count_frame)
    | split
    | dsimp only

theorem execNocLinkDown_frame {n : Fin 64} {s : State} : FrameOut 9444732965739493652481 s (execNocLinkDown n s) := by
  unfold execNocLinkDown
  repeat' first
    | exact rfl | intro _
    | (with_reducible first | exact Frame.refl _ _ | assumption | apply FrameOut.next | apply FrameOut.ite | apply Frame.ite
                            | apply Frame.each | apply Frame.step State.raise_frame
                            | apply Frame.step State.setReady_frame | apply Frame.step State.wrBit_frame)
    | split
    | dsimp only

theorem State.nocCntClr_frame {s : State} {d : Nat} {v : Word} : Frame 1 s (State.nocCntClr s d v) := by
  unfold State.nocCntClr
  repeat' first
    | exact rfl | intro _
    | (with_reducible first | exact Frame.refl _ _ | assumption | apply Frame.ite | apply Frame.step State.rsvBits_frame
                            | apply Frame.step State.wr_frame)
    | split
    | dsimp only

theorem execNocCntClr_frame {d : Fin 4} {v : Word} {s : State} : FrameOut 1 s (execNocCntClr d v s) := by
  unfold execNocCntClr
  repeat' first
    | exact rfl | intro _
    | (with_reducible first | exact Frame.refl _ _ | assumption | apply FrameOut.next
                            | apply Frame.step State.nocCntClr_frame | apply State.atBlock_frame)
    | split
    | dsimp only

theorem State.nsClr_frame {s : State} {d : Nat} {v : Word} : Frame 1 s (State.nsClr s d v) := by
  unfold State.nsClr
  repeat' first
    | exact rfl | intro _
    | (with_reducible first | exact Frame.refl _ _ | assumption | apply Frame.each | apply Frame.step State.wr2_frame
                            | apply Frame.step State.wr_frame)
    | split
    | dsimp only

theorem execNsClr_frame {d : Fin 4} {v : Word} {s : State} : FrameOut 1 s (execNsClr d v s) := by
  unfold execNsClr
  repeat' first
    | exact rfl | intro _
    | (with_reducible first | exact Frame.refl _ _ | assumption | apply FrameOut.next | apply Frame.step State.nsClr_frame
                            | apply State.atBlock_frame)
    | split
    | dsimp only

theorem State.ntClear_frame {s : State} {d : Nat} : Frame 1 s (State.ntClear s d) := by
  unfold State.ntClear
  repeat' first
    | exact rfl | intro _
    | (with_reducible first | exact Frame.refl _ _ | assumption | apply Frame.step State.wr_frame)
    | split
    | dsimp only

theorem execNtClear_frame {d : Fin 4} {s : State} : FrameOut 1 s (execNtClear d s) := by
  unfold execNtClear
  repeat' first
    | exact rfl | intro _
    | (with_reducible first | exact Frame.refl _ _ | assumption | apply FrameOut.next | apply Frame.step State.ntClear_frame
                            | apply State.atBlock_frame)
    | split
    | dsimp only

end Sys2Proof.Machine
end

