-- ==== Sys2Proof/Laws/FrameFcu.lean ====
section
/-! SUPPORT. What each operation of Machine/Fcu.lean can change (Laws/Frame.lean). -/
namespace Sys2Proof.Machine

theorem State.fcuOcc_frame {s : State} {d : Nat} : Frame 1 s (State.fcuOcc s d) := by
  unfold State.fcuOcc
  repeat' first
    | exact rfl | intro _
    | (with_reducible first | exact Frame.refl _ _ | assumption | apply Frame.step State.wr_frame)
    | split
    | dsimp only

theorem execFcuTagSample_frame {d : Fin 4} {st : Fin 16} {c : Nat} {tag : BitVec 48} {pois : BitVec 6} {s : State} :
    FrameOut 562949953421312 s (execFcuTagSample d st c tag pois s) := by
  unfold execFcuTagSample
  repeat' first
    | exact rfl | intro _
    | (with_reducible first | exact Frame.refl _ _ | assumption | apply FrameOut.next | apply FrameOut.ite | apply Frame.ite
                            | apply Frame.step State.setFcuTag_frame)
    | split
    | dsimp only

theorem State.fsClear_frame {s : State} {d st : Nat} : Frame 1 s (State.fsClear s d st) := by
  unfold State.fsClear
  repeat' first
    | exact rfl | intro _
    | (with_reducible first | exact Frame.refl _ _ | assumption | apply Frame.each | apply Frame.step State.wr2_frame
                            | apply Frame.step State.wr_frame)
    | split
    | dsimp only

theorem State.coarsen_frame {s : State} {d : Nat} {e : FcuEnt} {due : Nat} :
    Frame 9444733106476982007809 s (State.coarsen s d e due) := by
  unfold State.coarsen
  repeat' first
    | exact rfl | intro _
    | (with_reducible first | exact Frame.refl _ _ | assumption | apply Frame.ite | apply Frame.each
                            | apply Frame.step State.raise_frame | apply Frame.step State.count_frame
                            | apply Frame.step State.wr_frame | apply Frame.step State.setFcu_frame)
    | split
    | dsimp only

theorem State.fcuEntry_frame {s : State} {d : Nat} {e : FcuEnt} {due : Nat} :
    Frame 9444733387951958718465 s (State.fcuEntry s d e due) := by
  unfold State.fcuEntry
  repeat' first
    | exact rfl | intro _
    | (with_reducible first | exact Frame.refl _ _ | assumption | apply Frame.ite | apply Frame.step State.coarsen_frame
                            | apply Frame.step State.fcuOcc_frame | apply Frame.step State.count2_frame
                            | apply Frame.step State.wr_frame | apply Frame.step State.setFsx_frame
                            | apply Frame.step State.setFcu_frame)
    | split
    | dsimp only

theorem State.matchDelivery_frame {s : State} {p : Nat} {f : FailWord} :
    Frame 262144 s (State.matchDelivery s p f) := by
  unfold State.matchDelivery
  repeat' first
    | exact rfl | intro _
    | (with_reducible first | exact Frame.refl _ _ | assumption | apply Frame.ite | apply Frame.step State.setPsq_frame)
    | split
    | dsimp only

theorem execFailWordDelivery_frame {s : State} : FrameOut 9444733387951958718465 s (execFailWordDelivery s) := by
  unfold execFailWordDelivery
  repeat' first
    | exact rfl | intro _
    | (with_reducible first | exact Frame.refl _ _ | assumption | apply FrameOut.next | apply FrameOut.ite | apply Frame.ite
                            | apply Frame.step State.matchDelivery_frame | apply Frame.step State.fcuEntry_frame
                            | apply Frame.step State.fsClear_frame | apply Frame.step State.countSuppressed_frame
                            | apply Frame.step State.raise_frame | apply Frame.step State.count2_frame
                            | apply Frame.step State.count_frame | apply Frame.step State.wr_frame
                            | apply Frame.step State.setFsx_frame)
    | split
    | with_reducible apply Frame.step Frame.upd_fails

theorem State.emitPart_frame {s : State} {d st : Nat} : Frame 9465490337933528202493 s (State.emitPart s d st) := by
  unfold State.emitPart
  repeat' first
    | exact rfl | intro _
    | (with_reducible first | exact Frame.refl _ _ | assumption | apply Frame.step State.storeBytes_frame
                            | apply Frame.step State.setFsx_frame | apply Frame.ofP1 (by assumption))
    | split
    | dsimp only

theorem State.addRecord_frame {s : State} {d st : Nat} {first fail : Bool} {bytes : List Byte} :
    Frame 9465490337933528202493 s (State.addRecord s d st first fail bytes) := by
  unfold State.addRecord
  repeat' first
    | exact rfl | intro _
    | (with_reducible first | exact Frame.refl _ _ | assumption | apply Frame.ite | apply Frame.step State.emitPart_frame
                            | apply Frame.step State.setFsx_frame)
    | split
    | dsimp only

theorem State.listRecords_frame {s : State} {d : Nat} {e : FcuEnt} {r : List Byte} :
    FrameQ 9465490337933528202493 s (State.listRecords s d e r) := by
  unfold State.listRecords
  repeat' first
    | exact rfl | intro _
    | (with_reducible first | exact Frame.refl _ _ | assumption | exact FrameQ.none | apply FrameQ.some | apply FrameQ.ite
                            | apply Frame.ite | apply Frame.step State.addRecord_frame
                            | apply Frame.step State.setFsx_frame)
    | split
    | dsimp only

theorem State.cacheOr_frame {s : State} {d line site bits : Nat} :
    FrameO 140737488355328 s (State.cacheOr s d line site bits) := by
  unfold State.cacheOr
  repeat' first
    | exact rfl | intro _
    | (with_reducible first | exact Frame.refl _ _ | assumption | exact FrameO.none | apply FrameO.some | apply FrameO.ite
                            | apply Frame.ite | apply Frame.step State.setFcu_frame)
    | split
    | dsimp only

theorem State.mapBits_frame {s : State} {d : Nat} {e : FcuEnt} {place : Nat → Nat} {js : List Nat} :
    Frame 140737488355328 s (State.mapBits s d e place js).1 := by
  induction js generalizing s with
  | nil => exact Frame.refl _ _
  | cons j js ih =>
    unfold State.mapBits
    split
    · rename_i t h
      exact Frame.step ih (by decide) ((FrameO.of h State.cacheOr_frame).mono (by decide))
    · exact Frame.refl _ _

theorem State.fcuProcess_frame {s : State} {d : Nat} {e : FcuEnt} :
    FrameQ 9465490478671016557821 s (State.fcuProcess s d e) := by
  unfold State.fcuProcess
  repeat' first
    | exact rfl | intro _
    | (with_reducible first | exact Frame.refl _ _ | assumption | exact FrameQ.none | apply FrameQ.some | apply FrameQ.ite
                            | apply Frame.ite | apply Frame.step State.mapBits_frame
                            | apply FrameQ.step State.listRecords_frame | apply Frame.step State.addRecord_frame
                            | apply Frame.step State.emitPart_frame | apply Frame.step State.count_frame
                            | apply Frame.step State.wr_frame | apply Frame.step State.setFsx_frame
                            | apply Frame.step State.setFcu_frame | apply Frame.of1 (by assumption)
                            | apply FrameQ.of (by assumption))
    | split
    | dsimp only

theorem State.fcuMove_frame {s : State} {d n : Nat} : Frame 140737488355328 s (State.fcuMove s d n) := by
  induction n generalizing s d with
  | zero =>
    unfold State.fcuMove
    repeat' first
      | exact rfl | intro _
      | (with_reducible first | exact Frame.refl _ _ | assumption | apply Frame.step State.setFcu_frame)
      | with_reducible apply Frame.step ih
      | split
      | dsimp only
  | succ _ ih =>
    unfold State.fcuMove
    repeat' first
      | exact rfl | intro _
      | (with_reducible first | exact Frame.refl _ _ | assumption | apply Frame.step State.setFcu_frame)
      | with_reducible apply Frame.step ih
      | split
      | dsimp only

theorem execFcuBackendEntry_frame {d : Fin 4} {s : State} :
    FrameOut 9465490478671016557821 s (execFcuBackendEntry d s) := by
  unfold execFcuBackendEntry
  repeat' first
    | exact rfl | intro _
    | (with_reducible first | exact Frame.refl _ _ | assumption | apply FrameOut.next | apply Frame.step State.fcuMove_frame
                            | apply FrameQ.step State.fcuProcess_frame | apply Frame.step State.fcuOcc_frame
                            | apply Frame.step State.setFcu_frame | apply FrameQ.of (by assumption))
    | split
    | dsimp only
  rename_i e t heq
  obtain ⟨i, -, h⟩ := List.exists_of_findSome?_eq_some heq
  split at h
  · obtain ⟨u, hu, he⟩ := Option.map_eq_some_iff.1 h
    cases he
    exact Frame.trans (State.fcuMove_frame.mono (by decide)) ((FrameQ.of hu State.fcuProcess_frame).mono (by decide))
  · cases h

theorem State.fsFlush_frame {s : State} {d st : Nat} : Frame 422212465065985 s (State.fsFlush s d st) := by
  unfold State.fsFlush
  repeat' first
    | exact rfl | intro _
    | (with_reducible first | exact Frame.refl _ _ | assumption | apply Frame.ite | apply Frame.step State.seqUp_frame
                            | apply Frame.step State.wr_frame | apply Frame.step State.setFsx_frame
                            | apply Frame.step State.setFcu_frame)
    | split
    | dsimp only

theorem execFsFlush_frame {d : Fin 4} {st : Fin 16} {s : State} : FrameOut 422212465065985 s (execFsFlush d st s) := by
  unfold execFsFlush
  repeat' first
    | exact rfl | intro _
    | (with_reducible first | exact Frame.refl _ _ | assumption | apply FrameOut.next | apply Frame.step State.fsFlush_frame
                            | apply State.atBlock_frame)
    | split
    | dsimp only

theorem execFsFlushDone_frame {d : Fin 4} {st : Fin 16} {s : State} : FrameOut 1 s (execFsFlushDone d st s) := by
  unfold execFsFlushDone
  repeat' first
    | exact rfl | intro _
    | (with_reducible first | exact Frame.refl _ _ | assumption | apply FrameOut.next | apply FrameOut.ite | apply Frame.ite
                            | apply Frame.step State.wr_frame)
    | split
    | dsimp only

theorem State.fsFack_frame {s : State} {d st : Nat} : Frame 1 s (State.fsFack s d st) := by
  unfold State.fsFack
  repeat' first
    | exact rfl | intro _
    | (with_reducible first | exact Frame.refl _ _ | assumption | apply Frame.ite | apply Frame.step State.wr_frame)
    | split
    | dsimp only

theorem execFsFack_frame {d : Fin 4} {st : Fin 16} {s : State} : FrameOut 1 s (execFsFack d st s) := by
  unfold execFsFack
  repeat' first
    | exact rfl | intro _
    | (with_reducible first | exact Frame.refl _ _ | assumption | apply FrameOut.next | apply Frame.step State.fsFack_frame
                            | apply State.atBlock_frame)
    | split
    | dsimp only

theorem execFcuMarkerEntry_frame {d : Fin 4} {st : Fin 16} {s : State} :
    FrameOut 422212465065985 s (execFcuMarkerEntry d st s) := by
  unfold execFcuMarkerEntry
  repeat' first
    | exact rfl | intro _
    | (with_reducible first | exact Frame.refl _ _ | assumption | apply FrameOut.next | apply FrameOut.ite | apply Frame.ite
                            | apply Frame.step State.fsFlush_frame | apply Frame.step State.setFsx_frame
                            | apply Frame.step State.setFcu_frame)
    | split
    | dsimp only

theorem execFcuWriteback_frame {d : Fin 4} {s : State} : FrameOut 9465490197196039847165 s (execFcuWriteback d s) := by
  unfold execFcuWriteback
  repeat' first
    | exact rfl | intro _
    | (with_reducible first | exact Frame.refl _ _ | assumption | apply FrameOut.next | apply FrameOut.ite | apply Frame.ite
                            | apply Frame.step State.fcuOcc_frame | apply Frame.step State.lineOr_frame
                            | apply Frame.step State.wr_frame | apply Frame.step State.setFcu_frame
                            | apply Frame.ofP1 (by assumption))
    | split
    | dsimp only

theorem State.ringFull_frame {s : State} {d st : Nat} : Frame 1 s (State.ringFull s d st) := by
  unfold State.ringFull
  repeat' first
    | exact rfl | intro _
    | (with_reducible first | exact Frame.refl _ _ | assumption | apply Frame.step State.wrb_frame)
    | split
    | dsimp only

theorem execFcuWriteResponse_frame {d : Fin 4} {st : Fin 16} {s : State} :
    FrameOut 281474976710657 s (execFcuWriteResponse d st s) := by
  unfold execFcuWriteResponse
  repeat' first
    | exact rfl | intro _
    | (with_reducible first | exact Frame.refl _ _ | assumption | apply FrameOut.next | apply FrameOut.ite | apply Frame.ite
                            | apply Frame.step State.ringFull_frame | apply Frame.step State.wr_frame
                            | apply Frame.step State.setFsx_frame)
    | split
    | dsimp only

theorem execFcuPartialLineTimeout_frame {d : Fin 4} {st : Fin 16} {s : State} :
    FrameOut 9465490337933528202493 s (execFcuPartialLineTimeout d st s) := by
  unfold execFcuPartialLineTimeout
  repeat' first
    | exact rfl | intro _
    | (with_reducible first | exact Frame.refl _ _ | assumption | apply FrameOut.next
                            | apply Frame.step State.emitPart_frame)
    | split
    | dsimp only

theorem State.fsFreset_frame {s : State} {d st : Nat} : Frame 281474976710657 s (State.fsFreset s d st) := by
  unfold State.fsFreset
  repeat' first
    | exact rfl | intro _
    | (with_reducible first | exact Frame.refl _ _ | assumption | apply Frame.step State.wr_frame
                            | apply Frame.step State.setFsx_frame)
    | split
    | dsimp only

theorem execFsFreset_frame {d : Fin 4} {st : Fin 16} {s : State} :
    FrameOut 281474976710657 s (execFsFreset d st s) := by
  unfold execFsFreset
  repeat' first
    | exact rfl | intro _
    | (with_reducible first | exact Frame.refl _ _ | assumption | apply FrameOut.next
                            | apply Frame.step State.fsFreset_frame | apply State.atBlock_frame)
    | split
    | dsimp only

theorem execFsCclr_frame {d : Fin 4} {st : Fin 16} {s : State} : FrameOut 1 s (execFsCclr d st s) := by
  unfold execFsCclr
  repeat' first
    | exact rfl | intro _
    | (with_reducible first | exact Frame.refl _ _ | assumption | apply FrameOut.next | apply Frame.step State.fsClear_frame
                            | apply State.atBlock_frame)
    | split
    | dsimp only

theorem State.fsBmclr_frame {s : State} {d st : Nat} : Frame 140737488355329 s (State.fsBmclr s d st) := by
  unfold State.fsBmclr
  repeat' first
    | exact rfl | intro _
    | (with_reducible first | exact Frame.refl _ _ | assumption | apply Frame.ite | apply Frame.each
                            | apply Frame.step State.wr_frame | apply Frame.step State.setFcu_frame)
    | split
    | dsimp only

theorem execFsBmclr_frame {d : Fin 4} {st : Fin 16} {s : State} : FrameOut 140737488355329 s (execFsBmclr d st s) := by
  unfold execFsBmclr
  repeat' first
    | exact rfl | intro _
    | (with_reducible first | exact Frame.refl _ _ | assumption | apply FrameOut.next | apply Frame.step State.fsBmclr_frame
                            | apply State.atBlock_frame)
    | split
    | dsimp only

theorem State.fsRdptr_frame {s : State} {d st : Nat} {v : Word} : Frame 1 s (State.fsRdptr s d st v) := by
  unfold State.fsRdptr
  repeat' first
    | exact rfl | intro _
    | (with_reducible first | exact Frame.refl _ _ | assumption | apply Frame.ite | apply Frame.step State.ringFull_frame
                            | apply Frame.step State.rsvw_frame | apply Frame.step State.wr_frame)
    | split
    | dsimp only

theorem execFsRdptrWrite_frame {d : Fin 4} {st : Fin 16} {v : Word} {s : State} :
    FrameOut 1 s (execFsRdptrWrite d st v s) := by
  unfold execFsRdptrWrite
  repeat' first
    | exact rfl | intro _
    | (with_reducible first | exact Frame.refl _ _ | assumption | apply FrameOut.next | apply Frame.step State.fsRdptr_frame
                            | apply State.atBlock_frame)
    | split
    | dsimp only

theorem State.fcuCclr_frame {s : State} {d : Nat} {v : Word} : Frame 1 s (State.fcuCclr s d v) := by
  unfold State.fcuCclr
  repeat' first
    | exact rfl | intro _
    | (with_reducible first | exact Frame.refl _ _ | assumption | apply Frame.ite | apply Frame.each
                            | apply Frame.step State.rsvBits_frame | apply Frame.step State.wr2_frame)
    | split
    | dsimp only

theorem execFcuCclr_frame {d : Fin 4} {v : Word} {s : State} : FrameOut 1 s (execFcuCclr d v s) := by
  unfold execFcuCclr
  repeat' first
    | exact rfl | intro _
    | (with_reducible first | exact Frame.refl _ _ | assumption | apply FrameOut.next | apply Frame.step State.fcuCclr_frame
                            | apply State.atBlock_frame)
    | split
    | dsimp only

theorem State.fcuPurge_frame {s : State} {d st : Nat} : Frame 422212465065985 s (State.fcuPurge s d st) := by
  unfold State.fcuPurge
  repeat' first
    | exact rfl | intro _
    | (with_reducible first | exact Frame.refl _ _ | assumption | apply Frame.ite | apply Frame.step State.fcuOcc_frame
                            | apply Frame.step State.count_frame | apply Frame.step State.wr_frame
                            | apply Frame.step State.setFsx_frame | apply Frame.step State.setFcu_frame)
    | split
    | dsimp only

theorem State.fcuCommitted_frame {s : State} {d : Nat} : Frame 1 s (State.fcuCommitted s d) := by
  unfold State.fcuCommitted
  repeat' first
    | exact rfl | intro _
    | (with_reducible first | exact Frame.refl _ _ | assumption | apply Frame.each | apply Frame.step State.ringFull_frame)
    | split
    | dsimp only

end Sys2Proof.Machine
end

