-- ==== Sys2Proof/Laws/FrameRae.lean ====
section
/-! SUPPORT. What each operation of Machine/Rae.lean can change (Laws/Frame.lean). -/
namespace Sys2Proof.Machine

theorem State.raeStat_frame {s : State} {r : Nat} : Frame 1 s (State.raeStat s r) := by
  unfold State.raeStat
  repeat' first
    | exact rfl | intro _
    | (with_reducible first | exact Frame.refl _ _ | assumption | apply FrameO.getD | apply Frame.step State.wrb_frame
                            | apply Frame.step State.wr_frame)
    | split
    | dsimp only

theorem State.raeLeave_frame {s : State} {r n : Nat} : Frame 1125899906842624 s (State.raeLeave s r n) := by
  unfold State.raeLeave
  repeat' first
    | exact rfl | intro _
    | (with_reducible first | exact Frame.refl _ _ | assumption | apply Frame.ite | apply Frame.step State.setRae_frame)
    | split
    | dsimp only

theorem State.raeResult_frame {s : State} {r n cls sub : Nat} {coarse optimal : Bool} {nodes rused cused : Nat} :
    Frame 1125899906842625 s (State.raeResult s r n cls sub coarse optimal nodes rused cused) := by
  unfold State.raeResult
  repeat' first
    | exact rfl | intro _
    | (with_reducible first | exact Frame.refl _ _ | assumption | apply Frame.step State.raeLeave_frame
                            | apply Frame.step State.raeStat_frame | apply Frame.step State.count_frame
                            | apply Frame.step State.wrb_frame | apply Frame.step State.wr_frame)
    | split
    | dsimp only

theorem State.rjGo_frame {s : State} {r n st : Nat} : Frame 9465491182358458334461 s (State.rjGo s r n st) := by
  unfold State.rjGo
  repeat' first
    | exact rfl | intro _
    | (with_reducible first | exact Frame.refl _ _ | assumption | apply Frame.ite | apply Frame.step State.raeStat_frame
                            | apply Frame.step State.storeBytes_frame | apply Frame.step State.seqUp_frame
                            | apply Frame.step State.wr_frame | apply Frame.step State.setRae_frame
                            | apply Frame.ofP1 (by assumption))
    | split
    | dsimp only

theorem execRjGo_frame {r : Fin 8} {n st : Fin 16} {s : State} :
    FrameOut 9465491182358458334461 s (execRjGo r n st s) := by
  unfold execRjGo
  repeat' first
    | exact rfl | intro _
    | (with_reducible first | exact Frame.refl _ _ | assumption | apply FrameOut.next | apply Frame.step State.rjGo_frame
                            | apply State.atBlock_frame)
    | split
    | dsimp only

theorem State.rjCancel_frame {s : State} {r n : Nat} : Frame 1125899906842625 s (State.rjCancel s r n) := by
  unfold State.rjCancel
  repeat' first
    | exact rfl | intro _
    | (with_reducible first | exact Frame.refl _ _ | assumption | apply Frame.ite | apply Frame.step State.raeResult_frame)
    | split
    | dsimp only

theorem execRjCancel_frame {r : Fin 8} {n : Fin 16} {s : State} : FrameOut 1125899906842625 s (execRjCancel r n s) := by
  unfold execRjCancel
  repeat' first
    | exact rfl | intro _
    | (with_reducible first | exact Frame.refl _ _ | assumption | apply FrameOut.next
                            | apply Frame.step State.rjCancel_frame | apply State.atBlock_frame)
    | split
    | dsimp only

theorem State.rjAck_frame {s : State} {r n : Nat} : Frame 1 s (State.rjAck s r n) := by
  unfold State.rjAck
  repeat' first
    | exact rfl | intro _
    | (with_reducible first | exact Frame.refl _ _ | assumption | apply Frame.ite | apply Frame.step State.wr_frame)
    | split
    | dsimp only

theorem execRjAck_frame {r : Fin 8} {n : Fin 16} {s : State} : FrameOut 1 s (execRjAck r n s) := by
  unfold execRjAck
  repeat' first
    | exact rfl | intro _
    | (with_reducible first | exact Frame.refl _ _ | assumption | apply FrameOut.next | apply Frame.step State.rjAck_frame
                            | apply State.atBlock_frame)
    | split
    | dsimp only

theorem State.raeCancelSite_frame {s : State} {r st : Nat} : Frame 1125899906843649 s (State.raeCancelSite s r st) := by
  unfold State.raeCancelSite
  repeat' first
    | exact rfl | intro _
    | (with_reducible first | exact Frame.refl _ _ | assumption | apply Frame.ite | apply Frame.each
                            | apply Frame.step State.rjCancel_frame | apply Frame.step State.drew_frame
                            | apply Frame.step State.count_frame)
    | split
    | dsimp only

theorem State.descResults_frame {s : State} {r n cls sub nodes ru cu fails mr mc cr : Nat} :
    Frame 9465490056458551491837 s (s.descResults r n cls sub nodes ru cu fails mr mc cr).2 := by
  unfold State.descResults
  apply Frame.pairP1
  exact (State.storeBytes_frame.trans State.storeBytes_frame).trans State.storeBytes_frame

theorem State.raeError_frame {s : State} {r n sub : Nat} : Frame 1125899906842625 s (State.raeError s r n sub) := by
  unfold State.raeError
  repeat' first
    | exact rfl | intro _
    | (with_reducible first | exact Frame.refl _ _ | assumption | apply Frame.step State.raeResult_frame)
    | split
    | dsimp only

theorem State.raeReject_frame {s : State} {r n sub : Nat} :
    Frame 9465491182358458334461 s (State.raeReject s r n sub) := by
  unfold State.raeReject
  repeat' first
    | exact rfl | intro _
    | (with_reducible first | exact Frame.refl _ _ | assumption | apply Frame.step State.descResults_frame
                            | apply Frame.step State.raeResult_frame | apply Frame.ofP1 (by assumption))
    | split
    | dsimp only

theorem State.startOf_frame {s : State} {r n : Nat} : Frame 9465490056458551491837 s (s.startOf r n).2 := by
  have hg : Frame 9465490056458551491837 s (s.getBytes (s.raeWho r n) (s.slotAddr r n) 104).2 := State.getBytes_frame
  unfold State.startOf
  apply Frame.iteP1
  · exact Frame.refl _ _
  generalize s.getBytes (s.raeWho r n) (s.slotAddr r n) 104 = g at hg
  repeat' first
    | with_reducible exact Frame.refl _ _
    | exact hg
    | split

theorem execRaeJobStart_frame {r : Fin 8} {s : State} : FrameOut 9465491182358458334461 s (execRaeJobStart r s) := by
  unfold execRaeJobStart
  repeat' first
    | exact rfl | intro _
    | (with_reducible first | exact Frame.refl _ _ | assumption | apply FrameOut.next | apply FrameOut.ite | apply Frame.ite
                            | apply Frame.step State.startOf_frame | apply Frame.step State.raeReject_frame
                            | apply Frame.step State.raeError_frame | apply Frame.step State.raeResult_frame
                            | apply Frame.step State.raeStat_frame | apply Frame.step State.raise_frame
                            | apply Frame.step State.setRae_frame | apply Frame.ofP1 (by assumption))
    | split
    | dsimp only

theorem State.readRow_frame {s : State} {w : Who} {a ncols : Nat} :
    Frame 9465490056458551491837 s (State.readRow s w a ncols).2 := by
  unfold State.readRow
  repeat' first
    | exact rfl | intro _
    | (with_reducible first | exact Frame.refl _ _ | assumption | apply Frame.iteP1 | apply Frame.ite | apply Frame.foldl
                            | apply Frame.foldl1 | apply Frame.foldlP1 | apply Frame.foldlP2 | apply Frame.foldlP3
                            | apply Frame.foldlP4 | apply Frame.foldlP5 | apply Frame.step State.getBytes_frame
                            | apply Frame.ofP1 (by assumption))
    | split
    | dsimp only

theorem State.readRowMap_frame {s : State} {w : Who} {base first nrows : Nat} :
    Frame 9465490056458551491837 s (State.readRowMap s w base first nrows).2 := by
  unfold State.readRowMap
  repeat' first
    | exact rfl | intro _
    | (with_reducible first | exact Frame.refl _ _ | assumption | apply Frame.iteP1 | apply Frame.ite | apply Frame.foldl
                            | apply Frame.foldl1 | apply Frame.foldlP1 | apply Frame.foldlP2 | apply Frame.foldlP3
                            | apply Frame.foldlP4 | apply Frame.foldlP5 | apply Frame.step State.getBytes_frame
                            | apply Frame.ofP1 (by assumption))
    | split
    | dsimp only

theorem State.raePoison_frame {s : State} {r st n : Nat} :
    Frame 9444732965739493652481 s (State.raePoison s r st n) := by
  unfold State.raePoison
  repeat' first
    | exact rfl | intro _
    | (with_reducible first | exact Frame.refl _ _ | assumption | apply Frame.each | apply Frame.step State.raise_frame)
    | split
    | dsimp only

theorem State.raeBitmap_frame {s : State} {r n : Nat} {desc : List Byte} :
    Frame 9465490056458551491837 s (State.raeBitmap s r n desc).2 := by
  unfold State.raeBitmap
  repeat' first
    | exact rfl | intro _
    | (with_reducible first | exact Frame.refl _ _ | assumption | apply Frame.iteP1 | apply Frame.ite | apply Frame.foldl
                            | apply Frame.foldl1 | apply Frame.foldlP1 | apply Frame.foldlP2 | apply Frame.foldlP3
                            | apply Frame.foldlP4 | apply Frame.foldlP5 | apply Frame.step State.raePoison_frame
                            | apply Frame.step State.readRowMap_frame | apply Frame.step State.readRow_frame
                            | apply Frame.ofP1 (by assumption))
    | split
    | dsimp only

theorem State.raeList_frame {s : State} {r n : Nat} {desc : List Byte} :
    Frame 9465490056458551491837 s (State.raeList s r n desc).2 := by
  unfold State.raeList
  repeat' first
    | exact rfl | intro _
    | (with_reducible first | exact Frame.refl _ _ | assumption | apply Frame.iteP1 | apply Frame.ite | apply Frame.foldl
                            | apply Frame.foldl1 | apply Frame.foldlP1 | apply Frame.foldlP2 | apply Frame.foldlP3
                            | apply Frame.foldlP4 | apply Frame.foldlP5 | apply Frame.step State.raePoison_frame
                            | apply Frame.step State.getBytes_frame | apply Frame.ofP1 (by assumption))
    | split
    | dsimp only

theorem State.raeInput_frame {s : State} {r n : Nat} {desc : List Byte} :
    Frame 9465490056458551491837 s (State.raeInput s r n desc).2 := by
  unfold State.raeInput
  repeat' first
    | exact rfl | intro _
    | (with_reducible first | exact Frame.refl _ _ | assumption | apply Frame.iteP1 | apply Frame.ite
                            | apply Frame.step State.raeList_frame | apply Frame.step State.raeBitmap_frame
                            | apply Frame.ofP1 (by assumption))
    | split
    | dsimp only

theorem State.raeFinish_frame {s : State} {r : Nat} {exhausted : Bool} :
    Frame 9465491182358458334461 s (State.raeFinish s r exhausted) := by
  unfold State.raeFinish
  repeat' first
    | exact rfl | intro _
    | (with_reducible first | exact Frame.refl _ _ | assumption | apply Frame.ite | apply Frame.each
                            | apply Frame.step State.raeInput_frame | apply Frame.step State.raeError_frame
                            | apply Frame.step State.descResults_frame | apply Frame.step State.raeResult_frame
                            | apply Frame.step State.storeBytes_frame | apply Frame.step State.drew_frame
                            | apply Frame.ofP1 (by assumption))
    | split
    | dsimp only

theorem execRaeJobEnd_frame {r : Fin 8} {s : State} : FrameOut 9465491182358458334461 s (execRaeJobEnd r s) := by
  unfold execRaeJobEnd
  repeat' first
    | exact rfl | intro _
    | (with_reducible first | exact Frame.refl _ _ | assumption | apply FrameOut.next
                            | apply Frame.step State.raeFinish_frame)
    | split
    | dsimp only

theorem execRaeBudgetExhausted_frame {r : Fin 8} {s : State} :
    FrameOut 9465491182358458334461 s (execRaeBudgetExhausted r s) := by
  unfold execRaeBudgetExhausted
  repeat' first
    | exact rfl | intro _
    | (with_reducible first | exact Frame.refl _ _ | assumption | apply FrameOut.next
                            | apply Frame.step State.raeFinish_frame)
    | split
    | dsimp only

end Sys2Proof.Machine
end

