-- ==== Sys2Proof/Laws/FrameImage.lean ====
section
/-! SUPPORT. What each operation of Machine/Image.lean can change (Laws/Frame.lean). -/
namespace Sys2Proof.Machine

theorem State.frameWrite_frame {s : State} {no : Nat} {content : List Byte} :
    Frame 9007199254740996 s (State.frameWrite s no content) := by
  unfold State.frameWrite
  repeat' first
    | exact rfl | intro _
    | (with_reducible first | exact Frame.refl _ _ | assumption | apply Frame.step State.putBytes_frame
                            | apply Frame.step State.setUpset_frame)
    | split
    | dsimp only

theorem State.framesVoid_frame {s : State} {r : Nat} : Frame 9007199254740996 s (State.framesVoid s r) := by
  unfold State.framesVoid
  repeat' first
    | exact rfl | intro _
    | (with_reducible first | exact Frame.refl _ _ | assumption)
    | split
    | with_reducible apply Frame.step (Frame.upd_mem_upsets (by first | exact KV.risingFrom_filter _ | exact KV.risingFrom_dropRange _ _ | exact KV.wf_filter _ | exact KV.wf_dropRange _ _ | exact KV.risingFrom_put _ _ | exact KV.risingFrom_foldl _))

theorem State.settFrame_frame {s : State} {slot no : Nat} :
    Frame 9447038808748707346433 s (State.settFrame s slot no).2 := by
  unfold State.settFrame
  repeat' first
    | exact rfl | intro _
    | (with_reducible first | exact Frame.refl _ _ | assumption | apply Frame.step State.settRead_frame)
    | split
    | dsimp only

theorem State.framesFromSett_frame {s : State} {r slot : Nat} :
    Frame 9447047815947962087429 s (State.framesFromSett s r slot) := by
  unfold State.framesFromSett
  repeat' first
    | exact rfl | intro _
    | (with_reducible first | exact Frame.refl _ _ | assumption | apply Frame.ite | apply Frame.each
                            | apply Frame.step State.frameWrite_frame | apply Frame.step State.settRead_frame)
    | split
    | dsimp only

end Sys2Proof.Machine
end

