-- ==== Sys2Proof/Laws/FrameRouting.lean ====
section
/-! SUPPORT. What each operation of Machine/Routing.lean can change (Laws/Frame.lean). -/
namespace Sys2Proof.Machine

theorem State.lineEdges_frame {s : State} : Frame 8796093022208 s (State.lineEdges s) := by
  unfold State.lineEdges
  repeat' first
    | exact rfl | intro _
    | (with_reducible first | exact Frame.refl _ _ | assumption | apply Frame.ite | apply Frame.each
                            | apply Frame.step State.setLineReg_frame)
    | split
    | dsimp only

theorem execD2dCrossingFrame_frame {d : Fin 4} {e : Fin 2} {b : Fin 4} {bus : BitVec 720} {rest : BitVec 48}
    {s : State} : FrameOut 58274116272129 s (execD2dCrossingFrame d e b bus rest s) := by
  unfold execD2dCrossingFrame
  repeat' first
    | exact rfl | intro _
    | (with_reducible first | exact Frame.refl _ _ | assumption | apply FrameOut.next | apply FrameOut.ite | apply Frame.ite
                            | apply Frame.each | apply Frame.foldl | apply Frame.foldl1 | apply Frame.foldlP1
                            | apply Frame.foldlP2 | apply Frame.foldlP3 | apply Frame.foldlP4 | apply Frame.foldlP5
                            | apply Frame.step State.count_frame | apply Frame.step State.setRelayBit_frame
                            | apply Frame.step State.setCrossPipe_frame | apply Frame.step State.setCrossBus_frame
                            | apply Frame.step State.setBundle_frame)
    | split
    | dsimp only

end Sys2Proof.Machine
end

