-- ==== Sys2Proof/Laws/FrameFabric.lean ====
section
/-! SUPPORT. What each operation of Machine/Fabric.lean can change (Laws/Frame.lean). -/
namespace Sys2Proof.Machine

theorem State.fenceRefresh_frame {s : State} {r : Nat} : Frame 1 s (State.fenceRefresh s r) := by
  unfold State.fenceRefresh
  repeat' first
    | exact rfl | intro _
    | (with_reducible first | exact Frame.refl _ _ | assumption | apply Frame.step State.wrb_frame)
    | split
    | dsimp only

theorem State.setRegionState_frame {s : State} {r st : Nat} : Frame 1 s (State.setRegionState s r st) := by
  unfold State.setRegionState
  repeat' first
    | exact rfl | intro _
    | (with_reducible first | exact Frame.refl _ _ | assumption | apply Frame.step State.fenceRefresh_frame
                            | apply Frame.step State.wr_frame)
    | split
    | dsimp only

theorem State.cellStep_frame {s : State} {n op : Nat} {f : CellArgs → CellRes} :
    Frame 2251799813685248 s (State.cellStep s n op f) := by
  unfold State.cellStep
  repeat' first
    | exact rfl | intro _
    | (with_reducible first | exact Frame.refl _ _ | assumption | apply Frame.ite | apply Frame.step State.setCell_frame)
    | split
    | dsimp only

theorem execCellMov_frame {r : Fin 256} {c : Fin 8192} {s : State} :
    FrameOut 2251799813685248 s (execCellMov r c s) := by
  unfold execCellMov
  repeat' first
    | exact rfl | intro _
    | (with_reducible first | exact Frame.refl _ _ | assumption | apply FrameOut.next
                            | apply Frame.step State.cellStep_frame)
    | split
    | dsimp only

theorem execCellAdd_frame {r : Fin 256} {c : Fin 8192} {s : State} :
    FrameOut 2251799813685248 s (execCellAdd r c s) := by
  unfold execCellAdd
  repeat' first
    | exact rfl | intro _
    | (with_reducible first | exact Frame.refl _ _ | assumption | apply FrameOut.next
                            | apply Frame.step State.cellStep_frame)
    | split
    | dsimp only

theorem execCellSub_frame {r : Fin 256} {c : Fin 8192} {s : State} :
    FrameOut 2251799813685248 s (execCellSub r c s) := by
  unfold execCellSub
  repeat' first
    | exact rfl | intro _
    | (with_reducible first | exact Frame.refl _ _ | assumption | apply FrameOut.next
                            | apply Frame.step State.cellStep_frame)
    | split
    | dsimp only

theorem execCellRsb_frame {r : Fin 256} {c : Fin 8192} {s : State} :
    FrameOut 2251799813685248 s (execCellRsb r c s) := by
  unfold execCellRsb
  repeat' first
    | exact rfl | intro _
    | (with_reducible first | exact Frame.refl _ _ | assumption | apply FrameOut.next
                            | apply Frame.step State.cellStep_frame)
    | split
    | dsimp only

theorem execCellAddus_frame {r : Fin 256} {c : Fin 8192} {s : State} :
    FrameOut 2251799813685248 s (execCellAddus r c s) := by
  unfold execCellAddus
  repeat' first
    | exact rfl | intro _
    | (with_reducible first | exact Frame.refl _ _ | assumption | apply FrameOut.next
                            | apply Frame.step State.cellStep_frame)
    | split
    | dsimp only

theorem execCellSubus_frame {r : Fin 256} {c : Fin 8192} {s : State} :
    FrameOut 2251799813685248 s (execCellSubus r c s) := by
  unfold execCellSubus
  repeat' first
    | exact rfl | intro _
    | (with_reducible first | exact Frame.refl _ _ | assumption | apply FrameOut.next
                            | apply Frame.step State.cellStep_frame)
    | split
    | dsimp only

theorem execCellNeg_frame {r : Fin 256} {c : Fin 8192} {s : State} :
    FrameOut 2251799813685248 s (execCellNeg r c s) := by
  unfold execCellNeg
  repeat' first
    | exact rfl | intro _
    | (with_reducible first | exact Frame.refl _ _ | assumption | apply FrameOut.next
                            | apply Frame.step State.cellStep_frame)
    | split
    | dsimp only

theorem execCellAbsd_frame {r : Fin 256} {c : Fin 8192} {s : State} :
    FrameOut 2251799813685248 s (execCellAbsd r c s) := by
  unfold execCellAbsd
  repeat' first
    | exact rfl | intro _
    | (with_reducible first | exact Frame.refl _ _ | assumption | apply FrameOut.next
                            | apply Frame.step State.cellStep_frame)
    | split
    | dsimp only

theorem execCellMinu_frame {r : Fin 256} {c : Fin 8192} {s : State} :
    FrameOut 2251799813685248 s (execCellMinu r c s) := by
  unfold execCellMinu
  repeat' first
    | exact rfl | intro _
    | (with_reducible first | exact Frame.refl _ _ | assumption | apply FrameOut.next
                            | apply Frame.step State.cellStep_frame)
    | split
    | dsimp only

theorem execCellMaxu_frame {r : Fin 256} {c : Fin 8192} {s : State} :
    FrameOut 2251799813685248 s (execCellMaxu r c s) := by
  unfold execCellMaxu
  repeat' first
    | exact rfl | intro _
    | (with_reducible first | exact Frame.refl _ _ | assumption | apply FrameOut.next
                            | apply Frame.step State.cellStep_frame)
    | split
    | dsimp only

theorem execCellMins_frame {r : Fin 256} {c : Fin 8192} {s : State} :
    FrameOut 2251799813685248 s (execCellMins r c s) := by
  unfold execCellMins
  repeat' first
    | exact rfl | intro _
    | (with_reducible first | exact Frame.refl _ _ | assumption | apply FrameOut.next
                            | apply Frame.step State.cellStep_frame)
    | split
    | dsimp only

theorem execCellMaxs_frame {r : Fin 256} {c : Fin 8192} {s : State} :
    FrameOut 2251799813685248 s (execCellMaxs r c s) := by
  unfold execCellMaxs
  repeat' first
    | exact rfl | intro _
    | (with_reducible first | exact Frame.refl _ _ | assumption | apply FrameOut.next
                            | apply Frame.step State.cellStep_frame)
    | split
    | dsimp only

theorem execCellCmp_frame {r : Fin 256} {c : Fin 8192} {s : State} :
    FrameOut 2251799813685248 s (execCellCmp r c s) := by
  unfold execCellCmp
  repeat' first
    | exact rfl | intro _
    | (with_reducible first | exact Frame.refl _ _ | assumption | apply FrameOut.next
                            | apply Frame.step State.cellStep_frame)
    | split
    | dsimp only

theorem execCellTst_frame {r : Fin 256} {c : Fin 8192} {s : State} :
    FrameOut 2251799813685248 s (execCellTst r c s) := by
  unfold execCellTst
  repeat' first
    | exact rfl | intro _
    | (with_reducible first | exact Frame.refl _ _ | assumption | apply FrameOut.next
                            | apply Frame.step State.cellStep_frame)
    | split
    | dsimp only

theorem execCellIncw_frame {r : Fin 256} {c : Fin 8192} {s : State} :
    FrameOut 2251799813685248 s (execCellIncw r c s) := by
  unfold execCellIncw
  repeat' first
    | exact rfl | intro _
    | (with_reducible first | exact Frame.refl _ _ | assumption | apply FrameOut.next
                            | apply Frame.step State.cellStep_frame)
    | split
    | dsimp only

theorem execCellDecw_frame {r : Fin 256} {c : Fin 8192} {s : State} :
    FrameOut 2251799813685248 s (execCellDecw r c s) := by
  unfold execCellDecw
  repeat' first
    | exact rfl | intro _
    | (with_reducible first | exact Frame.refl _ _ | assumption | apply FrameOut.next
                            | apply Frame.step State.cellStep_frame)
    | split
    | dsimp only

theorem execCellAnd_frame {r : Fin 256} {c : Fin 8192} {s : State} :
    FrameOut 2251799813685248 s (execCellAnd r c s) := by
  unfold execCellAnd
  repeat' first
    | exact rfl | intro _
    | (with_reducible first | exact Frame.refl _ _ | assumption | apply FrameOut.next
                            | apply Frame.step State.cellStep_frame)
    | split
    | dsimp only

theorem execCellOr_frame {r : Fin 256} {c : Fin 8192} {s : State} : FrameOut 2251799813685248 s (execCellOr r c s) := by
  unfold execCellOr
  repeat' first
    | exact rfl | intro _
    | (with_reducible first | exact Frame.refl _ _ | assumption | apply FrameOut.next
                            | apply Frame.step State.cellStep_frame)
    | split
    | dsimp only

theorem execCellXor_frame {r : Fin 256} {c : Fin 8192} {s : State} :
    FrameOut 2251799813685248 s (execCellXor r c s) := by
  unfold execCellXor
  repeat' first
    | exact rfl | intro _
    | (with_reducible first | exact Frame.refl _ _ | assumption | apply FrameOut.next
                            | apply Frame.step State.cellStep_frame)
    | split
    | dsimp only

theorem execCellAndn_frame {r : Fin 256} {c : Fin 8192} {s : State} :
    FrameOut 2251799813685248 s (execCellAndn r c s) := by
  unfold execCellAndn
  repeat' first
    | exact rfl | intro _
    | (with_reducible first | exact Frame.refl _ _ | assumption | apply FrameOut.next
                            | apply Frame.step State.cellStep_frame)
    | split
    | dsimp only

theorem execCellOrn_frame {r : Fin 256} {c : Fin 8192} {s : State} :
    FrameOut 2251799813685248 s (execCellOrn r c s) := by
  unfold execCellOrn
  repeat' first
    | exact rfl | intro _
    | (with_reducible first | exact Frame.refl _ _ | assumption | apply FrameOut.next
                            | apply Frame.step State.cellStep_frame)
    | split
    | dsimp only

theorem execCellXnor_frame {r : Fin 256} {c : Fin 8192} {s : State} :
    FrameOut 2251799813685248 s (execCellXnor r c s) := by
  unfold execCellXnor
  repeat' first
    | exact rfl | intro _
    | (with_reducible first | exact Frame.refl _ _ | assumption | apply FrameOut.next
                            | apply Frame.step State.cellStep_frame)
    | split
    | dsimp only

theorem execCellNot_frame {r : Fin 256} {c : Fin 8192} {s : State} :
    FrameOut 2251799813685248 s (execCellNot r c s) := by
  unfold execCellNot
  repeat' first
    | exact rfl | intro _
    | (with_reducible first | exact Frame.refl _ _ | assumption | apply FrameOut.next
                            | apply Frame.step State.cellStep_frame)
    | split
    | dsimp only

theorem execCellBitf_frame {r : Fin 256} {c : Fin 8192} {s : State} :
    FrameOut 2251799813685248 s (execCellBitf r c s) := by
  unfold execCellBitf
  repeat' first
    | exact rfl | intro _
    | (with_reducible first | exact Frame.refl _ _ | assumption | apply FrameOut.next
                            | apply Frame.step State.cellStep_frame)
    | split
    | dsimp only

theorem execCellSelc_frame {r : Fin 256} {c : Fin 8192} {s : State} :
    FrameOut 2251799813685248 s (execCellSelc r c s) := by
  unfold execCellSelc
  repeat' first
    | exact rfl | intro _
    | (with_reducible first | exact Frame.refl _ _ | assumption | apply FrameOut.next
                            | apply Frame.step State.cellStep_frame)
    | split
    | dsimp only

theorem execCellSelz_frame {r : Fin 256} {c : Fin 8192} {s : State} :
    FrameOut 2251799813685248 s (execCellSelz r c s) := by
  unfold execCellSelz
  repeat' first
    | exact rfl | intro _
    | (with_reducible first | exact Frame.refl _ _ | assumption | apply FrameOut.next
                            | apply Frame.step State.cellStep_frame)
    | split
    | dsimp only

theorem execCellSeln_frame {r : Fin 256} {c : Fin 8192} {s : State} :
    FrameOut 2251799813685248 s (execCellSeln r c s) := by
  unfold execCellSeln
  repeat' first
    | exact rfl | intro _
    | (with_reducible first | exact Frame.refl _ _ | assumption | apply FrameOut.next
                            | apply Frame.step State.cellStep_frame)
    | split
    | dsimp only

theorem execCellMuxb_frame {r : Fin 256} {c : Fin 8192} {s : State} :
    FrameOut 2251799813685248 s (execCellMuxb r c s) := by
  unfold execCellMuxb
  repeat' first
    | exact rfl | intro _
    | (with_reducible first | exact Frame.refl _ _ | assumption | apply FrameOut.next
                            | apply Frame.step State.cellStep_frame)
    | split
    | dsimp only

theorem execCellShl_frame {r : Fin 256} {c : Fin 8192} {s : State} :
    FrameOut 2251799813685248 s (execCellShl r c s) := by
  unfold execCellShl
  repeat' first
    | exact rfl | intro _
    | (with_reducible first | exact Frame.refl _ _ | assumption | apply FrameOut.next
                            | apply Frame.step State.cellStep_frame)
    | split
    | dsimp only

theorem execCellShr_frame {r : Fin 256} {c : Fin 8192} {s : State} :
    FrameOut 2251799813685248 s (execCellShr r c s) := by
  unfold execCellShr
  repeat' first
    | exact rfl | intro _
    | (with_reducible first | exact Frame.refl _ _ | assumption | apply FrameOut.next
                            | apply Frame.step State.cellStep_frame)
    | split
    | dsimp only

theorem execCellSar_frame {r : Fin 256} {c : Fin 8192} {s : State} :
    FrameOut 2251799813685248 s (execCellSar r c s) := by
  unfold execCellSar
  repeat' first
    | exact rfl | intro _
    | (with_reducible first | exact Frame.refl _ _ | assumption | apply FrameOut.next
                            | apply Frame.step State.cellStep_frame)
    | split
    | dsimp only

theorem execCellRol_frame {r : Fin 256} {c : Fin 8192} {s : State} :
    FrameOut 2251799813685248 s (execCellRol r c s) := by
  unfold execCellRol
  repeat' first
    | exact rfl | intro _
    | (with_reducible first | exact Frame.refl _ _ | assumption | apply FrameOut.next
                            | apply Frame.step State.cellStep_frame)
    | split
    | dsimp only

theorem execCellRor_frame {r : Fin 256} {c : Fin 8192} {s : State} :
    FrameOut 2251799813685248 s (execCellRor r c s) := by
  unfold execCellRor
  repeat' first
    | exact rfl | intro _
    | (with_reducible first | exact Frame.refl _ _ | assumption | apply FrameOut.next
                            | apply Frame.step State.cellStep_frame)
    | split
    | dsimp only

theorem execCellShlc_frame {r : Fin 256} {c : Fin 8192} {s : State} :
    FrameOut 2251799813685248 s (execCellShlc r c s) := by
  unfold execCellShlc
  repeat' first
    | exact rfl | intro _
    | (with_reducible first | exact Frame.refl _ _ | assumption | apply FrameOut.next
                            | apply Frame.step State.cellStep_frame)
    | split
    | dsimp only

theorem execCellShrc_frame {r : Fin 256} {c : Fin 8192} {s : State} :
    FrameOut 2251799813685248 s (execCellShrc r c s) := by
  unfold execCellShrc
  repeat' first
    | exact rfl | intro _
    | (with_reducible first | exact Frame.refl _ _ | assumption | apply FrameOut.next
                            | apply Frame.step State.cellStep_frame)
    | split
    | dsimp only

theorem execCellRev_frame {r : Fin 256} {c : Fin 8192} {s : State} :
    FrameOut 2251799813685248 s (execCellRev r c s) := by
  unfold execCellRev
  repeat' first
    | exact rfl | intro _
    | (with_reducible first | exact Frame.refl _ _ | assumption | apply FrameOut.next
                            | apply Frame.step State.cellStep_frame)
    | split
    | dsimp only

theorem execCellSwap_frame {r : Fin 256} {c : Fin 8192} {s : State} :
    FrameOut 2251799813685248 s (execCellSwap r c s) := by
  unfold execCellSwap
  repeat' first
    | exact rfl | intro _
    | (with_reducible first | exact Frame.refl _ _ | assumption | apply FrameOut.next
                            | apply Frame.step State.cellStep_frame)
    | split
    | dsimp only

theorem execCellFshl_frame {r : Fin 256} {c : Fin 8192} {s : State} :
    FrameOut 2251799813685248 s (execCellFshl r c s) := by
  unfold execCellFshl
  repeat' first
    | exact rfl | intro _
    | (with_reducible first | exact Frame.refl _ _ | assumption | apply FrameOut.next
                            | apply Frame.step State.cellStep_frame)
    | split
    | dsimp only

theorem execCellClz_frame {r : Fin 256} {c : Fin 8192} {s : State} :
    FrameOut 2251799813685248 s (execCellClz r c s) := by
  unfold execCellClz
  repeat' first
    | exact rfl | intro _
    | (with_reducible first | exact Frame.refl _ _ | assumption | apply FrameOut.next
                            | apply Frame.step State.cellStep_frame)
    | split
    | dsimp only

theorem execCellCtz_frame {r : Fin 256} {c : Fin 8192} {s : State} :
    FrameOut 2251799813685248 s (execCellCtz r c s) := by
  unfold execCellCtz
  repeat' first
    | exact rfl | intro _
    | (with_reducible first | exact Frame.refl _ _ | assumption | apply FrameOut.next
                            | apply Frame.step State.cellStep_frame)
    | split
    | dsimp only

theorem execCellPopc_frame {r : Fin 256} {c : Fin 8192} {s : State} :
    FrameOut 2251799813685248 s (execCellPopc r c s) := by
  unfold execCellPopc
  repeat' first
    | exact rfl | intro _
    | (with_reducible first | exact Frame.refl _ _ | assumption | apply FrameOut.next
                            | apply Frame.step State.cellStep_frame)
    | split
    | dsimp only

theorem execCellPmsk_frame {r : Fin 256} {c : Fin 8192} {s : State} :
    FrameOut 2251799813685248 s (execCellPmsk r c s) := by
  unfold execCellPmsk
  repeat' first
    | exact rfl | intro _
    | (with_reducible first | exact Frame.refl _ _ | assumption | apply FrameOut.next
                            | apply Frame.step State.cellStep_frame)
    | split
    | dsimp only

theorem execCellXscr_frame {r : Fin 256} {c : Fin 8192} {s : State} :
    FrameOut 2251799813685248 s (execCellXscr r c s) := by
  unfold execCellXscr
  repeat' first
    | exact rfl | intro _
    | (with_reducible first | exact Frame.refl _ _ | assumption | apply FrameOut.next
                            | apply Frame.step State.cellStep_frame)
    | split
    | dsimp only

theorem execCellLfsr_frame {r : Fin 256} {c : Fin 8192} {s : State} :
    FrameOut 2251799813685248 s (execCellLfsr r c s) := by
  unfold execCellLfsr
  repeat' first
    | exact rfl | intro _
    | (with_reducible first | exact Frame.refl _ _ | assumption | apply FrameOut.next
                            | apply Frame.step State.cellStep_frame)
    | split
    | dsimp only

theorem execCellGray_frame {r : Fin 256} {c : Fin 8192} {s : State} :
    FrameOut 2251799813685248 s (execCellGray r c s) := by
  unfold execCellGray
  repeat' first
    | exact rfl | intro _
    | (with_reducible first | exact Frame.refl _ _ | assumption | apply FrameOut.next
                            | apply Frame.step State.cellStep_frame)
    | split
    | dsimp only

theorem execCellUgray_frame {r : Fin 256} {c : Fin 8192} {s : State} :
    FrameOut 2251799813685248 s (execCellUgray r c s) := by
  unfold execCellUgray
  repeat' first
    | exact rfl | intro _
    | (with_reducible first | exact Frame.refl _ _ | assumption | apply FrameOut.next
                            | apply Frame.step State.cellStep_frame)
    | split
    | dsimp only

theorem execCellGstep_frame {r : Fin 256} {c : Fin 8192} {s : State} :
    FrameOut 2251799813685248 s (execCellGstep r c s) := by
  unfold execCellGstep
  repeat' first
    | exact rfl | intro _
    | (with_reducible first | exact Frame.refl _ _ | assumption | apply FrameOut.next
                            | apply Frame.step State.cellStep_frame)
    | split
    | dsimp only

theorem execCellEq_frame {r : Fin 256} {c : Fin 8192} {s : State} : FrameOut 2251799813685248 s (execCellEq r c s) := by
  unfold execCellEq
  repeat' first
    | exact rfl | intro _
    | (with_reducible first | exact Frame.refl _ _ | assumption | apply FrameOut.next
                            | apply Frame.step State.cellStep_frame)
    | split
    | dsimp only

theorem execCellLtu_frame {r : Fin 256} {c : Fin 8192} {s : State} :
    FrameOut 2251799813685248 s (execCellLtu r c s) := by
  unfold execCellLtu
  repeat' first
    | exact rfl | intro _
    | (with_reducible first | exact Frame.refl _ _ | assumption | apply FrameOut.next
                            | apply Frame.step State.cellStep_frame)
    | split
    | dsimp only

theorem execCellLts_frame {r : Fin 256} {c : Fin 8192} {s : State} :
    FrameOut 2251799813685248 s (execCellLts r c s) := by
  unfold execCellLts
  repeat' first
    | exact rfl | intro _
    | (with_reducible first | exact Frame.refl _ _ | assumption | apply FrameOut.next
                            | apply Frame.step State.cellStep_frame)
    | split
    | dsimp only

theorem execCellBset_frame {r : Fin 256} {c : Fin 8192} {s : State} :
    FrameOut 2251799813685248 s (execCellBset r c s) := by
  unfold execCellBset
  repeat' first
    | exact rfl | intro _
    | (with_reducible first | exact Frame.refl _ _ | assumption | apply FrameOut.next
                            | apply Frame.step State.cellStep_frame)
    | split
    | dsimp only

theorem execCellBclr_frame {r : Fin 256} {c : Fin 8192} {s : State} :
    FrameOut 2251799813685248 s (execCellBclr r c s) := by
  unfold execCellBclr
  repeat' first
    | exact rfl | intro _
    | (with_reducible first | exact Frame.refl _ _ | assumption | apply FrameOut.next
                            | apply Frame.step State.cellStep_frame)
    | split
    | dsimp only

theorem execCellBtst_frame {r : Fin 256} {c : Fin 8192} {s : State} :
    FrameOut 2251799813685248 s (execCellBtst r c s) := by
  unfold execCellBtst
  repeat' first
    | exact rfl | intro _
    | (with_reducible first | exact Frame.refl _ _ | assumption | apply FrameOut.next
                            | apply Frame.step State.cellStep_frame)
    | split
    | dsimp only

theorem execCellIllegalSlot_frame {r : Fin 256} {c : Fin 8192} {w : Word} {s : State} :
    FrameOut 11258999068426240 s (execCellIllegalSlot r c w s) := by
  unfold execCellIllegalSlot
  repeat' first
    | exact rfl | intro _
    | (with_reducible first | exact Frame.refl _ _ | assumption | apply FrameOut.next | apply FrameOut.ite | apply Frame.ite
                            | apply Frame.step State.setUpset_frame | apply Frame.step State.setCell_frame)
    | split
    | dsimp only

theorem State.applyInitial_frame {s : State} {r : Nat} : Frame 2251799813685248 s (State.applyInitial s r) := by
  unfold State.applyInitial
  repeat' first
    | exact rfl | intro _
    | (with_reducible first | exact Frame.refl _ _ | assumption | apply Frame.each | apply Frame.step State.setCell_frame)
    | split
    | dsimp only

theorem State.cellsVoid_frame {s : State} {r : Nat} : Frame 2251799813685248 s (State.cellsVoid s r) := by
  unfold State.cellsVoid
  repeat' first
    | exact rfl | intro _
    | (with_reducible first | exact Frame.refl _ _ | assumption)
    | split
    | with_reducible apply Frame.step Frame.upd_cells

theorem State.portsSet_frame {s : State} {r : Nat} : Frame 17179869184 s (State.portsSet s r) := by
  unfold State.portsSet
  repeat' first
    | exact rfl | intro _
    | (with_reducible first | exact Frame.refl _ _ | assumption | apply Frame.each
                            | apply Frame.step State.setStorePort_frame)
    | split
    | dsimp only

theorem State.portsVoid_frame {s : State} {r : Nat} : Frame 4503616807239680 s (State.portsVoid s r) := by
  unfold State.portsVoid
  repeat' first
    | exact rfl | intro _
    | (with_reducible first | exact Frame.refl _ _ | assumption | apply Frame.step State.setRegion_frame)
    | split
    | with_reducible apply Frame.step Frame.upd_storePorts

theorem State.nocPortSet_frame {s : State} {r : Nat} : Frame 4503599627370496 s (State.nocPortSet s r) := by
  unfold State.nocPortSet
  repeat' first
    | exact rfl | intro _
    | (with_reducible first | exact Frame.refl _ _ | assumption | apply Frame.step State.setRegion_frame)
    | split
    | dsimp only

theorem State.clocksSet_frame {s : State} {r : Nat} : Frame 1 s (State.clocksSet s r) := by
  unfold State.clocksSet
  repeat' first
    | exact rfl | intro _
    | (with_reducible first | exact Frame.refl _ _ | assumption | apply Frame.step State.wr_frame)
    | split
    | dsimp only

theorem State.regionRelease_frame {s : State} {r : Nat} : Frame 6755416620924929 s (State.regionRelease s r) := by
  unfold State.regionRelease
  repeat' first
    | exact rfl | intro _
    | (with_reducible first | exact Frame.refl _ _ | assumption | apply Frame.step State.clocksSet_frame
                            | apply Frame.step State.nocPortSet_frame | apply Frame.step State.portsSet_frame
                            | apply Frame.step State.applyInitial_frame | apply Frame.step State.setRegionState_frame)
    | split
    | dsimp only

theorem State.regionEmpty_frame {s : State} {r : Nat} : Frame 15762615875665925 s (State.regionEmpty s r) := by
  unfold State.regionEmpty
  repeat' first
    | exact rfl | intro _
    | (with_reducible first | exact Frame.refl _ _ | assumption | apply Frame.step State.portsVoid_frame
                            | apply Frame.step State.cellsVoid_frame | apply Frame.step State.setRegionState_frame
                            | apply Frame.step State.framesVoid_frame)
    | split
    | dsimp only

theorem State.setCopy_frame {s : State} {r : Nat} {slot : Option Nat} :
    Frame 4503599627370497 s (State.setCopy s r slot) := by
  unfold State.setCopy
  repeat' first
    | exact rfl | intro _
    | (with_reducible first | exact Frame.refl _ _ | assumption | apply Frame.ite | apply Frame.step State.wrBit_frame
                            | apply Frame.step State.setRegion_frame)
    | split
    | dsimp only

theorem State.portWrite_frame {s : State} {a : PortAcc} : Frame 9463179709813203204125 s (State.portWrite s a) := by
  unfold State.portWrite
  repeat' first
    | exact rfl | intro _
    | (with_reducible first | exact Frame.refl _ _ | assumption | apply Frame.step State.writeWord_frame)
    | split
    | dsimp only

theorem State.portCount_frame {s : State} {a : PortAcc} : Frame 9444732965739493652481 s (State.portCount s a) := by
  unfold State.portCount
  repeat' first
    | exact rfl | intro _
    | (with_reducible first | exact Frame.refl _ _ | assumption | apply Frame.step State.readWord_frame)
    | split
    | dsimp only

theorem State.portPair_frame {s : State} {one : Bool} {a b : PortAcc} :
    Frame 9463179709813203205149 s (State.portPair s one a b).2 := by
  unfold State.portPair
  repeat' first
    | exact rfl | intro _
    | (with_reducible first | exact Frame.refl _ _ | assumption | apply Frame.iteP1 | apply Frame.ite
                            | apply Frame.step State.portCount_frame | apply Frame.step State.portWrite_frame
                            | apply Frame.step State.writeWord_frame | apply Frame.step State.drew_frame)
    | split
    | dsimp only

theorem execStorePortAccess_frame {r : Fin 256} {m : Fin 32} {a b : Option PortIn} {s : State} :
    FrameOut 9463179709830383074333 s (execStorePortAccess r m a b s) := by
  unfold execStorePortAccess
  repeat' first
    | exact rfl | intro _
    | (with_reducible first | exact Frame.refl _ _ | assumption | apply FrameOut.next | apply FrameOut.ite | apply Frame.ite
                            | apply Frame.step State.portPair_frame | apply Frame.step State.raise_frame
                            | apply Frame.step State.setStorePort_frame | apply Frame.ofP1 (by assumption))
    | split
    | dsimp only

theorem execStoreServiceAccess_frame {id : Nat} {s : State} :
    FrameOut 9463179709815350687773 s (execStoreServiceAccess id s) := by
  unfold execStoreServiceAccess
  repeat' first
    | exact rfl | intro _
    | (with_reducible first | exact Frame.refl _ _ | assumption | apply FrameOut.next | apply FrameOut.ite | apply Frame.ite
                            | apply Frame.step State.chipOp_frame | apply Frame.step State.answer_frame
                            | apply Frame.ofP1 (by assumption))
    | split
    | dsimp only

theorem State.frFence_frame {s : State} {r : Nat} {v : Bool} : Frame 1 s (State.frFence s r v) := by
  unfold State.frFence
  repeat' first
    | exact rfl | intro _
    | (with_reducible first | exact Frame.refl _ _ | assumption | apply Frame.step State.fenceRefresh_frame
                            | apply Frame.step State.wrb_frame)
    | split
    | dsimp only

theorem execFrFence_frame {r : Fin 256} {v : Bool} {s : State} : FrameOut 1 s (execFrFence r v s) := by
  unfold execFrFence
  repeat' first
    | exact rfl | intro _
    | (with_reducible first | exact Frame.refl _ _ | assumption | apply FrameOut.next | apply Frame.step State.frFence_frame
                            | apply State.atBlock_frame)
    | split
    | dsimp only

theorem State.frReset_frame {s : State} {r : Nat} : Frame 6755399441055745 s (State.frReset s r) := by
  unfold State.frReset
  repeat' first
    | exact rfl | intro _
    | (with_reducible first | exact Frame.refl _ _ | assumption | apply Frame.ite
                            | apply Frame.step State.applyInitial_frame | apply Frame.step State.fenceRefresh_frame
                            | apply Frame.step State.wr_frame | apply Frame.step State.setRegion_frame)
    | split
    | dsimp only

theorem execFrRreset_frame {r : Fin 256} {s : State} : FrameOut 6755399441055745 s (execFrRreset r s) := by
  unfold execFrRreset
  repeat' first
    | exact rfl | intro _
    | (with_reducible first | exact Frame.refl _ _ | assumption | apply FrameOut.next | apply Frame.step State.frReset_frame
                            | apply State.atBlock_frame)
    | split
    | dsimp only

theorem execRresetEnd_frame {r : Fin 256} {s : State} : FrameOut 4503599627370497 s (execRresetEnd r s) := by
  unfold execRresetEnd
  repeat' first
    | exact rfl | intro _
    | (with_reducible first | exact Frame.refl _ _ | assumption | apply FrameOut.next | apply FrameOut.ite | apply Frame.ite
                            | apply Frame.step State.fenceRefresh_frame | apply Frame.step State.setRegion_frame)
    | split
    | dsimp only

theorem State.relocResult_frame {s : State} {r status : Nat} :
    Frame 9444732965739493652481 s (State.relocResult s r status) := by
  unfold State.relocResult
  repeat' first
    | exact rfl | intro _
    | (with_reducible first | exact Frame.refl _ _ | assumption | apply Frame.ite | apply Frame.step State.raise_frame
                            | apply Frame.step State.wr_frame)
    | split
    | dsimp only

theorem State.chkAbandon_frame {s : State} {r : Nat} : Frame 36028797018963968 s (State.chkAbandon s r) := by
  unfold State.chkAbandon
  repeat' first
    | exact rfl | intro _
    | (with_reducible first | exact Frame.refl _ _ | assumption | apply Frame.ite | apply Frame.step State.setChk_frame)
    | split
    | dsimp only

theorem State.frReloc_frame {s : State} {r col : Nat} : Frame 9444775749935953672193 s (State.frReloc s r col) := by
  unfold State.frReloc
  repeat' first
    | exact rfl | intro _
    | (with_reducible first | exact Frame.refl _ _ | assumption | apply Frame.ite | apply Frame.step State.chkAbandon_frame
                            | apply Frame.step State.relocResult_frame | apply Frame.step State.cellsVoid_frame
                            | apply Frame.step State.setRegionState_frame | apply Frame.step State.seqUp_frame
                            | apply Frame.step State.wr_frame | apply Frame.step State.setRegion_frame)
    | split
    | dsimp only

theorem execFrReloc_frame {r : Fin 256} {col : Fin 32} {s : State} :
    FrameOut 9444775749935953672193 s (execFrReloc r col s) := by
  unfold execFrReloc
  repeat' first
    | exact rfl | intro _
    | (with_reducible first | exact Frame.refl _ _ | assumption | apply FrameOut.next | apply Frame.step State.frReloc_frame
                            | apply State.atBlock_frame)
    | split
    | dsimp only

theorem execRelocSelftestDone_frame {r : Fin 256} {pass : Bool} {s : State} :
    FrameOut 9444748728355369318405 s (execRelocSelftestDone r pass s) := by
  unfold execRelocSelftestDone
  repeat' first
    | exact rfl | intro _
    | (with_reducible first | exact Frame.refl _ _ | assumption | apply FrameOut.next | apply FrameOut.ite | apply Frame.ite
                            | apply Frame.step State.relocResult_frame | apply Frame.step State.setCopy_frame
                            | apply Frame.step State.regionEmpty_frame | apply Frame.step State.wr_frame
                            | apply Frame.step State.setRegion_frame)
    | split
    | dsimp only

theorem execRelocDone_frame {r : Fin 256} {s : State} : FrameOut 9447054571364583012357 s (execRelocDone r s) := by
  unfold execRelocDone
  repeat' first
    | exact rfl | intro _
    | (with_reducible first | exact Frame.refl _ _ | assumption | apply FrameOut.next | apply FrameOut.ite | apply Frame.ite
                            | apply Frame.step State.relocResult_frame | apply Frame.step State.setCopy_frame
                            | apply Frame.step State.regionEmpty_frame | apply Frame.step State.regionRelease_frame
                            | apply Frame.step State.framesFromSett_frame | apply Frame.step State.setRegion_frame)
    | split
    | dsimp only

theorem State.frRack_frame {s : State} {r : Nat} : Frame 1 s (State.frRack s r) := by
  unfold State.frRack
  repeat' first
    | exact rfl | intro _
    | (with_reducible first | exact Frame.refl _ _ | assumption | apply Frame.ite | apply Frame.step State.wr_frame)
    | split
    | dsimp only

theorem execFrRack_frame {r : Fin 256} {s : State} : FrameOut 1 s (execFrRack r s) := by
  unfold execFrRack
  repeat' first
    | exact rfl | intro _
    | (with_reducible first | exact Frame.refl _ _ | assumption | apply FrameOut.next | apply Frame.step State.frRack_frame
                            | apply State.atBlock_frame)
    | split
    | dsimp only

end Sys2Proof.Machine
end

