-- ==== Sys2Proof/Laws/FrameCfe.lean ====
section
/-! SUPPORT. What each operation of Machine/Cfe.lean can change (Laws/Frame.lean). -/
namespace Sys2Proof.Machine

theorem State.setSlot_frame {s : State} {d kind k v : Nat} : Frame 1 s (State.setSlot s d kind k v) := by
  unfold State.setSlot
  repeat' first
    | exact rfl | intro _
    | (with_reducible first | exact Frame.refl _ _ | assumption | apply Frame.step State.wr_frame)
    | split
    | dsimp only

theorem State.cfeFail_frame {s : State} {r : Nat} : Frame 15762615875665925 s (State.cfeFail s r) := by
  unfold State.cfeFail
  repeat' first
    | exact rfl | intro _
    | (with_reducible first | exact Frame.refl _ _ | assumption | apply Frame.ite | apply Frame.step State.setCopy_frame
                            | apply Frame.step State.regionEmpty_frame | apply Frame.step State.wrBit_frame)
    | split
    | dsimp only

theorem State.cfeFailAll_frame {s : State} {d : Nat} : Frame 15762615875665925 s (State.cfeFailAll s d) := by
  unfold State.cfeFailAll
  repeat' first
    | exact rfl | intro _
    | (with_reducible first | exact Frame.refl _ _ | assumption | apply Frame.each | apply Frame.step State.cfeFail_frame)
    | split
    | dsimp only

theorem State.cfeEnd_frame {s : State} {d status : Nat} : Frame 9444823037732041062401 s (State.cfeEnd s d status) := by
  unfold State.cfeEnd
  repeat' first
    | exact rfl | intro _
    | (with_reducible first | exact Frame.refl _ _ | assumption | apply Frame.ite | apply Frame.each
                            | apply Frame.step State.raise_frame | apply Frame.step State.setReady_frame
                            | apply Frame.step State.wr_frame | apply Frame.step State.setBoot_frame
                            | apply Frame.step State.setCfe_frame)
    | split
    | dsimp only

theorem State.cfePull_frame {s : State} {d n : Nat} {flash : List Byte} :
    Frame 9465508070857060973821 s (State.cfePull s d n flash).2 := by
  unfold State.cfePull
  repeat' first
    | exact rfl | intro _
    | (with_reducible first | exact Frame.refl _ _ | assumption | apply Frame.iteP1 | apply Frame.ite
                            | apply Frame.step State.getBytes_frame | apply Frame.step State.settRead_frame
                            | apply Frame.step State.setCfe_frame | apply Frame.ofP1 (by assumption))
    | split
    | dsimp only

theorem State.napClear_frame {s : State} {r : Nat} : Frame 1 s (State.napClear s r) := by
  unfold State.napClear
  repeat' first
    | exact rfl | intro _
    | (with_reducible first | exact Frame.refl _ _ | assumption | apply Frame.ite | apply Frame.step State.wrBit_frame)
    | split
    | dsimp only

theorem State.cfeClear_frame {s : State} {d : Nat} : Frame 1 s (State.cfeClear s d) := by
  unfold State.cfeClear
  repeat' first
    | exact rfl | intro _
    | (with_reducible first | exact Frame.refl _ _ | assumption | apply Frame.step State.wr_frame)
    | split
    | dsimp only

theorem State.cfeHeader_frame {s : State} {d : Nat} {flash : List Byte} :
    Frame 9465627416264366161149 s (State.cfeHeader s d flash) := by
  unfold State.cfeHeader
  repeat' first
    | exact rfl | intro _
    | (with_reducible first | exact Frame.refl _ _ | assumption | apply Frame.ite | apply Frame.each | apply FrameO.getD
                            | apply Frame.step State.cfeClear_frame | apply Frame.step State.napClear_frame
                            | apply Frame.step State.cfePull_frame | apply Frame.step State.cfeEnd_frame
                            | apply Frame.step State.chkAbandon_frame | apply Frame.step State.setCopy_frame
                            | apply Frame.step State.portsVoid_frame | apply Frame.step State.cellsVoid_frame
                            | apply Frame.step State.setRegionState_frame | apply Frame.step State.framesVoid_frame
                            | apply Frame.step State.wr_frame | apply Frame.step State.setCfe_frame
                            | apply Frame.ofP1 (by assumption))
    | split
    | dsimp only

theorem State.cfeBegin_frame {s : State} {d src addr len : Nat} {boot : Bool} {flash : List Byte} {port : optParam
    (Option Nat) none} : Frame 9465627416264366161149 s (State.cfeBegin s d src addr len boot flash port) := by
  unfold State.cfeBegin
  repeat' first
    | exact rfl | intro _
    | (with_reducible first | exact Frame.refl _ _ | assumption | apply Frame.ite | apply Frame.step State.cfeHeader_frame
                            | apply Frame.step State.cfeClear_frame | apply Frame.step State.seqUp_frame
                            | apply Frame.step State.wrb_frame | apply Frame.step State.wr_frame
                            | apply Frame.step State.setCfe_frame)
    | split
    | dsimp only

theorem State.cfeHold_frame {s : State} {d : Nat} {h : CfeHeld} : Frame 18014398509481984 s (State.cfeHold s d h) := by
  unfold State.cfeHold
  repeat' first
    | exact rfl | intro _
    | (with_reducible first | exact Frame.refl _ _ | assumption | apply Frame.step State.setCfe_frame)
    | split
    | dsimp only

theorem State.cfeStart_frame {s : State} {d : Nat} {flash : List Byte} :
    Frame 9465627416264366161149 s (State.cfeStart s d flash) := by
  unfold State.cfeStart
  repeat' first
    | exact rfl | intro _
    | (with_reducible first | exact Frame.refl _ _ | assumption | apply Frame.ite | apply Frame.step State.cfeHold_frame
                            | apply Frame.step State.cfeBegin_frame | apply Frame.step State.wr_frame)
    | split
    | dsimp only

theorem execCfeStart_frame {d : Fin 4} {flash : List Byte} {s : State} :
    FrameOut 9465627416264366161149 s (execCfeStart d flash s) := by
  unfold execCfeStart
  repeat' first
    | exact rfl | intro _
    | (with_reducible first | exact Frame.refl _ _ | assumption | apply FrameOut.next
                            | apply Frame.step State.cfeStart_frame | apply State.atBlock_frame)
    | split
    | dsimp only

theorem State.cfeCont_frame {s : State} {d : Nat} : Frame 9465627416264366161149 s (State.cfeCont s d) := by
  unfold State.cfeCont
  repeat' first
    | exact rfl | intro _
    | (with_reducible first | exact Frame.refl _ _ | assumption | apply Frame.ite | apply Frame.step State.cfeHold_frame
                            | apply Frame.step State.cfeHeader_frame | apply Frame.step State.wr_frame
                            | apply Frame.step State.setCfe_frame)
    | split
    | dsimp only

theorem execCfeCont_frame {d : Fin 4} {s : State} : FrameOut 9465627416264366161149 s (execCfeCont d s) := by
  unfold execCfeCont
  repeat' first
    | exact rfl | intro _
    | (with_reducible first | exact Frame.refl _ _ | assumption | apply FrameOut.next | apply Frame.step State.cfeCont_frame
                            | apply State.atBlock_frame)
    | split
    | dsimp only

theorem State.cfeCancel_frame {s : State} {d : Nat} : Frame 9444838800347916728325 s (State.cfeCancel s d) := by
  unfold State.cfeCancel
  repeat' first
    | exact rfl | intro _
    | (with_reducible first | exact Frame.refl _ _ | assumption | apply Frame.ite | apply Frame.step State.cfeEnd_frame
                            | apply Frame.step State.cfeFailAll_frame)
    | split
    | dsimp only

theorem execCfeCancel_frame {d : Fin 4} {s : State} : FrameOut 9444838800347916728325 s (execCfeCancel d s) := by
  unfold execCfeCancel
  repeat' first
    | exact rfl | intro _
    | (with_reducible first | exact Frame.refl _ _ | assumption | apply FrameOut.next
                            | apply Frame.step State.cfeCancel_frame | apply State.atBlock_frame)
    | split
    | dsimp only

theorem State.cfeAck_frame {s : State} {d : Nat} : Frame 1 s (State.cfeAck s d) := by
  unfold State.cfeAck
  repeat' first
    | exact rfl | intro _
    | (with_reducible first | exact Frame.refl _ _ | assumption | apply Frame.ite | apply Frame.step State.wr_frame)
    | split
    | dsimp only

theorem execCfeAck_frame {d : Fin 4} {s : State} : FrameOut 1 s (execCfeAck d s) := by
  unfold execCfeAck
  repeat' first
    | exact rfl | intro _
    | (with_reducible first | exact Frame.refl _ _ | assumption | apply FrameOut.next | apply Frame.step State.cfeAck_frame
                            | apply State.atBlock_frame)
    | split
    | dsimp only

theorem execCfePartReadDone_frame {d : Fin 4} {s : State} : FrameOut 18014398509481985 s (execCfePartReadDone d s) := by
  unfold execCfePartReadDone
  repeat' first
    | exact rfl | intro _
    | (with_reducible first | exact Frame.refl _ _ | assumption | apply FrameOut.next | apply FrameOut.ite | apply Frame.ite
                            | apply Frame.step State.wr_frame | apply Frame.step State.setCfe_frame)
    | split
    | dsimp only

theorem State.cfeSourceLost_frame {s : State} {d : Nat} : Frame 9444838800347916728325 s (State.cfeSourceLost s d) := by
  unfold State.cfeSourceLost
  repeat' first
    | exact rfl | intro _
    | (with_reducible first | exact Frame.refl _ _ | assumption | apply Frame.step State.cfeEnd_frame
                            | apply Frame.step State.cfeFailAll_frame)
    | split
    | dsimp only

theorem execCfeWaitTimeout_frame {d : Fin 4} {s : State} :
    FrameOut 9444838800347916728325 s (execCfeWaitTimeout d s) := by
  unfold execCfeWaitTimeout
  repeat' first
    | exact rfl | intro _
    | (with_reducible first | exact Frame.refl _ _ | assumption | apply FrameOut.next | apply FrameOut.ite | apply Frame.ite
                            | apply Frame.step State.cfeSourceLost_frame)
    | split
    | dsimp only

theorem State.recordReject_frame {s : State} {d why : Nat} {rec : List Byte} :
    Frame 9444732965739493652481 s (State.recordReject s d why rec) := by
  unfold State.recordReject
  repeat' first
    | exact rfl | intro _
    | (with_reducible first | exact Frame.refl _ _ | assumption | apply Frame.ite | apply Frame.step State.raise_frame
                            | apply Frame.step State.count_frame | apply Frame.step State.wr_frame)
    | split
    | dsimp only

theorem State.cfeRecord_frame {s : State} {d : Nat} {flash : List Byte} :
    Frame 9465591387467347197181 s (State.cfeRecord s d flash) := by
  unfold State.cfeRecord
  repeat' first
    | exact rfl | intro _
    | (with_reducible first | exact Frame.refl _ _ | assumption | apply Frame.ite
                            | apply Frame.step State.recordReject_frame | apply Frame.step State.cfePull_frame
                            | apply Frame.step State.cfeEnd_frame | apply Frame.step State.cfeFailAll_frame
                            | apply Frame.step State.frameWrite_frame | apply Frame.step State.count_frame
                            | apply Frame.step State.wr_frame | apply Frame.step State.setCfe_frame
                            | apply Frame.ofP1 (by assumption))
    | split
    | dsimp only

theorem execCfeFrameRecord_frame {d : Fin 4} {flash : List Byte} {s : State} :
    FrameOut 9465591387467347197181 s (execCfeFrameRecord d flash s) := by
  unfold execCfeFrameRecord
  repeat' first
    | exact rfl | intro _
    | (with_reducible first | exact Frame.refl _ _ | assumption | apply FrameOut.next | apply FrameOut.ite | apply Frame.ite
                            | apply Frame.step State.cfeRecord_frame)
    | split
    | dsimp only

theorem State.cfeRelease_frame {s : State} {d : Nat} : Frame 9444838800347916728325 s (State.cfeRelease s d) := by
  unfold State.cfeRelease
  repeat' first
    | exact rfl | intro _
    | (with_reducible first | exact Frame.refl _ _ | assumption | apply Frame.ite | apply Frame.each
                            | apply Frame.step State.cfeEnd_frame | apply Frame.step State.cfeFail_frame
                            | apply Frame.step State.setCopy_frame | apply Frame.step State.regionRelease_frame)
    | split
    | dsimp only

theorem execCfeSignatureDone_frame {d : Fin 4} {s : State} :
    FrameOut 9444838800347916729349 s (execCfeSignatureDone d s) := by
  unfold execCfeSignatureDone
  repeat' first
    | exact rfl | intro _
    | (with_reducible first | exact Frame.refl _ _ | assumption | apply FrameOut.next | apply FrameOut.ite | apply Frame.ite
                            | apply Frame.step State.cfeRelease_frame | apply Frame.step State.cfeSourceLost_frame
                            | apply Frame.step State.cfeEnd_frame | apply Frame.step State.cfeFailAll_frame
                            | apply Frame.step State.drew_frame | apply Frame.step State.wr_frame
                            | apply Frame.step State.setCfe_frame)
    | split
    | dsimp only

theorem execCfeReleaseTick_frame {d : Fin 4} {s : State} :
    FrameOut 9444838800347916728325 s (execCfeReleaseTick d s) := by
  unfold execCfeReleaseTick
  repeat' first
    | exact rfl | intro _
    | (with_reducible first | exact Frame.refl _ _ | assumption | apply FrameOut.next | apply FrameOut.ite | apply Frame.ite
                            | apply FrameO.getD | apply Frame.step State.cfeRelease_frame
                            | apply Frame.step State.cfeSourceLost_frame)
    | split
    | dsimp only

theorem State.relayAnswer_frame {s : State} {port service answer : Nat} :
    Frame 288230376151711744 s (State.relayAnswer s port service answer) := by
  unfold State.relayAnswer
  repeat' first
    | exact rfl | intro _
    | (with_reducible first | exact Frame.refl _ _ | assumption)
    | split
    | with_reducible apply Frame.step Frame.upd_relayAnswers

theorem State.cfeOffer_frame {s : State} {d port : Nat} : Frame 9465915646640517872893 s (State.cfeOffer s d port) := by
  unfold State.cfeOffer
  repeat' first
    | exact rfl | intro _
    | (with_reducible first | exact Frame.refl _ _ | assumption | apply Frame.ite | apply Frame.step State.relayAnswer_frame
                            | apply Frame.step State.cfeHold_frame | apply Frame.step State.cfeBegin_frame)
    | split
    | dsimp only

theorem execCfeRelayOffer_frame {d : Fin 4} {port : Fin 24} {s : State} :
    FrameOut 9465915646640517872893 s (execCfeRelayOffer d port s) := by
  unfold execCfeRelayOffer
  repeat' first
    | exact rfl | intro _
    | (with_reducible first | exact Frame.refl _ _ | assumption | apply FrameOut.next
                            | apply Frame.step State.cfeOffer_frame)
    | split
    | dsimp only

theorem State.cfeResume_frame {s : State} {d : Nat} : Frame 9465915646640517872893 s (State.cfeResume s d) := by
  unfold State.cfeResume
  repeat' first
    | exact rfl | intro _
    | (with_reducible first | exact Frame.refl _ _ | assumption | apply Frame.each | apply Frame.step State.cfeOffer_frame
                            | apply Frame.step State.cfeCont_frame | apply Frame.step State.cfeStart_frame
                            | apply Frame.step State.setCfe_frame)
    | split
    | dsimp only

theorem State.relayPortLost_frame {s : State} {g : Nat} : Frame 9444838800347916728325 s (State.relayPortLost s g) := by
  unfold State.relayPortLost
  repeat' first
    | exact rfl | intro _
    | (with_reducible first | exact Frame.refl _ _ | assumption | apply Frame.ite | apply Frame.each
                            | apply Frame.step State.cfeSourceLost_frame)
    | split
    | dsimp only

theorem State.serviceLost_frame {s : State} : Frame 9444838800347916728325 s (State.serviceLost s) := by
  unfold State.serviceLost
  repeat' first
    | exact rfl | intro _
    | (with_reducible first | exact Frame.refl _ _ | assumption | apply Frame.ite | apply Frame.each
                            | apply Frame.step State.cfeSourceLost_frame)
    | split
    | dsimp only

theorem State.cfeRelayData_frame {s : State} {d : Nat} {data : List Byte} :
    Frame 9465627416264366161149 s (State.cfeRelayData s d data) := by
  unfold State.cfeRelayData
  repeat' first
    | exact rfl | intro _
    | (with_reducible first | exact Frame.refl _ _ | assumption | apply Frame.ite | apply Frame.step State.cfeHeader_frame
                            | apply Frame.step State.setCfe_frame)
    | split
    | dsimp only

theorem execBootLoadStart_frame {d : Fin 4} {s : State} :
    FrameOut 9465627416264366161149 s (execBootLoadStart d s) := by
  unfold execBootLoadStart
  repeat' first
    | exact rfl | intro _
    | (with_reducible first | exact Frame.refl _ _ | assumption | apply FrameOut.next | apply FrameOut.ite | apply Frame.ite
                            | apply Frame.step State.cfeBegin_frame | apply Frame.step State.setReady_frame
                            | apply Frame.step State.setBoot_frame)
    | split
    | dsimp only

theorem State.bootFailed_frame {s : State} {d : Nat} : Frame 9444805023333531580417 s (State.bootFailed s d) := by
  unfold State.bootFailed
  repeat' first
    | exact rfl | intro _
    | (with_reducible first | exact Frame.refl _ _ | assumption | apply Frame.step State.raise_frame
                            | apply Frame.step State.setFail_frame | apply Frame.step State.setBoot_frame)
    | split
    | dsimp only

theorem execBootFallback_frame {d : Fin 4} {s : State} : FrameOut 9465627416264366161149 s (execBootFallback d s) := by
  unfold execBootFallback
  repeat' first
    | exact rfl | intro _
    | (with_reducible first | exact Frame.refl _ _ | assumption | apply FrameOut.next | apply FrameOut.ite | apply Frame.ite
                            | apply Frame.step State.bootFailed_frame | apply Frame.step State.cfeAck_frame
                            | apply Frame.step State.cfeBegin_frame | apply Frame.step State.setBoot_frame)
    | split
    | dsimp only

theorem execRecoveryFlashLoad_frame {flash : List Byte} {s : State} :
    FrameOut 9465627416264903032063 s (execRecoveryFlashLoad flash s) := by
  unfold execRecoveryFlashLoad
  repeat' first
    | exact rfl | intro _
    | (with_reducible first | exact Frame.refl _ _ | assumption | apply FrameOut.next | apply FrameOut.ite | apply Frame.ite
                            | apply Frame.step State.cfeBegin_frame | apply Frame.step State.setMode_frame)
    | split
    | dsimp only

theorem State.chkUpset_frame {s : State} {d no : Nat} : Frame 9444732965739493652481 s (State.chkUpset s d no) := by
  unfold State.chkUpset
  repeat' first
    | exact rfl | intro _
    | (with_reducible first | exact Frame.refl _ _ | assumption | apply Frame.step State.raise_frame
                            | apply Frame.step State.count_frame | apply Frame.step State.wr_frame)
    | split
    | dsimp only

theorem State.chkHard_frame {s : State} {d no : Nat} : Frame 9444732965739493652481 s (State.chkHard s d no) := by
  unfold State.chkHard
  repeat' first
    | exact rfl | intro _
    | (with_reducible first | exact Frame.refl _ _ | assumption | apply Frame.ite | apply Frame.step State.raise_frame
                            | apply Frame.step State.count_frame | apply Frame.step State.wr_frame)
    | split
    | dsimp only

theorem execFrameCheckRead_frame {d : Fin 4} {upset : BitVec 8192} {s : State} :
    FrameOut 9444778001735767357441 s (execFrameCheckRead d upset s) := by
  unfold execFrameCheckRead
  repeat' first
    | exact rfl | intro _
    | (with_reducible first | exact Frame.refl _ _ | assumption | apply FrameOut.next | apply FrameOut.ite | apply Frame.ite
                            | apply Frame.step State.chkUpset_frame | apply Frame.step State.fenceRefresh_frame
                            | apply Frame.step State.count_frame | apply Frame.step State.wr_frame
                            | apply Frame.step State.setChk_frame | apply Frame.step State.setUpset_frame)
    | split
    | dsimp only

theorem execFrameRepair_frame {d : Fin 4} {again : BitVec 8192} {errs : List (Fin 2097152 × Nat)} {s : State} :
    FrameOut 9447083844744981051397 s (execFrameRepair d again errs s) := by
  unfold execFrameRepair
  repeat' first
    | exact rfl | intro _
    | (with_reducible first | exact Frame.refl _ _ | assumption | apply FrameOut.next | apply FrameOut.ite | apply Frame.ite
                            | apply Frame.step State.chkHard_frame | apply Frame.step State.chkUpset_frame
                            | apply Frame.step State.settFrame_frame | apply Frame.step State.frameWrite_frame
                            | apply Frame.step State.settMeets_frame | apply Frame.step State.count_frame
                            | apply Frame.step State.setChk_frame | apply Frame.step State.setUpset_frame
                            | apply Frame.ofP1 (by assumption))
    | split
    | dsimp only

theorem State.cfeChkClr_frame {s : State} {d : Nat} {v : Word} : Frame 1 s (State.cfeChkClr s d v) := by
  unfold State.cfeChkClr
  repeat' first
    | exact rfl | intro _
    | (with_reducible first | exact Frame.refl _ _ | assumption | apply Frame.ite | apply Frame.step State.rsvBits_frame
                            | apply Frame.step State.wr_frame)
    | split
    | dsimp only

theorem execCfeChkClr_frame {d : Fin 4} {v : Word} {s : State} : FrameOut 1 s (execCfeChkClr d v s) := by
  unfold execCfeChkClr
  repeat' first
    | exact rfl | intro _
    | (with_reducible first | exact Frame.refl _ _ | assumption | apply FrameOut.next
                            | apply Frame.step State.cfeChkClr_frame | apply State.atBlock_frame)
    | split
    | dsimp only

end Sys2Proof.Machine
end

