-- ==== Sys2Proof/Laws/FrameSwap.lean ====
section
/-! SUPPORT. What each operation of Machine/Swap.lean can change (Laws/Frame.lean). -/
namespace Sys2Proof.Machine

theorem State.swapResult_frame {s : State} {d status : Nat} : Frame 1 s (State.swapResult s d status) := by
  unfold State.swapResult
  repeat' first
    | exact rfl | intro _
    | (with_reducible first | exact Frame.refl _ _ | assumption | apply Frame.step State.wr_frame)
    | split
    | dsimp only

theorem State.endRecal_frame {s : State} {d e n : Nat} : Frame 1099511627777 s (State.endRecal s d e n) := by
  unfold State.endRecal
  repeat' first
    | exact rfl | intro _
    | (with_reducible first | exact Frame.refl _ _ | assumption | apply Frame.step State.bundleStat_frame
                            | apply Frame.step State.setRole_frame | apply Frame.step State.setBundle_frame)
    | split
    | dsimp only

theorem State.bundleDown_frame {s : State} {d e n : Nat} : Frame 1099511627777 s (State.bundleDown s d e n) := by
  unfold State.bundleDown
  repeat' first
    | exact rfl | intro _
    | (with_reducible first | exact Frame.refl _ _ | assumption | apply Frame.ite | apply Frame.step State.swapResult_frame
                            | apply Frame.step State.wr_frame | apply Frame.step State.setBundle_frame)
    | split
    | dsimp only

theorem State.laneLost_frame {s : State} {d e n lane : Nat} :
    Frame 9444838801447428356101 s (State.laneLost s d e n lane) := by
  unfold State.laneLost
  repeat' first
    | exact rfl | intro _
    | (with_reducible first | exact Frame.refl _ _ | assumption | apply Frame.ite | apply Frame.step State.bundleDown_frame
                            | apply Frame.step State.serviceLost_frame | apply Frame.step State.setRole_frame
                            | apply Frame.step State.raise_frame | apply Frame.step State.wr_frame)
    | split
    | dsimp only

theorem State.swapStart_frame {s : State} {d e n lane : Nat} {cmd : Bool} :
    Frame 9444838801447428356101 s (State.swapStart s d e n lane cmd) := by
  unfold State.swapStart
  repeat' first
    | exact rfl | intro _
    | (with_reducible first | exact Frame.refl _ _ | assumption | apply Frame.step State.laneLost_frame
                            | apply Frame.step State.endRecal_frame | apply Frame.step State.bundleStat_frame
                            | apply Frame.step State.setRole_frame | apply Frame.step State.wr_frame
                            | apply Frame.step State.setBundle_frame)
    | split
    | dsimp only

theorem State.swapTrigger_frame {s : State} {d e n lane : Nat} :
    Frame 9444838801447428356101 s (State.swapTrigger s d e n lane) := by
  unfold State.swapTrigger
  repeat' first
    | exact rfl | intro _
    | (with_reducible first | exact Frame.refl _ _ | assumption | apply Frame.ite | apply Frame.step State.swapStart_frame
                            | apply Frame.step State.setBundle_frame)
    | split
    | dsimp only

theorem execLaneWindowEnd_frame {d : Fin 4} {e : Fin 2} {n : Fin 21} {counts : BitVec 176} {s : State} :
    FrameOut 9444838801447428356101 s (execLaneWindowEnd d e n counts s) := by
  unfold execLaneWindowEnd
  repeat' first
    | exact rfl | intro _
    | (with_reducible first | exact Frame.refl _ _ | assumption | apply FrameOut.next | apply FrameOut.ite | apply Frame.ite
                            | apply Frame.each | apply Frame.foldl | apply Frame.foldl1 | apply Frame.foldlP1
                            | apply Frame.foldlP2 | apply Frame.foldlP3 | apply Frame.foldlP4 | apply Frame.foldlP5
                            | apply Frame.step State.swapTrigger_frame | apply Frame.step State.setBundle_frame)
    | split
    | dsimp only

theorem execLaneSwapTrained_frame {d : Fin 4} {e : Fin 2} {n : Fin 21} {s : State} :
    FrameOut 1099511627776 s (execLaneSwapTrained d e n s) := by
  unfold execLaneSwapTrained
  repeat' first
    | exact rfl | intro _
    | (with_reducible first | exact Frame.refl _ _ | assumption | apply FrameOut.next | apply FrameOut.ite | apply Frame.ite
                            | apply Frame.step State.setBundle_frame)
    | split
    | dsimp only

theorem execLaneSwapSwitch_frame {d : Fin 4} {e : Fin 2} {n : Fin 21} {s : State} :
    FrameOut 9444838803646451611653 s (execLaneSwapSwitch d e n s) := by
  unfold execLaneSwapSwitch
  repeat' first
    | exact rfl | intro _
    | (with_reducible first | exact Frame.refl _ _ | assumption | apply FrameOut.next | apply FrameOut.ite | apply Frame.ite
                            | apply Frame.step State.swapTrigger_frame | apply Frame.step State.swapResult_frame
                            | apply Frame.step State.bundleStat_frame | apply Frame.step State.setRole_frame
                            | apply Frame.step State.raise_frame | apply Frame.step State.count_frame
                            | apply Frame.step State.wr_frame | apply Frame.step State.setBundle_frame)
    | split
    | with_reducible apply Frame.step Frame.upd_laneRecDue

theorem execLaneRecal_frame {d : Fin 4} {e : Fin 2} {n : Fin 21} {s : State} :
    FrameOut 1099511627777 s (execLaneRecal d e n s) := by
  unfold execLaneRecal
  repeat' first
    | exact rfl | intro _
    | (with_reducible first | exact Frame.refl _ _ | assumption | apply FrameOut.next | apply FrameOut.ite | apply Frame.ite
                            | apply Frame.step State.bundleStat_frame | apply Frame.step State.setRole_frame
                            | apply Frame.step State.wr_frame | apply Frame.step State.setBundle_frame)
    | split
    | dsimp only

theorem execLaneRecalDone_frame {d : Fin 4} {e : Fin 2} {n : Fin 21} {eye : BitVec 10} {s : State} :
    FrameOut 1099511627777 s (execLaneRecalDone d e n eye s) := by
  unfold execLaneRecalDone
  repeat' first
    | exact rfl | intro _
    | (with_reducible first | exact Frame.refl _ _ | assumption | apply FrameOut.next
                            | apply Frame.step State.endRecal_frame | apply Frame.step State.setBundle_frame)
    | split
    | dsimp only

theorem State.d2dSwap_frame {s : State} {d e n lane : Nat} :
    Frame 9444838801447428356101 s (State.d2dSwap s d e n lane) := by
  unfold State.d2dSwap
  repeat' first
    | exact rfl | intro _
    | (with_reducible first | exact Frame.refl _ _ | assumption | apply Frame.ite | apply Frame.step State.swapStart_frame
                            | apply Frame.step State.endRecal_frame | apply Frame.step State.swapResult_frame
                            | apply Frame.step State.seqUp_frame | apply Frame.step State.wr_frame)
    | split
    | dsimp only

theorem execD2dSwap_frame {d : Fin 4} {e : Fin 2} {n : Fin 21} {lane : Fin 11} {s : State} :
    FrameOut 9444838801447428356101 s (execD2dSwap d e n lane s) := by
  unfold execD2dSwap
  repeat' first
    | exact rfl | intro _
    | (with_reducible first | exact Frame.refl _ _ | assumption | apply FrameOut.next | apply Frame.step State.d2dSwap_frame
                            | apply State.atBlock_frame)
    | split
    | dsimp only

theorem State.d2dAck_frame {s : State} {d : Nat} : Frame 1 s (State.d2dAck s d) := by
  unfold State.d2dAck
  repeat' first
    | exact rfl | intro _
    | (with_reducible first | exact Frame.refl _ _ | assumption | apply Frame.ite | apply Frame.step State.wr_frame)
    | split
    | dsimp only

theorem execD2dAck_frame {d : Fin 4} {s : State} : FrameOut 1 s (execD2dAck d s) := by
  unfold execD2dAck
  repeat' first
    | exact rfl | intro _
    | (with_reducible first | exact Frame.refl _ _ | assumption | apply FrameOut.next | apply Frame.step State.d2dAck_frame
                            | apply State.atBlock_frame)
    | split
    | dsimp only

end Sys2Proof.Machine
end

