-- ==== Sys2Proof/Laws/FrameCores.lean ====
section
/-! SUPPORT. What each operation of Machine/Cores.lean can change (Laws/Frame.lean). -/
namespace Sys2Proof.Machine

theorem State.orphanLock_frame {s : State} {d n : Nat} : Frame 9444732965739493652481 s (State.orphanLock s d n) := by
  unfold State.orphanLock
  repeat' first
    | exact rfl | intro _
    | (with_reducible first | exact Frame.refl _ _ | assumption | apply Frame.step State.raise_frame
                            | apply Frame.step State.count_frame | apply Frame.step State.wr_frame)
    | split
    | dsimp only

theorem State.orphanOwner_frame {s : State} {o : Nat} : Frame 9444732965739493652481 s (State.orphanOwner s o) := by
  unfold State.orphanOwner
  repeat' first
    | exact rfl | intro _
    | (with_reducible first | exact Frame.refl _ _ | assumption | apply Frame.ite | apply Frame.each
                            | apply Frame.step State.orphanLock_frame)
    | split
    | dsimp only

theorem State.orphanDie_frame {s : State} {d : Nat} : Frame 9444732965739493652481 s (State.orphanDie s d) := by
  unfold State.orphanDie
  repeat' first
    | exact rfl | intro _
    | (with_reducible first | exact Frame.refl _ _ | assumption | apply Frame.ite | apply Frame.each
                            | apply Frame.step State.orphanLock_frame)
    | split
    | dsimp only

theorem State.compare_frame {s : State} {d core n : Nat} {kinds : List Nat} {addr : Nat} :
    Frame 1 s (State.compare s d core n kinds addr).1 := by
  unfold State.compare
  repeat' first
    | exact rfl | intro _
    | (with_reducible first | exact Frame.refl _ _ | assumption | apply Frame.step State.wr_frame)
    | split
    | dsimp only

theorem State.hubEvent_frame {s : State} {sp line code : Nat} : Frame 1 s (State.hubEvent s sp line code) := by
  unfold State.hubEvent
  repeat' first
    | exact rfl | intro _
    | (with_reducible first | exact Frame.refl _ _ | assumption | apply Frame.step State.hubPend_frame
                            | apply Frame.step State.count_frame | apply Frame.step State.wr_frame)
    | split
    | dsimp only

theorem State.spReset_frame {s : State} {n : Nat} : Frame 9463179709813203204097 s (State.spReset s n) := by
  unfold State.spReset
  repeat' first
    | exact rfl | intro _
    | (with_reducible first | exact Frame.refl _ _ | assumption | apply Frame.step State.orphanOwner_frame
                            | apply Frame.step State.wr_frame | apply Frame.step State.setSp_frame)
    | split
    | dsimp only

theorem State.spRelease_frame {s : State} {n : Nat} : Frame 18446744073709551617 s (State.spRelease s n) := by
  unfold State.spRelease
  repeat' first
    | exact rfl | intro _
    | (with_reducible first | exact Frame.refl _ _ | assumption | apply Frame.ite | apply Frame.step State.wr_frame
                            | apply Frame.step State.setSp_frame)
    | split
    | dsimp only

theorem State.owlRestart_frame {s : State} {d : Nat} : Frame 9481626453886912755713 s (State.owlRestart s d) := by
  unfold State.owlRestart
  repeat' first
    | exact rfl | intro _
    | (with_reducible first | exact Frame.refl _ _ | assumption | apply Frame.step State.orphanOwner_frame
                            | apply Frame.step State.setReady_frame | apply Frame.step State.setOwl_frame)
    | split
    | dsimp only

end Sys2Proof.Machine
end

