-- ==== Sys2Proof/Laws/FrameSett.lean ====
section
/-! SUPPORT. What each operation of Machine/Sett.lean can change (Laws/Frame.lean). -/
namespace Sys2Proof.Machine

theorem State.stcEnd_frame {s : State} {status detail : Nat} :
    Frame 4611686018427387905 s (State.stcEnd s status detail) := by
  unfold State.stcEnd
  repeat' first
    | exact rfl | intro _
    | (with_reducible first | exact Frame.refl _ _ | assumption | apply Frame.step State.wr_frame)
    | split
    | with_reducible apply Frame.step Frame.upd_stc

theorem State.stcBegin_frame {s : State} {kind : Nat} {relay : Bool} : Frame 1 s (State.stcBegin s kind relay) := by
  unfold State.stcBegin
  repeat' first
    | exact rfl | intro _
    | (with_reducible first | exact Frame.refl _ _ | assumption | apply Frame.step State.seqUp_frame
                            | apply Frame.step State.wrb_frame | apply Frame.step State.wr_frame)
    | split
    | dsimp only

-- HO 2
theorem State.stcCommand_frame {s t : State} {d kind : Nat} {f : State → State} {W : Nat} (hW : 1 &&& W = 1)
    (hs : Frame W s t) (hf : ∀ u, Frame W s u → Frame W s (f u)) : Frame W s (t.stcCommand d kind f) := by
  unfold State.stcCommand
  split
  · exact State.rsvw_frame.step (mono_of (by decide) hW) hs
  · split
    · exact State.wr_frame.step (mono_of (by decide) hW) hs
    · exact hf _ (State.stcBegin_frame.step (mono_of (by decide) hW) hs)

theorem State.stcAck_frame {s : State} {d : Nat} : Frame 1 s (State.stcAck s d) := by
  unfold State.stcAck
  repeat' first
    | exact rfl | intro _
    | (with_reducible first | exact Frame.refl _ _ | assumption | apply Frame.ite | apply Frame.step State.wr_frame)
    | split
    | dsimp only

theorem execStcAck_frame {d : Fin 4} {s : State} : FrameOut 1 s (execStcAck d s) := by
  unfold execStcAck
  repeat' first
    | exact rfl | intro _
    | (with_reducible first | exact Frame.refl _ _ | assumption | apply FrameOut.next | apply Frame.step State.stcAck_frame
                            | apply State.atBlock_frame)
    | split
    | dsimp only

theorem State.settKick_frame {s : State} {d : Nat} : Frame 6917529027641081857 s (State.settKick s d) := by
  unfold State.settKick
  repeat' first
    | exact rfl | intro _
    | (with_reducible first | exact Frame.refl _ _ | assumption | apply Frame.ite | apply Frame.when
                            | apply Frame.step State.stcEnd_frame | apply Frame.step State.setSett_frame)
    | split
    | dsimp only

theorem State.settAsk_frame {s : State} {d : Nat} {r : SettReq} :
    Frame 6917529027641081857 s (State.settAsk s d r) := by
  unfold State.settAsk
  repeat' first
    | exact rfl | intro _
    | (with_reducible first | exact Frame.refl _ _ | assumption | apply Frame.ite | apply Frame.step State.settKick_frame
                            | apply Frame.step State.setSett_frame)
    | split
    | dsimp only

theorem State.settPass_frame {s : State} {d : Nat} : Frame 9447038808748707346433 s (State.settPass s d) := by
  unfold State.settPass
  repeat' first
    | exact rfl | intro _
    | (with_reducible first | exact Frame.refl _ _ | assumption | apply Frame.ite | apply Frame.step State.raise_frame
                            | apply Frame.step State.wr_frame | apply Frame.step State.setSett_frame)
    | split
    | dsimp only

theorem State.settSpares_frame {s : State} {d : Nat} : Frame 9444732965739493652481 s (State.settSpares s d) := by
  unfold State.settSpares
  repeat' first
    | exact rfl | intro _
    | (with_reducible first | exact Frame.refl _ _ | assumption | apply Frame.ite | apply Frame.step State.raise_frame
                            | apply Frame.step State.wr_frame)
    | split
    | dsimp only

theorem State.cmdDrop_frame {s : State} : Frame 2305843009213693952 s (State.cmdDrop s) := by
  unfold State.cmdDrop
  repeat' first
    | exact rfl | intro _
    | (with_reducible first | exact Frame.refl _ _ | assumption | apply Frame.each | apply Frame.step State.setSett_frame)
    | split
    | dsimp only

theorem State.settStored_frame {s : State} {d : Nat} {c : SettCur} :
    Frame 7061644215716937729 s (State.settStored s d c) := by
  unfold State.settStored
  repeat' first
    | exact rfl | intro _
    | (with_reducible first | exact Frame.refl _ _ | assumption | apply Frame.ite | apply Frame.step State.stcEnd_frame
                            | apply Frame.step State.wr_frame | apply Frame.step State.setSett_frame
                            | apply Frame.step State.setKeyOf_frame)
    | split
    | dsimp only

theorem State.settFailed_frame {s : State} {d : Nat} {req : SettReq} :
    Frame 9451650494767134734337 s (State.settFailed s d req) := by
  unfold State.settFailed
  repeat' first
    | exact rfl | intro _
    | (with_reducible first | exact Frame.refl _ _ | assumption | apply Frame.ite | apply Frame.each
                            | apply Frame.step State.cmdDrop_frame | apply Frame.step State.stcEnd_frame
                            | apply Frame.step State.setSlot_frame | apply Frame.step State.raise_frame
                            | apply Frame.step State.count_frame)
    | split
    | dsimp only

theorem execSettBlockWriteDone_frame {d : Fin 4} {same : Bool} {s : State} :
    FrameOut 9451794609955210590213 s (execSettBlockWriteDone d same s) := by
  unfold execSettBlockWriteDone
  repeat' first
    | exact rfl | intro _
    | (with_reducible first | exact Frame.refl _ _ | assumption | apply FrameOut.next | apply FrameOut.ite | apply Frame.ite
                            | apply Frame.step State.settFailed_frame | apply Frame.step State.settStored_frame
                            | apply Frame.step State.settSpares_frame | apply Frame.step State.settPass_frame
                            | apply Frame.step State.settKick_frame | apply Frame.step State.settRefresh_frame
                            | apply Frame.step State.raise_frame | apply Frame.step State.putBytes_frame
                            | apply Frame.step State.count_frame | apply Frame.step State.setSett_frame)
    | split
    | dsimp only

theorem execRetentionScan_frame {d : Fin 4} {hours : Nat} {found : ScanFound} {s : State} :
    FrameOut 9447038808748707346433 s (execRetentionScan d hours found s) := by
  unfold execRetentionScan
  repeat' first
    | exact rfl | intro _
    | (with_reducible first | exact Frame.refl _ _ | assumption | apply FrameOut.next | apply FrameOut.ite | apply Frame.ite
                            | apply Frame.step State.settRead_frame | apply Frame.step State.settMeets_frame
                            | apply Frame.step State.settRefresh_frame | apply Frame.step State.setSett_frame)
    | split
    | dsimp only

theorem execRetentionRewrite_frame {d : Fin 4} {s : State} :
    FrameOut 6917529027641081857 s (execRetentionRewrite d s) := by
  unfold execRetentionRewrite
  repeat' first
    | exact rfl | intro _
    | (with_reducible first | exact Frame.refl _ _ | assumption | apply FrameOut.next | apply FrameOut.ite | apply Frame.ite
                            | apply Frame.step State.settAsk_frame | apply Frame.step State.settRefresh_frame
                            | apply Frame.step State.setSett_frame)
    | split
    | dsimp only

theorem State.owlRecord_frame {s : State} {d type key : Nat} {data : List Byte} :
    Frame 6917529027641081857 s (State.owlRecord s d type key data) := by
  unfold State.owlRecord
  repeat' first
    | exact rfl | intro _
    | (with_reducible first | exact Frame.refl _ _ | assumption | apply Frame.step State.settAsk_frame)
    | split
    | dsimp only

theorem execOwlSettingsWrite_frame {d : Fin 4} {type key : BitVec 16} {data : List Byte} {s : State} :
    FrameOut 6917529027641081857 s (execOwlSettingsWrite d type key data s) := by
  unfold execOwlSettingsWrite
  repeat' first
    | exact rfl | intro _
    | (with_reducible first | exact Frame.refl _ _ | assumption | apply FrameOut.next | apply FrameOut.ite | apply Frame.ite
                            | apply Frame.step State.owlRecord_frame)
    | split
    | dsimp only

theorem execRepairRecordWrite_frame {d : Fin 4} {s : State} :
    FrameOut 6922032627268452353 s (execRepairRecordWrite d s) := by
  unfold execRepairRecordWrite
  repeat' first
    | exact rfl | intro _
    | (with_reducible first | exact Frame.refl _ _ | assumption | apply FrameOut.next | apply FrameOut.ite | apply Frame.ite
                            | apply Frame.each | apply Frame.step State.owlRecord_frame
                            | apply Frame.step State.setRegion_frame)
    | split
    | dsimp only

theorem execLaneRecordWrite_frame {j : Fin 4} {s : State} :
    FrameOut 6917531226664337409 s (execLaneRecordWrite j s) := by
  unfold execLaneRecordWrite
  repeat' first
    | exact rfl | intro _
    | (with_reducible first | exact Frame.refl _ _ | assumption | apply FrameOut.next | apply FrameOut.ite | apply Frame.ite
                            | apply Frame.foldl | apply Frame.foldl1 | apply Frame.foldlP1 | apply Frame.foldlP2
                            | apply Frame.foldlP3 | apply Frame.foldlP4 | apply Frame.foldlP5
                            | apply Frame.step State.owlRecord_frame)
    | split
    | with_reducible apply Frame.step Frame.upd_laneRecDue

theorem State.setPortState_frame {s : State} {g st : Nat} : Frame 2049 s (State.setPortState s g st) := by
  unfold State.setPortState
  repeat' first
    | exact rfl | intro _
    | (with_reducible first | exact Frame.refl _ _ | assumption | apply Frame.ite | apply Frame.step State.sendMsix_frame
                            | apply Frame.step State.setReady_frame | apply Frame.step State.wr_frame)
    | split
    | dsimp only

theorem State.epochCheck_frame {s : State} {g : Nat} : Frame 9444732965739510429697 s (State.epochCheck s g) := by
  unfold State.epochCheck
  repeat' first
    | exact rfl | intro _
    | (with_reducible first | exact Frame.refl _ _ | assumption | apply Frame.ite
                            | apply Frame.step State.setPortState_frame | apply Frame.step State.parentPortDown_frame
                            | apply Frame.step State.raise_frame)
    | split
    | dsimp only

theorem State.epochRefresh_frame {s : State} : Frame 11805916207174333036545 s (State.epochRefresh s) := by
  unfold State.epochRefresh
  repeat' first
    | exact rfl | intro _
    | (with_reducible first | exact Frame.refl _ _ | assumption | apply Frame.ite | apply Frame.each
                            | apply Frame.step State.epochCheck_frame | apply Frame.step State.wr_frame
                            | apply Frame.step State.setGsl_frame)
    | split
    | dsimp only

theorem State.copiesVoid_frame {s : State} {d k : Nat} : Frame 4503599627370497 s (State.copiesVoid s d k) := by
  unfold State.copiesVoid
  repeat' first
    | exact rfl | intro _
    | (with_reducible first | exact Frame.refl _ _ | assumption | apply Frame.ite | apply Frame.each
                            | apply Frame.step State.setCopy_frame)
    | split
    | dsimp only

theorem State.stageBegin_frame {s : State} {kind : Nat} {h : List Byte} :
    Frame 4503599627370497 s (State.stageBegin s kind h) := by
  unfold State.stageBegin
  repeat' first
    | exact rfl | intro _
    | (with_reducible first | exact Frame.refl _ _ | assumption | apply Frame.each | apply Frame.when
                            | apply Frame.step State.copiesVoid_frame | apply Frame.step State.setSlot_frame)
    | split
    | dsimp only

theorem State.stageFail_frame {s : State} {kind : Nat} {h : List Byte} {st : Nat} :
    Frame 4611686018427387905 s (State.stageFail s kind h st) := by
  unfold State.stageFail
  repeat' first
    | exact rfl | intro _
    | (with_reducible first | exact Frame.refl _ _ | assumption | apply Frame.each | apply Frame.step State.stcEnd_frame
                            | apply Frame.step State.setSlot_frame)
    | split
    | dsimp only

theorem State.stageImage_frame {s : State} {kind : Nat} {img list : List Byte} {relay : Bool} :
    Frame 6917529027641081857 s (State.stageImage s kind img list relay) := by
  unfold State.stageImage
  repeat' first
    | exact rfl | intro _
    | (with_reducible first | exact Frame.refl _ _ | assumption | apply Frame.ite | apply Frame.each
                            | apply Frame.step State.stageFail_frame | apply Frame.step State.settAsk_frame)
    | split
    | with_reducible apply Frame.step Frame.upd_stc

theorem State.settStage_frame {s : State} {kind : Nat} {img list : List Byte} {relay : Bool} :
    Frame 6922032627268452353 s (State.settStage s kind img list relay) := by
  unfold State.settStage
  repeat' first
    | exact rfl | intro _
    | (with_reducible first | exact Frame.refl _ _ | assumption | apply Frame.ite | apply Frame.step State.stageImage_frame
                            | apply Frame.step State.stageBegin_frame | apply Frame.step State.stcEnd_frame)
    | split
    | dsimp only

theorem State.stcRead_frame {s : State} {a n : Nat} : Frame 9465490056458551491837 s (State.stcRead s a n).2 := by
  unfold State.stcRead
  repeat' first
    | exact rfl | intro _
    | (with_reducible first | exact Frame.refl _ _ | assumption | apply Frame.iteP1 | apply Frame.ite
                            | apply Frame.step State.getBytes_frame | apply Frame.ofP1 (by assumption))
    | split
    | dsimp only

theorem State.relayList_frame {s : State} : Frame 9465490056458551491837 s (State.relayList s).2 := by
  unfold State.relayList
  repeat' first
    | exact rfl | intro _
    | (with_reducible first | exact Frame.refl _ _ | assumption | apply Frame.iteP1 | apply Frame.ite
                            | apply Frame.step State.stcRead_frame | apply Frame.ofP1 (by assumption))
    | split
    | dsimp only

theorem State.stcStage_frame {s : State} {kind : Nat} {relay : Bool} :
    Frame 9470101742476978879741 s (State.stcStage s kind relay) := by
  unfold State.stcStage
  repeat' first
    | exact rfl | intro _
    | (with_reducible first | exact Frame.refl _ _ | assumption | apply Frame.ite | apply Frame.step State.relayList_frame
                            | apply Frame.step State.stcRead_frame | apply Frame.step State.stageImage_frame
                            | apply Frame.step State.stageFail_frame | apply Frame.step State.stageBegin_frame
                            | apply Frame.step State.stcEnd_frame | apply Frame.ofP1 (by assumption))
    | split
    | dsimp only

theorem execStage_frame {d kind : Fin 4} {s : State} : FrameOut 9470101742476978879741 s (execStage d kind s) := by
  unfold execStage
  repeat' first
    | exact rfl | intro _
    | (with_reducible first | exact Frame.refl _ _ | assumption | apply FrameOut.next
                            | apply Frame.step State.stcStage_frame | apply State.stcCommand_frame
                            | apply State.atBlock_frame)
    | split
    | dsimp only

theorem execRelay_frame {d kind : Fin 4} {s : State} : FrameOut 9470101742476978879741 s (execRelay d kind s) := by
  unfold execRelay
  repeat' first
    | exact rfl | intro _
    | (with_reducible first | exact Frame.refl _ _ | assumption | apply FrameOut.next
                            | apply Frame.step State.stcStage_frame | apply State.stcCommand_frame
                            | apply State.atBlock_frame)
    | split
    | dsimp only

theorem execStageComplete_frame {s : State} : FrameOut 9452803416271741581313 s (execStageComplete s) := by
  unfold execStageComplete
  repeat' first
    | exact rfl | intro _
    | (with_reducible first | exact Frame.refl _ _ | assumption | apply FrameOut.next | apply FrameOut.ite | apply Frame.ite
                            | apply Frame.each | apply Frame.step State.stcEnd_frame
                            | apply Frame.step State.setSlot_frame | apply Frame.step State.settRead_frame
                            | apply Frame.step State.wr_frame | apply Frame.step State.setSett_frame)
    | split
    | with_reducible apply Frame.step Frame.upd_relayOut

theorem execRelayForward_frame {s : State} : FrameOut 3746994889972252673 s (execRelayForward s) := by
  unfold execRelayForward
  repeat' first
    | exact rfl | intro _
    | (with_reducible first | exact Frame.refl _ _ | assumption | apply FrameOut.next | apply FrameOut.ite | apply Frame.ite
                            | apply Frame.step State.relayAnswer_frame | apply Frame.step State.count_frame
                            | apply Frame.step State.setSett_frame)
    | split
    | with_reducible apply Frame.step Frame.upd_relayOut

theorem execRelayAnswer_frame {accepted : Bool} {s : State} :
    FrameOut 2305843009213693953 s (execRelayAnswer accepted s) := by
  unfold execRelayAnswer
  repeat' first
    | exact rfl | intro _
    | (with_reducible first | exact Frame.refl _ _ | assumption | apply FrameOut.next | apply FrameOut.ite | apply Frame.ite
                            | apply Frame.step State.count_frame | apply Frame.step State.setSett_frame)
    | split
    | dsimp only

theorem execSettRelayOffer_frame {port : Fin 24} {len : Nat} {s : State} :
    FrameOut 7786723755723587585 s (execSettRelayOffer port len s) := by
  unfold execSettRelayOffer
  repeat' first
    | exact rfl | intro _
    | (with_reducible first | exact Frame.refl _ _ | assumption | apply FrameOut.next | apply FrameOut.ite | apply Frame.ite
                            | apply Frame.step State.settStage_frame | apply Frame.step State.stcBegin_frame
                            | apply Frame.step State.relayAnswer_frame | apply Frame.step State.setRelayBuf_frame)
    | split
    | with_reducible apply Frame.step Frame.upd_stc

theorem State.stcRecwrite_frame {s : State} : Frame 9470101742476978879741 s (State.stcRecwrite s) := by
  unfold State.stcRecwrite
  repeat' first
    | exact rfl | intro _
    | (with_reducible first | exact Frame.refl _ _ | assumption | apply Frame.ite | apply Frame.step State.stcRead_frame
                            | apply Frame.step State.settAsk_frame | apply Frame.step State.stcEnd_frame
                            | apply Frame.ofP1 (by assumption))
    | split
    | with_reducible apply Frame.step Frame.upd_stc

theorem execRecwrite_frame {d kind : Fin 4} {s : State} :
    FrameOut 9470101742476978879741 s (execRecwrite d kind s) := by
  unfold execRecwrite
  repeat' first
    | exact rfl | intro _
    | (with_reducible first | exact Frame.refl _ _ | assumption | apply FrameOut.next
                            | apply Frame.step State.stcRecwrite_frame | apply State.stcCommand_frame
                            | apply State.atBlock_frame)
    | split
    | dsimp only

theorem State.stcKeyinst_frame {s : State} : Frame 9470101742476978879741 s (State.stcKeyinst s) := by
  unfold State.stcKeyinst
  repeat' first
    | exact rfl | intro _
    | (with_reducible first | exact Frame.refl _ _ | assumption | apply Frame.ite | apply Frame.each
                            | apply Frame.step State.stcRead_frame | apply Frame.step State.settAsk_frame
                            | apply Frame.step State.stcEnd_frame | apply Frame.ofP1 (by assumption))
    | split
    | with_reducible apply Frame.step Frame.upd_stc

theorem execKeyinst_frame {d kind : Fin 4} {s : State} : FrameOut 9470101742476978879741 s (execKeyinst d kind s) := by
  unfold execKeyinst
  repeat' first
    | exact rfl | intro _
    | (with_reducible first | exact Frame.refl _ _ | assumption | apply FrameOut.next
                            | apply Frame.step State.stcKeyinst_frame | apply State.stcCommand_frame
                            | apply State.atBlock_frame)
    | split
    | dsimp only

theorem State.stcInval_frame {s : State} {kind : Nat} : Frame 4616189618054758401 s (State.stcInval s kind) := by
  unfold State.stcInval
  repeat' first
    | exact rfl | intro _
    | (with_reducible first | exact Frame.refl _ _ | assumption | apply Frame.ite | apply Frame.each | apply Frame.when
                            | apply Frame.step State.copiesVoid_frame | apply Frame.step State.stcEnd_frame
                            | apply Frame.step State.setSlot_frame)
    | split
    | dsimp only

theorem execInval_frame {d kind : Fin 4} {s : State} : FrameOut 4616189618054758401 s (execInval d kind s) := by
  unfold execInval
  repeat' first
    | exact rfl | intro _
    | (with_reducible first | exact Frame.refl _ _ | assumption | apply FrameOut.next
                            | apply Frame.step State.stcInval_frame | apply State.stcCommand_frame
                            | apply State.atBlock_frame)
    | split
    | dsimp only

theorem State.setTries_frame {s : State} {kind v : Nat} : Frame 1 s (State.setTries s kind v) := by
  unfold State.setTries
  repeat' first
    | exact rfl | intro _
    | (with_reducible first | exact Frame.refl _ _ | assumption | apply Frame.each | apply Frame.step State.wr_frame)
    | split
    | dsimp only

theorem State.windowClose_frame {s : State} {kind : Nat} : Frame 9223372036854775809 s (State.windowClose s kind) := by
  unfold State.windowClose
  repeat' first
    | exact rfl | intro _
    | (with_reducible first | exact Frame.refl _ _ | assumption | apply Frame.ite | apply Frame.step State.wr_frame
                            | apply Frame.step State.setOpened_frame)
    | split
    | dsimp only

theorem State.stcActivate_frame {s : State} {kind : Nat} :
    Frame 11847421381340179527681 s (State.stcActivate s kind) := by
  unfold State.stcActivate
  repeat' first
    | exact rfl | intro _
    | (with_reducible first | exact Frame.refl _ _ | assumption | apply Frame.ite | apply Frame.each
                            | apply Frame.step State.setTries_frame | apply Frame.step State.epochRefresh_frame
                            | apply Frame.step State.stcEnd_frame | apply Frame.step State.owlRestart_frame
                            | apply Frame.step State.setSlot_frame)
    | split
    | dsimp only

theorem execActivate_frame {d kind : Fin 4} {s : State} :
    FrameOut 11847421381340179527681 s (execActivate d kind s) := by
  unfold execActivate
  repeat' first
    | exact rfl | intro _
    | (with_reducible first | exact Frame.refl _ _ | assumption | apply FrameOut.next
                            | apply Frame.step State.stcActivate_frame | apply State.stcCommand_frame
                            | apply State.atBlock_frame)
    | split
    | dsimp only

theorem State.fallback_frame {s : State} {kind : Nat} : Frame 11870479811432316467201 s (State.fallback s kind) := by
  unfold State.fallback
  repeat' first
    | exact rfl | intro _
    | (with_reducible first | exact Frame.refl _ _ | assumption | apply Frame.ite | apply Frame.each
                            | apply Frame.step State.windowClose_frame | apply Frame.step State.epochRefresh_frame
                            | apply Frame.step State.owlRestart_frame | apply Frame.step State.spRelease_frame
                            | apply Frame.step State.spReset_frame | apply Frame.step State.setSlot_frame
                            | apply Frame.step State.raise_frame)
    | split
    | dsimp only

theorem State.stcConfirm_frame {s : State} {kind : Nat} :
    Frame 11875091497450743855105 s (State.stcConfirm s kind) := by
  unfold State.stcConfirm
  repeat' first
    | exact rfl | intro _
    | (with_reducible first | exact Frame.refl _ _ | assumption | apply Frame.ite | apply Frame.each
                            | apply Frame.step State.fallback_frame | apply Frame.step State.windowClose_frame
                            | apply Frame.step State.setTries_frame | apply Frame.step State.epochRefresh_frame
                            | apply Frame.step State.stcEnd_frame | apply Frame.step State.setSlot_frame)
    | split
    | dsimp only

theorem execConfirm_frame {d kind : Fin 4} {s : State} : FrameOut 11875091497450743855105 s (execConfirm d kind s) := by
  unfold execConfirm
  repeat' first
    | exact rfl | intro _
    | (with_reducible first | exact Frame.refl _ _ | assumption | apply FrameOut.next
                            | apply Frame.step State.stcConfirm_frame | apply State.stcCommand_frame
                            | apply State.atBlock_frame)
    | split
    | dsimp only

theorem State.trialRead_frame {s : State} {kind : Nat} : Frame 9447038808748707346433 s (State.trialRead s kind) := by
  unfold State.trialRead
  repeat' first
    | exact rfl | intro _
    | (with_reducible first | exact Frame.refl _ _ | assumption | apply Frame.each | apply Frame.step State.settRead_frame)
    | split
    | dsimp only

theorem execTrialStart_frame {kind : Fin 3} {errs : List (Fin 4 × Fin 2097152 × Nat)} {s : State} :
    FrameOut 11872785654441530161153 s (execTrialStart kind errs s) := by
  unfold execTrialStart
  repeat' first
    | exact rfl | intro _
    | (with_reducible first | exact Frame.refl _ _ | assumption | apply FrameOut.next | apply FrameOut.ite | apply Frame.ite
                            | apply Frame.each | apply Frame.step State.trialRead_frame
                            | apply Frame.step State.fallback_frame | apply Frame.step State.setTries_frame
                            | apply Frame.step State.settMeets_frame | apply Frame.step State.wr_frame
                            | apply Frame.step State.setOpened_frame)
    | split
    | dsimp only

theorem execConfirmWindowExpire_frame {kind : Fin 3} {s : State} :
    FrameOut 11870479811432316467201 s (execConfirmWindowExpire kind s) := by
  unfold execConfirmWindowExpire
  repeat' first
    | exact rfl | intro _
    | (with_reducible first | exact Frame.refl _ _ | assumption | apply FrameOut.next | apply FrameOut.ite | apply Frame.ite
                            | apply Frame.step State.fallback_frame)
    | split
    | dsimp only

theorem State.calPin_frame {s : State} {b p : Nat} {r : List Byte} : Frame 3 s (State.calPin s b p r) := by
  unfold State.calPin
  repeat' first
    | exact rfl | intro _
    | (with_reducible first | exact Frame.refl _ _ | assumption | apply Frame.each | apply Frame.step State.load_frame)
    | split
    | dsimp only

theorem execCalRecordLoad_frame {b : Fin 72} {errs : List (Fin 2097152 × Nat)} {s : State} :
    FrameOut 9447038808748707346435 s (execCalRecordLoad b errs s) := by
  unfold execCalRecordLoad
  repeat' first
    | exact rfl | intro _
    | (with_reducible first | exact Frame.refl _ _ | assumption | apply FrameOut.next | apply FrameOut.ite | apply Frame.ite
                            | apply Frame.each | apply FrameO.getD | apply Frame.step State.calPin_frame
                            | apply Frame.step State.settRead_frame | apply Frame.step State.settMeets_frame
                            | apply Frame.step State.raise_frame | apply Frame.step State.wrb_frame
                            | apply Frame.step State.wr_frame)
    | split
    | dsimp only

end Sys2Proof.Machine
end

