-- ==== Sys2Proof/Laws/FrameTraining.lean ====
section
/-! SUPPORT. What each operation of Machine/Training.lean can change (Laws/Frame.lean). -/
namespace Sys2Proof.Machine

theorem execD2dTrainingDone_frame {d : Fin 4} {e : Fin 2} {n : Fin 21} {e0 e1 e2 : BitVec 48} {e3 : BitVec 32}
    {rot : BitVec 2} {s : State} : FrameOut 9444732966839005280257 s (execD2dTrainingDone d e n e0 e1 e2 e3 rot s) := by
  unfold execD2dTrainingDone
  repeat' first
    | exact rfl | intro _
    | (with_reducible first | exact Frame.refl _ _ | assumption | apply FrameOut.next | apply FrameOut.ite | apply Frame.ite
                            | apply Frame.each | apply Frame.step State.pairFailed_frame
                            | apply Frame.step State.nocReadyUp_frame | apply Frame.step State.jointReady_frame
                            | apply Frame.step State.chooseLanes_frame | apply Frame.step State.bundleStat_frame
                            | apply Frame.step State.arpPartnerReady_frame | apply Frame.step State.raise_frame
                            | apply Frame.step State.wr_frame | apply Frame.step State.setBundle_frame)
    | split
    | dsimp only

end Sys2Proof.Machine
end

