-- ==== Sys2Proof/Laws/FrameSac.lean ====
section
/-! SUPPORT. What each operation of Machine/Sac.lean can change (Laws/Frame.lean). -/
namespace Sys2Proof.Machine

/-- The state inside a SAC word's answer lies within the frame. -/
def SacRes.state : SacRes → State
  | .ok s => s
  | .go s _ => s
  | .bad s _ _ => s
structure FrameC (W : Nat) (s : State) (r : SacRes) : Prop where
  keep : Frame W s r.state
namespace FrameC
variable {W W1 : Nat} {s t : State} {a b : SacRes}
theorem ok (h : Frame W s t) : FrameC W s (.ok t) := ⟨h⟩
theorem go {pc : Nat} (h : Frame W s t) : FrameC W s (.go t pc) := ⟨h⟩
theorem bad {c w : Nat} (h : Frame W s t) : FrameC W s (.bad t c w) := ⟨h⟩
theorem ite {c : Prop} [Decidable c] (h1 : FrameC W s a) (h2 : FrameC W s b) : FrameC W s (if c then a else b) := by
  split <;> assumption
theorem step (hf : FrameC W1 t a) (h : W1 &&& W = W1) (hs : Frame W s t) : FrameC W s a := ⟨hf.keep.step h hs⟩
theorem ofOk (e : a = .ok t) (h : FrameC W s a) : Frame W s t := by subst e; exact h.keep
theorem ofGo {pc : Nat} (e : a = .go t pc) (h : FrameC W s a) : Frame W s t := by subst e; exact h.keep
theorem ofBad {c w : Nat} (e : a = .bad t c w) (h : FrameC W s a) : Frame W s t := by subst e; exact h.keep
end FrameC

theorem State.setSacState_frame {s : State} {c st : Nat} : Frame 1 s (State.setSacState s c st) := by
  unfold State.setSacState
  repeat' first
    | exact rfl | intro _
    | (with_reducible first | exact Frame.refl _ _ | assumption | apply Frame.step State.wr_frame)
    | split
    | dsimp only

theorem State.postModify_frame {s : State} {x : SacX} {pa ma pb mb : Nat} :
    Frame 1024 s (State.postModify s x pa ma pb mb).2 := by
  unfold State.postModify
  repeat' first
    | exact rfl | intro _
    | (with_reducible first | exact Frame.refl _ _ | assumption | apply Frame.iteP1 | apply Frame.ite
                            | apply Frame.step State.drew_frame)
    | split
    | dsimp only

theorem State.sacCount_frame {s : State} {c w : Nat} : Frame 9444732965739493652481 s (State.sacCount s c w) := by
  unfold State.sacCount
  repeat' first
    | exact rfl | intro _
    | (with_reducible first | exact Frame.refl _ _ | assumption | apply Frame.step State.countChip_frame)
    | split
    | dsimp only

theorem sacPure_frame {ok : Bool} {f : SacX → SacX} {s : State} {c w : Nat} :
    FrameC 73786976294838206464 s (sacPure ok f s c w) := by
  unfold sacPure
  repeat' first
    | exact rfl | intro _
    | (with_reducible first | exact Frame.refl _ _ | assumption | apply FrameC.ok | apply FrameC.go | apply FrameC.bad
                            | apply FrameC.ite | apply Frame.ite | apply Frame.step State.setSac_frame)
    | split
    | dsimp only

theorem State.bankStall_frame {s : State} {c : Nat} {x : SacX} {pa ma pb mb : Nat} :
    Frame 1 s (State.bankStall s c x pa ma pb mb) := by
  unfold State.bankStall
  repeat' first
    | exact rfl | intro _
    | (with_reducible first | exact Frame.refl _ _ | assumption | apply Frame.ite | apply Frame.step State.count_frame)
    | split
    | dsimp only

theorem State.sacLoad2_frame {s : State} {c : Nat} {x : SacX} {ra pa ma rb pb mb : Nat} :
    FrameC 9518519942034331859969 s (State.sacLoad2 s c x ra pa ma rb pb mb) := by
  unfold State.sacLoad2
  repeat' first
    | exact rfl | intro _
    | (with_reducible first | exact Frame.refl _ _ | assumption | apply FrameC.ok | apply FrameC.go | apply FrameC.bad
                            | apply FrameC.ite | apply Frame.ite | apply Frame.step State.bankStall_frame
                            | apply Frame.step State.sacCount_frame | apply Frame.step State.postModify_frame
                            | apply Frame.step State.drew_frame | apply Frame.step State.setSac_frame
                            | apply Frame.ofP1 (by assumption))
    | split
    | dsimp only

theorem sacC_frame {okF : Nat → Nat → Bool} {useRB : Bool} {f : SacX → Nat → Nat → Nat → Nat → SacX} {s : State}
    {c w : Nat} : FrameC 9518519942034331859969 s (sacC okF useRB f s c w) := by
  unfold sacC
  repeat' first
    | exact rfl | intro _
    | (with_reducible first | exact Frame.refl _ _ | assumption | apply FrameC.ok | apply FrameC.go | apply FrameC.bad
                            | apply FrameC.ite | apply Frame.ite | apply FrameC.step State.sacLoad2_frame
                            | apply FrameC.ofOk (by assumption) | apply FrameC.ofGo (by assumption)
                            | apply FrameC.ofBad (by assumption))
    | split
    | dsimp only

theorem opCmac_frame {s : State} {c w : Nat} : FrameC 9518519942034331859969 s (opCmac s c w) := by
  unfold opCmac
  repeat' first
    | exact rfl | intro _
    | (with_reducible first | exact Frame.refl _ _ | assumption | apply FrameC.ok | apply FrameC.go | apply FrameC.bad
                            | apply FrameC.step sacC_frame | apply FrameC.ofOk (by assumption)
                            | apply FrameC.ofGo (by assumption) | apply FrameC.ofBad (by assumption))
    | split
    | dsimp only

theorem opCmul_frame {s : State} {c w : Nat} : FrameC 9518519942034331859969 s (opCmul s c w) := by
  unfold opCmul
  repeat' first
    | exact rfl | intro _
    | (with_reducible first | exact Frame.refl _ _ | assumption | apply FrameC.ok | apply FrameC.go | apply FrameC.bad
                            | apply FrameC.step sacC_frame | apply FrameC.ofOk (by assumption)
                            | apply FrameC.ofGo (by assumption) | apply FrameC.ofBad (by assumption))
    | split
    | dsimp only

theorem opDmac_frame {s : State} {c w : Nat} : FrameC 9518519942034331859969 s (opDmac s c w) := by
  unfold opDmac
  repeat' first
    | exact rfl | intro _
    | (with_reducible first | exact Frame.refl _ _ | assumption | apply FrameC.ok | apply FrameC.go | apply FrameC.bad
                            | apply FrameC.step sacC_frame | apply FrameC.ofOk (by assumption)
                            | apply FrameC.ofGo (by assumption) | apply FrameC.ofBad (by assumption))
    | split
    | dsimp only

theorem opRmac_frame {s : State} {c w : Nat} : FrameC 9518519942034331859969 s (opRmac s c w) := by
  unfold opRmac
  repeat' first
    | exact rfl | intro _
    | (with_reducible first | exact Frame.refl _ _ | assumption | apply FrameC.ok | apply FrameC.go | apply FrameC.bad
                            | apply FrameC.step sacC_frame | apply FrameC.ofOk (by assumption)
                            | apply FrameC.ofGo (by assumption) | apply FrameC.ofBad (by assumption))
    | split
    | dsimp only

theorem opRmul_frame {s : State} {c w : Nat} : FrameC 9518519942034331859969 s (opRmul s c w) := by
  unfold opRmul
  repeat' first
    | exact rfl | intro _
    | (with_reducible first | exact Frame.refl _ _ | assumption | apply FrameC.ok | apply FrameC.go | apply FrameC.bad
                            | apply FrameC.step sacC_frame | apply FrameC.ofOk (by assumption)
                            | apply FrameC.ofGo (by assumption) | apply FrameC.ofBad (by assumption))
    | split
    | dsimp only

theorem opCpwr_frame {s : State} {c w : Nat} : FrameC 9518519942034331859969 s (opCpwr s c w) := by
  unfold opCpwr
  repeat' first
    | exact rfl | intro _
    | (with_reducible first | exact Frame.refl _ _ | assumption | apply FrameC.ok | apply FrameC.go | apply FrameC.bad
                            | apply FrameC.step sacC_frame | apply FrameC.ofOk (by assumption)
                            | apply FrameC.ofGo (by assumption) | apply FrameC.ofBad (by assumption))
    | split
    | dsimp only

theorem opAccl_frame {s : State} {c w : Nat} : FrameC 9518519942034331859969 s (opAccl s c w) := by
  unfold opAccl
  repeat' first
    | exact rfl | intro _
    | (with_reducible first | exact Frame.refl _ _ | assumption | apply FrameC.ok | apply FrameC.go | apply FrameC.bad
                            | apply FrameC.ite | apply Frame.ite | apply FrameC.step sacC_frame
                            | apply FrameC.ofOk (by assumption) | apply FrameC.ofGo (by assumption)
                            | apply FrameC.ofBad (by assumption))
    | split
    | dsimp only

theorem opClra_frame {s : State} {c w : Nat} : FrameC 73786976294838206464 s (opClra s c w) := by
  unfold opClra
  repeat' first
    | exact rfl | intro _
    | (with_reducible first | exact Frame.refl _ _ | assumption | apply FrameC.ok | apply FrameC.go | apply FrameC.bad
                            | apply FrameC.ite | apply Frame.ite | apply Frame.foldl | apply Frame.foldl1
                            | apply Frame.foldlP1 | apply Frame.foldlP2 | apply Frame.foldlP3 | apply Frame.foldlP4
                            | apply Frame.foldlP5 | apply FrameC.step sacPure_frame
                            | apply FrameC.ofOk (by assumption) | apply FrameC.ofGo (by assumption)
                            | apply FrameC.ofBad (by assumption))
    | split
    | dsimp only

theorem opMva_frame {s : State} {c w : Nat} : FrameC 73786976294838206464 s (opMva s c w) := by
  unfold opMva
  repeat' first
    | exact rfl | intro _
    | (with_reducible first | exact Frame.refl _ _ | assumption | apply FrameC.ok | apply FrameC.go | apply FrameC.bad
                            | apply FrameC.step sacPure_frame | apply FrameC.ofOk (by assumption)
                            | apply FrameC.ofGo (by assumption) | apply FrameC.ofBad (by assumption))
    | split
    | dsimp only

theorem opMvap_frame {s : State} {c w : Nat} : FrameC 73786976294838206464 s (opMvap s c w) := by
  unfold opMvap
  repeat' first
    | exact rfl | intro _
    | (with_reducible first | exact Frame.refl _ _ | assumption | apply FrameC.ok | apply FrameC.go | apply FrameC.bad
                            | apply FrameC.step sacPure_frame | apply FrameC.ofOk (by assumption)
                            | apply FrameC.ofGo (by assumption) | apply FrameC.ofBad (by assumption))
    | split
    | dsimp only

theorem opBlke_frame {s : State} {c w : Nat} : FrameC 73786976294838206464 s (opBlke s c w) := by
  unfold opBlke
  repeat' first
    | exact rfl | intro _
    | (with_reducible first | exact Frame.refl _ _ | assumption | apply FrameC.ok | apply FrameC.go | apply FrameC.bad
                            | apply FrameC.ite | apply Frame.ite | apply FrameC.step sacPure_frame
                            | apply FrameC.ofOk (by assumption) | apply FrameC.ofGo (by assumption)
                            | apply FrameC.ofBad (by assumption))
    | split
    | dsimp only

theorem sacR_frame {okF : Nat → Nat → Nat → Bool} {f : Nat → Nat → Nat → Nat} {s : State} {c w : Nat} :
    FrameC 73786976294838206464 s (sacR okF f s c w) := by
  unfold sacR
  repeat' first
    | exact rfl | intro _
    | (with_reducible first | exact Frame.refl _ _ | assumption | apply FrameC.ok | apply FrameC.go | apply FrameC.bad
                            | apply FrameC.step sacPure_frame | apply FrameC.ofOk (by assumption)
                            | apply FrameC.ofGo (by assumption) | apply FrameC.ofBad (by assumption))
    | split
    | dsimp only

theorem opCadd_frame {s : State} {c w : Nat} : FrameC 73786976294838206464 s (opCadd s c w) := by
  unfold opCadd
  repeat' first
    | exact rfl | intro _
    | (with_reducible first | exact Frame.refl _ _ | assumption | apply FrameC.ok | apply FrameC.go | apply FrameC.bad
                            | apply FrameC.step sacR_frame | apply FrameC.ofOk (by assumption)
                            | apply FrameC.ofGo (by assumption) | apply FrameC.ofBad (by assumption))
    | split
    | dsimp only

theorem opCsub_frame {s : State} {c w : Nat} : FrameC 73786976294838206464 s (opCsub s c w) := by
  unfold opCsub
  repeat' first
    | exact rfl | intro _
    | (with_reducible first | exact Frame.refl _ _ | assumption | apply FrameC.ok | apply FrameC.go | apply FrameC.bad
                            | apply FrameC.step sacR_frame | apply FrameC.ofOk (by assumption)
                            | apply FrameC.ofGo (by assumption) | apply FrameC.ofBad (by assumption))
    | split
    | dsimp only

theorem opCaddh_frame {s : State} {c w : Nat} : FrameC 73786976294838206464 s (opCaddh s c w) := by
  unfold opCaddh
  repeat' first
    | exact rfl | intro _
    | (with_reducible first | exact Frame.refl _ _ | assumption | apply FrameC.ok | apply FrameC.go | apply FrameC.bad
                            | apply FrameC.step sacR_frame | apply FrameC.ofOk (by assumption)
                            | apply FrameC.ofGo (by assumption) | apply FrameC.ofBad (by assumption))
    | split
    | dsimp only

theorem opCsubh_frame {s : State} {c w : Nat} : FrameC 73786976294838206464 s (opCsubh s c w) := by
  unfold opCsubh
  repeat' first
    | exact rfl | intro _
    | (with_reducible first | exact Frame.refl _ _ | assumption | apply FrameC.ok | apply FrameC.go | apply FrameC.bad
                            | apply FrameC.step sacR_frame | apply FrameC.ofOk (by assumption)
                            | apply FrameC.ofGo (by assumption) | apply FrameC.ofBad (by assumption))
    | split
    | dsimp only

theorem opCmin_frame {s : State} {c w : Nat} : FrameC 73786976294838206464 s (opCmin s c w) := by
  unfold opCmin
  repeat' first
    | exact rfl | intro _
    | (with_reducible first | exact Frame.refl _ _ | assumption | apply FrameC.ok | apply FrameC.go | apply FrameC.bad
                            | apply FrameC.step sacR_frame | apply FrameC.ofOk (by assumption)
                            | apply FrameC.ofGo (by assumption) | apply FrameC.ofBad (by assumption))
    | split
    | dsimp only

theorem opCmax_frame {s : State} {c w : Nat} : FrameC 73786976294838206464 s (opCmax s c w) := by
  unfold opCmax
  repeat' first
    | exact rfl | intro _
    | (with_reducible first | exact Frame.refl _ _ | assumption | apply FrameC.ok | apply FrameC.go | apply FrameC.bad
                            | apply FrameC.step sacR_frame | apply FrameC.ofOk (by assumption)
                            | apply FrameC.ofGo (by assumption) | apply FrameC.ofBad (by assumption))
    | split
    | dsimp only

theorem opCand_frame {s : State} {c w : Nat} : FrameC 73786976294838206464 s (opCand s c w) := by
  unfold opCand
  repeat' first
    | exact rfl | intro _
    | (with_reducible first | exact Frame.refl _ _ | assumption | apply FrameC.ok | apply FrameC.go | apply FrameC.bad
                            | apply FrameC.step sacR_frame | apply FrameC.ofOk (by assumption)
                            | apply FrameC.ofGo (by assumption) | apply FrameC.ofBad (by assumption))
    | split
    | dsimp only

theorem opCor_frame {s : State} {c w : Nat} : FrameC 73786976294838206464 s (opCor s c w) := by
  unfold opCor
  repeat' first
    | exact rfl | intro _
    | (with_reducible first | exact Frame.refl _ _ | assumption | apply FrameC.ok | apply FrameC.go | apply FrameC.bad
                            | apply FrameC.step sacR_frame | apply FrameC.ofOk (by assumption)
                            | apply FrameC.ofGo (by assumption) | apply FrameC.ofBad (by assumption))
    | split
    | dsimp only

theorem opCxor_frame {s : State} {c w : Nat} : FrameC 73786976294838206464 s (opCxor s c w) := by
  unfold opCxor
  repeat' first
    | exact rfl | intro _
    | (with_reducible first | exact Frame.refl _ _ | assumption | apply FrameC.ok | apply FrameC.go | apply FrameC.bad
                            | apply FrameC.step sacR_frame | apply FrameC.ofOk (by assumption)
                            | apply FrameC.ofGo (by assumption) | apply FrameC.ofBad (by assumption))
    | split
    | dsimp only

theorem opCxfm_frame {s : State} {c w : Nat} : FrameC 73786976294838206464 s (opCxfm s c w) := by
  unfold opCxfm
  repeat' first
    | exact rfl | intro _
    | (with_reducible first | exact Frame.refl _ _ | assumption | apply FrameC.ok | apply FrameC.go | apply FrameC.bad
                            | apply FrameC.step sacR_frame | apply FrameC.ofOk (by assumption)
                            | apply FrameC.ofGo (by assumption) | apply FrameC.ofBad (by assumption))
    | split
    | dsimp only

theorem opCsha_frame {s : State} {c w : Nat} : FrameC 73786976294838206464 s (opCsha s c w) := by
  unfold opCsha
  repeat' first
    | exact rfl | intro _
    | (with_reducible first | exact Frame.refl _ _ | assumption | apply FrameC.ok | apply FrameC.go | apply FrameC.bad
                            | apply FrameC.step sacR_frame | apply FrameC.ofOk (by assumption)
                            | apply FrameC.ofGo (by assumption) | apply FrameC.ofBad (by assumption))
    | split
    | dsimp only

theorem opCcmp_frame {s : State} {c w : Nat} : FrameC 73786976294838206464 s (opCcmp s c w) := by
  unfold opCcmp
  repeat' first
    | exact rfl | intro _
    | (with_reducible first | exact Frame.refl _ _ | assumption | apply FrameC.ok | apply FrameC.go | apply FrameC.bad
                            | apply FrameC.step sacPure_frame | apply FrameC.ofOk (by assumption)
                            | apply FrameC.ofGo (by assumption) | apply FrameC.ofBad (by assumption))
    | split
    | dsimp only

theorem opLir_frame {s : State} {c w : Nat} : FrameC 73786976294838206464 s (opLir s c w) := by
  unfold opLir
  repeat' first
    | exact rfl | intro _
    | (with_reducible first | exact Frame.refl _ _ | assumption | apply FrameC.ok | apply FrameC.go | apply FrameC.bad
                            | apply FrameC.step sacPure_frame | apply FrameC.ofOk (by assumption)
                            | apply FrameC.ofGo (by assumption) | apply FrameC.ofBad (by assumption))
    | split
    | dsimp only

theorem opLii_frame {s : State} {c w : Nat} : FrameC 73786976294838206464 s (opLii s c w) := by
  unfold opLii
  repeat' first
    | exact rfl | intro _
    | (with_reducible first | exact Frame.refl _ _ | assumption | apply FrameC.ok | apply FrameC.go | apply FrameC.bad
                            | apply FrameC.step sacPure_frame | apply FrameC.ofOk (by assumption)
                            | apply FrameC.ofGo (by assumption) | apply FrameC.ofBad (by assumption))
    | split
    | dsimp only

theorem opLdd_frame {s : State} {c w : Nat} : FrameC 9518519942034331859969 s (opLdd s c w) := by
  unfold opLdd
  repeat' first
    | exact rfl | intro _
    | (with_reducible first | exact Frame.refl _ _ | assumption | apply FrameC.ok | apply FrameC.go | apply FrameC.bad
                            | apply FrameC.ite | apply Frame.ite | apply FrameC.step State.sacLoad2_frame
                            | apply FrameC.ofOk (by assumption) | apply FrameC.ofGo (by assumption)
                            | apply FrameC.ofBad (by assumption))
    | split
    | dsimp only

theorem opStd_frame {s : State} {c w : Nat} : FrameC 9536966686108041411613 s (opStd s c w) := by
  unfold opStd
  repeat' first
    | exact rfl | intro _
    | (with_reducible first | exact Frame.refl _ _ | assumption | apply FrameC.ok | apply FrameC.go | apply FrameC.bad
                            | apply FrameC.ite | apply Frame.ite | apply Frame.step State.bankStall_frame
                            | apply Frame.step State.postModify_frame | apply Frame.step State.writeChip_frame
                            | apply Frame.step State.drew_frame | apply Frame.step State.setSac_frame
                            | apply Frame.ofP1 (by assumption))
    | split
    | dsimp only

theorem opLd8_frame {s : State} {c w : Nat} : FrameC 9518519942034331859969 s (opLd8 s c w) := by
  unfold opLd8
  repeat' first
    | exact rfl | intro _
    | (with_reducible first | exact Frame.refl _ _ | assumption | apply FrameC.ok | apply FrameC.go | apply FrameC.bad
                            | apply FrameC.ite | apply Frame.ite | apply Frame.step State.sacCount_frame
                            | apply Frame.step State.postModify_frame | apply Frame.step State.setSac_frame
                            | apply Frame.ofP1 (by assumption))
    | split
    | dsimp only

theorem opPset_frame {s : State} {c w : Nat} : FrameC 73786976294838206464 s (opPset s c w) := by
  unfold opPset
  repeat' first
    | exact rfl | intro _
    | (with_reducible first | exact Frame.refl _ _ | assumption | apply FrameC.ok | apply FrameC.go | apply FrameC.bad
                            | apply FrameC.step sacPure_frame | apply FrameC.ofOk (by assumption)
                            | apply FrameC.ofGo (by assumption) | apply FrameC.ofBad (by assumption))
    | split
    | dsimp only

theorem opMvs_frame {s : State} {c w : Nat} : FrameC 73786976294838206464 s (opMvs s c w) := by
  unfold opMvs
  repeat' first
    | exact rfl | intro _
    | (with_reducible first | exact Frame.refl _ _ | assumption | apply FrameC.ok | apply FrameC.go | apply FrameC.bad
                            | apply FrameC.step sacPure_frame | apply FrameC.ofOk (by assumption)
                            | apply FrameC.ofGo (by assumption) | apply FrameC.ofBad (by assumption))
    | split
    | dsimp only

theorem opMsv_frame {s : State} {c w : Nat} : FrameC 73786976294838206464 s (opMsv s c w) := by
  unfold opMsv
  repeat' first
    | exact rfl | intro _
    | (with_reducible first | exact Frame.refl _ _ | assumption | apply FrameC.ok | apply FrameC.go | apply FrameC.bad
                            | apply FrameC.step sacPure_frame | apply FrameC.ofOk (by assumption)
                            | apply FrameC.ofGo (by assumption) | apply FrameC.ofBad (by assumption))
    | split
    | dsimp only

theorem sacBranch_frame {s : State} {c : Nat} {x : SacX} {target : Option Nat} :
    FrameC 73786976294838206464 s (sacBranch s c x target) := by
  unfold sacBranch
  repeat' first
    | exact rfl | intro _
    | (with_reducible first | exact Frame.refl _ _ | assumption | apply FrameC.ok | apply FrameC.go | apply FrameC.bad
                            | apply Frame.step State.setSac_frame)
    | split
    | dsimp only

-- HO 2
theorem sacCtl_frame {fields : Bool} {place : SacX → Bool} {f : State → Nat → SacX → SacRes} {s t : State} {c w W : Nat}
    (_ : 0 &&& W = 0) (hs : Frame W s t) (hf : ∀ u x, Frame W s u → FrameC W s (f u c x)) : FrameC W s (sacCtl fields place f t c w) := by
  unfold sacCtl
  split
  · exact FrameC.bad hs
  · split
    · exact FrameC.bad hs
    · exact hf _ _ hs

theorem opNop_frame {s : State} {c w : Nat} : FrameC 73786976294838206464 s (opNop s c w) := by
  unfold opNop
  repeat' first
    | exact rfl | intro _
    | (with_reducible first | exact Frame.refl _ _ | assumption | apply FrameC.ok | apply FrameC.go | apply FrameC.bad
                            | apply FrameC.step sacPure_frame | apply FrameC.ofOk (by assumption)
                            | apply FrameC.ofGo (by assumption) | apply FrameC.ofBad (by assumption))
    | split
    | dsimp only

theorem opHalt_frame {s : State} {c w : Nat} : FrameC 1 s (opHalt s c w) := by
  unfold opHalt
  repeat' first
    | exact rfl | intro _
    | (with_reducible first | exact Frame.refl _ _ | assumption | apply FrameC.ok | apply FrameC.go | apply FrameC.bad
                            | apply sacCtl_frame | apply Frame.step State.setSacState_frame
                            | apply FrameC.ofOk (by assumption) | apply FrameC.ofGo (by assumption)
                            | apply FrameC.ofBad (by assumption))
    | split
    | dsimp only

theorem opWait_frame {s : State} {c w : Nat} : FrameC 73786976294838206465 s (opWait s c w) := by
  unfold opWait
  repeat' first
    | exact rfl | intro _
    | (with_reducible first | exact Frame.refl _ _ | assumption | apply FrameC.ok | apply FrameC.go | apply FrameC.bad
                            | apply FrameC.ite | apply Frame.ite | apply sacCtl_frame
                            | apply Frame.step State.setSacState_frame | apply Frame.step State.setSac_frame
                            | apply FrameC.ofOk (by assumption) | apply FrameC.ofGo (by assumption)
                            | apply FrameC.ofBad (by assumption))
    | split
    | dsimp only

theorem opB_frame {s : State} {c w : Nat} : FrameC 73786976294838206464 s (opB s c w) := by
  unfold opB
  repeat' first
    | exact rfl | intro _
    | (with_reducible first | exact Frame.refl _ _ | assumption | apply FrameC.ok | apply FrameC.go | apply FrameC.bad
                            | apply sacCtl_frame | apply FrameC.step sacBranch_frame
                            | apply FrameC.ofOk (by assumption) | apply FrameC.ofGo (by assumption)
                            | apply FrameC.ofBad (by assumption))
    | split
    | dsimp only

theorem opBc_frame {s : State} {c w : Nat} : FrameC 73786976294838206464 s (opBc s c w) := by
  unfold opBc
  repeat' first
    | exact rfl | intro _
    | (with_reducible first | exact Frame.refl _ _ | assumption | apply FrameC.ok | apply FrameC.go | apply FrameC.bad
                            | apply FrameC.ite | apply Frame.ite | apply sacCtl_frame
                            | apply FrameC.step sacBranch_frame | apply FrameC.ofOk (by assumption)
                            | apply FrameC.ofGo (by assumption) | apply FrameC.ofBad (by assumption))
    | split
    | dsimp only

theorem opCall_frame {s : State} {c w : Nat} : FrameC 73786976294838206464 s (opCall s c w) := by
  unfold opCall
  repeat' first
    | exact rfl | intro _
    | (with_reducible first | exact Frame.refl _ _ | assumption | apply FrameC.ok | apply FrameC.go | apply FrameC.bad
                            | apply FrameC.ite | apply Frame.ite | apply sacCtl_frame
                            | apply FrameC.step sacBranch_frame | apply FrameC.ofOk (by assumption)
                            | apply FrameC.ofGo (by assumption) | apply FrameC.ofBad (by assumption))
    | split
    | dsimp only

theorem opRet_frame {s : State} {c w : Nat} : FrameC 73786976294838206464 s (opRet s c w) := by
  unfold opRet
  repeat' first
    | exact rfl | intro _
    | (with_reducible first | exact Frame.refl _ _ | assumption | apply FrameC.ok | apply FrameC.go | apply FrameC.bad
                            | apply sacCtl_frame | apply FrameC.step sacBranch_frame
                            | apply FrameC.ofOk (by assumption) | apply FrameC.ofGo (by assumption)
                            | apply FrameC.ofBad (by assumption))
    | split
    | dsimp only

theorem opReti_frame {s : State} {c w : Nat} : FrameC 73786976294838206464 s (opReti s c w) := by
  unfold opReti
  repeat' first
    | exact rfl | intro _
    | (with_reducible first | exact Frame.refl _ _ | assumption | apply FrameC.ok | apply FrameC.go | apply FrameC.bad
                            | apply sacCtl_frame | apply Frame.step State.setSac_frame
                            | apply FrameC.ofOk (by assumption) | apply FrameC.ofGo (by assumption)
                            | apply FrameC.ofBad (by assumption))
    | split
    | dsimp only

theorem opRpt_frame {s : State} {c w : Nat} : FrameC 73786976294838206464 s (opRpt s c w) := by
  unfold opRpt
  repeat' first
    | exact rfl | intro _
    | (with_reducible first | exact Frame.refl _ _ | assumption | apply FrameC.ok | apply FrameC.go | apply FrameC.bad
                            | apply FrameC.ite | apply Frame.ite | apply sacCtl_frame
                            | apply Frame.step State.setSac_frame | apply FrameC.ofOk (by assumption)
                            | apply FrameC.ofGo (by assumption) | apply FrameC.ofBad (by assumption))
    | split
    | dsimp only

theorem opLoop_frame {s : State} {c w : Nat} : FrameC 73786976294838206464 s (opLoop s c w) := by
  unfold opLoop
  repeat' first
    | exact rfl | intro _
    | (with_reducible first | exact Frame.refl _ _ | assumption | apply FrameC.ok | apply FrameC.go | apply FrameC.bad
                            | apply FrameC.ite | apply Frame.ite | apply sacCtl_frame
                            | apply Frame.step State.setSac_frame | apply FrameC.ofOk (by assumption)
                            | apply FrameC.ofGo (by assumption) | apply FrameC.ofBad (by assumption))
    | split
    | dsimp only

theorem State.sacWake_frame {s : State} {c : Nat} : Frame 1 s (State.sacWake s c) := by
  unfold State.sacWake
  repeat' first
    | exact rfl | intro _
    | (with_reducible first | exact Frame.refl _ _ | assumption | apply Frame.ite | apply Frame.step State.setSacState_frame)
    | split
    | dsimp only

theorem State.sacPendSet_frame {s : State} {c i : Nat} : Frame 73786976294838206465 s (State.sacPendSet s c i) := by
  unfold State.sacPendSet
  repeat' first
    | exact rfl | intro _
    | (with_reducible first | exact Frame.refl _ _ | assumption | apply Frame.step State.sacWake_frame
                            | apply Frame.step State.setSac_frame)
    | split
    | dsimp only

theorem State.sacXEnd_frame {s : State} {c ch status : Nat} :
    Frame 73786976294838206465 s (State.sacXEnd s c ch status) := by
  unfold State.sacXEnd
  repeat' first
    | exact rfl | intro _
    | (with_reducible first | exact Frame.refl _ _ | assumption | apply Frame.step State.sacPendSet_frame
                            | apply Frame.step State.wr_frame | apply Frame.step State.setSac_frame)
    | split
    | dsimp only

theorem State.xgoStart_frame {s : State} {c ch : Nat} {x : SacX} {words : List Nat} {snap : List (Nat × Bool)} :
    Frame 73786976294838206465 s (State.xgoStart s c ch x words snap) := by
  unfold State.xgoStart
  repeat' first
    | exact rfl | intro _
    | (with_reducible first | exact Frame.refl _ _ | assumption | apply Frame.step State.seqUp_frame
                            | apply Frame.step State.wr_frame | apply Frame.step State.setSac_frame)
    | split
    | dsimp only

theorem State.xgo_frame {s : State} {c ch : Nat} {x : SacX} {ws : List Nat} :
    FrameC 9518519942034331858945 s (State.xgo s c ch x ws) := by
  unfold State.xgo
  repeat' first
    | exact rfl | intro _
    | (with_reducible first | exact Frame.refl _ _ | assumption | apply FrameC.ok | apply FrameC.go | apply FrameC.bad
                            | apply Frame.each | apply Frame.step State.xgoStart_frame
                            | apply Frame.step State.sacCount_frame)
    | split
    | dsimp only

theorem opXgo_frame {s : State} {c w : Nat} : FrameC 9518519942034331858945 s (opXgo s c w) := by
  unfold opXgo
  repeat' first
    | exact rfl | intro _
    | (with_reducible first | exact Frame.refl _ _ | assumption | apply FrameC.ok | apply FrameC.go | apply FrameC.bad
                            | apply FrameC.ite | apply Frame.ite | apply FrameC.step State.xgo_frame
                            | apply Frame.step State.setSac_frame | apply FrameC.ofOk (by assumption)
                            | apply FrameC.ofGo (by assumption) | apply FrameC.ofBad (by assumption))
    | split
    | dsimp only

theorem opSevt_frame {s : State} {c w : Nat} : FrameC 1 s (opSevt s c w) := by
  unfold opSevt
  repeat' first
    | exact rfl | intro _
    | (with_reducible first | exact Frame.refl _ _ | assumption | apply FrameC.ok | apply FrameC.go | apply FrameC.bad
                            | apply FrameC.ite | apply Frame.ite | apply Frame.step State.hubEvent_frame
                            | apply Frame.step State.seqUp_frame | apply Frame.step State.wr_frame)
    | split
    | dsimp only

theorem opReserved_frame {s : State} {c w : Nat} : FrameC 0 s (opReserved s c w) := by
  unfold opReserved
  repeat' first
    | exact rfl | intro _
    | (with_reducible first | exact Frame.refl _ _ | assumption | apply FrameC.ok | apply FrameC.go | apply FrameC.bad)
    | split
    | dsimp only

theorem State.sacExcept_frame {s : State} {c cause word : Nat} :
    Frame 9518519942034331858945 s (State.sacExcept s c cause word) := by
  unfold State.sacExcept
  repeat' first
    | exact rfl | intro _
    | (with_reducible first | exact Frame.refl _ _ | assumption | apply Frame.ite | apply Frame.step State.setSacState_frame
                            | apply Frame.step State.raise_frame | apply Frame.step State.wr_frame
                            | apply Frame.step State.setSac_frame)
    | split
    | dsimp only

theorem State.sacHaltNow_frame {s : State} {c : Nat} : Frame 73786976294838206465 s (State.sacHaltNow s c) := by
  unfold State.sacHaltNow
  repeat' first
    | exact rfl | intro _
    | (with_reducible first | exact Frame.refl _ _ | assumption | apply Frame.step State.setSacState_frame
                            | apply Frame.step State.setSac_frame)
    | split
    | dsimp only

theorem State.sacStepEnd_frame {s : State} {c : Nat} : Frame 73786976294838206465 s (State.sacStepEnd s c) := by
  unfold State.sacStepEnd
  repeat' first
    | exact rfl | intro _
    | (with_reducible first | exact Frame.refl _ _ | assumption | apply Frame.ite | apply Frame.step State.sacHaltNow_frame)
    | split
    | dsimp only

theorem State.sacFetched_frame {s : State} {c : Nat} {x : SacX} : Frame 1 s (State.sacFetched s c x).1 := by
  unfold State.sacFetched
  repeat' first
    | exact rfl | intro _
    | (with_reducible first | exact Frame.refl _ _ | assumption | apply Frame.ite1 | apply Frame.ite
                            | apply Frame.step State.compare_frame | apply Frame.of1 (by assumption))
    | split
    | dsimp only

theorem State.sacAfter_frame {s : State} {c : Nat} {x : SacX} {r : SacRes} {W : Nat} (hW : 9518519942034331858945 &&& W = 9518519942034331858945)
    (hs : FrameC W s r) : Frame W s (State.sacAfter c x r) := by
  have hset {u : State} (h : Frame W s u) {x : SacX} : Frame W s ((u.setSac c x).sacStepEnd c) :=
    State.sacStepEnd_frame.step (mono_of (by decide) hW) (State.setSac_frame.step (mono_of (by decide) hW) h)
  cases r with
  | ok t => exact hset hs.keep
  | go t pc => exact hset hs.keep
  | bad t cause word =>
    exact State.sacStepEnd_frame.step (mono_of (by decide) hW) (State.sacExcept_frame.step (mono_of (by decide) hW) hs.keep)

-- HO 2
theorem State.sacIssue_frame {s t : State} {c : Nat} {is : Nat → Bool} {f : SacFn} {W : Nat} (hW : 9518519942034331858945 &&& W = 9518519942034331858945)
    (hs : Frame W s t) (hf : ∀ u w, Frame W s u → FrameC W s (f u c w)) : Frame W s (t.sacIssue c is f) := by
  have hc : ∀ x, Frame W s (t.sacFetched c x).1 := fun x => State.sacFetched_frame.step (mono_of (by decide) hW) hs
  have hk : ∀ x y a n b, Frame W s (((t.sacFetched c x).1.countChip a n b).setSac c y) := fun x y a n b =>
    State.setSac_frame.step (mono_of (by decide) hW) (State.countChip_frame.step (mono_of (by decide) hW) (hc x))
  unfold State.sacIssue
  apply Frame.ite
  · exact hs
  apply Frame.ite
  · exact State.sacHaltNow_frame.step (mono_of (by decide) hW) (hc _)
  apply Frame.ite
  · exact State.sacStepEnd_frame.step (mono_of (by decide) hW) (State.sacExcept_frame.step (mono_of (by decide) hW) (hk _ _ _ _ _))
  · exact State.sacAfter_frame (mono_of (by decide) hW) (hf _ _ (hk _ _ _ _ _))

theorem execSacNop_frame {c : Fin 64} {s : State} : FrameOut 9518519942034331858945 s (execSacNop c s) := by
  unfold execSacNop
  repeat' first
    | exact rfl | intro _
    | (with_reducible first | exact Frame.refl _ _ | assumption | apply FrameOut.next | apply State.sacIssue_frame
                            | apply FrameC.step opNop_frame | apply FrameC.ofOk (by assumption)
                            | apply FrameC.ofGo (by assumption) | apply FrameC.ofBad (by assumption))
    | split
    | dsimp only

theorem execSacHalt_frame {c : Fin 64} {s : State} : FrameOut 9518519942034331858945 s (execSacHalt c s) := by
  unfold execSacHalt
  repeat' first
    | exact rfl | intro _
    | (with_reducible first | exact Frame.refl _ _ | assumption | apply FrameOut.next | apply State.sacIssue_frame
                            | apply FrameC.step opHalt_frame | apply FrameC.ofOk (by assumption)
                            | apply FrameC.ofGo (by assumption) | apply FrameC.ofBad (by assumption))
    | split
    | dsimp only

theorem execSacWait_frame {c : Fin 64} {s : State} : FrameOut 9518519942034331858945 s (execSacWait c s) := by
  unfold execSacWait
  repeat' first
    | exact rfl | intro _
    | (with_reducible first | exact Frame.refl _ _ | assumption | apply FrameOut.next | apply State.sacIssue_frame
                            | apply FrameC.step opWait_frame | apply FrameC.ofOk (by assumption)
                            | apply FrameC.ofGo (by assumption) | apply FrameC.ofBad (by assumption))
    | split
    | dsimp only

theorem execSacB_frame {c : Fin 64} {s : State} : FrameOut 9518519942034331858945 s (execSacB c s) := by
  unfold execSacB
  repeat' first
    | exact rfl | intro _
    | (with_reducible first | exact Frame.refl _ _ | assumption | apply FrameOut.next | apply State.sacIssue_frame
                            | apply FrameC.step opB_frame | apply FrameC.ofOk (by assumption)
                            | apply FrameC.ofGo (by assumption) | apply FrameC.ofBad (by assumption))
    | split
    | dsimp only

theorem execSacBc_frame {c : Fin 64} {s : State} : FrameOut 9518519942034331858945 s (execSacBc c s) := by
  unfold execSacBc
  repeat' first
    | exact rfl | intro _
    | (with_reducible first | exact Frame.refl _ _ | assumption | apply FrameOut.next | apply State.sacIssue_frame
                            | apply FrameC.step opBc_frame | apply FrameC.ofOk (by assumption)
                            | apply FrameC.ofGo (by assumption) | apply FrameC.ofBad (by assumption))
    | split
    | dsimp only

theorem execSacCall_frame {c : Fin 64} {s : State} : FrameOut 9518519942034331858945 s (execSacCall c s) := by
  unfold execSacCall
  repeat' first
    | exact rfl | intro _
    | (with_reducible first | exact Frame.refl _ _ | assumption | apply FrameOut.next | apply State.sacIssue_frame
                            | apply FrameC.step opCall_frame | apply FrameC.ofOk (by assumption)
                            | apply FrameC.ofGo (by assumption) | apply FrameC.ofBad (by assumption))
    | split
    | dsimp only

theorem execSacRet_frame {c : Fin 64} {s : State} : FrameOut 9518519942034331858945 s (execSacRet c s) := by
  unfold execSacRet
  repeat' first
    | exact rfl | intro _
    | (with_reducible first | exact Frame.refl _ _ | assumption | apply FrameOut.next | apply State.sacIssue_frame
                            | apply FrameC.step opRet_frame | apply FrameC.ofOk (by assumption)
                            | apply FrameC.ofGo (by assumption) | apply FrameC.ofBad (by assumption))
    | split
    | dsimp only

theorem execSacReti_frame {c : Fin 64} {s : State} : FrameOut 9518519942034331858945 s (execSacReti c s) := by
  unfold execSacReti
  repeat' first
    | exact rfl | intro _
    | (with_reducible first | exact Frame.refl _ _ | assumption | apply FrameOut.next | apply State.sacIssue_frame
                            | apply FrameC.step opReti_frame | apply FrameC.ofOk (by assumption)
                            | apply FrameC.ofGo (by assumption) | apply FrameC.ofBad (by assumption))
    | split
    | dsimp only

theorem execSacRpt_frame {c : Fin 64} {s : State} : FrameOut 9518519942034331858945 s (execSacRpt c s) := by
  unfold execSacRpt
  repeat' first
    | exact rfl | intro _
    | (with_reducible first | exact Frame.refl _ _ | assumption | apply FrameOut.next | apply State.sacIssue_frame
                            | apply FrameC.step opRpt_frame | apply FrameC.ofOk (by assumption)
                            | apply FrameC.ofGo (by assumption) | apply FrameC.ofBad (by assumption))
    | split
    | dsimp only

theorem execSacLoop_frame {c : Fin 64} {s : State} : FrameOut 9518519942034331858945 s (execSacLoop c s) := by
  unfold execSacLoop
  repeat' first
    | exact rfl | intro _
    | (with_reducible first | exact Frame.refl _ _ | assumption | apply FrameOut.next | apply State.sacIssue_frame
                            | apply FrameC.step opLoop_frame | apply FrameC.ofOk (by assumption)
                            | apply FrameC.ofGo (by assumption) | apply FrameC.ofBad (by assumption))
    | split
    | dsimp only

theorem execSacBlke_frame {c : Fin 64} {s : State} : FrameOut 9518519942034331858945 s (execSacBlke c s) := by
  unfold execSacBlke
  repeat' first
    | exact rfl | intro _
    | (with_reducible first | exact Frame.refl _ _ | assumption | apply FrameOut.next | apply State.sacIssue_frame
                            | apply FrameC.step opBlke_frame | apply FrameC.ofOk (by assumption)
                            | apply FrameC.ofGo (by assumption) | apply FrameC.ofBad (by assumption))
    | split
    | dsimp only

theorem execSacXgo_frame {c : Fin 64} {s : State} : FrameOut 9518519942034331858945 s (execSacXgo c s) := by
  unfold execSacXgo
  repeat' first
    | exact rfl | intro _
    | (with_reducible first | exact Frame.refl _ _ | assumption | apply FrameOut.next | apply State.sacIssue_frame
                            | apply FrameC.step opXgo_frame | apply FrameC.ofOk (by assumption)
                            | apply FrameC.ofGo (by assumption) | apply FrameC.ofBad (by assumption))
    | split
    | dsimp only

theorem execSacSevt_frame {c : Fin 64} {s : State} : FrameOut 9518519942034331858945 s (execSacSevt c s) := by
  unfold execSacSevt
  repeat' first
    | exact rfl | intro _
    | (with_reducible first | exact Frame.refl _ _ | assumption | apply FrameOut.next | apply State.sacIssue_frame
                            | apply FrameC.step opSevt_frame | apply FrameC.ofOk (by assumption)
                            | apply FrameC.ofGo (by assumption) | apply FrameC.ofBad (by assumption))
    | split
    | dsimp only

theorem execSacCmac_frame {c : Fin 64} {s : State} : FrameOut 9518519942034331859969 s (execSacCmac c s) := by
  unfold execSacCmac
  repeat' first
    | exact rfl | intro _
    | (with_reducible first | exact Frame.refl _ _ | assumption | apply FrameOut.next | apply State.sacIssue_frame
                            | apply FrameC.step opCmac_frame | apply FrameC.ofOk (by assumption)
                            | apply FrameC.ofGo (by assumption) | apply FrameC.ofBad (by assumption))
    | split
    | dsimp only

theorem execSacCmul_frame {c : Fin 64} {s : State} : FrameOut 9518519942034331859969 s (execSacCmul c s) := by
  unfold execSacCmul
  repeat' first
    | exact rfl | intro _
    | (with_reducible first | exact Frame.refl _ _ | assumption | apply FrameOut.next | apply State.sacIssue_frame
                            | apply FrameC.step opCmul_frame | apply FrameC.ofOk (by assumption)
                            | apply FrameC.ofGo (by assumption) | apply FrameC.ofBad (by assumption))
    | split
    | dsimp only

theorem execSacDmac_frame {c : Fin 64} {s : State} : FrameOut 9518519942034331859969 s (execSacDmac c s) := by
  unfold execSacDmac
  repeat' first
    | exact rfl | intro _
    | (with_reducible first | exact Frame.refl _ _ | assumption | apply FrameOut.next | apply State.sacIssue_frame
                            | apply FrameC.step opDmac_frame | apply FrameC.ofOk (by assumption)
                            | apply FrameC.ofGo (by assumption) | apply FrameC.ofBad (by assumption))
    | split
    | dsimp only

theorem execSacRmac_frame {c : Fin 64} {s : State} : FrameOut 9518519942034331859969 s (execSacRmac c s) := by
  unfold execSacRmac
  repeat' first
    | exact rfl | intro _
    | (with_reducible first | exact Frame.refl _ _ | assumption | apply FrameOut.next | apply State.sacIssue_frame
                            | apply FrameC.step opRmac_frame | apply FrameC.ofOk (by assumption)
                            | apply FrameC.ofGo (by assumption) | apply FrameC.ofBad (by assumption))
    | split
    | dsimp only

theorem execSacRmul_frame {c : Fin 64} {s : State} : FrameOut 9518519942034331859969 s (execSacRmul c s) := by
  unfold execSacRmul
  repeat' first
    | exact rfl | intro _
    | (with_reducible first | exact Frame.refl _ _ | assumption | apply FrameOut.next | apply State.sacIssue_frame
                            | apply FrameC.step opRmul_frame | apply FrameC.ofOk (by assumption)
                            | apply FrameC.ofGo (by assumption) | apply FrameC.ofBad (by assumption))
    | split
    | dsimp only

theorem execSacCpwr_frame {c : Fin 64} {s : State} : FrameOut 9518519942034331859969 s (execSacCpwr c s) := by
  unfold execSacCpwr
  repeat' first
    | exact rfl | intro _
    | (with_reducible first | exact Frame.refl _ _ | assumption | apply FrameOut.next | apply State.sacIssue_frame
                            | apply FrameC.step opCpwr_frame | apply FrameC.ofOk (by assumption)
                            | apply FrameC.ofGo (by assumption) | apply FrameC.ofBad (by assumption))
    | split
    | dsimp only

theorem execSacAccl_frame {c : Fin 64} {s : State} : FrameOut 9518519942034331859969 s (execSacAccl c s) := by
  unfold execSacAccl
  repeat' first
    | exact rfl | intro _
    | (with_reducible first | exact Frame.refl _ _ | assumption | apply FrameOut.next | apply State.sacIssue_frame
                            | apply FrameC.step opAccl_frame | apply FrameC.ofOk (by assumption)
                            | apply FrameC.ofGo (by assumption) | apply FrameC.ofBad (by assumption))
    | split
    | dsimp only

theorem execSacClra_frame {c : Fin 64} {s : State} : FrameOut 9518519942034331858945 s (execSacClra c s) := by
  unfold execSacClra
  repeat' first
    | exact rfl | intro _
    | (with_reducible first | exact Frame.refl _ _ | assumption | apply FrameOut.next | apply State.sacIssue_frame
                            | apply FrameC.step opClra_frame | apply FrameC.ofOk (by assumption)
                            | apply FrameC.ofGo (by assumption) | apply FrameC.ofBad (by assumption))
    | split
    | dsimp only

theorem execSacMva_frame {c : Fin 64} {s : State} : FrameOut 9518519942034331858945 s (execSacMva c s) := by
  unfold execSacMva
  repeat' first
    | exact rfl | intro _
    | (with_reducible first | exact Frame.refl _ _ | assumption | apply FrameOut.next | apply State.sacIssue_frame
                            | apply FrameC.step opMva_frame | apply FrameC.ofOk (by assumption)
                            | apply FrameC.ofGo (by assumption) | apply FrameC.ofBad (by assumption))
    | split
    | dsimp only

theorem execSacMvap_frame {c : Fin 64} {s : State} : FrameOut 9518519942034331858945 s (execSacMvap c s) := by
  unfold execSacMvap
  repeat' first
    | exact rfl | intro _
    | (with_reducible first | exact Frame.refl _ _ | assumption | apply FrameOut.next | apply State.sacIssue_frame
                            | apply FrameC.step opMvap_frame | apply FrameC.ofOk (by assumption)
                            | apply FrameC.ofGo (by assumption) | apply FrameC.ofBad (by assumption))
    | split
    | dsimp only

theorem execSacCadd_frame {c : Fin 64} {s : State} : FrameOut 9518519942034331858945 s (execSacCadd c s) := by
  unfold execSacCadd
  repeat' first
    | exact rfl | intro _
    | (with_reducible first | exact Frame.refl _ _ | assumption | apply FrameOut.next | apply State.sacIssue_frame
                            | apply FrameC.step opCadd_frame | apply FrameC.ofOk (by assumption)
                            | apply FrameC.ofGo (by assumption) | apply FrameC.ofBad (by assumption))
    | split
    | dsimp only

theorem execSacCsub_frame {c : Fin 64} {s : State} : FrameOut 9518519942034331858945 s (execSacCsub c s) := by
  unfold execSacCsub
  repeat' first
    | exact rfl | intro _
    | (with_reducible first | exact Frame.refl _ _ | assumption | apply FrameOut.next | apply State.sacIssue_frame
                            | apply FrameC.step opCsub_frame | apply FrameC.ofOk (by assumption)
                            | apply FrameC.ofGo (by assumption) | apply FrameC.ofBad (by assumption))
    | split
    | dsimp only

theorem execSacCaddh_frame {c : Fin 64} {s : State} : FrameOut 9518519942034331858945 s (execSacCaddh c s) := by
  unfold execSacCaddh
  repeat' first
    | exact rfl | intro _
    | (with_reducible first | exact Frame.refl _ _ | assumption | apply FrameOut.next | apply State.sacIssue_frame
                            | apply FrameC.step opCaddh_frame | apply FrameC.ofOk (by assumption)
                            | apply FrameC.ofGo (by assumption) | apply FrameC.ofBad (by assumption))
    | split
    | dsimp only

theorem execSacCsubh_frame {c : Fin 64} {s : State} : FrameOut 9518519942034331858945 s (execSacCsubh c s) := by
  unfold execSacCsubh
  repeat' first
    | exact rfl | intro _
    | (with_reducible first | exact Frame.refl _ _ | assumption | apply FrameOut.next | apply State.sacIssue_frame
                            | apply FrameC.step opCsubh_frame | apply FrameC.ofOk (by assumption)
                            | apply FrameC.ofGo (by assumption) | apply FrameC.ofBad (by assumption))
    | split
    | dsimp only

theorem execSacCxfm_frame {c : Fin 64} {s : State} : FrameOut 9518519942034331858945 s (execSacCxfm c s) := by
  unfold execSacCxfm
  repeat' first
    | exact rfl | intro _
    | (with_reducible first | exact Frame.refl _ _ | assumption | apply FrameOut.next | apply State.sacIssue_frame
                            | apply FrameC.step opCxfm_frame | apply FrameC.ofOk (by assumption)
                            | apply FrameC.ofGo (by assumption) | apply FrameC.ofBad (by assumption))
    | split
    | dsimp only

theorem execSacCmin_frame {c : Fin 64} {s : State} : FrameOut 9518519942034331858945 s (execSacCmin c s) := by
  unfold execSacCmin
  repeat' first
    | exact rfl | intro _
    | (with_reducible first | exact Frame.refl _ _ | assumption | apply FrameOut.next | apply State.sacIssue_frame
                            | apply FrameC.step opCmin_frame | apply FrameC.ofOk (by assumption)
                            | apply FrameC.ofGo (by assumption) | apply FrameC.ofBad (by assumption))
    | split
    | dsimp only

theorem execSacCmax_frame {c : Fin 64} {s : State} : FrameOut 9518519942034331858945 s (execSacCmax c s) := by
  unfold execSacCmax
  repeat' first
    | exact rfl | intro _
    | (with_reducible first | exact Frame.refl _ _ | assumption | apply FrameOut.next | apply State.sacIssue_frame
                            | apply FrameC.step opCmax_frame | apply FrameC.ofOk (by assumption)
                            | apply FrameC.ofGo (by assumption) | apply FrameC.ofBad (by assumption))
    | split
    | dsimp only

theorem execSacCsha_frame {c : Fin 64} {s : State} : FrameOut 9518519942034331858945 s (execSacCsha c s) := by
  unfold execSacCsha
  repeat' first
    | exact rfl | intro _
    | (with_reducible first | exact Frame.refl _ _ | assumption | apply FrameOut.next | apply State.sacIssue_frame
                            | apply FrameC.step opCsha_frame | apply FrameC.ofOk (by assumption)
                            | apply FrameC.ofGo (by assumption) | apply FrameC.ofBad (by assumption))
    | split
    | dsimp only

theorem execSacCand_frame {c : Fin 64} {s : State} : FrameOut 9518519942034331858945 s (execSacCand c s) := by
  unfold execSacCand
  repeat' first
    | exact rfl | intro _
    | (with_reducible first | exact Frame.refl _ _ | assumption | apply FrameOut.next | apply State.sacIssue_frame
                            | apply FrameC.step opCand_frame | apply FrameC.ofOk (by assumption)
                            | apply FrameC.ofGo (by assumption) | apply FrameC.ofBad (by assumption))
    | split
    | dsimp only

theorem execSacCor_frame {c : Fin 64} {s : State} : FrameOut 9518519942034331858945 s (execSacCor c s) := by
  unfold execSacCor
  repeat' first
    | exact rfl | intro _
    | (with_reducible first | exact Frame.refl _ _ | assumption | apply FrameOut.next | apply State.sacIssue_frame
                            | apply FrameC.step opCor_frame | apply FrameC.ofOk (by assumption)
                            | apply FrameC.ofGo (by assumption) | apply FrameC.ofBad (by assumption))
    | split
    | dsimp only

theorem execSacCxor_frame {c : Fin 64} {s : State} : FrameOut 9518519942034331858945 s (execSacCxor c s) := by
  unfold execSacCxor
  repeat' first
    | exact rfl | intro _
    | (with_reducible first | exact Frame.refl _ _ | assumption | apply FrameOut.next | apply State.sacIssue_frame
                            | apply FrameC.step opCxor_frame | apply FrameC.ofOk (by assumption)
                            | apply FrameC.ofGo (by assumption) | apply FrameC.ofBad (by assumption))
    | split
    | dsimp only

theorem execSacCcmp_frame {c : Fin 64} {s : State} : FrameOut 9518519942034331858945 s (execSacCcmp c s) := by
  unfold execSacCcmp
  repeat' first
    | exact rfl | intro _
    | (with_reducible first | exact Frame.refl _ _ | assumption | apply FrameOut.next | apply State.sacIssue_frame
                            | apply FrameC.step opCcmp_frame | apply FrameC.ofOk (by assumption)
                            | apply FrameC.ofGo (by assumption) | apply FrameC.ofBad (by assumption))
    | split
    | dsimp only

theorem execSacLir_frame {c : Fin 64} {s : State} : FrameOut 9518519942034331858945 s (execSacLir c s) := by
  unfold execSacLir
  repeat' first
    | exact rfl | intro _
    | (with_reducible first | exact Frame.refl _ _ | assumption | apply FrameOut.next | apply State.sacIssue_frame
                            | apply FrameC.step opLir_frame | apply FrameC.ofOk (by assumption)
                            | apply FrameC.ofGo (by assumption) | apply FrameC.ofBad (by assumption))
    | split
    | dsimp only

theorem execSacLii_frame {c : Fin 64} {s : State} : FrameOut 9518519942034331858945 s (execSacLii c s) := by
  unfold execSacLii
  repeat' first
    | exact rfl | intro _
    | (with_reducible first | exact Frame.refl _ _ | assumption | apply FrameOut.next | apply State.sacIssue_frame
                            | apply FrameC.step opLii_frame | apply FrameC.ofOk (by assumption)
                            | apply FrameC.ofGo (by assumption) | apply FrameC.ofBad (by assumption))
    | split
    | dsimp only

theorem execSacLdd_frame {c : Fin 64} {s : State} : FrameOut 9518519942034331859969 s (execSacLdd c s) := by
  unfold execSacLdd
  repeat' first
    | exact rfl | intro _
    | (with_reducible first | exact Frame.refl _ _ | assumption | apply FrameOut.next | apply State.sacIssue_frame
                            | apply FrameC.step opLdd_frame | apply FrameC.ofOk (by assumption)
                            | apply FrameC.ofGo (by assumption) | apply FrameC.ofBad (by assumption))
    | split
    | dsimp only

theorem execSacStd_frame {c : Fin 64} {s : State} : FrameOut 9536966686108041411613 s (execSacStd c s) := by
  unfold execSacStd
  repeat' first
    | exact rfl | intro _
    | (with_reducible first | exact Frame.refl _ _ | assumption | apply FrameOut.next | apply State.sacIssue_frame
                            | apply FrameC.step opStd_frame | apply FrameC.ofOk (by assumption)
                            | apply FrameC.ofGo (by assumption) | apply FrameC.ofBad (by assumption))
    | split
    | dsimp only

theorem execSacLd8_frame {c : Fin 64} {s : State} : FrameOut 9518519942034331859969 s (execSacLd8 c s) := by
  unfold execSacLd8
  repeat' first
    | exact rfl | intro _
    | (with_reducible first | exact Frame.refl _ _ | assumption | apply FrameOut.next | apply State.sacIssue_frame
                            | apply FrameC.step opLd8_frame | apply FrameC.ofOk (by assumption)
                            | apply FrameC.ofGo (by assumption) | apply FrameC.ofBad (by assumption))
    | split
    | dsimp only

theorem execSacPset_frame {c : Fin 64} {s : State} : FrameOut 9518519942034331858945 s (execSacPset c s) := by
  unfold execSacPset
  repeat' first
    | exact rfl | intro _
    | (with_reducible first | exact Frame.refl _ _ | assumption | apply FrameOut.next | apply State.sacIssue_frame
                            | apply FrameC.step opPset_frame | apply FrameC.ofOk (by assumption)
                            | apply FrameC.ofGo (by assumption) | apply FrameC.ofBad (by assumption))
    | split
    | dsimp only

theorem execSacMvs_frame {c : Fin 64} {s : State} : FrameOut 9518519942034331858945 s (execSacMvs c s) := by
  unfold execSacMvs
  repeat' first
    | exact rfl | intro _
    | (with_reducible first | exact Frame.refl _ _ | assumption | apply FrameOut.next | apply State.sacIssue_frame
                            | apply FrameC.step opMvs_frame | apply FrameC.ofOk (by assumption)
                            | apply FrameC.ofGo (by assumption) | apply FrameC.ofBad (by assumption))
    | split
    | dsimp only

theorem execSacMsv_frame {c : Fin 64} {s : State} : FrameOut 9518519942034331858945 s (execSacMsv c s) := by
  unfold execSacMsv
  repeat' first
    | exact rfl | intro _
    | (with_reducible first | exact Frame.refl _ _ | assumption | apply FrameOut.next | apply State.sacIssue_frame
                            | apply FrameC.step opMsv_frame | apply FrameC.ofOk (by assumption)
                            | apply FrameC.ofGo (by assumption) | apply FrameC.ofBad (by assumption))
    | split
    | dsimp only

theorem execSacReservedOpcode_frame {c : Fin 64} {s : State} :
    FrameOut 9518519942034331858945 s (execSacReservedOpcode c s) := by
  unfold execSacReservedOpcode
  repeat' first
    | exact rfl | intro _
    | (with_reducible first | exact Frame.refl _ _ | assumption | apply FrameOut.next | apply State.sacIssue_frame
                            | apply FrameC.step opReserved_frame | apply FrameC.ofOk (by assumption)
                            | apply FrameC.ofGo (by assumption) | apply FrameC.ofBad (by assumption))
    | split
    | dsimp only

theorem execSacLoopEnd_frame {c : Fin 64} {s : State} : FrameOut 73786976294838206464 s (execSacLoopEnd c s) := by
  unfold execSacLoopEnd
  repeat' first
    | exact rfl | intro _
    | (with_reducible first | exact Frame.refl _ _ | assumption | apply FrameOut.next | apply FrameOut.ite | apply Frame.ite
                            | apply Frame.step State.setSac_frame)
    | split
    | dsimp only

theorem execSacInterruptEntry_frame {c : Fin 64} {lat : BitVec 32} {s : State} :
    FrameOut 73786976294838206465 s (execSacInterruptEntry c lat s) := by
  unfold execSacInterruptEntry
  repeat' first
    | exact rfl | intro _
    | (with_reducible first | exact Frame.refl _ _ | assumption | apply FrameOut.next | apply FrameOut.ite | apply Frame.ite
                            | apply Frame.step State.setSacState_frame | apply Frame.step State.wr_frame
                            | apply Frame.step State.setSac_frame)
    | split
    | dsimp only

theorem State.sacEvent_frame {s : State} {c code : Nat} : Frame 73786976294838206465 s (State.sacEvent s c code) := by
  unfold State.sacEvent
  repeat' first
    | exact rfl | intro _
    | (with_reducible first | exact Frame.refl _ _ | assumption | apply Frame.step State.sacPendSet_frame
                            | apply Frame.step State.seqUp_frame | apply Frame.step State.wr_frame)
    | split
    | dsimp only

theorem State.sacXCancel_frame {s : State} {c ch : Nat} : Frame 73786976294838206465 s (State.sacXCancel s c ch) := by
  unfold State.sacXCancel
  repeat' first
    | exact rfl | intro _
    | (with_reducible first | exact Frame.refl _ _ | assumption | apply Frame.ite | apply Frame.step State.sacXEnd_frame)
    | split
    | dsimp only

theorem State.sacReset_frame {s : State} {c : Nat} : Frame 9518519942034331858945 s (State.sacReset s c) := by
  unfold State.sacReset
  repeat' first
    | exact rfl | intro _
    | (with_reducible first | exact Frame.refl _ _ | assumption | apply Frame.step State.sacXCancel_frame
                            | apply Frame.step State.setSacState_frame | apply Frame.step State.orphanOwner_frame
                            | apply Frame.step State.wr_frame)
    | split
    | dsimp only

theorem State.sacRelease_frame {s : State} {c : Nat} : Frame 73786976294838206465 s (State.sacRelease s c) := by
  unfold State.sacRelease
  repeat' first
    | exact rfl | intro _
    | (with_reducible first | exact Frame.refl _ _ | assumption | apply Frame.ite | apply Frame.step State.setSacState_frame
                            | apply Frame.step State.wr_frame | apply Frame.step State.setSac_frame)
    | split
    | dsimp only

theorem State.sacSiteReset_frame {s : State} {c : Nat} : Frame 9518519942034331859969 s (State.sacSiteReset s c) := by
  unfold State.sacSiteReset
  repeat' first
    | exact rfl | intro _
    | (with_reducible first | exact Frame.refl _ _ | assumption | apply Frame.ite | apply Frame.step State.sacReset_frame
                            | apply Frame.step State.drew_frame | apply Frame.step State.count_frame)
    | split
    | dsimp only

theorem State.sacRst_frame {s : State} {c : Nat} {v : Bool} : Frame 9518519942034331858945 s (State.sacRst s c v) := by
  unfold State.sacRst
  repeat' first
    | exact rfl | intro _
    | (with_reducible first | exact Frame.refl _ _ | assumption | apply Frame.ite | apply Frame.step State.sacRelease_frame
                            | apply Frame.step State.sacReset_frame)
    | split
    | dsimp only

theorem execSacRstWrite_frame {c : Fin 64} {v : Bool} {s : State} :
    FrameOut 9518519942034331858945 s (execSacRstWrite c v s) := by
  unfold execSacRstWrite
  repeat' first
    | exact rfl | intro _
    | (with_reducible first | exact Frame.refl _ _ | assumption | apply FrameOut.next | apply Frame.step State.sacRst_frame
                            | apply State.atBlock_frame)
    | split
    | dsimp only

theorem State.sacDbell_frame {s : State} {c : Nat} : Frame 73786976294838206465 s (State.sacDbell s c) := by
  unfold State.sacDbell
  repeat' first
    | exact rfl | intro _
    | (with_reducible first | exact Frame.refl _ _ | assumption | apply Frame.step State.sacPendSet_frame)
    | split
    | dsimp only

theorem execSacDbell_frame {c : Fin 64} {s : State} : FrameOut 73786976294838206465 s (execSacDbell c s) := by
  unfold execSacDbell
  repeat' first
    | exact rfl | intro _
    | (with_reducible first | exact Frame.refl _ _ | assumption | apply FrameOut.next
                            | apply Frame.step State.sacDbell_frame | apply State.atBlock_frame)
    | split
    | dsimp only

theorem State.sacHaltreq_frame {s : State} {c : Nat} : Frame 73786976294838206464 s (State.sacHaltreq s c) := by
  unfold State.sacHaltreq
  repeat' first
    | exact rfl | intro _
    | (with_reducible first | exact Frame.refl _ _ | assumption | apply Frame.ite | apply Frame.step State.setSac_frame)
    | split
    | dsimp only

theorem execSacHaltreq_frame {c : Fin 64} {s : State} : FrameOut 73786976294838206464 s (execSacHaltreq c s) := by
  unfold execSacHaltreq
  repeat' first
    | exact rfl | intro _
    | (with_reducible first | exact Frame.refl _ _ | assumption | apply FrameOut.next
                            | apply Frame.step State.sacHaltreq_frame | apply State.atBlock_frame)
    | split
    | dsimp only

theorem State.sacStart_frame {s : State} {c : Nat} : Frame 73786976294838206465 s (State.sacStart s c) := by
  unfold State.sacStart
  repeat' first
    | exact rfl | intro _
    | (with_reducible first | exact Frame.refl _ _ | assumption | apply Frame.ite | apply Frame.step State.setSacState_frame
                            | apply Frame.step State.setSac_frame)
    | split
    | dsimp only

theorem execSacStart_frame {c : Fin 64} {s : State} : FrameOut 73786976294838206465 s (execSacStart c s) := by
  unfold execSacStart
  repeat' first
    | exact rfl | intro _
    | (with_reducible first | exact Frame.refl _ _ | assumption | apply FrameOut.next
                            | apply Frame.step State.sacStart_frame | apply State.atBlock_frame)
    | split
    | dsimp only

theorem State.sacHalted_frame {s : State} {c : Nat} : Frame 73786976294838206465 s (State.sacHalted s c) := by
  unfold State.sacHalted
  repeat' first
    | exact rfl | intro _
    | (with_reducible first | exact Frame.refl _ _ | assumption | apply Frame.ite | apply Frame.step State.sacHaltNow_frame)
    | split
    | dsimp only

theorem execSacXcancel_frame {c : Fin 64} {ch : Fin 2} {s : State} :
    FrameOut 73786976294838206465 s (execSacXcancel c ch s) := by
  unfold execSacXcancel
  repeat' first
    | exact rfl | intro _
    | (with_reducible first | exact Frame.refl _ _ | assumption | apply FrameOut.next
                            | apply Frame.step State.sacXCancel_frame | apply State.atBlock_frame)
    | split
    | dsimp only

theorem State.sacXAck_frame {s : State} {c ch : Nat} : Frame 1 s (State.sacXAck s c ch) := by
  unfold State.sacXAck
  repeat' first
    | exact rfl | intro _
    | (with_reducible first | exact Frame.refl _ _ | assumption | apply Frame.ite | apply Frame.step State.wr_frame)
    | split
    | dsimp only

theorem execSacXack_frame {c : Fin 64} {ch : Fin 2} {s : State} : FrameOut 1 s (execSacXack c ch s) := by
  unfold execSacXack
  repeat' first
    | exact rfl | intro _
    | (with_reducible first | exact Frame.refl _ _ | assumption | apply FrameOut.next | apply Frame.step State.sacXAck_frame
                            | apply State.atBlock_frame)
    | split
    | dsimp only

theorem State.sacCntClr_frame {s : State} {c v : Nat} : Frame 1 s (State.sacCntClr s c v) := by
  unfold State.sacCntClr
  repeat' first
    | exact rfl | intro _
    | (with_reducible first | exact Frame.refl _ _ | assumption | apply Frame.ite | apply Frame.step State.wr_frame)
    | split
    | dsimp only

theorem execSacCntClr_frame {c : Fin 64} {v : BitVec 2} {s : State} : FrameOut 1 s (execSacCntClr c v s) := by
  unfold execSacCntClr
  repeat' first
    | exact rfl | intro _
    | (with_reducible first | exact Frame.refl _ _ | assumption | apply FrameOut.next
                            | apply Frame.step State.sacCntClr_frame | apply State.atBlock_frame)
    | split
    | dsimp only

end Sys2Proof.Machine
end

