-- ==== Sys2Proof/Laws/FrameSvp.lean ====
section
/-! SUPPORT. What each operation of Machine/Svp.lean can change (Laws/Frame.lean). -/
namespace Sys2Proof.Machine

theorem State.svpMatch_frame {s : State} {d m : Nat} : Frame 1 s (State.svpMatch s d m) := by
  unfold State.svpMatch
  repeat' first
    | exact rfl | intro _
    | (with_reducible first | exact Frame.refl _ _ | assumption | apply Frame.each | apply Frame.step State.hubPend_frame
                            | apply Frame.step State.wrBit_frame)
    | split
    | dsimp only

theorem State.svpEval_frame {s : State} {d prev : Nat} : Frame 147573952589676412929 s (State.svpEval s d prev) := by
  unfold State.svpEval
  repeat' first
    | exact rfl | intro _
    | (with_reducible first | exact Frame.refl _ _ | assumption | apply Frame.ite | apply Frame.each
                            | apply Frame.step State.svpMatch_frame | apply Frame.step State.wr_frame
                            | apply Frame.step State.setSvp_frame)
    | split
    | dsimp only

theorem State.svpMode_frame {s : State} {d m : Nat} : Frame 147573952589676412928 s (State.svpMode s d m) := by
  unfold State.svpMode
  repeat' first
    | exact rfl | intro _
    | (with_reducible first | exact Frame.refl _ _ | assumption | apply Frame.step State.setSvp_frame)
    | split
    | dsimp only

theorem State.svpTrig_frame {s : State} {p evt t : Nat} : Frame 147573952589676412929 s (State.svpTrig s p evt t) := by
  unfold State.svpTrig
  repeat' first
    | exact rfl | intro _
    | (with_reducible first | exact Frame.refl _ _ | assumption | apply Frame.ite | apply Frame.each
                            | apply Frame.step State.svpMatch_frame | apply Frame.step State.wr_frame
                            | apply Frame.step State.setSvp_frame)
    | split
    | dsimp only

theorem execSvpInputChange_frame {d : Fin 4} {n : Fin 16} {level : Bool} {s : State} :
    FrameOut 147573952589676412928 s (execSvpInputChange d n level s) := by
  unfold execSvpInputChange
  repeat' first
    | exact rfl | intro _
    | (with_reducible first | exact Frame.refl _ _ | assumption | apply FrameOut.next | apply FrameOut.ite | apply Frame.ite
                            | apply Frame.step State.setSvp_frame)
    | split
    | dsimp only

theorem execSvpFilterAccept_frame {d : Fin 4} {pins : BitVec 16} {s : State} :
    FrameOut 147573952589676412929 s (execSvpFilterAccept d pins s) := by
  unfold execSvpFilterAccept
  repeat' first
    | exact rfl | intro _
    | (with_reducible first | exact Frame.refl _ _ | assumption | apply FrameOut.next | apply FrameOut.ite | apply Frame.ite
                            | apply Frame.foldl | apply Frame.foldl1 | apply Frame.foldlP1 | apply Frame.foldlP2
                            | apply Frame.foldlP3 | apply Frame.foldlP4 | apply Frame.foldlP5
                            | apply Frame.step State.svpEval_frame | apply State.atBlock_frame
                            | apply Frame.step State.wr_frame)
    | split
    | dsimp only

theorem execSvpTrigPulseEnd_frame {d : Fin 4} {n : Fin 16} {s : State} :
    FrameOut 147573952589676412928 s (execSvpTrigPulseEnd d n s) := by
  unfold execSvpTrigPulseEnd
  repeat' first
    | exact rfl | intro _
    | (with_reducible first | exact Frame.refl _ _ | assumption | apply FrameOut.next | apply FrameOut.ite | apply Frame.ite
                            | apply Frame.step State.setSvp_frame)
    | split
    | dsimp only

theorem State.svpOther_frame {s : State} {d : Nat} : Frame 147573952589676412928 s (State.svpOther s d) := by
  unfold State.svpOther
  repeat' first
    | exact rfl | intro _
    | (with_reducible first | exact Frame.refl _ _ | assumption | apply Frame.step State.setSvp_frame)
    | split
    | dsimp only

theorem State.svpOut_frame {s : State} {d v : Nat} : Frame 147573952589676412929 s (State.svpOut s d v) := by
  unfold State.svpOut
  repeat' first
    | exact rfl | intro _
    | (with_reducible first | exact Frame.refl _ _ | assumption | apply Frame.step State.svpOther_frame
                            | apply Frame.step State.wr_frame)
    | split
    | dsimp only

theorem execSvpOutWrite_frame {d : Fin 4} {v : BitVec 16} {s : State} :
    FrameOut 147573952589676412929 s (execSvpOutWrite d v s) := by
  unfold execSvpOutWrite
  repeat' first
    | exact rfl | intro _
    | (with_reducible first | exact Frame.refl _ _ | assumption | apply FrameOut.next | apply Frame.step State.svpOut_frame
                            | apply State.atBlock_frame)
    | split
    | dsimp only

theorem State.svpLock_frame {s : State} {d v : Nat} : Frame 147573952589676412929 s (State.svpLock s d v) := by
  unfold State.svpLock
  repeat' first
    | exact rfl | intro _
    | (with_reducible first | exact Frame.refl _ _ | assumption | apply Frame.ite | apply Frame.step State.wr_frame
                            | apply Frame.step State.setSvp_frame)
    | split
    | dsimp only

theorem execSvpLockWrite_frame {d : Fin 4} {v : BitVec 16} {s : State} :
    FrameOut 147573952589676412929 s (execSvpLockWrite d v s) := by
  unfold execSvpLockWrite
  repeat' first
    | exact rfl | intro _
    | (with_reducible first | exact Frame.refl _ _ | assumption | apply FrameOut.next | apply Frame.step State.svpLock_frame
                            | apply State.atBlock_frame)
    | split
    | dsimp only

theorem State.setTxq_frame {s : State} {d u : Nat} {q : List Byte} :
    Frame 147573952589676412929 s (State.setTxq s d u q) := by
  unfold State.setTxq
  repeat' first
    | exact rfl | intro _
    | (with_reducible first | exact Frame.refl _ _ | assumption | apply Frame.step State.wr_frame
                            | apply Frame.step State.setSvp_frame)
    | split
    | dsimp only

theorem State.setRxq_frame {s : State} {d u : Nat} {q : List Byte} :
    Frame 147573952589676412929 s (State.setRxq s d u q) := by
  unfold State.setRxq
  repeat' first
    | exact rfl | intro _
    | (with_reducible first | exact Frame.refl _ _ | assumption | apply Frame.step State.wr_frame
                            | apply Frame.step State.setSvp_frame)
    | split
    | dsimp only

theorem State.uartWrite_frame {s : State} {d u : Nat} {b : Byte} :
    Frame 147573952589676412929 s (State.uartWrite s d u b) := by
  unfold State.uartWrite
  repeat' first
    | exact rfl | intro _
    | (with_reducible first | exact Frame.refl _ _ | assumption | apply Frame.ite | apply Frame.step State.setTxq_frame
                            | apply Frame.step State.wr_frame)
    | split
    | dsimp only

theorem execUartTxWrite_frame {d : Fin 4} {u : Fin 2} {b : BitVec 8} {s : State} :
    FrameOut 147573952589676412929 s (execUartTxWrite d u b s) := by
  unfold execUartTxWrite
  repeat' first
    | exact rfl | intro _
    | (with_reducible first | exact Frame.refl _ _ | assumption | apply FrameOut.next
                            | apply Frame.step State.uartWrite_frame | apply Frame.step State.svpOther_frame
                            | apply State.atBlock_frame)
    | split
    | dsimp only

theorem State.uartRead_frame {s : State} {d u : Nat} : Frame 147573952589676412929 s (State.uartRead s d u).2 := by
  unfold State.uartRead
  repeat' first
    | exact rfl | intro _
    | (with_reducible first | exact Frame.refl _ _ | assumption | apply Frame.step State.setRxq_frame)
    | split
    | dsimp only

theorem execUartRxRead_frame {d : Fin 4} {u : Fin 2} {s : State} :
    FrameOut 147573952589676412929 s (execUartRxRead d u s) := by
  unfold execUartRxRead
  repeat' first
    | exact rfl | intro _
    | (with_reducible first | exact Frame.refl _ _ | assumption | apply FrameOut.next
                            | apply Frame.step State.uartRead_frame | apply State.atBlock_frame
                            | apply Frame.ofP1 (by assumption))
    | split
    | dsimp only

theorem execUartByteSent_frame {d : Fin 4} {u : Fin 2} {s : State} :
    FrameOut 147573952589676412929 s (execUartByteSent d u s) := by
  unfold execUartByteSent
  repeat' first
    | exact rfl | intro _
    | (with_reducible first | exact Frame.refl _ _ | assumption | apply FrameOut.next | apply FrameOut.ite | apply Frame.ite
                            | apply Frame.step State.setTxq_frame | apply State.atBlock_frame)
    | split
    | dsimp only

theorem execUartByteReceived_frame {d : Fin 4} {u : Fin 2} {b : BitVec 8} {framing parity : Bool} {s : State} :
    FrameOut 147573952589676412929 s (execUartByteReceived d u b framing parity s) := by
  unfold execUartByteReceived
  repeat' first
    | exact rfl | intro _
    | (with_reducible first | exact Frame.refl _ _ | assumption | apply FrameOut.next | apply FrameOut.ite | apply Frame.ite
                            | apply Frame.step State.setRxq_frame | apply State.atBlock_frame
                            | apply Frame.step State.wr_frame)
    | split
    | dsimp only

theorem State.serialGo_frame {s0 s : State} {d r : Nat} {valid ackd status seq : Fld} {f : State → State} {W : Nat}
    (hW : 1 &&& W = 1) (hs :
    Frame W s0 s) (hf : ∀ u, Frame W s0 u → Frame W s0 (f u)) : Frame W s0 (State.serialGo s d r valid ackd status seq f) := by
  unfold State.serialGo
  repeat' first
    | exact mono_of rfl hW | intro _
    | (with_reducible first | exact Frame.refl _ _ | assumption | apply hf | apply Frame.ite
                            | apply Frame.step State.seqUp_frame | apply Frame.step State.wr_frame)
    | split
    | dsimp only

theorem State.serialEnd_frame {s : State} {r : Nat} {valid status : Fld} {st : Nat} :
    Frame 1 s (State.serialEnd s r valid status st) := by
  unfold State.serialEnd
  repeat' first
    | exact rfl | intro _
    | (with_reducible first | exact Frame.refl _ _ | assumption | apply Frame.step State.wr_frame)
    | split
    | dsimp only

theorem State.i2cGo_frame {s : State} {d i addr wlen rlen : Nat} : Frame 1 s (State.i2cGo s d i addr wlen rlen) := by
  unfold State.i2cGo
  repeat' first
    | exact rfl | intro _
    | (with_reducible first | exact Frame.refl _ _ | assumption | apply Frame.ite | apply State.serialGo_frame
                            | apply Frame.step State.rsvw_frame | apply Frame.step State.wr_frame)
    | split
    | dsimp only

theorem execI2cGo_frame {d : Fin 4} {i : Fin 2} {addr : BitVec 7} {wlen rlen : BitVec 6} {s : State} :
    FrameOut 147573952589676412929 s (execI2cGo d i addr wlen rlen s) := by
  unfold execI2cGo
  repeat' first
    | exact rfl | intro _
    | (with_reducible first | exact Frame.refl _ _ | assumption | apply FrameOut.next | apply Frame.step State.i2cGo_frame
                            | apply Frame.step State.svpOther_frame | apply State.atBlock_frame)
    | split
    | dsimp only

theorem State.i2cAck_frame {s : State} {d i : Nat} : Frame 1 s (State.i2cAck s d i) := by
  unfold State.i2cAck
  repeat' first
    | exact rfl | intro _
    | (with_reducible first | exact Frame.refl _ _ | assumption | apply Frame.ite | apply Frame.step State.wr_frame)
    | split
    | dsimp only

theorem execI2cAck_frame {d : Fin 4} {i : Fin 2} {s : State} : FrameOut 147573952589676412929 s (execI2cAck d i s) := by
  unfold execI2cAck
  repeat' first
    | exact rfl | intro _
    | (with_reducible first | exact Frame.refl _ _ | assumption | apply FrameOut.next | apply Frame.step State.i2cAck_frame
                            | apply Frame.step State.svpOther_frame | apply State.atBlock_frame)
    | split
    | dsimp only

theorem State.bufFill_frame {s : State} {r : Nat} {f : Fld} {data : List Byte} :
    Frame 1 s (State.bufFill s r f data) := by
  unfold State.bufFill
  repeat' first
    | exact rfl | intro _
    | (with_reducible first | exact Frame.refl _ _ | assumption | apply Frame.each | apply Frame.step State.wr_frame)
    | split
    | dsimp only

theorem execI2cDone_frame {d : Fin 4} {i : Fin 2} {fail : Option (Fin 3)} {data : List Byte} {s : State} :
    FrameOut 1 s (execI2cDone d i fail data s) := by
  unfold execI2cDone
  repeat' first
    | exact rfl | intro _
    | (with_reducible first | exact Frame.refl _ _ | assumption | apply FrameOut.next | apply FrameOut.ite | apply Frame.ite
                            | apply Frame.step State.bufFill_frame | apply Frame.step State.serialEnd_frame
                            | apply State.atBlock_frame)
    | split
    | dsimp only

theorem execI2cSclTimeout_frame {d : Fin 4} {i : Fin 2} {s : State} : FrameOut 1 s (execI2cSclTimeout d i s) := by
  unfold execI2cSclTimeout
  repeat' first
    | exact rfl | intro _
    | (with_reducible first | exact Frame.refl _ _ | assumption | apply FrameOut.next | apply FrameOut.ite | apply Frame.ite
                            | apply Frame.step State.serialEnd_frame | apply State.atBlock_frame)
    | split
    | dsimp only

theorem State.spiGo_frame {s : State} {d cs len : Nat} : Frame 1 s (State.spiGo s d cs len) := by
  unfold State.spiGo
  repeat' first
    | exact rfl | intro _
    | (with_reducible first | exact Frame.refl _ _ | assumption | apply Frame.ite | apply State.serialGo_frame
                            | apply Frame.step State.rsvw_frame | apply Frame.step State.wr_frame)
    | split
    | dsimp only

theorem execSpiGo_frame {d cs : Fin 4} {len : BitVec 7} {s : State} :
    FrameOut 147573952589676412929 s (execSpiGo d cs len s) := by
  unfold execSpiGo
  repeat' first
    | exact rfl | intro _
    | (with_reducible first | exact Frame.refl _ _ | assumption | apply FrameOut.next | apply Frame.step State.spiGo_frame
                            | apply Frame.step State.svpOther_frame | apply State.atBlock_frame)
    | split
    | dsimp only

theorem State.spiAck_frame {s : State} {d : Nat} : Frame 1 s (State.spiAck s d) := by
  unfold State.spiAck
  repeat' first
    | exact rfl | intro _
    | (with_reducible first | exact Frame.refl _ _ | assumption | apply Frame.ite | apply Frame.step State.wr_frame)
    | split
    | dsimp only

theorem execSpiAck_frame {d : Fin 4} {s : State} : FrameOut 147573952589676412929 s (execSpiAck d s) := by
  unfold execSpiAck
  repeat' first
    | exact rfl | intro _
    | (with_reducible first | exact Frame.refl _ _ | assumption | apply FrameOut.next | apply Frame.step State.spiAck_frame
                            | apply Frame.step State.svpOther_frame | apply State.atBlock_frame)
    | split
    | dsimp only

theorem execSpiDone_frame {d : Fin 4} {data : List Byte} {s : State} : FrameOut 1 s (execSpiDone d data s) := by
  unfold execSpiDone
  repeat' first
    | exact rfl | intro _
    | (with_reducible first | exact Frame.refl _ _ | assumption | apply FrameOut.next | apply FrameOut.ite | apply Frame.ite
                            | apply Frame.step State.bufFill_frame | apply Frame.step State.serialEnd_frame
                            | apply State.atBlock_frame)
    | split
    | dsimp only

theorem State.svpStrap_frame {s : State} {levels : Nat} : Frame 1 s (State.svpStrap s levels) := by
  unfold State.svpStrap
  repeat' first
    | exact rfl | intro _
    | (with_reducible first | exact Frame.refl _ _ | assumption | apply Frame.step State.wrb_frame
                            | apply Frame.step State.wr_frame)
    | split
    | dsimp only

theorem State.svpReset_frame {s : State} {d : Nat} : Frame 147573952589676412929 s (State.svpReset s d) := by
  unfold State.svpReset
  repeat' first
    | exact rfl | intro _
    | (with_reducible first | exact Frame.refl _ _ | assumption | apply Frame.step State.wr_frame
                            | apply Frame.step State.setSvp_frame)
    | split
    | with_reducible apply Frame.step (Frame.upd_act (by first | exact KV.risingFrom_filter _ | exact KV.risingFrom_dropRange _ _ | exact KV.wf_filter _ | exact KV.wf_dropRange _ _ | exact KV.risingFrom_put _ _ | exact KV.risingFrom_foldl _))

end Sys2Proof.Machine
end

