-- ==== Sys2Proof/Laws/FrameDen.lean ====
section
/-! SUPPORT. What each operation of Machine/Den.lean can change (Laws/Frame.lean). -/
namespace Sys2Proof.Machine

theorem State.fillChip_frame {s : State} {a : Nat} {data : List Byte} :
    Frame 9463179709813203204125 s (State.fillChip s a data) := by
  unfold State.fillChip
  repeat' first
    | exact rfl | intro _
    | (with_reducible first | exact Frame.refl _ _ | assumption | apply Frame.ite | apply Frame.step State.writeChip_frame)
    | split
    | dsimp only

theorem execOwlFirmwareVerified_frame {d : Fin 4} {k : Fin 2} {s : State} :
    FrameOut 10680664818678033610781 s (execOwlFirmwareVerified d k s) := by
  unfold execOwlFirmwareVerified
  repeat' first
    | exact rfl | intro _
    | (with_reducible first | exact Frame.refl _ _ | assumption | apply FrameOut.next | apply FrameOut.ite | apply Frame.ite
                            | apply Frame.step State.fillChip_frame | apply Frame.step State.setReady_frame
                            | apply Frame.step State.setWdog_frame | apply Frame.step State.setOwl_frame)
    | split
    | dsimp only

theorem execSpBootRelease_frame {d : Fin 4} {s : State} :
    FrameOut 9463179709813203204125 s (execSpBootRelease d s) := by
  unfold execSpBootRelease
  repeat' first
    | exact rfl | intro _
    | (with_reducible first | exact Frame.refl _ _ | assumption | apply FrameOut.next | apply FrameOut.ite | apply Frame.ite
                            | apply Frame.each | apply Frame.step State.fillChip_frame
                            | apply Frame.step State.spRelease_frame | apply Frame.step State.setFail_frame
                            | apply Frame.step State.setReady_frame)
    | split
    | dsimp only

theorem execSpXcopy_frame {d : Fin 4} {s : State} : FrameOut 9465490056458551491837 s (execSpXcopy d s) := by
  unfold execSpXcopy
  repeat' first
    | exact rfl | intro _
    | (with_reducible first | exact Frame.refl _ _ | assumption | apply FrameOut.next | apply FrameOut.ite | apply Frame.ite
                            | apply Frame.each | apply Frame.step State.storeBytes_frame
                            | apply Frame.step State.wr_frame | apply Frame.ofP1 (by assumption))
    | split
    | dsimp only

theorem State.spRst_frame {s : State} {n : Nat} {v : Bool} : Frame 9463179709813203204097 s (State.spRst s n v) := by
  unfold State.spRst
  repeat' first
    | exact rfl | intro _
    | (with_reducible first | exact Frame.refl _ _ | assumption | apply Frame.ite | apply Frame.step State.spRelease_frame
                            | apply Frame.step State.spReset_frame)
    | split
    | dsimp only

theorem execSpRstWrite_frame {n : Fin 16} {v : Bool} {s : State} :
    FrameOut 9463179709813203204097 s (execSpRstWrite n v s) := by
  unfold execSpRstWrite
  repeat' first
    | exact rfl | intro _
    | (with_reducible first | exact Frame.refl _ _ | assumption | apply FrameOut.next | apply Frame.step State.spRst_frame
                            | apply State.atBlock_frame)
    | split
    | dsimp only

theorem execOwlBoostGrant_frame {d : Fin 4} {s : State} : FrameOut 590295810358705651712 s (execOwlBoostGrant d s) := by
  unfold execOwlBoostGrant
  repeat' first
    | exact rfl | intro _
    | (with_reducible first | exact Frame.refl _ _ | assumption | apply FrameOut.next | apply FrameOut.ite | apply Frame.ite
                            | apply Frame.step State.setBoost_frame)
    | split
    | dsimp only

theorem State.wdogWrite_frame {s : State} {d : Nat} : Frame 1180591620717411303424 s (State.wdogWrite s d) := by
  unfold State.wdogWrite
  repeat' first
    | exact rfl | intro _
    | (with_reducible first | exact Frame.refl _ _ | assumption | apply Frame.step State.setWdog_frame)
    | split
    | dsimp only

theorem execOwlWdogWrite_frame {d : Fin 4} {s : State} : FrameOut 1180591620717411303424 s (execOwlWdogWrite d s) := by
  unfold execOwlWdogWrite
  repeat' first
    | exact rfl | intro _
    | (with_reducible first | exact Frame.refl _ _ | assumption | apply FrameOut.next
                            | apply Frame.step State.wdogWrite_frame | apply State.atBlock_frame)
    | split
    | dsimp only

theorem execOwlWatchdogExpire_frame {d : Fin 4} {s : State} :
    FrameOut 10071922264245618407425 s (execOwlWatchdogExpire d s) := by
  unfold execOwlWatchdogExpire
  repeat' first
    | exact rfl | intro _
    | (with_reducible first | exact Frame.refl _ _ | assumption | apply FrameOut.next | apply FrameOut.ite | apply Frame.ite
                            | apply Frame.step State.owlRestart_frame | apply Frame.step State.raise_frame
                            | apply Frame.step State.setBoost_frame)
    | split
    | dsimp only

theorem execTelemetrySample_frame {d : Fin 4} {rec : BitVec 2048} {slot : BitVec 16} {late : Bool} {s : State} :
    FrameOut 9465490056458551491837 s (execTelemetrySample d rec slot late s) := by
  unfold execTelemetrySample
  repeat' first
    | exact rfl | intro _
    | (with_reducible first | exact Frame.refl _ _ | assumption | apply FrameOut.next | apply FrameOut.ite | apply Frame.ite
                            | apply Frame.each | apply Frame.step State.storeBytes_frame
                            | apply Frame.step State.count_frame | apply Frame.step State.wr_frame
                            | apply Frame.ofP1 (by assumption))
    | split
    | dsimp only

theorem State.spSwi_frame {s : State} {n v : Nat} : Frame 1 s (State.spSwi s n v) := by
  unfold State.spSwi
  repeat' first
    | exact rfl | intro _
    | (with_reducible first | exact Frame.refl _ _ | assumption | apply Frame.ite | apply Frame.each
                            | apply Frame.step State.hubPend_frame)
    | split
    | dsimp only

theorem execSpSwi_frame {n : Fin 16} {v : BitVec 4} {s : State} : FrameOut 1 s (execSpSwi n v s) := by
  unfold execSpSwi
  repeat' first
    | exact rfl | intro _
    | (with_reducible first | exact Frame.refl _ _ | assumption | apply FrameOut.next | apply Frame.step State.spSwi_frame
                            | apply State.atBlock_frame)
    | split
    | dsimp only

theorem State.mtipRefresh_frame {s : State} {n : Nat} : Frame 18446744073709551616 s (State.mtipRefresh s n) := by
  unfold State.mtipRefresh
  repeat' first
    | exact rfl | intro _
    | (with_reducible first | exact Frame.refl _ _ | assumption | apply Frame.step State.setSp_frame)
    | split
    | dsimp only

theorem execMtimecmpMatch_frame {n : Fin 16} {s : State} : FrameOut 18446744073709551616 s (execMtimecmpMatch n s) := by
  unfold execMtimecmpMatch
  repeat' first
    | exact rfl | intro _
    | (with_reducible first | exact Frame.refl _ _ | assumption | apply FrameOut.next
                            | apply Frame.step State.mtipRefresh_frame)
    | split
    | dsimp only

theorem State.lockRead_frame {s : State} {d n : Nat} {i : Ini} : Frame 1 s (State.lockRead s d n i).2 := by
  unfold State.lockRead
  repeat' first
    | exact rfl | intro _
    | (with_reducible first | exact Frame.refl _ _ | assumption | apply Frame.iteP1 | apply Frame.ite
                            | apply Frame.step State.wr_frame)
    | split
    | dsimp only

theorem execLockRead_frame {d : Fin 4} {n : Fin 64} {who : Ini} {s : State} :
    FrameOut 1 s (execLockRead d n who s) := by
  unfold execLockRead
  repeat' first
    | exact rfl | intro _
    | (with_reducible first | exact Frame.refl _ _ | assumption | apply FrameOut.next
                            | apply Frame.step State.lockRead_frame | apply State.atBlock_frame
                            | apply Frame.ofP1 (by assumption))
    | split
    | dsimp only

theorem State.lockWrite_frame {s : State} {d n : Nat} {i : Ini} : Frame 1 s (State.lockWrite s d n i) := by
  unfold State.lockWrite
  repeat' first
    | exact rfl | intro _
    | (with_reducible first | exact Frame.refl _ _ | assumption | apply Frame.ite | apply Frame.step State.wr_frame)
    | split
    | dsimp only

theorem execLockRelease_frame {d : Fin 4} {n : Fin 64} {who : Ini} {s : State} :
    FrameOut 1 s (execLockRelease d n who s) := by
  unfold execLockRelease
  repeat' first
    | exact rfl | intro _
    | (with_reducible first | exact Frame.refl _ _ | assumption | apply FrameOut.next
                            | apply Frame.step State.lockWrite_frame | apply State.atBlock_frame)
    | split
    | dsimp only

theorem State.denPath_frame {s0 s : State} {d : Nat} {tap : Bool} {f : State → State} {W : Nat} (_ : 0 &&& W = 0) (hs :
    Frame W s0 s) (hf : ∀ u, Frame W s0 u → Frame W s0 (f u)) : Frame W s0 (State.denPath s d tap f) := by
  unfold State.denPath
  repeat' first
    | exact rfl | intro _
    | (with_reducible first | exact Frame.refl _ _ | assumption | apply hf | apply Frame.ite | apply State.atBlock_frame)
    | split
    | dsimp only

theorem State.denWrite_frame {s0 s : State} {d : Nat} {tap : Bool} {f : State → State} {W : Nat} (hW : 1 &&& W = 1)
    (hs : Frame W s0 s) (hf : ∀ u, Frame W s0 u → Frame W s0 (f u)) : Frame W s0 (State.denWrite s d tap f) := by
  unfold State.denWrite
  repeat' first
    | exact mono_of rfl hW | intro _
    | (with_reducible first | exact Frame.refl _ _ | assumption | apply hf | apply Frame.ite | apply State.denPath_frame
                            | apply Frame.step State.wr_frame)
    | split
    | dsimp only

theorem State.denTake_frame {s : State} {d : Nat} {tap : Bool} :
    Frame 9444732965739493652481 s (State.denTake s d tap) := by
  unfold State.denTake
  repeat' first
    | exact rfl | intro _
    | (with_reducible first | exact Frame.refl _ _ | assumption | apply Frame.ite | apply Frame.step State.raise_frame
                            | apply Frame.step State.wrb_frame | apply Frame.step State.wr_frame)
    | split
    | dsimp only

theorem execDenTake_frame {d : Fin 4} {tap pcie : Bool} {s : State} :
    FrameOut 9444732965739493652481 s (execDenTake d tap pcie s) := by
  unfold execDenTake
  repeat' first
    | exact rfl | intro _
    | (with_reducible first | exact Frame.refl _ _ | assumption | apply FrameOut.next | apply FrameOut.ite | apply Frame.ite
                            | apply Frame.step State.denTake_frame | apply State.denPath_frame)
    | split
    | dsimp only

theorem State.denDrop_frame {s : State} {d : Nat} {tap : Bool} : Frame 1 s (State.denDrop s d tap) := by
  unfold State.denDrop
  repeat' first
    | exact rfl | intro _
    | (with_reducible first | exact Frame.refl _ _ | assumption | apply Frame.ite | apply Frame.step State.wr_frame)
    | split
    | dsimp only

theorem execDenDrop_frame {d : Fin 4} {tap : Bool} {s : State} : FrameOut 1 s (execDenDrop d tap s) := by
  unfold execDenDrop
  repeat' first
    | exact rfl | intro _
    | (with_reducible first | exact Frame.refl _ _ | assumption | apply FrameOut.next | apply Frame.step State.denDrop_frame
                            | apply State.denPath_frame)
    | split
    | dsimp only

theorem State.dropRegs_frame {s : State} {lo hi : Nat} : Frame 3 s (State.dropRegs s lo hi) := by
  unfold State.dropRegs
  repeat' first
    | exact rfl | intro _
    | (with_reducible first | exact Frame.refl _ _ | assumption)
    | split
    | with_reducible apply Frame.step (Frame.upd_act_stg (by first | exact KV.risingFrom_filter _ | exact KV.risingFrom_dropRange _ _ | exact KV.wf_filter _ | exact KV.wf_dropRange _ _ | exact KV.risingFrom_put _ _ | exact KV.risingFrom_foldl _) (by first | exact KV.risingFrom_filter _ | exact KV.risingFrom_dropRange _ _ | exact KV.wf_filter _ | exact KV.wf_dropRange _ _ | exact KV.risingFrom_put _ _ | exact KV.risingFrom_foldl _))

theorem State.clearTerminal_frame {s : State} {core : Nat} :
    Frame 129127208515966861312 s (State.clearTerminal s core) := by
  unfold State.clearTerminal
  repeat' first
    | exact rfl | intro _
    | (with_reducible first | exact Frame.refl _ _ | assumption | apply Frame.ite | apply Frame.step State.setSac_frame
                            | apply Frame.step State.setOwl_frame | apply Frame.step State.setSp_frame)
    | split
    | dsimp only

theorem State.denReset_frame {s : State} {d : Nat} : Frame 604592037015831627956227 s (State.denReset s d) := by
  unfold State.denReset
  repeat' first
    | exact rfl | intro _
    | (with_reducible first | exact Frame.refl _ _ | assumption | apply Frame.each
                            | apply Frame.step State.clearTerminal_frame | apply Frame.step State.dropRegs_frame
                            | apply Frame.step State.setBmReq_frame | apply Frame.step State.setCmp_frame)
    | split
    | dsimp only

theorem execDenPowerOn_frame {d : Fin 4} {s : State} : FrameOut 614036769981571121608707 s (execDenPowerOn d s) := by
  unfold execDenPowerOn
  repeat' first
    | exact rfl | intro _
    | (with_reducible first | exact Frame.refl _ _ | assumption | apply FrameOut.next
                            | apply Frame.step State.denReset_frame | apply Frame.step State.orphanOwner_frame)
    | split
    | dsimp only

theorem execTrstN_frame {s : State} : FrameOut 614331917886750474434563 s (execTrstN s) := by
  unfold execTrstN
  repeat' first
    | exact rfl | intro _
    | (with_reducible first | exact Frame.refl _ _ | assumption | apply FrameOut.next | apply Frame.each
                            | apply Frame.step State.denReset_frame | apply Frame.step State.orphanOwner_frame)
    | split
    | with_reducible apply Frame.step Frame.upd_tap

theorem State.tapIr_frame {s : State} {ir : Nat} : Frame 295147905179352825856 s (State.tapIr s ir) := by
  unfold State.tapIr
  repeat' first
    | exact rfl | intro _
    | (with_reducible first | exact Frame.refl _ _ | assumption)
    | split
    | with_reducible apply Frame.step Frame.upd_tap

theorem State.tapScan_frame {s : State} {ir : Nat} {levels cells : List Bool} :
    Frame 295147905179352825856 s (State.tapScan s ir levels cells) := by
  unfold State.tapScan
  repeat' first
    | exact rfl | intro _
    | (with_reducible first | exact Frame.refl _ _ | assumption)
    | split
    | with_reducible apply Frame.step Frame.upd_tap

theorem execExtest_frame {levels cells : List Bool} {s : State} :
    FrameOut 295147905179352825856 s (execExtest levels cells s) := by
  unfold execExtest
  repeat' first
    | exact rfl | intro _
    | (with_reducible first | exact Frame.refl _ _ | assumption | apply FrameOut.next | apply Frame.step State.tapScan_frame)
    | split
    | dsimp only

theorem execSamplePreload_frame {levels cells : List Bool} {s : State} :
    FrameOut 295147905179352825856 s (execSamplePreload levels cells s) := by
  unfold execSamplePreload
  repeat' first
    | exact rfl | intro _
    | (with_reducible first | exact Frame.refl _ _ | assumption | apply FrameOut.next | apply Frame.step State.tapScan_frame)
    | split
    | dsimp only

theorem execIdcode_frame {s : State} : FrameOut 295147905179352825856 s (execIdcode s) := by
  unfold execIdcode
  repeat' first
    | exact rfl | intro _
    | (with_reducible first | exact Frame.refl _ _ | assumption | apply FrameOut.next)
    | split
    | with_reducible apply Frame.step Frame.upd_tap

theorem execHighz_frame {s : State} : FrameOut 295147905179352825856 s (execHighz s) := by
  unfold execHighz
  repeat' first
    | exact rfl | intro _
    | (with_reducible first | exact Frame.refl _ _ | assumption | apply FrameOut.next | apply Frame.step State.tapIr_frame)
    | split
    | dsimp only

theorem execClamp_frame {s : State} : FrameOut 295147905179352825856 s (execClamp s) := by
  unfold execClamp
  repeat' first
    | exact rfl | intro _
    | (with_reducible first | exact Frame.refl _ _ | assumption | apply FrameOut.next | apply Frame.step State.tapIr_frame)
    | split
    | dsimp only

theorem execExtestPulse_frame {levels cells : List Bool} {s : State} :
    FrameOut 295147905179352825856 s (execExtestPulse levels cells s) := by
  unfold execExtestPulse
  repeat' first
    | exact rfl | intro _
    | (with_reducible first | exact Frame.refl _ _ | assumption | apply FrameOut.next | apply Frame.step State.tapScan_frame)
    | split
    | dsimp only

theorem execExtestTrain_frame {levels cells : List Bool} {s : State} :
    FrameOut 295147905179352825856 s (execExtestTrain levels cells s) := by
  unfold execExtestTrain
  repeat' first
    | exact rfl | intro _
    | (with_reducible first | exact Frame.refl _ _ | assumption | apply FrameOut.next | apply Frame.step State.tapScan_frame)
    | split
    | dsimp only

theorem execDenstat_frame {s : State} : FrameOut 295147905179352825856 s (execDenstat s) := by
  unfold execDenstat
  repeat' first
    | exact rfl | intro _
    | (with_reducible first | exact Frame.refl _ _ | assumption | apply FrameOut.next)
    | split
    | with_reducible apply Frame.step Frame.upd_tap

theorem execBypass_frame {code : BitVec 8} {s : State} : FrameOut 295147905179352825856 s (execBypass code s) := by
  unfold execBypass
  repeat' first
    | exact rfl | intro _
    | (with_reducible first | exact Frame.refl _ _ | assumption | apply FrameOut.next | apply FrameOut.ite | apply Frame.ite)
    | split
    | with_reducible apply Frame.step Frame.upd_tap

theorem State.dbgacc_frame {s : State} {status data : Nat} :
    Frame 295147905179352825856 s (State.dbgacc s status data) := by
  unfold State.dbgacc
  repeat' first
    | exact rfl | intro _
    | (with_reducible first | exact Frame.refl _ _ | assumption)
    | split
    | with_reducible apply Frame.step Frame.upd_tap

theorem execDbgaccNop_frame {d : Fin 4} {reserved : Bool} {s : State} :
    FrameOut 295147905179352826881 s (execDbgaccNop d reserved s) := by
  unfold execDbgaccNop
  repeat' first
    | exact rfl | intro _
    | (with_reducible first | exact Frame.refl _ _ | assumption | apply FrameOut.next | apply FrameOut.ite | apply Frame.ite
                            | apply Frame.step State.dbgacc_frame | apply Frame.step State.drew_frame
                            | apply Frame.step State.wr_frame)
    | split
    | dsimp only

theorem State.askHalt_frame {s : State} {core : Nat} : Frame 129127208515966861312 s (State.askHalt s core) := by
  unfold State.askHalt
  repeat' first
    | exact rfl | intro _
    | (with_reducible first | exact Frame.refl _ _ | assumption | apply Frame.ite | apply Frame.step State.sacHaltreq_frame
                            | apply Frame.step State.setOwl_frame | apply Frame.step State.setSp_frame)
    | split
    | dsimp only

theorem State.haltDone_frame {s : State} {core : Nat} : Frame 129127208515966861313 s (State.haltDone s core) := by
  unfold State.haltDone
  repeat' first
    | exact rfl | intro _
    | (with_reducible first | exact Frame.refl _ _ | assumption | apply Frame.ite | apply Frame.step State.sacHalted_frame
                            | apply Frame.step State.wr_frame | apply Frame.step State.setOwl_frame
                            | apply Frame.step State.setSp_frame)
    | split
    | dsimp only

theorem execCoreHalted_frame {core : Fin 96} {s : State} :
    FrameOut 129127208515966861313 s (execCoreHalted core s) := by
  unfold execCoreHalted
  repeat' first
    | exact rfl | intro _
    | (with_reducible first | exact Frame.refl _ _ | assumption | apply FrameOut.next
                            | apply Frame.step State.haltDone_frame)
    | split
    | dsimp only

theorem State.coreResume_frame {s : State} {core : Nat} {one : Bool} :
    Frame 1309718829233378164737 s (State.coreResume s core one) := by
  unfold State.coreResume
  repeat' first
    | exact rfl | intro _
    | (with_reducible first | exact Frame.refl _ _ | assumption | apply Frame.ite | apply Frame.step State.sacStart_frame
                            | apply Frame.step State.wr_frame | apply Frame.step State.setWdog_frame
                            | apply Frame.step State.setSac_frame | apply Frame.step State.setOwl_frame
                            | apply Frame.step State.setSp_frame)
    | split
    | dsimp only

theorem State.denCtl_frame {s0 s : State} {d : Nat} {f : Nat → State → State} {W : Nat} (hW : 1 &&& W = 1) (hs :
    Frame W s0 s) (hf : ∀ n u, Frame W s0 u → Frame W s0 (f n u)) : Frame W s0 (State.denCtl s d f) := by
  unfold State.denCtl
  repeat' first
    | exact mono_of rfl hW | intro _
    | (with_reducible first | exact Frame.refl _ _ | assumption | apply hf | apply Frame.ite
                            | apply Frame.step State.wr_frame)
    | split
    | dsimp only

theorem execDenHalt_frame {d : Fin 4} {tap : Bool} {s : State} :
    FrameOut 129127208515966861313 s (execDenHalt d tap s) := by
  unfold execDenHalt
  repeat' first
    | exact rfl | intro _
    | (with_reducible first | exact Frame.refl _ _ | assumption | apply FrameOut.next | apply State.denCtl_frame
                            | apply Frame.step State.askHalt_frame | apply State.denWrite_frame)
    | split
    | dsimp only

theorem execDenResume_frame {d : Fin 4} {tap : Bool} {s : State} :
    FrameOut 1309718829233378164737 s (execDenResume d tap s) := by
  unfold execDenResume
  repeat' first
    | exact rfl | intro _
    | (with_reducible first | exact Frame.refl _ _ | assumption | apply FrameOut.next | apply State.denCtl_frame
                            | apply Frame.step State.coreResume_frame | apply State.denWrite_frame)
    | split
    | dsimp only

theorem execDenStep_frame {d : Fin 4} {tap : Bool} {s : State} :
    FrameOut 1309718829233378164737 s (execDenStep d tap s) := by
  unfold execDenStep
  repeat' first
    | exact rfl | intro _
    | (with_reducible first | exact Frame.refl _ _ | assumption | apply FrameOut.next | apply State.denCtl_frame
                            | apply Frame.step State.coreResume_frame | apply State.denWrite_frame)
    | split
    | dsimp only

theorem State.setTerminal_frame {s : State} {core : Nat} {t : Option Nat × Option Nat × Bool × Bool} :
    Frame 129127208515966861312 s (State.setTerminal s core t) := by
  unfold State.setTerminal
  repeat' first
    | exact rfl | intro _
    | (with_reducible first | exact Frame.refl _ _ | assumption | apply Frame.ite | apply Frame.step State.setSac_frame
                            | apply Frame.step State.setOwl_frame | apply Frame.step State.setSp_frame)
    | split
    | dsimp only

theorem State.dtxSend_frame {s : State} {core v : Nat} : Frame 129127208515966861312 s (State.dtxSend s core v) := by
  unfold State.dtxSend
  repeat' first
    | exact rfl | intro _
    | (with_reducible first | exact Frame.refl _ _ | assumption | apply Frame.step State.setTerminal_frame)
    | split
    | dsimp only

theorem State.dtxAck_frame {s : State} {core : Nat} : Frame 129127208515966861312 s (State.dtxAck s core) := by
  unfold State.dtxAck
  repeat' first
    | exact rfl | intro _
    | (with_reducible first | exact Frame.refl _ _ | assumption | apply Frame.step State.setTerminal_frame)
    | split
    | dsimp only

theorem State.drxSend_frame {s : State} {core v : Nat} : Frame 129127208515966861312 s (State.drxSend s core v) := by
  unfold State.drxSend
  repeat' first
    | exact rfl | intro _
    | (with_reducible first | exact Frame.refl _ _ | assumption | apply Frame.step State.setTerminal_frame)
    | split
    | dsimp only

theorem State.drxRelease_frame {s : State} {core : Nat} : Frame 129127208515966861312 s (State.drxRelease s core) := by
  unfold State.drxRelease
  repeat' first
    | exact rfl | intro _
    | (with_reducible first | exact Frame.refl _ _ | assumption | apply Frame.step State.setTerminal_frame)
    | split
    | dsimp only

theorem State.dtermWrite_frame {s : State} {core v : Nat} :
    Frame 129127208515966861312 s (State.dtermWrite s core v) := by
  unfold State.dtermWrite
  repeat' first
    | exact rfl | intro _
    | (with_reducible first | exact Frame.refl _ _ | assumption | apply Frame.step State.setTerminal_frame)
    | split
    | dsimp only

theorem execDtxack_frame {d : Fin 4} {tap : Bool} {s : State} :
    FrameOut 129127208515966861313 s (execDtxack d tap s) := by
  unfold execDtxack
  repeat' first
    | exact rfl | intro _
    | (with_reducible first | exact Frame.refl _ _ | assumption | apply FrameOut.next | apply Frame.step State.dtxAck_frame
                            | apply State.denWrite_frame)
    | split
    | dsimp only

theorem execDenDrxWrite_frame {d : Fin 4} {tap : Bool} {v : BitVec 32} {s : State} :
    FrameOut 129127208515966861313 s (execDenDrxWrite d tap v s) := by
  unfold execDenDrxWrite
  repeat' first
    | exact rfl | intro _
    | (with_reducible first | exact Frame.refl _ _ | assumption | apply FrameOut.next | apply Frame.step State.drxSend_frame
                            | apply State.denWrite_frame)
    | split
    | dsimp only

end Sys2Proof.Machine
end

