-- ==== Sys2Proof/Laws/FrameGsl.lean ====
section
/-! SUPPORT. What each operation of Machine/Gsl.lean can change (Laws/Frame.lean). -/
namespace Sys2Proof.Machine

theorem State.enqueue_frame {s : State} {g : Nat} {f : GFrame} :
    Frame 2361183241434822606848 s (State.enqueue s g f) := by
  unfold State.enqueue
  repeat' first
    | exact rfl | intro _
    | (with_reducible first | exact Frame.refl _ _ | assumption | apply Frame.step State.setGsl_frame)
    | split
    | dsimp only

theorem State.park_frame {s : State} {g : Nat} {f : GFrame} : Frame 2361183241434822606848 s (State.park s g f) := by
  unfold State.park
  repeat' first
    | exact rfl | intro _
    | (with_reducible first | exact Frame.refl _ _ | assumption | apply Frame.step State.setGsl_frame)
    | split
    | dsimp only

theorem State.gslPut_frame {s : State} {f : GFrame} : Frame 7083549724304467820544 s (State.gslPut s f).1 := by
  unfold State.gslPut
  repeat' first
    | exact rfl | intro _
    | (with_reducible first | exact Frame.refl _ _ | assumption | apply Frame.ite1 | apply Frame.ite
                            | apply Frame.step State.park_frame | apply Frame.step State.enqueue_frame
                            | apply Frame.step State.setRoute_frame)
    | split
    | dsimp only

theorem State.relayLost_frame {s : State} {g : Nat} : Frame 9445415261100220151813 s (State.relayLost s g) := by
  unfold State.relayLost
  repeat' first
    | exact rfl | intro _
    | (with_reducible first | exact Frame.refl _ _ | assumption | apply Frame.step State.relayPortLost_frame
                            | apply Frame.step State.setRelayBuf_frame)
    | split
    | dsimp only

theorem State.gslDrop_frame {s : State} {g : Nat} {f : GFrame} :
    Frame 9445415261100220151813 s (State.gslDrop s g f) := by
  unfold State.gslDrop
  repeat' first
    | exact rfl | intro _
    | (with_reducible first | exact Frame.refl _ _ | assumption | apply Frame.ite | apply Frame.step State.relayLost_frame
                            | apply Frame.step State.raise_frame | apply Frame.step State.count_frame)
    | split
    | dsimp only

theorem State.noRoute_frame {s : State} {g : Nat} {f : GFrame} : Frame 1 s (State.noRoute s g f) := by
  unfold State.noRoute
  repeat' first
    | exact rfl | intro _
    | (with_reducible first | exact Frame.refl _ _ | assumption | apply Frame.ite | apply Frame.step State.count_frame)
    | split
    | dsimp only

theorem State.flightAnswer_frame {s : State} {tag : Nat} {r : Rsp} :
    Frame 2147483648 s (State.flightAnswer s tag r) := by
  unfold State.flightAnswer
  repeat' first
    | exact rfl | intro _
    | (with_reducible first | exact Frame.refl _ _ | assumption | apply Frame.ite)
    | split
    | with_reducible apply Frame.step Frame.upd_flights

theorem State.gslLost_frame {s : State} {g : Nat} {f : GFrame} :
    Frame 16528964985415425390597 s (State.gslLost s g f) := by
  unfold State.gslLost
  repeat' first
    | exact rfl | intro _
    | (with_reducible first | exact Frame.refl _ _ | assumption | apply Frame.ite | apply Frame.each
                            | apply Frame.step State.noRoute_frame | apply Frame.step State.gslDrop_frame
                            | apply Frame.step State.gslPut_frame | apply Frame.step State.complete_frame
                            | apply Frame.step State.raise_frame | apply Frame.step State.count_frame
                            | apply Frame.of1 (by assumption))
    | split
    | dsimp only

theorem State.gslSend_frame {s : State} {g : Nat} {f : GFrame} :
    Frame 16528964985415425390597 s (State.gslSend s g f) := by
  unfold State.gslSend
  repeat' first
    | exact rfl | intro _
    | (with_reducible first | exact Frame.refl _ _ | assumption | apply Frame.ite | apply Frame.step State.gslLost_frame
                            | apply Frame.step State.noRoute_frame | apply Frame.step State.gslPut_frame
                            | apply Frame.of1 (by assumption))
    | split
    | dsimp only

theorem State.gslDown_frame {s : State} {g cause : Nat} :
    Frame 11805916207174333036545 s (State.gslDown s g cause) := by
  unfold State.gslDown
  repeat' first
    | exact rfl | intro _
    | (with_reducible first | exact Frame.refl _ _ | assumption | apply Frame.ite
                            | apply Frame.step State.setPortState_frame | apply Frame.step State.parentPortDown_frame
                            | apply Frame.step State.raise_frame | apply Frame.step State.count_frame
                            | apply Frame.step State.wr_frame | apply Frame.step State.setGsl_frame)
    | split
    | dsimp only

theorem State.gslExpire_frame {s : State} {g : Nat} : Frame 16528964985415425390597 s (State.gslExpire s g) := by
  unfold State.gslExpire
  repeat' first
    | exact rfl | intro _
    | (with_reducible first | exact Frame.refl _ _ | assumption | apply Frame.ite | apply Frame.each
                            | apply Frame.step State.gslLost_frame | apply Frame.step State.relayLost_frame
                            | apply Frame.step State.park_frame | apply Frame.step State.setRoute_frame
                            | apply Frame.step State.setGsl_frame)
    | split
    | with_reducible apply Frame.step Frame.upd_stopOut

theorem State.gslReturn_frame {s : State} {g : Nat} : Frame 4722366482869645213696 s (State.gslReturn s g) := by
  unfold State.gslReturn
  repeat' first
    | exact rfl | intro _
    | (with_reducible first | exact Frame.refl _ _ | assumption | apply Frame.ite | apply Frame.each
                            | apply Frame.step State.setRoute_frame)
    | split
    | dsimp only

theorem execGslHoldExpire_frame {g : Fin 24} {s : State} :
    FrameOut 16528964985415425390597 s (execGslHoldExpire g s) := by
  unfold execGslHoldExpire
  repeat' first
    | exact rfl | intro _
    | (with_reducible first | exact Frame.refl _ _ | assumption | apply FrameOut.next | apply FrameOut.ite | apply Frame.ite
                            | apply Frame.step State.gslExpire_frame | apply Frame.step State.setPortState_frame)
    | split
    | dsimp only

theorem execGslLifeExpire_frame {g : Fin 24} {s : State} :
    FrameOut 16528964985415425390597 s (execGslLifeExpire g s) := by
  unfold execGslLifeExpire
  repeat' first
    | exact rfl | intro _
    | (with_reducible first | exact Frame.refl _ _ | assumption | apply FrameOut.next | apply FrameOut.ite | apply Frame.ite
                            | apply Frame.each | apply Frame.step State.gslSend_frame
                            | apply Frame.step State.setRoute_frame | apply Frame.step State.setGsl_frame)
    | split
    | dsimp only

theorem execGslFrameAgeExpire_frame {g : Fin 24} {n : Nat} {s : State} :
    FrameOut 16528964985415425390597 s (execGslFrameAgeExpire g n s) := by
  unfold execGslFrameAgeExpire
  repeat' first
    | exact rfl | intro _
    | (with_reducible first | exact Frame.refl _ _ | assumption | apply FrameOut.next | apply FrameOut.ite | apply Frame.ite
                            | apply Frame.step State.gslLost_frame | apply Frame.step State.setGsl_frame)
    | split
    | dsimp only

theorem execGslTrainingAttempt_frame {g : Fin 24} {s : State} :
    FrameOut 2361183241434822608897 s (execGslTrainingAttempt g s) := by
  unfold execGslTrainingAttempt
  repeat' first
    | exact rfl | intro _
    | (with_reducible first | exact Frame.refl _ _ | assumption | apply FrameOut.next | apply FrameOut.ite | apply Frame.ite
                            | apply Frame.step State.setPortState_frame | apply Frame.step State.setGsl_frame)
    | split
    | dsimp only

theorem State.gslResume_frame {s : State} {g : Nat} : Frame 16528964985415425390597 s (State.gslResume s g) := by
  unfold State.gslResume
  repeat' first
    | exact rfl | intro _
    | (with_reducible first | exact Frame.refl _ _ | assumption | apply Frame.each | apply FrameO.getD
                            | apply Frame.step State.gslLost_frame | apply Frame.step State.setGsl_frame)
    | split
    | dsimp only

theorem execGslTrainingDone_frame {g : Fin 24} {up : Option LinkUp} {s : State} :
    FrameOut 16528964985415442167813 s (execGslTrainingDone g up s) := by
  unfold execGslTrainingDone
  repeat' first
    | exact rfl | intro _
    | (with_reducible first | exact Frame.refl _ _ | assumption | apply FrameOut.next | apply FrameOut.ite | apply Frame.ite
                            | apply Frame.step State.gslResume_frame | apply Frame.step State.gslReturn_frame
                            | apply Frame.step State.gslExpire_frame | apply Frame.step State.epochCheck_frame
                            | apply Frame.step State.setPortState_frame | apply Frame.step State.wr_frame
                            | apply Frame.step State.setGsl_frame)
    | split
    | dsimp only

theorem State.gslNakOwed_frame {s : State} {g : Nat} : Frame 2361183241434822606848 s (State.gslNakOwed s g) := by
  unfold State.gslNakOwed
  repeat' first
    | exact rfl | intro _
    | (with_reducible first | exact Frame.refl _ _ | assumption | apply Frame.step State.setGsl_frame)
    | split
    | dsimp only

theorem State.gslReplay_frame {s : State} {g : Nat} : Frame 11805916207174333036545 s (State.gslReplay s g) := by
  unfold State.gslReplay
  repeat' first
    | exact rfl | intro _
    | (with_reducible first | exact Frame.refl _ _ | assumption | apply Frame.ite | apply Frame.step State.gslDown_frame
                            | apply Frame.step State.count_frame | apply Frame.step State.setGsl_frame)
    | split
    | dsimp only

theorem State.gslHeader_frame {s : State} {g : Nat} {h : GHdr} :
    Frame 11805916207174333036545 s (State.gslHeader s g h) := by
  unfold State.gslHeader
  repeat' first
    | exact rfl | intro _
    | (with_reducible first | exact Frame.refl _ _ | assumption | apply Frame.ite | apply Frame.step State.gslReplay_frame
                            | apply Frame.step State.count_frame | apply Frame.step State.setGsl_frame)
    | split
    | dsimp only

theorem execLmgtFrame_frame {g : Fin 24} {h : GHdr} {m : LmgtMsg} {s : State} :
    FrameOut 11805916207174333036545 s (execLmgtFrame g h m s) := by
  unfold execLmgtFrame
  repeat' first
    | exact rfl | intro _
    | (with_reducible first | exact Frame.refl _ _ | assumption | apply FrameOut.next | apply FrameOut.ite | apply Frame.ite
                            | apply Frame.step State.gslHeader_frame | apply Frame.step State.gslNakOwed_frame
                            | apply Frame.step State.gslDown_frame | apply Frame.step State.epochCheck_frame
                            | apply Frame.step State.setPortState_frame | apply Frame.step State.count_frame
                            | apply Frame.step State.wr_frame | apply Frame.step State.setGsl_frame)
    | split
    | dsimp only

theorem State.gslWire_frame {s : State} {g : Nat} {f : GFrame} :
    Frame 2361183241434822606848 s (State.gslWire s g f) := by
  unfold State.gslWire
  repeat' first
    | exact rfl | intro _
    | (with_reducible first | exact Frame.refl _ _ | assumption | apply FrameO.getD | apply Frame.step State.setGsl_frame)
    | split
    | dsimp only

theorem execLmgtRepeat_frame {g : Fin 24} {s : State} : FrameOut 2361183241434822606848 s (execLmgtRepeat g s) := by
  unfold execLmgtRepeat
  repeat' first
    | exact rfl | intro _
    | (with_reducible first | exact Frame.refl _ _ | assumption | apply FrameOut.next | apply FrameOut.ite | apply Frame.ite
                            | apply Frame.step State.gslWire_frame)
    | split
    | dsimp only

theorem execSystemLaneRecalibration_frame {g : Fin 24} {lane : Fin 4} {s : State} :
    FrameOut 2361183241434822606848 s (execSystemLaneRecalibration g lane s) := by
  unfold execSystemLaneRecalibration
  repeat' first
    | exact rfl | intro _
    | (with_reducible first | exact Frame.refl _ _ | assumption | apply FrameOut.next | apply FrameOut.ite | apply Frame.ite
                            | apply Frame.step State.setGsl_frame)
    | split
    | dsimp only

theorem execPrbsBitError_frame {g : Fin 24} {n : Nat} {s : State} : FrameOut 1 s (execPrbsBitError g n s) := by
  unfold execPrbsBitError
  repeat' first
    | exact rfl | intro _
    | (with_reducible first | exact Frame.refl _ _ | assumption | apply FrameOut.next | apply FrameOut.ite | apply Frame.ite
                            | apply Frame.step State.count_frame)
    | split
    | dsimp only

theorem State.gslFirst_frame {s : State} {g : Nat} {f : GFrame} {key : Option Nat} :
    Frame 2361183241434822606848 s (State.gslFirst s g f key) := by
  unfold State.gslFirst
  repeat' first
    | exact rfl | intro _
    | (with_reducible first | exact Frame.refl _ _ | assumption | apply Frame.step State.gslWire_frame
                            | apply Frame.step State.setGsl_frame)
    | split
    | dsimp only

theorem execGslFrameSend_frame {g : Fin 24} {s : State} : FrameOut 2361183241434857209856 s (execGslFrameSend g s) := by
  unfold execGslFrameSend
  repeat' first
    | exact rfl | intro _
    | (with_reducible first | exact Frame.refl _ _ | assumption | apply FrameOut.next | apply FrameOut.ite | apply Frame.ite
                            | apply FrameO.getD | apply Frame.step State.gslFirst_frame
                            | apply Frame.step State.gslWire_frame | apply Frame.step State.setGsl_frame)
    | split
    | with_reducible apply Frame.step Frame.upd_stopOut
    | with_reducible apply Frame.step Frame.upd_ptbOut

theorem execGslCreditReturnTimer_frame {g : Fin 24} {vc : Fin 4} {s : State} :
    FrameOut 2361183241434822606848 s (execGslCreditReturnTimer g vc s) := by
  unfold execGslCreditReturnTimer
  repeat' first
    | exact rfl | intro _
    | (with_reducible first | exact Frame.refl _ _ | assumption | apply FrameOut.next | apply FrameOut.ite | apply Frame.ite
                            | apply Frame.step State.setGsl_frame)
    | split
    | dsimp only

theorem execGslCreditStall_frame {g : Fin 24} {s : State} :
    FrameOut 9444732965739493652481 s (execGslCreditStall g s) := by
  unfold execGslCreditStall
  repeat' first
    | exact rfl | intro _
    | (with_reducible first | exact Frame.refl _ _ | assumption | apply FrameOut.next | apply FrameOut.ite | apply Frame.ite
                            | apply Frame.step State.raise_frame | apply Frame.step State.count_frame)
    | split
    | dsimp only

theorem State.gslTake_frame {s0 s : State} {g : Nat} {h : GHdr} {inHold : Bool} {vc : Option Nat} {f : State → State}
    {W : Nat} (hW : 11805916207174333036545 &&& W = 11805916207174333036545) (hs :
    Frame W s0 s) (hf : ∀ u, Frame W s0 u → Frame W s0 (f u)) : Frame W s0 (State.gslTake s g h inHold vc f) := by
  unfold State.gslTake
  repeat' first
    | exact mono_of rfl hW | intro _
    | (with_reducible first | exact Frame.refl _ _ | assumption | apply hf | apply Frame.ite
                            | apply Frame.step State.gslHeader_frame | apply Frame.step State.gslNakOwed_frame
                            | apply Frame.step State.count_frame | apply Frame.step State.setGsl_frame)
    | split
    | dsimp only

theorem execGslStopFrame_frame {g : Fin 24} {h : GHdr} {gid : BitVec 16} {stopAt : BitVec 64} {s : State} :
    FrameOut 11805916207174333036545 s (execGslStopFrame g h gid stopAt s) := by
  unfold execGslStopFrame
  repeat' first
    | exact rfl | intro _
    | (with_reducible first | exact Frame.refl _ _ | assumption | apply FrameOut.next | apply FrameOut.ite | apply Frame.ite
                            | apply State.gslTake_frame | apply Frame.step State.spreadStop_frame)
    | split
    | with_reducible apply Frame.step Frame.upd_stops

theorem execRelayImageData_frame {g : Fin 24} {h : GHdr} {data : List Byte} {s : State} :
    FrameOut 11827387118451508968701 s (execRelayImageData g h data s) := by
  unfold execRelayImageData
  repeat' first
    | exact rfl | intro _
    | (with_reducible first | exact Frame.refl _ _ | assumption | apply FrameOut.next | apply FrameOut.ite | apply Frame.ite
                            | apply State.gslTake_frame | apply Frame.step State.cfeRelayData_frame
                            | apply Frame.step State.setRelayBuf_frame)
    | split
    | dsimp only

theorem execGslIdleFrame_frame {g : Fin 24} {h : GHdr} {s : State} :
    FrameOut 11805916207174333036545 s (execGslIdleFrame g h s) := by
  unfold execGslIdleFrame
  repeat' first
    | exact rfl | intro _
    | (with_reducible first | exact Frame.refl _ _ | assumption | apply FrameOut.next | apply FrameOut.ite | apply Frame.ite
                            | apply Frame.step State.gslHeader_frame)
    | split
    | dsimp only

theorem execGslBadFrame_frame {g : Fin 24} {kind : Fin 3} {s : State} :
    FrameOut 2361183241434822606849 s (execGslBadFrame g kind s) := by
  unfold execGslBadFrame
  repeat' first
    | exact rfl | intro _
    | (with_reducible first | exact Frame.refl _ _ | assumption | apply FrameOut.next | apply FrameOut.ite | apply Frame.ite
                            | apply Frame.step State.gslNakOwed_frame | apply Frame.step State.count_frame)
    | split
    | dsimp only

theorem execGslReservedFrame_frame {g : Fin 24} {s : State} : FrameOut 1 s (execGslReservedFrame g s) := by
  unfold execGslReservedFrame
  repeat' first
    | exact rfl | intro _
    | (with_reducible first | exact Frame.refl _ _ | assumption | apply FrameOut.next | apply FrameOut.ite | apply Frame.ite
                            | apply Frame.step State.count_frame)
    | split
    | dsimp only

theorem execGslNak_frame {g : Fin 24} {h : GHdr} {s : State} :
    FrameOut 11805916207174333036545 s (execGslNak g h s) := by
  unfold execGslNak
  repeat' first
    | exact rfl | intro _
    | (with_reducible first | exact Frame.refl _ _ | assumption | apply FrameOut.next | apply FrameOut.ite | apply Frame.ite
                            | apply Frame.step State.gslHeader_frame)
    | split
    | dsimp only

theorem execGslReplayTimeout_frame {g : Fin 24} {s : State} :
    FrameOut 11805916207174333036545 s (execGslReplayTimeout g s) := by
  unfold execGslReplayTimeout
  repeat' first
    | exact rfl | intro _
    | (with_reducible first | exact Frame.refl _ _ | assumption | apply FrameOut.next | apply FrameOut.ite | apply Frame.ite
                            | apply Frame.step State.gslReplay_frame)
    | split
    | dsimp only

theorem execGslLockLoss_frame {g : Fin 24} {s : State} : FrameOut 11805916207174333036545 s (execGslLockLoss g s) := by
  unfold execGslLockLoss
  repeat' first
    | exact rfl | intro _
    | (with_reducible first | exact Frame.refl _ _ | assumption | apply FrameOut.next | apply Frame.step State.gslDown_frame)
    | split
    | dsimp only

theorem State.setGslKey_frame {s : State} {g k : Nat} {key : Option (BitVec 256)} :
    Frame 2361183241434822606849 s (State.setGslKey s g k key) := by
  unfold State.setGslKey
  repeat' first
    | exact rfl | intro _
    | (with_reducible first | exact Frame.refl _ _ | assumption | apply Frame.ite | apply Frame.step State.wrb_frame
                            | apply Frame.step State.wr_frame | apply Frame.step State.setGsl_frame)
    | split
    | dsimp only

theorem State.gslKeyCmd_frame {s0 s : State} {g : Nat} {f : State → Nat × State} {W : Nat} (hW : 1 &&& W = 1) (hs :
    Frame W s0 s) (hf : ∀ u, Frame W s0 u → Frame W s0 (f u).2) : Frame W s0 (State.gslKeyCmd s g f) := by
  unfold State.gslKeyCmd
  repeat' first
    | exact mono_of rfl hW | intro _
    | (with_reducible first | exact Frame.refl _ _ | assumption | apply hf | apply Frame.ite
                            | apply Frame.step State.seqUp_frame | apply Frame.step State.wr_frame)
    | split
    | dsimp only

theorem State.gslKeyLoad_frame {s : State} {g k : Nat} : Frame 2361183241434822606849 s (State.gslKeyLoad s g k) := by
  unfold State.gslKeyLoad
  repeat' first
    | exact rfl | intro _
    | (with_reducible first | exact Frame.refl _ _ | assumption | apply Frame.ite | apply Frame.foldl | apply Frame.foldl1
                            | apply Frame.foldlP1 | apply Frame.foldlP2 | apply Frame.foldlP3 | apply Frame.foldlP4
                            | apply Frame.foldlP5 | apply State.gslKeyCmd_frame
                            | apply Frame.step State.setGslKey_frame)
    | split
    | dsimp only

theorem execGslKeyLoad_frame {g : Fin 24} {k : Fin 4} {s : State} :
    FrameOut 2361183241434822606849 s (execGslKeyLoad g k s) := by
  unfold execGslKeyLoad
  repeat' first
    | exact rfl | intro _
    | (with_reducible first | exact Frame.refl _ _ | assumption | apply FrameOut.next
                            | apply Frame.step State.gslKeyLoad_frame | apply State.atBlock_frame)
    | split
    | dsimp only

theorem State.gslKeyKill_frame {s : State} {g k : Nat} : Frame 2361183241434822606849 s (State.gslKeyKill s g k) := by
  unfold State.gslKeyKill
  repeat' first
    | exact rfl | intro _
    | (with_reducible first | exact Frame.refl _ _ | assumption | apply Frame.ite | apply State.gslKeyCmd_frame
                            | apply Frame.step State.setGslKey_frame | apply Frame.step State.wrb_frame)
    | split
    | dsimp only

theorem execGslKeyKill_frame {g : Fin 24} {k : Fin 4} {s : State} :
    FrameOut 2361183241434822606849 s (execGslKeyKill g k s) := by
  unfold execGslKeyKill
  repeat' first
    | exact rfl | intro _
    | (with_reducible first | exact Frame.refl _ _ | assumption | apply FrameOut.next
                            | apply Frame.step State.gslKeyKill_frame | apply State.atBlock_frame)
    | split
    | dsimp only

theorem State.gslKeyAck_frame {s : State} {g : Nat} : Frame 1 s (State.gslKeyAck s g) := by
  unfold State.gslKeyAck
  repeat' first
    | exact rfl | intro _
    | (with_reducible first | exact Frame.refl _ _ | assumption | apply Frame.ite | apply Frame.step State.wr_frame)
    | split
    | dsimp only

theorem execGslKeyAck_frame {g : Fin 24} {s : State} : FrameOut 1 s (execGslKeyAck g s) := by
  unfold execGslKeyAck
  repeat' first
    | exact rfl | intro _
    | (with_reducible first | exact Frame.refl _ _ | assumption | apply FrameOut.next
                            | apply Frame.step State.gslKeyAck_frame | apply State.atBlock_frame)
    | split
    | dsimp only

theorem execGslKeyRetire_frame {g : Fin 24} {k : Fin 4} {s : State} :
    FrameOut 2361183241434822606849 s (execGslKeyRetire g k s) := by
  unfold execGslKeyRetire
  repeat' first
    | exact rfl | intro _
    | (with_reducible first | exact Frame.refl _ _ | assumption | apply FrameOut.next | apply FrameOut.ite | apply Frame.ite
                            | apply Frame.step State.setGslKey_frame)
    | split
    | dsimp only

theorem State.gslCntClr_frame {s : State} {g v : Nat} : Frame 1 s (State.gslCntClr s g v) := by
  unfold State.gslCntClr
  repeat' first
    | exact rfl | intro _
    | (with_reducible first | exact Frame.refl _ _ | assumption | apply Frame.ite | apply Frame.each
                            | apply Frame.step State.wr_frame)
    | split
    | dsimp only

theorem execGslCntClr_frame {g : Fin 24} {v : BitVec 11} {s : State} : FrameOut 1 s (execGslCntClr g v s) := by
  unfold execGslCntClr
  repeat' first
    | exact rfl | intro _
    | (with_reducible first | exact Frame.refl _ _ | assumption | apply FrameOut.next
                            | apply Frame.step State.gslCntClr_frame | apply State.atBlock_frame)
    | split
    | dsimp only

theorem State.gslSession_frame {s : State} {g : Nat} : Frame 2361183241434822607872 s (State.gslSession s g) := by
  unfold State.gslSession
  repeat' first
    | exact rfl | intro _
    | (with_reducible first | exact Frame.refl _ _ | assumption | apply Frame.step State.drew_frame
                            | apply Frame.step State.setGsl_frame)
    | split
    | dsimp only

theorem State.gslApplied_frame {s old : State} {d : Nat} :
    Frame 11805916207174333037569 s (State.gslApplied s old d) := by
  unfold State.gslApplied
  repeat' first
    | exact rfl | intro _
    | (with_reducible first | exact Frame.refl _ _ | assumption | apply Frame.ite | apply Frame.each
                            | apply Frame.step State.gslSession_frame | apply Frame.step State.gslDown_frame
                            | apply Frame.step State.setPortState_frame)
    | split
    | dsimp only

end Sys2Proof.Machine
end

