-- ==== Sys2Proof/Laws/FrameSite.lean ====
section
/-! SUPPORT. What each operation of Machine/Site.lean can change (Laws/Frame.lean). -/
namespace Sys2Proof.Machine

theorem State.dmaKick_frame {s : State} {c : Nat} : Frame 1 s (State.dmaKick s c) := by
  unfold State.dmaKick
  repeat' first
    | exact rfl | intro _
    | (with_reducible first | exact Frame.refl _ _ | assumption | apply Frame.ite | apply Frame.step State.wr_frame)
    | split
    | dsimp only

theorem State.dmaProd_frame {s : State} {c v : Nat} : Frame 1 s (State.dmaProd s c v) := by
  unfold State.dmaProd
  repeat' first
    | exact rfl | intro _
    | (with_reducible first | exact Frame.refl _ _ | assumption | apply Frame.step State.dmaKick_frame
                            | apply Frame.step State.wr_frame)
    | split
    | dsimp only

theorem execDmaProdWrite_frame {c : Fin 32} {v : BitVec 32} {s : State} : FrameOut 1 s (execDmaProdWrite c v s) := by
  unfold execDmaProdWrite
  repeat' first
    | exact rfl | intro _
    | (with_reducible first | exact Frame.refl _ _ | assumption | apply FrameOut.next | apply Frame.step State.dmaProd_frame
                            | apply State.atBlock_frame)
    | split
    | dsimp only

theorem execDmaDescriptor_frame {c : Fin 32} {desc : BitVec 256} {s : State} :
    FrameOut 18889465931478580854784 s (execDmaDescriptor c desc s) := by
  unfold execDmaDescriptor
  repeat' first
    | exact rfl | intro _
    | (with_reducible first | exact Frame.refl _ _ | assumption | apply FrameOut.next | apply FrameOut.ite | apply Frame.ite
                            | apply State.atBlock_frame | apply Frame.step State.setDma_frame)
    | split
    | dsimp only

theorem State.dmaStatus_frame {s : State} {c status : Nat} :
    Frame 18889465931478580854784 s (State.dmaStatus s c status) := by
  unfold State.dmaStatus
  repeat' first
    | exact rfl | intro _
    | (with_reducible first | exact Frame.refl _ _ | assumption | apply Frame.step State.setDma_frame)
    | split
    | dsimp only

theorem State.dmaEnd_frame {s : State} {c status : Nat} :
    Frame 18889465931478580856833 s (State.dmaEnd s c status) := by
  unfold State.dmaEnd
  repeat' first
    | exact rfl | intro _
    | (with_reducible first | exact Frame.refl _ _ | assumption | apply Frame.ite | apply Frame.step State.dmaStatus_frame
                            | apply Frame.step State.dmaKick_frame | apply Frame.step State.sendMsix_frame
                            | apply Frame.step State.wr_frame | apply Frame.step State.setDma_frame)
    | split
    | dsimp only

theorem State.dmaCancel_frame {s : State} {c : Nat} : Frame 18889465931478580854785 s (State.dmaCancel s c) := by
  unfold State.dmaCancel
  repeat' first
    | exact rfl | intro _
    | (with_reducible first | exact Frame.refl _ _ | assumption | apply Frame.ite | apply Frame.each
                            | apply Frame.step State.dmaStatus_frame | apply Frame.step State.wr_frame
                            | apply Frame.step State.setDma_frame)
    | split
    | dsimp only

theorem execDmaCancel_frame {c : Fin 32} {s : State} : FrameOut 18889465931478580854785 s (execDmaCancel c s) := by
  unfold execDmaCancel
  repeat' first
    | exact rfl | intro _
    | (with_reducible first | exact Frame.refl _ _ | assumption | apply FrameOut.next
                            | apply Frame.step State.dmaCancel_frame | apply State.atBlock_frame)
    | split
    | dsimp only

theorem State.dmaResume_frame {s : State} {c : Nat} : Frame 1 s (State.dmaResume s c) := by
  unfold State.dmaResume
  repeat' first
    | exact rfl | intro _
    | (with_reducible first | exact Frame.refl _ _ | assumption | apply Frame.ite | apply Frame.step State.dmaKick_frame
                            | apply Frame.step State.wr_frame)
    | split
    | dsimp only

theorem execDmaResume_frame {c : Fin 32} {s : State} : FrameOut 1 s (execDmaResume c s) := by
  unfold execDmaResume
  repeat' first
    | exact rfl | intro _
    | (with_reducible first | exact Frame.refl _ _ | assumption | apply FrameOut.next
                            | apply Frame.step State.dmaResume_frame | apply State.atBlock_frame)
    | split
    | dsimp only

theorem State.sitePurgeFlights_frame {s : State} {st : Nat} : Frame 2147483649 s (State.sitePurgeFlights s st) := by
  unfold State.sitePurgeFlights
  repeat' first
    | exact rfl | intro _
    | (with_reducible first | exact Frame.refl _ _ | assumption | apply Frame.each | apply Frame.step State.purged_frame
                            | apply Frame.step State.answer_frame)
    | split
    | dsimp only

theorem State.siteReset_frame {s : State} {st : Nat} {flr : Bool} :
    Frame 28407987421627432107009 s (State.siteReset s st flr) := by
  unfold State.siteReset
  repeat' first
    | exact rfl | intro _
    | (with_reducible first | exact Frame.refl _ _ | assumption | apply Frame.ite | apply Frame.each
                            | apply Frame.step State.sitePurgeFlights_frame | apply Frame.step State.dmaCancel_frame
                            | apply Frame.step State.sacSiteReset_frame | apply Frame.step State.orphanOwner_frame
                            | apply Frame.step State.raeCancelSite_frame | apply Frame.step State.fcuPurge_frame
                            | apply Frame.step State.hubPend_frame | apply Frame.step State.siteChannelsSafe_frame
                            | apply Frame.step State.haltPsq_frame | apply Frame.step State.count_frame
                            | apply Frame.step State.wrb_frame | apply Frame.step State.wr_frame)
    | split
    | dsimp only

theorem execSiteReset_frame {st : Fin 16} {s : State} : FrameOut 28407987421627432107009 s (execSiteReset st s) := by
  unfold execSiteReset
  repeat' first
    | exact rfl | intro _
    | (with_reducible first | exact Frame.refl _ _ | assumption | apply FrameOut.next
                            | apply Frame.step State.siteReset_frame | apply State.atBlock_frame)
    | split
    | dsimp only

theorem execSiteQuiesced_frame {st : Fin 16} {s : State} : FrameOut 2049 s (execSiteQuiesced st s) := by
  unfold execSiteQuiesced
  repeat' first
    | exact rfl | intro _
    | (with_reducible first | exact Frame.refl _ _ | assumption | apply FrameOut.next | apply FrameOut.ite | apply Frame.ite
                            | apply Frame.step State.sendMsix_frame | apply Frame.step State.wr_frame)
    | split
    | dsimp only

theorem State.siteRelease_frame {s : State} {st : Nat} : Frame 1 s (State.siteRelease s st) := by
  unfold State.siteRelease
  repeat' first
    | exact rfl | intro _
    | (with_reducible first | exact Frame.refl _ _ | assumption | apply Frame.ite | apply Frame.step State.wr_frame)
    | split
    | dsimp only

theorem execSiteRelease_frame {st : Fin 16} {s : State} : FrameOut 1 s (execSiteRelease st s) := by
  unfold execSiteRelease
  repeat' first
    | exact rfl | intro _
    | (with_reducible first | exact Frame.refl _ _ | assumption | apply FrameOut.next
                            | apply Frame.step State.siteRelease_frame | apply State.atBlock_frame)
    | split
    | dsimp only

theorem State.siteApplied_frame {s : State} : Frame 1 s (State.siteApplied s) := by
  unfold State.siteApplied
  repeat' first
    | exact rfl | intro _
    | (with_reducible first | exact Frame.refl _ _ | assumption | apply Frame.ite | apply Frame.each
                            | apply Frame.step State.wr_frame)
    | split
    | dsimp only

theorem State.pfReset_frame {s : State} : Frame 66113130760175236216833 s (State.pfReset s) := by
  unfold State.pfReset
  repeat' first
    | exact rfl | intro _
    | (with_reducible first | exact Frame.refl _ _ | assumption | apply Frame.each | apply Frame.step State.dmaCancel_frame
                            | apply Frame.step State.orphanOwner_frame)
    | split
    | with_reducible apply Frame.step Frame.upd_host

theorem execPfFlr_frame {s : State} : FrameOut 66113130760175236216833 s (execPfFlr s) := by
  unfold execPfFlr
  repeat' first
    | exact rfl | intro _
    | (with_reducible first | exact Frame.refl _ _ | assumption | apply FrameOut.next | apply Frame.step State.pfReset_frame
                            | apply State.atBlock_frame)
    | split
    | dsimp only

theorem execVfEnableClear_frame {s : State} : FrameOut 66113130760175236216833 s (execVfEnableClear s) := by
  unfold execVfEnableClear
  repeat' first
    | exact rfl | intro _
    | (with_reducible first | exact Frame.refl _ _ | assumption | apply FrameOut.next | apply FrameOut.ite | apply Frame.ite
                            | apply Frame.step State.pfReset_frame | apply State.atBlock_frame)
    | split
    | dsimp only

theorem State.vfReset_frame {s : State} {n : Nat} : Frame 66186919284584593816579 s (State.vfReset s n) := by
  unfold State.vfReset
  repeat' first
    | exact rfl | intro _
    | (with_reducible first | exact Frame.refl _ _ | assumption | apply Frame.each | apply Frame.step State.siteReset_frame
                            | apply Frame.step State.dmaCancel_frame | apply Frame.step State.dropRegs_frame
                            | apply Frame.step State.wr_frame | apply Frame.step State.setDma_frame)
    | split
    | with_reducible apply Frame.step Frame.upd_host

theorem execVfFlr_frame {n : Fin 16} {s : State} : FrameOut 66186919284584593816579 s (execVfFlr n s) := by
  unfold execVfFlr
  repeat' first
    | exact rfl | intro _
    | (with_reducible first | exact Frame.refl _ _ | assumption | apply FrameOut.next | apply Frame.step State.vfReset_frame
                            | apply State.atBlock_frame)
    | split
    | dsimp only

theorem State.hostDown_frame {s : State} : Frame 66113130760175236216833 s (State.hostDown s) := by
  unfold State.hostDown
  repeat' first
    | exact rfl | intro _
    | (with_reducible first | exact Frame.refl _ _ | assumption | apply Frame.ite | apply Frame.step State.pfReset_frame
                            | apply Frame.step State.raise_frame | apply Frame.step State.setReady_frame
                            | apply Frame.step State.wr_frame)
    | split
    | dsimp only

theorem execPcieLinkDown_frame {s : State} : FrameOut 66113130760175236216833 s (execPcieLinkDown s) := by
  unfold execPcieLinkDown
  repeat' first
    | exact rfl | intro _
    | (with_reducible first | exact Frame.refl _ _ | assumption | apply FrameOut.next
                            | apply Frame.step State.hostDown_frame)
    | split
    | dsimp only

theorem execPerstN_frame {asserted : Bool} {s : State} :
    FrameOut 66113130760175236216833 s (execPerstN asserted s) := by
  unfold execPerstN
  repeat' first
    | exact rfl | intro _
    | (with_reducible first | exact Frame.refl _ _ | assumption | apply FrameOut.next | apply FrameOut.ite | apply Frame.ite
                            | apply Frame.step State.hostDown_frame)
    | split
    | dsimp only

theorem execPcieLinkUp_frame {speed : Fin 7} {width : BitVec 5} {flit : Bool} {s : State} :
    FrameOut 1 s (execPcieLinkUp speed width flit s) := by
  unfold execPcieLinkUp
  repeat' first
    | exact rfl | intro _
    | (with_reducible first | exact Frame.refl _ _ | assumption | apply FrameOut.next | apply FrameOut.ite | apply Frame.ite
                            | apply Frame.step State.setReady_frame | apply Frame.step State.wrb_frame
                            | apply Frame.step State.wr_frame)
    | split
    | dsimp only

theorem execPcieConfigRequest_frame {fn : Option (Fin 16)} {r : CfgReq} {s : State} :
    FrameOut 37778931862957161709568 s (execPcieConfigRequest fn r s) := by
  unfold execPcieConfigRequest
  repeat' first
    | exact rfl | intro _
    | (with_reducible first | exact Frame.refl _ _ | assumption | apply FrameOut.next | apply FrameOut.ite | apply Frame.ite)
    | split
    | with_reducible apply Frame.step Frame.upd_host

end Sys2Proof.Machine
end

