-- ==== Sys2Proof/Laws/FrameFaults.lean ====
section
/-! SUPPORT. What each operation of Machine/Faults.lean can change (Laws/Frame.lean). -/
namespace Sys2Proof.Machine

theorem execSafeNetLow_frame {p q : Bool} {s : State} : FrameOut 9444732965739493652481 s (execSafeNetLow p q s) := by
  unfold execSafeNetLow
  repeat' first
    | exact rfl | intro _
    | (with_reducible first | exact Frame.refl _ _ | assumption | apply FrameOut.next | apply FrameOut.ite | apply Frame.ite
                            | apply Frame.step State.packageSafe_frame | apply Frame.step State.fhRefresh_frame)
    | split
    | with_reducible apply Frame.step Frame.upd_safe

theorem execSafeNetMismatch_frame {s : State} : FrameOut 9444732965739493652481 s (execSafeNetMismatch s) := by
  unfold execSafeNetMismatch
  repeat' first
    | exact rfl | intro _
    | (with_reducible first | exact Frame.refl _ _ | assumption | apply FrameOut.next | apply FrameOut.ite | apply Frame.ite
                            | apply Frame.each | apply Frame.step State.condOn_frame)
    | split
    | dsimp only

theorem State.fhInject_frame {s : State} {d : Nat} {v : Word} :
    Frame 9444732965739493652481 s (State.fhInject s d v) := by
  unfold State.fhInject
  repeat' first
    | exact rfl | intro _
    | (with_reducible first | exact Frame.refl _ _ | assumption | apply Frame.ite | apply Frame.step State.faultEvent_frame
                            | apply Frame.step State.rsvBits_frame)
    | split
    | dsimp only

theorem execFhInject_frame {d : Fin 4} {v : Word} {s : State} :
    FrameOut 9444732965739493652481 s (execFhInject d v s) := by
  unfold execFhInject
  repeat' first
    | exact rfl | intro _
    | (with_reducible first | exact Frame.refl _ _ | assumption | apply FrameOut.next
                            | apply Frame.step State.fhInject_frame | apply State.atBlock_frame)
    | split
    | dsimp only

theorem State.fhClear_frame {s : State} {d src : Nat} : Frame 67108865 s (State.fhClear s d src) := by
  unfold State.fhClear
  repeat' first
    | exact rfl | intro _
    | (with_reducible first | exact Frame.refl _ _ | assumption | apply Frame.ite
                            | apply Frame.step State.setFhPending_frame | apply Frame.step State.wr_frame
                            | apply Frame.step State.setFh_frame)
    | split
    | dsimp only

theorem State.fhPendWrite_frame {s : State} {d j : Nat} {v : Word} : Frame 67110913 s (State.fhPendWrite s d j v) := by
  unfold State.fhPendWrite
  repeat' first
    | exact rfl | intro _
    | (with_reducible first | exact Frame.refl _ _ | assumption | apply Frame.ite | apply Frame.each
                            | apply Frame.step State.fhClear_frame | apply Frame.step State.fhRefresh_frame)
    | split
    | dsimp only

theorem execFhPendClear_frame {d j : Fin 4} {v : Word} {s : State} : FrameOut 67110913 s (execFhPendClear d j v s) := by
  unfold execFhPendClear
  repeat' first
    | exact rfl | intro _
    | (with_reducible first | exact Frame.refl _ _ | assumption | apply FrameOut.next
                            | apply Frame.step State.fhPendWrite_frame | apply State.atBlock_frame)
    | split
    | dsimp only

theorem State.fhRelease_frame {s : State} {d : Nat} {v : Word} : Frame 201328641 s (State.fhRelease s d v) := by
  unfold State.fhRelease
  repeat' first
    | exact rfl | intro _
    | (with_reducible first | exact Frame.refl _ _ | assumption | apply Frame.ite | apply Frame.step State.fhRefresh_frame
                            | apply Frame.step State.rsvBits_frame | apply Frame.step State.wr_frame)
    | split
    | with_reducible apply Frame.step Frame.upd_safe

theorem execFhRelease_frame {d : Fin 4} {v : Word} {s : State} : FrameOut 201328641 s (execFhRelease d v s) := by
  unfold execFhRelease
  repeat' first
    | exact rfl | intro _
    | (with_reducible first | exact Frame.refl _ _ | assumption | apply FrameOut.next
                            | apply Frame.step State.fhRelease_frame | apply State.atBlock_frame)
    | split
    | dsimp only

theorem execFaultEscalate_frame {d : Fin 4} {src : Fin 128} {s : State} :
    FrameOut 9444732965739493652481 s (execFaultEscalate d src s) := by
  unfold execFaultEscalate
  repeat' first
    | exact rfl | intro _
    | (with_reducible first | exact Frame.refl _ _ | assumption | apply FrameOut.next | apply FrameOut.ite | apply Frame.ite
                            | apply Frame.step State.faultEvent_frame)
    | split
    | dsimp only

theorem State.fhLogRd_frame {s : State} {d : Nat} {v : Word} : Frame 1 s (State.fhLogRd s d v) := by
  unfold State.fhLogRd
  repeat' first
    | exact rfl | intro _
    | (with_reducible first | exact Frame.refl _ _ | assumption | apply Frame.ite | apply Frame.step State.rsvw_frame
                            | apply Frame.step State.wr_frame)
    | split
    | dsimp only

theorem execFhLogRdWrite_frame {d : Fin 4} {v : Word} {s : State} : FrameOut 1 s (execFhLogRdWrite d v s) := by
  unfold execFhLogRdWrite
  repeat' first
    | exact rfl | intro _
    | (with_reducible first | exact Frame.refl _ _ | assumption | apply FrameOut.next | apply Frame.step State.fhLogRd_frame
                            | apply State.atBlock_frame)
    | split
    | dsimp only

theorem State.fhCntClr_frame {s : State} {d : Nat} {v : Word} : Frame 1 s (State.fhCntClr s d v) := by
  unfold State.fhCntClr
  repeat' first
    | exact rfl | intro _
    | (with_reducible first | exact Frame.refl _ _ | assumption | apply Frame.ite | apply Frame.each
                            | apply Frame.step State.rsvBits_frame | apply Frame.step State.wr_frame)
    | split
    | dsimp only

theorem execFhCntClr_frame {d : Fin 4} {v : Word} {s : State} : FrameOut 1 s (execFhCntClr d v s) := by
  unfold execFhCntClr
  repeat' first
    | exact rfl | intro _
    | (with_reducible first | exact Frame.refl _ _ | assumption | apply FrameOut.next
                            | apply Frame.step State.fhCntClr_frame | apply State.atBlock_frame)
    | split
    | dsimp only

theorem execSupplyOutOfWindow_frame {d : Fin 4} {n : Fin 16} {s : State} :
    FrameOut 9444732965739493652481 s (execSupplyOutOfWindow d n s) := by
  unfold execSupplyOutOfWindow
  repeat' first
    | exact rfl | intro _
    | (with_reducible first | exact Frame.refl _ _ | assumption | apply FrameOut.next | apply FrameOut.ite | apply Frame.ite
                            | apply Frame.step State.condAs_frame)
    | split
    | dsimp only

theorem execSupplyReturnToRange_frame {d : Fin 4} {n : Fin 16} {s : State} :
    FrameOut 67108864 s (execSupplyReturnToRange d n s) := by
  unfold execSupplyReturnToRange
  repeat' first
    | exact rfl | intro _
    | (with_reducible first | exact Frame.refl _ _ | assumption | apply FrameOut.next | apply Frame.step State.condOff_frame)
    | split
    | dsimp only

theorem execDieTemperature_frame {d : Fin 4} {t : Int} {s : State} :
    FrameOut 9444732965739493652481 s (execDieTemperature d t s) := by
  unfold execDieTemperature
  repeat' first
    | exact rfl | intro _
    | (with_reducible first | exact Frame.refl _ _ | assumption | apply FrameOut.next | apply FrameOut.ite | apply Frame.ite
                            | apply Frame.step State.condOn_frame)
    | split
    | dsimp only

theorem execDieTemperatureReturn_frame {d : Fin 4} {t : Int} {s : State} :
    FrameOut 67108864 s (execDieTemperatureReturn d t s) := by
  unfold execDieTemperatureReturn
  repeat' first
    | exact rfl | intro _
    | (with_reducible first | exact Frame.refl _ _ | assumption | apply FrameOut.next | apply FrameOut.ite | apply Frame.ite
                            | apply Frame.step State.condOff_frame)
    | split
    | dsimp only

end Sys2Proof.Machine
end

