-- ==== Sys2Proof/Laws/FrameFeed.lean ====
section
/-! SUPPORT. What each operation of Machine/Feed.lean can change (Laws/Frame.lean). -/
namespace Sys2Proof.Machine

theorem execTrigDelivery_frame {s : State} : FrameOut 221361069622005071873 s (execTrigDelivery s) := by
  unfold execTrigDelivery
  repeat' first
    | exact rfl | intro _
    | (with_reducible first | exact Frame.refl _ _ | assumption | apply FrameOut.next | apply FrameOut.ite | apply Frame.ite
                            | apply Frame.each | apply Frame.step State.svpTrig_frame
                            | apply Frame.step State.sacEvent_frame | apply Frame.step State.hubEvent_frame
                            | apply Frame.step State.setFcu_frame)
    | split
    | with_reducible apply Frame.step Frame.upd_trigs

theorem State.streamRead_frame {s : State} {p sd off n : Nat} :
    Frame 9465490056458551491837 s (State.streamRead s p sd off n).2 := by
  unfold State.streamRead
  repeat' first
    | exact rfl | intro _
    | (with_reducible first | exact Frame.refl _ _ | assumption | apply Frame.step State.request_frame
                            | apply Frame.ofP1 (by assumption))
    | split
    | dsimp only

theorem execStreamLineFill_frame {p : Fin 16} {s : State} :
    FrameOut 9465490056458551491837 s (execStreamLineFill p s) := by
  unfold execStreamLineFill
  repeat' first
    | exact rfl | intro _
    | (with_reducible first | exact Frame.refl _ _ | assumption | apply FrameOut.next | apply FrameOut.ite | apply Frame.ite
                            | apply Frame.step State.streamRead_frame | apply Frame.step State.setPsq_frame
                            | apply Frame.ofP1 (by assumption))
    | split
    | dsimp only

theorem State.scanLines_frame {s : State} {p sd : Nat} {elastic : Bool} {lines off : Nat} {x6 : ScanX} :
    Frame 9465490056458551491837 s (State.scanLines s p sd elastic lines off x6).2 := by
  induction lines generalizing s p sd elastic off x6 with
  | zero =>
    unfold State.scanLines
    repeat' first
      | exact rfl | intro _
      | (with_reducible first | exact Frame.refl _ _ | assumption | apply Frame.iteP1 | apply Frame.ite | apply Frame.foldl
                              | apply Frame.foldl1 | apply Frame.foldlP1 | apply Frame.foldlP2 | apply Frame.foldlP3
                              | apply Frame.foldlP4 | apply Frame.foldlP5 | apply Frame.step State.streamRead_frame
                              | apply Frame.ofP1 (by assumption))
      | with_reducible apply Frame.step ih
      | split
      | dsimp only
  | succ _ ih =>
    unfold State.scanLines
    repeat' first
      | exact rfl | intro _
      | (with_reducible first | exact Frame.refl _ _ | assumption | apply Frame.iteP1 | apply Frame.ite | apply Frame.foldl
                              | apply Frame.foldl1 | apply Frame.foldlP1 | apply Frame.foldlP2 | apply Frame.foldlP3
                              | apply Frame.foldlP4 | apply Frame.foldlP5 | apply Frame.step State.streamRead_frame
                              | apply Frame.ofP1 (by assumption))
      | with_reducible apply Frame.step ih
      | split
      | dsimp only

theorem execSdScanDone_frame {p : Fin 16} {n : Fin 8} {s : State} :
    FrameOut 9465490056458551491837 s (execSdScanDone p n s) := by
  unfold execSdScanDone
  repeat' first
    | exact rfl | intro _
    | (with_reducible first | exact Frame.refl _ _ | assumption | apply FrameOut.next | apply FrameOut.ite | apply Frame.ite
                            | apply Frame.step State.scanLines_frame | apply Frame.step State.wr_frame
                            | apply Frame.step State.setPsq_frame | apply Frame.ofP1 (by assumption))
    | split
    | dsimp only

end Sys2Proof.Machine
end

