-- ==== Sys2Proof/Laws/FramePower.lean ====
section
/-! SUPPORT. What each operation of Machine/Power.lean can change (Laws/Frame.lean). -/
namespace Sys2Proof.Machine

theorem execRefclkLoss_frame {d : Fin 4} {s : State} : FrameOut 9481626453887449626625 s (execRefclkLoss d s) := by
  unfold execRefclkLoss
  repeat' first
    | exact rfl | intro _
    | (with_reducible first | exact Frame.refl _ _ | assumption | apply FrameOut.next | apply FrameOut.ite | apply Frame.ite
                            | apply Frame.each | apply Frame.step State.condAs_frame
                            | apply Frame.step State.monitorFallback_frame | apply Frame.step State.pllFail_frame
                            | apply Frame.step State.sourceFail_frame | apply Frame.step State.wr_frame)
    | split
    | dsimp only

theorem execRefclkReturn_frame {d : Fin 4} {s : State} : FrameOut 67108865 s (execRefclkReturn d s) := by
  unfold execRefclkReturn
  repeat' first
    | exact rfl | intro _
    | (with_reducible first | exact Frame.refl _ _ | assumption | apply FrameOut.next | apply Frame.step State.condOff_frame
                            | apply Frame.step State.wr_frame)
    | split
    | dsimp only

theorem execPllUnlock_frame {d : Fin 4} {p : Fin 5} {s : State} :
    FrameOut 9481626453887449626625 s (execPllUnlock d p s) := by
  unfold execPllUnlock
  repeat' first
    | exact rfl | intro _
    | (with_reducible first | exact Frame.refl _ _ | assumption | apply FrameOut.next | apply FrameOut.ite | apply Frame.ite
                            | apply Frame.step State.condAs_frame | apply Frame.step State.monitorFallback_frame
                            | apply Frame.step State.pllFail_frame | apply Frame.step State.wrBit_frame)
    | split
    | dsimp only

theorem execFreqMonitorWindow_frame {d : Fin 4} {bad : BitVec 5} {s : State} :
    FrameOut 9481626453887449626625 s (execFreqMonitorWindow d bad s) := by
  unfold execFreqMonitorWindow
  repeat' first
    | exact rfl | intro _
    | (with_reducible first | exact Frame.refl _ _ | assumption | apply FrameOut.next | apply FrameOut.ite | apply Frame.ite
                            | apply Frame.each | apply Frame.step State.monitorFallback_frame
                            | apply Frame.step State.pllFail_frame)
    | split
    | dsimp only

theorem execPllLock_frame {d : Fin 4} {p : Fin 5} {s : State} : FrameOut 67108865 s (execPllLock d p s) := by
  unfold execPllLock
  repeat' first
    | exact rfl | intro _
    | (with_reducible first | exact Frame.refl _ _ | assumption | apply FrameOut.next | apply FrameOut.ite | apply Frame.ite
                            | apply Frame.step State.condOff_frame | apply Frame.step State.setReady_frame
                            | apply Frame.step State.wrBit_frame)
    | split
    | dsimp only

theorem execDomainRestore_frame {d : Fin 4} {n : Fin 40} {s : State} :
    FrameOut 536870913 s (execDomainRestore d n s) := by
  unfold execDomainRestore
  repeat' first
    | exact rfl | intro _
    | (with_reducible first | exact Frame.refl _ _ | assumption | apply FrameOut.next | apply FrameOut.ite | apply Frame.ite
                            | apply Frame.step State.wr_frame | apply Frame.step State.setDomFlag_frame)
    | split
    | dsimp only

theorem State.ckpRefused_frame {s : State} {d : Nat} : Frame 1 s (State.ckpRefused s d) := by
  unfold State.ckpRefused
  repeat' first
    | exact rfl | intro _
    | (with_reducible first | exact Frame.refl _ _ | assumption | apply Frame.ite | apply Frame.step State.wr_frame)
    | split
    | dsimp only

theorem State.ckpApplied_frame {s old : State} {d : Nat} :
    Frame 9444732965740030523393 s (State.ckpApplied s old d) := by
  unfold State.ckpApplied
  repeat' first
    | exact rfl | intro _
    | (with_reducible first | exact Frame.refl _ _ | assumption | apply Frame.ite | apply Frame.each
                            | apply Frame.step State.enterNormal_frame | apply Frame.step State.domFail_frame
                            | apply Frame.step State.wrb_frame | apply Frame.step State.wr_frame
                            | apply Frame.step State.setDomFlag_frame)
    | split
    | dsimp only

theorem execDomainSwitchDone_frame {d : Fin 4} {n : Fin 40} {s : State} :
    FrameOut 9465915646640517872893 s (execDomainSwitchDone d n s) := by
  unfold execDomainSwitchDone
  repeat' first
    | exact rfl | intro _
    | (with_reducible first | exact Frame.refl _ _ | assumption | apply FrameOut.next | apply FrameOut.ite | apply Frame.ite
                            | apply Frame.step State.cfeResume_frame | apply Frame.step State.wr_frame)
    | split
    | dsimp only

theorem execDomainDozeStop_frame {d : Fin 4} {n : Fin 40} {s : State} :
    FrameOut 536870912 s (execDomainDozeStop d n s) := by
  unfold execDomainDozeStop
  repeat' first
    | exact rfl | intro _
    | (with_reducible first | exact Frame.refl _ _ | assumption | apply FrameOut.next | apply FrameOut.ite | apply Frame.ite
                            | apply Frame.step State.setDomFlag_frame)
    | split
    | dsimp only

theorem State.gateWrite_frame {s : State} {d j : Nat} {v : Word} : Frame 1 s (State.gateWrite s d j v) := by
  unfold State.gateWrite
  repeat' first
    | exact rfl | intro _
    | (with_reducible first | exact Frame.refl _ _ | assumption | apply Frame.step State.rsvBits_frame
                            | apply Frame.step State.wr_frame)
    | split
    | dsimp only

theorem execCkpGateWrite_frame {d : Fin 4} {j : Fin 3} {v : Word} {s : State} :
    FrameOut 1 s (execCkpGateWrite d j v s) := by
  unfold execCkpGateWrite
  repeat' first
    | exact rfl | intro _
    | (with_reducible first | exact Frame.refl _ _ | assumption | apply FrameOut.next
                            | apply Frame.step State.gateWrite_frame | apply State.atBlock_frame)
    | split
    | dsimp only

theorem execBlockGated_frame {d : Fin 4} {j : Fin 3} {bit : Fin 23} {s : State} :
    FrameOut 1 s (execBlockGated d j bit s) := by
  unfold execBlockGated
  repeat' first
    | exact rfl | intro _
    | (with_reducible first | exact Frame.refl _ _ | assumption | apply FrameOut.next | apply FrameOut.ite | apply Frame.ite
                            | apply Frame.step State.wrBit_frame)
    | split
    | dsimp only

theorem State.setNap_frame {s : State} {r : Nat} {v : Bool} : Frame 1 s (State.setNap s r v) := by
  unfold State.setNap
  repeat' first
    | exact rfl | intro _
    | (with_reducible first | exact Frame.refl _ _ | assumption | apply Frame.ite | apply Frame.step State.wrBit_frame)
    | split
    | dsimp only

theorem State.setUnpowered_frame {s : State} {r : Nat} {v : Bool} : Frame 1 s (State.setUnpowered s r v) := by
  unfold State.setUnpowered
  repeat' first
    | exact rfl | intro _
    | (with_reducible first | exact Frame.refl _ _ | assumption | apply Frame.ite | apply Frame.step State.wrBit_frame)
    | split
    | dsimp only

theorem State.napEnter_frame {s : State} {r : Nat} : Frame 15762615875665925 s (State.napEnter s r) := by
  unfold State.napEnter
  repeat' first
    | exact rfl | intro _
    | (with_reducible first | exact Frame.refl _ _ | assumption | apply Frame.ite | apply Frame.step State.setNap_frame
                            | apply Frame.step State.regionEmpty_frame | apply Frame.step State.wr_frame
                            | apply Frame.step State.setRegion_frame)
    | split
    | dsimp only

theorem execNapEnter_frame {r : Fin 256} {s : State} : FrameOut 15762615875665925 s (execNapEnter r s) := by
  unfold execNapEnter
  repeat' first
    | exact rfl | intro _
    | (with_reducible first | exact Frame.refl _ _ | assumption | apply FrameOut.next
                            | apply Frame.step State.napEnter_frame | apply State.atBlock_frame)
    | split
    | dsimp only

theorem State.napExit_frame {s : State} {r : Nat} : Frame 4503599627370497 s (State.napExit s r) := by
  unfold State.napExit
  repeat' first
    | exact rfl | intro _
    | (with_reducible first | exact Frame.refl _ _ | assumption | apply Frame.ite | apply Frame.step State.setNap_frame
                            | apply Frame.step State.setRegion_frame)
    | split
    | dsimp only

theorem execNapExit_frame {r : Fin 256} {s : State} : FrameOut 4503599627370497 s (execNapExit r s) := by
  unfold execNapExit
  repeat' first
    | exact rfl | intro _
    | (with_reducible first | exact Frame.refl _ _ | assumption | apply FrameOut.next | apply Frame.step State.napExit_frame
                            | apply State.atBlock_frame)
    | split
    | dsimp only

theorem State.storeLost_frame {s : State} {r : Nat} : Frame 28 s (State.storeLost s r) := by
  unfold State.storeLost
  repeat' first
    | exact rfl | intro _
    | (with_reducible first | exact Frame.refl _ _ | assumption)
    | split
    | with_reducible apply Frame.step (Frame.upd_mem_wordOk_wordChk (by first | exact KV.risingFrom_filter _ | exact KV.risingFrom_dropRange _ _ | exact KV.wf_filter _ | exact KV.wf_dropRange _ _ | exact KV.risingFrom_put _ _ | exact KV.risingFrom_foldl _))

theorem execNapPowerDone_frame {r : Fin 256} {s : State} : FrameOut 29 s (execNapPowerDone r s) := by
  unfold execNapPowerDone
  repeat' first
    | exact rfl | intro _
    | (with_reducible first | exact Frame.refl _ _ | assumption | apply FrameOut.next | apply FrameOut.ite | apply Frame.ite
                            | apply Frame.step State.storeLost_frame | apply Frame.step State.setUnpowered_frame)
    | split
    | dsimp only

theorem execNapReload_frame {r : Fin 256} {s : State} : FrameOut 9447054571364583012357 s (execNapReload r s) := by
  unfold execNapReload
  repeat' first
    | exact rfl | intro _
    | (with_reducible first | exact Frame.refl _ _ | assumption | apply FrameOut.next | apply FrameOut.ite | apply Frame.ite
                            | apply Frame.step State.regionRelease_frame | apply Frame.step State.framesFromSett_frame
                            | apply Frame.step State.setRegion_frame)
    | split
    | dsimp only

theorem State.hibWrite_frame {s : State} {d : Nat} {v : Word} :
    Frame 85002596691653833848833 s (State.hibWrite s d v) := by
  unfold State.hibWrite
  repeat' first
    | exact rfl | intro _
    | (with_reducible first | exact Frame.refl _ _ | assumption | apply Frame.ite | apply Frame.step State.leaveSync_frame
                            | apply Frame.step State.packageSafe_frame | apply Frame.step State.rsvBits_frame
                            | apply Frame.step State.wrb_frame | apply Frame.step State.wr_frame)
    | split
    | with_reducible apply Frame.step Frame.upd_hib

theorem execHibernateGo_frame {d : Fin 4} {v : Word} {s : State} :
    FrameOut 85002596691653833848833 s (execHibernateGo d v s) := by
  unfold execHibernateGo
  repeat' first
    | exact rfl | intro _
    | (with_reducible first | exact Frame.refl _ _ | assumption | apply FrameOut.next
                            | apply Frame.step State.hibWrite_frame | apply State.atBlock_frame)
    | split
    | dsimp only

theorem State.memoriesLost_frame {s : State} : Frame 15762615875666172 s (State.memoriesLost s) := by
  unfold State.memoriesLost
  repeat' first
    | exact rfl | intro _
    | (with_reducible first | exact Frame.refl _ _ | assumption)
    | split
    | with_reducible apply Frame.step (Frame.upd_multi15 (by first | exact KV.risingFrom_filter _ | exact KV.risingFrom_dropRange _ _ | exact KV.wf_filter _ | exact KV.wf_dropRange _ _ | exact KV.risingFrom_put _ _ | exact KV.risingFrom_foldl _))

theorem execHibernateComplete_frame {s : State} : FrameOut 144124427210545877022973 s (execHibernateComplete s) := by
  unfold execHibernateComplete
  repeat' first
    | exact rfl | intro _
    | (with_reducible first | exact Frame.refl _ _ | assumption | apply FrameOut.next | apply FrameOut.ite | apply Frame.ite
                            | apply Frame.each | apply Frame.step State.memoriesLost_frame
                            | apply Frame.step State.hostDown_frame | apply Frame.step State.gslWire_frame
                            | apply Frame.step State.gslDown_frame | apply Frame.step State.sacReset_frame
                            | apply Frame.step State.setPortState_frame | apply Frame.step State.spReset_frame
                            | apply Frame.step State.wr_frame | apply Frame.step State.setPort_frame
                            | apply Frame.step State.setDomFlag_frame | apply Frame.step State.setCounting_frame)
    | split
    | with_reducible apply Frame.step Frame.upd_multi6

end Sys2Proof.Machine
end

