-- ==== Sys2Proof/Laws/FrameReset.lean ====
section
/-! SUPPORT. What each operation of Machine/Reset.lean can change (Laws/Frame.lean). -/
namespace Sys2Proof.Machine

theorem State.keepRegs_frame {s : State} {keep : Nat → Bool} : Frame 268435459 s (State.keepRegs s keep) := by
  unfold State.keepRegs
  repeat' first
    | exact rfl | intro _
    | (with_reducible first | exact Frame.refl _ _ | assumption)
    | split
    | with_reducible apply Frame.step (Frame.upd_act_stg_held (by first | exact KV.risingFrom_filter _ | exact KV.risingFrom_dropRange _ _ | exact KV.wf_filter _ | exact KV.wf_dropRange _ _ | exact KV.risingFrom_put _ _ | exact KV.risingFrom_foldl _) (by first | exact KV.risingFrom_filter _ | exact KV.risingFrom_dropRange _ _ | exact KV.wf_filter _ | exact KV.wf_dropRange _ _ | exact KV.risingFrom_put _ _ | exact KV.risingFrom_foldl _))

theorem execPorAssert_frame {s : State} : FrameOut 1208925819614629174706175 s (execPorAssert s) := by
  unfold execPorAssert
  refine FrameOut.next (Frame.top rfl fun h => ⟨KV.wf_filter _ h.1, ?_⟩)
  have h2 := h.2
  simp only [State.regsWf, Bool.and_eq_true] at h2 ⊢
  exact ⟨KV.risingFrom_filter _ h2.1, rfl⟩

theorem State.spareMap_frame {s : State} {r : Nat} : Frame 9444732965739493652481 s (State.spareMap s r) := by
  unfold State.spareMap
  repeat' first
    | exact rfl | intro _
    | (with_reducible first | exact Frame.refl _ _ | assumption | apply Frame.ite | apply Frame.step State.raise_frame
                            | apply Frame.step State.wr_frame)
    | split
    | dsimp only

theorem State.slotsAfterPower_frame {s : State} {d : Nat} : Frame 1 s (State.slotsAfterPower s d) := by
  unfold State.slotsAfterPower
  repeat' first
    | exact rfl | intro _
    | (with_reducible first | exact Frame.refl _ _ | assumption | apply Frame.ite | apply Frame.each
                            | apply Frame.step State.setSlot_frame)
    | split
    | dsimp only

theorem execPorRelease_frame {straps : BitVec 16} {s : State} :
    FrameOut 11842809695321735363841 s (execPorRelease straps s) := by
  unfold execPorRelease
  repeat' first
    | exact rfl | intro _
    | (with_reducible first | exact Frame.refl _ _ | assumption | apply FrameOut.next | apply FrameOut.ite | apply Frame.ite
                            | apply Frame.each | apply Frame.step State.slotsAfterPower_frame
                            | apply Frame.step State.spareMap_frame | apply Frame.step State.gslSession_frame
                            | apply Frame.step State.svpStrap_frame | apply Frame.step State.setReady_frame
                            | apply Frame.step State.wrb_frame | apply Frame.step State.wr_frame
                            | apply Frame.step State.setOwl_frame)
    | split
    | with_reducible apply Frame.step Frame.upd_por

theorem State.devnumWrite_frame {s : State} {d : Nat} {v : Word} : Frame 1 s (State.devnumWrite s d v) := by
  unfold State.devnumWrite
  repeat' first
    | exact rfl | intro _
    | (with_reducible first | exact Frame.refl _ _ | assumption | apply Frame.ite | apply Frame.step State.rsvBits_frame
                            | apply Frame.step State.lockw_frame | apply Frame.step State.wr_frame)
    | split
    | dsimp only

theorem execDevnumWrite_frame {d : Fin 4} {v : Word} {s : State} : FrameOut 1 s (execDevnumWrite d v s) := by
  unfold execDevnumWrite
  repeat' first
    | exact rfl | intro _
    | (with_reducible first | exact Frame.refl _ _ | assumption | apply FrameOut.next
                            | apply Frame.step State.devnumWrite_frame | apply State.atBlock_frame)
    | split
    | dsimp only

theorem State.pkgReady_frame {s : State} : Frame 1 s (State.pkgReady s) := by
  unfold State.pkgReady
  repeat' first
    | exact rfl | intro _
    | (with_reducible first | exact Frame.refl _ _ | assumption | apply Frame.ite | apply Frame.each
                            | apply Frame.step State.wrBit_frame | apply Frame.step State.wrb_frame
                            | apply Frame.step State.wr_frame)
    | split
    | dsimp only

theorem State.vrefLoad_frame {s : State} {d : Nat} : Frame 24577 s (State.vrefLoad s d) := by
  unfold State.vrefLoad
  repeat' first
    | exact rfl | intro _
    | (with_reducible first | exact Frame.refl _ _ | assumption | apply Frame.ite | apply Frame.each
                            | apply Frame.step State.vrefNominal_frame | apply Frame.step State.setBank_frame)
    | split
    | dsimp only

theorem execReadyPoll_frame {d : Fin 4} {s : State} : FrameOut 24577 s (execReadyPoll d s) := by
  unfold execReadyPoll
  repeat' first
    | exact rfl | intro _
    | (with_reducible first | exact Frame.refl _ _ | assumption | apply FrameOut.next | apply FrameOut.ite | apply Frame.ite
                            | apply Frame.each | apply Frame.step State.vrefLoad_frame
                            | apply Frame.step State.pkgReady_frame | apply Frame.step State.arpPartnerReady_frame
                            | apply Frame.step State.setReady_frame | apply Frame.step State.wr_frame)
    | split
    | dsimp only

theorem State.cdcDiscard_frame {s : State} {d : Nat} {hit : Flight → Bool} :
    Frame 151115727451830794321921 s (State.cdcDiscard s d hit) := by
  unfold State.cdcDiscard
  repeat' first
    | exact rfl | intro _
    | (with_reducible first | exact Frame.refl _ _ | assumption | apply Frame.each | apply Frame.step State.answer_frame
                            | apply Frame.step State.count_frame | apply Frame.step State.setShut_frame)
    | split
    | dsimp only

theorem execCdcReadyResume_frame {d : Fin 4} {s : State} :
    FrameOut 151115727451828646838272 s (execCdcReadyResume d s) := by
  unfold execCdcReadyResume
  repeat' first
    | exact rfl | intro _
    | (with_reducible first | exact Frame.refl _ _ | assumption | apply FrameOut.next | apply FrameOut.ite | apply Frame.ite
                            | apply Frame.step State.setShut_frame)
    | split
    | dsimp only

theorem State.dieCleared_frame {s : State} {d : Nat} : Frame 25974889012954474082308 s (State.dieCleared s d) := by
  unfold State.dieCleared
  repeat' first
    | exact rfl | intro _
    | (with_reducible first | exact Frame.refl _ _ | assumption | apply Frame.ite)
    | split
    | with_reducible apply Frame.step (Frame.upd_multi16 (by first | exact KV.risingFrom_filter _ | exact KV.risingFrom_dropRange _ _ | exact KV.wf_filter _ | exact KV.wf_dropRange _ _ | exact KV.risingFrom_put _ _ | exact KV.risingFrom_foldl _))

theorem State.crossLost_frame {s : State} {d : Nat} : Frame 52776558133248 s (State.crossLost s d) := by
  unfold State.crossLost
  repeat' first
    | exact rfl | intro _
    | (with_reducible first | exact Frame.refl _ _ | assumption | apply Frame.each
                            | apply Frame.step State.setRelayBit_frame | apply Frame.step State.setCrossBus_frame)
    | split
    | dsimp only

theorem State.stcDrop_frame {s : State} : Frame 2305843009213693953 s (State.stcDrop s) := by
  unfold State.stcDrop
  repeat' first
    | exact rfl | intro _
    | (with_reducible first | exact Frame.refl _ _ | assumption | apply Frame.ite | apply Frame.each
                            | apply Frame.step State.cmdDrop_frame | apply Frame.step State.setSlot_frame)
    | split
    | dsimp only

theorem State.loadsCancelled_frame {s : State} {d : Nat} :
    Frame 9451756329375557810181 s (State.loadsCancelled s d) := by
  unfold State.loadsCancelled
  repeat' first
    | exact rfl | intro _
    | (with_reducible first | exact Frame.refl _ _ | assumption | apply Frame.ite | apply Frame.each
                            | apply Frame.step State.stcDrop_frame | apply Frame.step State.stcEnd_frame
                            | apply Frame.step State.cfeCancel_frame)
    | split
    | dsimp only

theorem State.dieReset_frame {s : State} {d cause : Nat} :
    Frame 224561006548313282837511 s (State.dieReset s d cause) := by
  unfold State.dieReset
  repeat' first
    | exact rfl | intro _
    | (with_reducible first | exact Frame.refl _ _ | assumption | apply Frame.ite | apply Frame.each
                            | apply Frame.step State.loadsCancelled_frame | apply Frame.step State.crossLost_frame
                            | apply Frame.step State.dieCleared_frame | apply Frame.step State.cdcDiscard_frame
                            | apply Frame.step State.keepRegs_frame | apply Frame.step State.hostDown_frame
                            | apply Frame.step State.siteReset_frame | apply Frame.step State.gslDown_frame
                            | apply Frame.step State.svpReset_frame | apply Frame.step State.sacReset_frame
                            | apply Frame.step State.setPortState_frame | apply Frame.step State.spReset_frame
                            | apply Frame.step State.orphanDie_frame | apply Frame.step State.orphanOwner_frame
                            | apply Frame.step State.sweepAbort_frame | apply Frame.step State.fhRefresh_frame
                            | apply Frame.step State.pmuForceOff_frame | apply Frame.step State.haltPsq_frame
                            | apply Frame.step State.setReady_frame | apply Frame.step State.wr_frame
                            | apply Frame.step State.setRegion_frame)
    | split
    | with_reducible apply Frame.step Frame.upd_flights

theorem State.drstWrite_frame {s : State} {d : Nat} {v : Word} :
    Frame 224561006548313282837511 s (State.drstWrite s d v) := by
  unfold State.drstWrite
  repeat' first
    | exact rfl | intro _
    | (with_reducible first | exact Frame.refl _ _ | assumption | apply Frame.ite | apply Frame.step State.dieReset_frame
                            | apply Frame.step State.rsvBits_frame)
    | split
    | dsimp only

theorem execDieReset_frame {d : Fin 4} {byOwl : Bool} {s : State} :
    FrameOut 224561006548313282837511 s (execDieReset d byOwl s) := by
  unfold execDieReset
  repeat' first
    | exact rfl | intro _
    | (with_reducible first | exact Frame.refl _ _ | assumption | apply FrameOut.next | apply FrameOut.ite | apply Frame.ite
                            | apply Frame.step State.dieReset_frame | apply State.atBlock_frame)
    | split
    | dsimp only

theorem execDieResetDone_frame {d : Fin 4} {s : State} : FrameOut 1 s (execDieResetDone d s) := by
  unfold execDieResetDone
  repeat' first
    | exact rfl | intro _
    | (with_reducible first | exact Frame.refl _ _ | assumption | apply FrameOut.next | apply Frame.step State.wr_frame)
    | split
    | dsimp only

theorem execHibernateWake_frame {w : Wake} {s : State} :
    FrameOut 1208925819614629174706175 s (execHibernateWake w s) := by
  unfold execHibernateWake
  repeat' first
    | exact rfl | intro _
    | (with_reducible first | exact Frame.refl _ _ | assumption | apply FrameOut.next | apply FrameOut.ite | apply Frame.ite
                            | apply Frame.each | apply Frame.foldl | apply Frame.foldl1 | apply Frame.foldlP1
                            | apply Frame.foldlP2 | apply Frame.foldlP3 | apply Frame.foldlP4 | apply Frame.foldlP5
                            | apply Frame.step State.spareMap_frame | apply Frame.step State.keepRegs_frame
                            | apply Frame.step State.gslSession_frame | apply Frame.step State.svpReset_frame
                            | apply Frame.step State.pairFailed_frame | apply Frame.step State.wr_frame)
    | split
    | dsimp only
  all_goals
    refine Frame.top rfl fun h => ⟨h.1, ?_⟩
    have hk := (State.keepRegs_frame (s := (List.range 4).foldl (fun s d => s.svpReset d) s) (keep := fun k =>
      keptDen (keyOff k) || keptSett (keyOff k) (keyLsb k) || keptDctl (keyOff k) ||
        decide (0x300000 ≤ keyOff k) && decide (keyOff k < 0x400000) || keyOff k == 0x100010 || keyOff k == 0x100014 ||
        s.hibKeep && decide (0xD00000 ≤ keyOff k) && decide (keyOff k < 0xE00000))).inv
      ((Frame.foldl (W := 1208925819614629174706175) (Frame.refl _ s) (fun d t ht => State.svpReset_frame.step (by decide) ht) _).inv h)
    have h2 := hk.2
    simp only [State.regsWf, Bool.and_eq_true] at h2 ⊢
    exact h2

theorem State.loadDropped_frame {s : State} {d : Nat} : Frame 33777014385147909 s (State.loadDropped s d) := by
  unfold State.loadDropped
  repeat' first
    | exact rfl | intro _
    | (with_reducible first | exact Frame.refl _ _ | assumption | apply Frame.ite | apply Frame.step State.cfeFailAll_frame)
    | split
    | with_reducible apply Frame.step Frame.upd_cfes

theorem State.blockReset_frame {s : State} {d j bit : Nat} :
    Frame 224560357414515307838471 s (State.blockReset s d j bit) := by
  unfold State.blockReset
  repeat' first
    | exact rfl | intro _
    | (with_reducible first | exact Frame.refl _ _ | assumption | apply Frame.ite | apply Frame.each
                            | apply Frame.step State.loadDropped_frame | apply Frame.step State.stcDrop_frame
                            | apply Frame.step State.cdcDiscard_frame | apply Frame.step State.keepRegs_frame
                            | apply Frame.step State.hostDown_frame | apply Frame.step State.gslSession_frame
                            | apply Frame.step State.gslDown_frame | apply Frame.step State.dropRegs_frame
                            | apply Frame.step State.svpReset_frame | apply Frame.step State.sacReset_frame
                            | apply Frame.step State.setPortState_frame | apply Frame.step State.spReset_frame
                            | apply Frame.step State.orphanDie_frame | apply Frame.step State.regionEmpty_frame
                            | apply Frame.step State.sweepAbort_frame | apply Frame.step State.pmuForceOff_frame
                            | apply Frame.step State.latchPins_frame | apply Frame.step State.haltPsq_frame
                            | apply Frame.step State.setReady_frame | apply Frame.step State.setSac_frame
                            | apply Frame.step State.setSett_frame | apply Frame.step State.setRae_frame
                            | apply Frame.step State.setFcu_frame | apply Frame.step State.setImeOp_frame
                            | apply Frame.step State.setImeKey_frame | apply Frame.step State.setSweep_frame
                            | apply Frame.step State.setPort_frame | apply Frame.step State.setGuest_frame
                            | apply Frame.step State.setPsq_frame | apply Frame.step State.setBank_frame)
    | split
    | with_reducible apply Frame.step Frame.upd_pins_fails
    | with_reducible apply Frame.step Frame.upd_regionXs_chks
    | with_reducible apply Frame.step Frame.upd_relayOut_stc
    | with_reducible apply Frame.step Frame.upd_stopOut_gsls_routes
    | with_reducible apply Frame.step Frame.upd_dmas
    | with_reducible apply Frame.step Frame.upd_stops_trigs
    | with_reducible apply Frame.step Frame.upd_fcuSites
    | with_reducible apply Frame.step Frame.upd_pmus

theorem State.brstWrite_frame {s : State} {d j : Nat} {v : Word} :
    Frame 224560357414515307838471 s (State.brstWrite s d j v) := by
  unfold State.brstWrite
  repeat' first
    | exact rfl | intro _
    | (with_reducible first | exact Frame.refl _ _ | assumption | apply Frame.ite | apply Frame.each
                            | apply Frame.step State.blockReset_frame | apply Frame.step State.rsvBits_frame)
    | split
    | dsimp only

theorem execBlockReset_frame {d : Fin 4} {j : Fin 3} {v : Word} {s : State} :
    FrameOut 224560357414515307838471 s (execBlockReset d j v s) := by
  unfold execBlockReset
  repeat' first
    | exact rfl | intro _
    | (with_reducible first | exact Frame.refl _ _ | assumption | apply FrameOut.next
                            | apply Frame.step State.brstWrite_frame | apply State.atBlock_frame)
    | split
    | dsimp only

end Sys2Proof.Machine
end

