-- ==== Sys2Proof/Laws/FrameLookup.lean ====
section
/-! SUPPORT. What each operation of Machine/Lookup.lean can change (Laws/Frame.lean). -/
namespace Sys2Proof.Machine

theorem State.confLeft_frame {s : State} : Frame 1024 s (State.confLeft s).2 := by
  unfold State.confLeft
  repeat' first
    | exact rfl | intro _
    | (with_reducible first | exact Frame.refl _ _ | assumption | apply Frame.step State.drew_frame)
    | split
    | dsimp only

theorem State.denPc_frame {s : State} {core : Nat} : Frame 1024 s (State.denPc s core).2 := by
  unfold State.denPc
  repeat' first
    | exact rfl | intro _
    | (with_reducible first | exact Frame.refl _ _ | assumption | apply Frame.iteP1 | apply Frame.ite
                            | apply Frame.step State.drew_frame)
    | split
    | dsimp only

theorem State.computed_frame {s : State} {p : Place} {h : Hit} :
    FrameP 147573952589676413953 s (State.computed s p h) := by
  unfold State.computed
  repeat' first
    | exact rfl | intro _
    | (with_reducible first | exact Frame.refl _ _ | assumption | exact FrameP.none | apply FrameP.some | apply FrameP.ite
                            | apply Frame.ite | apply FrameO.getD | apply Frame.step State.denPc_frame
                            | apply Frame.step State.confLeft_frame | apply Frame.step State.uartRead_frame
                            | apply Frame.step State.drew_frame | apply Frame.ofP1 (by assumption))
    | split
    | dsimp only

theorem State.placeRead_frame {s : State} {ini : Ini} {p : Place} :
    Frame 9592306918329170066433 s (State.placeRead s ini p).2 := by
  unfold State.placeRead
  repeat' first
    | exact rfl | intro _
    | (with_reducible first | exact Frame.refl _ _ | assumption | apply Frame.iteP1 | apply Frame.ite
                            | apply FrameP.step State.computed_frame | apply Frame.step State.lockRead_frame
                            | apply Frame.step State.countChip_frame | apply Frame.ofP1 (by assumption)
                            | apply FrameP.of (by assumption))
    | split
    | dsimp only

theorem State.readAt_frame {s : State} {ini : Ini} {x2 : Option Place} :
    Frame 9592306918329170066433 s (State.readAt s ini x2).2 := by
  unfold State.readAt
  repeat' first
    | exact rfl | intro _
    | (with_reducible first | exact Frame.refl _ _ | assumption | apply Frame.iteP1 | apply Frame.ite
                            | apply Frame.step State.placeRead_frame | apply Frame.ofP1 (by assumption))
    | split
    | dsimp only

theorem State.regRead_frame {s : State} {ini : Ini} {a : Nat} :
    Frame 9592306918329170066433 s (State.regRead s ini a).2 := by
  unfold State.regRead
  repeat' first
    | exact rfl | intro _
    | (with_reducible first | exact Frame.refl _ _ | assumption | apply Frame.step State.readAt_frame
                            | apply Frame.ofP1 (by assumption))
    | split
    | dsimp only

end Sys2Proof.Machine
end

