-- ==== Sys2Proof/Laws/FrameBus.lean ====
section
/-! SUPPORT. What each operation of Machine/Bus.lean can change (Laws/Frame.lean). -/
namespace Sys2Proof.Machine

theorem State.newVersion_frame {s : State} {p : Place} : Frame 302231454903661588643841 s (State.newVersion s p) := by
  unfold State.newVersion
  repeat' first
    | exact rfl | intro _
    | (with_reducible first | exact Frame.refl _ _ | assumption | apply Frame.step State.seqUp_frame
                            | apply Frame.step State.setDrain_frame)
    | split
    | with_reducible apply Frame.step Frame.upd_nocNext

theorem State.committed_frame {s old : State} {p : Place} :
    Frame 11805916207174869908481 s (State.committed s old p) := by
  unfold State.committed
  repeat' first
    | exact rfl | intro _
    | (with_reducible first | exact Frame.refl _ _ | assumption | apply Frame.step State.ckpApplied_frame
                            | apply Frame.step State.siteApplied_frame | apply Frame.step State.gslApplied_frame
                            | apply Frame.step State.fcuCommitted_frame | apply Frame.step State.imeRefs_frame
                            | apply Frame.step State.ptbCommitted_frame)
    | split
    | dsimp only

theorem State.commitGo_frame {s : State} {p : Place} {owl : Bool} :
    Frame 314037371110836726987779 s (State.commitGo s p owl) := by
  unfold State.commitGo
  repeat' first
    | exact rfl | intro _
    | (with_reducible first | exact Frame.refl _ _ | assumption | apply Frame.ite | apply Frame.foldl | apply Frame.foldl1
                            | apply Frame.foldlP1 | apply Frame.foldlP2 | apply Frame.foldlP3 | apply Frame.foldlP4
                            | apply Frame.foldlP5 | apply Frame.step State.committed_frame
                            | apply Frame.step State.newVersion_frame | apply Frame.step State.ckpRefused_frame
                            | apply Frame.step State.applyHeld_frame | apply Frame.step State.commitErr_frame
                            | apply Frame.step State.lockw_frame | apply Frame.step State.wr_frame)
    | split
    | with_reducible apply Frame.step Frame.upd_held

theorem State.commitDiscard_frame {s : State} {p : Place} : Frame 3 s (State.commitDiscard s p) := by
  unfold State.commitDiscard
  repeat' first
    | exact rfl | intro _
    | (with_reducible first | exact Frame.refl _ _ | assumption | apply Frame.ite | apply Frame.step State.commitErr_frame
                            | apply Frame.step State.lockw_frame)
    | split
    | with_reducible apply Frame.step (Frame.upd_stg (by first | exact KV.risingFrom_filter _ | exact KV.risingFrom_dropRange _ _ | exact KV.wf_filter _ | exact KV.wf_dropRange _ _ | exact KV.risingFrom_put _ _ | exact KV.risingFrom_foldl _))

theorem State.commitWrite_frame {s : State} {ini : Ini} {p : Place} {v : Nat} :
    Frame 314037371110836726987779 s (State.commitWrite s ini p v) := by
  unfold State.commitWrite
  repeat' first
    | exact rfl | intro _
    | (with_reducible first | exact Frame.refl _ _ | assumption | apply Frame.ite
                            | apply Frame.step State.commitDiscard_frame | apply Frame.step State.commitGo_frame
                            | apply Frame.step State.rsvBits_frame | apply Frame.step State.rsvw_frame)
    | split
    | dsimp only

theorem State.writeField_frame {s : State} {base : Nat} {f : Fld} {acc : Acc} {busy : Bool} {x : Nat} :
    Frame 3 s (State.writeField s base f acc busy x) := by
  unfold State.writeField
  repeat' first
    | exact rfl | intro _
    | (with_reducible first | exact Frame.refl _ _ | assumption | apply Frame.ite | apply Frame.step State.stage_frame
                            | apply Frame.step State.wr_frame)
    | split
    | with_reducible apply Frame.step (Frame.upd_stg (by first | exact KV.risingFrom_filter _ | exact KV.risingFrom_dropRange _ _ | exact KV.wf_filter _ | exact KV.wf_dropRange _ _ | exact KV.risingFrom_put _ _ | exact KV.risingFrom_foldl _))

theorem State.writeFields_frame {s : State} {p : Place} {h : Hit} {v : Nat} :
    Frame 3 s (State.writeFields s p h v) := by
  unfold State.writeFields
  repeat' first
    | exact rfl | intro _
    | (with_reducible first | exact Frame.refl _ _ | assumption | apply Frame.each | apply Frame.step State.writeField_frame)
    | split
    | dsimp only

theorem State.egWrite_frame {s : State} {p : Place} {h : Hit} {v : Word} :
    FrameO 9465490056458551490815 s (State.egWrite s p h v) := by
  unfold State.egWrite
  repeat' first
    | exact rfl | intro _
    | (with_reducible first | exact Frame.refl _ _ | assumption | exact FrameO.none | apply FrameO.some | apply FrameO.ite
                            | apply Frame.ite | apply Frame.step State.writeFields_frame
                            | apply Frame.step State.egCntClr_frame | apply Frame.step State.egInv_frame)
    | split
    | dsimp only

theorem State.dctlWrite_frame {s : State} {p : Place} {h : Hit} {v : Word} :
    FrameO 225741598169030694140935 s (State.dctlWrite s p h v) := by
  unfold State.dctlWrite
  repeat' first
    | exact rfl | intro _
    | (with_reducible first | exact Frame.refl _ _ | assumption | exact FrameO.none | apply FrameO.some
                            | apply Frame.step State.drstWrite_frame | apply Frame.step State.devnumWrite_frame
                            | apply Frame.step State.wdogWrite_frame)
    | split
    | dsimp only

theorem State.napWrite_frame {s : State} {d hi v : Nat} : Frame 15762615875665925 s (State.napWrite s d hi v) := by
  unfold State.napWrite
  repeat' first
    | exact rfl | intro _
    | (with_reducible first | exact Frame.refl _ _ | assumption | apply Frame.ite | apply Frame.each
                            | apply Frame.step State.napExit_frame | apply Frame.step State.napEnter_frame)
    | split
    | dsimp only

theorem State.ckpWrite_frame {s : State} {p : Place} {h : Hit} {v : Word} :
    FrameO 300118221140429631257607 s (State.ckpWrite s p h v) := by
  unfold State.ckpWrite
  repeat' first
    | exact rfl | intro _
    | (with_reducible first | exact Frame.refl _ _ | assumption | exact FrameO.none | apply FrameO.some
                            | apply Frame.step State.napWrite_frame | apply Frame.step State.brstWrite_frame
                            | apply Frame.step State.hibWrite_frame | apply Frame.step State.gateWrite_frame)
    | split
    | dsimp only

theorem State.fhWrite_frame {s : State} {p : Place} {h : Hit} {v : Word} :
    FrameO 9444732965739493652483 s (State.fhWrite s p h v) := by
  unfold State.fhWrite
  repeat' first
    | exact rfl | intro _
    | (with_reducible first | exact Frame.refl _ _ | assumption | exact FrameO.none | apply FrameO.some | apply FrameO.ite
                            | apply Frame.ite | apply Frame.step State.writeFields_frame
                            | apply Frame.step State.fhCntClr_frame | apply Frame.step State.fhLogRd_frame
                            | apply Frame.step State.fhRelease_frame | apply Frame.step State.fhPendWrite_frame
                            | apply Frame.step State.fhInject_frame | apply Frame.step State.fhRefresh_frame
                            | apply Frame.step State.rsvw_frame)
    | split
    | dsimp only

theorem State.svpWrite_frame {s : State} {p : Place} {h : Hit} {v : Word} :
    FrameO 147573952589676412931 s (State.svpWrite s p h v) := by
  unfold State.svpWrite
  repeat' first
    | exact rfl | intro _
    | (with_reducible first | exact Frame.refl _ _ | assumption | exact FrameO.none | apply FrameO.some | apply FrameO.ite
                            | apply Frame.ite | apply Frame.step State.writeFields_frame
                            | apply Frame.step State.spiAck_frame | apply Frame.step State.spiGo_frame
                            | apply Frame.step State.i2cAck_frame | apply Frame.step State.i2cGo_frame
                            | apply Frame.step State.uartWrite_frame | apply Frame.step State.svpLock_frame
                            | apply Frame.step State.svpOut_frame | apply Frame.step State.svpMode_frame
                            | apply Frame.step State.svpEval_frame | apply Frame.step State.lockw_frame)
    | split
    | dsimp only

theorem State.cfeWrite_frame {s : State} {p : Place} {h : Hit} {v : Word} :
    FrameO 9465627416264366161149 s (State.cfeWrite s p h v) := by
  unfold State.cfeWrite
  repeat' first
    | exact rfl | intro _
    | (with_reducible first | exact Frame.refl _ _ | assumption | exact FrameO.none | apply FrameO.some | apply FrameO.ite
                            | apply Frame.ite | apply Frame.step State.cfeChkClr_frame
                            | apply Frame.step State.cfeAck_frame | apply Frame.step State.cfeCancel_frame
                            | apply Frame.step State.cfeCont_frame | apply Frame.step State.cfeStart_frame
                            | apply Frame.step State.frRack_frame | apply Frame.step State.frReloc_frame
                            | apply Frame.step State.frReset_frame | apply Frame.step State.frFence_frame
                            | apply Frame.step State.rsvw_frame)
    | split
    | dsimp only

theorem State.stcWrite_frame {s : State} {p : Place} {h : Hit} {v : Word} :
    FrameO 11877401844096092142845 s (State.stcWrite s p h v) := by
  unfold State.stcWrite
  repeat' first
    | exact rfl | intro _
    | (with_reducible first | exact Frame.refl _ _ | assumption | exact FrameO.none | apply FrameO.some | apply FrameO.ite
                            | apply Frame.ite | apply Frame.step State.stcConfirm_frame
                            | apply Frame.step State.stcActivate_frame | apply Frame.step State.stcInval_frame
                            | apply Frame.step State.stcKeyinst_frame | apply Frame.step State.stcRecwrite_frame
                            | apply Frame.step State.stcStage_frame | apply Frame.step State.stcAck_frame
                            | apply State.stcCommand_frame | apply Frame.step State.rsvw_frame)
    | split
    | dsimp only

theorem State.nocWrite_frame {s : State} {p : Place} {h : Hit} {v : Word} : FrameO 3 s (State.nocWrite s p h v) := by
  unfold State.nocWrite
  repeat' first
    | exact rfl | intro _
    | (with_reducible first | exact Frame.refl _ _ | assumption | exact FrameO.none | apply FrameO.some | apply FrameO.ite
                            | apply Frame.ite | apply Frame.step State.writeFields_frame
                            | apply Frame.step State.ntClear_frame | apply Frame.step State.nsClr_frame
                            | apply Frame.step State.nocCntClr_frame)
    | split
    | dsimp only

theorem State.d2dWrite_frame {s : State} {p : Place} {h : Hit} {v : Word} :
    FrameO 9444838801447428356101 s (State.d2dWrite s p h v) := by
  unfold State.d2dWrite
  repeat' first
    | exact rfl | intro _
    | (with_reducible first | exact Frame.refl _ _ | assumption | exact FrameO.none | apply FrameO.some | apply FrameO.ite
                            | apply Frame.ite | apply Frame.step State.d2dAck_frame
                            | apply Frame.step State.d2dSwap_frame)
    | split
    | dsimp only

theorem State.mpWrite_frame {s : State} {p : Place} {h : Hit} {v : Word} :
    FrameO 9463179709849710426341 s (State.mpWrite s p h v) := by
  unfold State.mpWrite
  repeat' first
    | exact rfl | intro _
    | (with_reducible first | exact Frame.refl _ _ | assumption | exact FrameO.none | apply FrameO.some | apply FrameO.ite
                            | apply Frame.ite | apply Frame.step State.mpAck_frame
                            | apply Frame.step State.mpRetrain_frame)
    | split
    | dsimp only

theorem State.imeWrite_frame {s : State} {p : Place} {h : Hit} {v : Word} :
    FrameO 206158430209 s (State.imeWrite s p h v) := by
  unfold State.imeWrite
  repeat' first
    | exact rfl | intro _
    | (with_reducible first | exact Frame.refl _ _ | assumption | exact FrameO.none | apply FrameO.some | apply FrameO.ite
                            | apply Frame.ite | apply Frame.step State.sweepAck_frame
                            | apply Frame.step State.sweepResume_frame | apply Frame.step State.sweepGo_frame
                            | apply Frame.step State.imeAck_frame | apply Frame.step State.imeCommand_frame
                            | apply Frame.step State.rsvw_frame)
    | split
    | dsimp only

theorem State.gslWrite_frame {s : State} {p : Place} {h : Hit} {v : Word} :
    FrameO 2361183241434822606849 s (State.gslWrite s p h v) := by
  unfold State.gslWrite
  repeat' first
    | exact rfl | intro _
    | (with_reducible first | exact Frame.refl _ _ | assumption | exact FrameO.none | apply FrameO.some | apply FrameO.ite
                            | apply Frame.ite | apply Frame.step State.gslCntClr_frame
                            | apply Frame.step State.gslKeyAck_frame | apply Frame.step State.gslKeyKill_frame
                            | apply Frame.step State.gslKeyLoad_frame | apply Frame.step State.rsvw_frame)
    | split
    | dsimp only

theorem State.hstWrite_frame {s : State} {p : Place} {h : Hit} {v : Word} :
    FrameO 18889465931478580854787 s (State.hstWrite s p h v) := by
  unfold State.hstWrite
  repeat' first
    | exact rfl | intro _
    | (with_reducible first | exact Frame.refl _ _ | assumption | exact FrameO.none | apply FrameO.some | apply FrameO.ite
                            | apply Frame.ite | apply Frame.step State.writeFields_frame
                            | apply Frame.step State.dmaResume_frame | apply Frame.step State.dmaCancel_frame
                            | apply Frame.step State.dmaProd_frame | apply Frame.step State.dmaKick_frame)
    | split
    | dsimp only

theorem State.ptbWrite_frame {s : State} {p : Place} {h : Hit} {v : Word} : FrameO 1 s (State.ptbWrite s p h v) := by
  unfold State.ptbWrite
  repeat' first
    | exact rfl | intro _
    | (with_reducible first | exact Frame.refl _ _ | assumption | exact FrameO.none | apply FrameO.some | apply FrameO.ite
                            | apply Frame.ite | apply Frame.step State.ptbCntClr_frame
                            | apply Frame.step State.ptbReload_frame | apply Frame.step State.ptbSnap_frame)
    | split
    | dsimp only

theorem State.psqWrite_frame {s : State} {p : Place} {h : Hit} {v : Word} :
    FrameO 9444732965740030523395 s (State.psqWrite s p h v) := by
  unfold State.psqWrite
  repeat' first
    | exact rfl | intro _
    | (with_reducible first | exact Frame.refl _ _ | assumption | exact FrameO.none | apply FrameO.some | apply FrameO.ite
                            | apply Frame.ite | apply Frame.step State.psqCntClr_frame
                            | apply Frame.step State.psqGstop_frame | apply Frame.step State.psqHaltCmd_frame
                            | apply Frame.step State.psqAck_frame | apply Frame.step State.psqArm_frame
                            | apply Frame.step State.sdCtl_frame | apply Frame.step State.sdWrite_frame)
    | split
    | dsimp only

theorem State.tcbWrite_frame {s : State} {p : Place} {h : Hit} {v : Word} :
    FrameO 9444732965739493652481 s (State.tcbWrite s p h v) := by
  unfold State.tcbWrite
  repeat' first
    | exact rfl | intro _
    | (with_reducible first | exact Frame.refl _ _ | assumption | exact FrameO.none | apply FrameO.some | apply FrameO.ite
                            | apply Frame.ite | apply Frame.step State.tcbCntClr_frame
                            | apply Frame.step State.etcAck_frame | apply Frame.step State.etcGo_frame
                            | apply Frame.step State.capptrWrite_frame | apply Frame.step State.tcbSafeWrite_frame
                            | apply Frame.step State.tcbEnWrite_frame | apply Frame.step State.roleWrite_frame
                            | apply Frame.step State.reservedWrite_frame)
    | split
    | dsimp only

theorem State.fcuWrite_frame {s : State} {p : Place} {h : Hit} {v : Word} :
    FrameO 422212465065985 s (State.fcuWrite s p h v) := by
  unfold State.fcuWrite
  repeat' first
    | exact rfl | intro _
    | (with_reducible first | exact Frame.refl _ _ | assumption | exact FrameO.none | apply FrameO.some | apply FrameO.ite
                            | apply Frame.ite | apply Frame.step State.fcuCclr_frame
                            | apply Frame.step State.fsRdptr_frame | apply Frame.step State.fsBmclr_frame
                            | apply Frame.step State.fsFreset_frame | apply Frame.step State.fsFack_frame
                            | apply Frame.step State.fsFlush_frame | apply Frame.step State.fsClear_frame)
    | split
    | dsimp only

theorem State.raeWrite_frame {s : State} {p : Place} {h : Hit} {v : Word} :
    FrameO 9465491182358458334461 s (State.raeWrite s p h v) := by
  unfold State.raeWrite
  repeat' first
    | exact rfl | intro _
    | (with_reducible first | exact Frame.refl _ _ | assumption | exact FrameO.none | apply FrameO.some | apply FrameO.ite
                            | apply Frame.ite | apply Frame.step State.rjAck_frame
                            | apply Frame.step State.rjCancel_frame | apply Frame.step State.rjGo_frame)
    | split
    | dsimp only

theorem State.sacWrite_frame {s : State} {p : Place} {h : Hit} {v : Word} :
    FrameO 9518519942034331858945 s (State.sacWrite s p h v) := by
  unfold State.sacWrite
  repeat' first
    | exact rfl | intro _
    | (with_reducible first | exact Frame.refl _ _ | assumption | exact FrameO.none | apply FrameO.some | apply FrameO.ite
                            | apply Frame.ite | apply Frame.step State.sacCntClr_frame
                            | apply Frame.step State.sacXAck_frame | apply Frame.step State.sacStart_frame
                            | apply Frame.step State.sacHaltreq_frame | apply Frame.step State.sacDbell_frame
                            | apply Frame.step State.sacRst_frame | apply Frame.step State.sacXCancel_frame
                            | apply Frame.step State.wr_frame | apply Frame.step State.setSac_frame)
    | split
    | dsimp only

theorem State.msipWrite_frame {s : State} {n : Nat} {v : Bool} :
    Frame 18446744073709551617 s (State.msipWrite s n v) := by
  unfold State.msipWrite
  repeat' first
    | exact rfl | intro _
    | (with_reducible first | exact Frame.refl _ _ | assumption | apply Frame.step State.wrb_frame
                            | apply Frame.step State.setSp_frame)
    | split
    | dsimp only

theorem State.spcWrite_frame {s : State} {p : Place} {h : Hit} {v : Word} :
    FrameO 9463179709813203204099 s (State.spcWrite s p h v) := by
  unfold State.spcWrite
  repeat' first
    | exact rfl | intro _
    | (with_reducible first | exact Frame.refl _ _ | assumption | exact FrameO.none | apply FrameO.some | apply FrameO.ite
                            | apply Frame.ite | apply Frame.step State.msipWrite_frame
                            | apply Frame.step State.writeFields_frame | apply Frame.step State.mtipRefresh_frame
                            | apply Frame.step State.spSwi_frame | apply Frame.step State.spRst_frame)
    | split
    | dsimp only

theorem State.lckWrite_frame {s : State} {ini : Ini} {p : Place} {h : Hit} : FrameO 1 s (State.lckWrite s ini p h) := by
  unfold State.lckWrite
  repeat' first
    | exact rfl | intro _
    | (with_reducible first | exact Frame.refl _ _ | assumption | exact FrameO.none | apply FrameO.some
                            | apply Frame.step State.lockWrite_frame)
    | split
    | dsimp only

theorem State.siteWrite_frame {s : State} {h : Hit} {v : Word} :
    FrameO 28407987421627432107009 s (State.siteWrite s h v) := by
  unfold State.siteWrite
  repeat' first
    | exact rfl | intro _
    | (with_reducible first | exact Frame.refl _ _ | assumption | exact FrameO.none | apply FrameO.some | apply FrameO.ite
                            | apply Frame.ite | apply Frame.step State.siteRelease_frame
                            | apply Frame.step State.siteReset_frame)
    | split
    | dsimp only

theorem State.arpWrite_frame {s : State} {p : Place} {h : Hit} {v : Word} :
    FrameO 57345 s (State.arpWrite s p h v) := by
  unfold State.arpWrite
  repeat' first
    | exact rfl | intro _
    | (with_reducible first | exact Frame.refl _ _ | assumption | exact FrameO.none | apply FrameO.some | apply FrameO.ite
                            | apply Frame.ite | apply Frame.step State.pmuAck_frame
                            | apply Frame.step State.pmuGo_frame | apply Frame.step State.vrefbWrite_frame
                            | apply Frame.step State.vttWrite_frame)
    | split
    | dsimp only

theorem State.cmpWrite_frame {s : State} {core k o w : Nat} : Frame 1073741824 s (State.cmpWrite s core k o w) := by
  unfold State.cmpWrite
  repeat' first
    | exact rfl | intro _
    | (with_reducible first | exact Frame.refl _ _ | assumption | apply Frame.ite | apply Frame.step State.setCmp_frame)
    | split
    | dsimp only

theorem State.denPcWrite_frame {s : State} {core : Nat} {hi : Bool} {w : Nat} :
    Frame 129127208515966861312 s (State.denPcWrite s core hi w) := by
  unfold State.denPcWrite
  repeat' first
    | exact rfl | intro _
    | (with_reducible first | exact Frame.refl _ _ | assumption | apply Frame.ite | apply Frame.step State.setSac_frame
                            | apply Frame.step State.setOwl_frame | apply Frame.step State.setSp_frame)
    | split
    | dsimp only

theorem State.denFields_frame {s : State} {p : Place} {h : Hit} {v : Word} :
    Frame 1309718829234451906563 s (State.denFields s p h v) := by
  unfold State.denFields
  repeat' first
    | exact rfl | intro _
    | (with_reducible first | exact Frame.refl _ _ | assumption | apply Frame.ite | apply Frame.step State.denPcWrite_frame
                            | apply Frame.step State.cmpWrite_frame | apply Frame.step State.writeFields_frame
                            | apply Frame.step State.drxSend_frame | apply Frame.step State.dtxAck_frame
                            | apply Frame.step State.setTerminal_frame | apply State.denCtl_frame
                            | apply Frame.step State.coreResume_frame | apply Frame.step State.askHalt_frame
                            | apply Frame.step State.rsvw_frame)
    | split
    | dsimp only

theorem State.tportWrite_frame {s : State} {c j w : Nat} :
    Frame 129127208515966861312 s (State.tportWrite s c j w) := by
  unfold State.tportWrite
  repeat' first
    | exact rfl | intro _
    | (with_reducible first | exact Frame.refl _ _ | assumption | apply Frame.ite | apply Frame.step State.drxRelease_frame
                            | apply Frame.step State.dtxSend_frame)
    | split
    | dsimp only

theorem State.denBus_frame {s : State} {ini : Ini} {tap : Bool} {p : Place} {h : Hit} {v : Word} :
    Frame 10754451794973945559043 s (State.denBus s ini tap p h v) := by
  unfold State.denBus
  repeat' first
    | exact rfl | intro _
    | (with_reducible first | exact Frame.refl _ _ | assumption | apply Frame.ite | apply Frame.step State.tportWrite_frame
                            | apply Frame.step State.denFields_frame | apply Frame.step State.writeFields_frame
                            | apply Frame.step State.denDrop_frame | apply Frame.step State.denTake_frame
                            | apply Frame.step State.wr_frame)
    | split
    | dsimp only

theorem State.special_frame {s : State} {ini : Ini} {p : Place} {h : Hit} {v : Word} :
    FrameO 301345578756779095751935 s (State.special s ini p h v) := by
  unfold State.special
  repeat' first
    | exact rfl | intro _
    | (with_reducible first | exact Frame.refl _ _ | assumption | exact FrameO.none | apply FrameO.some
                            | apply FrameO.step State.arpWrite_frame | apply FrameO.step State.siteWrite_frame
                            | apply FrameO.step State.lckWrite_frame | apply FrameO.step State.spcWrite_frame
                            | apply FrameO.step State.sacWrite_frame | apply FrameO.step State.raeWrite_frame
                            | apply FrameO.step State.fcuWrite_frame | apply FrameO.step State.tcbWrite_frame
                            | apply FrameO.step State.psqWrite_frame | apply FrameO.step State.ptbWrite_frame
                            | apply FrameO.step State.hstWrite_frame | apply FrameO.step State.gslWrite_frame
                            | apply FrameO.step State.imeWrite_frame | apply FrameO.step State.mpWrite_frame
                            | apply FrameO.step State.d2dWrite_frame | apply FrameO.step State.nocWrite_frame
                            | apply FrameO.step State.stcWrite_frame | apply FrameO.step State.cfeWrite_frame
                            | apply FrameO.step State.svpWrite_frame | apply FrameO.step State.fhWrite_frame
                            | apply FrameO.step State.ckpWrite_frame | apply FrameO.step State.dctlWrite_frame
                            | apply FrameO.step State.egWrite_frame | apply FrameO.of (by assumption))
    | split
    | dsimp only

theorem State.placeWrite_frame {s : State} {ini : Ini} {tap : Bool} {p : Place} {v : Word} :
    Frame 603577033660441758137599 s (State.placeWrite s ini tap p v) := by
  unfold State.placeWrite
  repeat' first
    | exact rfl | intro _
    | (with_reducible first | exact Frame.refl _ _ | assumption | apply Frame.ite | apply FrameO.step State.special_frame
                            | apply Frame.step State.denBus_frame | apply Frame.step State.writeFields_frame
                            | apply Frame.step State.commitWrite_frame | apply Frame.step State.svpOther_frame
                            | apply Frame.step State.lsWrite_frame | apply Frame.step State.reservedWrite_frame
                            | apply Frame.step State.rsvBits_frame | apply Frame.step State.lockw_frame
                            | apply Frame.step State.rsvw_frame | apply FrameO.of (by assumption))
    | split
    | dsimp only

theorem State.regWrite_frame {s : State} {ini : Ini} {a : Nat} {v : Word} :
    Frame 603577033660441758137599 s (State.regWrite s ini a v) := by
  unfold State.regWrite
  repeat' first
    | exact rfl | intro _
    | (with_reducible first | exact Frame.refl _ _ | assumption | apply Frame.ite | apply Frame.step State.placeWrite_frame
                            | apply Frame.step State.reservedWrite_frame)
    | split
    | dsimp only

theorem State.atRegister_frame {s0 s : State} {ini : Ini} {write : Bool} {a : BitVec 40} {f : State → State} {W : Nat}
    (hW : 9444732965739493652481 &&& W = 9444732965739493652481) (hs :
    Frame W s0 s) (hf : ∀ u, Frame W s0 u → Frame W s0 (f u)) : Frame W s0 (State.atRegister s ini write a f) := by
  unfold State.atRegister
  repeat' first
    | exact mono_of rfl hW | intro _
    | (with_reducible first | exact Frame.refl _ _ | assumption | apply hf | apply Frame.ite
                            | apply Frame.step State.refused_frame)
    | split
    | dsimp only

theorem execBadSizeAccess_frame {ini : Ini} {write : Bool} {a : BitVec 40} {s : State} :
    FrameOut 9444732965739493652481 s (execBadSizeAccess ini write a s) := by
  unfold execBadSizeAccess
  repeat' first
    | exact rfl | intro _
    | (with_reducible first | exact Frame.refl _ _ | assumption | apply FrameOut.next | apply FrameOut.ite | apply Frame.ite
                            | apply State.atRegister_frame | apply Frame.step State.reservedWrite_frame)
    | split
    | dsimp only

theorem State.atCommit_frame {s : State} {ini : Ini} {a : BitVec 40} {v : Nat} :
    Frame 314037371110836726987779 s (State.atCommit s ini a v) := by
  unfold State.atCommit
  repeat' first
    | exact rfl | intro _
    | (with_reducible first | exact Frame.refl _ _ | assumption | apply Frame.ite | apply State.atRegister_frame
                            | apply Frame.step State.commitWrite_frame)
    | split
    | dsimp only

theorem execCommitGo_frame {ini : Ini} {a : BitVec 40} {s : State} :
    FrameOut 314037371110836726987779 s (execCommitGo ini a s) := by
  unfold execCommitGo
  repeat' first
    | exact rfl | intro _
    | (with_reducible first | exact Frame.refl _ _ | assumption | apply FrameOut.next
                            | apply Frame.step State.atCommit_frame)
    | split
    | dsimp only

theorem execCommitDiscard_frame {ini : Ini} {a : BitVec 40} {s : State} :
    FrameOut 314037371110836726987779 s (execCommitDiscard ini a s) := by
  unfold execCommitDiscard
  repeat' first
    | exact rfl | intro _
    | (with_reducible first | exact Frame.refl _ _ | assumption | apply FrameOut.next
                            | apply Frame.step State.atCommit_frame)
    | split
    | dsimp only

end Sys2Proof.Machine
end

