-- ==== Sys2Proof/Laws/FrameSpMem.lean ====
section
/-! SUPPORT. What each operation of Machine/SpMem.lean can change (Laws/Frame.lean). -/
namespace Sys2Proof.Machine

theorem State.regBad_frame {s : State} {q : MemReq} : Frame 9444732965739493652481 s (State.regBad s q).2 := by
  unfold State.regBad
  repeat' first
    | exact rfl | intro _
    | (with_reducible first | exact Frame.refl _ _ | assumption | apply Frame.iteP1 | apply Frame.ite
                            | apply Frame.step State.reservedWrite_frame)
    | split
    | dsimp only

theorem State.regPair_frame {s : State} {ini : Ini} {a : Nat} : Frame 9592306918329170066433 s (s.regPair ini a).2 := by
  unfold State.regPair
  apply Frame.pairP1
  exact State.regRead_frame.trans State.regRead_frame

-- HO 2
theorem State.regAccess_frame {s0 s : State} {wr : State → Nat → Word → State} {q : MemReq} {W : Nat}
    (hW : 9592306918329170066433 &&& W = 9592306918329170066433) (hs : Frame W s0 s) (hwr : ∀ u n v, Frame W s0 u → Frame W s0 (wr u n v)) :
    Frame W s0 (s.regAccess wr q).2 := by
  have hb : Frame W s0 (s.regBad q).2 := State.regBad_frame.step (mono_of (by decide) hW) hs
  unfold State.regAccess
  split
  · apply Frame.iteP1
    · apply Frame.pairP1
      exact State.regRead_frame.step (mono_of (by decide) hW) hs
    apply Frame.iteP1
    · exact State.regPair_frame.step (mono_of (by decide) hW) hs
    · exact hb
  · apply Frame.iteP1
    · exact hwr _ _ _ hs
    apply Frame.iteP1
    · exact hwr _ _ _ (hwr _ _ _ hs)
    · exact hb
  · exact hb

theorem State.nocAccessBy_frame {s0 s : State} {wr : State → Nat → Word → State} {q : MemReq} {remote : Rsp} {W : Nat}
    (hW : 9613064009048227904765 &&& W = 9613064009048227904765) (hs :
    Frame W s0 s) (hwr : ∀ u n v, Frame W s0 u → Frame W s0 (wr u n v)) : Frame W s0 (State.nocAccessBy s wr q remote).2 := by
  unfold State.nocAccessBy
  repeat' first
    | exact mono_of rfl hW | intro _
    | (with_reducible first | exact Frame.refl _ _ | assumption | apply hwr | apply State.regAccess_frame
                            | apply Frame.step State.request_frame | apply Frame.step State.probe_frame
                            | apply Frame.step State.nsCount_frame | apply Frame.step State.drew_frame
                            | apply Frame.ofP1 (by assumption))
    | split
    | dsimp only

theorem State.nocAccess_frame {s : State} {q : MemReq} {remote : Rsp} :
    Frame 603577033660441758137599 s (State.nocAccess s q remote).2 := by
  unfold State.nocAccess
  repeat' first
    | exact rfl | intro _
    | (with_reducible first | exact Frame.refl _ _ | assumption | apply State.nocAccessBy_frame
                            | apply Frame.step State.regWrite_frame | apply Frame.ofP1 (by assumption))
    | split
    | dsimp only

theorem State.countCache_frame {s : State} {n l : Nat} {y : CLine} {i : Nat} :
    Frame 9444732965739493652481 s (State.countCache s n l y i) := by
  unfold State.countCache
  repeat' first
    | exact rfl | intro _
    | (with_reducible first | exact Frame.refl _ _ | assumption | apply Frame.step State.eccCount_frame)
    | split
    | dsimp only

theorem State.setDline_frame {s : State} {n l : Nat} {y : CLine} :
    Frame 18446744073709551616 s (State.setDline s n l y) := by
  unfold State.setDline
  repeat' first
    | exact rfl | intro _
    | (with_reducible first | exact Frame.refl _ _ | assumption | apply Frame.step State.setSp_frame)
    | split
    | dsimp only

theorem State.dropDline_frame {s : State} {n l : Nat} : Frame 18446744073709551616 s (State.dropDline s n l) := by
  unfold State.dropDline
  repeat' first
    | exact rfl | intro _
    | (with_reducible first | exact Frame.refl _ _ | assumption | apply Frame.step State.setSp_frame)
    | split
    | dsimp only

theorem State.cleanLine_frame {s : State} {n l : Nat} : Frame 603577033660441758137599 s (State.cleanLine s n l) := by
  unfold State.cleanLine
  repeat' first
    | exact rfl | intro _
    | (with_reducible first | exact Frame.refl _ _ | assumption | apply Frame.ite | apply Frame.each
                            | apply Frame.step State.setDline_frame | apply Frame.step State.countCache_frame
                            | apply Frame.step State.nocAccess_frame | apply Frame.ofP1 (by assumption))
    | split
    | dsimp only

theorem State.flushLine_frame {s : State} {n l : Nat} : Frame 603577033660441758137599 s (State.flushLine s n l) := by
  unfold State.flushLine
  repeat' first
    | exact rfl | intro _
    | (with_reducible first | exact Frame.refl _ _ | assumption | apply Frame.step State.cleanLine_frame
                            | apply Frame.step State.dropDline_frame)
    | split
    | dsimp only

theorem State.dcacheRoom_frame {s : State} {n l : Nat} : Frame 603577033660441758137599 s (State.dcacheRoom s n l) := by
  unfold State.dcacheRoom
  repeat' first
    | exact rfl | intro _
    | (with_reducible first | exact Frame.refl _ _ | assumption | apply Frame.ite | apply Frame.step State.flushLine_frame
                            | apply Frame.step State.drew_frame)
    | split
    | dsimp only

theorem State.dcacheFill_frame {s : State} {n l : Nat} :
    Frame 603577033660441758137599 s (State.dcacheFill s n l).2 := by
  unfold State.dcacheFill
  repeat' first
    | exact rfl | intro _
    | (with_reducible first | exact Frame.refl _ _ | assumption | apply Frame.step State.dcacheRoom_frame
                            | apply Frame.step State.setDline_frame | apply Frame.step State.nocAccess_frame
                            | apply Frame.ofP1 (by assumption))
    | split
    | dsimp only

theorem State.dcacheLine_frame {s : State} {n l i : Nat} :
    Frame 603577033660441758137599 s (State.dcacheLine s n l i).2 := by
  unfold State.dcacheLine
  repeat' first
    | exact rfl | intro _
    | (with_reducible first | exact Frame.refl _ _ | assumption | apply Frame.iteP1 | apply Frame.ite
                            | apply Frame.step State.dcacheFill_frame | apply Frame.step State.dropDline_frame
                            | apply Frame.step State.setDline_frame | apply Frame.step State.countCache_frame
                            | apply Frame.ofP1 (by assumption))
    | split
    | dsimp only

theorem State.dcacheHold_frame {s : State} {n l : Nat} :
    Frame 603577033660441758137599 s (State.dcacheHold s n l).2 := by
  unfold State.dcacheHold
  repeat' first
    | exact rfl | intro _
    | (with_reducible first | exact Frame.refl _ _ | assumption | apply Frame.step State.dcacheFill_frame
                            | apply Frame.ofP1 (by assumption))
    | split
    | dsimp only

theorem State.icacheFill_frame {s : State} {n l : Nat} :
    Frame 603577033660441758137599 s (State.icacheFill s n l).2 := by
  unfold State.icacheFill
  repeat' first
    | exact rfl | intro _
    | (with_reducible first | exact Frame.refl _ _ | assumption | apply Frame.iteP1 | apply Frame.ite
                            | apply Frame.step State.nocAccess_frame | apply Frame.step State.drew_frame
                            | apply Frame.step State.setSp_frame | apply Frame.ofP1 (by assumption))
    | split
    | dsimp only

theorem State.icacheLine_frame {s : State} {n l i : Nat} {first : Bool} :
    Frame 603577033660441758137599 s (State.icacheLine s n l i first).2 := by
  unfold State.icacheLine
  repeat' first
    | exact rfl | intro _
    | (with_reducible first | exact Frame.refl _ _ | assumption | apply Frame.iteP1 | apply Frame.ite
                            | apply Frame.step State.icacheFill_frame | apply Frame.step State.countCache_frame
                            | apply Frame.step State.setSp_frame | apply Frame.ofP1 (by assumption))
    | split
    | dsimp only

theorem State.fenceI_frame {s : State} {n : Nat} : Frame 603577033660441758137599 s (State.fenceI s n) := by
  unfold State.fenceI
  repeat' first
    | exact rfl | intro _
    | (with_reducible first | exact Frame.refl _ _ | assumption | apply Frame.each | apply Frame.step State.cleanLine_frame
                            | apply Frame.step State.setSp_frame)
    | split
    | dsimp only

theorem State.ncLoad_frame {s : State} {n : Nat} {dev : Option Nat} {a size : Nat} {remote : Rsp} :
    Frame 603577033660441758137599 s (State.ncLoad s n dev a size remote).2 := by
  unfold State.ncLoad
  repeat' first
    | exact rfl | intro _
    | (with_reducible first | exact Frame.refl _ _ | assumption | apply Frame.iteP1 | apply Frame.ite
                            | apply Frame.step State.nocAccess_frame | apply Frame.ofP1 (by assumption))
    | split
    | dsimp only

theorem State.ncStore_frame {s : State} {n : Nat} {dev : Option Nat} {a size v : Nat} {remote : Rsp} :
    Frame 603577033660441758137599 s (State.ncStore s n dev a size v remote).2 := by
  unfold State.ncStore
  repeat' first
    | exact rfl | intro _
    | (with_reducible first | exact Frame.refl _ _ | assumption | apply Frame.iteP1 | apply Frame.ite
                            | apply Frame.step State.nocAccess_frame | apply Frame.ofP1 (by assumption))
    | split
    | dsimp only

theorem State.spLoad_frame {s : State} {n pa size : Nat} {remote : Rsp} :
    Frame 603577033660441758137599 s (State.spLoad s n pa size remote).2 := by
  unfold State.spLoad
  repeat' first
    | exact rfl | intro _
    | (with_reducible first | exact Frame.refl _ _ | assumption | apply Frame.iteP1 | apply Frame.ite
                            | apply Frame.step State.ncLoad_frame | apply Frame.step State.dcacheLine_frame
                            | apply Frame.step State.countChip_frame | apply Frame.ofP1 (by assumption))
    | split
    | dsimp only

theorem State.spStore_frame {s : State} {n pa size v : Nat} {remote : Rsp} :
    Frame 603577033660441758137599 s (State.spStore s n pa size v remote).2 := by
  unfold State.spStore
  repeat' first
    | exact rfl | intro _
    | (with_reducible first | exact Frame.refl _ _ | assumption | apply Frame.iteP1 | apply Frame.ite
                            | apply Frame.step State.ncStore_frame | apply Frame.step State.dcacheHold_frame
                            | apply Frame.step State.dcacheLine_frame | apply Frame.step State.setDline_frame
                            | apply Frame.step State.writeChip_frame | apply Frame.ofP1 (by assumption))
    | split
    | dsimp only

theorem State.spAmo_frame {s : State} {n pa size : Nat} {f : Amo} {v : Nat} :
    Frame 603577033660441758137599 s (State.spAmo s n pa size f v).2 := by
  unfold State.spAmo
  repeat' first
    | exact rfl | intro _
    | (with_reducible first | exact Frame.refl _ _ | assumption | apply Frame.iteP1 | apply Frame.ite
                            | apply Frame.step State.flushLine_frame | apply Frame.step State.nocAccess_frame
                            | apply Frame.step State.writeChip_frame | apply Frame.step State.countChip_frame
                            | apply Frame.ofP1 (by assumption))
    | split
    | dsimp only

theorem State.spLr_frame {s : State} {n pa size : Nat} :
    Frame 603577033660441758137599 s (State.spLr s n pa size).2 := by
  unfold State.spLr
  repeat' first
    | exact rfl | intro _
    | (with_reducible first | exact Frame.refl _ _ | assumption | apply Frame.iteP1 | apply Frame.ite
                            | apply Frame.step State.spLoad_frame | apply Frame.step State.flushLine_frame
                            | apply Frame.step State.nocAccess_frame | apply Frame.step State.setSp_frame
                            | apply Frame.ofP1 (by assumption))
    | split
    | dsimp only

theorem State.spSc_frame {s : State} {n pa size v : Nat} :
    Frame 603577033660441758137599 s (State.spSc s n pa size v).2 := by
  unfold State.spSc
  repeat' first
    | exact rfl | intro _
    | (with_reducible first | exact Frame.refl _ _ | assumption | apply Frame.iteP1 | apply Frame.ite
                            | apply Frame.step State.spStore_frame | apply Frame.step State.flushLine_frame
                            | apply Frame.step State.nocAccess_frame | apply Frame.step State.setSp_frame
                            | apply Frame.ofP1 (by assumption))
    | split
    | dsimp only

theorem State.spFetch_frame {s : State} {n pa : Nat} {first : Bool} {remote : Rsp} :
    Frame 603577033660441758137599 s (State.spFetch s n pa first remote).2 := by
  unfold State.spFetch
  repeat' first
    | exact rfl | intro _
    | (with_reducible first | exact Frame.refl _ _ | assumption | apply Frame.iteP1 | apply Frame.ite
                            | apply Frame.step State.icacheLine_frame | apply Frame.step State.nocAccess_frame
                            | apply Frame.step State.countChip_frame | apply Frame.ofP1 (by assumption))
    | split
    | dsimp only

theorem State.owlLoad_frame {s : State} {d a size : Nat} :
    Frame 9444732965739493653505 s (State.owlLoad s d a size).2 := by
  unfold State.owlLoad
  repeat' first
    | exact rfl | intro _
    | (with_reducible first | exact Frame.refl _ _ | assumption | apply Frame.iteP1 | apply Frame.ite
                            | apply Frame.step State.countChip_frame | apply Frame.step State.drew_frame)
    | split
    | dsimp only

theorem State.owlStore_frame {s : State} {d a size v : Nat} :
    Frame 9463179709813203204125 s (State.owlStore s d a size v).2 := by
  unfold State.owlStore
  repeat' first
    | exact rfl | intro _
    | (with_reducible first | exact Frame.refl _ _ | assumption | apply Frame.iteP1 | apply Frame.ite
                            | apply Frame.step State.writeChip_frame)
    | split
    | dsimp only

theorem State.owlFetch_frame {s : State} {d a : Nat} : Frame 9444732965739493653505 s (State.owlFetch s d a).2 := by
  unfold State.owlFetch
  repeat' first
    | exact rfl | intro _
    | (with_reducible first | exact Frame.refl _ _ | assumption | apply Frame.iteP1 | apply Frame.ite
                            | apply Frame.step State.owlLoad_frame | apply Frame.step State.drew_frame
                            | apply Frame.ofP1 (by assumption))
    | split
    | dsimp only

end Sys2Proof.Machine
end

