-- ==== Sys2Proof/Laws/FrameCsr.lean ====
section
/-! SUPPORT. What each operation of Machine/Csr.lean can change (Laws/Frame.lean). -/
namespace Sys2Proof.Machine

theorem State.setHart_frame {s : State} {c : Nat} {x : HartX} : Frame 55340232221128654848 s (State.setHart s c x) := by
  unfold State.setHart
  repeat' first
    | exact rfl | intro _
    | (with_reducible first | exact Frame.refl _ _ | assumption | apply Frame.ite | apply Frame.step State.setOwl_frame
                            | apply Frame.step State.setSp_frame)
    | split
    | dsimp only

theorem State.setX_frame {s : State} {c r v : Nat} : Frame 55340232221128654848 s (State.setX s c r v) := by
  unfold State.setX
  repeat' first
    | exact rfl | intro _
    | (with_reducible first | exact Frame.refl _ _ | assumption | apply Frame.ite | apply Frame.step State.setHart_frame)
    | split
    | dsimp only

theorem State.setCsr_frame {s : State} {c n v : Nat} : Frame 55340232221128654848 s (State.setCsr s c n v) := by
  unfold State.setCsr
  repeat' first
    | exact rfl | intro _
    | (with_reducible first | exact Frame.refl _ _ | assumption | apply Frame.step State.setHart_frame)
    | split
    | dsimp only

theorem State.setPriv_frame {s : State} {c p : Nat} : Frame 55340232221128654848 s (State.setPriv s c p) := by
  unfold State.setPriv
  repeat' first
    | exact rfl | intro _
    | (with_reducible first | exact Frame.refl _ _ | assumption | apply Frame.step State.setHart_frame)
    | split
    | dsimp only

theorem State.writeMstatus_frame {s : State} {c v : Nat} : Frame 55340232221128654848 s (State.writeMstatus s c v) := by
  unfold State.writeMstatus
  repeat' first
    | exact rfl | intro _
    | (with_reducible first | exact Frame.refl _ _ | assumption | apply Frame.ite | apply Frame.step State.setCsr_frame)
    | split
    | dsimp only

theorem State.dirtyF_frame {s : State} {c : Nat} : Frame 55340232221128654848 s (State.dirtyF s c) := by
  unfold State.dirtyF
  repeat' first
    | exact rfl | intro _
    | (with_reducible first | exact Frame.refl _ _ | assumption | apply Frame.step State.setCsr_frame)
    | split
    | dsimp only

theorem State.svpCsr_frame {s : State} {c n v : Nat} : Frame 1 s (State.svpCsr s c n v) := by
  unfold State.svpCsr
  repeat' first
    | exact rfl | intro _
    | (with_reducible first | exact Frame.refl _ _ | assumption | apply State.atBlock_frame
                            | apply Frame.step State.wr_frame)
    | split
    | dsimp only

theorem cacheOp_frame {s0 : State} {pa : Nat} {f : Nat → State → State} {s : State} {W : Nat} (_ : 0 &&& W = 0) (hs :
    Frame W s0 s) (hf : ∀ n u, Frame W s0 u → Frame W s0 (f n u)) : Frame W s0 (cacheOp pa f s) := by
  unfold cacheOp
  repeat' first
    | exact rfl | intro _
    | (with_reducible first | exact Frame.refl _ _ | assumption | apply hf)
    | split
    | dsimp only

theorem State.csrWrite_frame {s : State} {c n v : Nat} : Frame 603577033660441758137599 s (State.csrWrite s c n v) := by
  unfold State.csrWrite
  repeat' first
    | exact rfl | intro _
    | (with_reducible first | exact Frame.refl _ _ | assumption | apply Frame.ite | apply cacheOp_frame
                            | apply Frame.step State.svpCsr_frame | apply Frame.step State.dirtyF_frame
                            | apply Frame.step State.writeMstatus_frame | apply Frame.step State.setCsr_frame
                            | apply Frame.step State.flushLine_frame | apply Frame.step State.cleanLine_frame
                            | apply Frame.step State.dropDline_frame | apply Frame.step State.dtermWrite_frame
                            | apply Frame.step State.drxRelease_frame | apply Frame.step State.dtxSend_frame)
    | split
    | dsimp only

theorem State.takeTrap_frame {s : State} {c pc cause tval : Nat} {int : Bool} :
    Frame 55340232221128654848 s (State.takeTrap s c pc cause tval int) := by
  unfold State.takeTrap
  repeat' first
    | exact rfl | intro _
    | (with_reducible first | exact Frame.refl _ _ | assumption | apply Frame.ite | apply Frame.step State.setCsr_frame
                            | apply Frame.step State.setHart_frame)
    | split
    | dsimp only

theorem State.mret_frame {s : State} {c : Nat} : Frame 55340232221128654848 s (State.mret s c).2 := by
  unfold State.mret
  repeat' first
    | exact rfl | intro _
    | (with_reducible first | exact Frame.refl _ _ | assumption | apply Frame.iteP1 | apply Frame.ite
                            | apply Frame.step State.setPriv_frame | apply Frame.step State.setCsr_frame)
    | split
    | dsimp only

theorem State.sret_frame {s : State} {c : Nat} : Frame 55340232221128654848 s (State.sret s c).2 := by
  unfold State.sret
  repeat' first
    | exact rfl | intro _
    | (with_reducible first | exact Frame.refl _ _ | assumption | apply Frame.step State.setPriv_frame
                            | apply Frame.step State.setCsr_frame)
    | split
    | dsimp only

end Sys2Proof.Machine
end

