-- ==== Sys2Proof/Laws/FrameHart.lean ====
section
/-! SUPPORT. What each operation of Machine/Hart.lean can change (Laws/Frame.lean). -/
namespace Sys2Proof.Machine

/-- The state inside an instruction's answer lies within the frame. -/
def HRes.state : HRes → State
  | .ok s _ _ => s
  | .trap s _ _ => s
structure FrameH (W : Nat) (s : State) (r : HRes) : Prop where
  keep : Frame W s r.state
namespace FrameH
variable {W W1 : Nat} {s t : State} {a b : HRes}
theorem ok {pc : Nat} {acc : Option (Nat × Bool × Bool)} (h : Frame W s t) : FrameH W s (.ok t pc acc) := ⟨h⟩
theorem trap {c v : Nat} (h : Frame W s t) : FrameH W s (.trap t c v) := ⟨h⟩
theorem ite {c : Prop} [Decidable c] (h1 : FrameH W s a) (h2 : FrameH W s b) : FrameH W s (if c then a else b) := by
  split <;> assumption
theorem step (hf : FrameH W1 t a) (h : W1 &&& W = W1) (hs : Frame W s t) : FrameH W s a := ⟨hf.keep.step h hs⟩
theorem ofOk {pc : Nat} {acc : Option (Nat × Bool × Bool)} (e : a = .ok t pc acc) (h : FrameH W s a) : Frame W s t := by
  subst e; exact h.keep
theorem ofTrap {c v : Nat} (e : a = .trap t c v) (h : FrameH W s a) : Frame W s t := by subst e; exact h.keep
end FrameH

theorem State.hartPoison_frame {s : State} {c : Nat} : Frame 9444732965739493652481 s (State.hartPoison s c) := by
  unfold State.hartPoison
  repeat' first
    | exact rfl | intro _
    | (with_reducible first | exact Frame.refl _ _ | assumption | apply Frame.ite | apply Frame.step State.raise_frame)
    | split
    | dsimp only

theorem State.hartFault_frame {s : State} {c : Nat} {poison : Bool} :
    Frame 9444732965739493652481 s (State.hartFault s c poison) := by
  unfold State.hartFault
  repeat' first
    | exact rfl | intro _
    | (with_reducible first | exact Frame.refl _ _ | assumption | apply Frame.ite | apply Frame.step State.hartPoison_frame)
    | split
    | dsimp only

theorem State.walk_frame {s : State} {c k priv va : Nat} {remote : Rsp} {x6 x7 : Nat} :
    Frame 603577033660441758137599 s (State.walk s c k priv va remote x6 x7).2 := by
  induction x6 generalizing s c k priv va remote x7 with
  | zero =>
    unfold State.walk
    repeat' first
      | exact rfl | intro _
      | (with_reducible first | exact Frame.refl _ _ | assumption | apply Frame.iteP1 | apply Frame.ite
                              | apply Frame.step State.hartFault_frame | apply Frame.step State.spStore_frame
                              | apply Frame.step State.spLoad_frame | apply Frame.ofP1 (by assumption))
      | with_reducible apply Frame.step ih
      | split
      | dsimp only
  | succ _ ih =>
    unfold State.walk
    repeat' first
      | exact rfl | intro _
      | (with_reducible first | exact Frame.refl _ _ | assumption | apply Frame.iteP1 | apply Frame.ite
                              | apply Frame.step State.hartFault_frame | apply Frame.step State.spStore_frame
                              | apply Frame.step State.spLoad_frame | apply Frame.ofP1 (by assumption))
      | with_reducible apply Frame.step ih
      | split
      | dsimp only

theorem State.translate_frame {s : State} {c k priv va : Nat} {remote : Rsp} :
    Frame 603577033660441758137599 s (State.translate s c k priv va remote).2 := by
  unfold State.translate
  repeat' first
    | exact rfl | intro _
    | (with_reducible first | exact Frame.refl _ _ | assumption | apply Frame.iteP1 | apply Frame.ite
                            | apply Frame.step State.walk_frame | apply Frame.ofP1 (by assumption))
    | split
    | dsimp only

theorem HCtx.illegal_frame {k : HCtx} {s : State} : FrameH 0 s (HCtx.illegal k s) := by
  unfold HCtx.illegal
  repeat' first
    | exact rfl | intro _
    | (with_reducible first | exact Frame.refl _ _ | assumption | apply FrameH.ok | apply FrameH.trap | apply FrameH.ite
                            | apply Frame.ite)
    | split
    | dsimp only

theorem HCtx.done_frame {k : HCtx} {s : State} {rd v : Nat} : FrameH 55340232221128654848 s (HCtx.done k s rd v) := by
  unfold HCtx.done
  repeat' first
    | exact rfl | intro _
    | (with_reducible first | exact Frame.refl _ _ | assumption | apply FrameH.ok | apply FrameH.trap
                            | apply Frame.step State.setX_frame)
    | split
    | dsimp only

theorem HCtx.jump_frame {k : HCtx} {s : State} {pc : Nat} : FrameH 0 s (HCtx.jump k s pc) := by
  unfold HCtx.jump
  repeat' first
    | exact rfl | intro _
    | (with_reducible first | exact Frame.refl _ _ | assumption | apply FrameH.ok | apply FrameH.trap)
    | split
    | dsimp only

theorem HCtx.access_frame {s0 : State} {k : HCtx} {s : State} {kind va size : Nat} {ld st : Bool}
    {f : State → Nat → MRes × State} {g : State → Nat → State} {W : Nat}
    (hW : 603577033660441758137599 &&& W = 603577033660441758137599) (hs :
    Frame W s0 s) (hf : ∀ u n, Frame W s0 u → Frame W s0 (f u n).2) (hg : ∀ u n, Frame W s0 u → Frame W s0 (g u n)) : FrameH W s0 (HCtx.access k s kind va size ld st f g) := by
  unfold HCtx.access
  repeat' first
    | exact mono_of rfl hW | intro _
    | (with_reducible first | exact Frame.refl _ _ | assumption | apply hf | apply hg | apply FrameH.ok | apply FrameH.trap
                            | apply FrameH.ite | apply Frame.ite | apply Frame.step State.translate_frame
                            | apply Frame.step State.hartFault_frame | apply Frame.ofP1 (by assumption))
    | split
    | dsimp only

theorem State.hLoad_frame {s : State} {c pa size : Nat} {remote : Rsp} :
    Frame 603577033660441758137599 s (State.hLoad s c pa size remote).2 := by
  unfold State.hLoad
  repeat' first
    | exact rfl | intro _
    | (with_reducible first | exact Frame.refl _ _ | assumption | apply Frame.iteP1 | apply Frame.ite
                            | apply Frame.step State.owlLoad_frame | apply Frame.step State.spLoad_frame
                            | apply Frame.ofP1 (by assumption))
    | split
    | dsimp only

theorem State.hStore_frame {s : State} {c pa size v : Nat} {remote : Rsp} :
    Frame 603577033660441758137599 s (State.hStore s c pa size v remote).2 := by
  unfold State.hStore
  repeat' first
    | exact rfl | intro _
    | (with_reducible first | exact Frame.refl _ _ | assumption | apply Frame.iteP1 | apply Frame.ite
                            | apply Frame.step State.owlStore_frame | apply Frame.step State.spStore_frame
                            | apply Frame.ofP1 (by assumption))
    | split
    | dsimp only

theorem HCtx.load_frame {k : HCtx} {s : State} {w rd rs1 f3 : Nat} :
    FrameH 603577033660441758137599 s (HCtx.load k s w rd rs1 f3) := by
  unfold HCtx.load
  repeat' first
    | exact rfl | intro _
    | (with_reducible first | exact Frame.refl _ _ | assumption | apply FrameH.ok | apply FrameH.trap | apply FrameH.ite
                            | apply Frame.ite | apply Frame.step State.hLoad_frame | apply HCtx.access_frame
                            | apply FrameH.step HCtx.illegal_frame | apply Frame.step State.setX_frame
                            | apply Frame.ofP1 (by assumption) | apply FrameH.ofOk (by assumption)
                            | apply FrameH.ofTrap (by assumption))
    | split
    | dsimp only

theorem HCtx.store_frame {k : HCtx} {s : State} {w rs1 rs2 f3 : Nat} :
    FrameH 603577033660441758137599 s (HCtx.store k s w rs1 rs2 f3) := by
  unfold HCtx.store
  repeat' first
    | exact rfl | intro _
    | (with_reducible first | exact Frame.refl _ _ | assumption | apply FrameH.ok | apply FrameH.trap | apply FrameH.ite
                            | apply Frame.ite | apply Frame.step State.hStore_frame | apply HCtx.access_frame
                            | apply FrameH.step HCtx.illegal_frame | apply Frame.ofP1 (by assumption)
                            | apply FrameH.ofOk (by assumption) | apply FrameH.ofTrap (by assumption))
    | split
    | dsimp only

theorem HCtx.branch_frame {k : HCtx} {s : State} {w rs1 rs2 f3 : Nat} : FrameH 0 s (HCtx.branch k s w rs1 rs2 f3) := by
  unfold HCtx.branch
  repeat' first
    | exact rfl | intro _
    | (with_reducible first | exact Frame.refl _ _ | assumption | apply FrameH.ok | apply FrameH.trap | apply FrameH.ite
                            | apply Frame.ite | apply FrameH.step HCtx.jump_frame
                            | apply FrameH.step HCtx.illegal_frame | apply FrameH.ofOk (by assumption)
                            | apply FrameH.ofTrap (by assumption))
    | split
    | dsimp only

theorem HCtx.opImm_frame {k : HCtx} {s : State} {w rd rs1 f3 : Nat} :
    FrameH 55340232221128654848 s (HCtx.opImm k s w rd rs1 f3) := by
  unfold HCtx.opImm
  repeat' first
    | exact rfl | intro _
    | (with_reducible first | exact Frame.refl _ _ | assumption | apply FrameH.ok | apply FrameH.trap | apply FrameH.ite
                            | apply Frame.ite | apply FrameH.step HCtx.done_frame
                            | apply FrameH.step HCtx.illegal_frame | apply FrameH.ofOk (by assumption)
                            | apply FrameH.ofTrap (by assumption))
    | split
    | dsimp only

theorem HCtx.opImm32_frame {k : HCtx} {s : State} {w rd rs1 f3 : Nat} :
    FrameH 55340232221128654848 s (HCtx.opImm32 k s w rd rs1 f3) := by
  unfold HCtx.opImm32
  repeat' first
    | exact rfl | intro _
    | (with_reducible first | exact Frame.refl _ _ | assumption | apply FrameH.ok | apply FrameH.trap | apply FrameH.ite
                            | apply Frame.ite | apply FrameH.step HCtx.done_frame
                            | apply FrameH.step HCtx.illegal_frame | apply FrameH.ofOk (by assumption)
                            | apply FrameH.ofTrap (by assumption))
    | split
    | dsimp only

theorem HCtx.op_frame {k : HCtx} {s : State} {w rd rs1 rs2 f3 : Nat} :
    FrameH 55340232221128654848 s (HCtx.op k s w rd rs1 rs2 f3) := by
  unfold HCtx.op
  repeat' first
    | exact rfl | intro _
    | (with_reducible first | exact Frame.refl _ _ | assumption | apply FrameH.ok | apply FrameH.trap | apply FrameH.ite
                            | apply Frame.ite | apply FrameH.step HCtx.done_frame
                            | apply FrameH.step HCtx.illegal_frame | apply FrameH.ofOk (by assumption)
                            | apply FrameH.ofTrap (by assumption))
    | split
    | dsimp only

theorem HCtx.op32_frame {k : HCtx} {s : State} {w rd rs1 rs2 f3 : Nat} :
    FrameH 55340232221128654848 s (HCtx.op32 k s w rd rs1 rs2 f3) := by
  unfold HCtx.op32
  repeat' first
    | exact rfl | intro _
    | (with_reducible first | exact Frame.refl _ _ | assumption | apply FrameH.ok | apply FrameH.trap | apply FrameH.ite
                            | apply Frame.ite | apply FrameH.step HCtx.done_frame
                            | apply FrameH.step HCtx.illegal_frame | apply FrameH.ofOk (by assumption)
                            | apply FrameH.ofTrap (by assumption))
    | split
    | dsimp only

theorem HCtx.amo_frame {k : HCtx} {s : State} {w rd rs1 rs2 f3 : Nat} :
    FrameH 603577033660441758137599 s (HCtx.amo k s w rd rs1 rs2 f3) := by
  unfold HCtx.amo
  repeat' first
    | exact rfl | intro _
    | (with_reducible first | exact Frame.refl _ _ | assumption | apply FrameH.ok | apply FrameH.trap | apply FrameH.ite
                            | apply Frame.ite | apply HCtx.access_frame | apply FrameH.step HCtx.illegal_frame
                            | apply Frame.step State.setX_frame | apply Frame.step State.spSc_frame
                            | apply Frame.step State.spLr_frame | apply Frame.step State.spAmo_frame
                            | apply Frame.ofP1 (by assumption) | apply FrameH.ofOk (by assumption)
                            | apply FrameH.ofTrap (by assumption))
    | split
    | dsimp only

theorem HCtx.csrOp_frame {k : HCtx} {s : State} {w rd rs1 f3 : Nat} :
    FrameH 603577033660441758137599 s (HCtx.csrOp k s w rd rs1 f3) := by
  unfold HCtx.csrOp
  repeat' first
    | exact rfl | intro _
    | (with_reducible first | exact Frame.refl _ _ | assumption | apply FrameH.ok | apply FrameH.trap | apply FrameH.ite
                            | apply Frame.ite | apply FrameH.step HCtx.done_frame
                            | apply FrameH.step HCtx.illegal_frame | apply Frame.step State.csrWrite_frame
                            | apply Frame.step State.drew_frame | apply FrameH.ofOk (by assumption)
                            | apply FrameH.ofTrap (by assumption))
    | split
    | dsimp only

theorem HCtx.system_frame {k : HCtx} {s : State} {w : Nat} : FrameH 55340232221128654849 s (HCtx.system k s w) := by
  unfold HCtx.system
  repeat' first
    | exact rfl | intro _
    | (with_reducible first | exact Frame.refl _ _ | assumption | apply FrameH.ok | apply FrameH.trap | apply FrameH.ite
                            | apply Frame.ite | apply FrameH.step HCtx.jump_frame
                            | apply FrameH.step HCtx.illegal_frame | apply Frame.step State.sret_frame
                            | apply Frame.step State.mret_frame | apply Frame.step State.setHart_frame
                            | apply Frame.step State.wr_frame | apply Frame.ofP1 (by assumption)
                            | apply FrameH.ofOk (by assumption) | apply FrameH.ofTrap (by assumption))
    | split
    | dsimp only

theorem HCtx.fLoad_frame {k : HCtx} {s : State} {w rd rs1 f3 : Nat} :
    FrameH 603577033660441758137599 s (HCtx.fLoad k s w rd rs1 f3) := by
  unfold HCtx.fLoad
  repeat' first
    | exact rfl | intro _
    | (with_reducible first | exact Frame.refl _ _ | assumption | apply FrameH.ok | apply FrameH.trap | apply FrameH.ite
                            | apply Frame.ite | apply HCtx.access_frame | apply FrameH.step HCtx.illegal_frame
                            | apply Frame.step State.dirtyF_frame | apply Frame.step State.setHart_frame
                            | apply Frame.step State.spLoad_frame | apply Frame.ofP1 (by assumption)
                            | apply FrameH.ofOk (by assumption) | apply FrameH.ofTrap (by assumption))
    | split
    | dsimp only

theorem HCtx.fStore_frame {k : HCtx} {s : State} {w rs1 rs2 f3 : Nat} :
    FrameH 603577033660441758137599 s (HCtx.fStore k s w rs1 rs2 f3) := by
  unfold HCtx.fStore
  repeat' first
    | exact rfl | intro _
    | (with_reducible first | exact Frame.refl _ _ | assumption | apply FrameH.ok | apply FrameH.trap | apply FrameH.ite
                            | apply Frame.ite | apply HCtx.access_frame | apply FrameH.step HCtx.illegal_frame
                            | apply Frame.step State.spStore_frame | apply Frame.ofP1 (by assumption)
                            | apply FrameH.ofOk (by assumption) | apply FrameH.ofTrap (by assumption))
    | split
    | dsimp only

theorem HCtx.fp_frame {k : HCtx} {s : State} {w rd rs1 rs2 : Nat} :
    FrameH 55340232221128654848 s (HCtx.fp k s w rd rs1 rs2) := by
  unfold HCtx.fp
  repeat' first
    | exact rfl | intro _
    | (with_reducible first | exact Frame.refl _ _ | assumption | apply FrameH.ok | apply FrameH.trap | apply FrameH.ite
                            | apply Frame.ite | apply FrameH.step HCtx.illegal_frame
                            | apply Frame.step State.dirtyF_frame | apply Frame.step State.setCsr_frame
                            | apply Frame.step State.setX_frame | apply Frame.step State.setHart_frame
                            | apply FrameH.ofOk (by assumption) | apply FrameH.ofTrap (by assumption))
    | split
    | dsimp only

theorem HCtx.exec_frame {k : HCtx} {s : State} {w : Nat} : FrameH 603577033660441758137599 s (HCtx.exec k s w) := by
  unfold HCtx.exec
  repeat' first
    | exact rfl | intro _
    | (with_reducible first | exact Frame.refl _ _ | assumption | apply FrameH.ok | apply FrameH.trap | apply FrameH.ite
                            | apply Frame.ite | apply FrameH.step HCtx.fp_frame | apply FrameH.step HCtx.fStore_frame
                            | apply FrameH.step HCtx.fLoad_frame | apply FrameH.step HCtx.system_frame
                            | apply FrameH.step HCtx.csrOp_frame | apply FrameH.step HCtx.amo_frame
                            | apply FrameH.step HCtx.op32_frame | apply FrameH.step HCtx.op_frame
                            | apply FrameH.step HCtx.opImm32_frame | apply FrameH.step HCtx.opImm_frame
                            | apply FrameH.step HCtx.branch_frame | apply FrameH.step HCtx.store_frame
                            | apply FrameH.step HCtx.load_frame | apply FrameH.step HCtx.jump_frame
                            | apply FrameH.step HCtx.done_frame | apply FrameH.step HCtx.illegal_frame
                            | apply Frame.step State.setX_frame | apply Frame.step State.fenceI_frame
                            | apply FrameH.ofOk (by assumption) | apply FrameH.ofTrap (by assumption))
    | split
    | dsimp only

theorem HCtx.run_frame {k : HCtx} {s : State} : FrameH 603577033660441758137599 s (HCtx.run k s) := by
  unfold HCtx.run
  repeat' first
    | exact rfl | intro _
    | (with_reducible first | exact Frame.refl _ _ | assumption | apply FrameH.ok | apply FrameH.trap
                            | apply FrameH.step HCtx.exec_frame | apply FrameH.step HCtx.illegal_frame
                            | apply FrameH.ofOk (by assumption) | apply FrameH.ofTrap (by assumption))
    | split
    | dsimp only

end Sys2Proof.Machine
end

