-- ==== Sys2Proof/Laws/FrameSp.lean ====
section
/-! SUPPORT. What each operation of Machine/Sp.lean can change (Laws/Frame.lean). -/
namespace Sys2Proof.Machine

theorem State.stopCore_frame {s : State} {c : Nat} : Frame 55340232221128654849 s (State.stopCore s c) := by
  unfold State.stopCore
  repeat' first
    | exact rfl | intro _
    | (with_reducible first | exact Frame.refl _ _ | assumption | apply Frame.ite | apply Frame.step State.setHart_frame
                            | apply Frame.step State.wr_frame)
    | split
    | dsimp only

theorem State.afterStep_frame {s : State} {c : Nat} : Frame 55340232221128654849 s (State.afterStep s c) := by
  unfold State.afterStep
  repeat' first
    | exact rfl | intro _
    | (with_reducible first | exact Frame.refl _ _ | assumption | apply Frame.ite | apply Frame.step State.stopCore_frame)
    | split
    | dsimp only

theorem State.countInstret_frame {s : State} {c raw : Nat} :
    Frame 55340232221128654848 s (State.countInstret s c raw) := by
  unfold State.countInstret
  repeat' first
    | exact rfl | intro _
    | (with_reducible first | exact Frame.refl _ _ | assumption | apply Frame.ite | apply Frame.step State.setCsr_frame)
    | split
    | dsimp only

theorem State.retire_frame {s : State} {c raw pc : Nat} {acc : Option (Nat × Bool × Bool)} :
    Frame 55340232221128654849 s (State.retire s c raw pc acc) := by
  unfold State.retire
  repeat' first
    | exact rfl | intro _
    | (with_reducible first | exact Frame.refl _ _ | assumption | apply Frame.ite
                            | apply Frame.step State.countInstret_frame | apply Frame.step State.afterStep_frame
                            | apply Frame.step State.stopCore_frame | apply Frame.step State.takeTrap_frame
                            | apply Frame.step State.setHart_frame | apply Frame.step State.compare_frame
                            | apply Frame.of1 (by assumption))
    | split
    | dsimp only

theorem State.runRaw_frame {s : State} {c raw len : Nat} {remote : Rsp} :
    Frame 603577033660441758137599 s (State.runRaw s c raw len remote) := by
  unfold State.runRaw
  repeat' first
    | exact rfl | intro _
    | (with_reducible first | exact Frame.refl _ _ | assumption | apply Frame.step State.retire_frame
                            | apply Frame.step State.afterStep_frame | apply FrameH.step HCtx.run_frame
                            | apply Frame.step State.takeTrap_frame | apply Frame.step State.setHart_frame
                            | apply FrameH.ofOk (by assumption) | apply FrameH.ofTrap (by assumption))
    | split
    | dsimp only

theorem State.parcel_frame {s : State} {c va : Nat} {first : Bool} {remote : Rsp} :
    Frame 603577033660441758137599 s (State.parcel s c va first remote).2.2 := by
  unfold State.parcel
  repeat' first
    | exact rfl | intro _
    | (with_reducible first | exact Frame.refl _ _ | assumption | apply Frame.iteP2 | apply Frame.ite
                            | apply Frame.step State.translate_frame | apply Frame.step State.hartFault_frame
                            | apply Frame.step State.owlFetch_frame | apply Frame.step State.spFetch_frame
                            | apply Frame.ofP1 (by assumption))
    | split
    | dsimp only

theorem State.fetchRun_frame {s : State} {c : Nat} {remote : Rsp} :
    Frame 603577033660441758137599 s (State.fetchRun s c remote) := by
  unfold State.fetchRun
  repeat' first
    | exact rfl | intro _
    | (with_reducible first | exact Frame.refl _ _ | assumption | apply Frame.ite | apply Frame.step State.parcel_frame
                            | apply Frame.step State.runRaw_frame | apply Frame.step State.afterStep_frame
                            | apply Frame.step State.stopCore_frame | apply Frame.step State.takeTrap_frame
                            | apply Frame.step State.compare_frame | apply Frame.of1 (by assumption)
                            | apply Frame.ofP2 (by assumption))
    | split
    | dsimp only

theorem State.owlNmi_frame {s : State} {c : Nat} : Frame 55340232221128655872 s (State.owlNmi s c) := by
  unfold State.owlNmi
  repeat' first
    | exact rfl | intro _
    | (with_reducible first | exact Frame.refl _ _ | assumption | apply Frame.step State.setCsr_frame
                            | apply Frame.step State.setHart_frame | apply Frame.step State.drew_frame)
    | split
    | dsimp only

theorem State.awake_frame {s : State} {c : Nat} : Frame 55340232221128654849 s (State.awake s c) := by
  unfold State.awake
  repeat' first
    | exact rfl | intro _
    | (with_reducible first | exact Frame.refl _ _ | assumption | apply Frame.ite | apply Frame.step State.setHart_frame
                            | apply Frame.step State.wr_frame)
    | split
    | dsimp only

theorem State.turn_frame {s : State} {c : Nat} {remote : Rsp} :
    Frame 603577033660441758137599 s (State.turn s c remote) := by
  unfold State.turn
  repeat' first
    | exact rfl | intro _
    | (with_reducible first | exact Frame.refl _ _ | assumption | apply Frame.ite | apply Frame.step State.awake_frame
                            | apply Frame.step State.owlNmi_frame | apply Frame.step State.fetchRun_frame
                            | apply Frame.step State.takeTrap_frame | apply Frame.step State.haltDone_frame)
    | split
    | dsimp only

theorem execSpInstruction_frame {n : Fin 16} {remote : Rsp} {s : State} :
    FrameOut 603577033660441758137599 s (execSpInstruction n remote s) := by
  unfold execSpInstruction
  repeat' first
    | exact rfl | intro _
    | (with_reducible first | exact Frame.refl _ _ | assumption | apply FrameOut.next | apply Frame.step State.turn_frame)
    | split
    | dsimp only

theorem execOwlInstruction_frame {d : Fin 4} {s : State} :
    FrameOut 603577033660441758137599 s (execOwlInstruction d s) := by
  unfold execOwlInstruction
  repeat' first
    | exact rfl | intro _
    | (with_reducible first | exact Frame.refl _ _ | assumption | apply FrameOut.next | apply Frame.step State.turn_frame)
    | split
    | dsimp only

theorem State.csrTurn_frame {s : State} {c w : Nat} : Frame 603577033660441758137599 s (State.csrTurn s c w) := by
  unfold State.csrTurn
  repeat' first
    | exact rfl | intro _
    | (with_reducible first | exact Frame.refl _ _ | assumption | apply Frame.ite | apply Frame.step State.runRaw_frame)
    | split
    | dsimp only

theorem execSvpset_frame {n : Fin 16} {rd rs1 : Fin 32} {s : State} :
    FrameOut 603577033660441758137599 s (execSvpset n rd rs1 s) := by
  unfold execSvpset
  repeat' first
    | exact rfl | intro _
    | (with_reducible first | exact Frame.refl _ _ | assumption | apply FrameOut.next | apply Frame.step State.csrTurn_frame)
    | split
    | dsimp only

theorem execSvpclr_frame {n : Fin 16} {rd rs1 : Fin 32} {s : State} :
    FrameOut 603577033660441758137599 s (execSvpclr n rd rs1 s) := by
  unfold execSvpclr
  repeat' first
    | exact rfl | intro _
    | (with_reducible first | exact Frame.refl _ _ | assumption | apply FrameOut.next | apply Frame.step State.csrTurn_frame)
    | split
    | dsimp only

theorem execSvptgl_frame {n : Fin 16} {rd rs1 : Fin 32} {s : State} :
    FrameOut 603577033660441758137599 s (execSvptgl n rd rs1 s) := by
  unfold execSvptgl
  repeat' first
    | exact rfl | intro _
    | (with_reducible first | exact Frame.refl _ _ | assumption | apply FrameOut.next | apply Frame.step State.csrTurn_frame)
    | split
    | dsimp only

theorem execSvpout_frame {n : Fin 16} {rd : Fin 32} {s : State} :
    FrameOut 603577033660441758137599 s (execSvpout n rd s) := by
  unfold execSvpout
  repeat' first
    | exact rfl | intro _
    | (with_reducible first | exact Frame.refl _ _ | assumption | apply FrameOut.next | apply Frame.step State.csrTurn_frame)
    | split
    | dsimp only

theorem execSvpin_frame {n : Fin 16} {rd : Fin 32} {s : State} :
    FrameOut 603577033660441758137599 s (execSvpin n rd s) := by
  unfold execSvpin
  repeat' first
    | exact rfl | intro _
    | (with_reducible first | exact Frame.refl _ _ | assumption | apply FrameOut.next | apply Frame.step State.csrTurn_frame)
    | split
    | dsimp only

theorem execDterm_frame {core : Fin 20} {rd rs1 : Fin 32} {s : State} :
    FrameOut 603577033660441758137599 s (execDterm core rd rs1 s) := by
  unfold execDterm
  repeat' first
    | exact rfl | intro _
    | (with_reducible first | exact Frame.refl _ _ | assumption | apply FrameOut.next | apply Frame.step State.csrTurn_frame)
    | split
    | dsimp only

theorem execDtx_frame {core : Fin 20} {rd rs1 : Fin 32} {s : State} :
    FrameOut 603577033660441758137599 s (execDtx core rd rs1 s) := by
  unfold execDtx
  repeat' first
    | exact rfl | intro _
    | (with_reducible first | exact Frame.refl _ _ | assumption | apply FrameOut.next | apply Frame.step State.csrTurn_frame)
    | split
    | dsimp only

theorem execDrxRead_frame {core : Fin 20} {rd : Fin 32} {s : State} :
    FrameOut 603577033660441758137599 s (execDrxRead core rd s) := by
  unfold execDrxRead
  repeat' first
    | exact rfl | intro _
    | (with_reducible first | exact Frame.refl _ _ | assumption | apply FrameOut.next | apply Frame.step State.csrTurn_frame)
    | split
    | dsimp only

theorem execDrxRelease_frame {core : Fin 20} {rd rs1 : Fin 32} {s : State} :
    FrameOut 603577033660441758137599 s (execDrxRelease core rd rs1 s) := by
  unfold execDrxRelease
  repeat' first
    | exact rfl | intro _
    | (with_reducible first | exact Frame.refl _ _ | assumption | apply FrameOut.next | apply Frame.step State.csrTurn_frame)
    | split
    | dsimp only

theorem execDcclean_frame {n : Fin 16} {rd rs1 : Fin 32} {s : State} :
    FrameOut 603577033660441758137599 s (execDcclean n rd rs1 s) := by
  unfold execDcclean
  repeat' first
    | exact rfl | intro _
    | (with_reducible first | exact Frame.refl _ _ | assumption | apply FrameOut.next | apply Frame.step State.csrTurn_frame)
    | split
    | dsimp only

theorem execDcflush_frame {n : Fin 16} {rd rs1 : Fin 32} {s : State} :
    FrameOut 603577033660441758137599 s (execDcflush n rd rs1 s) := by
  unfold execDcflush
  repeat' first
    | exact rfl | intro _
    | (with_reducible first | exact Frame.refl _ _ | assumption | apply FrameOut.next | apply Frame.step State.csrTurn_frame)
    | split
    | dsimp only

theorem execDcinv_frame {n : Fin 16} {rd rs1 : Fin 32} {s : State} :
    FrameOut 603577033660441758137599 s (execDcinv n rd rs1 s) := by
  unfold execDcinv
  repeat' first
    | exact rfl | intro _
    | (with_reducible first | exact Frame.refl _ _ | assumption | apply FrameOut.next | apply Frame.step State.csrTurn_frame)
    | split
    | dsimp only

theorem State.feedHart_frame {s : State} {c word : Nat} {remote : Rsp} :
    Frame 603577033660441758137599 s (State.feedHart s c word remote).2 := by
  unfold State.feedHart
  repeat' first
    | exact rfl | intro _
    | (with_reducible first | exact Frame.refl _ _ | assumption | apply Frame.iteP1 | apply Frame.ite
                            | apply FrameH.step HCtx.exec_frame | apply FrameH.ofOk (by assumption)
                            | apply FrameH.ofTrap (by assumption))
    | split
    | dsimp only

theorem execDdin_frame {n : Fin 16} {rd : Fin 32} {s : State} :
    FrameOut 603577033660441758137599 s (execDdin n rd s) := by
  unfold execDdin
  repeat' first
    | exact rfl | intro _
    | (with_reducible first | exact Frame.refl _ _ | assumption | apply FrameOut.next | apply FrameOut.ite | apply Frame.ite
                            | apply Frame.step State.feedHart_frame | apply Frame.step State.csrTurn_frame
                            | apply Frame.ofP1 (by assumption))
    | split
    | dsimp only

end Sys2Proof.Machine
end

