-- ==== Sys2Proof/Laws/FrameLink.lean ====
section
/-! SUPPORT. What each operation of Machine/Link.lean can change (Laws/Frame.lean). -/
namespace Sys2Proof.Machine

theorem sacMeanings_frame : ∀ e ∈ sacMeanings, ∀ s c w, FrameC 9536966686108041411613 s (e.2 s c w) := by
  simp only [sacMeanings, List.cons_append, List.nil_append, List.forall_mem_cons]
  refine ⟨fun s _ _ => opNop_frame.step (by decide) (Frame.refl _ s),
    fun s _ _ => opHalt_frame.step (by decide) (Frame.refl _ s),
    fun s _ _ => opWait_frame.step (by decide) (Frame.refl _ s),
    fun s _ _ => opB_frame.step (by decide) (Frame.refl _ s),
    fun s _ _ => opBc_frame.step (by decide) (Frame.refl _ s),
    fun s _ _ => opCall_frame.step (by decide) (Frame.refl _ s),
    fun s _ _ => opRet_frame.step (by decide) (Frame.refl _ s),
    fun s _ _ => opReti_frame.step (by decide) (Frame.refl _ s),
    fun s _ _ => opRpt_frame.step (by decide) (Frame.refl _ s),
    fun s _ _ => opLoop_frame.step (by decide) (Frame.refl _ s),
    fun s _ _ => opBlke_frame.step (by decide) (Frame.refl _ s),
    fun s _ _ => opXgo_frame.step (by decide) (Frame.refl _ s),
    fun s _ _ => opSevt_frame.step (by decide) (Frame.refl _ s),
    fun s _ _ => opCmac_frame.step (by decide) (Frame.refl _ s),
    fun s _ _ => opCmul_frame.step (by decide) (Frame.refl _ s),
    fun s _ _ => opDmac_frame.step (by decide) (Frame.refl _ s),
    fun s _ _ => opRmac_frame.step (by decide) (Frame.refl _ s),
    fun s _ _ => opRmul_frame.step (by decide) (Frame.refl _ s),
    fun s _ _ => opCpwr_frame.step (by decide) (Frame.refl _ s),
    fun s _ _ => opAccl_frame.step (by decide) (Frame.refl _ s),
    fun s _ _ => opClra_frame.step (by decide) (Frame.refl _ s),
    fun s _ _ => opMva_frame.step (by decide) (Frame.refl _ s),
    fun s _ _ => opMvap_frame.step (by decide) (Frame.refl _ s),
    fun s _ _ => opCadd_frame.step (by decide) (Frame.refl _ s),
    fun s _ _ => opCsub_frame.step (by decide) (Frame.refl _ s),
    fun s _ _ => opCaddh_frame.step (by decide) (Frame.refl _ s),
    fun s _ _ => opCsubh_frame.step (by decide) (Frame.refl _ s),
    fun s _ _ => opCxfm_frame.step (by decide) (Frame.refl _ s),
    fun s _ _ => opCmin_frame.step (by decide) (Frame.refl _ s),
    fun s _ _ => opCmax_frame.step (by decide) (Frame.refl _ s),
    fun s _ _ => opCsha_frame.step (by decide) (Frame.refl _ s),
    fun s _ _ => opCand_frame.step (by decide) (Frame.refl _ s),
    fun s _ _ => opCor_frame.step (by decide) (Frame.refl _ s),
    fun s _ _ => opCxor_frame.step (by decide) (Frame.refl _ s),
    fun s _ _ => opCcmp_frame.step (by decide) (Frame.refl _ s),
    fun s _ _ => opLir_frame.step (by decide) (Frame.refl _ s),
    fun s _ _ => opLii_frame.step (by decide) (Frame.refl _ s),
    fun s _ _ => opLdd_frame.step (by decide) (Frame.refl _ s),
    fun s _ _ => opStd_frame.step (by decide) (Frame.refl _ s),
    fun s _ _ => opLd8_frame.step (by decide) (Frame.refl _ s),
    fun s _ _ => opPset_frame.step (by decide) (Frame.refl _ s),
    fun s _ _ => opMvs_frame.step (by decide) (Frame.refl _ s),
    fun s _ _ => opMsv_frame.step (by decide) (Frame.refl _ s), fun _ h => nomatch h⟩
theorem sacMeaning_frame {n : Nat} {s : State} {c w W : Nat} (hW : 9536966686108041411613 &&& W = 9536966686108041411613) :
    FrameC W s ((sacMeaning n).getD opReserved s c w) := by
  unfold sacMeaning
  cases h : sacMeanings.find? fun e => e.1 == n with
  | none => exact (opReserved_frame (c := c) (w := w)).step (mono_of (by decide) hW) (Frame.refl _ s)
  | some e => exact (sacMeanings_frame e (List.mem_of_find?_eq_some h) s c w).step hW (Frame.refl _ s)

theorem State.feedSac_frame {s : State} {c w : Nat} : Frame 9536966686108041411613 s (State.feedSac s c w).2 := by
  unfold State.feedSac
  repeat' first
    | exact rfl | intro _
    | (with_reducible first | exact Frame.refl _ _ | assumption | apply Frame.iteP1 | apply Frame.ite | apply FrameO.getD
                            | apply FrameC.step opReserved_frame | apply FrameC.step opSevt_frame
                            | apply FrameC.step opXgo_frame | apply FrameC.step opLoop_frame
                            | apply FrameC.step opRpt_frame | apply FrameC.step opReti_frame
                            | apply FrameC.step opRet_frame | apply FrameC.step opCall_frame
                            | apply FrameC.step opBc_frame | apply FrameC.step opB_frame
                            | apply FrameC.step opWait_frame | apply FrameC.step opHalt_frame
                            | apply FrameC.step opNop_frame | apply FrameC.step opMsv_frame
                            | apply FrameC.step opMvs_frame | apply FrameC.step opPset_frame
                            | apply FrameC.step opLd8_frame | apply FrameC.step opStd_frame
                            | apply FrameC.step opLdd_frame | apply FrameC.step opLii_frame
                            | apply FrameC.step opLir_frame | apply FrameC.step opCcmp_frame
                            | apply FrameC.step opCsha_frame | apply FrameC.step opCxfm_frame
                            | apply FrameC.step opCxor_frame | apply FrameC.step opCor_frame
                            | apply FrameC.step opCand_frame | apply FrameC.step opCmax_frame
                            | apply FrameC.step opCmin_frame | apply FrameC.step opCsubh_frame
                            | apply FrameC.step opCaddh_frame | apply FrameC.step opCsub_frame
                            | apply FrameC.step opCadd_frame | apply FrameC.step opBlke_frame
                            | apply FrameC.step opMvap_frame | apply FrameC.step opMva_frame
                            | apply FrameC.step opClra_frame | apply FrameC.step opAccl_frame
                            | apply FrameC.step opCpwr_frame | apply FrameC.step opRmul_frame
                            | apply FrameC.step opRmac_frame | apply FrameC.step opDmac_frame
                            | apply FrameC.step opCmul_frame | apply FrameC.step opCmac_frame
                            | apply Frame.step State.setSac_frame | apply FrameC.ofOk (by assumption)
                            | apply FrameC.ofGo (by assumption) | apply FrameC.ofBad (by assumption))
    | split
    | dsimp only
  exact sacMeaning_frame (c := c) (by decide)

theorem State.dfeed_frame {s : State} {d v : Nat} {remote : Rsp} :
    Frame 603577033660441758137599 s (State.dfeed s d v remote) := by
  unfold State.dfeed
  repeat' first
    | exact rfl | intro _
    | (with_reducible first | exact Frame.refl _ _ | assumption | apply Frame.ite | apply Frame.step State.feedSac_frame
                            | apply Frame.step State.feedHart_frame | apply Frame.step State.wr2_frame
                            | apply Frame.step State.seqUp_frame | apply Frame.step State.wr_frame
                            | apply Frame.ofP1 (by assumption))
    | split
    | dsimp only

theorem execDfeed_frame {d : Fin 4} {tap : Bool} {word : BitVec 32} {remote : Rsp} {s : State} :
    FrameOut 603577033660441758137599 s (execDfeed d tap word remote s) := by
  unfold execDfeed
  repeat' first
    | exact rfl | intro _
    | (with_reducible first | exact Frame.refl _ _ | assumption | apply FrameOut.next | apply Frame.step State.dfeed_frame
                            | apply State.denWrite_frame)
    | split
    | dsimp only

theorem State.bmGo_frame {s : State} {d : Fin 4} : Frame 604462909807314587353089 s (State.bmGo s d) := by
  unfold State.bmGo
  repeat' first
    | exact rfl | intro _
    | (with_reducible first | exact Frame.refl _ _ | assumption | apply Frame.ite | apply Frame.step State.seqUp_frame
                            | apply Frame.step State.wr_frame | apply Frame.step State.setBmReq_frame)
    | split
    | dsimp only

theorem execDenBmGo_frame {d : Fin 4} {tap sz64 wr : Bool} {s : State} :
    FrameOut 604462909807314587353089 s (execDenBmGo d tap sz64 wr s) := by
  unfold execDenBmGo
  repeat' first
    | exact rfl | intro _
    | (with_reducible first | exact Frame.refl _ _ | assumption | apply FrameOut.next | apply Frame.step State.bmGo_frame
                            | apply State.denWrite_frame | apply Frame.step State.wrb_frame)
    | split
    | dsimp only

theorem execDenBmDone_frame {d : Fin 4} {remote : Rsp} {s : State} :
    FrameOut 1208039943467756345490687 s (execDenBmDone d remote s) := by
  unfold execDenBmDone
  repeat' first
    | exact rfl | intro _
    | (with_reducible first | exact Frame.refl _ _ | assumption | apply FrameOut.next | apply FrameOut.ite | apply Frame.ite
                            | apply Frame.step State.nocAccess_frame | apply Frame.step State.wr2_frame
                            | apply Frame.step State.wr_frame | apply Frame.step State.setBmReq_frame
                            | apply Frame.ofP1 (by assumption))
    | split
    | dsimp only

theorem State.topWriteAt_frame {s : State} {ini : Ini} {tap : Bool} {remote : Rsp} {a : Nat} {v : Word}
    {x6 : Option Place} : Frame 1208039943467756345490687 s (State.topWriteAt s ini tap remote a v x6) := by
  unfold State.topWriteAt
  repeat' first
    | exact rfl | intro _
    | (with_reducible first | exact Frame.refl _ _ | assumption | apply Frame.ite | apply Frame.step State.bmGo_frame
                            | apply Frame.step State.dfeed_frame | apply Frame.step State.regWrite_frame
                            | apply Frame.step State.placeWrite_frame | apply Frame.step State.rsvBits_frame
                            | apply Frame.step State.wrb_frame)
    | split
    | dsimp only

theorem State.topWrite_frame {s : State} {ini : Ini} {tap : Bool} {remote : Rsp} {a : Nat} {v : Word} :
    Frame 1208039943467756345490687 s (State.topWrite s ini tap remote a v) := by
  unfold State.topWrite
  repeat' first
    | exact rfl | intro _
    | (with_reducible first | exact Frame.refl _ _ | assumption | apply Frame.step State.topWriteAt_frame)
    | split
    | dsimp only

theorem execRegisterWrite_frame {ini : Ini} {a : BitVec 40} {wide : Bool} {v : BitVec 64} {remote : Rsp} {s : State} :
    FrameOut 1208039943467756345490687 s (execRegisterWrite ini a wide v remote s) := by
  unfold execRegisterWrite
  repeat' first
    | exact rfl | intro _
    | (with_reducible first | exact Frame.refl _ _ | assumption | apply FrameOut.next | apply FrameOut.ite | apply Frame.ite
                            | apply Frame.step State.topWrite_frame | apply State.atRegister_frame
                            | apply Frame.step State.reservedWrite_frame)
    | split
    | dsimp only

theorem execDbgaccRead_frame {d : Fin 4} {word : BitVec 10} {s : State} :
    FrameOut 9887454823508522892289 s (execDbgaccRead d word s) := by
  unfold execDbgaccRead
  repeat' first
    | exact rfl | intro _
    | (with_reducible first | exact Frame.refl _ _ | assumption | apply FrameOut.next | apply FrameOut.ite | apply Frame.ite
                            | apply Frame.step State.placeRead_frame | apply Frame.step State.dbgacc_frame
                            | apply Frame.step State.drew_frame | apply Frame.ofP1 (by assumption))
    | split
    | dsimp only

theorem execDbgaccWrite_frame {d : Fin 4} {word : BitVec 10} {v : BitVec 32} {remote : Rsp} {s : State} :
    FrameOut 1208335091372935698316543 s (execDbgaccWrite d word v remote s) := by
  unfold execDbgaccWrite
  repeat' first
    | exact rfl | intro _
    | (with_reducible first | exact Frame.refl _ _ | assumption | apply FrameOut.next | apply FrameOut.ite | apply Frame.ite
                            | apply Frame.step State.topWrite_frame | apply Frame.step State.dbgacc_frame
                            | apply Frame.step State.drew_frame)
    | split
    | dsimp only

theorem State.takeRequest_frame {s : State} {f : Flight} :
    Frame 1208039943467764935425279 s (State.takeRequest s f) := by
  unfold State.takeRequest
  repeat' first
    | exact rfl | intro _
    | (with_reducible first | exact Frame.refl _ _ | assumption | apply Frame.ite | apply FrameO.getD
                            | apply Frame.step State.topWrite_frame | apply State.regAccess_frame
                            | apply Frame.step State.gslSend_frame | apply Frame.step State.portAccept_frame
                            | apply Frame.step State.serve_frame | apply Frame.step State.answer_frame
                            | apply Frame.ofP1 (by assumption))
    | split
    | dsimp only

theorem execMemoryRequest_frame {id : Nat} {s : State} :
    FrameOut 1208039943467764935425279 s (execMemoryRequest id s) := by
  unfold execMemoryRequest
  repeat' first
    | exact rfl | intro _
    | (with_reducible first | exact Frame.refl _ _ | assumption | apply FrameOut.next | apply FrameOut.ite | apply Frame.ite
                            | apply Frame.step State.takeRequest_frame)
    | split
    | dsimp only

theorem execSacBankAccess_frame {id : Nat} {waited : Bool} {s : State} :
    FrameOut 9465490056458551490813 s (execSacBankAccess id waited s) := by
  unfold execSacBankAccess
  repeat' first
    | exact rfl | intro _
    | (with_reducible first | exact Frame.refl _ _ | assumption | apply FrameOut.next | apply FrameOut.ite | apply Frame.ite
                            | apply Frame.step State.serve_frame | apply Frame.step State.answer_frame
                            | apply Frame.step State.count_frame | apply Frame.ofP1 (by assumption))
    | split
    | dsimp only

theorem State.sacIn_frame {s : State} {c : Fin 64} {x2 x3 x4 : Nat} :
    Frame 603577033660441758137599 s (State.sacIn s c x2 x3 x4).2 := by
  induction x2 generalizing s c x3 x4 with
  | zero =>
    unfold State.sacIn
    repeat' first
      | exact rfl | intro _
      | (with_reducible first | exact Frame.refl _ _ | assumption | apply Frame.step State.nocAccess_frame
                              | apply Frame.step State.writeWord_frame | apply Frame.ofP1 (by assumption))
      | with_reducible apply Frame.step ih
      | split
      | dsimp only
  | succ _ ih =>
    unfold State.sacIn
    repeat' first
      | exact rfl | intro _
      | (with_reducible first | exact Frame.refl _ _ | assumption | apply Frame.step State.nocAccess_frame
                              | apply Frame.step State.writeWord_frame | apply Frame.ofP1 (by assumption))
      | with_reducible apply Frame.step ih
      | split
      | dsimp only

theorem State.sacOut_frame {s : State} {c : Fin 64} {pick : Nat} {snap : List (Nat × Bool)} {x4 x5 x6 x7 : Nat} :
    Frame 603577033660441758137599 s (State.sacOut s c pick snap x4 x5 x6 x7).2 := by
  induction x4 generalizing s c pick snap x5 x6 x7 with
  | zero =>
    unfold State.sacOut
    repeat' first
      | exact rfl | intro _
      | (with_reducible first | exact Frame.refl _ _ | assumption | apply Frame.step State.nocAccess_frame
                              | apply Frame.step State.countChip_frame | apply Frame.ofP1 (by assumption))
      | with_reducible apply Frame.step ih
      | split
      | dsimp only
  | succ _ ih =>
    unfold State.sacOut
    repeat' first
      | exact rfl | intro _
      | (with_reducible first | exact Frame.refl _ _ | assumption | apply Frame.step State.nocAccess_frame
                              | apply Frame.step State.countChip_frame | apply Frame.ofP1 (by assumption))
      | with_reducible apply Frame.step ih
      | split
      | dsimp only

theorem execSacTransferDone_frame {c : Fin 64} {ch : Fin 2} {s : State} :
    FrameOut 603577033660441758137599 s (execSacTransferDone c ch s) := by
  unfold execSacTransferDone
  repeat' first
    | exact rfl | intro _
    | (with_reducible first | exact Frame.refl _ _ | assumption | apply FrameOut.next | apply FrameOut.ite | apply Frame.ite
                            | apply Frame.step State.sacOut_frame | apply Frame.step State.sacIn_frame
                            | apply Frame.step State.sacXEnd_frame | apply Frame.step State.drew_frame
                            | apply Frame.ofP1 (by assumption))
    | split
    | dsimp only

theorem State.gslDeliver_frame {s : State} {g : Fin 24} {f : GFrame} {p : GPkt} :
    Frame 603577033660450348072191 s (State.gslDeliver s g f p) := by
  unfold State.gslDeliver
  repeat' first
    | exact rfl | intro _
    | (with_reducible first | exact Frame.refl _ _ | assumption | apply Frame.ite | apply Frame.step State.nocAccess_frame
                            | apply Frame.step State.gslSend_frame | apply Frame.step State.flightAnswer_frame
                            | apply Frame.step State.count_frame | apply Frame.ofP1 (by assumption))
    | split
    | dsimp only

theorem execGslDataFrame_frame {g : Fin 24} {h : GHdr} {f : GFrame} {s : State} :
    FrameOut 603577033660450348072191 s (execGslDataFrame g h f s) := by
  unfold execGslDataFrame
  repeat' first
    | exact rfl | intro _
    | (with_reducible first | exact Frame.refl _ _ | assumption | apply FrameOut.next | apply FrameOut.ite | apply Frame.ite
                            | apply Frame.each | apply Frame.step State.gslDeliver_frame | apply State.gslTake_frame
                            | apply Frame.step State.gslSend_frame | apply Frame.step State.gslLost_frame)
    | split
    | dsimp only

theorem State.hostGet_frame {s : State} {w : Who} {x2 : List (Nat × Nat)} :
    Frame 603577033660441758137599 s (State.hostGet s w x2).2 := by
  induction x2 generalizing s w with
  | nil =>
    unfold State.hostGet
    repeat' first
      | exact rfl | intro _
      | (with_reducible first | exact Frame.refl _ _ | assumption | apply Frame.step State.nocAccess_frame
                              | apply Frame.ofP1 (by assumption))
      | with_reducible apply Frame.step ih
      | split
      | dsimp only
  | cons _ _ ih =>
    unfold State.hostGet
    repeat' first
      | exact rfl | intro _
      | (with_reducible first | exact Frame.refl _ _ | assumption | apply Frame.step State.nocAccess_frame
                              | apply Frame.ofP1 (by assumption))
      | with_reducible apply Frame.step ih
      | split
      | dsimp only

theorem State.hostPut_frame {s : State} {w : Who} {remote : Rsp} {pois : List Bool} {data : List Byte} {x5 : List
    (Nat × Nat)} : Frame 1208039943467756345490687 s (State.hostPut s w remote pois data x5).2 := by
  induction x5 generalizing s w remote pois data with
  | nil =>
    unfold State.hostPut
    repeat' first
      | exact rfl | intro _
      | (with_reducible first | exact Frame.refl _ _ | assumption | apply Frame.iteP1 | apply Frame.ite
                              | apply Frame.step State.topWrite_frame | apply State.nocAccessBy_frame
                              | apply Frame.ofP1 (by assumption))
      | with_reducible apply Frame.step ih
      | split
      | dsimp only
  | cons _ _ ih =>
    unfold State.hostPut
    repeat' first
      | exact rfl | intro _
      | (with_reducible first | exact Frame.refl _ _ | assumption | apply Frame.iteP1 | apply Frame.ite
                              | apply Frame.step State.topWrite_frame | apply State.nocAccessBy_frame
                              | apply Frame.ofP1 (by assumption))
      | with_reducible apply Frame.step ih
      | split
      | dsimp only

theorem State.tlpDone_frame {s : State} {c : PcieCpl} : Frame 37778931862957161709568 s (State.tlpDone s c) := by
  unfold State.tlpDone
  repeat' first
    | exact rfl | intro _
    | (with_reducible first | exact Frame.refl _ _ | assumption)
    | split
    | with_reducible apply Frame.step Frame.upd_host

theorem State.unsupported_frame {s : State} {count : Bool} :
    Frame 37778931862957161709569 s (State.unsupported s count) := by
  unfold State.unsupported
  repeat' first
    | exact rfl | intro _
    | (with_reducible first | exact Frame.refl _ _ | assumption | apply Frame.ite | apply Frame.step State.tlpDone_frame
                            | apply Frame.step State.count_frame)
    | split
    | dsimp only

theorem State.tlpLocal_frame {s : State} {w : Who} {t : Tlp} {a : Nat} {remote : Rsp} :
    Frame 1208039943467756345490687 s (State.tlpLocal s w t a remote) := by
  unfold State.tlpLocal
  repeat' first
    | exact rfl | intro _
    | (with_reducible first | exact Frame.refl _ _ | assumption | apply Frame.ite | apply Frame.step State.unsupported_frame
                            | apply Frame.step State.tlpDone_frame | apply Frame.step State.hostPut_frame
                            | apply Frame.step State.hostGet_frame | apply Frame.ofP1 (by assumption))
    | split
    | dsimp only

theorem State.tlpTable_frame {s : State} {fn : Nat} {t : Tlp} {lo n : Nat} :
    Frame 37778931862957161709568 s (State.tlpTable s fn t lo n) := by
  unfold State.tlpTable
  repeat' first
    | exact rfl | intro _
    | (with_reducible first | exact Frame.refl _ _ | assumption | apply Frame.ite | apply Frame.foldl | apply Frame.foldl1
                            | apply Frame.foldlP1 | apply Frame.foldlP2 | apply Frame.foldlP3 | apply Frame.foldlP4
                            | apply Frame.foldlP5 | apply Frame.step State.tlpDone_frame)
    | split
    | with_reducible apply Frame.step Frame.upd_host

theorem State.tlpVfPage_frame {s : State} {n : Fin 16} {t : Tlp} :
    Frame 603577033660441758137599 s (State.tlpVfPage s n t) := by
  unfold State.tlpVfPage
  repeat' first
    | exact rfl | intro _
    | (with_reducible first | exact Frame.refl _ _ | assumption | apply Frame.ite | apply Frame.step State.tlpTable_frame
                            | apply Frame.step State.tlpDone_frame | apply State.regAccess_frame
                            | apply Frame.step State.regWrite_frame | apply Frame.ofP1 (by assumption))
    | split
    | with_reducible apply Frame.step Frame.upd_host

theorem execPcieMemoryRequest_frame {t : Tlp} {remote : Rsp} {s : State} :
    FrameOut 1208039943467756345490687 s (execPcieMemoryRequest t remote s) := by
  unfold execPcieMemoryRequest
  repeat' first
    | exact rfl | intro _
    | (with_reducible first | exact Frame.refl _ _ | assumption | apply FrameOut.next | apply FrameOut.ite | apply Frame.ite
                            | apply Frame.step State.tlpVfPage_frame | apply Frame.step State.tlpTable_frame
                            | apply Frame.step State.tlpLocal_frame | apply Frame.step State.unsupported_frame)
    | split
    | dsimp only

theorem execDmaDescriptorDone_frame {c : Fin 32} {host : List Byte} {pois : List Bool} {hostErr : Bool} {remote : Rsp}
    {s : State} : FrameOut 1208039943467756345490687 s (execDmaDescriptorDone c host pois hostErr remote s) := by
  unfold execDmaDescriptorDone
  repeat' first
    | exact rfl | intro _
    | (with_reducible first | exact Frame.refl _ _ | assumption | apply FrameOut.next | apply FrameOut.ite | apply Frame.ite
                            | apply Frame.step State.hostPut_frame | apply Frame.step State.hostGet_frame
                            | apply Frame.step State.dmaEnd_frame | apply State.atBlock_frame
                            | apply Frame.step State.setDma_frame | apply Frame.ofP1 (by assumption))
    | split
    | dsimp only

end Sys2Proof.Machine
end

