-- ==== Sys2Proof/Laws/State.lean ====
section
/-! SUPPORT. What reads back after one update of the state: register fields, staged values, memory bytes and the entries of each sparse
map; every other field reads as before. -/
namespace Sys2Proof.Machine
variable {s : State}

/-! ## Register fields -/

/-- The register file after a write: the field written (by its key) reads the value cut to its width, every other field as before. -/
theorem State.rd_wr (b b' : Nat) (f f' : Fld) (v : Nat) :
    (s.wr b f v).rd b' f' = if f'.key b' = f.key b then v % 2 ^ f.width else s.rd b' f' := by
  simp only [State.rd, State.wr, KV.get_put]
@[simp] theorem State.rd_wr_self (b : Nat) (f : Fld) (v : Nat) : (s.wr b f v).rd b f = v % 2 ^ f.width := by
  simp [State.rd_wr]
theorem State.rd_wr_ne {b b' : Nat} {f f' : Fld} (v : Nat) (h : f'.key b' ≠ f.key b) : (s.wr b f v).rd b' f' = s.rd b' f' := by
  simp [State.rd_wr, h]
@[simp] theorem State.wr_wr (b : Nat) (f : Fld) (v w : Nat) : (s.wr b f v).wr b f w = s.wr b f w := by simp [State.wr]
/-- A written word whose bits lie within the defined ones, those below bit `k`, sets nothing (R15). -/
theorem State.rsvBits_of_le (blk mask v k : Nat) (hm : mask + 1 = 2 ^ k) (hv : v ≤ mask) : s.rsvBits blk mask v = s := by
  have h : v &&& (2 ^ 32 - 1 - mask) = 0 := by
    apply Nat.eq_of_testBit_eq; intro i
    rw [Nat.testBit_and, Nat.zero_testBit]
    by_cases hi : i < k
    · have : (2 ^ 32 - 1 - mask).testBit i = false := by
        by_cases h32 : mask ≤ 2 ^ 32 - 1
        · have hk : k ≤ 32 := by
            rcases Nat.lt_or_ge 32 k with h1 | h1
            · have := Nat.pow_le_pow_right (n := 2) (by omega) (Nat.succ_le_of_lt h1); omega
            · exact h1
          obtain ⟨j, hj⟩ : ∃ j, 32 = k + j := ⟨32 - k, by omega⟩
          have e : 2 ^ 32 - 1 - mask = 2 ^ k * (2 ^ j - 1) := by
            have e1 : 2 ^ 32 = 2 ^ k * 2 ^ j := by rw [hj]; exact Nat.pow_add 2 k j
            have e2 : 2 ^ k * (2 ^ j - 1) = 2 ^ k * 2 ^ j - 2 ^ k := by rw [Nat.mul_sub, Nat.mul_one]
            omega
          rw [e, Nat.testBit_two_pow_mul]; simp [Nat.not_le.2 hi]
        · rw [show 2 ^ 32 - 1 - mask = 0 by omega]; simp
      rw [this, Bool.and_false]
    · have : v.testBit i = false := Nat.testBit_lt_two_pow
        (Nat.lt_of_lt_of_le (by omega : v < 2 ^ k) (Nat.pow_le_pow_right (by omega) (by omega)))
      rw [this, Bool.false_and]
  unfold State.rsvBits; exact if_neg fun hn => hn h
@[simp] theorem State.rd_stage (b b' : Nat) (f f' : Fld) (v : Nat) : (s.stage b f v).rd b' f' = s.rd b' f' := rfl
/-- A staged value reads back; staging leaves the other fields' staged values alone (R8). -/
@[simp] theorem State.staged_stage_self (b : Nat) (f : Fld) (v : Nat) : (s.stage b f v).staged b f = v % 2 ^ f.width := by
  show KV.get (s.rd b f) (f.key b) (KV.set (s.rd b f) (f.key b) (v % 2 ^ f.width) s.stg) = _
  simp
@[simp] theorem State.rd_load_self (b : Nat) (f : Fld) (v : Nat) : (s.load b f v).rd b f = v % 2 ^ f.width :=
  State.rd_wr_self b f v
/-- A loaded field is staged and active together. -/
@[simp] theorem State.staged_load_self (b : Nat) (f : Fld) (v : Nat) : (s.load b f v).staged b f = v % 2 ^ f.width := by
  show KV.get ((s.load b f v).rd b f) (f.key b) (KV.erase (f.key b) s.stg) = _
  simp [KV.get_erase]

/-! ## Memory bytes -/

/-- A byte after one store: the stored one at its address, every other as before. -/
theorem State.byte_putByte (a a' : Nat) (x : Byte) : (s.putByte a x).byte a' = if a' = a then x else s.byte a' := by
  simp only [State.byte, State.putByte, KV.get_set]
@[simp] theorem State.byte_putByte_self (a : Nat) (x : Byte) : (s.putByte a x).byte a = x := by simp [State.byte_putByte]

/-- A byte after a store of several: those stored at their places, every other as before. -/
theorem State.byte_putBytes (xs : List Byte) (a a' : Nat) :
    (s.putBytes a xs).byte a' = if a ≤ a' ∧ a' < a + xs.length then xs.getD (a' - a) 0 else s.byte a' := by
  induction xs generalizing s a with
  | nil => rw [State.putBytes, if_neg (by simp only [List.length_nil]; omega)]
  | cons x xs ih =>
    rw [State.putBytes, ih, State.byte_putByte]
    by_cases h1 : a' = a
    · subst h1
      rw [if_neg (by omega), if_pos rfl, if_pos ⟨Nat.le_refl _, by simp only [List.length_cons]; omega⟩]
      simp
    · rw [if_neg h1]
      by_cases h2 : a + 1 ≤ a' ∧ a' < a + 1 + xs.length
      · rw [if_pos h2, if_pos ⟨by omega, by simp only [List.length_cons]; omega⟩]
        obtain ⟨k, rfl⟩ : ∃ k, a' = a + 1 + k := ⟨a' - a - 1, by omega⟩
        rw [show a + 1 + k - (a + 1) = k by omega, show a + 1 + k - a = k + 1 by omega, List.getD_cons_succ]
      · rw [if_neg h2, if_neg (by simp only [List.length_cons]; omega)]

/-! ## The entries of the sparse maps -/

theorem State.pin_setPin (i j : Nat) (x : PinX) : (s.setPin i x).pin j = if j = i then x else s.pin j := by
  simp only [State.pin, State.setPin, KV.get_set]
@[simp] theorem State.pin_setPin_self (i : Nat) (x : PinX) : (s.setPin i x).pin i = x := by simp [State.pin_setPin]
@[simp] theorem State.setPin_setPin (i : Nat) (x y : PinX) : (s.setPin i x).setPin i y = s.setPin i y := by simp [State.setPin]
@[simp] theorem State.setPin_wr (i : Nat) (x : PinX) (b : Nat) (f : Fld) (v : Nat) : (s.wr b f v).setPin i x = (s.setPin i x).wr b f v := rfl
@[simp] theorem State.rd_setPin (i : Nat) (x : PinX) (b : Nat) (f : Fld) : (s.setPin i x).rd b f = s.rd b f := rfl
@[simp] theorem State.byte_setPin (i : Nat) (x : PinX) (a : Nat) : (s.setPin i x).byte a = s.byte a := rfl
theorem State.bank_setBank (i j : Nat) (x : BankX) : (s.setBank i x).bank j = if j = i then x else s.bank j := by
  simp only [State.bank, State.setBank, KV.get_set]
@[simp] theorem State.bank_setBank_self (i : Nat) (x : BankX) : (s.setBank i x).bank i = x := by simp [State.bank_setBank]
@[simp] theorem State.setBank_setBank (i : Nat) (x y : BankX) : (s.setBank i x).setBank i y = s.setBank i y := by simp [State.setBank]
@[simp] theorem State.setBank_wr (i : Nat) (x : BankX) (b : Nat) (f : Fld) (v : Nat) : (s.wr b f v).setBank i x = (s.setBank i x).wr b f v := rfl
@[simp] theorem State.rd_setBank (i : Nat) (x : BankX) (b : Nat) (f : Fld) : (s.setBank i x).rd b f = s.rd b f := rfl
@[simp] theorem State.byte_setBank (i : Nat) (x : BankX) (a : Nat) : (s.setBank i x).byte a = s.byte a := rfl
theorem State.pmu_setPmu (i j : Nat) (x : PmuX) : (s.setPmu i x).pmu j = if j = i then x else s.pmu j := by
  simp only [State.pmu, State.setPmu, KV.get_set]
@[simp] theorem State.pmu_setPmu_self (i : Nat) (x : PmuX) : (s.setPmu i x).pmu i = x := by simp [State.pmu_setPmu]
@[simp] theorem State.setPmu_setPmu (i : Nat) (x y : PmuX) : (s.setPmu i x).setPmu i y = s.setPmu i y := by simp [State.setPmu]
@[simp] theorem State.setPmu_wr (i : Nat) (x : PmuX) (b : Nat) (f : Fld) (v : Nat) : (s.wr b f v).setPmu i x = (s.setPmu i x).wr b f v := rfl
@[simp] theorem State.rd_setPmu (i : Nat) (x : PmuX) (b : Nat) (f : Fld) : (s.setPmu i x).rd b f = s.rd b f := rfl
@[simp] theorem State.byte_setPmu (i : Nat) (x : PmuX) (a : Nat) : (s.setPmu i x).byte a = s.byte a := rfl
theorem State.psq_setPsq (i j : Nat) (x : PsqX) : (s.setPsq i x).psq j = if j = i then x else s.psq j := by
  simp only [State.psq, State.setPsq, KV.get_set]
@[simp] theorem State.psq_setPsq_self (i : Nat) (x : PsqX) : (s.setPsq i x).psq i = x := by simp [State.psq_setPsq]
@[simp] theorem State.setPsq_setPsq (i : Nat) (x y : PsqX) : (s.setPsq i x).setPsq i y = s.setPsq i y := by simp [State.setPsq]
@[simp] theorem State.setPsq_wr (i : Nat) (x : PsqX) (b : Nat) (f : Fld) (v : Nat) : (s.wr b f v).setPsq i x = (s.setPsq i x).wr b f v := rfl
@[simp] theorem State.rd_setPsq (i : Nat) (x : PsqX) (b : Nat) (f : Fld) : (s.setPsq i x).rd b f = s.rd b f := rfl
@[simp] theorem State.byte_setPsq (i : Nat) (x : PsqX) (a : Nat) : (s.setPsq i x).byte a = s.byte a := rfl
theorem State.fh_setFh (i j : Nat) (x : FhSrc) : (s.setFh i x).fh j = if j = i then x else s.fh j := by
  simp only [State.fh, State.setFh, KV.get_set]
@[simp] theorem State.fh_setFh_self (i : Nat) (x : FhSrc) : (s.setFh i x).fh i = x := by simp [State.fh_setFh]
@[simp] theorem State.setFh_setFh (i : Nat) (x y : FhSrc) : (s.setFh i x).setFh i y = s.setFh i y := by simp [State.setFh]
@[simp] theorem State.setFh_wr (i : Nat) (x : FhSrc) (b : Nat) (f : Fld) (v : Nat) : (s.wr b f v).setFh i x = (s.setFh i x).wr b f v := rfl
@[simp] theorem State.rd_setFh (i : Nat) (x : FhSrc) (b : Nat) (f : Fld) : (s.setFh i x).rd b f = s.rd b f := rfl
@[simp] theorem State.byte_setFh (i : Nat) (x : FhSrc) (a : Nat) : (s.setFh i x).byte a = s.byte a := rfl
theorem State.guest_setGuest (i j : Nat) (x : GuestPhase) : (s.setGuest i x).guest j = if j = i then x else s.guest j := by
  simp only [State.guest, State.setGuest, KV.get_set]
@[simp] theorem State.guest_setGuest_self (i : Nat) (x : GuestPhase) : (s.setGuest i x).guest i = x := by simp [State.guest_setGuest]
@[simp] theorem State.setGuest_setGuest (i : Nat) (x y : GuestPhase) : (s.setGuest i x).setGuest i y = s.setGuest i y := by simp [State.setGuest]
@[simp] theorem State.setGuest_wr (i : Nat) (x : GuestPhase) (b : Nat) (f : Fld) (v : Nat) : (s.wr b f v).setGuest i x = (s.setGuest i x).wr b f v := rfl
@[simp] theorem State.rd_setGuest (i : Nat) (x : GuestPhase) (b : Nat) (f : Fld) : (s.setGuest i x).rd b f = s.rd b f := rfl
@[simp] theorem State.byte_setGuest (i : Nat) (x : GuestPhase) (a : Nat) : (s.setGuest i x).byte a = s.byte a := rfl
theorem State.arp_setArp (i j : Nat) (x : ArpX) : (s.setArp i x).arp j = if j = i then x else s.arp j := by
  simp only [State.arp, State.setArp, KV.get_set]
@[simp] theorem State.arp_setArp_self (i : Nat) (x : ArpX) : (s.setArp i x).arp i = x := by simp [State.arp_setArp]
@[simp] theorem State.setArp_setArp (i : Nat) (x y : ArpX) : (s.setArp i x).setArp i y = s.setArp i y := by simp [State.setArp]
@[simp] theorem State.setArp_wr (i : Nat) (x : ArpX) (b : Nat) (f : Fld) (v : Nat) : (s.wr b f v).setArp i x = (s.setArp i x).wr b f v := rfl
@[simp] theorem State.rd_setArp (i : Nat) (x : ArpX) (b : Nat) (f : Fld) : (s.setArp i x).rd b f = s.rd b f := rfl
@[simp] theorem State.byte_setArp (i : Nat) (x : ArpX) (a : Nat) : (s.setArp i x).byte a = s.byte a := rfl
theorem State.tick_setTick (i j : Nat) (x : Nat) : (s.setTick i x).tick j = if j = i then x else s.tick j := by
  simp only [State.tick, State.setTick, KV.get_set]
@[simp] theorem State.tick_setTick_self (i : Nat) (x : Nat) : (s.setTick i x).tick i = x := by simp [State.tick_setTick]
@[simp] theorem State.setTick_setTick (i : Nat) (x y : Nat) : (s.setTick i x).setTick i y = s.setTick i y := by simp [State.setTick]
@[simp] theorem State.setTick_wr (i : Nat) (x : Nat) (b : Nat) (f : Fld) (v : Nat) : (s.wr b f v).setTick i x = (s.setTick i x).wr b f v := rfl
@[simp] theorem State.rd_setTick (i : Nat) (x : Nat) (b : Nat) (f : Fld) : (s.setTick i x).rd b f = s.rd b f := rfl
@[simp] theorem State.byte_setTick (i : Nat) (x : Nat) (a : Nat) : (s.setTick i x).byte a = s.byte a := rfl
theorem State.counting_setCounting (i j : Nat) (x : Bool) : (s.setCounting i x).counting j = if j = i then x else s.counting j := by
  simp only [State.counting, State.setCounting, KV.get_set]
@[simp] theorem State.counting_setCounting_self (i : Nat) (x : Bool) : (s.setCounting i x).counting i = x := by simp [State.counting_setCounting]
@[simp] theorem State.setCounting_setCounting (i : Nat) (x y : Bool) : (s.setCounting i x).setCounting i y = s.setCounting i y := by simp [State.setCounting]
@[simp] theorem State.setCounting_wr (i : Nat) (x : Bool) (b : Nat) (f : Fld) (v : Nat) : (s.wr b f v).setCounting i x = (s.setCounting i x).wr b f v := rfl
@[simp] theorem State.rd_setCounting (i : Nat) (x : Bool) (b : Nat) (f : Fld) : (s.setCounting i x).rd b f = s.rd b f := rfl
@[simp] theorem State.byte_setCounting (i : Nat) (x : Bool) (a : Nat) : (s.setCounting i x).byte a = s.byte a := rfl
theorem State.domFlag_setDomFlag (i j : Nat) (x : Bool) : (s.setDomFlag i x).domFlag j = if j = i then x else s.domFlag j := by
  simp only [State.domFlag, State.setDomFlag, KV.get_set]
@[simp] theorem State.domFlag_setDomFlag_self (i : Nat) (x : Bool) : (s.setDomFlag i x).domFlag i = x := by simp [State.domFlag_setDomFlag]
@[simp] theorem State.setDomFlag_setDomFlag (i : Nat) (x y : Bool) : (s.setDomFlag i x).setDomFlag i y = s.setDomFlag i y := by simp [State.setDomFlag]
@[simp] theorem State.setDomFlag_wr (i : Nat) (x : Bool) (b : Nat) (f : Fld) (v : Nat) : (s.wr b f v).setDomFlag i x = (s.setDomFlag i x).wr b f v := rfl
@[simp] theorem State.rd_setDomFlag (i : Nat) (x : Bool) (b : Nat) (f : Fld) : (s.setDomFlag i x).rd b f = s.rd b f := rfl
@[simp] theorem State.byte_setDomFlag (i : Nat) (x : Bool) (a : Nat) : (s.setDomFlag i x).byte a = s.byte a := rfl
theorem State.valid_setValid (i j : Nat) (x : Bool) : (s.setValid i x).valid j = if j = i then x else s.valid j := by
  simp only [State.valid, State.setValid, KV.get_set]
@[simp] theorem State.valid_setValid_self (i : Nat) (x : Bool) : (s.setValid i x).valid i = x := by simp [State.valid_setValid]
@[simp] theorem State.setValid_setValid (i : Nat) (x y : Bool) : (s.setValid i x).setValid i y = s.setValid i y := by simp [State.setValid]
@[simp] theorem State.setValid_wr (i : Nat) (x : Bool) (b : Nat) (f : Fld) (v : Nat) : (s.wr b f v).setValid i x = (s.setValid i x).wr b f v := rfl
@[simp] theorem State.rd_setValid (i : Nat) (x : Bool) (b : Nat) (f : Fld) : (s.setValid i x).rd b f = s.rd b f := rfl
@[simp] theorem State.byte_setValid (i : Nat) (x : Bool) (a : Nat) : (s.setValid i x).byte a = s.byte a := rfl
theorem State.syndrome_setSyndrome (i j : Nat) (x : Nat) : (s.setSyndrome i x).syndrome j = if j = i then x else s.syndrome j := by
  simp only [State.syndrome, State.setSyndrome, KV.get_set]
@[simp] theorem State.syndrome_setSyndrome_self (i : Nat) (x : Nat) : (s.setSyndrome i x).syndrome i = x := by simp [State.syndrome_setSyndrome]
@[simp] theorem State.setSyndrome_setSyndrome (i : Nat) (x y : Nat) : (s.setSyndrome i x).setSyndrome i y = s.setSyndrome i y := by simp [State.setSyndrome]
@[simp] theorem State.setSyndrome_wr (i : Nat) (x : Nat) (b : Nat) (f : Fld) (v : Nat) : (s.wr b f v).setSyndrome i x = (s.setSyndrome i x).wr b f v := rfl
@[simp] theorem State.rd_setSyndrome (i : Nat) (x : Nat) (b : Nat) (f : Fld) : (s.setSyndrome i x).rd b f = s.rd b f := rfl
@[simp] theorem State.byte_setSyndrome (i : Nat) (x : Nat) (a : Nat) : (s.setSyndrome i x).byte a = s.byte a := rfl
theorem State.lineSyn_setLineSyn (i j : Nat) (x : Nat) : (s.setLineSyn i x).lineSyn j = if j = i then x else s.lineSyn j := by
  simp only [State.lineSyn, State.setLineSyn, KV.get_set]
@[simp] theorem State.lineSyn_setLineSyn_self (i : Nat) (x : Nat) : (s.setLineSyn i x).lineSyn i = x := by simp [State.lineSyn_setLineSyn]
@[simp] theorem State.setLineSyn_setLineSyn (i : Nat) (x y : Nat) : (s.setLineSyn i x).setLineSyn i y = s.setLineSyn i y := by simp [State.setLineSyn]
@[simp] theorem State.setLineSyn_wr (i : Nat) (x : Nat) (b : Nat) (f : Fld) (v : Nat) : (s.wr b f v).setLineSyn i x = (s.setLineSyn i x).wr b f v := rfl
@[simp] theorem State.rd_setLineSyn (i : Nat) (x : Nat) (b : Nat) (f : Fld) : (s.setLineSyn i x).rd b f = s.rd b f := rfl
@[simp] theorem State.byte_setLineSyn (i : Nat) (x : Nat) (a : Nat) : (s.setLineSyn i x).byte a = s.byte a := rfl
theorem State.linePoison_setLinePoison (i j : Nat) (x : Bool) : (s.setLinePoison i x).linePoison j = if j = i then x else s.linePoison j := by
  simp only [State.linePoison, State.setLinePoison, KV.get_set]
@[simp] theorem State.linePoison_setLinePoison_self (i : Nat) (x : Bool) : (s.setLinePoison i x).linePoison i = x := by simp [State.linePoison_setLinePoison]
@[simp] theorem State.setLinePoison_setLinePoison (i : Nat) (x y : Bool) : (s.setLinePoison i x).setLinePoison i y = s.setLinePoison i y := by simp [State.setLinePoison]
@[simp] theorem State.setLinePoison_wr (i : Nat) (x : Bool) (b : Nat) (f : Fld) (v : Nat) : (s.wr b f v).setLinePoison i x = (s.setLinePoison i x).wr b f v := rfl
@[simp] theorem State.rd_setLinePoison (i : Nat) (x : Bool) (b : Nat) (f : Fld) : (s.setLinePoison i x).rd b f = s.rd b f := rfl
@[simp] theorem State.byte_setLinePoison (i : Nat) (x : Bool) (a : Nat) : (s.setLinePoison i x).byte a = s.byte a := rfl
theorem State.page_setPage (i j : Nat) (x : PageX) : (s.setPage i x).page j = if j = i then x else s.page j := by
  simp only [State.page, State.setPage, KV.get_set]
@[simp] theorem State.page_setPage_self (i : Nat) (x : PageX) : (s.setPage i x).page i = x := by simp [State.page_setPage]
@[simp] theorem State.setPage_setPage (i : Nat) (x y : PageX) : (s.setPage i x).setPage i y = s.setPage i y := by simp [State.setPage]
@[simp] theorem State.setPage_wr (i : Nat) (x : PageX) (b : Nat) (f : Fld) (v : Nat) : (s.wr b f v).setPage i x = (s.setPage i x).wr b f v := rfl
@[simp] theorem State.rd_setPage (i : Nat) (x : PageX) (b : Nat) (f : Fld) : (s.setPage i x).rd b f = s.rd b f := rfl
@[simp] theorem State.byte_setPage (i : Nat) (x : PageX) (a : Nat) : (s.setPage i x).byte a = s.byte a := rfl
theorem State.cmp_setCmp (i j : Nat) (x : CmpX) : (s.setCmp i x).cmp j = if j = i then x else s.cmp j := by
  simp only [State.cmp, State.setCmp, KV.get_set]
@[simp] theorem State.cmp_setCmp_self (i : Nat) (x : CmpX) : (s.setCmp i x).cmp i = x := by simp [State.cmp_setCmp]
@[simp] theorem State.setCmp_setCmp (i : Nat) (x y : CmpX) : (s.setCmp i x).setCmp i y = s.setCmp i y := by simp [State.setCmp]
@[simp] theorem State.setCmp_wr (i : Nat) (x : CmpX) (b : Nat) (f : Fld) (v : Nat) : (s.wr b f v).setCmp i x = (s.setCmp i x).wr b f v := rfl
@[simp] theorem State.rd_setCmp (i : Nat) (x : CmpX) (b : Nat) (f : Fld) : (s.setCmp i x).rd b f = s.rd b f := rfl
@[simp] theorem State.byte_setCmp (i : Nat) (x : CmpX) (a : Nat) : (s.setCmp i x).byte a = s.byte a := rfl
theorem State.storePort_setStorePort (i j : Nat) (x : StoreX) : (s.setStorePort i x).storePort j = if j = i then x else s.storePort j := by
  simp only [State.storePort, State.setStorePort, KV.get_set]
@[simp] theorem State.storePort_setStorePort_self (i : Nat) (x : StoreX) : (s.setStorePort i x).storePort i = x := by simp [State.storePort_setStorePort]
@[simp] theorem State.setStorePort_setStorePort (i : Nat) (x y : StoreX) : (s.setStorePort i x).setStorePort i y = s.setStorePort i y := by simp [State.setStorePort]
@[simp] theorem State.setStorePort_wr (i : Nat) (x : StoreX) (b : Nat) (f : Fld) (v : Nat) : (s.wr b f v).setStorePort i x = (s.setStorePort i x).wr b f v := rfl
@[simp] theorem State.rd_setStorePort (i : Nat) (x : StoreX) (b : Nat) (f : Fld) : (s.setStorePort i x).rd b f = s.rd b f := rfl
@[simp] theorem State.byte_setStorePort (i : Nat) (x : StoreX) (a : Nat) : (s.setStorePort i x).byte a = s.byte a := rfl
theorem State.port_setPort (i j : Nat) (x : MpX) : (s.setPort i x).port j = if j = i then x else s.port j := by
  simp only [State.port, State.setPort, KV.get_set]
@[simp] theorem State.port_setPort_self (i : Nat) (x : MpX) : (s.setPort i x).port i = x := by simp [State.port_setPort]
@[simp] theorem State.setPort_setPort (i : Nat) (x y : MpX) : (s.setPort i x).setPort i y = s.setPort i y := by simp [State.setPort]
@[simp] theorem State.setPort_wr (i : Nat) (x : MpX) (b : Nat) (f : Fld) (v : Nat) : (s.wr b f v).setPort i x = (s.setPort i x).wr b f v := rfl
@[simp] theorem State.rd_setPort (i : Nat) (x : MpX) (b : Nat) (f : Fld) : (s.setPort i x).rd b f = s.rd b f := rfl
@[simp] theorem State.byte_setPort (i : Nat) (x : MpX) (a : Nat) : (s.setPort i x).byte a = s.byte a := rfl
theorem State.sweep_setSweep (i j : Nat) (x : SweepX) : (s.setSweep i x).sweep j = if j = i then x else s.sweep j := by
  simp only [State.sweep, State.setSweep, KV.get_set]
@[simp] theorem State.sweep_setSweep_self (i : Nat) (x : SweepX) : (s.setSweep i x).sweep i = x := by simp [State.sweep_setSweep]
@[simp] theorem State.setSweep_setSweep (i : Nat) (x y : SweepX) : (s.setSweep i x).setSweep i y = s.setSweep i y := by simp [State.setSweep]
@[simp] theorem State.setSweep_wr (i : Nat) (x : SweepX) (b : Nat) (f : Fld) (v : Nat) : (s.wr b f v).setSweep i x = (s.setSweep i x).wr b f v := rfl
@[simp] theorem State.rd_setSweep (i : Nat) (x : SweepX) (b : Nat) (f : Fld) : (s.setSweep i x).rd b f = s.rd b f := rfl
@[simp] theorem State.byte_setSweep (i : Nat) (x : SweepX) (a : Nat) : (s.setSweep i x).byte a = s.byte a := rfl
theorem State.imeKey_setImeKey (i j : Nat) (x : (BitVec 256)) : (s.setImeKey i x).imeKey j = if j = i then x else s.imeKey j := by
  simp only [State.imeKey, State.setImeKey, KV.get_set]
@[simp] theorem State.imeKey_setImeKey_self (i : Nat) (x : (BitVec 256)) : (s.setImeKey i x).imeKey i = x := by simp [State.imeKey_setImeKey]
@[simp] theorem State.setImeKey_setImeKey (i : Nat) (x y : (BitVec 256)) : (s.setImeKey i x).setImeKey i y = s.setImeKey i y := by simp [State.setImeKey]
@[simp] theorem State.setImeKey_wr (i : Nat) (x : (BitVec 256)) (b : Nat) (f : Fld) (v : Nat) : (s.wr b f v).setImeKey i x = (s.setImeKey i x).wr b f v := rfl
@[simp] theorem State.rd_setImeKey (i : Nat) (x : (BitVec 256)) (b : Nat) (f : Fld) : (s.setImeKey i x).rd b f = s.rd b f := rfl
@[simp] theorem State.byte_setImeKey (i : Nat) (x : (BitVec 256)) (a : Nat) : (s.setImeKey i x).byte a = s.byte a := rfl
theorem State.imeOp_setImeOp (i j : Nat) (x : (Option ImeOp)) : (s.setImeOp i x).imeOp j = if j = i then x else s.imeOp j := by
  simp only [State.imeOp, State.setImeOp, KV.get_set]
@[simp] theorem State.imeOp_setImeOp_self (i : Nat) (x : (Option ImeOp)) : (s.setImeOp i x).imeOp i = x := by simp [State.imeOp_setImeOp]
@[simp] theorem State.setImeOp_setImeOp (i : Nat) (x y : (Option ImeOp)) : (s.setImeOp i x).setImeOp i y = s.setImeOp i y := by simp [State.setImeOp]
@[simp] theorem State.setImeOp_wr (i : Nat) (x : (Option ImeOp)) (b : Nat) (f : Fld) (v : Nat) : (s.wr b f v).setImeOp i x = (s.setImeOp i x).wr b f v := rfl
@[simp] theorem State.rd_setImeOp (i : Nat) (x : (Option ImeOp)) (b : Nat) (f : Fld) : (s.setImeOp i x).rd b f = s.rd b f := rfl
@[simp] theorem State.byte_setImeOp (i : Nat) (x : (Option ImeOp)) (a : Nat) : (s.setImeOp i x).byte a = s.byte a := rfl
theorem State.bundle_setBundle (i j : Nat) (x : BundleX) : (s.setBundle i x).bundle j = if j = i then x else s.bundle j := by
  simp only [State.bundle, State.setBundle, KV.get_set]
@[simp] theorem State.bundle_setBundle_self (i : Nat) (x : BundleX) : (s.setBundle i x).bundle i = x := by simp [State.bundle_setBundle]
@[simp] theorem State.setBundle_setBundle (i : Nat) (x y : BundleX) : (s.setBundle i x).setBundle i y = s.setBundle i y := by simp [State.setBundle]
@[simp] theorem State.setBundle_wr (i : Nat) (x : BundleX) (b : Nat) (f : Fld) (v : Nat) : (s.wr b f v).setBundle i x = (s.setBundle i x).wr b f v := rfl
@[simp] theorem State.rd_setBundle (i : Nat) (x : BundleX) (b : Nat) (f : Fld) : (s.setBundle i x).rd b f = s.rd b f := rfl
@[simp] theorem State.byte_setBundle (i : Nat) (x : BundleX) (a : Nat) : (s.setBundle i x).byte a = s.byte a := rfl
theorem State.crossBus_setCrossBus (i j : Nat) (x : Nat) : (s.setCrossBus i x).crossBus j = if j = i then x else s.crossBus j := by
  simp only [State.crossBus, State.setCrossBus, KV.get_set]
@[simp] theorem State.crossBus_setCrossBus_self (i : Nat) (x : Nat) : (s.setCrossBus i x).crossBus i = x := by simp [State.crossBus_setCrossBus]
@[simp] theorem State.setCrossBus_setCrossBus (i : Nat) (x y : Nat) : (s.setCrossBus i x).setCrossBus i y = s.setCrossBus i y := by simp [State.setCrossBus]
@[simp] theorem State.setCrossBus_wr (i : Nat) (x : Nat) (b : Nat) (f : Fld) (v : Nat) : (s.wr b f v).setCrossBus i x = (s.setCrossBus i x).wr b f v := rfl
@[simp] theorem State.rd_setCrossBus (i : Nat) (x : Nat) (b : Nat) (f : Fld) : (s.setCrossBus i x).rd b f = s.rd b f := rfl
@[simp] theorem State.byte_setCrossBus (i : Nat) (x : Nat) (a : Nat) : (s.setCrossBus i x).byte a = s.byte a := rfl
theorem State.crossPipe_setCrossPipe (i j : Nat) (x : List Nat) : (s.setCrossPipe i x).crossPipe j = if j = i then x else s.crossPipe j := by
  simp only [State.crossPipe, State.setCrossPipe, KV.get_set]
@[simp] theorem State.crossPipe_setCrossPipe_self (i : Nat) (x : List Nat) : (s.setCrossPipe i x).crossPipe i = x := by simp [State.crossPipe_setCrossPipe]
@[simp] theorem State.setCrossPipe_setCrossPipe (i : Nat) (x y : List Nat) : (s.setCrossPipe i x).setCrossPipe i y = s.setCrossPipe i y := by simp [State.setCrossPipe]
@[simp] theorem State.setCrossPipe_wr (i : Nat) (x : List Nat) (b : Nat) (f : Fld) (v : Nat) : (s.wr b f v).setCrossPipe i x = (s.setCrossPipe i x).wr b f v := rfl
@[simp] theorem State.rd_setCrossPipe (i : Nat) (x : List Nat) (b : Nat) (f : Fld) : (s.setCrossPipe i x).rd b f = s.rd b f := rfl
@[simp] theorem State.byte_setCrossPipe (i : Nat) (x : List Nat) (a : Nat) : (s.setCrossPipe i x).byte a = s.byte a := rfl
theorem State.lineReg_setLineReg (i j : Nat) (x : Nat) : (s.setLineReg i x).lineReg j = if j = i then x else s.lineReg j := by
  simp only [State.lineReg, State.setLineReg, KV.get_set]
@[simp] theorem State.lineReg_setLineReg_self (i : Nat) (x : Nat) : (s.setLineReg i x).lineReg i = x := by simp [State.lineReg_setLineReg]
@[simp] theorem State.setLineReg_setLineReg (i : Nat) (x y : Nat) : (s.setLineReg i x).setLineReg i y = s.setLineReg i y := by simp [State.setLineReg]
@[simp] theorem State.setLineReg_wr (i : Nat) (x : Nat) (b : Nat) (f : Fld) (v : Nat) : (s.wr b f v).setLineReg i x = (s.setLineReg i x).wr b f v := rfl
@[simp] theorem State.rd_setLineReg (i : Nat) (x : Nat) (b : Nat) (f : Fld) : (s.setLineReg i x).rd b f = s.rd b f := rfl
@[simp] theorem State.byte_setLineReg (i : Nat) (x : Nat) (a : Nat) : (s.setLineReg i x).byte a = s.byte a := rfl
theorem State.relayBit_setRelayBit (i j : Nat) (x : Nat) : (s.setRelayBit i x).relayBit j = if j = i then x else s.relayBit j := by
  simp only [State.relayBit, State.setRelayBit, KV.get_set]
@[simp] theorem State.relayBit_setRelayBit_self (i : Nat) (x : Nat) : (s.setRelayBit i x).relayBit i = x := by simp [State.relayBit_setRelayBit]
@[simp] theorem State.setRelayBit_setRelayBit (i : Nat) (x y : Nat) : (s.setRelayBit i x).setRelayBit i y = s.setRelayBit i y := by simp [State.setRelayBit]
@[simp] theorem State.setRelayBit_wr (i : Nat) (x : Nat) (b : Nat) (f : Fld) (v : Nat) : (s.wr b f v).setRelayBit i x = (s.setRelayBit i x).wr b f v := rfl
@[simp] theorem State.rd_setRelayBit (i : Nat) (x : Nat) (b : Nat) (f : Fld) : (s.setRelayBit i x).rd b f = s.rd b f := rfl
@[simp] theorem State.byte_setRelayBit (i : Nat) (x : Nat) (a : Nat) : (s.setRelayBit i x).byte a = s.byte a := rfl
theorem State.fcu_setFcu (i j : Nat) (x : FcuX) : (s.setFcu i x).fcu j = if j = i then x else s.fcu j := by
  simp only [State.fcu, State.setFcu, KV.get_set]
@[simp] theorem State.fcu_setFcu_self (i : Nat) (x : FcuX) : (s.setFcu i x).fcu i = x := by simp [State.fcu_setFcu]
@[simp] theorem State.setFcu_setFcu (i : Nat) (x y : FcuX) : (s.setFcu i x).setFcu i y = s.setFcu i y := by simp [State.setFcu]
@[simp] theorem State.setFcu_wr (i : Nat) (x : FcuX) (b : Nat) (f : Fld) (v : Nat) : (s.wr b f v).setFcu i x = (s.setFcu i x).wr b f v := rfl
@[simp] theorem State.rd_setFcu (i : Nat) (x : FcuX) (b : Nat) (f : Fld) : (s.setFcu i x).rd b f = s.rd b f := rfl
@[simp] theorem State.byte_setFcu (i : Nat) (x : FcuX) (a : Nat) : (s.setFcu i x).byte a = s.byte a := rfl
theorem State.fsx_setFsx (i j : Nat) (x : FsX) : (s.setFsx i x).fsx j = if j = i then x else s.fsx j := by
  simp only [State.fsx, State.setFsx, KV.get_set]
@[simp] theorem State.fsx_setFsx_self (i : Nat) (x : FsX) : (s.setFsx i x).fsx i = x := by simp [State.fsx_setFsx]
@[simp] theorem State.setFsx_setFsx (i : Nat) (x y : FsX) : (s.setFsx i x).setFsx i y = s.setFsx i y := by simp [State.setFsx]
@[simp] theorem State.setFsx_wr (i : Nat) (x : FsX) (b : Nat) (f : Fld) (v : Nat) : (s.wr b f v).setFsx i x = (s.setFsx i x).wr b f v := rfl
@[simp] theorem State.rd_setFsx (i : Nat) (x : FsX) (b : Nat) (f : Fld) : (s.setFsx i x).rd b f = s.rd b f := rfl
@[simp] theorem State.byte_setFsx (i : Nat) (x : FsX) (a : Nat) : (s.setFsx i x).byte a = s.byte a := rfl
theorem State.fcuTag_setFcuTag (i j : Nat) (x : Nat) : (s.setFcuTag i x).fcuTag j = if j = i then x else s.fcuTag j := by
  simp only [State.fcuTag, State.setFcuTag, KV.get_set]
@[simp] theorem State.fcuTag_setFcuTag_self (i : Nat) (x : Nat) : (s.setFcuTag i x).fcuTag i = x := by simp [State.fcuTag_setFcuTag]
@[simp] theorem State.setFcuTag_setFcuTag (i : Nat) (x y : Nat) : (s.setFcuTag i x).setFcuTag i y = s.setFcuTag i y := by simp [State.setFcuTag]
@[simp] theorem State.setFcuTag_wr (i : Nat) (x : Nat) (b : Nat) (f : Fld) (v : Nat) : (s.wr b f v).setFcuTag i x = (s.setFcuTag i x).wr b f v := rfl
@[simp] theorem State.rd_setFcuTag (i : Nat) (x : Nat) (b : Nat) (f : Fld) : (s.setFcuTag i x).rd b f = s.rd b f := rfl
@[simp] theorem State.byte_setFcuTag (i : Nat) (x : Nat) (a : Nat) : (s.setFcuTag i x).byte a = s.byte a := rfl
theorem State.rae_setRae (i j : Nat) (x : RaeX) : (s.setRae i x).rae j = if j = i then x else s.rae j := by
  simp only [State.rae, State.setRae, KV.get_set]
@[simp] theorem State.rae_setRae_self (i : Nat) (x : RaeX) : (s.setRae i x).rae i = x := by simp [State.rae_setRae]
@[simp] theorem State.setRae_setRae (i : Nat) (x y : RaeX) : (s.setRae i x).setRae i y = s.setRae i y := by simp [State.setRae]
@[simp] theorem State.setRae_wr (i : Nat) (x : RaeX) (b : Nat) (f : Fld) (v : Nat) : (s.wr b f v).setRae i x = (s.setRae i x).wr b f v := rfl
@[simp] theorem State.rd_setRae (i : Nat) (x : RaeX) (b : Nat) (f : Fld) : (s.setRae i x).rd b f = s.rd b f := rfl
@[simp] theorem State.byte_setRae (i : Nat) (x : RaeX) (a : Nat) : (s.setRae i x).byte a = s.byte a := rfl
theorem State.cell_setCell (i j : Nat) (x : CellX) : (s.setCell i x).cell j = if j = i then x else s.cell j := by
  simp only [State.cell, State.setCell, KV.get_set]
@[simp] theorem State.cell_setCell_self (i : Nat) (x : CellX) : (s.setCell i x).cell i = x := by simp [State.cell_setCell]
@[simp] theorem State.setCell_setCell (i : Nat) (x y : CellX) : (s.setCell i x).setCell i y = s.setCell i y := by simp [State.setCell]
@[simp] theorem State.setCell_wr (i : Nat) (x : CellX) (b : Nat) (f : Fld) (v : Nat) : (s.wr b f v).setCell i x = (s.setCell i x).wr b f v := rfl
@[simp] theorem State.rd_setCell (i : Nat) (x : CellX) (b : Nat) (f : Fld) : (s.setCell i x).rd b f = s.rd b f := rfl
@[simp] theorem State.byte_setCell (i : Nat) (x : CellX) (a : Nat) : (s.setCell i x).byte a = s.byte a := rfl
theorem State.region_setRegion (i j : Nat) (x : RegionX) : (s.setRegion i x).region j = if j = i then x else s.region j := by
  simp only [State.region, State.setRegion, KV.get_set]
@[simp] theorem State.region_setRegion_self (i : Nat) (x : RegionX) : (s.setRegion i x).region i = x := by simp [State.region_setRegion]
@[simp] theorem State.setRegion_setRegion (i : Nat) (x y : RegionX) : (s.setRegion i x).setRegion i y = s.setRegion i y := by simp [State.setRegion]
@[simp] theorem State.setRegion_wr (i : Nat) (x : RegionX) (b : Nat) (f : Fld) (v : Nat) : (s.wr b f v).setRegion i x = (s.setRegion i x).wr b f v := rfl
@[simp] theorem State.rd_setRegion (i : Nat) (x : RegionX) (b : Nat) (f : Fld) : (s.setRegion i x).rd b f = s.rd b f := rfl
@[simp] theorem State.byte_setRegion (i : Nat) (x : RegionX) (a : Nat) : (s.setRegion i x).byte a = s.byte a := rfl
theorem State.upset_setUpset (i j : Nat) (x : Nat) : (s.setUpset i x).upset j = if j = i then x else s.upset j := by
  simp only [State.upset, State.setUpset, KV.get_set]
@[simp] theorem State.upset_setUpset_self (i : Nat) (x : Nat) : (s.setUpset i x).upset i = x := by simp [State.upset_setUpset]
@[simp] theorem State.setUpset_setUpset (i : Nat) (x y : Nat) : (s.setUpset i x).setUpset i y = s.setUpset i y := by simp [State.setUpset]
@[simp] theorem State.setUpset_wr (i : Nat) (x : Nat) (b : Nat) (f : Fld) (v : Nat) : (s.wr b f v).setUpset i x = (s.setUpset i x).wr b f v := rfl
@[simp] theorem State.rd_setUpset (i : Nat) (x : Nat) (b : Nat) (f : Fld) : (s.setUpset i x).rd b f = s.rd b f := rfl
@[simp] theorem State.byte_setUpset (i : Nat) (x : Nat) (a : Nat) : (s.setUpset i x).byte a = s.byte a := rfl
theorem State.cfe_setCfe (i j : Nat) (x : CfeX) : (s.setCfe i x).cfe j = if j = i then x else s.cfe j := by
  simp only [State.cfe, State.setCfe, KV.get_set]
@[simp] theorem State.cfe_setCfe_self (i : Nat) (x : CfeX) : (s.setCfe i x).cfe i = x := by simp [State.cfe_setCfe]
@[simp] theorem State.setCfe_setCfe (i : Nat) (x y : CfeX) : (s.setCfe i x).setCfe i y = s.setCfe i y := by simp [State.setCfe]
@[simp] theorem State.setCfe_wr (i : Nat) (x : CfeX) (b : Nat) (f : Fld) (v : Nat) : (s.wr b f v).setCfe i x = (s.setCfe i x).wr b f v := rfl
@[simp] theorem State.rd_setCfe (i : Nat) (x : CfeX) (b : Nat) (f : Fld) : (s.setCfe i x).rd b f = s.rd b f := rfl
@[simp] theorem State.byte_setCfe (i : Nat) (x : CfeX) (a : Nat) : (s.setCfe i x).byte a = s.byte a := rfl
theorem State.chk_setChk (i j : Nat) (x : ChkX) : (s.setChk i x).chk j = if j = i then x else s.chk j := by
  simp only [State.chk, State.setChk, KV.get_set]
@[simp] theorem State.chk_setChk_self (i : Nat) (x : ChkX) : (s.setChk i x).chk i = x := by simp [State.chk_setChk]
@[simp] theorem State.setChk_setChk (i : Nat) (x y : ChkX) : (s.setChk i x).setChk i y = s.setChk i y := by simp [State.setChk]
@[simp] theorem State.setChk_wr (i : Nat) (x : ChkX) (b : Nat) (f : Fld) (v : Nat) : (s.wr b f v).setChk i x = (s.setChk i x).wr b f v := rfl
@[simp] theorem State.rd_setChk (i : Nat) (x : ChkX) (b : Nat) (f : Fld) : (s.setChk i x).rd b f = s.rd b f := rfl
@[simp] theorem State.byte_setChk (i : Nat) (x : ChkX) (a : Nat) : (s.setChk i x).byte a = s.byte a := rfl
theorem State.boot_setBoot (i j : Nat) (x : BootStage) : (s.setBoot i x).boot j = if j = i then x else s.boot j := by
  simp only [State.boot, State.setBoot, KV.get_set]
@[simp] theorem State.boot_setBoot_self (i : Nat) (x : BootStage) : (s.setBoot i x).boot i = x := by simp [State.boot_setBoot]
@[simp] theorem State.setBoot_setBoot (i : Nat) (x y : BootStage) : (s.setBoot i x).setBoot i y = s.setBoot i y := by simp [State.setBoot]
@[simp] theorem State.setBoot_wr (i : Nat) (x : BootStage) (b : Nat) (f : Fld) (v : Nat) : (s.wr b f v).setBoot i x = (s.setBoot i x).wr b f v := rfl
@[simp] theorem State.rd_setBoot (i : Nat) (x : BootStage) (b : Nat) (f : Fld) : (s.setBoot i x).rd b f = s.rd b f := rfl
@[simp] theorem State.byte_setBoot (i : Nat) (x : BootStage) (a : Nat) : (s.setBoot i x).byte a = s.byte a := rfl
theorem State.keyOf_setKeyOf (i j : Nat) (x : ((List (BitVec 8)))) : (s.setKeyOf i x).keyOf j = if j = i then x else s.keyOf j := by
  simp only [State.keyOf, State.setKeyOf, KV.get_set]
@[simp] theorem State.keyOf_setKeyOf_self (i : Nat) (x : ((List (BitVec 8)))) : (s.setKeyOf i x).keyOf i = x := by simp [State.keyOf_setKeyOf]
@[simp] theorem State.setKeyOf_setKeyOf (i : Nat) (x y : ((List (BitVec 8)))) : (s.setKeyOf i x).setKeyOf i y = s.setKeyOf i y := by simp [State.setKeyOf]
@[simp] theorem State.setKeyOf_wr (i : Nat) (x : ((List (BitVec 8)))) (b : Nat) (f : Fld) (v : Nat) : (s.wr b f v).setKeyOf i x = (s.setKeyOf i x).wr b f v := rfl
@[simp] theorem State.rd_setKeyOf (i : Nat) (x : ((List (BitVec 8)))) (b : Nat) (f : Fld) : (s.setKeyOf i x).rd b f = s.rd b f := rfl
@[simp] theorem State.byte_setKeyOf (i : Nat) (x : ((List (BitVec 8)))) (a : Nat) : (s.setKeyOf i x).byte a = s.byte a := rfl
theorem State.relayBuf_setRelayBuf (i j : Nat) (x : (List (BitVec 8))) : (s.setRelayBuf i x).relayBuf j = if j = i then x else s.relayBuf j := by
  simp only [State.relayBuf, State.setRelayBuf, KV.get_set]
@[simp] theorem State.relayBuf_setRelayBuf_self (i : Nat) (x : (List (BitVec 8))) : (s.setRelayBuf i x).relayBuf i = x := by simp [State.relayBuf_setRelayBuf]
@[simp] theorem State.setRelayBuf_setRelayBuf (i : Nat) (x y : (List (BitVec 8))) : (s.setRelayBuf i x).setRelayBuf i y = s.setRelayBuf i y := by simp [State.setRelayBuf]
@[simp] theorem State.setRelayBuf_wr (i : Nat) (x : (List (BitVec 8))) (b : Nat) (f : Fld) (v : Nat) : (s.wr b f v).setRelayBuf i x = (s.setRelayBuf i x).wr b f v := rfl
@[simp] theorem State.rd_setRelayBuf (i : Nat) (x : (List (BitVec 8))) (b : Nat) (f : Fld) : (s.setRelayBuf i x).rd b f = s.rd b f := rfl
@[simp] theorem State.byte_setRelayBuf (i : Nat) (x : (List (BitVec 8))) (a : Nat) : (s.setRelayBuf i x).byte a = s.byte a := rfl
theorem State.sett_setSett (i j : Nat) (x : SettX) : (s.setSett i x).sett j = if j = i then x else s.sett j := by
  simp only [State.sett, State.setSett, KV.get_set]
@[simp] theorem State.sett_setSett_self (i : Nat) (x : SettX) : (s.setSett i x).sett i = x := by simp [State.sett_setSett]
@[simp] theorem State.setSett_setSett (i : Nat) (x y : SettX) : (s.setSett i x).setSett i y = s.setSett i y := by simp [State.setSett]
@[simp] theorem State.setSett_wr (i : Nat) (x : SettX) (b : Nat) (f : Fld) (v : Nat) : (s.wr b f v).setSett i x = (s.setSett i x).wr b f v := rfl
@[simp] theorem State.rd_setSett (i : Nat) (x : SettX) (b : Nat) (f : Fld) : (s.setSett i x).rd b f = s.rd b f := rfl
@[simp] theorem State.byte_setSett (i : Nat) (x : SettX) (a : Nat) : (s.setSett i x).byte a = s.byte a := rfl
theorem State.opened_setOpened (i j : Nat) (x : Nat) : (s.setOpened i x).opened j = if j = i then x else s.opened j := by
  simp only [State.opened, State.setOpened, KV.get_set]
@[simp] theorem State.opened_setOpened_self (i : Nat) (x : Nat) : (s.setOpened i x).opened i = x := by simp [State.opened_setOpened]
@[simp] theorem State.setOpened_setOpened (i : Nat) (x y : Nat) : (s.setOpened i x).setOpened i y = s.setOpened i y := by simp [State.setOpened]
@[simp] theorem State.setOpened_wr (i : Nat) (x : Nat) (b : Nat) (f : Fld) (v : Nat) : (s.wr b f v).setOpened i x = (s.setOpened i x).wr b f v := rfl
@[simp] theorem State.rd_setOpened (i : Nat) (x : Nat) (b : Nat) (f : Fld) : (s.setOpened i x).rd b f = s.rd b f := rfl
@[simp] theorem State.byte_setOpened (i : Nat) (x : Nat) (a : Nat) : (s.setOpened i x).byte a = s.byte a := rfl
theorem State.sp_setSp (i j : Nat) (x : HartX) : (s.setSp i x).sp j = if j = i then x else s.sp j := by
  simp only [State.sp, State.setSp, KV.get_set]
@[simp] theorem State.sp_setSp_self (i : Nat) (x : HartX) : (s.setSp i x).sp i = x := by simp [State.sp_setSp]
@[simp] theorem State.setSp_setSp (i : Nat) (x y : HartX) : (s.setSp i x).setSp i y = s.setSp i y := by simp [State.setSp]
@[simp] theorem State.setSp_wr (i : Nat) (x : HartX) (b : Nat) (f : Fld) (v : Nat) : (s.wr b f v).setSp i x = (s.setSp i x).wr b f v := rfl
@[simp] theorem State.rd_setSp (i : Nat) (x : HartX) (b : Nat) (f : Fld) : (s.setSp i x).rd b f = s.rd b f := rfl
@[simp] theorem State.byte_setSp (i : Nat) (x : HartX) (a : Nat) : (s.setSp i x).byte a = s.byte a := rfl
theorem State.owl_setOwl (i j : Nat) (x : HartX) : (s.setOwl i x).owl j = if j = i then x else s.owl j := by
  simp only [State.owl, State.setOwl, KV.get_set]
@[simp] theorem State.owl_setOwl_self (i : Nat) (x : HartX) : (s.setOwl i x).owl i = x := by simp [State.owl_setOwl]
@[simp] theorem State.setOwl_setOwl (i : Nat) (x y : HartX) : (s.setOwl i x).setOwl i y = s.setOwl i y := by simp [State.setOwl]
@[simp] theorem State.setOwl_wr (i : Nat) (x : HartX) (b : Nat) (f : Fld) (v : Nat) : (s.wr b f v).setOwl i x = (s.setOwl i x).wr b f v := rfl
@[simp] theorem State.rd_setOwl (i : Nat) (x : HartX) (b : Nat) (f : Fld) : (s.setOwl i x).rd b f = s.rd b f := rfl
@[simp] theorem State.byte_setOwl (i : Nat) (x : HartX) (a : Nat) : (s.setOwl i x).byte a = s.byte a := rfl
theorem State.sac_setSac (i j : Nat) (x : SacX) : (s.setSac i x).sac j = if j = i then x else s.sac j := by
  simp only [State.sac, State.setSac, KV.get_set]
@[simp] theorem State.sac_setSac_self (i : Nat) (x : SacX) : (s.setSac i x).sac i = x := by simp [State.sac_setSac]
@[simp] theorem State.setSac_setSac (i : Nat) (x y : SacX) : (s.setSac i x).setSac i y = s.setSac i y := by simp [State.setSac]
@[simp] theorem State.setSac_wr (i : Nat) (x : SacX) (b : Nat) (f : Fld) (v : Nat) : (s.wr b f v).setSac i x = (s.setSac i x).wr b f v := rfl
@[simp] theorem State.rd_setSac (i : Nat) (x : SacX) (b : Nat) (f : Fld) : (s.setSac i x).rd b f = s.rd b f := rfl
@[simp] theorem State.byte_setSac (i : Nat) (x : SacX) (a : Nat) : (s.setSac i x).byte a = s.byte a := rfl
theorem State.svp_setSvp (i j : Nat) (x : SvpX) : (s.setSvp i x).svp j = if j = i then x else s.svp j := by
  simp only [State.svp, State.setSvp, KV.get_set]
@[simp] theorem State.svp_setSvp_self (i : Nat) (x : SvpX) : (s.setSvp i x).svp i = x := by simp [State.svp_setSvp]
@[simp] theorem State.setSvp_setSvp (i : Nat) (x y : SvpX) : (s.setSvp i x).setSvp i y = s.setSvp i y := by simp [State.setSvp]
@[simp] theorem State.setSvp_wr (i : Nat) (x : SvpX) (b : Nat) (f : Fld) (v : Nat) : (s.wr b f v).setSvp i x = (s.setSvp i x).wr b f v := rfl
@[simp] theorem State.rd_setSvp (i : Nat) (x : SvpX) (b : Nat) (f : Fld) : (s.setSvp i x).rd b f = s.rd b f := rfl
@[simp] theorem State.byte_setSvp (i : Nat) (x : SvpX) (a : Nat) : (s.setSvp i x).byte a = s.byte a := rfl
theorem State.boost_setBoost (i j : Nat) (x : Bool) : (s.setBoost i x).boost j = if j = i then x else s.boost j := by
  simp only [State.boost, State.setBoost, KV.get_set]
@[simp] theorem State.boost_setBoost_self (i : Nat) (x : Bool) : (s.setBoost i x).boost i = x := by simp [State.boost_setBoost]
@[simp] theorem State.setBoost_setBoost (i : Nat) (x y : Bool) : (s.setBoost i x).setBoost i y = s.setBoost i y := by simp [State.setBoost]
@[simp] theorem State.setBoost_wr (i : Nat) (x : Bool) (b : Nat) (f : Fld) (v : Nat) : (s.wr b f v).setBoost i x = (s.setBoost i x).wr b f v := rfl
@[simp] theorem State.rd_setBoost (i : Nat) (x : Bool) (b : Nat) (f : Fld) : (s.setBoost i x).rd b f = s.rd b f := rfl
@[simp] theorem State.byte_setBoost (i : Nat) (x : Bool) (a : Nat) : (s.setBoost i x).byte a = s.byte a := rfl
theorem State.wdog_setWdog (i j : Nat) (x : Nat) : (s.setWdog i x).wdog j = if j = i then x else s.wdog j := by
  simp only [State.wdog, State.setWdog, KV.get_set]
@[simp] theorem State.wdog_setWdog_self (i : Nat) (x : Nat) : (s.setWdog i x).wdog i = x := by simp [State.wdog_setWdog]
@[simp] theorem State.setWdog_setWdog (i : Nat) (x y : Nat) : (s.setWdog i x).setWdog i y = s.setWdog i y := by simp [State.setWdog]
@[simp] theorem State.setWdog_wr (i : Nat) (x : Nat) (b : Nat) (f : Fld) (v : Nat) : (s.wr b f v).setWdog i x = (s.setWdog i x).wr b f v := rfl
@[simp] theorem State.rd_setWdog (i : Nat) (x : Nat) (b : Nat) (f : Fld) : (s.setWdog i x).rd b f = s.rd b f := rfl
@[simp] theorem State.byte_setWdog (i : Nat) (x : Nat) (a : Nat) : (s.setWdog i x).byte a = s.byte a := rfl
theorem State.gsl_setGsl (i j : Nat) (x : GslX) : (s.setGsl i x).gsl j = if j = i then x else s.gsl j := by
  simp only [State.gsl, State.setGsl, KV.get_set]
@[simp] theorem State.gsl_setGsl_self (i : Nat) (x : GslX) : (s.setGsl i x).gsl i = x := by simp [State.gsl_setGsl]
@[simp] theorem State.setGsl_setGsl (i : Nat) (x y : GslX) : (s.setGsl i x).setGsl i y = s.setGsl i y := by simp [State.setGsl]
@[simp] theorem State.setGsl_wr (i : Nat) (x : GslX) (b : Nat) (f : Fld) (v : Nat) : (s.wr b f v).setGsl i x = (s.setGsl i x).wr b f v := rfl
@[simp] theorem State.rd_setGsl (i : Nat) (x : GslX) (b : Nat) (f : Fld) : (s.setGsl i x).rd b f = s.rd b f := rfl
@[simp] theorem State.byte_setGsl (i : Nat) (x : GslX) (a : Nat) : (s.setGsl i x).byte a = s.byte a := rfl
theorem State.route_setRoute (i j : Nat) (x : RouteMode) : (s.setRoute i x).route j = if j = i then x else s.route j := by
  simp only [State.route, State.setRoute, KV.get_set]
@[simp] theorem State.route_setRoute_self (i : Nat) (x : RouteMode) : (s.setRoute i x).route i = x := by simp [State.route_setRoute]
@[simp] theorem State.setRoute_setRoute (i : Nat) (x y : RouteMode) : (s.setRoute i x).setRoute i y = s.setRoute i y := by simp [State.setRoute]
@[simp] theorem State.setRoute_wr (i : Nat) (x : RouteMode) (b : Nat) (f : Fld) (v : Nat) : (s.wr b f v).setRoute i x = (s.setRoute i x).wr b f v := rfl
@[simp] theorem State.rd_setRoute (i : Nat) (x : RouteMode) (b : Nat) (f : Fld) : (s.setRoute i x).rd b f = s.rd b f := rfl
@[simp] theorem State.byte_setRoute (i : Nat) (x : RouteMode) (a : Nat) : (s.setRoute i x).byte a = s.byte a := rfl
theorem State.dma_setDma (i j : Nat) (x : DmaX) : (s.setDma i x).dma j = if j = i then x else s.dma j := by
  simp only [State.dma, State.setDma, KV.get_set]
@[simp] theorem State.dma_setDma_self (i : Nat) (x : DmaX) : (s.setDma i x).dma i = x := by simp [State.dma_setDma]
@[simp] theorem State.setDma_setDma (i : Nat) (x y : DmaX) : (s.setDma i x).setDma i y = s.setDma i y := by simp [State.setDma]
@[simp] theorem State.setDma_wr (i : Nat) (x : DmaX) (b : Nat) (f : Fld) (v : Nat) : (s.wr b f v).setDma i x = (s.setDma i x).wr b f v := rfl
@[simp] theorem State.rd_setDma (i : Nat) (x : DmaX) (b : Nat) (f : Fld) : (s.setDma i x).rd b f = s.rd b f := rfl
@[simp] theorem State.byte_setDma (i : Nat) (x : DmaX) (a : Nat) : (s.setDma i x).byte a = s.byte a := rfl
theorem State.shut_setShut (i j : Nat) (x : Bool) : (s.setShut i x).shut j = if j = i then x else s.shut j := by
  simp only [State.shut, State.setShut, KV.get_set]
@[simp] theorem State.shut_setShut_self (i : Nat) (x : Bool) : (s.setShut i x).shut i = x := by simp [State.shut_setShut]
@[simp] theorem State.setShut_setShut (i : Nat) (x y : Bool) : (s.setShut i x).setShut i y = s.setShut i y := by simp [State.setShut]
@[simp] theorem State.setShut_wr (i : Nat) (x : Bool) (b : Nat) (f : Fld) (v : Nat) : (s.wr b f v).setShut i x = (s.setShut i x).wr b f v := rfl
@[simp] theorem State.rd_setShut (i : Nat) (x : Bool) (b : Nat) (f : Fld) : (s.setShut i x).rd b f = s.rd b f := rfl
@[simp] theorem State.byte_setShut (i : Nat) (x : Bool) (a : Nat) : (s.setShut i x).byte a = s.byte a := rfl
theorem State.drain_setDrain (i j : Nat) (x : (List Nat)) : (s.setDrain i x).drain j = if j = i then x else s.drain j := by
  simp only [State.drain, State.setDrain, KV.get_set]
@[simp] theorem State.drain_setDrain_self (i : Nat) (x : (List Nat)) : (s.setDrain i x).drain i = x := by simp [State.drain_setDrain]
@[simp] theorem State.setDrain_setDrain (i : Nat) (x y : (List Nat)) : (s.setDrain i x).setDrain i y = s.setDrain i y := by simp [State.setDrain]
@[simp] theorem State.setDrain_wr (i : Nat) (x : (List Nat)) (b : Nat) (f : Fld) (v : Nat) : (s.wr b f v).setDrain i x = (s.setDrain i x).wr b f v := rfl
@[simp] theorem State.rd_setDrain (i : Nat) (x : (List Nat)) (b : Nat) (f : Fld) : (s.setDrain i x).rd b f = s.rd b f := rfl
@[simp] theorem State.byte_setDrain (i : Nat) (x : (List Nat)) (a : Nat) : (s.setDrain i x).byte a = s.byte a := rfl
theorem State.bmReq_setBmReq (i j : Nat) (x : (Option (Option Sys2Proof.MemReq))) : (s.setBmReq i x).bmReq j = if j = i then x else s.bmReq j := by
  simp only [State.bmReq, State.setBmReq, KV.get_set]
@[simp] theorem State.bmReq_setBmReq_self (i : Nat) (x : (Option (Option Sys2Proof.MemReq))) : (s.setBmReq i x).bmReq i = x := by simp [State.bmReq_setBmReq]
@[simp] theorem State.setBmReq_setBmReq (i : Nat) (x y : (Option (Option Sys2Proof.MemReq))) : (s.setBmReq i x).setBmReq i y = s.setBmReq i y := by simp [State.setBmReq]
@[simp] theorem State.setBmReq_wr (i : Nat) (x : (Option (Option Sys2Proof.MemReq))) (b : Nat) (f : Fld) (v : Nat) : (s.wr b f v).setBmReq i x = (s.setBmReq i x).wr b f v := rfl
@[simp] theorem State.rd_setBmReq (i : Nat) (x : (Option (Option Sys2Proof.MemReq))) (b : Nat) (f : Fld) : (s.setBmReq i x).rd b f = s.rd b f := rfl
@[simp] theorem State.byte_setBmReq (i : Nat) (x : (Option (Option Sys2Proof.MemReq))) (a : Nat) : (s.setBmReq i x).byte a = s.byte a := rfl

/-! ## Every other field, by update -/

@[simp] theorem State.rd_putByte (a : Nat) (x : Byte) (b : Nat) (f : Fld) : (s.putByte a x).rd b f = s.rd b f := rfl
@[simp] theorem State.byte_wr (b : Nat) (f : Fld) (v a : Nat) : (s.wr b f v).byte a = s.byte a := rfl
@[simp] theorem State.wr_stg (b : Nat) (f : Fld) (v : Nat) : (s.wr b f v).stg = s.stg := rfl
@[simp] theorem State.wr_mem (b : Nat) (f : Fld) (v : Nat) : (s.wr b f v).mem = s.mem := rfl
@[simp] theorem State.wr_wordOk (b : Nat) (f : Fld) (v : Nat) : (s.wr b f v).wordOk = s.wordOk := rfl
@[simp] theorem State.wr_wordChk (b : Nat) (f : Fld) (v : Nat) : (s.wr b f v).wordChk = s.wordChk := rfl
@[simp] theorem State.wr_lineChk (b : Nat) (f : Fld) (v : Nat) : (s.wr b f v).lineChk = s.lineChk := rfl
@[simp] theorem State.wr_linePsn (b : Nat) (f : Fld) (v : Nat) : (s.wr b f v).linePsn = s.linePsn := rfl
@[simp] theorem State.wr_pages (b : Nat) (f : Fld) (v : Nat) : (s.wr b f v).pages = s.pages := rfl
@[simp] theorem State.wr_por (b : Nat) (f : Fld) (v : Nat) : (s.wr b f v).por = s.por := rfl
@[simp] theorem State.wr_now (b : Nat) (f : Fld) (v : Nat) : (s.wr b f v).now = s.now := rfl
@[simp] theorem State.wr_fresh (b : Nat) (f : Fld) (v : Nat) : (s.wr b f v).fresh = s.fresh := rfl
@[simp] theorem State.wr_msix (b : Nat) (f : Fld) (v : Nat) : (s.wr b f v).msix = s.msix := rfl
@[simp] theorem State.wr_pins (b : Nat) (f : Fld) (v : Nat) : (s.wr b f v).pins = s.pins := rfl
@[simp] theorem State.wr_banks (b : Nat) (f : Fld) (v : Nat) : (s.wr b f v).banks = s.banks := rfl
@[simp] theorem State.wr_fails (b : Nat) (f : Fld) (v : Nat) : (s.wr b f v).fails = s.fails := rfl
@[simp] theorem State.wr_pmus (b : Nat) (f : Fld) (v : Nat) : (s.wr b f v).pmus = s.pmus := rfl
@[simp] theorem State.wr_guests (b : Nat) (f : Fld) (v : Nat) : (s.wr b f v).guests = s.guests := rfl
@[simp] theorem State.wr_arps (b : Nat) (f : Fld) (v : Nat) : (s.wr b f v).arps = s.arps := rfl
@[simp] theorem State.wr_psqs (b : Nat) (f : Fld) (v : Nat) : (s.wr b f v).psqs = s.psqs := rfl
@[simp] theorem State.wr_stops (b : Nat) (f : Fld) (v : Nat) : (s.wr b f v).stops = s.stops := rfl
@[simp] theorem State.wr_stopOut (b : Nat) (f : Fld) (v : Nat) : (s.wr b f v).stopOut = s.stopOut := rfl
@[simp] theorem State.wr_trigs (b : Nat) (f : Fld) (v : Nat) : (s.wr b f v).trigs = s.trigs := rfl
@[simp] theorem State.wr_ptb (b : Nat) (f : Fld) (v : Nat) : (s.wr b f v).ptb = s.ptb := rfl
@[simp] theorem State.wr_ptbRun (b : Nat) (f : Fld) (v : Nat) : (s.wr b f v).ptbRun = s.ptbRun := rfl
@[simp] theorem State.wr_sync (b : Nat) (f : Fld) (v : Nat) : (s.wr b f v).sync = s.sync := rfl
@[simp] theorem State.wr_ptbOut (b : Nat) (f : Fld) (v : Nat) : (s.wr b f v).ptbOut = s.ptbOut := rfl
@[simp] theorem State.wr_fhs (b : Nat) (f : Fld) (v : Nat) : (s.wr b f v).fhs = s.fhs := rfl
@[simp] theorem State.wr_safe (b : Nat) (f : Fld) (v : Nat) : (s.wr b f v).safe = s.safe := rfl
@[simp] theorem State.wr_held (b : Nat) (f : Fld) (v : Nat) : (s.wr b f v).held = s.held := rfl
@[simp] theorem State.wr_domStops (b : Nat) (f : Fld) (v : Nat) : (s.wr b f v).domStops = s.domStops := rfl
@[simp] theorem State.wr_cmps (b : Nat) (f : Fld) (v : Nat) : (s.wr b f v).cmps = s.cmps := rfl
@[simp] theorem State.wr_flights (b : Nat) (f : Fld) (v : Nat) : (s.wr b f v).flights = s.flights := rfl
@[simp] theorem State.wr_nocNext (b : Nat) (f : Fld) (v : Nat) : (s.wr b f v).nocNext = s.nocNext := rfl
@[simp] theorem State.wr_nocLast (b : Nat) (f : Fld) (v : Nat) : (s.wr b f v).nocLast = s.nocLast := rfl
@[simp] theorem State.wr_storePorts (b : Nat) (f : Fld) (v : Nat) : (s.wr b f v).storePorts = s.storePorts := rfl
@[simp] theorem State.wr_ports (b : Nat) (f : Fld) (v : Nat) : (s.wr b f v).ports = s.ports := rfl
@[simp] theorem State.wr_sweeps (b : Nat) (f : Fld) (v : Nat) : (s.wr b f v).sweeps = s.sweeps := rfl
@[simp] theorem State.wr_imeOps (b : Nat) (f : Fld) (v : Nat) : (s.wr b f v).imeOps = s.imeOps := rfl
@[simp] theorem State.wr_panics (b : Nat) (f : Fld) (v : Nat) : (s.wr b f v).panics = s.panics := rfl
@[simp] theorem State.wr_imeKeys (b : Nat) (f : Fld) (v : Nat) : (s.wr b f v).imeKeys = s.imeKeys := rfl
@[simp] theorem State.wr_bundles (b : Nat) (f : Fld) (v : Nat) : (s.wr b f v).bundles = s.bundles := rfl
@[simp] theorem State.wr_laneRecDue (b : Nat) (f : Fld) (v : Nat) : (s.wr b f v).laneRecDue = s.laneRecDue := rfl
@[simp] theorem State.wr_crossPipes (b : Nat) (f : Fld) (v : Nat) : (s.wr b f v).crossPipes = s.crossPipes := rfl
@[simp] theorem State.wr_lineRegs (b : Nat) (f : Fld) (v : Nat) : (s.wr b f v).lineRegs = s.lineRegs := rfl
@[simp] theorem State.wr_crossBuses (b : Nat) (f : Fld) (v : Nat) : (s.wr b f v).crossBuses = s.crossBuses := rfl
@[simp] theorem State.wr_relayBits (b : Nat) (f : Fld) (v : Nat) : (s.wr b f v).relayBits = s.relayBits := rfl
@[simp] theorem State.wr_ptbAbsent (b : Nat) (f : Fld) (v : Nat) : (s.wr b f v).ptbAbsent = s.ptbAbsent := rfl
@[simp] theorem State.wr_fcus (b : Nat) (f : Fld) (v : Nat) : (s.wr b f v).fcus = s.fcus := rfl
@[simp] theorem State.wr_fcuSites (b : Nat) (f : Fld) (v : Nat) : (s.wr b f v).fcuSites = s.fcuSites := rfl
@[simp] theorem State.wr_fcuTags (b : Nat) (f : Fld) (v : Nat) : (s.wr b f v).fcuTags = s.fcuTags := rfl
@[simp] theorem State.wr_raes (b : Nat) (f : Fld) (v : Nat) : (s.wr b f v).raes = s.raes := rfl
@[simp] theorem State.wr_cells (b : Nat) (f : Fld) (v : Nat) : (s.wr b f v).cells = s.cells := rfl
@[simp] theorem State.wr_regionXs (b : Nat) (f : Fld) (v : Nat) : (s.wr b f v).regionXs = s.regionXs := rfl
@[simp] theorem State.wr_upsets (b : Nat) (f : Fld) (v : Nat) : (s.wr b f v).upsets = s.upsets := rfl
@[simp] theorem State.wr_cfes (b : Nat) (f : Fld) (v : Nat) : (s.wr b f v).cfes = s.cfes := rfl
@[simp] theorem State.wr_chks (b : Nat) (f : Fld) (v : Nat) : (s.wr b f v).chks = s.chks := rfl
@[simp] theorem State.wr_boots (b : Nat) (f : Fld) (v : Nat) : (s.wr b f v).boots = s.boots := rfl
@[simp] theorem State.wr_keys (b : Nat) (f : Fld) (v : Nat) : (s.wr b f v).keys = s.keys := rfl
@[simp] theorem State.wr_relayAnswers (b : Nat) (f : Fld) (v : Nat) : (s.wr b f v).relayAnswers = s.relayAnswers := rfl
@[simp] theorem State.wr_relayBufs (b : Nat) (f : Fld) (v : Nat) : (s.wr b f v).relayBufs = s.relayBufs := rfl
@[simp] theorem State.wr_relayOut (b : Nat) (f : Fld) (v : Nat) : (s.wr b f v).relayOut = s.relayOut := rfl
@[simp] theorem State.wr_setts (b : Nat) (f : Fld) (v : Nat) : (s.wr b f v).setts = s.setts := rfl
@[simp] theorem State.wr_stc (b : Nat) (f : Fld) (v : Nat) : (s.wr b f v).stc = s.stc := rfl
@[simp] theorem State.wr_confirmAt (b : Nat) (f : Fld) (v : Nat) : (s.wr b f v).confirmAt = s.confirmAt := rfl
@[simp] theorem State.wr_sps (b : Nat) (f : Fld) (v : Nat) : (s.wr b f v).sps = s.sps := rfl
@[simp] theorem State.wr_owls (b : Nat) (f : Fld) (v : Nat) : (s.wr b f v).owls = s.owls := rfl
@[simp] theorem State.wr_sacs (b : Nat) (f : Fld) (v : Nat) : (s.wr b f v).sacs = s.sacs := rfl
@[simp] theorem State.wr_svps (b : Nat) (f : Fld) (v : Nat) : (s.wr b f v).svps = s.svps := rfl
@[simp] theorem State.wr_tap (b : Nat) (f : Fld) (v : Nat) : (s.wr b f v).tap = s.tap := rfl
@[simp] theorem State.wr_boosts (b : Nat) (f : Fld) (v : Nat) : (s.wr b f v).boosts = s.boosts := rfl
@[simp] theorem State.wr_wdogs (b : Nat) (f : Fld) (v : Nat) : (s.wr b f v).wdogs = s.wdogs := rfl
@[simp] theorem State.wr_gsls (b : Nat) (f : Fld) (v : Nat) : (s.wr b f v).gsls = s.gsls := rfl
@[simp] theorem State.wr_routes (b : Nat) (f : Fld) (v : Nat) : (s.wr b f v).routes = s.routes := rfl
@[simp] theorem State.wr_stopSeen (b : Nat) (f : Fld) (v : Nat) : (s.wr b f v).stopSeen = s.stopSeen := rfl
@[simp] theorem State.wr_dmas (b : Nat) (f : Fld) (v : Nat) : (s.wr b f v).dmas = s.dmas := rfl
@[simp] theorem State.wr_host (b : Nat) (f : Fld) (v : Nat) : (s.wr b f v).host = s.host := rfl
@[simp] theorem State.wr_hib (b : Nat) (f : Fld) (v : Nat) : (s.wr b f v).hib = s.hib := rfl
@[simp] theorem State.wr_cdcShut (b : Nat) (f : Fld) (v : Nat) : (s.wr b f v).cdcShut = s.cdcShut := rfl
@[simp] theorem State.wr_drains (b : Nat) (f : Fld) (v : Nat) : (s.wr b f v).drains = s.drains := rfl
@[simp] theorem State.wr_bmReqs (b : Nat) (f : Fld) (v : Nat) : (s.wr b f v).bmReqs = s.bmReqs := rfl
@[simp] theorem State.wr_pending (b : Nat) (f : Fld) (v : Nat) : (s.wr b f v).pending = s.pending := rfl
@[simp] theorem State.stage_act (b : Nat) (f : Fld) (v : Nat) : (s.stage b f v).act = s.act := rfl
@[simp] theorem State.stage_mem (b : Nat) (f : Fld) (v : Nat) : (s.stage b f v).mem = s.mem := rfl
@[simp] theorem State.stage_wordOk (b : Nat) (f : Fld) (v : Nat) : (s.stage b f v).wordOk = s.wordOk := rfl
@[simp] theorem State.stage_wordChk (b : Nat) (f : Fld) (v : Nat) : (s.stage b f v).wordChk = s.wordChk := rfl
@[simp] theorem State.stage_lineChk (b : Nat) (f : Fld) (v : Nat) : (s.stage b f v).lineChk = s.lineChk := rfl
@[simp] theorem State.stage_linePsn (b : Nat) (f : Fld) (v : Nat) : (s.stage b f v).linePsn = s.linePsn := rfl
@[simp] theorem State.stage_pages (b : Nat) (f : Fld) (v : Nat) : (s.stage b f v).pages = s.pages := rfl
@[simp] theorem State.stage_por (b : Nat) (f : Fld) (v : Nat) : (s.stage b f v).por = s.por := rfl
@[simp] theorem State.stage_now (b : Nat) (f : Fld) (v : Nat) : (s.stage b f v).now = s.now := rfl
@[simp] theorem State.stage_fresh (b : Nat) (f : Fld) (v : Nat) : (s.stage b f v).fresh = s.fresh := rfl
@[simp] theorem State.stage_msix (b : Nat) (f : Fld) (v : Nat) : (s.stage b f v).msix = s.msix := rfl
@[simp] theorem State.stage_pins (b : Nat) (f : Fld) (v : Nat) : (s.stage b f v).pins = s.pins := rfl
@[simp] theorem State.stage_banks (b : Nat) (f : Fld) (v : Nat) : (s.stage b f v).banks = s.banks := rfl
@[simp] theorem State.stage_fails (b : Nat) (f : Fld) (v : Nat) : (s.stage b f v).fails = s.fails := rfl
@[simp] theorem State.stage_pmus (b : Nat) (f : Fld) (v : Nat) : (s.stage b f v).pmus = s.pmus := rfl
@[simp] theorem State.stage_guests (b : Nat) (f : Fld) (v : Nat) : (s.stage b f v).guests = s.guests := rfl
@[simp] theorem State.stage_arps (b : Nat) (f : Fld) (v : Nat) : (s.stage b f v).arps = s.arps := rfl
@[simp] theorem State.stage_psqs (b : Nat) (f : Fld) (v : Nat) : (s.stage b f v).psqs = s.psqs := rfl
@[simp] theorem State.stage_stops (b : Nat) (f : Fld) (v : Nat) : (s.stage b f v).stops = s.stops := rfl
@[simp] theorem State.stage_stopOut (b : Nat) (f : Fld) (v : Nat) : (s.stage b f v).stopOut = s.stopOut := rfl
@[simp] theorem State.stage_trigs (b : Nat) (f : Fld) (v : Nat) : (s.stage b f v).trigs = s.trigs := rfl
@[simp] theorem State.stage_ptb (b : Nat) (f : Fld) (v : Nat) : (s.stage b f v).ptb = s.ptb := rfl
@[simp] theorem State.stage_ptbRun (b : Nat) (f : Fld) (v : Nat) : (s.stage b f v).ptbRun = s.ptbRun := rfl
@[simp] theorem State.stage_sync (b : Nat) (f : Fld) (v : Nat) : (s.stage b f v).sync = s.sync := rfl
@[simp] theorem State.stage_ptbOut (b : Nat) (f : Fld) (v : Nat) : (s.stage b f v).ptbOut = s.ptbOut := rfl
@[simp] theorem State.stage_fhs (b : Nat) (f : Fld) (v : Nat) : (s.stage b f v).fhs = s.fhs := rfl
@[simp] theorem State.stage_safe (b : Nat) (f : Fld) (v : Nat) : (s.stage b f v).safe = s.safe := rfl
@[simp] theorem State.stage_held (b : Nat) (f : Fld) (v : Nat) : (s.stage b f v).held = s.held := rfl
@[simp] theorem State.stage_domStops (b : Nat) (f : Fld) (v : Nat) : (s.stage b f v).domStops = s.domStops := rfl
@[simp] theorem State.stage_cmps (b : Nat) (f : Fld) (v : Nat) : (s.stage b f v).cmps = s.cmps := rfl
@[simp] theorem State.stage_flights (b : Nat) (f : Fld) (v : Nat) : (s.stage b f v).flights = s.flights := rfl
@[simp] theorem State.stage_nocNext (b : Nat) (f : Fld) (v : Nat) : (s.stage b f v).nocNext = s.nocNext := rfl
@[simp] theorem State.stage_nocLast (b : Nat) (f : Fld) (v : Nat) : (s.stage b f v).nocLast = s.nocLast := rfl
@[simp] theorem State.stage_storePorts (b : Nat) (f : Fld) (v : Nat) : (s.stage b f v).storePorts = s.storePorts := rfl
@[simp] theorem State.stage_ports (b : Nat) (f : Fld) (v : Nat) : (s.stage b f v).ports = s.ports := rfl
@[simp] theorem State.stage_sweeps (b : Nat) (f : Fld) (v : Nat) : (s.stage b f v).sweeps = s.sweeps := rfl
@[simp] theorem State.stage_imeOps (b : Nat) (f : Fld) (v : Nat) : (s.stage b f v).imeOps = s.imeOps := rfl
@[simp] theorem State.stage_panics (b : Nat) (f : Fld) (v : Nat) : (s.stage b f v).panics = s.panics := rfl
@[simp] theorem State.stage_imeKeys (b : Nat) (f : Fld) (v : Nat) : (s.stage b f v).imeKeys = s.imeKeys := rfl
@[simp] theorem State.stage_bundles (b : Nat) (f : Fld) (v : Nat) : (s.stage b f v).bundles = s.bundles := rfl
@[simp] theorem State.stage_laneRecDue (b : Nat) (f : Fld) (v : Nat) : (s.stage b f v).laneRecDue = s.laneRecDue := rfl
@[simp] theorem State.stage_crossPipes (b : Nat) (f : Fld) (v : Nat) : (s.stage b f v).crossPipes = s.crossPipes := rfl
@[simp] theorem State.stage_lineRegs (b : Nat) (f : Fld) (v : Nat) : (s.stage b f v).lineRegs = s.lineRegs := rfl
@[simp] theorem State.stage_crossBuses (b : Nat) (f : Fld) (v : Nat) : (s.stage b f v).crossBuses = s.crossBuses := rfl
@[simp] theorem State.stage_relayBits (b : Nat) (f : Fld) (v : Nat) : (s.stage b f v).relayBits = s.relayBits := rfl
@[simp] theorem State.stage_ptbAbsent (b : Nat) (f : Fld) (v : Nat) : (s.stage b f v).ptbAbsent = s.ptbAbsent := rfl
@[simp] theorem State.stage_fcus (b : Nat) (f : Fld) (v : Nat) : (s.stage b f v).fcus = s.fcus := rfl
@[simp] theorem State.stage_fcuSites (b : Nat) (f : Fld) (v : Nat) : (s.stage b f v).fcuSites = s.fcuSites := rfl
@[simp] theorem State.stage_fcuTags (b : Nat) (f : Fld) (v : Nat) : (s.stage b f v).fcuTags = s.fcuTags := rfl
@[simp] theorem State.stage_raes (b : Nat) (f : Fld) (v : Nat) : (s.stage b f v).raes = s.raes := rfl
@[simp] theorem State.stage_cells (b : Nat) (f : Fld) (v : Nat) : (s.stage b f v).cells = s.cells := rfl
@[simp] theorem State.stage_regionXs (b : Nat) (f : Fld) (v : Nat) : (s.stage b f v).regionXs = s.regionXs := rfl
@[simp] theorem State.stage_upsets (b : Nat) (f : Fld) (v : Nat) : (s.stage b f v).upsets = s.upsets := rfl
@[simp] theorem State.stage_cfes (b : Nat) (f : Fld) (v : Nat) : (s.stage b f v).cfes = s.cfes := rfl
@[simp] theorem State.stage_chks (b : Nat) (f : Fld) (v : Nat) : (s.stage b f v).chks = s.chks := rfl
@[simp] theorem State.stage_boots (b : Nat) (f : Fld) (v : Nat) : (s.stage b f v).boots = s.boots := rfl
@[simp] theorem State.stage_keys (b : Nat) (f : Fld) (v : Nat) : (s.stage b f v).keys = s.keys := rfl
@[simp] theorem State.stage_relayAnswers (b : Nat) (f : Fld) (v : Nat) : (s.stage b f v).relayAnswers = s.relayAnswers := rfl
@[simp] theorem State.stage_relayBufs (b : Nat) (f : Fld) (v : Nat) : (s.stage b f v).relayBufs = s.relayBufs := rfl
@[simp] theorem State.stage_relayOut (b : Nat) (f : Fld) (v : Nat) : (s.stage b f v).relayOut = s.relayOut := rfl
@[simp] theorem State.stage_setts (b : Nat) (f : Fld) (v : Nat) : (s.stage b f v).setts = s.setts := rfl
@[simp] theorem State.stage_stc (b : Nat) (f : Fld) (v : Nat) : (s.stage b f v).stc = s.stc := rfl
@[simp] theorem State.stage_confirmAt (b : Nat) (f : Fld) (v : Nat) : (s.stage b f v).confirmAt = s.confirmAt := rfl
@[simp] theorem State.stage_sps (b : Nat) (f : Fld) (v : Nat) : (s.stage b f v).sps = s.sps := rfl
@[simp] theorem State.stage_owls (b : Nat) (f : Fld) (v : Nat) : (s.stage b f v).owls = s.owls := rfl
@[simp] theorem State.stage_sacs (b : Nat) (f : Fld) (v : Nat) : (s.stage b f v).sacs = s.sacs := rfl
@[simp] theorem State.stage_svps (b : Nat) (f : Fld) (v : Nat) : (s.stage b f v).svps = s.svps := rfl
@[simp] theorem State.stage_tap (b : Nat) (f : Fld) (v : Nat) : (s.stage b f v).tap = s.tap := rfl
@[simp] theorem State.stage_boosts (b : Nat) (f : Fld) (v : Nat) : (s.stage b f v).boosts = s.boosts := rfl
@[simp] theorem State.stage_wdogs (b : Nat) (f : Fld) (v : Nat) : (s.stage b f v).wdogs = s.wdogs := rfl
@[simp] theorem State.stage_gsls (b : Nat) (f : Fld) (v : Nat) : (s.stage b f v).gsls = s.gsls := rfl
@[simp] theorem State.stage_routes (b : Nat) (f : Fld) (v : Nat) : (s.stage b f v).routes = s.routes := rfl
@[simp] theorem State.stage_stopSeen (b : Nat) (f : Fld) (v : Nat) : (s.stage b f v).stopSeen = s.stopSeen := rfl
@[simp] theorem State.stage_dmas (b : Nat) (f : Fld) (v : Nat) : (s.stage b f v).dmas = s.dmas := rfl
@[simp] theorem State.stage_host (b : Nat) (f : Fld) (v : Nat) : (s.stage b f v).host = s.host := rfl
@[simp] theorem State.stage_hib (b : Nat) (f : Fld) (v : Nat) : (s.stage b f v).hib = s.hib := rfl
@[simp] theorem State.stage_cdcShut (b : Nat) (f : Fld) (v : Nat) : (s.stage b f v).cdcShut = s.cdcShut := rfl
@[simp] theorem State.stage_drains (b : Nat) (f : Fld) (v : Nat) : (s.stage b f v).drains = s.drains := rfl
@[simp] theorem State.stage_bmReqs (b : Nat) (f : Fld) (v : Nat) : (s.stage b f v).bmReqs = s.bmReqs := rfl
@[simp] theorem State.stage_pending (b : Nat) (f : Fld) (v : Nat) : (s.stage b f v).pending = s.pending := rfl
@[simp] theorem State.putByte_act (a : Nat) (x : Byte) : (s.putByte a x).act = s.act := rfl
@[simp] theorem State.putByte_stg (a : Nat) (x : Byte) : (s.putByte a x).stg = s.stg := rfl
@[simp] theorem State.putByte_wordOk (a : Nat) (x : Byte) : (s.putByte a x).wordOk = s.wordOk := rfl
@[simp] theorem State.putByte_wordChk (a : Nat) (x : Byte) : (s.putByte a x).wordChk = s.wordChk := rfl
@[simp] theorem State.putByte_lineChk (a : Nat) (x : Byte) : (s.putByte a x).lineChk = s.lineChk := rfl
@[simp] theorem State.putByte_linePsn (a : Nat) (x : Byte) : (s.putByte a x).linePsn = s.linePsn := rfl
@[simp] theorem State.putByte_pages (a : Nat) (x : Byte) : (s.putByte a x).pages = s.pages := rfl
@[simp] theorem State.putByte_por (a : Nat) (x : Byte) : (s.putByte a x).por = s.por := rfl
@[simp] theorem State.putByte_now (a : Nat) (x : Byte) : (s.putByte a x).now = s.now := rfl
@[simp] theorem State.putByte_fresh (a : Nat) (x : Byte) : (s.putByte a x).fresh = s.fresh := rfl
@[simp] theorem State.putByte_msix (a : Nat) (x : Byte) : (s.putByte a x).msix = s.msix := rfl
@[simp] theorem State.putByte_pins (a : Nat) (x : Byte) : (s.putByte a x).pins = s.pins := rfl
@[simp] theorem State.putByte_banks (a : Nat) (x : Byte) : (s.putByte a x).banks = s.banks := rfl
@[simp] theorem State.putByte_fails (a : Nat) (x : Byte) : (s.putByte a x).fails = s.fails := rfl
@[simp] theorem State.putByte_pmus (a : Nat) (x : Byte) : (s.putByte a x).pmus = s.pmus := rfl
@[simp] theorem State.putByte_guests (a : Nat) (x : Byte) : (s.putByte a x).guests = s.guests := rfl
@[simp] theorem State.putByte_arps (a : Nat) (x : Byte) : (s.putByte a x).arps = s.arps := rfl
@[simp] theorem State.putByte_psqs (a : Nat) (x : Byte) : (s.putByte a x).psqs = s.psqs := rfl
@[simp] theorem State.putByte_stops (a : Nat) (x : Byte) : (s.putByte a x).stops = s.stops := rfl
@[simp] theorem State.putByte_stopOut (a : Nat) (x : Byte) : (s.putByte a x).stopOut = s.stopOut := rfl
@[simp] theorem State.putByte_trigs (a : Nat) (x : Byte) : (s.putByte a x).trigs = s.trigs := rfl
@[simp] theorem State.putByte_ptb (a : Nat) (x : Byte) : (s.putByte a x).ptb = s.ptb := rfl
@[simp] theorem State.putByte_ptbRun (a : Nat) (x : Byte) : (s.putByte a x).ptbRun = s.ptbRun := rfl
@[simp] theorem State.putByte_sync (a : Nat) (x : Byte) : (s.putByte a x).sync = s.sync := rfl
@[simp] theorem State.putByte_ptbOut (a : Nat) (x : Byte) : (s.putByte a x).ptbOut = s.ptbOut := rfl
@[simp] theorem State.putByte_fhs (a : Nat) (x : Byte) : (s.putByte a x).fhs = s.fhs := rfl
@[simp] theorem State.putByte_safe (a : Nat) (x : Byte) : (s.putByte a x).safe = s.safe := rfl
@[simp] theorem State.putByte_held (a : Nat) (x : Byte) : (s.putByte a x).held = s.held := rfl
@[simp] theorem State.putByte_domStops (a : Nat) (x : Byte) : (s.putByte a x).domStops = s.domStops := rfl
@[simp] theorem State.putByte_cmps (a : Nat) (x : Byte) : (s.putByte a x).cmps = s.cmps := rfl
@[simp] theorem State.putByte_flights (a : Nat) (x : Byte) : (s.putByte a x).flights = s.flights := rfl
@[simp] theorem State.putByte_nocNext (a : Nat) (x : Byte) : (s.putByte a x).nocNext = s.nocNext := rfl
@[simp] theorem State.putByte_nocLast (a : Nat) (x : Byte) : (s.putByte a x).nocLast = s.nocLast := rfl
@[simp] theorem State.putByte_storePorts (a : Nat) (x : Byte) : (s.putByte a x).storePorts = s.storePorts := rfl
@[simp] theorem State.putByte_ports (a : Nat) (x : Byte) : (s.putByte a x).ports = s.ports := rfl
@[simp] theorem State.putByte_sweeps (a : Nat) (x : Byte) : (s.putByte a x).sweeps = s.sweeps := rfl
@[simp] theorem State.putByte_imeOps (a : Nat) (x : Byte) : (s.putByte a x).imeOps = s.imeOps := rfl
@[simp] theorem State.putByte_panics (a : Nat) (x : Byte) : (s.putByte a x).panics = s.panics := rfl
@[simp] theorem State.putByte_imeKeys (a : Nat) (x : Byte) : (s.putByte a x).imeKeys = s.imeKeys := rfl
@[simp] theorem State.putByte_bundles (a : Nat) (x : Byte) : (s.putByte a x).bundles = s.bundles := rfl
@[simp] theorem State.putByte_laneRecDue (a : Nat) (x : Byte) : (s.putByte a x).laneRecDue = s.laneRecDue := rfl
@[simp] theorem State.putByte_crossPipes (a : Nat) (x : Byte) : (s.putByte a x).crossPipes = s.crossPipes := rfl
@[simp] theorem State.putByte_lineRegs (a : Nat) (x : Byte) : (s.putByte a x).lineRegs = s.lineRegs := rfl
@[simp] theorem State.putByte_crossBuses (a : Nat) (x : Byte) : (s.putByte a x).crossBuses = s.crossBuses := rfl
@[simp] theorem State.putByte_relayBits (a : Nat) (x : Byte) : (s.putByte a x).relayBits = s.relayBits := rfl
@[simp] theorem State.putByte_ptbAbsent (a : Nat) (x : Byte) : (s.putByte a x).ptbAbsent = s.ptbAbsent := rfl
@[simp] theorem State.putByte_fcus (a : Nat) (x : Byte) : (s.putByte a x).fcus = s.fcus := rfl
@[simp] theorem State.putByte_fcuSites (a : Nat) (x : Byte) : (s.putByte a x).fcuSites = s.fcuSites := rfl
@[simp] theorem State.putByte_fcuTags (a : Nat) (x : Byte) : (s.putByte a x).fcuTags = s.fcuTags := rfl
@[simp] theorem State.putByte_raes (a : Nat) (x : Byte) : (s.putByte a x).raes = s.raes := rfl
@[simp] theorem State.putByte_cells (a : Nat) (x : Byte) : (s.putByte a x).cells = s.cells := rfl
@[simp] theorem State.putByte_regionXs (a : Nat) (x : Byte) : (s.putByte a x).regionXs = s.regionXs := rfl
@[simp] theorem State.putByte_upsets (a : Nat) (x : Byte) : (s.putByte a x).upsets = s.upsets := rfl
@[simp] theorem State.putByte_cfes (a : Nat) (x : Byte) : (s.putByte a x).cfes = s.cfes := rfl
@[simp] theorem State.putByte_chks (a : Nat) (x : Byte) : (s.putByte a x).chks = s.chks := rfl
@[simp] theorem State.putByte_boots (a : Nat) (x : Byte) : (s.putByte a x).boots = s.boots := rfl
@[simp] theorem State.putByte_keys (a : Nat) (x : Byte) : (s.putByte a x).keys = s.keys := rfl
@[simp] theorem State.putByte_relayAnswers (a : Nat) (x : Byte) : (s.putByte a x).relayAnswers = s.relayAnswers := rfl
@[simp] theorem State.putByte_relayBufs (a : Nat) (x : Byte) : (s.putByte a x).relayBufs = s.relayBufs := rfl
@[simp] theorem State.putByte_relayOut (a : Nat) (x : Byte) : (s.putByte a x).relayOut = s.relayOut := rfl
@[simp] theorem State.putByte_setts (a : Nat) (x : Byte) : (s.putByte a x).setts = s.setts := rfl
@[simp] theorem State.putByte_stc (a : Nat) (x : Byte) : (s.putByte a x).stc = s.stc := rfl
@[simp] theorem State.putByte_confirmAt (a : Nat) (x : Byte) : (s.putByte a x).confirmAt = s.confirmAt := rfl
@[simp] theorem State.putByte_sps (a : Nat) (x : Byte) : (s.putByte a x).sps = s.sps := rfl
@[simp] theorem State.putByte_owls (a : Nat) (x : Byte) : (s.putByte a x).owls = s.owls := rfl
@[simp] theorem State.putByte_sacs (a : Nat) (x : Byte) : (s.putByte a x).sacs = s.sacs := rfl
@[simp] theorem State.putByte_svps (a : Nat) (x : Byte) : (s.putByte a x).svps = s.svps := rfl
@[simp] theorem State.putByte_tap (a : Nat) (x : Byte) : (s.putByte a x).tap = s.tap := rfl
@[simp] theorem State.putByte_boosts (a : Nat) (x : Byte) : (s.putByte a x).boosts = s.boosts := rfl
@[simp] theorem State.putByte_wdogs (a : Nat) (x : Byte) : (s.putByte a x).wdogs = s.wdogs := rfl
@[simp] theorem State.putByte_gsls (a : Nat) (x : Byte) : (s.putByte a x).gsls = s.gsls := rfl
@[simp] theorem State.putByte_routes (a : Nat) (x : Byte) : (s.putByte a x).routes = s.routes := rfl
@[simp] theorem State.putByte_stopSeen (a : Nat) (x : Byte) : (s.putByte a x).stopSeen = s.stopSeen := rfl
@[simp] theorem State.putByte_dmas (a : Nat) (x : Byte) : (s.putByte a x).dmas = s.dmas := rfl
@[simp] theorem State.putByte_host (a : Nat) (x : Byte) : (s.putByte a x).host = s.host := rfl
@[simp] theorem State.putByte_hib (a : Nat) (x : Byte) : (s.putByte a x).hib = s.hib := rfl
@[simp] theorem State.putByte_cdcShut (a : Nat) (x : Byte) : (s.putByte a x).cdcShut = s.cdcShut := rfl
@[simp] theorem State.putByte_drains (a : Nat) (x : Byte) : (s.putByte a x).drains = s.drains := rfl
@[simp] theorem State.putByte_bmReqs (a : Nat) (x : Byte) : (s.putByte a x).bmReqs = s.bmReqs := rfl
@[simp] theorem State.putByte_pending (a : Nat) (x : Byte) : (s.putByte a x).pending = s.pending := rfl
@[simp] theorem State.wr_pin (b : Nat) (f : Fld) (v i : Nat) : (s.wr b f v).pin i = s.pin i := rfl
@[simp] theorem State.wr_bank (b : Nat) (f : Fld) (v i : Nat) : (s.wr b f v).bank i = s.bank i := rfl
@[simp] theorem State.wr_pmu (b : Nat) (f : Fld) (v i : Nat) : (s.wr b f v).pmu i = s.pmu i := rfl
@[simp] theorem State.wr_psq (b : Nat) (f : Fld) (v i : Nat) : (s.wr b f v).psq i = s.psq i := rfl
@[simp] theorem State.wr_fh (b : Nat) (f : Fld) (v i : Nat) : (s.wr b f v).fh i = s.fh i := rfl
@[simp] theorem State.wr_guest (b : Nat) (f : Fld) (v i : Nat) : (s.wr b f v).guest i = s.guest i := rfl
@[simp] theorem State.wr_arp (b : Nat) (f : Fld) (v i : Nat) : (s.wr b f v).arp i = s.arp i := rfl
@[simp] theorem State.wr_tick (b : Nat) (f : Fld) (v i : Nat) : (s.wr b f v).tick i = s.tick i := rfl
@[simp] theorem State.wr_counting (b : Nat) (f : Fld) (v i : Nat) : (s.wr b f v).counting i = s.counting i := rfl
@[simp] theorem State.wr_domFlag (b : Nat) (f : Fld) (v i : Nat) : (s.wr b f v).domFlag i = s.domFlag i := rfl
@[simp] theorem State.wr_valid (b : Nat) (f : Fld) (v i : Nat) : (s.wr b f v).valid i = s.valid i := rfl
@[simp] theorem State.wr_syndrome (b : Nat) (f : Fld) (v i : Nat) : (s.wr b f v).syndrome i = s.syndrome i := rfl
@[simp] theorem State.wr_lineSyn (b : Nat) (f : Fld) (v i : Nat) : (s.wr b f v).lineSyn i = s.lineSyn i := rfl
@[simp] theorem State.wr_linePoison (b : Nat) (f : Fld) (v i : Nat) : (s.wr b f v).linePoison i = s.linePoison i := rfl
@[simp] theorem State.wr_page (b : Nat) (f : Fld) (v i : Nat) : (s.wr b f v).page i = s.page i := rfl
@[simp] theorem State.wr_cmp (b : Nat) (f : Fld) (v i : Nat) : (s.wr b f v).cmp i = s.cmp i := rfl
@[simp] theorem State.wr_storePort (b : Nat) (f : Fld) (v i : Nat) : (s.wr b f v).storePort i = s.storePort i := rfl
@[simp] theorem State.wr_port (b : Nat) (f : Fld) (v i : Nat) : (s.wr b f v).port i = s.port i := rfl
@[simp] theorem State.wr_sweep (b : Nat) (f : Fld) (v i : Nat) : (s.wr b f v).sweep i = s.sweep i := rfl
@[simp] theorem State.wr_imeKey (b : Nat) (f : Fld) (v i : Nat) : (s.wr b f v).imeKey i = s.imeKey i := rfl
@[simp] theorem State.wr_imeOp (b : Nat) (f : Fld) (v i : Nat) : (s.wr b f v).imeOp i = s.imeOp i := rfl
@[simp] theorem State.wr_bundle (b : Nat) (f : Fld) (v i : Nat) : (s.wr b f v).bundle i = s.bundle i := rfl
@[simp] theorem State.wr_crossBus (b : Nat) (f : Fld) (v i : Nat) : (s.wr b f v).crossBus i = s.crossBus i := rfl
@[simp] theorem State.wr_crossPipe (b : Nat) (f : Fld) (v i : Nat) : (s.wr b f v).crossPipe i = s.crossPipe i := rfl
@[simp] theorem State.wr_lineReg (b : Nat) (f : Fld) (v i : Nat) : (s.wr b f v).lineReg i = s.lineReg i := rfl
@[simp] theorem State.wr_relayBit (b : Nat) (f : Fld) (v i : Nat) : (s.wr b f v).relayBit i = s.relayBit i := rfl
@[simp] theorem State.wr_fcu (b : Nat) (f : Fld) (v i : Nat) : (s.wr b f v).fcu i = s.fcu i := rfl
@[simp] theorem State.wr_fsx (b : Nat) (f : Fld) (v i : Nat) : (s.wr b f v).fsx i = s.fsx i := rfl
@[simp] theorem State.wr_fcuTag (b : Nat) (f : Fld) (v i : Nat) : (s.wr b f v).fcuTag i = s.fcuTag i := rfl
@[simp] theorem State.wr_rae (b : Nat) (f : Fld) (v i : Nat) : (s.wr b f v).rae i = s.rae i := rfl
@[simp] theorem State.wr_cell (b : Nat) (f : Fld) (v i : Nat) : (s.wr b f v).cell i = s.cell i := rfl
@[simp] theorem State.wr_region (b : Nat) (f : Fld) (v i : Nat) : (s.wr b f v).region i = s.region i := rfl
@[simp] theorem State.wr_upset (b : Nat) (f : Fld) (v i : Nat) : (s.wr b f v).upset i = s.upset i := rfl
@[simp] theorem State.wr_cfe (b : Nat) (f : Fld) (v i : Nat) : (s.wr b f v).cfe i = s.cfe i := rfl
@[simp] theorem State.wr_chk (b : Nat) (f : Fld) (v i : Nat) : (s.wr b f v).chk i = s.chk i := rfl
@[simp] theorem State.wr_boot (b : Nat) (f : Fld) (v i : Nat) : (s.wr b f v).boot i = s.boot i := rfl
@[simp] theorem State.wr_keyOf (b : Nat) (f : Fld) (v i : Nat) : (s.wr b f v).keyOf i = s.keyOf i := rfl
@[simp] theorem State.wr_relayBuf (b : Nat) (f : Fld) (v i : Nat) : (s.wr b f v).relayBuf i = s.relayBuf i := rfl
@[simp] theorem State.wr_sett (b : Nat) (f : Fld) (v i : Nat) : (s.wr b f v).sett i = s.sett i := rfl
@[simp] theorem State.wr_opened (b : Nat) (f : Fld) (v i : Nat) : (s.wr b f v).opened i = s.opened i := rfl
@[simp] theorem State.wr_sp (b : Nat) (f : Fld) (v i : Nat) : (s.wr b f v).sp i = s.sp i := rfl
@[simp] theorem State.wr_owl (b : Nat) (f : Fld) (v i : Nat) : (s.wr b f v).owl i = s.owl i := rfl
@[simp] theorem State.wr_sac (b : Nat) (f : Fld) (v i : Nat) : (s.wr b f v).sac i = s.sac i := rfl
@[simp] theorem State.wr_svp (b : Nat) (f : Fld) (v i : Nat) : (s.wr b f v).svp i = s.svp i := rfl
@[simp] theorem State.wr_boost (b : Nat) (f : Fld) (v i : Nat) : (s.wr b f v).boost i = s.boost i := rfl
@[simp] theorem State.wr_wdog (b : Nat) (f : Fld) (v i : Nat) : (s.wr b f v).wdog i = s.wdog i := rfl
@[simp] theorem State.wr_gsl (b : Nat) (f : Fld) (v i : Nat) : (s.wr b f v).gsl i = s.gsl i := rfl
@[simp] theorem State.wr_route (b : Nat) (f : Fld) (v i : Nat) : (s.wr b f v).route i = s.route i := rfl
@[simp] theorem State.wr_dma (b : Nat) (f : Fld) (v i : Nat) : (s.wr b f v).dma i = s.dma i := rfl
@[simp] theorem State.wr_shut (b : Nat) (f : Fld) (v i : Nat) : (s.wr b f v).shut i = s.shut i := rfl
@[simp] theorem State.wr_drain (b : Nat) (f : Fld) (v i : Nat) : (s.wr b f v).drain i = s.drain i := rfl
@[simp] theorem State.wr_bmReq (b : Nat) (f : Fld) (v i : Nat) : (s.wr b f v).bmReq i = s.bmReq i := rfl
@[simp] theorem State.setPin_act (i : Nat) (x : PinX) : (s.setPin i x).act = s.act := rfl
@[simp] theorem State.setPin_stg (i : Nat) (x : PinX) : (s.setPin i x).stg = s.stg := rfl
@[simp] theorem State.setPin_mem (i : Nat) (x : PinX) : (s.setPin i x).mem = s.mem := rfl
@[simp] theorem State.setPin_por (i : Nat) (x : PinX) : (s.setPin i x).por = s.por := rfl
@[simp] theorem State.setPin_now (i : Nat) (x : PinX) : (s.setPin i x).now = s.now := rfl
@[simp] theorem State.setPin_fresh (i : Nat) (x : PinX) : (s.setPin i x).fresh = s.fresh := rfl
@[simp] theorem State.setPin_pending (i : Nat) (x : PinX) : (s.setPin i x).pending = s.pending := rfl
@[simp] theorem State.setBank_act (i : Nat) (x : BankX) : (s.setBank i x).act = s.act := rfl
@[simp] theorem State.setBank_stg (i : Nat) (x : BankX) : (s.setBank i x).stg = s.stg := rfl
@[simp] theorem State.setBank_mem (i : Nat) (x : BankX) : (s.setBank i x).mem = s.mem := rfl
@[simp] theorem State.setBank_por (i : Nat) (x : BankX) : (s.setBank i x).por = s.por := rfl
@[simp] theorem State.setBank_now (i : Nat) (x : BankX) : (s.setBank i x).now = s.now := rfl
@[simp] theorem State.setBank_fresh (i : Nat) (x : BankX) : (s.setBank i x).fresh = s.fresh := rfl
@[simp] theorem State.setBank_pending (i : Nat) (x : BankX) : (s.setBank i x).pending = s.pending := rfl
@[simp] theorem State.setPmu_act (i : Nat) (x : PmuX) : (s.setPmu i x).act = s.act := rfl
@[simp] theorem State.setPmu_stg (i : Nat) (x : PmuX) : (s.setPmu i x).stg = s.stg := rfl
@[simp] theorem State.setPmu_mem (i : Nat) (x : PmuX) : (s.setPmu i x).mem = s.mem := rfl
@[simp] theorem State.setPmu_por (i : Nat) (x : PmuX) : (s.setPmu i x).por = s.por := rfl
@[simp] theorem State.setPmu_now (i : Nat) (x : PmuX) : (s.setPmu i x).now = s.now := rfl
@[simp] theorem State.setPmu_fresh (i : Nat) (x : PmuX) : (s.setPmu i x).fresh = s.fresh := rfl
@[simp] theorem State.setPmu_pending (i : Nat) (x : PmuX) : (s.setPmu i x).pending = s.pending := rfl
@[simp] theorem State.setPsq_act (i : Nat) (x : PsqX) : (s.setPsq i x).act = s.act := rfl
@[simp] theorem State.setPsq_stg (i : Nat) (x : PsqX) : (s.setPsq i x).stg = s.stg := rfl
@[simp] theorem State.setPsq_mem (i : Nat) (x : PsqX) : (s.setPsq i x).mem = s.mem := rfl
@[simp] theorem State.setPsq_por (i : Nat) (x : PsqX) : (s.setPsq i x).por = s.por := rfl
@[simp] theorem State.setPsq_now (i : Nat) (x : PsqX) : (s.setPsq i x).now = s.now := rfl
@[simp] theorem State.setPsq_fresh (i : Nat) (x : PsqX) : (s.setPsq i x).fresh = s.fresh := rfl
@[simp] theorem State.setPsq_pending (i : Nat) (x : PsqX) : (s.setPsq i x).pending = s.pending := rfl
@[simp] theorem State.setFh_act (i : Nat) (x : FhSrc) : (s.setFh i x).act = s.act := rfl
@[simp] theorem State.setFh_stg (i : Nat) (x : FhSrc) : (s.setFh i x).stg = s.stg := rfl
@[simp] theorem State.setFh_mem (i : Nat) (x : FhSrc) : (s.setFh i x).mem = s.mem := rfl
@[simp] theorem State.setFh_por (i : Nat) (x : FhSrc) : (s.setFh i x).por = s.por := rfl
@[simp] theorem State.setFh_now (i : Nat) (x : FhSrc) : (s.setFh i x).now = s.now := rfl
@[simp] theorem State.setFh_fresh (i : Nat) (x : FhSrc) : (s.setFh i x).fresh = s.fresh := rfl
@[simp] theorem State.setFh_pending (i : Nat) (x : FhSrc) : (s.setFh i x).pending = s.pending := rfl
@[simp] theorem State.setGuest_act (i : Nat) (x : GuestPhase) : (s.setGuest i x).act = s.act := rfl
@[simp] theorem State.setGuest_stg (i : Nat) (x : GuestPhase) : (s.setGuest i x).stg = s.stg := rfl
@[simp] theorem State.setGuest_mem (i : Nat) (x : GuestPhase) : (s.setGuest i x).mem = s.mem := rfl
@[simp] theorem State.setGuest_por (i : Nat) (x : GuestPhase) : (s.setGuest i x).por = s.por := rfl
@[simp] theorem State.setGuest_now (i : Nat) (x : GuestPhase) : (s.setGuest i x).now = s.now := rfl
@[simp] theorem State.setGuest_fresh (i : Nat) (x : GuestPhase) : (s.setGuest i x).fresh = s.fresh := rfl
@[simp] theorem State.setGuest_pending (i : Nat) (x : GuestPhase) : (s.setGuest i x).pending = s.pending := rfl
@[simp] theorem State.setArp_act (i : Nat) (x : ArpX) : (s.setArp i x).act = s.act := rfl
@[simp] theorem State.setArp_stg (i : Nat) (x : ArpX) : (s.setArp i x).stg = s.stg := rfl
@[simp] theorem State.setArp_mem (i : Nat) (x : ArpX) : (s.setArp i x).mem = s.mem := rfl
@[simp] theorem State.setArp_por (i : Nat) (x : ArpX) : (s.setArp i x).por = s.por := rfl
@[simp] theorem State.setArp_now (i : Nat) (x : ArpX) : (s.setArp i x).now = s.now := rfl
@[simp] theorem State.setArp_fresh (i : Nat) (x : ArpX) : (s.setArp i x).fresh = s.fresh := rfl
@[simp] theorem State.setArp_pending (i : Nat) (x : ArpX) : (s.setArp i x).pending = s.pending := rfl
@[simp] theorem State.setTick_act (i : Nat) (x : Nat) : (s.setTick i x).act = s.act := rfl
@[simp] theorem State.setTick_stg (i : Nat) (x : Nat) : (s.setTick i x).stg = s.stg := rfl
@[simp] theorem State.setTick_mem (i : Nat) (x : Nat) : (s.setTick i x).mem = s.mem := rfl
@[simp] theorem State.setTick_por (i : Nat) (x : Nat) : (s.setTick i x).por = s.por := rfl
@[simp] theorem State.setTick_now (i : Nat) (x : Nat) : (s.setTick i x).now = s.now := rfl
@[simp] theorem State.setTick_fresh (i : Nat) (x : Nat) : (s.setTick i x).fresh = s.fresh := rfl
@[simp] theorem State.setTick_pending (i : Nat) (x : Nat) : (s.setTick i x).pending = s.pending := rfl
@[simp] theorem State.setCounting_act (i : Nat) (x : Bool) : (s.setCounting i x).act = s.act := rfl
@[simp] theorem State.setCounting_stg (i : Nat) (x : Bool) : (s.setCounting i x).stg = s.stg := rfl
@[simp] theorem State.setCounting_mem (i : Nat) (x : Bool) : (s.setCounting i x).mem = s.mem := rfl
@[simp] theorem State.setCounting_por (i : Nat) (x : Bool) : (s.setCounting i x).por = s.por := rfl
@[simp] theorem State.setCounting_now (i : Nat) (x : Bool) : (s.setCounting i x).now = s.now := rfl
@[simp] theorem State.setCounting_fresh (i : Nat) (x : Bool) : (s.setCounting i x).fresh = s.fresh := rfl
@[simp] theorem State.setCounting_pending (i : Nat) (x : Bool) : (s.setCounting i x).pending = s.pending := rfl
@[simp] theorem State.setDomFlag_act (i : Nat) (x : Bool) : (s.setDomFlag i x).act = s.act := rfl
@[simp] theorem State.setDomFlag_stg (i : Nat) (x : Bool) : (s.setDomFlag i x).stg = s.stg := rfl
@[simp] theorem State.setDomFlag_mem (i : Nat) (x : Bool) : (s.setDomFlag i x).mem = s.mem := rfl
@[simp] theorem State.setDomFlag_por (i : Nat) (x : Bool) : (s.setDomFlag i x).por = s.por := rfl
@[simp] theorem State.setDomFlag_now (i : Nat) (x : Bool) : (s.setDomFlag i x).now = s.now := rfl
@[simp] theorem State.setDomFlag_fresh (i : Nat) (x : Bool) : (s.setDomFlag i x).fresh = s.fresh := rfl
@[simp] theorem State.setDomFlag_pending (i : Nat) (x : Bool) : (s.setDomFlag i x).pending = s.pending := rfl
@[simp] theorem State.setValid_act (i : Nat) (x : Bool) : (s.setValid i x).act = s.act := rfl
@[simp] theorem State.setValid_stg (i : Nat) (x : Bool) : (s.setValid i x).stg = s.stg := rfl
@[simp] theorem State.setValid_mem (i : Nat) (x : Bool) : (s.setValid i x).mem = s.mem := rfl
@[simp] theorem State.setValid_por (i : Nat) (x : Bool) : (s.setValid i x).por = s.por := rfl
@[simp] theorem State.setValid_now (i : Nat) (x : Bool) : (s.setValid i x).now = s.now := rfl
@[simp] theorem State.setValid_fresh (i : Nat) (x : Bool) : (s.setValid i x).fresh = s.fresh := rfl
@[simp] theorem State.setValid_pending (i : Nat) (x : Bool) : (s.setValid i x).pending = s.pending := rfl
@[simp] theorem State.setSyndrome_act (i : Nat) (x : Nat) : (s.setSyndrome i x).act = s.act := rfl
@[simp] theorem State.setSyndrome_stg (i : Nat) (x : Nat) : (s.setSyndrome i x).stg = s.stg := rfl
@[simp] theorem State.setSyndrome_mem (i : Nat) (x : Nat) : (s.setSyndrome i x).mem = s.mem := rfl
@[simp] theorem State.setSyndrome_por (i : Nat) (x : Nat) : (s.setSyndrome i x).por = s.por := rfl
@[simp] theorem State.setSyndrome_now (i : Nat) (x : Nat) : (s.setSyndrome i x).now = s.now := rfl
@[simp] theorem State.setSyndrome_fresh (i : Nat) (x : Nat) : (s.setSyndrome i x).fresh = s.fresh := rfl
@[simp] theorem State.setSyndrome_pending (i : Nat) (x : Nat) : (s.setSyndrome i x).pending = s.pending := rfl
@[simp] theorem State.setLineSyn_act (i : Nat) (x : Nat) : (s.setLineSyn i x).act = s.act := rfl
@[simp] theorem State.setLineSyn_stg (i : Nat) (x : Nat) : (s.setLineSyn i x).stg = s.stg := rfl
@[simp] theorem State.setLineSyn_mem (i : Nat) (x : Nat) : (s.setLineSyn i x).mem = s.mem := rfl
@[simp] theorem State.setLineSyn_por (i : Nat) (x : Nat) : (s.setLineSyn i x).por = s.por := rfl
@[simp] theorem State.setLineSyn_now (i : Nat) (x : Nat) : (s.setLineSyn i x).now = s.now := rfl
@[simp] theorem State.setLineSyn_fresh (i : Nat) (x : Nat) : (s.setLineSyn i x).fresh = s.fresh := rfl
@[simp] theorem State.setLineSyn_pending (i : Nat) (x : Nat) : (s.setLineSyn i x).pending = s.pending := rfl
@[simp] theorem State.setLinePoison_act (i : Nat) (x : Bool) : (s.setLinePoison i x).act = s.act := rfl
@[simp] theorem State.setLinePoison_stg (i : Nat) (x : Bool) : (s.setLinePoison i x).stg = s.stg := rfl
@[simp] theorem State.setLinePoison_mem (i : Nat) (x : Bool) : (s.setLinePoison i x).mem = s.mem := rfl
@[simp] theorem State.setLinePoison_por (i : Nat) (x : Bool) : (s.setLinePoison i x).por = s.por := rfl
@[simp] theorem State.setLinePoison_now (i : Nat) (x : Bool) : (s.setLinePoison i x).now = s.now := rfl
@[simp] theorem State.setLinePoison_fresh (i : Nat) (x : Bool) : (s.setLinePoison i x).fresh = s.fresh := rfl
@[simp] theorem State.setLinePoison_pending (i : Nat) (x : Bool) : (s.setLinePoison i x).pending = s.pending := rfl
@[simp] theorem State.setPage_act (i : Nat) (x : PageX) : (s.setPage i x).act = s.act := rfl
@[simp] theorem State.setPage_stg (i : Nat) (x : PageX) : (s.setPage i x).stg = s.stg := rfl
@[simp] theorem State.setPage_mem (i : Nat) (x : PageX) : (s.setPage i x).mem = s.mem := rfl
@[simp] theorem State.setPage_por (i : Nat) (x : PageX) : (s.setPage i x).por = s.por := rfl
@[simp] theorem State.setPage_now (i : Nat) (x : PageX) : (s.setPage i x).now = s.now := rfl
@[simp] theorem State.setPage_fresh (i : Nat) (x : PageX) : (s.setPage i x).fresh = s.fresh := rfl
@[simp] theorem State.setPage_pending (i : Nat) (x : PageX) : (s.setPage i x).pending = s.pending := rfl
@[simp] theorem State.setCmp_act (i : Nat) (x : CmpX) : (s.setCmp i x).act = s.act := rfl
@[simp] theorem State.setCmp_stg (i : Nat) (x : CmpX) : (s.setCmp i x).stg = s.stg := rfl
@[simp] theorem State.setCmp_mem (i : Nat) (x : CmpX) : (s.setCmp i x).mem = s.mem := rfl
@[simp] theorem State.setCmp_por (i : Nat) (x : CmpX) : (s.setCmp i x).por = s.por := rfl
@[simp] theorem State.setCmp_now (i : Nat) (x : CmpX) : (s.setCmp i x).now = s.now := rfl
@[simp] theorem State.setCmp_fresh (i : Nat) (x : CmpX) : (s.setCmp i x).fresh = s.fresh := rfl
@[simp] theorem State.setCmp_pending (i : Nat) (x : CmpX) : (s.setCmp i x).pending = s.pending := rfl
@[simp] theorem State.setStorePort_act (i : Nat) (x : StoreX) : (s.setStorePort i x).act = s.act := rfl
@[simp] theorem State.setStorePort_stg (i : Nat) (x : StoreX) : (s.setStorePort i x).stg = s.stg := rfl
@[simp] theorem State.setStorePort_mem (i : Nat) (x : StoreX) : (s.setStorePort i x).mem = s.mem := rfl
@[simp] theorem State.setStorePort_por (i : Nat) (x : StoreX) : (s.setStorePort i x).por = s.por := rfl
@[simp] theorem State.setStorePort_now (i : Nat) (x : StoreX) : (s.setStorePort i x).now = s.now := rfl
@[simp] theorem State.setStorePort_fresh (i : Nat) (x : StoreX) : (s.setStorePort i x).fresh = s.fresh := rfl
@[simp] theorem State.setStorePort_pending (i : Nat) (x : StoreX) : (s.setStorePort i x).pending = s.pending := rfl
@[simp] theorem State.setPort_act (i : Nat) (x : MpX) : (s.setPort i x).act = s.act := rfl
@[simp] theorem State.setPort_stg (i : Nat) (x : MpX) : (s.setPort i x).stg = s.stg := rfl
@[simp] theorem State.setPort_mem (i : Nat) (x : MpX) : (s.setPort i x).mem = s.mem := rfl
@[simp] theorem State.setPort_por (i : Nat) (x : MpX) : (s.setPort i x).por = s.por := rfl
@[simp] theorem State.setPort_now (i : Nat) (x : MpX) : (s.setPort i x).now = s.now := rfl
@[simp] theorem State.setPort_fresh (i : Nat) (x : MpX) : (s.setPort i x).fresh = s.fresh := rfl
@[simp] theorem State.setPort_pending (i : Nat) (x : MpX) : (s.setPort i x).pending = s.pending := rfl
@[simp] theorem State.setSweep_act (i : Nat) (x : SweepX) : (s.setSweep i x).act = s.act := rfl
@[simp] theorem State.setSweep_stg (i : Nat) (x : SweepX) : (s.setSweep i x).stg = s.stg := rfl
@[simp] theorem State.setSweep_mem (i : Nat) (x : SweepX) : (s.setSweep i x).mem = s.mem := rfl
@[simp] theorem State.setSweep_por (i : Nat) (x : SweepX) : (s.setSweep i x).por = s.por := rfl
@[simp] theorem State.setSweep_now (i : Nat) (x : SweepX) : (s.setSweep i x).now = s.now := rfl
@[simp] theorem State.setSweep_fresh (i : Nat) (x : SweepX) : (s.setSweep i x).fresh = s.fresh := rfl
@[simp] theorem State.setSweep_pending (i : Nat) (x : SweepX) : (s.setSweep i x).pending = s.pending := rfl
@[simp] theorem State.setImeKey_act (i : Nat) (x : (BitVec 256)) : (s.setImeKey i x).act = s.act := rfl
@[simp] theorem State.setImeKey_stg (i : Nat) (x : (BitVec 256)) : (s.setImeKey i x).stg = s.stg := rfl
@[simp] theorem State.setImeKey_mem (i : Nat) (x : (BitVec 256)) : (s.setImeKey i x).mem = s.mem := rfl
@[simp] theorem State.setImeKey_por (i : Nat) (x : (BitVec 256)) : (s.setImeKey i x).por = s.por := rfl
@[simp] theorem State.setImeKey_now (i : Nat) (x : (BitVec 256)) : (s.setImeKey i x).now = s.now := rfl
@[simp] theorem State.setImeKey_fresh (i : Nat) (x : (BitVec 256)) : (s.setImeKey i x).fresh = s.fresh := rfl
@[simp] theorem State.setImeKey_pending (i : Nat) (x : (BitVec 256)) : (s.setImeKey i x).pending = s.pending := rfl
@[simp] theorem State.setImeOp_act (i : Nat) (x : (Option ImeOp)) : (s.setImeOp i x).act = s.act := rfl
@[simp] theorem State.setImeOp_stg (i : Nat) (x : (Option ImeOp)) : (s.setImeOp i x).stg = s.stg := rfl
@[simp] theorem State.setImeOp_mem (i : Nat) (x : (Option ImeOp)) : (s.setImeOp i x).mem = s.mem := rfl
@[simp] theorem State.setImeOp_por (i : Nat) (x : (Option ImeOp)) : (s.setImeOp i x).por = s.por := rfl
@[simp] theorem State.setImeOp_now (i : Nat) (x : (Option ImeOp)) : (s.setImeOp i x).now = s.now := rfl
@[simp] theorem State.setImeOp_fresh (i : Nat) (x : (Option ImeOp)) : (s.setImeOp i x).fresh = s.fresh := rfl
@[simp] theorem State.setImeOp_pending (i : Nat) (x : (Option ImeOp)) : (s.setImeOp i x).pending = s.pending := rfl
@[simp] theorem State.setBundle_act (i : Nat) (x : BundleX) : (s.setBundle i x).act = s.act := rfl
@[simp] theorem State.setBundle_stg (i : Nat) (x : BundleX) : (s.setBundle i x).stg = s.stg := rfl
@[simp] theorem State.setBundle_mem (i : Nat) (x : BundleX) : (s.setBundle i x).mem = s.mem := rfl
@[simp] theorem State.setBundle_por (i : Nat) (x : BundleX) : (s.setBundle i x).por = s.por := rfl
@[simp] theorem State.setBundle_now (i : Nat) (x : BundleX) : (s.setBundle i x).now = s.now := rfl
@[simp] theorem State.setBundle_fresh (i : Nat) (x : BundleX) : (s.setBundle i x).fresh = s.fresh := rfl
@[simp] theorem State.setBundle_pending (i : Nat) (x : BundleX) : (s.setBundle i x).pending = s.pending := rfl
@[simp] theorem State.setCrossBus_act (i : Nat) (x : Nat) : (s.setCrossBus i x).act = s.act := rfl
@[simp] theorem State.setCrossBus_stg (i : Nat) (x : Nat) : (s.setCrossBus i x).stg = s.stg := rfl
@[simp] theorem State.setCrossBus_mem (i : Nat) (x : Nat) : (s.setCrossBus i x).mem = s.mem := rfl
@[simp] theorem State.setCrossBus_por (i : Nat) (x : Nat) : (s.setCrossBus i x).por = s.por := rfl
@[simp] theorem State.setCrossBus_now (i : Nat) (x : Nat) : (s.setCrossBus i x).now = s.now := rfl
@[simp] theorem State.setCrossBus_fresh (i : Nat) (x : Nat) : (s.setCrossBus i x).fresh = s.fresh := rfl
@[simp] theorem State.setCrossBus_pending (i : Nat) (x : Nat) : (s.setCrossBus i x).pending = s.pending := rfl
@[simp] theorem State.setCrossPipe_act (i : Nat) (x : List Nat) : (s.setCrossPipe i x).act = s.act := rfl
@[simp] theorem State.setCrossPipe_stg (i : Nat) (x : List Nat) : (s.setCrossPipe i x).stg = s.stg := rfl
@[simp] theorem State.setCrossPipe_mem (i : Nat) (x : List Nat) : (s.setCrossPipe i x).mem = s.mem := rfl
@[simp] theorem State.setCrossPipe_por (i : Nat) (x : List Nat) : (s.setCrossPipe i x).por = s.por := rfl
@[simp] theorem State.setCrossPipe_now (i : Nat) (x : List Nat) : (s.setCrossPipe i x).now = s.now := rfl
@[simp] theorem State.setCrossPipe_fresh (i : Nat) (x : List Nat) : (s.setCrossPipe i x).fresh = s.fresh := rfl
@[simp] theorem State.setCrossPipe_pending (i : Nat) (x : List Nat) : (s.setCrossPipe i x).pending = s.pending := rfl
@[simp] theorem State.setLineReg_act (i : Nat) (x : Nat) : (s.setLineReg i x).act = s.act := rfl
@[simp] theorem State.setLineReg_stg (i : Nat) (x : Nat) : (s.setLineReg i x).stg = s.stg := rfl
@[simp] theorem State.setLineReg_mem (i : Nat) (x : Nat) : (s.setLineReg i x).mem = s.mem := rfl
@[simp] theorem State.setLineReg_por (i : Nat) (x : Nat) : (s.setLineReg i x).por = s.por := rfl
@[simp] theorem State.setLineReg_now (i : Nat) (x : Nat) : (s.setLineReg i x).now = s.now := rfl
@[simp] theorem State.setLineReg_fresh (i : Nat) (x : Nat) : (s.setLineReg i x).fresh = s.fresh := rfl
@[simp] theorem State.setLineReg_pending (i : Nat) (x : Nat) : (s.setLineReg i x).pending = s.pending := rfl
@[simp] theorem State.setRelayBit_act (i : Nat) (x : Nat) : (s.setRelayBit i x).act = s.act := rfl
@[simp] theorem State.setRelayBit_stg (i : Nat) (x : Nat) : (s.setRelayBit i x).stg = s.stg := rfl
@[simp] theorem State.setRelayBit_mem (i : Nat) (x : Nat) : (s.setRelayBit i x).mem = s.mem := rfl
@[simp] theorem State.setRelayBit_por (i : Nat) (x : Nat) : (s.setRelayBit i x).por = s.por := rfl
@[simp] theorem State.setRelayBit_now (i : Nat) (x : Nat) : (s.setRelayBit i x).now = s.now := rfl
@[simp] theorem State.setRelayBit_fresh (i : Nat) (x : Nat) : (s.setRelayBit i x).fresh = s.fresh := rfl
@[simp] theorem State.setRelayBit_pending (i : Nat) (x : Nat) : (s.setRelayBit i x).pending = s.pending := rfl
@[simp] theorem State.setFcu_act (i : Nat) (x : FcuX) : (s.setFcu i x).act = s.act := rfl
@[simp] theorem State.setFcu_stg (i : Nat) (x : FcuX) : (s.setFcu i x).stg = s.stg := rfl
@[simp] theorem State.setFcu_mem (i : Nat) (x : FcuX) : (s.setFcu i x).mem = s.mem := rfl
@[simp] theorem State.setFcu_por (i : Nat) (x : FcuX) : (s.setFcu i x).por = s.por := rfl
@[simp] theorem State.setFcu_now (i : Nat) (x : FcuX) : (s.setFcu i x).now = s.now := rfl
@[simp] theorem State.setFcu_fresh (i : Nat) (x : FcuX) : (s.setFcu i x).fresh = s.fresh := rfl
@[simp] theorem State.setFcu_pending (i : Nat) (x : FcuX) : (s.setFcu i x).pending = s.pending := rfl
@[simp] theorem State.setFsx_act (i : Nat) (x : FsX) : (s.setFsx i x).act = s.act := rfl
@[simp] theorem State.setFsx_stg (i : Nat) (x : FsX) : (s.setFsx i x).stg = s.stg := rfl
@[simp] theorem State.setFsx_mem (i : Nat) (x : FsX) : (s.setFsx i x).mem = s.mem := rfl
@[simp] theorem State.setFsx_por (i : Nat) (x : FsX) : (s.setFsx i x).por = s.por := rfl
@[simp] theorem State.setFsx_now (i : Nat) (x : FsX) : (s.setFsx i x).now = s.now := rfl
@[simp] theorem State.setFsx_fresh (i : Nat) (x : FsX) : (s.setFsx i x).fresh = s.fresh := rfl
@[simp] theorem State.setFsx_pending (i : Nat) (x : FsX) : (s.setFsx i x).pending = s.pending := rfl
@[simp] theorem State.setFcuTag_act (i : Nat) (x : Nat) : (s.setFcuTag i x).act = s.act := rfl
@[simp] theorem State.setFcuTag_stg (i : Nat) (x : Nat) : (s.setFcuTag i x).stg = s.stg := rfl
@[simp] theorem State.setFcuTag_mem (i : Nat) (x : Nat) : (s.setFcuTag i x).mem = s.mem := rfl
@[simp] theorem State.setFcuTag_por (i : Nat) (x : Nat) : (s.setFcuTag i x).por = s.por := rfl
@[simp] theorem State.setFcuTag_now (i : Nat) (x : Nat) : (s.setFcuTag i x).now = s.now := rfl
@[simp] theorem State.setFcuTag_fresh (i : Nat) (x : Nat) : (s.setFcuTag i x).fresh = s.fresh := rfl
@[simp] theorem State.setFcuTag_pending (i : Nat) (x : Nat) : (s.setFcuTag i x).pending = s.pending := rfl
@[simp] theorem State.setRae_act (i : Nat) (x : RaeX) : (s.setRae i x).act = s.act := rfl
@[simp] theorem State.setRae_stg (i : Nat) (x : RaeX) : (s.setRae i x).stg = s.stg := rfl
@[simp] theorem State.setRae_mem (i : Nat) (x : RaeX) : (s.setRae i x).mem = s.mem := rfl
@[simp] theorem State.setRae_por (i : Nat) (x : RaeX) : (s.setRae i x).por = s.por := rfl
@[simp] theorem State.setRae_now (i : Nat) (x : RaeX) : (s.setRae i x).now = s.now := rfl
@[simp] theorem State.setRae_fresh (i : Nat) (x : RaeX) : (s.setRae i x).fresh = s.fresh := rfl
@[simp] theorem State.setRae_pending (i : Nat) (x : RaeX) : (s.setRae i x).pending = s.pending := rfl
@[simp] theorem State.setCell_act (i : Nat) (x : CellX) : (s.setCell i x).act = s.act := rfl
@[simp] theorem State.setCell_stg (i : Nat) (x : CellX) : (s.setCell i x).stg = s.stg := rfl
@[simp] theorem State.setCell_mem (i : Nat) (x : CellX) : (s.setCell i x).mem = s.mem := rfl
@[simp] theorem State.setCell_por (i : Nat) (x : CellX) : (s.setCell i x).por = s.por := rfl
@[simp] theorem State.setCell_now (i : Nat) (x : CellX) : (s.setCell i x).now = s.now := rfl
@[simp] theorem State.setCell_fresh (i : Nat) (x : CellX) : (s.setCell i x).fresh = s.fresh := rfl
@[simp] theorem State.setCell_pending (i : Nat) (x : CellX) : (s.setCell i x).pending = s.pending := rfl
@[simp] theorem State.setRegion_act (i : Nat) (x : RegionX) : (s.setRegion i x).act = s.act := rfl
@[simp] theorem State.setRegion_stg (i : Nat) (x : RegionX) : (s.setRegion i x).stg = s.stg := rfl
@[simp] theorem State.setRegion_mem (i : Nat) (x : RegionX) : (s.setRegion i x).mem = s.mem := rfl
@[simp] theorem State.setRegion_por (i : Nat) (x : RegionX) : (s.setRegion i x).por = s.por := rfl
@[simp] theorem State.setRegion_now (i : Nat) (x : RegionX) : (s.setRegion i x).now = s.now := rfl
@[simp] theorem State.setRegion_fresh (i : Nat) (x : RegionX) : (s.setRegion i x).fresh = s.fresh := rfl
@[simp] theorem State.setRegion_pending (i : Nat) (x : RegionX) : (s.setRegion i x).pending = s.pending := rfl
@[simp] theorem State.setUpset_act (i : Nat) (x : Nat) : (s.setUpset i x).act = s.act := rfl
@[simp] theorem State.setUpset_stg (i : Nat) (x : Nat) : (s.setUpset i x).stg = s.stg := rfl
@[simp] theorem State.setUpset_mem (i : Nat) (x : Nat) : (s.setUpset i x).mem = s.mem := rfl
@[simp] theorem State.setUpset_por (i : Nat) (x : Nat) : (s.setUpset i x).por = s.por := rfl
@[simp] theorem State.setUpset_now (i : Nat) (x : Nat) : (s.setUpset i x).now = s.now := rfl
@[simp] theorem State.setUpset_fresh (i : Nat) (x : Nat) : (s.setUpset i x).fresh = s.fresh := rfl
@[simp] theorem State.setUpset_pending (i : Nat) (x : Nat) : (s.setUpset i x).pending = s.pending := rfl
@[simp] theorem State.setCfe_act (i : Nat) (x : CfeX) : (s.setCfe i x).act = s.act := rfl
@[simp] theorem State.setCfe_stg (i : Nat) (x : CfeX) : (s.setCfe i x).stg = s.stg := rfl
@[simp] theorem State.setCfe_mem (i : Nat) (x : CfeX) : (s.setCfe i x).mem = s.mem := rfl
@[simp] theorem State.setCfe_por (i : Nat) (x : CfeX) : (s.setCfe i x).por = s.por := rfl
@[simp] theorem State.setCfe_now (i : Nat) (x : CfeX) : (s.setCfe i x).now = s.now := rfl
@[simp] theorem State.setCfe_fresh (i : Nat) (x : CfeX) : (s.setCfe i x).fresh = s.fresh := rfl
@[simp] theorem State.setCfe_pending (i : Nat) (x : CfeX) : (s.setCfe i x).pending = s.pending := rfl
@[simp] theorem State.setChk_act (i : Nat) (x : ChkX) : (s.setChk i x).act = s.act := rfl
@[simp] theorem State.setChk_stg (i : Nat) (x : ChkX) : (s.setChk i x).stg = s.stg := rfl
@[simp] theorem State.setChk_mem (i : Nat) (x : ChkX) : (s.setChk i x).mem = s.mem := rfl
@[simp] theorem State.setChk_por (i : Nat) (x : ChkX) : (s.setChk i x).por = s.por := rfl
@[simp] theorem State.setChk_now (i : Nat) (x : ChkX) : (s.setChk i x).now = s.now := rfl
@[simp] theorem State.setChk_fresh (i : Nat) (x : ChkX) : (s.setChk i x).fresh = s.fresh := rfl
@[simp] theorem State.setChk_pending (i : Nat) (x : ChkX) : (s.setChk i x).pending = s.pending := rfl
@[simp] theorem State.setBoot_act (i : Nat) (x : BootStage) : (s.setBoot i x).act = s.act := rfl
@[simp] theorem State.setBoot_stg (i : Nat) (x : BootStage) : (s.setBoot i x).stg = s.stg := rfl
@[simp] theorem State.setBoot_mem (i : Nat) (x : BootStage) : (s.setBoot i x).mem = s.mem := rfl
@[simp] theorem State.setBoot_por (i : Nat) (x : BootStage) : (s.setBoot i x).por = s.por := rfl
@[simp] theorem State.setBoot_now (i : Nat) (x : BootStage) : (s.setBoot i x).now = s.now := rfl
@[simp] theorem State.setBoot_fresh (i : Nat) (x : BootStage) : (s.setBoot i x).fresh = s.fresh := rfl
@[simp] theorem State.setBoot_pending (i : Nat) (x : BootStage) : (s.setBoot i x).pending = s.pending := rfl
@[simp] theorem State.setKeyOf_act (i : Nat) (x : ((List (BitVec 8)))) : (s.setKeyOf i x).act = s.act := rfl
@[simp] theorem State.setKeyOf_stg (i : Nat) (x : ((List (BitVec 8)))) : (s.setKeyOf i x).stg = s.stg := rfl
@[simp] theorem State.setKeyOf_mem (i : Nat) (x : ((List (BitVec 8)))) : (s.setKeyOf i x).mem = s.mem := rfl
@[simp] theorem State.setKeyOf_por (i : Nat) (x : ((List (BitVec 8)))) : (s.setKeyOf i x).por = s.por := rfl
@[simp] theorem State.setKeyOf_now (i : Nat) (x : ((List (BitVec 8)))) : (s.setKeyOf i x).now = s.now := rfl
@[simp] theorem State.setKeyOf_fresh (i : Nat) (x : ((List (BitVec 8)))) : (s.setKeyOf i x).fresh = s.fresh := rfl
@[simp] theorem State.setKeyOf_pending (i : Nat) (x : ((List (BitVec 8)))) : (s.setKeyOf i x).pending = s.pending := rfl
@[simp] theorem State.setRelayBuf_act (i : Nat) (x : (List (BitVec 8))) : (s.setRelayBuf i x).act = s.act := rfl
@[simp] theorem State.setRelayBuf_stg (i : Nat) (x : (List (BitVec 8))) : (s.setRelayBuf i x).stg = s.stg := rfl
@[simp] theorem State.setRelayBuf_mem (i : Nat) (x : (List (BitVec 8))) : (s.setRelayBuf i x).mem = s.mem := rfl
@[simp] theorem State.setRelayBuf_por (i : Nat) (x : (List (BitVec 8))) : (s.setRelayBuf i x).por = s.por := rfl
@[simp] theorem State.setRelayBuf_now (i : Nat) (x : (List (BitVec 8))) : (s.setRelayBuf i x).now = s.now := rfl
@[simp] theorem State.setRelayBuf_fresh (i : Nat) (x : (List (BitVec 8))) : (s.setRelayBuf i x).fresh = s.fresh := rfl
@[simp] theorem State.setRelayBuf_pending (i : Nat) (x : (List (BitVec 8))) : (s.setRelayBuf i x).pending = s.pending := rfl
@[simp] theorem State.setSett_act (i : Nat) (x : SettX) : (s.setSett i x).act = s.act := rfl
@[simp] theorem State.setSett_stg (i : Nat) (x : SettX) : (s.setSett i x).stg = s.stg := rfl
@[simp] theorem State.setSett_mem (i : Nat) (x : SettX) : (s.setSett i x).mem = s.mem := rfl
@[simp] theorem State.setSett_por (i : Nat) (x : SettX) : (s.setSett i x).por = s.por := rfl
@[simp] theorem State.setSett_now (i : Nat) (x : SettX) : (s.setSett i x).now = s.now := rfl
@[simp] theorem State.setSett_fresh (i : Nat) (x : SettX) : (s.setSett i x).fresh = s.fresh := rfl
@[simp] theorem State.setSett_pending (i : Nat) (x : SettX) : (s.setSett i x).pending = s.pending := rfl
@[simp] theorem State.setOpened_act (i : Nat) (x : Nat) : (s.setOpened i x).act = s.act := rfl
@[simp] theorem State.setOpened_stg (i : Nat) (x : Nat) : (s.setOpened i x).stg = s.stg := rfl
@[simp] theorem State.setOpened_mem (i : Nat) (x : Nat) : (s.setOpened i x).mem = s.mem := rfl
@[simp] theorem State.setOpened_por (i : Nat) (x : Nat) : (s.setOpened i x).por = s.por := rfl
@[simp] theorem State.setOpened_now (i : Nat) (x : Nat) : (s.setOpened i x).now = s.now := rfl
@[simp] theorem State.setOpened_fresh (i : Nat) (x : Nat) : (s.setOpened i x).fresh = s.fresh := rfl
@[simp] theorem State.setOpened_pending (i : Nat) (x : Nat) : (s.setOpened i x).pending = s.pending := rfl
@[simp] theorem State.setSp_act (i : Nat) (x : HartX) : (s.setSp i x).act = s.act := rfl
@[simp] theorem State.setSp_stg (i : Nat) (x : HartX) : (s.setSp i x).stg = s.stg := rfl
@[simp] theorem State.setSp_mem (i : Nat) (x : HartX) : (s.setSp i x).mem = s.mem := rfl
@[simp] theorem State.setSp_por (i : Nat) (x : HartX) : (s.setSp i x).por = s.por := rfl
@[simp] theorem State.setSp_now (i : Nat) (x : HartX) : (s.setSp i x).now = s.now := rfl
@[simp] theorem State.setSp_fresh (i : Nat) (x : HartX) : (s.setSp i x).fresh = s.fresh := rfl
@[simp] theorem State.setSp_pending (i : Nat) (x : HartX) : (s.setSp i x).pending = s.pending := rfl
@[simp] theorem State.setOwl_act (i : Nat) (x : HartX) : (s.setOwl i x).act = s.act := rfl
@[simp] theorem State.setOwl_stg (i : Nat) (x : HartX) : (s.setOwl i x).stg = s.stg := rfl
@[simp] theorem State.setOwl_mem (i : Nat) (x : HartX) : (s.setOwl i x).mem = s.mem := rfl
@[simp] theorem State.setOwl_por (i : Nat) (x : HartX) : (s.setOwl i x).por = s.por := rfl
@[simp] theorem State.setOwl_now (i : Nat) (x : HartX) : (s.setOwl i x).now = s.now := rfl
@[simp] theorem State.setOwl_fresh (i : Nat) (x : HartX) : (s.setOwl i x).fresh = s.fresh := rfl
@[simp] theorem State.setOwl_pending (i : Nat) (x : HartX) : (s.setOwl i x).pending = s.pending := rfl
@[simp] theorem State.setSac_act (i : Nat) (x : SacX) : (s.setSac i x).act = s.act := rfl
@[simp] theorem State.setSac_stg (i : Nat) (x : SacX) : (s.setSac i x).stg = s.stg := rfl
@[simp] theorem State.setSac_mem (i : Nat) (x : SacX) : (s.setSac i x).mem = s.mem := rfl
@[simp] theorem State.setSac_por (i : Nat) (x : SacX) : (s.setSac i x).por = s.por := rfl
@[simp] theorem State.setSac_now (i : Nat) (x : SacX) : (s.setSac i x).now = s.now := rfl
@[simp] theorem State.setSac_fresh (i : Nat) (x : SacX) : (s.setSac i x).fresh = s.fresh := rfl
@[simp] theorem State.setSac_pending (i : Nat) (x : SacX) : (s.setSac i x).pending = s.pending := rfl
@[simp] theorem State.setSvp_act (i : Nat) (x : SvpX) : (s.setSvp i x).act = s.act := rfl
@[simp] theorem State.setSvp_stg (i : Nat) (x : SvpX) : (s.setSvp i x).stg = s.stg := rfl
@[simp] theorem State.setSvp_mem (i : Nat) (x : SvpX) : (s.setSvp i x).mem = s.mem := rfl
@[simp] theorem State.setSvp_por (i : Nat) (x : SvpX) : (s.setSvp i x).por = s.por := rfl
@[simp] theorem State.setSvp_now (i : Nat) (x : SvpX) : (s.setSvp i x).now = s.now := rfl
@[simp] theorem State.setSvp_fresh (i : Nat) (x : SvpX) : (s.setSvp i x).fresh = s.fresh := rfl
@[simp] theorem State.setSvp_pending (i : Nat) (x : SvpX) : (s.setSvp i x).pending = s.pending := rfl
@[simp] theorem State.setBoost_act (i : Nat) (x : Bool) : (s.setBoost i x).act = s.act := rfl
@[simp] theorem State.setBoost_stg (i : Nat) (x : Bool) : (s.setBoost i x).stg = s.stg := rfl
@[simp] theorem State.setBoost_mem (i : Nat) (x : Bool) : (s.setBoost i x).mem = s.mem := rfl
@[simp] theorem State.setBoost_por (i : Nat) (x : Bool) : (s.setBoost i x).por = s.por := rfl
@[simp] theorem State.setBoost_now (i : Nat) (x : Bool) : (s.setBoost i x).now = s.now := rfl
@[simp] theorem State.setBoost_fresh (i : Nat) (x : Bool) : (s.setBoost i x).fresh = s.fresh := rfl
@[simp] theorem State.setBoost_pending (i : Nat) (x : Bool) : (s.setBoost i x).pending = s.pending := rfl
@[simp] theorem State.setWdog_act (i : Nat) (x : Nat) : (s.setWdog i x).act = s.act := rfl
@[simp] theorem State.setWdog_stg (i : Nat) (x : Nat) : (s.setWdog i x).stg = s.stg := rfl
@[simp] theorem State.setWdog_mem (i : Nat) (x : Nat) : (s.setWdog i x).mem = s.mem := rfl
@[simp] theorem State.setWdog_por (i : Nat) (x : Nat) : (s.setWdog i x).por = s.por := rfl
@[simp] theorem State.setWdog_now (i : Nat) (x : Nat) : (s.setWdog i x).now = s.now := rfl
@[simp] theorem State.setWdog_fresh (i : Nat) (x : Nat) : (s.setWdog i x).fresh = s.fresh := rfl
@[simp] theorem State.setWdog_pending (i : Nat) (x : Nat) : (s.setWdog i x).pending = s.pending := rfl
@[simp] theorem State.setGsl_act (i : Nat) (x : GslX) : (s.setGsl i x).act = s.act := rfl
@[simp] theorem State.setGsl_stg (i : Nat) (x : GslX) : (s.setGsl i x).stg = s.stg := rfl
@[simp] theorem State.setGsl_mem (i : Nat) (x : GslX) : (s.setGsl i x).mem = s.mem := rfl
@[simp] theorem State.setGsl_por (i : Nat) (x : GslX) : (s.setGsl i x).por = s.por := rfl
@[simp] theorem State.setGsl_now (i : Nat) (x : GslX) : (s.setGsl i x).now = s.now := rfl
@[simp] theorem State.setGsl_fresh (i : Nat) (x : GslX) : (s.setGsl i x).fresh = s.fresh := rfl
@[simp] theorem State.setGsl_pending (i : Nat) (x : GslX) : (s.setGsl i x).pending = s.pending := rfl
@[simp] theorem State.setRoute_act (i : Nat) (x : RouteMode) : (s.setRoute i x).act = s.act := rfl
@[simp] theorem State.setRoute_stg (i : Nat) (x : RouteMode) : (s.setRoute i x).stg = s.stg := rfl
@[simp] theorem State.setRoute_mem (i : Nat) (x : RouteMode) : (s.setRoute i x).mem = s.mem := rfl
@[simp] theorem State.setRoute_por (i : Nat) (x : RouteMode) : (s.setRoute i x).por = s.por := rfl
@[simp] theorem State.setRoute_now (i : Nat) (x : RouteMode) : (s.setRoute i x).now = s.now := rfl
@[simp] theorem State.setRoute_fresh (i : Nat) (x : RouteMode) : (s.setRoute i x).fresh = s.fresh := rfl
@[simp] theorem State.setRoute_pending (i : Nat) (x : RouteMode) : (s.setRoute i x).pending = s.pending := rfl
@[simp] theorem State.setDma_act (i : Nat) (x : DmaX) : (s.setDma i x).act = s.act := rfl
@[simp] theorem State.setDma_stg (i : Nat) (x : DmaX) : (s.setDma i x).stg = s.stg := rfl
@[simp] theorem State.setDma_mem (i : Nat) (x : DmaX) : (s.setDma i x).mem = s.mem := rfl
@[simp] theorem State.setDma_por (i : Nat) (x : DmaX) : (s.setDma i x).por = s.por := rfl
@[simp] theorem State.setDma_now (i : Nat) (x : DmaX) : (s.setDma i x).now = s.now := rfl
@[simp] theorem State.setDma_fresh (i : Nat) (x : DmaX) : (s.setDma i x).fresh = s.fresh := rfl
@[simp] theorem State.setDma_pending (i : Nat) (x : DmaX) : (s.setDma i x).pending = s.pending := rfl
@[simp] theorem State.setShut_act (i : Nat) (x : Bool) : (s.setShut i x).act = s.act := rfl
@[simp] theorem State.setShut_stg (i : Nat) (x : Bool) : (s.setShut i x).stg = s.stg := rfl
@[simp] theorem State.setShut_mem (i : Nat) (x : Bool) : (s.setShut i x).mem = s.mem := rfl
@[simp] theorem State.setShut_por (i : Nat) (x : Bool) : (s.setShut i x).por = s.por := rfl
@[simp] theorem State.setShut_now (i : Nat) (x : Bool) : (s.setShut i x).now = s.now := rfl
@[simp] theorem State.setShut_fresh (i : Nat) (x : Bool) : (s.setShut i x).fresh = s.fresh := rfl
@[simp] theorem State.setShut_pending (i : Nat) (x : Bool) : (s.setShut i x).pending = s.pending := rfl
@[simp] theorem State.setDrain_act (i : Nat) (x : (List Nat)) : (s.setDrain i x).act = s.act := rfl
@[simp] theorem State.setDrain_stg (i : Nat) (x : (List Nat)) : (s.setDrain i x).stg = s.stg := rfl
@[simp] theorem State.setDrain_mem (i : Nat) (x : (List Nat)) : (s.setDrain i x).mem = s.mem := rfl
@[simp] theorem State.setDrain_por (i : Nat) (x : (List Nat)) : (s.setDrain i x).por = s.por := rfl
@[simp] theorem State.setDrain_now (i : Nat) (x : (List Nat)) : (s.setDrain i x).now = s.now := rfl
@[simp] theorem State.setDrain_fresh (i : Nat) (x : (List Nat)) : (s.setDrain i x).fresh = s.fresh := rfl
@[simp] theorem State.setDrain_pending (i : Nat) (x : (List Nat)) : (s.setDrain i x).pending = s.pending := rfl
@[simp] theorem State.setBmReq_act (i : Nat) (x : (Option (Option Sys2Proof.MemReq))) : (s.setBmReq i x).act = s.act := rfl
@[simp] theorem State.setBmReq_stg (i : Nat) (x : (Option (Option Sys2Proof.MemReq))) : (s.setBmReq i x).stg = s.stg := rfl
@[simp] theorem State.setBmReq_mem (i : Nat) (x : (Option (Option Sys2Proof.MemReq))) : (s.setBmReq i x).mem = s.mem := rfl
@[simp] theorem State.setBmReq_por (i : Nat) (x : (Option (Option Sys2Proof.MemReq))) : (s.setBmReq i x).por = s.por := rfl
@[simp] theorem State.setBmReq_now (i : Nat) (x : (Option (Option Sys2Proof.MemReq))) : (s.setBmReq i x).now = s.now := rfl
@[simp] theorem State.setBmReq_fresh (i : Nat) (x : (Option (Option Sys2Proof.MemReq))) : (s.setBmReq i x).fresh = s.fresh := rfl
@[simp] theorem State.setBmReq_pending (i : Nat) (x : (Option (Option Sys2Proof.MemReq))) : (s.setBmReq i x).pending = s.pending := rfl

end Sys2Proof.Machine
end

