-- ==== Sys2Proof/WellFormed.lean ====
section
/-! DEFINITION. Which operands a command can carry, where their types do not already say it: the shapes of packets, frames and TLPs. -/
namespace Sys2Proof

/-- A response carries eight poison bits. -/
def Rsp.wf : Rsp → Bool
  | .data v p => decide (v < 2 ^ 512 ∧ p < 256)
  | .ack | .decode | .denied | .link => true

/-- A request packet (R397): a read or write of 4 to 64 bytes, 4-byte aligned, within one line; a masked write or a line-OR of the
line; an atomic of 4 or 8 bytes, naturally aligned; a message of 8 to 32 bytes. -/
def MemReq.wf (q : MemReq) : Bool :=
  let a := q.addr.toNat
  match q.op with
  | .rd | .wr => decide (4 ≤ q.len ∧ q.len ≤ 64 ∧ a % 4 = 0 ∧ q.len % 4 = 0 ∧ a % 64 + q.len ≤ 64)
  | .wrp _ | .aor => decide (q.len ≤ 64)
  | .amo _ => decide ((q.len = 4 ∨ q.len = 8) ∧ a % q.len = 0)
  | .msg _ => decide (8 ≤ q.len ∧ q.len ≤ 32)

def GPkt.wf : GPkt → Bool
  | .req _ q => q.wf
  | .rsp _ r => r.wf

/-- A DATA frame: one of four virtual channels, 14-bit device numbers, packets that are packets (R46, R468, R469). -/
def GFrame.wf (f : GFrame) : Bool := decide (f.vc < 4 ∧ f.dst < 2 ^ 14 ∧ f.src < 2 ^ 14) && decide (f.pkts.length ≤ 2) && f.pkts.all GPkt.wf

/-- A memory TLP: a read of up to 4,096 bytes, a write that carries its bytes, up to 512. -/
def Tlp.wf (t : Tlp) : Bool :=
  decide (1 ≤ t.len ∧ t.len ≤ 4096) && (!t.write || decide (t.data.length = t.len ∧ t.len ≤ 512))

/-- The command's operands have their shapes. -/
def Instr.wf : Instr → Bool
  | .nocRequestAdmit q => q.wf
  | .gslDataFrame _ _ f => f.wf
  | .pcieMemoryRequest t r => t.wf && r.wf
  | .dmaDescriptorDone _ data _ _ r => decide (data.length ≤ 16777216) && r.wf
  | .registerWrite _ _ _ _ r | .spInstruction _ r | .dbgaccWrite _ _ _ r | .dfeed _ _ _ r | .denBmDone _ r => r.wf
  | .relayImageData _ _ data => decide (data.length ≤ 216)
  | .i2cDone _ _ _ data => decide (data.length ≤ 32)
  | .spiDone _ data => decide (data.length ≤ 64)
  | _ => true

end Sys2Proof
end

