-- ==== Sys2Proof/Tests/Slice0.lean ====
section
/-! SUPPORT. Tests on small states, expected results from the rules named; ill-formed operands; and for each statement a state that meets
its hypotheses. -/
namespace Sys2Proof.Tests
open Sys2Proof Sys2Proof.Machine
set_option Elab.async false

/-- A package after start-up: every function ready, every block clocked, REFCLK present and the PLLs locked. -/
def upDie (s : State) (d : Nat) : State :=
  ((((s.wr (dctlB d) DCTL_READY.BITS 0x7FFFFFFF).wr (ckpB d) CKP_GST0.ST 0x7FFFFF).wr (ckpB d) CKP_GST1.ST 0xFFFF).wr (ckpB d)
    CKP_GST2.ST 0x3FFFF).wr (ckpB d) CKP_STAT.LOCK 31
def up : State := upDie (upDie (upDie (upDie { por := false } 0) 1) 2) 3

/-! ## Ill-formed operands -/

def okReq : MemReq := ⟨.pf, true, none, .rd, 0x40, 8, 0, 0, none⟩
def okFrame : GFrame := { type := 1, vc := 3, dst := 5, src := 6, pkts := [.req 0 okReq] }
def okHdr : GHdr := ⟨0, 0, false, 0, 0, false, 0, 0⟩
def okTlp : Tlp := { fn := none, bar := 0, offset := 0, write := true, len := 2, data := [1, 2], pois := false }

theorem test_wellFormed : (Instr.nocRequestAdmit okReq).wf = true ∧ (Instr.gslDataFrame 0 okHdr okFrame).wf = true ∧
    (Instr.pcieMemoryRequest okTlp .ack).wf = true ∧ (Instr.spInstruction 0 (.data (2 ^ 512 - 1) 255)).wf = true := by decide +kernel
theorem test_illFormed_response : (Instr.spInstruction 0 (.data (2 ^ 512) 0)).wf = false ∧ (Instr.spInstruction 0 (.data 0 256)).wf = false := by decide +kernel
theorem test_illFormed_request :
    (Instr.nocRequestAdmit { okReq with len := 3 }).wf = false ∧ (Instr.nocRequestAdmit { okReq with len := 68 }).wf = false ∧
    (Instr.nocRequestAdmit { okReq with len := 6 }).wf = false ∧ (Instr.nocRequestAdmit { okReq with addr := 0x42 }).wf = false ∧
    (Instr.nocRequestAdmit { okReq with addr := 0x7C }).wf = false ∧ (Instr.nocRequestAdmit { okReq with op := .aor, len := 65 }).wf = false ∧
    (Instr.nocRequestAdmit { okReq with op := .amo .add, len := 2 }).wf = false ∧
    (Instr.nocRequestAdmit { okReq with op := .amo .add, addr := 4 }).wf = false ∧
    (Instr.nocRequestAdmit { okReq with op := .msg 0, len := 4 }).wf = false ∧
    (Instr.nocRequestAdmit { okReq with op := .msg 0, len := 40 }).wf = false := by decide +kernel
theorem test_illFormed_frame : (GFrame.wf { okFrame with vc := 4 }) = false ∧ (GFrame.wf { okFrame with dst := 16384 }) = false ∧
    (GFrame.wf { okFrame with src := 16384 }) = false ∧ (GFrame.wf { okFrame with pkts := [.rsp 0 .ack, .rsp 0 .ack, .rsp 0 .ack] }) = false ∧
    (GFrame.wf { okFrame with pkts := [.req 0 { okReq with len := 0 }] }) = false ∧
    (GFrame.wf { okFrame with pkts := [.rsp 0 (.data 0 256)] }) = false := by decide +kernel
theorem test_illFormed_tlp : (Tlp.wf { okTlp with len := 0 }) = false ∧ (Tlp.wf { okTlp with write := false, len := 4097 }) = false ∧
    (Tlp.wf { okTlp with len := 3 }) = false := by decide +kernel
theorem test_illFormed_data : (Instr.relayImageData 0 okHdr (List.replicate 217 0)).wf = false ∧
    (Instr.spiDone 0 (List.replicate 65 0)).wf = false ∧
    (Instr.i2cDone 0 0 none (List.replicate 33 0)).wf = false := by decide +kernel

/-! ## The machine's step, network and registers -/

theorem witness_StepTakesFront : ({ up with pending := [.cfeWaitTimeout 0] } : State).pending = .cfeWaitTimeout 0 :: [] ∧ up.pending = [] := ⟨rfl, rfl⟩
theorem witness_FieldAccessCodes : (5 : Nat) < PSQ_START_AT_LO.TICK.width ∧ up.rd (psqB 0) PSQ_START_AT_LO.TICK < 2 ^ PSQ_START_AT_LO.TICK.width ∧
    PSQ_START_AT_LO.TICK.key (psqB 0) ≠ PSQ_START_AT_LO.TICK.key (psqB 1) := by decide +kernel
theorem witness_StorageInvariant : State.reset.regsWf = true ∧ Memory.wf State.reset.mem = true ∧
    (∃ t, step State.reset = .next t) := ⟨by decide, by decide, _, rfl⟩
theorem witness_StoreReadsBack : up.regsWf = true ∧ Memory.wf up.mem = true ∧ Memory.wf (up.wrMem 7 4 0xA0B0C0D).mem = true := by decide +kernel
theorem witness_CountersAndSequences : up.rd (dctlB 3) DCTL_READY.BITS < 2 ^ DCTL_READY.BITS.width ∧ (3 + 7) % 2 ^ 3 = 2 := by decide +kernel
theorem witness_EveryCommandCompletes : exec (.cfeWaitTimeout 0) up = .next up := rfl
theorem witness_CommandFrames : ∃ t, exec (.devnumWrite 0 5) up = .next t ∧ Part.mem ∉ mayChange (.devnumWrite 0 5) := ⟨_, rfl, by decide⟩

/-- A bundle in training, one UP with two free lanes, one with a swap and one with a recalibration under way. -/
def b20 : State := (up.wr (bundleB 0 0 20) D2D_BST.STATE 1).setBundle (bundleNo 0 0 20) { launched := true }
def b3 : State := ((up.wr (bundleB 1 1 3) D2D_BST.STATE 2).wr (bundleB 1 1 3) D2D_LMAP_LO.V 0x76543210).wr (bundleB 1 1 3) D2D_LMAP_HI.V 0x998
def b3swap : State := b3.setBundle (bundleNo 1 1 3) { swap := some (2, 9), announced := true }
/-- Fabric bundle 0 of die 0's edge E is UP and the crossings are clocked. -/
def crossOn : State := (up.wr (bundleB 0 0 16) D2D_BST.STATE 2).wr (domB 0 16) (CKP_DOM.SRC 0 16) srcPAT
theorem witness_DieLinks : up.ready 3 rdyCKP = true ∧ up.ready ((3 + 1) % 4) rdyCKP = true ∧ b20.bundleState 0 0 20 = 1 ∧
    (b20.bundle (bundleNo 0 0 20)).launched = true ∧ peerOf 0 0 = 1 ∧ (2#2).toNat ≠ peerOf 0 0 ∧
    crossOn.bundleState 0 0 16 = 2 ∧ crossOn.crossingClock = true ∧ crossOn.domStopped 0 16 = false ∧ crossOn.domStopped 1 16 = false ∧
    (crossOn.setCrossPipe 0 [1, 2, 3, 4, 5, 6]).crossPipe 0 = 1 :: [2, 3, 4, 5, 6] ∧ (crossOn.crossPipe 0).length < 6 ∧
    up.bundleState 0 0 16 ≠ 2 := by decide +kernel
theorem witness_LaneSwaps : up.bundleState 1 1 3 < 2 ∧ 2 ≤ b3.bundleState 1 1 3 ∧ (b3.bundle (bundleNo 1 1 3)).swap = none ∧
    (b3.bundle (bundleNo 1 1 3)).recal = none ∧ (b3.freeLanes 1 1 3).head? = some 9 ∧ b3.activeLane 1 1 3 0 = true ∧
    ((b3.setRole 1 1 3 9 roleRETIRED).setRole 1 1 3 10 roleRETIRED).freeLanes 1 1 3 = [] ∧
    (b3swap.bundle (bundleNo 1 1 3)).swap = some (2, 9) ∧ (b3swap.bundle (bundleNo 1 1 3)).announced = true ∧
    up.answers .d2d 1 0 = true ∧ up.on (d2dB 1) D2D_CRES.ACKD = true ∧ up.on (d2dB 1) D2D_CRES.VALID = false ∧
    ((b3.setBundle (bundleNo 1 1 3) { recal := some (0, 9) }).bundle (bundleNo 1 1 3)).recal = some (0, 9) ∧ (b3swap.bundle (bundleNo 1 1 3)).byCmd = false ∧
    (b3swap.bundle (bundleNo 1 1 3)).waiting = [] ∧ (up.wr (d2dB 1) D2D_CRES.ACKD 0).on (d2dB 1) D2D_CRES.ACKD = false ∧ (up.wr (d2dB 1) D2D_CRES.VALID 1).on (d2dB 1) D2D_CRES.VALID = true ∧ State.reset.answers .d2d 1 0 = false := by decide +kernel

def regReq : MemReq := ⟨.pf, true, none, .wr, 0x7F00000024, 4, 0, 0, none⟩
def aFlight : Flight := ⟨7, regReq, .regs 0, 1, [], [], 0, some .ack⟩
def lnkDown : State := up.wr (bundleB 0 0 0) D2D_BST.STATE 0
theorem witness_Network : (∃ r f, up.admission { regReq with addr := 0x60 } = .no r f) ∧ (∃ t o b, up.admission regReq = .go t o b) ∧
    (up.flights.find? fun f => f.id == 7) = none ∧ ({ up with flights := [aFlight] }.flights.find? fun f => f.id == 7) = some aFlight ∧
    lnkDown.torusLinkDown 0 = true ∧ up.answers .noc 3 0 = true := ⟨⟨_, _, rfl⟩, ⟨_, _, _, rfl⟩, by decide +kernel⟩
theorem witness_RegisterAccess : RegReach up .pf true 0x7F00000024 ∧ RegReach up .pf false 0x7F00000024 ∧
    (∃ p, placeOf 0x7F01000008 = some p ∧ p.off = 8 ∧ up.answersTo .pf p = true ∧ p.k = .tcb ∧ p.mirrorBlock = false ∧
      up.on p.base BLK_COMMIT.BUSY = false ∧ up.commitCheck p false = true ∧ up.tableChanged p = false) :=
  ⟨⟨⟨_, rfl⟩, _, _, _, rfl⟩, ⟨⟨_, rfl⟩, _, _, _, rfl⟩, _, rfl, by decide +kernel⟩
theorem test_devnum : ∃ t, exec (.devnumWrite 0 5) up = .next t ∧ t.rd (dctlB 0) DCTL_DEVNUM.DEVNUM = 5 ∧
    ∃ u, exec (.devnumWrite 0 9) t = .next u ∧ u.rd (dctlB 0) DCTL_DEVNUM.DEVNUM = 5 ∧ u.on (dctlB 0) BLK_STAT.LOCKW = true :=
  ⟨_, rfl, by decide +kernel, _, rfl, by decide +kernel⟩

/-! ## The tester core -/

def safeBank : State := up.wr (tcbB 0) TCB_STAT.VCCB_OK 1
theorem witness_BankMonitors : safeBank.on (tcbB 0) TCB_STAT.VCCB_OK = true ∧ safeBank.vccbOut 0 0 = true ∧
    safeBank.vccbOut 0 (safeBank.rd (tcbB 0) TCB_VWIN.VLO) = false ∧ safeBank.vccbInside 0 (safeBank.rd (tcbB 0) TCB_VWIN.VLO + 10) = true ∧
    safeBank.vccbInside 0 (safeBank.rd (tcbB 0) TCB_VWIN.VLO + 9) = false ∧ (200#11).toNat ≤ 200 ∧ 200 < (201#11).toNat ∧ up.on (tcbB 0) TCB_STAT.VTT_OK = false ∧
    (up.wr (tcbB 0) TCB_STAT.VTT_OK 1).on (tcbB 0) TCB_STAT.VTT_OK = true := by decide +kernel
def vec : State := up.wr (tcbB 0) TCB_CTL.MODE 1
/-- Site 0, on sequencer 0, stands under the override DZ from PCLK 0 on. -/
def stopDz : State := (up.wr (siteB 0) SITE_CFG.EN 1).setPsq 0 { ovr := .dz }
theorem witness_ChannelWords : up.takes 0 0 = true ∧ (up.wr (tcbB 0) TCB_CTL.CADN 1).takes 0 1 = false ∧ up.differential 0 = false ∧
    up.overrideAt 0 0 = .none ∧ up.vecMode 0 = false ∧ serialWord (up.cadM 0) (up.cadN 0) 0 = some 0 ∧ vec.vecMode 0 = true ∧
    (up.wr (tcbB 0) TCB_CTL.SIG 3).differential 0 = true ∧ (1 : Fin 2304).val % 2 = 1 ∧ (0x8000000000#40).toNat / 2 ^ 39 = 1 ∧
    bits (0x700000000#40).toNat 32 4 = 7 ∧ bits (0x800000000#40).toNat 32 4 = 8 ∧ (1#5) ≠ 0 ∧ (vectorStarts (vec.period 0) 0).1 ≤ 31 ∧
    (stopDz.overrideAt 0 1 != .none) = true := by decide +kernel
def live : State := up.wr (tcbB 0) TCB_EN.EN 1
/-- Sequencer 0 runs for site 0. -/
def siteRun : State := (up.wr (psqB 0) PSQ_STAT.RUNNING 1).wr (siteB 0) SITE_CFG.EN 1
theorem witness_PinRolesAndSafe : live.answers .tcb 0 0 = true ∧ live.pinSafe 0 = false ∧ live.pinSafe 1 = true ∧
    live.on (chB 0) CH_ROLE.BUSY = false ∧ (live.wr (chB 0) CH_ROLE.BUSY 1).on (chB 0) CH_ROLE.BUSY = true ∧
    live.rd (chB 0) CH_ROLE.CUR = 0 ∧ live.paramTaken 0 = false ∧ (live.wr (chB 5) CH_ROLE.CUR 1).paramTaken 0 = true ∧
    (live.pin 0).mid = false ∧ bitAt (live.bank 0).etcPins 0 = false ∧ (3#32).toNat % 4 = 3 ∧ (2#32).toNat % 4 ≠ 3 ∧
    ((live.setPin 0 { tgt := 1 }).pin 0).tgt = 1 ∧ ((live.setPin 0 { src := 1, tgt := 2 }).pin 0).src = 1 ∧
    ((live.setPin 0 { enab := true, tgt := 0 }).pin 0).enab = true ∧ live.differential 0 = false ∧
    ((live.wr (tcbB 0) TCB_CTL.SIG 3).differential 0) = true ∧ 2048 < (2049#32).toNat % 4096 ∧ (2048 : Fin 2049).val = 2048 := by decide +kernel
theorem test_role_on_live_pin : ∃ t, exec (.roleWrite 0 1) live = .next t ∧ t.on (chB 0) CH_ROLE.BUSY = true ∧ (t.pin 0).drv = false ∧
    t.rd (chB 0) CH_ROLE.CUR = 0 := ⟨_, rfl, by decide +kernel⟩
def etc : State := (up.wr (tcbB 0) TCB_STAT.ETC_BUSY 1).wr (tcbB 0) TCB_ETC_RES.VALID 1
theorem witness_EquivalentTime : up.answers .tcb 0 0 = true ∧ (up.bank 0).etcAckd = true ∧ up.on (tcbB 0) TCB_STAT.ETC_BUSY = false ∧
    etc.on (tcbB 0) TCB_STAT.ETC_BUSY = true ∧ etc.on (tcbB 0) TCB_ETC_RES.VALID = true ∧ (etc.bank 0).etcThr < etc.etcNTH 0 ∧
    etc.etcNTH 0 ≤ ((etc.setBank 0 { etcThr := etc.etcNTH 0 }).bank 0).etcThr ∧
    ((etc.setBank 0 { etcTrigs := [5] }).bank 0).etcTrigs ≠ [] ∧ (etc.bank 0).etcTrigs = [] ∧ up.on (tcbB 0) TCB_ETC_RES.VALID = false ∧
    ((up.setBank 0 { etcAckd := false }).bank 0).etcAckd = false ∧ (etc.bank 0).etcAt + 8 * 2 ^ 24 ≤ (etc.setTick 0 (2 ^ 27)).tick 0 ∧
    (etc.setTick 0 (2 ^ 27 - 1)).tick 0 < (etc.bank 0).etcAt + 8 * 2 ^ 24 ∧ (live.wr (chB 0) CH_ROLE.CUR 2).pinSafe 0 = false ∧ (live.wr (chB 0) CH_ROLE.CUR 2).rd (chB 0) CH_ROLE.CUR = 2 := by decide +kernel
/-- A correction of −9 steps is needed on the pins of bank 0. -/
def drifted : State := up.setBank 0 { drift := -9 }
def withCal : State := up.setSett 0 { recs := [⟨0x0201, 0, 0, 1, [0]⟩] }
theorem witness_DriftAndCalibration : drifted.driftLeft 0 0 = -9 ∧ up.driftPoint 0 0 = true ∧ siteRun.driftPoint 0 0 = false ∧
    (((List.range 32).filter fun p => drifted.chanSite (0 * 32 + p) == 0 && drifted.driftLeft 0 p != 0) = List.range 32) ∧
    drifted.driftOldest 0 = some 0 ∧ drifted.tick 0 ≤ 0 + 4000000 ∧ 0 + 4000000 < (drifted.setTick 0 4000001).tick 0 ∧
    up.owlRuns 0 = true ∧ (up.setReady 0 rdyTCB false).ready 0 rdyTCB = false ∧ up.ready 0 rdyTCB = true ∧ up.ownRec 0 0x0201 0 = none ∧
    (withCal.ownRec 0 0x0201 0).isSome = true ∧ ((siteRun.wr (tcbB 0) TCB_EN.EN 1).bankRunning 0) = true ∧
    calRecordOk 0 ([0, 0, 1, 0] ++ List.replicate 796 0) = true ∧ (up.wr (tcbB 0) BLK_COMMIT.BUSY 1).on (tcbB 0) BLK_COMMIT.BUSY = true ∧
    up.bankRunning 0 = false := by decide +kernel
theorem test_drift_moves_four_steps : ∃ t, exec (.driftApply ⟨0, 0, 0⟩) drifted = .next t ∧ (t.pin 31).corr = -4 ∧
    t.driftLeft 0 31 = -5 ∧ t.on (tcbB 0) TCB_DRIFT.PEND = true := ⟨_, rfl, by decide +kernel⟩

/-! ## Levels and PMU -/

def g (x : GuestPhase) : State := up.setGuest 0 x
theorem witness_GuestPort : (g .discover).guest 0 = .discover ∧ (g .discover).guest 0 ≠ .admitted ∧ (g .admitted).guest 0 = .admitted ∧
    (g (.retrain 2)).guest 0 = .retrain 2 ∧ (g (.retrain 1)).arpAlive 0 = true ∧ (g (.retrain 0)).guest 0 ≠ .admitted ∧ (g .admitted).arpAlive 0 = true ∧ (0x4152#16).toNat = 0x4152 ∧ (0x1F#8).toNat / 16 = 1 ∧ (36#8).toNat = 36 ∧ (1101#16).toInt > 1100 ∧
    (1100#16).toInt ≤ 1100 := by decide +kernel
/-- A commit that changes the range of bank 0 is about to take effect. -/
def newRange : State := { up.wr (tcbB 0) BLK_COMMIT.BUSY 1 with held := [(TCB_CTL.THR_RNG.key (tcbB 0), 1)] }
theorem witness_LevelCodes : up.answers .arp 3 0 = true ∧ State.reset.answers .arp 3 0 = false ∧ (0xC351#32).toNat % 65536 > 50000 ∧
    vrefbOk 0 0x57E4 = true ∧ vrefbOk 0 0x6B6C = true ∧
    vrefbOk 0 0x57E3 = false ∧ vrefbOk 0 0x6B6D = false ∧ up.rd (tcbB 0) TCB_CTL.THR_RNG = 0 ∧ up.rangeDue 0 = false ∧ newRange.rangeDue 0 = true ∧ (50000#32).toNat % 65536 = 50000 ∧ up.on (arpB 0) BLK_COMMIT.BUSY = false ∧
    (up.wr (arpB 0) BLK_COMMIT.BUSY 1).on (arpB 0) BLK_COMMIT.BUSY = true := by decide +kernel
/-- R104, R16: code 0xC351 is reserved, and its write is discarded. -/
theorem test_vtt_reserved_code : ∃ t, exec (.vttWrite 5 0xC351) up = .next t ∧ t.rd (abB 5) AB_VTT.CODE = up.rd (abB 5) AB_VTT.CODE ∧
    t.on (arpB 0) BLK_STAT.RSVW = true := ⟨_, rfl, by decide +kernel⟩
def pmu : State := up.wr (abB 0) PMU_CFG.MODE 1
theorem witness_PmuMeasurement : pmu.answers .arp 0 0 = true ∧ pmu.on (abB 0) PMU_STAT.BUSY = false ∧ pmu.on (abB 0) PMU_RES_HI.ACKD = true ∧
    pmu.on (abB 0) PMU_STAT.OFF = false ∧ pmu.rd (abB 0) PMU_CFG.MODE ≠ 0 ∧ pmu.bankRoleBusy 0 = false ∧ up.rd (abB 0) PMU_CFG.MODE = 0 ∧
    ((pmu.setPmu 0 { phase := .settle }).pmu 0).phase = .settle ∧ ((pmu.setPmu 0 { phase := .convert }).pmu 0).phase = .convert ∧
    (pmu.wr (abB 0) PMU_STAT.RCHG 1).on (abB 0) PMU_STAT.RCHG = true ∧ up.on (abB 0) PMU_STAT.RCHG = false ∧
    pmu.rd (abB 0) PMU_CFG.MODE = 1 ∧ (up.wr (abB 0) PMU_CFG.MODE 2).rd (abB 0) PMU_CFG.MODE ≠ 1 ∧
    (pmu.wr (abB 0) PMU_STAT.BUSY 1).on (abB 0) PMU_STAT.BUSY = true := by decide +kernel
/-- R111: a current beyond full scale reads +131,071 with OVR. -/
theorem test_pmu_overrange : ∃ t, exec (.pmuMeasureDone 0 131072 0 0 0) (pmu.setPmu 0 { phase := .convert }) = .next t ∧
    t.rd (abB 0) PMU_RES_LO.CODE = 131071 ∧ t.on (abB 0) PMU_RES_HI.OVR = true := ⟨_, rfl, by decide +kernel⟩

/-! ## Sequencers -/

/-- Sequencer 0 in RUN, on site 0, with a word at its next place. -/
def seqRun (w : Nat) : State :=
  ((((up.wr (psqB 0) PSQ_STAT.STATE psqRUN).wr (psqB 0) PSQ_STAT.RUNNING 1).wr (siteB 0) SITE_CFG.EN 1).wr (siteB 0) SITE_CFG.PSQ 0).writeChip
    (lsAddr 0) 16 w
def psqOp (op opd : Nat) : Nat := op * 2 ^ 120 + opd * 2 ^ 96
def seqAt (op opd : Nat) : Bool :=
  let s := seqRun (psqOp op opd)
  s.psqState 0 == psqRUN && (s.psq 0).wait == .none && (s.stopAt 0).isNone &&
    (match s.due 0 with
     | .word w => w == pword (psqOp op opd)
     | _ => false)
theorem witness_PatternFlow : (List.range 11).all (fun op => seqAt op (if op = 1 ∨ op = 2 then 5 else 0)) = true := by decide +kernel
/-- Comparator 0 of Den halts sequencer 0 on every local word. -/
def tripped (s : State) : State := { s with cmps := [(96 * 8, ⟨true, 0, 0, 0, 2 ^ 32 - 1⟩)] }
theorem witness_PatternFlow_stacks : 8 ≤ (((seqRun 0).setPsq 0 { loops := List.replicate 8 ⟨false, false, false, 0, 1, 0, 0, 0⟩ }).psq 0).loops.length ∧
    16 ≤ (((seqRun 0).setPsq 0 { calls := List.replicate 16 ⟨false, 0, 0, false⟩ }).psq 0).calls.length ∧
    (((seqRun 0).setPsq 0 { loops := [⟨true, false, false, 0, 1, 0, 0, 0⟩] }).psq 0).loops = [⟨true, false, false, 0, 1, 0, 0, 0⟩] ∧
    (((seqRun 0).setPsq 0 { calls := [⟨false, 4, 0, true⟩] }).psq 0).calls = [⟨false, 4, 0, true⟩] ∧
    (((seqRun 0).setPsq 0 { loops := [⟨false, false, false, 0, 2, 0, 0, 0⟩] }).psq 0).loops = [⟨false, false, false, 0, 2, 0, 0, 0⟩] ∧
    ((seqRun 0).psq 0).loops = [] ∧ ((seqRun 0).psq 0).calls = [] := by decide +kernel
/-- REPEAT 5: whole, cut by a stop at tick 16, and halted by a comparator of Den on its word. -/
def rpt : State := seqRun (psqOp 1 5)
theorem witness_PatternFlow_repeat : rpt.countOf 0 (pword (psqOp 1 5)) = 5 ∧ rpt.issuesBefore 0 5 = 5 ∧ (rpt.recordStop 0 16).issuesBefore 0 5 = 2 ∧
    (rpt.recordStop 0 16).stopAt 0 = some 16 ∧ (rpt.issue 0 5 (pword (psqOp 1 5))).psqRunning 0 = true ∧
    ((rpt.setPsq 0 { rep := some 3 }).psq 0).rep.getD 5 = 3 ∧ ((tripped rpt).issue 0 2 (pword (psqOp 1 5))).psqRunning 0 = false ∧
    (seqRun 0).sffAt 0 = false ∧ ((seqRun 0).wr (psqB 0) PSQ_STAT.SFF 1).sffAt 0 = true := by decide +kernel
theorem witness_PatternWaits : [0x0B, 0x0C, 0x0D, 0x0E, 0x0F, 0x10, 0x13, 0x14].all (fun op => seqAt op (if op = 0x0B ∨ op = 0x0D then 3 else 0)) = true ∧
    ((seqRun (psqOp 0x11 0)).wr (psqB 0) SD_STAT.STATUS 2).due 0 = .word (pword (psqOp 0x11 0)) ∧
    (((seqRun 0).wr (psqB 0) SD_LEN.V 4).setPsq 0 { stream := true, buf := [(0, psqOp 0x12 0)] }).due 0 = .word (pword (psqOp 0x12 0)) ∧
    (seqRun 0).rd2 (psqB 0 + 8) PSQ_SYNC_AT_LO.V PSQ_SYNC_AT_HI.V ≤ ((seqRun 0).psq 0).tick ∧
    ((seqRun 0).issue 0 1 (pword 0)).psqState 0 = psqRUN ∧ ((tripped (seqRun 0)).issue 0 1 (pword 0)).psqState 0 ≠ psqRUN ∧
    ((seqRun 0).wr (psqB 0) PSQ_SYNC_AT_LO.V 8).rd2 (psqB 0) PSQ_SYNC_AT_LO.V PSQ_SYNC_AT_HI.V = 8 ∧
    (((seqRun 0).setPsq 0 { loops := [⟨true, false, false, 0, 2, 8, 8, 0⟩] }).psq 0).loops = [⟨true, false, false, 0, 2, 8, 8, 0⟩] ∧
    ((seqRun 0).wr (psqB 0) PSQ_LKGRP.GID 1).isMember 0 = true := by decide +kernel
def stopped : State := (seqRun 0).setPsq 0 { tick := 80 }
theorem witness_PatternWordChecks : up.psqState 0 ≠ psqRUN ∧ ((seqRun 0).setPsq 0 { wait := .sync 9 } |>.psq 0).wait ≠ .none ∧
    (seqRun (psqOp 0x15 0)).due 0 = .illegal 0 ∧ ((seqRun 0).setPsq 0 { stream := true }).due 0 = .illegal 4 ∧
    (((seqRun 0).wr (psqB 0) SD_LEN.V 4).setPsq 0 { stream := true }).due 0 = .missing ∧ (seqRun 0).elasticMode 0 = false ∧
    ((seqRun 0).recordStop 0 16).stopAt 0 = some 16 ∧ (seqRun (psqOp 7 0)).due 0 = .word (pword (psqOp 7 0)) := by decide +kernel
/-- Sequencer 0 waits in MATCH 4, with a pass of PCLK 1. -/
def matching : State := (seqRun 0).setPsq 0 { wait := .mtch 4 0, results := [⟨1, true, false, 16⟩] }
theorem witness_PatternWaitEnds : (seqRun 0).stopAt 0 = none ∧ (seqRun 0).psqRunning 0 = true ∧ up.psqRunning 0 = false ∧
    matching.passOf 0 1 = some 16 ∧ matching.passOf 0 2 = none ∧ matching.stopAt 0 = none ∧
    (matching.matchResults 0).filter (fun r => r.passes (matching.psq 0).start 4 0) = [⟨1, true, false, 16⟩] ∧
    (matching.matchResults 0).filter (fun r => r.passes (matching.psq 0).start 1 0) = [] ∧
    ((up.setPsq 0 { wait := .sync 9 }).psq 0).wait = .sync 9 ∧ ((up.setPsq 0 { wait := .pace 9 }).psq 0).wait = .pace 9 ∧
    ((up.setPsq 0 { wait := .segment, stream := true, buf := [(0, psqOp 0x0F 0)] }).segmentResident 0) = true ∧
    (up.wr (psqB 0) PSQ_RES.STATUS runUNDERRUN).rd (psqB 0) PSQ_RES.STATUS = runUNDERRUN ∧ up.rd (psqB 0) PSQ_CTL.UR_KEEP ≤ up.takenIn 0 0 300 ∧
    (((seqRun 0).setPsq 0 { lkEnd := true }).psq 0).lkEnd = true ∧ ((seqRun 0).setPsq 0 { tick := 808 }).haltTick 0 ≥ 800 ∧
    ((seqRun 0).recordStop 0 80).stopAt 0 = some 80 ∧ ((up.setPsq 0 { wait := .segment }).psq 0).wait = .segment ∧
    (({ seqRun 0 with stops := [⟨0, 1, 800⟩] } : State).stops.find? fun m => m.psq == 0) = some ⟨0, 1, 800⟩ ∧
    (seqRun 0).haltTick 0 < 800 ∧ ((up.setPsq 0 { ovr := .keep }).psq 0).ovr = .keep := by decide +kernel
def armable : State :=
  ((((up.wr (ckpB 0) CKP_MODE.MODE 2).wr (siteB 0) SITE_CFG.EN 1).wr (siteB 0) SITE_STAT.STATE siteACTIVE).wr (psqB 0) PSQ_RES.ACKD 1).wr (psqB 0)
    PSQ_START_AT_LO.TICK 512
theorem witness_PatternRuns : armable.answers .psq 0 0 = true ∧ State.reset.answers .psq 0 0 = false ∧
    (seqRun 0).on (psqB 0) PSQ_STAT.RUNNING = true ∧ armable.on (psqB 0) PSQ_STAT.RUNNING = false ∧
    armable.tick 0 + 2048 ≤ armable.startAt 0 ∧ armable.siteOfPsq 0 = some 0 ∧ armable.siteState 0 = siteACTIVE ∧
    armable.on (psqB 0) PSQ_RES.ACKD = true ∧ armable.psqState 0 = psqIDLE ∧ armable.mode ≠ 0 ∧ armable.on (psqB 0) PSQ_CTL.PRIME_EN = false ∧
    up.startAt 0 < up.tick 0 + 2048 ∧ (up.wr (psqB 0) PSQ_STAT.STATE psqARMED).psqState 0 = psqARMED ∧
    up.rd (psqB 0) PSQ_LKGRP.GID = 0 ∧ (seqRun 0).isMember 0 = false ∧ ((seqRun 0).wr (psqB 0) PSQ_LKGRP.GID 1).isMember 0 = true ∧
    up.inSync = false ∧ (up.wr (ptbB 0) PTB_STAT.INSYNC 1).inSync = true ∧ (up.wr (psqB 0) PSQ_STAT.STATE psqHALTED).psqState 0 = psqHALTED ∧
    (up.psq 0).bufSd = (0 : Fin 8).val ∧ (up.psq 0).bufSd ≠ (7 : Fin 8).val ∧ up.sdLen 0 0 = 0 ∧ (up.wr (psqB 0) SD_LEN.V 4).sdLen 0 0 ≠ 0 ∧
    up.siteOfPsq 15 = none ∧ (up.wr (psqB 0) PSQ_RES.ACKD 0).on (psqB 0) PSQ_RES.ACKD = false := by decide +kernel

/-! ## Time base -/

/-- Die 0 counts, at a boundary. -/
def counted : State := up.setCounting 0 true
theorem witness_TimeBase : (List.range 4).all (fun d => bitAt (up.rd (ckpB d) CKP_STAT.LOCK) 0 && !up.counting d) = true ∧
    ({ up with sync := { step := some 5 } } : State).sync.step = some 5 ∧ up.anyPsqActive = false ∧ (seqRun 0).anyPsqActive = true ∧
    up.answers .ptb 3 0 = true ∧ up.atBoundary = true ∧ counted.atBoundary = true ∧ (counted.setTick 0 1).atBoundary = false ∧
    KV.get 0 0 up.sync.fine + 255 < 256 ∧ up.on (ptbB 0) PTB_STAT.DEFER = false ∧ State.reset.answers .ptb 3 0 = false ∧ up.sync.step = none ∧ (up.wr (ptbB 0) PTB_STAT.DEFER 1).on (ptbB 0) PTB_STAT.DEFER = true := by decide +kernel

/-- A follower in TRACK with a request under way. -/
def fol : State := (((up.wr (ptbB 0) PTB_CFG.ROLE 2).wr (ptbB 0) PTB_CFG.FSRC 1).wr (ptbB 0) PTB_STAT.STATE ptbTRACK).wr (ptbB 0) PTB_THR.DLY 4
def folSent : State := { fol with sync := { fol.sync with t1 := some 1000, deltas := [40, 44] } }
theorem witness_TimeExchange : fol.isFollower = true ∧ fol.ptbState = ptbTRACK ∧ up.isFollower = false ∧ fol.sync.t1 = none ∧
    folSent.sync.t1 = some 1000 ∧ folSent.delayOk 50 = true ∧ folSent.delayOk 51 = false ∧
    (folSent.wr (ptbB 0) PTB_STAT.STATE ptbACQ).ptbState ≠ ptbTRACK ∧
    inSyncState ptbTRACK = true ∧ inSyncState ptbACQ = false ∧ folSent.sync.probation = false ∧ fol.ptbState ≠ ptbOFF ∧ fol.rd (ptbB 0) PTB_CFG.FSRC = 1 ∧ up.rd (ptbB 0) PTB_CFG.FSRC ≠ 1 := by decide +kernel

/-! ## Fail capture and repair -/

/-- A fail word with the compares `w`, as bits, of the UIs of PCLK 1. -/
def fw (due ch w : Nat) : FailWord :=
  ⟨ch, 0, ((List.range 32).filter (bitAt w)).map fun j => ⟨j, 0, 0, true, false, false, false⟩, 1, 0, 0, due⟩
def fails : State := { up with fails := [fw 90 3 1, fw 80 7 1, fw 80 5 0] }
def oneFail : State := { up with fails := [fw 80 7 1] }
def fent (k : FcuKind) : FcuEnt := { kind := k, site := 0, ch := 3, word := 1 }
def front : State := up.setFcu 0 { fifo := [fent .flush], markers := [(0, 128, 5, 6)], marks := [⟨7, 0, 1, true⟩] }
def outs (first : Bool) : State := up.setFsx 0 { out := [⟨0, [], 3, first, 0⟩], part := some ⟨64, [1, 2], 4, first, 1⟩ }
theorem witness_FailCapture : nextFail up.fails = none ∧ nextFail fails.fails = some (fw 80 5 0) ∧ nextFail oneFail.fails = some (fw 80 7 1) ∧
    ((oneFail.wr (siteB 0) SITE_STAT.STATE siteRESETTING).siteState 0 = siteRESETTING) ∧ oneFail.siteState 0 ≠ siteRESETTING ∧
    oneFail.fsMode 0 0 = modeCOUNT ∧ (oneFail.wr (fsB 0 0) FS_CFG.MODE modeBITMAP).fsMode 0 0 = modeBITMAP ∧
    ((front.fcuMove 0 16).fcuProcess 0 (fent .flush)).isSome = true ∧
    ((front.fcu 0).markers.find? fun m => m.1 == 0) = some (0, 128, 5, 6) ∧ ((up.fcu 0).markers.find? fun m => m.1 == 0) = none ∧
    (front.fcu 0).nextLine.isSome = true ∧ (up.fcu 0).nextLine = none ∧ ((outs true).fsx 0).out = [⟨0, [], 3, true, 0⟩] ∧ ((outs false).fsx 0).out = [⟨0, [], 3, false, 0⟩] ∧ (fw 80 5 0).bits = 0 ∧ (fw 80 7 1).bits ≠ 0 ∧
    (front.fcuMove 0 16).fcuProcess 0 (fent .marker) ≠ none ∧ (front.setFcu 0 { markers := [(0, 128, 5, 6)] }).fsMode 0 0 ≠ modeBITMAP ∧
    (up.wr (fsB 0 0) FS_FIRSTN.N 3).rd (fsB 0 0) FS_FIRSTN.N ≤ 3 ∧ ((outs true).wr (fsB 0 0) FS_FIRSTN.N 4).rd (fsB 0 0) FS_FIRSTN.N = 4 ∧
    ((outs false).fsx 0).part = some ⟨64, [1, 2], 4, false, 1⟩ ∧ (up.fsx 0).out = [] ∧ (up.fsx 0).part = none ∧
    (up.wr (fsB 0 0) FS_FLUSH_RES.STATUS 1).rd (fsB 0 0) FS_FLUSH_RES.STATUS = 1 ∧ up.rd (fsB 0 0) FS_FLUSH_RES.STATUS ≠ 1 ∧
    (up.fsx 0).flushAhead = false := by decide +kernel
/-- R190: the channel's counter of fail bits, the site's counter of fail words. -/
theorem test_fail_counts : ∃ t, exec .failWordDelivery { up with fails := [fw 80 7 0xF1] } = .next t ∧ t.rd (fcuB 0 + 56) FC_LO.V = 5 ∧
    t.rd (fsB 0 0) FS_TOTAL_LO.V = 1 ∧ t.fails = [] := ⟨_, rfl, by decide +kernel⟩
theorem witness_FailControls : up.answers .fcu 3 0 = true ∧ State.reset.answers .fcu 3 0 = false ∧
    up.rd (fsB 0 0) FS_FLUSH_RES.STATUS ≠ 1 ∧ up.on (fsB 0 0) FS_FLUSH_RES.ACKD = true ∧
    (up.wr (fsB 0 0) FS_FLUSH_RES.ACKD 0).on (fsB 0 0) FS_FLUSH_RES.ACKD = false ∧ up.on (fsB 0 0) FS_FLUSH_RES.VALID = false ∧
    (up.siteRunning 0 || up.fcuHolds 0 0 || up.fcuLines 0 0 || up.rd (fsB 0 0) FS_FLUSH_RES.STATUS == 1) = false ∧
    front.fcuLines 0 0 = true ∧ (up.wr (fsB 0 0) FS_FLUSH_RES.STATUS 1).rd (fsB 0 0) FS_FLUSH_RES.STATUS = 1 ∧
    (up.wr (fsB 0 0) FS_FLUSH_RES.VALID 1).on (fsB 0 0) FS_FLUSH_RES.VALID = true ∧ (575 : Fin 576).val = 575 ∧ 2 ^ (up.rd (fsB 0 0) FS_RSIZE.LOG2) < seqDiff 32 (up.rd (fsB 0 0) FS_WRPTR.WR) 1 ∧
    seqDiff 32 (up.rd (fsB 0 0) FS_WRPTR.WR) 0 = 0 ∧ bitAt (0x80000000#32).toNat 31 = true := by decide +kernel

def active : State := up.wr (siteB 0) SITE_STAT.STATE siteACTIVE
/-- Every memory port with a DIMM and a range under a valid key. -/
def dramUp : State := up.each (List.range 8) fun m s =>
  (((s.wr (imeP m) MI_RCFG.EN 1).wr (imeP m) MI_RLIM.V 0xFFFF).wr (imeP m) MI_KINFO.VALID 1).wr (mpB m) MP_DIMM.SIZE 32
def jobAt (s : State) : State := s.setRae 0 { queue := [3] }
theorem witness_RepairJobs : up.answers .rae 3 1 = true ∧ State.reset.answers .rae 3 1 = false ∧ active.slotClass 0 3 ≠ classPENDING ∧
    active.on (rjB 0 3) RJ_RES.ACKD = true ∧ active.siteState 0 = siteACTIVE ∧ up.siteState 0 ≠ siteACTIVE ∧
    (up.wr (rjB 0 3) RJ_RES.CLASS classPENDING).slotClass 0 3 = classPENDING ∧ up.on (rjB 0 3) RJ_RES.VALID = false ∧
    (up.rae 0).run = none ∧ ((jobAt up).rae 0).queue = [3] ∧ ((jobAt up).startOf 0 3).1 = .refused ∧
    (dramUp.getBytes (dramUp.raeWho 0 3) 0 64).1.err = none ∧ up.descReject 0 (List.replicate 128 0) = some 0 ∧
    ((jobAt (up.wr (rjB 0 3) RJ_ADDR_HI.ADDR 1)).startOf 0 3).1 = .outside ∧
    ((up.setRae 0 { run := some 3, desc := List.replicate 128 0 }).rae 0).run = some 3 ∧
    (solve ⟨1, 0, 8, false⟩ (2 ^ 32) [(5, 1)]).out = false ∧ (solve ⟨1, 1, 8, true⟩ 0 [(1, 1), (2, 2)]).out = true := by decide +kernel
/-- R217, R218: two failing cells of one row cost the one spare row. -/
theorem witness_RepairCovers : (solve ⟨1, 0, 8, false⟩ 100 [(5, 3)]).cls = classREPAIRABLE ∧ (solve ⟨1, 0, 8, false⟩ 100 [(5, 3)]).rows = [5] ∧
    (solve ⟨1, 1, 8, true⟩ 100 [(1, 3), (2, 3), (3, 3)]).cls = classUNREPAIRABLE := by decide +kernel

/-! ## Programmable fabric -/

def loaded : State := up.wr (frB 0) FR_STAT.STATE frLOADED
/-- Region 0 runs and holds the word `op` in the slot of cell 0. -/
def cellOp (op : Nat) : State := loaded.wrMem (frameAddr (frameNo 0 0 0)) 4 (op * 2 ^ 26)
theorem witness_CellCycle : (cellCommands 0 0).length = 53 ∧ lineFrom 1 false false ≠ none ∧ ((cellCommands 0 0).all fun k =>
      (cellOp k.1).regionRuns 0 ((cellOp k.1).clusterClock 0 0 0) && insnOp ((cellOp k.1).slotWord 0) == k.1 &&
      insnLegal 0 0 ((cellOp k.1).slotWord 0)) = true ∧ up.regionRuns 0 (up.clusterClock 0 0 0) = false := by decide +kernel
/-- R233: 200 + 100 is 44 with a carry; 2's complement extremes; a Gray code; leading zeros. -/
theorem test_cell_results : (cellADD ⟨200, 100, 0, 0, 0, false, false, false⟩).r = 44 ∧ (cellADD ⟨200, 100, 0, 0, 0, false, false, false⟩).c = some true ∧
    (cellSUB ⟨5, 7, 0, 0, 1, false, false, false⟩).r = 254 ∧ (cellMINS ⟨0x80, 0x7F, 0, 0, 0, false, false, false⟩).r = 0x80 ∧
    (cellGRAY ⟨3, 0, 0, 0, 0, false, false, false⟩).r = 2 ∧ (cellCLZ ⟨1, 0, 0, 0, 0, false, false, false⟩).r = 7 := by decide +kernel
theorem witness_CellResults : (255 < 256) ∧ sgn 8 255 = -1 ∧ sgn 8 127 = 127 := by decide
def portIn (c : BitVec 9) : PortIn := ⟨c, 5, 0, 7⟩
def storeFlight (a : BitVec 40) : State := { up with flights := [⟨7, { regReq with op := .rd, addr := a, len := 8 }, .store 0, 0, [], [], 0, none⟩] }
theorem witness_StorePorts : (up.wr (frB 255) FR_STAT.FENCED 0).on (frB 255) FR_STAT.FENCED = false ∧
    (up.wr (frB 255) FR_STAT.FENCED 1).on (frB 255) FR_STAT.FENCED = true ∧ portAcc 0 0 (portIn 0) = .idle ∧ portAcc 0 0 (portIn 0x101) = .bad ∧
    portAcc 0 0 (portIn 1) = .read 0 5 ∧ ((up.flights.find? fun f => f.id == 7) = none) ∧
    (storeFlight (BitVec.ofNat 40 (storeAddr 0))).targetOf .rd (storeAddr 0) = .store 0 ∧
    ((storeFlight (BitVec.ofNat 40 (storeAddr 0))).flights.find? fun f => f.id == 7).isSome = true ∧ loaded.storeAnswers (storeAddr 0) = true ∧
    ((up.wr (frB 0) FR_STAT.FENCED 0).setStorePort 0 { usedB := true }).storeAnswers (storeAddr 0) = false := by decide +kernel
def regBad : State := loaded.setRegion 0 { reloc := some 3, fromSett := true, slot := some 1, tested := true }
theorem witness_RegionControl : up.answers .cfe 3 0 = true ∧ State.reset.answers .cfe 3 0 = false ∧ up.regionState 0 = frEMPTY ∧
    loaded.regionState 0 = frLOADED ∧ up.napped 0 = false ∧ up.on (frB 0) FR_RELOC_RES.ACKD = true ∧ up.on (frB 0) FR_STAT.SPARE_USED = false ∧
    (up.wr (frB 0) FR_STAT.SPARE_USED 1).on (frB 0) FR_STAT.SPARE_USED = true ∧ up.on (frB 0) FR_RELOC_RES.VALID = false ∧
    ((up.setRegion 0 { resetting := true }).region 0).resetting = true ∧ (regBad.region 0).reloc = some 3 ∧ (regBad.region 0).tested = true ∧
    (regBad.region 0).slot = some 1 ∧ (up.region 0).reloc = none ∧ ((up.setRegion 0 { reloc := some 3 }).region 0).tested = false ∧ (up.region 0).fromSett = false ∧
    (up.wr (frB 0) FR_RELOC_RES.VALID 1).on (frB 0) FR_RELOC_RES.VALID = true ∧ up.regionRuns 0 (up.clusterClock 0 0 0) = false ∧ insnLegal 0 0 (1#32).toNat = false ∧ insnLegal 0 0 (0#32).toNat = true ∧
    loaded.regionRuns (cellRegion 0) (loaded.clusterClock (cellRegion 0) (cellCol 0) (cellRow 0)) = true := by decide +kernel

/-! ## Memory ports, keys and sweeps -/

def mpReq (a : BitVec 40) : MemReq := ⟨.pf, true, none, .rd, a, 64, 0, 0, none⟩
def mpq : State := (up.setPort 0 { queue := [⟨7, mpReq 0, 0, 0, 0, 0, 3, 0⟩] })
def mpRef : State := (up.setPort 0 { catchup := [0], debts := [(0, 5)] })
/-- A write to an invalid page while 64 pages fill. -/
def wrWaits : State := ((List.range 64).foldl (fun s i => s.setPage (pageNo 0 (2 + i)) { st := .filling }) up).setPort 0
  { queue := [⟨7, { mpReq 0 with op := .wr, len := 8 }, 4096, 0, 0, 0, 3, 0⟩] }
theorem witness_MemoryPorts : up.preferred 0 = none ∧ (mpq.preferred 0).isSome = true ∧ (mpq.port 0).queue.length = 1 ∧
    (up.port 0).queue.length ≤ 0 ∧ (up.port 0).waits = [] ∧ up.panicOut 0 63 = false ∧ (57 : Nat) ∉ up.panics ∧
    ((up.setPort 0 { waits := [⟨7, mpReq 0, 0, 0, 0, 0, 3, 0⟩] }).port 0).waits ≠ [] ∧ up.filling 0 < 64 ∧ (mpq.port 0).queue[0]? ≠ none ∧ wrWaits.filling 0 = 64 ∧
    (wrWaits.preferred 0).isSome = true ∧ (wrWaits.fillBlocked 0 64) = true ∧ mpq.fillBlocked 0 0 = false ∧ up.ready 0 (rdyMP 0) = true ∧ State.reset.ready 0 (rdyMP 0) = false ∧
    (851#16).toInt > 850 ∧ (950#16).toInt ≤ 950 ∧ (951#16).toInt > 950 ∧ up.debt 0 0 = 0 ∧ mpRef.debt 0 0 = 5 ∧ mpRef.setForced 0 0 = true ∧
    mpRef.setForced 0 1 = false ∧ (mpRef.port 0).catchup.contains 0 = true ∧ (mpRef.port 0).forced.contains 0 = false ∧ KV.get 0 0 (mpRef.port 0).refAt + (mpRef.port 0).halfTrefi ≤ ({ mpRef with now := 10 ^ 6 } : State).now ∧
    mpRef.now < KV.get 0 0 (mpRef.port 0).refAt + (mpRef.port 0).halfTrefi ∧ (up.bankSets 0).all (fun b => up.debt 0 b < 4) = true ∧ up.now = 0 ∧
    (EGroup.sacPm 0 ≠ .mp 0) ∧
    egBlk (.mp 0) = (.mp, 0, 0) ∧ up.answers .mp 0 0 = true ∧ up.on (egBase (.mp 0)) EG_STAT.INVBUSY = false ∧
    (up.wr (egBase (.mp 0)) EG_STAT.INVBUSY 1).on (egBase (.mp 0)) EG_STAT.INVBUSY = true := by decide +kernel
/-- R441: a boundary adds one to the debt of a set. -/
theorem test_refresh_debt : ∃ t, exec (.trefiBoundary 0) up = .next t ∧ t.debt 0 0 = 1 := ⟨_, rfl, by decide +kernel⟩
def down0 : State := (up.wrBit (dctlB 0) DCTL_READY.BITS (rdyMP 0) false)
def keyOp (op : Nat) : State := up.setImeOp 0 (some ⟨op, 0, 3, 0, 0⟩)
def swept : State := ((((up.wr (imeP 0) MI_RCFG.EN 1).wr (imeP 0 + 12) MI_KINFO.VALID 1)))
theorem witness_MemoryKeys : (down0.ready 0 rdyCKP && !down0.ready 0 (rdyMP 0) && down0.rd (mpB 0) MP_TRES.STATUS == 0) = true ∧
    (up.ready 0 rdyCKP && !up.ready 0 (rdyMP 0) && up.rd (mpB 0) MP_TRES.STATUS == 0) = false ∧ dimmSupported true 3 16 = false ∧ dimmSupported true 2 32 = true ∧ up.rd (mpB 0) MP_TRES.STATUS ≠ 1 ∧
    (up.wr (mpB 0) MP_TRES.STATUS 1).rd (mpB 0) MP_TRES.STATUS = 1 ∧ (up.port 0).retrain = false ∧ up.on (mpB 0) MP_TRES.ACKD = true ∧
    up.on (mpB 0) MP_TRES.VALID = false ∧ up.answers .ime 3 0 = true ∧ State.reset.answers .ime 3 0 = false ∧
    up.rd (imeB 0) MI_KRES.STATUS ≠ 1 ∧ up.on (imeB 0) MI_KRES.ACKD = true ∧ up.imeOp 0 = none ∧ (keyOp 3).imeOp 0 = some ⟨3, 0, 3, 0, 0⟩ ∧
    (keyOp 3).rd (imeP 0 + 12) MI_KINFO.REFS = 0 ∧ (keyOp 3).keyInFlight 0 3 = false ∧ (keyOp 1).on (imeP 0 + 12) MI_KINFO.VALID = false ∧
    swept.on (imeP 0 + 12) MI_KINFO.VALID = true ∧ up.rd (imeP 0) MI_SWRES.STATUS ≠ 1 ∧ up.on (imeP 0) MI_SWRES.ACKD = true ∧
    swept.on (imeP 0) MI_RCFG.EN = true ∧ swept.keyValid 0 3 = true ∧ swept.rd (imeP 0) MI_RCFG.KEY ≠ 3 ∧ (swept.sweep 0).under 0 = false ∧ ((swept.setSweep 0 ⟨none, [(0, 3, 64)]⟩).sweep 0).under 0 = true ∧
    ((up.setSweep 0 ⟨some (0, 3), []⟩).sweep 0).cur = some (0, 3) ∧ (up.sweep 0).cur = none ∧ up.lineWaits 0 0 = false ∧
    (((up.setSweep 0 ⟨none, [(0, 3, 64)]⟩).sweep 0).stopped.find? fun e => e.1 == 0 && e.2.1 == 3) = some (0, 3, 64) ∧
    ((up.setPort 0 { retrain := true }).port 0).retrain = true ∧ (up.page (pageNo 0 0)).st ≠ .filling ∧
    ((swept.wr (imeP 0 + 12) MI_KINFO.RETIRE_PENDING 1).on (imeP 0 + 12) MI_KINFO.RETIRE_PENDING) = true := by decide +kernel

/-! ## Configuration, Sett and field update -/

def cfeIn (st : Nat) : State := up.wr (cfeB 0) CFE_STAT.STATE st
def checking : State := (loaded.wr (cfeB 0) CFE_CFG.FCHK_EN 1)
def repairing (n : Nat) : State := (loaded.setRegion 0 { slot := some 0 }).setChk 0 { repair := some (0, n) }
def cfeBuf (src st : Nat) : State := (cfeIn st).setCfe 0 { src := src }
def dieLost : State := (up.wr (bundleB 0 0 20) D2D_BST.STATE 0).setCfe 0 { dies := [0, 2] }
theorem witness_ConfigLoads : up.answers .cfe 0 0 = true ∧ State.reset.answers .cfe 0 0 = false ∧ up.cfeState 0 = cfeIDLE ∧
    up.on (cfeB 0) CFE_RES.ACKD = true ∧ (up.wr (cfeB 0) CFE_SRC.KIND 1).rd (cfeB 0) CFE_SRC.KIND = 1 ∧ (cfeIn cfeWAIT).cfeState 0 = cfeWAIT ∧
    ((cfeIn cfeWAIT).cfe 0).img = [] ∧ up.on (cfeB 0) CFE_RES.VALID = false ∧ (up.wr (cfeB 0) CFE_CFG.FCHK_EN 0).on (cfeB 0) CFE_CFG.FCHK_EN = false ∧
    checking.on (cfeB 0) CFE_CFG.FCHK_EN = true ∧ (checking.chk 0).repair = none ∧
    up.chkNext 0 131072 = none ∧ (up.setChk 0 { next := 131072 } |>.chk 0).next ≠ 0 ∧ checking.chkNext 0 0 = some 0 ∧ ((repairing 2).chk 0).repair = some (0, 2) ∧
    (repairing 2).regionState 0 = frLOADED ∧ ((repairing 2).region 0).slot ≠ none ∧ ((cfeIn cfeFRAMES).cfe 0).buf.length < 1072 ∧
    (cfeIn cfeVERIFY).cfeState 0 = cfeVERIFY ∧ (cfeIn cfeRELEASE).cfeState 0 = cfeRELEASE ∧ up.on (cfeB 0) CFE_CFG.RELAY_EN = false ∧
    up.por = false ∧ up.boot 0 = .none ∧ up.ready 0 rdyOWL = true ∧ up.slotState 0 0 0 = 0 ∧ up.slotState 0 0 1 = 0 ∧
    (up.setSlot 0 0 0 3).slotState 0 0 0 ≠ 0 ∧ (up.setBoot 0 .flash).boot 0 = .flash ∧ up.cfgSwitching 0 = false ∧
    (up.wr (domB 0 9) CKP_DOM.BUSY 1).cfgSwitching 0 = true ∧ (cfeBuf srcMEM cfeHEADER).relayStarved 0 = false ∧
    (cfeBuf srcRELAY cfeHEADER).relayStarved 0 = true ∧ ((cfeBuf srcMEM cfeHEADER).cfe 0).buf.length < 256 ∧ ((cfeBuf srcMEM cfeFRAMES).cfe 0).left = 0 ∧
    (up.cfe 0).since + 4000000000 ≤ ({ up with now := 4 * 10 ^ 9 } : State).now ∧ up.now < (up.cfe 0).since + 4000000000 ∧
    ((up.cfe 0).dies.any fun e => !up.reachable 0 e) = false ∧ (dieLost.cfe 0).dies.any (fun e => !dieLost.reachable 0 e) = true ∧
    ((up.setCfe 0 { dies := [0, 1], release := some 8000 }).cfe 0).release = some 8000 ∧ 8000 ≤ (up.setTick 0 8000).tick 0 ∧ up.tick 0 < 8000 ∧
    (up.wr (cfeB 0) CFE_CFG.RELAY_EN 1).on (cfeB 0) CFE_CFG.RELAY_EN = true ∧ up.on (dctlB 0) DCTL_DEVNUM.LOCKED = false ∧
    (up.wr (dctlB 0) DCTL_DEVNUM.LOCKED 1).on (dctlB 0) DCTL_DEVNUM.LOCKED = true ∧ (up.setSlot 0 0 1 3).bootSlot 0 = some (1 - 0) ∧ (up.setSlot 0 0 1 2).bootSlot 0 = none ∧
    slotUsable 2 = true ∧ slotUsable 6 = false ∧ up.on (svpB 0) SVP_STRAP.RECEN = false ∧ (up.wr (svpB 0) SVP_STRAP.RECEN 1).on (svpB 0) SVP_STRAP.RECEN = true ∧
    up.rd (cfeB 0) CFE_RES.SRC ≠ srcFLASH ∧ (up.setBoot 0 .first).boot 0 = .first ∧ (up.setBoot 0 .other).boot 0 = .other := by decide +kernel
def stcRun : State := { up with stc := some ⟨1, 0, 0, [0], [], [], false⟩ }
theorem witness_FieldUpdate : up.answers .stc 0 0 = true ∧ State.reset.answers .stc 0 0 = false ∧ up.stcFree = true ∧
    stcRun.stcFree = false ∧ up.trialOpen 0 = false ∧ (up.setSlot 3 0 1 4).trialOpen 0 = true ∧ up.on (stcB 0) STC_RES.VALID = false ∧
    up.stc = none ∧ stcRun.cmdWritten = true ∧ up.opened 0 = 0 ∧
    ((up.setOpened 0 5).opened 0) = 4 + 1 ∧ 4 + 600 * 4000000000 ≤ ({ up with now := 24 * 10 ^ 11 + 4 } : State).now ∧ up.now < 4 + 600 * 4000000000 ∧
    up.rd (stcB 0) (triesFld 0) ≠ 3 ∧ ((List.range 4).all fun d => up.trialGood d 0) = true ∧ up.on (stcB 0) STC_RES.VALID = false := by decide +kernel
def passing : State := up.setSett 0 { cur := some ⟨.refresh 3, [⟨3, 0, [1]⟩], 8, none⟩ }
theorem witness_SettStore : (up.sett 0).cur = none ∧ (passing.sett 0).cur.isSome = true ∧ (up.sett 0).due = [] ∧ up.ready 0 rdySETT = true ∧
    State.reset.ready 0 rdySETT = false ∧ ((up.setSett 0 { due := [4, 5] }).sett 0).due = [4, 5] ∧ up.owlRuns 0 = true ∧
    up.laneRecDue.contains 0 = false ∧ ({ up with laneRecDue := [0] } : State).laneRecDue.contains 0 = true ∧ up.relayOut = [] ∧
    ({ up with relayOut := [3] } : State).relayOut = [3] ∧ up.routePort 0 = none ∧ up.on (stcB 0) STC_CFG.RELAY_EN = false ∧
    relayIndex [] up.devnum = none ∧ (passing.sett 0).cur = some ⟨.refresh 3, [⟨3, 0, [1]⟩], 8, none⟩ ∧
    ((passing.setSett 0 { cur := some ⟨.refresh 3, [], 0, none⟩ }).sett 0).cur = some ⟨.refresh 3, [], 0, none⟩ ∧ ((up.settPass 0).sett 0).spares ≠ [] ∧
    ((up.setSett 0 { spares := [] }).sett 0).spares = [] ∧ ((up.setSett 0 { offers := 4 }).sett 0).offers = 4 ∧ (up.sett 0).offers = 0 ∧
    SettReq.refresh 4 ∉ ((up.setSett 0 { due := [4, 5] }).sett 0).queue ∧ ((up.setSett 0 { due := [4], queue := [.refresh 4] }).sett 0).queue = [.refresh 4] ∧
    up.stcFree = true ∧ (((up.setRegion 5 { recDue := true }).region 5).recDue) = true ∧ (up.region 5).recDue = false := by decide +kernel

/-! ## Signal analysis cores -/

/-- Core 0 runs, with the word `w` at its pc. -/
def sacAt (w : Nat) : State := ((up.wr (sacB 0) SAC_STAT.STATE sacRUN).wr (sacB 0) SAC_CTL.RST 0).writeChip (sacPmAddr 0) 4 w
def sacReady (s : State) (w : Nat) : Bool :=
  s.sacClocked 0 && s.sacState 0 == sacRUN && !(s.sac 0).lact && !(s.sac 0).takeable && !(s.sac 0).haltReq && decide (s.sacFetched 0 (s.sac 0) = (s, none)) &&
    decide (s.seeChip (sacPmAddr 0 + (s.sac 0).pc * 4) 4 = (w, false)) && !(s.sac 0).inUnit && !(s.sac 0).stepping
/-- A word of each opcode whose fields are legal; two for the count and loop forms. -/
def sacWords : List Nat :=
  ([0, 1, 2, 3, 4, 5, 6, 7, 0x0A, 0x0B, 0x0C] ++ (List.range 9).map (0x10 + ·) ++ [0x19] ++ (List.range 12).map (0x20 + ·) ++
    [0x30, 0x31, 0x36, 0x37]).map (· * 2 ^ 26) ++
  [0x08 * 2 ^ 26 + 5, 0x08 * 2 ^ 26 + 2 ^ 16, 0x09 * 2 ^ 26 + 2 ^ 14 + 7, 0x09 * 2 ^ 26 + 2 ^ 14 + 2 ^ 13, 0x32 * 2 ^ 26 + 512,
   0x33 * 2 ^ 26 + 512, 0x34 * 2 ^ 26 + 2 ^ 15, 0x35 * 2 ^ 26 + 32767, 0x35 * 2 ^ 26 + 3 * 2 ^ 20 + 32768, 0x35 * 2 ^ 26 + 4 * 2 ^ 20 + 6]
theorem witness_SacIssue : (sacWords.all fun w => sacReady (sacAt w) w) = true ∧ sacReady (sacAt (0x3F * 2 ^ 26)) (0x3F * 2 ^ 26) = true ∧
    (sacMeanings.all fun e => e.1 != 0x3F) = true ∧ up.sacState 0 ≠ sacRUN ∧ (up.sac 0).exc = false ∧ (up.sac 0).inUnit = false ∧
    ((up.setSac 0 { up.sac 0 with rpt := some 3 }).sac 0).inUnit = true ∧ ((up.setSac 0 { up.sac 0 with exc := true }).sac 0).exc = true := by
  decide +kernel
theorem witness_SacResults : (sacWords.all fun w => sacReady (sacAt w) w) = true ∧ fAUX (0x24 * 2 ^ 26 + 5 * 2 ^ 3) = 5 ∧ (up.sac 0).shift = 0 ∧
    (sacAt 0).sacSee 0 0 = (0, false) ∧ ((sacAt 0).sacFetch 0).sacSee 0 (((sacAt 0).sac 0).ptr 0).p = (0, false) := by decide +kernel
/-- R340: a half that exceeds its range saturates; the pc moves by one. -/
theorem test_sac_saturates : ∃ t, exec (.sacCadd 0) ((sacAt (0x20 * 2 ^ 26 + 3 * 2 ^ 20 + 1 * 2 ^ 14 + 2 * 2 ^ 8)).setSac 0
      { (sacAt 0).sac 0 with regs := [(1, 0x7FFF), (2, 1)] }) = .next t ∧ (t.sac 0).reg 3 = 0x7FFF ∧ (t.sac 0).pc = 1 := ⟨_, rfl, by decide +kernel⟩
def sacIn (x : SacX) (st : Nat) : State := (up.wr (sacB 0) SAC_STAT.STATE st).setSac 0 x
theorem witness_SacControl : (sacWords.all fun w => sacReady (sacAt w) w) = true ∧
    ((sacIn { lact := true, past := 5, pc := 5, lc := 1, first := 2 } sacRUN).sac 0).pc = 5 ∧
    ((sacIn { gie := true, ien := 2, ipend := 2, point := true } sacWAIT).sac 0).atPoint = true ∧
    ((sacIn { gie := true, ien := 2, ipend := 2, point := true } sacWAIT).sac 0).takeable = true ∧
    (sacIn {} sacWAIT).sacClocked 0 = true ∧ (sacIn {} sacWAIT).sacState 0 = sacWAIT ∧ (up.sac 0).takeable = false ∧
    up.answers .sac 3 15 = true ∧ State.reset.answers .sac 3 15 = false ∧ up.on (sacB 0) SAC_CTL.RST = true ∧
    up.on (sacB 0) SAC_CFG.ASSIGNED = false ∧ (sacIn {} sacHALTED).sacState 0 = sacHALTED ∧ up.sacState 0 ≠ sacHALTED ∧
    KV.get 0 1 ((sacIn { xst := [(1, xBUSY)] } sacRUN).sac 0).xst = xBUSY ∧ KV.get 0 0 (up.sac 0).xst ≠ xBUSY ∧
    ((sacIn { stack := List.replicate 8 3 } sacRUN).sac 0).stack.length = 8 ∧ ((sacIn { stack := [3] } sacRUN).sac 0).stack = [3] ∧ (up.sac 0).stack = [] ∧
    (up.sac 0).lact = false ∧ ((sacIn { slots := some (1, 9) } sacRUN).sac 0).slots = some (1, 9) ∧ (up.sac 0).rpt = none ∧
    ((sacIn { rpt := some 2 } sacRUN).sac 0).rpt = some 2 ∧ ((sacIn { lact := true, past := 5, pc := 4 } sacRUN).sac 0).pc ≠ 5 ∧
    up.on (xresB 0 0) SAC_XRES.VALID = false ∧ (up.wr (xresB 0 0) SAC_XRES.VALID 1).on (xresB 0 0) SAC_XRES.VALID = true := by decide +kernel

/-! ## Processors -/

def core (x : HartX) : State := (up.wr (spB 0) SP_STAT.STATE spRUN).setSp 0 x
theorem witness_ProcessorTurns : (core {}).executing 0 = true ∧ up.executing 0 = false ∧ up.executing 16 = true ∧ ((core {}).hart 0).haltReq = false ∧
    ((core {}).hart 0).priv = 3 ∧ ((core {}).hart 0).wfi = false ∧ ((core {}).hart 0).nmi = false ∧ (core {}).interrupt 0 = none ∧
    ((core { wfi := true }).hart 0).wfi = true ∧ (core { wfi := true }).mip 0 &&& (core { wfi := true }).mie 0 = 0 ∧
    ((core { nmi := true }).hart 0).nmi = true ∧ ((core { haltReq := true }).hart 0).haltReq = true ∧ ((core { priv := 0 }).hart 0).priv < 3 ∧
    (core { csrs := [(0x304, 128), (csrMIP, 128), (0x300, 8)] }).interrupt 0 = some 7 ∧ ((core { dtx := some 5 }).hart 0).dtx = some 5 ∧
    up.answers .svp 0 0 = true ∧ ((core { halted := true }).sp 0).halted = true ∧ ((up.sp 0).x 0) < 2 ^ 40 ∧ ((core { stepping := true }).hart 0).stepping = true ∧ ((core {}).hart 0).dtx = none ∧
    ((core {}).sp 0).halted = false := by decide +kernel
def down1 : State := up.wrBit (dctlB 0) DCTL_READY.BITS rdyOWL false
def locked : State := up.wr (lckN 0 63) LCK.OWNER (up.ownerOf (.sp 0))
theorem witness_Supervision : State.reset.por = true ∧ down1.por = false ∧ down1.ready 0 rdyOWL = false ∧ up.owlRuns 0 = true ∧
    State.reset.owlRuns 0 = false ∧ up.ready 0 (rdyMP 0) = true ∧ up.ready 0 (rdyMP 1) = true ∧ up.usedSlot 0 2 = none ∧
    up.answers .dctl 0 0 = true ∧ up.answers .spc 3 0 = true ∧ State.reset.answers .spc 3 0 = false ∧ up.answers .lck 0 0 = true ∧
    up.lockOwner 0 63 = 0 ∧ up.ownerOf (.sp 0) ≠ 0 ∧ up.ownerOf (.fcu 0) = 0 ∧ locked.lockOwner 0 63 = locked.ownerOf (.sp 0) ∧
    up.spFirmwareGood 0 = true ∧ (up.setSlot 0 2 0 3).usedSlot 0 2 = some 0 ∧
    up.wdog 0 - 1 + 4000000000 ≤ ({ up with now := 4 * 10 ^ 9 } : State).now ∧ up.now < up.wdog 0 - 1 + 4000000000 ∧
    (down0.ready 0 (rdyMP 0) && down0.ready 0 (rdyMP 1)) = false := by decide +kernel
/-- R381: an owner's read takes a free lock, and a second reader finds it taken. -/
theorem test_lock : ∃ t, exec (.lockRead 0 63 (.sp 0)) up = .next t ∧ t.lockOwner 0 63 = up.ownerOf (.sp 0) ∧
    ∃ u, exec (.lockRead 0 63 (.sp 1)) t = .next u ∧ u.lockOwner 0 63 = up.ownerOf (.sp 0) := ⟨_, rfl, by decide +kernel, _, rfl, by decide +kernel⟩

/-! ## Debug, test access and service pins -/

def claimed (tap : Bool) : State := ((up.wr (denB 0) DEN_CLAIM.HELD 1).wrb (denB 0) DEN_CLAIM.BYTAP tap)
theorem witness_DenCommands : up.on (denB 0) DEN_CLAIM.HELD = false ∧ (claimed true).on (denB 0) DEN_CLAIM.HELD = true ∧
    up.answers .den 0 0 = true ∧ State.reset.answers .den 0 0 = false ∧ (claimed true).denHolds 0 true = true ∧
    (claimed true).denHolds 0 false = false ∧ (claimed false).denHolds 0 false = true ∧ (claimed false).selCore 0 = 0 ∧
    ((claimed false).wr (denB 0) DEN_SEL.KIND 3).selCore 0 = 96 ∧ (claimed false).coreHalted 0 = false ∧
    ((claimed false).setSp 0 { halted := true }).coreHalted 0 = true ∧ up.bmReq 0 = none ∧ (up.setBmReq 0 (some none)).bmReq 0 = some none ∧
    (up.setBmReq 0 (some (some regReq))).bmReq 0 = some (some regReq) ∧ ((core { haltReq := true }).sp 0).haltReq = true ∧
    ((core { haltReq := true }).sp 0).halted = false ∧ (((claimed false).setSp 0 { halted := true }).feedHart 0 0x13 .ack).1.dres = some 0 ∧ (((claimed false).setSp 0 { halted := true }).feedHart 0 0 .ack).1.dres = none ∧
    ((claimed false).nocAccess { regReq with addr := 0x60 } .ack).1 = .decode ∧ (up.denHolds 0 true) = false := by decide +kernel
def down2 : State := ((up.wr (bundleB 0 0 0) D2D_BST.STATE 0))
theorem witness_TestPort : up.reachable 0 0 = true ∧ (down2.reachable 0 2) = false ∧ up.tap.status = 0 ∧ (0x7F#8).toNat ∉ [0x00, 0x01, 0x02] ∧
    (placeOf (denB 0 + 4 * (0#10).toNat)).isSome = true ∧ (0x12#8).toNat ∉ [0x00, 0x01, 0x02, 0x03, 0x04, 0x07, 0x08, 0x10, 0x11] := by decide +kernel
def svp0 (x : SvpX) : State := up.setSvp 0 x
theorem witness_ServicePins : up.answers .svp 0 0 = true ∧ State.reset.answers .svp 0 0 = false ∧ ((svp0 { lockStep := 2 }).svp 0).lockStep = 2 ∧
    (up.svp 0).lockStep ≠ 2 ∧ ((up.svp 0).txq 1).length < 64 ∧ (((svp0 { tx := [(1, List.replicate 64 0)] }).svp 0).txq 1).length = 64 ∧
    ((up.svp 0).rxq 1) = [] ∧ (((svp0 { rx := [(1, [9])] }).svp 0).rxq 1) = [9] ∧ up.on (uB 0 1) U_CFG.EN = false ∧
    (up.wr (uB 0 1) U_CFG.EN 1).on (uB 0 1) U_CFG.EN = true ∧ (32#6).toNat ≤ 32 ∧ 32 < (33#6).toNat ∧ (64#7).toNat ≤ 64 ∧ 64 < (65#7).toNat ∧
    up.rd (uB 0 1) I_RES.STATUS ≠ 1 ∧ up.on (uB 0 1) I_RES.ACKD = true ∧ up.rd (svpB 0) S_RES.STATUS ≠ 1 ∧ up.on (svpB 0) S_RES.ACKD = true ∧
    (up.wr (uB 0 1) I_RES.STATUS 1).rd (uB 0 1) I_RES.STATUS = 1 ∧ up.on (svpB 0) S_RES.VALID = false ∧ bitAt (up.svp 0).raw 3 = false ∧
    bitAt ((svp0 { raw := 8 }).svp 0).raw 3 = true ∧ KV.get 0 3 (up.svp 0).pulses ≤ up.tick 0 ∧ up.tick 0 < KV.get 0 3 ((svp0 { pulses := [(3, 9)] }).svp 0).pulses ∧
    (up.setReady 0 rdySVP false).ready 0 rdySVP = false ∧ up.bit (svpB 0) SVP_LOCKED.PINS 3 = false ∧ up.hib ≠ 2 ∧
    (((svp0 { rx := [(1, List.replicate 64 0)] }).svp 0).rxq 1).length = 64 ∧ up.rd (uB 0 1) U_CFG.PAR = 0 ∧
    (up.wr (uB 0 1) U_CFG.PAR 1).rd (uB 0 1) U_CFG.PAR ≠ 0 ∧ (up.wr (uB 0 1) I_RES.ACKD 0).on (uB 0 1) I_RES.ACKD = false ∧
    (up.wr (uB 0 1) I_RES.VALID 1).on (uB 0 1) I_RES.VALID = true ∧ (up.wr (svpB 0) S_RES.VALID 1).on (svpB 0) S_RES.VALID = true ∧
    (up.wr (svpB 0) S_RES.STATUS 1).rd (svpB 0) S_RES.STATUS = 1 ∧ (up.wr (svpB 0) S_RES.ACKD 0).on (svpB 0) S_RES.ACKD = false := by decide +kernel
/-- R541: 0x5A, 0xA5, then the mask of the pins. -/
theorem test_pin_lock : ∃ a b c, exec (.svpLockWrite 0 0x5A) up = .next a ∧ exec (.svpLockWrite 0 0xA5) a = .next b ∧
    exec (.svpLockWrite 0 0x3) b = .next c ∧ c.rd (svpB 0) SVP_LOCKED.PINS = 3 := ⟨_, _, _, rfl, rfl, rfl, by decide +kernel⟩

/-! ## System links, sites and host -/

def port (st : Nat) (x : GslX) : State := (((up.wr (gpB 0) GSL_PSTAT.STATE st).wr (dctlB 0) DCTL_DEVNUM.LOCKED 1).wr (gpB 0) GSL_PCTL.EN 1).setGsl 0 x
def sent : GFrame := { type := 1, dst := 9 }
def held (since now : Nat) : State := { port portHELD { holding := true, since := since, queue := [sent] } with now := now }
theorem witness_LinkPorts : up.now + 1 < ((held 2 0).gsl 0).since + (held 2 0).gslHoldTime 0 ∧
    ((held 1 (10 ^ 12)).gsl 0).since + (held 1 (10 ^ 12)).gslHoldTime 0 ≤ (held 1 (10 ^ 12)).now + 1 ∧ (port portUP {}).lifeRuns 0 = false ∧
    (held 1 0).lifeRuns 0 = true ∧ (held 1 0).rd (gslB 0) GSL_LIFE.MS * 1000 ≤ (held 1 (10 ^ 12)).ageNow { sent with at_ := 1 } ∧
    (held 1 0).ageNow sent < (up.wr (gslB 0) GSL_LIFE.MS 1).rd (gslB 0) GSL_LIFE.MS * 1000 ∧ laneOrderOk 0 = false ∧ laneOrderOk 0xE4 = true ∧
    laneOrderOk 0x1B = true ∧
    (up.gsl 0).holding = false ∧ ((port portHELD { holding := true }).gsl 0).holding = true ∧
    (port portHELD {}).portState 0 = portHELD ∧ ((port portUP { queue := [sent] }).gsl 0).queue[0]? = some sent ∧
    (up.wr (gpB 0) GSL_PCTL.EN 0).on (gpB 0) GSL_PCTL.EN = false ∧ (port portHOLD {}).portState 0 = portHOLD ∧ State.reset.por = true ∧
    (port portUP {}).gslKey 0 = some none ∧ (up.gsl 0).lmgt = false ∧ (port portTRAINING {}).on (gpB 0) GSL_PCTL.EN = true ∧
    (port portTRAINING {}).rd (gpB 0) GSL_PCTL.LOOP = 0 ∧ (port portUP {}).portState 0 = portUP ∧ up.portState 0 = portDISABLED ∧
    (port portUP {}).gslOpen 0 true = true ∧ up.gslOpen 0 true = false ∧ (port portUP {}).gslAuth 0 okHdr = true ∧
    (port portUP {}).gslAuth 0 { okHdr with enc := true } = false ∧ ((port portUP { lmgt := true }).gsl 0).lmgt = true ∧
    (port portUP {}).portUp 0 = true ∧ (port portLOOP {}).portState 0 = portLOOP := by decide +kernel
/-- A STOP of group 7 is to leave on port 0. -/
def stopping : State := { port portUP {} with stopOut := [(0, 7, 800)] }
theorem witness_LinkFrames : stopping.portUp 0 = true ∧ (stopping.stopOut.find? fun e => e.1 == 0) = some (0, 7, 800) ∧
    (stopping.stopReady 0).isSome = true ∧ (port portUP {}).stopReady 0 = none ∧ (port portUP {}).gslOpen 0 false = true ∧
    (port portHOLD {}).gslOpen 0 false = false ∧ ((port portUP { queue := [sent], used := [(0, 32)] }).gsl 0).queue.any
      (fun f => decide (32 ≤ KV.get 0 f.vc [(0, 32)] ∧ f.at_ + 4000000 < ({ up with now := 4 * 10 ^ 6 } : State).now + 1)) = true ∧
    min 63 (KV.get 0 1 ((port portUP { owed := [(1, 64)] }).gsl 0).owed) = 63 ∧ (port portUP {}).gslAuth 0 okHdr = true ∧
    (port portUP {}).gslAuth 0 { okHdr with enc := true } = false ∧ (port portUP {}).gslOpen 0 true = true ∧ up.gslOpen 0 true = false ∧
    ({ up with ptbOut := [⟨0, 1, 2, 3, 4⟩] } : State).ptbOut.find? (fun a => a.port == 0) = some ⟨0, 1, 2, 3, 4⟩ ∧
    (port portUP {}).gslKey 0 = some none ∧ (port portUP {}).on (dctlB 0) DCTL_DEVNUM.LOCKED = true ∧ up.on (dctlB 0) DCTL_DEVNUM.LOCKED = false ∧
    ((port portUP { replay := [sent] }).gsl 0).replay = [sent] ∧ ((port portUP {}).gsl 0).unacked.length < 256 ∧
    ((port portUP { unacked := List.replicate 256 sent }).gsl 0).unacked.length = 256 ∧
    (((port portUP { queue := [sent] }).gsl 0).queue.findIdx? fun f => decide (KV.get 0 f.vc ((port portUP {}).gsl 0).used < 32)) = some 0 ∧
    KV.get 0 1 ((port portUP { owed := [(1, 64)] }).gsl 0).owed = 64 ∧
    (((port portUP { queue := [sent], used := [(0, 32)] }).gsl 0).queue.any fun f =>
      decide (32 ≤ KV.get 0 f.vc ((port portUP { queue := [sent], used := [(0, 32)] }).gsl 0).used)) = true ∧
    okHdr.seq.toNat = (((port portUP {}).gslHeader 0 okHdr).gsl 0).rx ∧ (1#16).toNat ≠ (((port portUP {}).gslHeader 0 okHdr).gsl 0).rx := by
  decide +kernel
theorem witness_LinkKeys : up.answers .gsl 3 0 = true ∧ State.reset.answers .gsl 3 0 = false ∧ up.on (gpB 0) GSL_KRES.ACKD = true ∧
    up.gslKeyValid 0 3 = false ∧ (port portUP { keys := [(3, some 5)] }).gslKeyValid 0 3 = true ∧ up.kek 1 = none ∧ up.gslKeyBusy 0 0 = true ∧
    up.gslKeyBusy 0 3 = false ∧ up.on (gpB 0) GSL_KRES.VALID = false ∧
    (up.wr (gpB 0) GSL_KRES.ACKD 0).on (gpB 0) GSL_KRES.ACKD = false ∧ (up.wr (gpB 0) GSL_KRES.VALID 1).on (gpB 0) GSL_KRES.VALID = true ∧
    (up.wr (gpB 0 + 12) GSL_KINFO.RETIRE_PENDING 1).on (gpB 0 + 12) GSL_KINFO.RETIRE_PENDING = true := by decide +kernel
def siteIn (st : Nat) : State := up.wr (siteB 3) SITE_STAT.STATE st
theorem witness_SiteLife : up.answers .site 0 0 = true ∧ State.reset.answers .site 0 0 = false ∧ (siteIn siteACTIVE).siteState 3 = siteACTIVE ∧
    up.siteState 3 ≠ siteACTIVE ∧ (siteIn siteQUIESCED).siteState 3 = siteQUIESCED ∧ (siteIn siteRESETTING).siteState 3 = siteRESETTING ∧
    (siteIn siteRESETTING).siteDrained 3 = true ∧ ({ up with flights := [⟨7, { regReq with site := some 3 }, .regs 0, 1, [], [], 0, none⟩] } : State).siteDrained 3 = false :=
  by decide +kernel
def linkUp : State := { up with host := { up.host with vfOn := true } }
theorem witness_HostEndpoint : up.ready 0 rdyHST = true ∧ State.reset.ready 0 rdyHST = false ∧ State.reset.on (hstB 0) HST_LINK.UP = false ∧ up.por = false ∧
    up.ready 0 rdyCKP = true ∧ up.domStopped 0 12 = false ∧ up.answers .hst 0 0 = true ∧ State.reset.answers .hst 0 0 = false ∧ up.host.vfOn = false ∧
    linkUp.host.vfOn = true ∧ fnNo none ∉ up.host.d3 ∧ ({ up with host := { up.host with d3 := [0] } } : State).host.d3 = [fnNo none] ∧
    okTlp.bar.val = 0 ∧ okTlp.offset.toNat < 2 ^ 32 ∧ (linkUp.wr (hstB 0) HST_LINK.UP 1).on (hstB 0) HST_LINK.UP = true ∧ (6 : Fin 7) ≠ 0 ∧
    (2#10).toNat = 2 ∧ (1#10).toNat ≠ 2 ∧ (up.setDomFlag 12 true).domStopped 0 12 = true := by decide +kernel
def desc : DmaDesc := ⟨0, 64, 8, false, false, false, none, 0⟩
def dma (st : Nat) (l : List DmaDesc) : State := (((up.wr (dmaB 0) DMA_STAT.STATE st).wr (dmaB 0) DMA_CTL.EN 1).wr (dmaB 0) DMA_PROD.V 2).setDma 0 { active := l }
theorem witness_DmaChannels : up.answers .hst 0 0 = true ∧ (dma dmaRUN []).dmaState 0 = dmaRUN ∧ (dma dmaRUN []).on (dmaB 0) DMA_CTL.EN = true ∧
    (0 + ((dma dmaRUN [desc]).dma 0).active.length) % 2 ^ 32 ≠ (dma dmaRUN [desc]).rd (dmaB 0) DMA_PROD.V ∧ up.dmaFn 0 ∉ up.host.d3 ∧
    bitAt (0#256).toNat 162 = false ∧ (dma dmaHALTED []).dmaState 0 = dmaHALTED ∧ ((dma dmaRUN [desc]).dma 0).active = [desc] ∧
    desc.bad = false ∧ decide (desc.dev / 2 ^ 40 ≠ up.devnum) = false ∧ up.dmaState 0 ≠ dmaRUN ∧
    bitAt (BitVec.ofNat 256 (2 ^ 162)).toNat 162 = true ∧ (dma dmaRUN []).rd (dmaB 0) DMA_CONS.V < 2 ^ 32 ∧ (up.dma 0).active = [] ∧
    ({ desc with toHost := true } : DmaDesc).toHost = true ∧ ({ desc with bad := true } : DmaDesc).bad = true ∧
    (0 + ((dma dmaRUN [desc, desc]).dma 0).active.length) % 2 ^ 32 = (dma dmaRUN [desc, desc]).rd (dmaB 0) DMA_PROD.V ∧
    ({ up with host := { up.host with d3 := [up.dmaFn 0] } } : State).host.d3 = [up.dmaFn 0] := by decide +kernel
/-- R496: a cancelled channel is HALTED with status 6. -/
theorem test_dma_cancel : ∃ t, exec (.dmaCancel 0) (dma dmaRUN [desc]) = .next t ∧ t.dmaState 0 = dmaHALTED ∧ t.rd (dmaB 0) DMA_STAT.LAST = 6 ∧
    t.rd (dmaB 0) DMA_CONS.V = 1 := ⟨_, rfl, by decide +kernel⟩
def flight : Flight := ⟨7, { regReq with op := .rd, addr := 64, len := 8 }, .store 0, 0, [], [], 0, none⟩
def dmFlight : Flight := ⟨7, { regReq with op := .rd, addr := BitVec.ofNat 40 (sacDmAddr 0 0), len := 8 }, .mem 0, 0x43, [], [], 0, none⟩
def oneTrig : State := { up with trigs := [⟨0, 3, 9, 100, 4⟩] }
theorem witness_Transfers : (up.flights.find? fun f => f.id == 7) = none ∧ (({ up with flights := [flight] } : State).flights.find? fun f => f.id == 7) = some flight ∧
    ({ up with flights := [flight] } : State).inPort 7 = false ∧ ({ up with flights := [flight] } : State).behindOwn flight = false ∧
    sacOfDm dmFlight.req.addr.toNat = some 0 ∧
    KV.get none 0 ((sacIn { xst := [(0, xBUSY)], xfers := [(0, some ⟨[0, 0, 0, 8], []⟩)] } sacRUN).sac 0).xfers = some ⟨[0, 0, 0, 8], []⟩ ∧
    firstTrig up.trigs = none ∧ firstTrig oneTrig.trigs = some ⟨0, 3, 9, 100, 4⟩ ∧ bitAt 3 3 = false ∧ up.siteOfPsq 5 = none ∧ (up.psq 0).bufOn = false ∧
    ((seqRun 0).setPsq 0 { bufOn := true }).psqActive 0 = true ∧ KV.get 0 0 ((sacIn { xst := [(0, xBUSY)] } sacRUN).sac 0).xst = xBUSY ∧
    (sacIn {} sacRUN).sacState 0 = sacRUN ∧ bitAt 15 3 = true ∧ (seqRun 0).siteOfPsq 0 = some 0 ∧ dmFlight.dst = .mem 0 ∧
    ({ up with flights := [aFlight] } : State).flights = [aFlight] ∧ aFlight.rsp ≠ none ∧ up.sdStatus 0 0 ≠ 1 ∧ (up.wr (psqB 0) SD_STAT.STATUS 1).sdStatus 0 0 = 1 := by decide +kernel

/-! ## Clocks, power, faults and resets -/

def clocked : State := up.wr (ckpB 0) CKP_STAT.REFOK 1
def hibIn (h : Nat) : State := { clocked with hib := h }
theorem witness_ClockDomains : clocked.refOk 0 = true ∧ (clocked.wr (ckpB 0) CKP_STAT.REFOK 0).refOk 0 = false ∧ up.pllLocked 0 0 = true ∧
    (up.wr (ckpB 0) CKP_STAT.LOCK 0).pllLocked 0 0 = false ∧ up.mode = 0 ∧ up.por = false ∧ (up.wr (ckpB 0) CKP_MODE.MODE 1).mode = 1 ∧ up.domEn 0 39 = true ∧
    up.domStopped 0 39 = false ∧ (up.setDomFlag 39 true).domStopped 0 39 = true ∧ ((up.wr (domB 0 39) CKP_DOM.EN 0).domEn 0 39) = false ∧
    up.owlRuns 0 = true ∧ clocked.sourceOk 0 (clocked.domSrc 0 39) = true ∧ up.on (domB 0 39) CKP_DOM.FB = false ∧ up.safe.held = false ∧
    up.answers .ckp 0 0 = true ∧ State.reset.answers .ckp 0 0 = false ∧ bitAt ((up.wr (ckpB 0) (gateFld 0) 0).rd (ckpB 0) (gateFld 0)) 22 = false ∧ bitAt (up.rd (ckpB 0) (gateFld 0)) 22 = true ∧
    bitAt (gateMask 1) 16 = false ∧ bitAt (gateMask 0) 22 = true ∧ (0x7FFFFF#32).toNat ≤ gateMask 0 ∧ gateMask 0 < (0x800000#32).toNat ∧
    up.owlRuns 0 = true ∧ (up.wr (domB 0 39) CKP_DOM.FB 1).on (domB 0 39) CKP_DOM.FB = true ∧
    ({ up with safe := { held := true } } : State).safe.held = true := by decide +kernel
def clockedAll : State := up.each (List.range 4) fun d s => s.wr (ckpB d) CKP_STAT.REFOK 1
def napped : State := up.setNap 5 true
theorem witness_NapAndHibernate : up.answers .ckp 0 0 = true ∧ State.reset.answers .ckp 0 0 = false ∧ up.napBit 5 = false ∧ napped.napBit 5 = true ∧
    up.regionState 5 ≠ frLOADING ∧ up.on (frB 5) FR_RELOC_RES.ACKD = true ∧ napped.unpowered 5 = false ∧ (napped.setUnpowered 5 true).unpowered 5 = true ∧
    ((up.setRegion 5 { napDue := true, slot := some 1 }).region 5).napDue = true ∧ up.regionState 5 = frEMPTY ∧ up.cfeState 0 = cfeIDLE ∧
    bitAt (1#32).toNat 0 = true ∧ up.hibOk = true ∧ (seqRun 0).hibOk = false ∧ (hibIn 1).hib = 1 ∧ up.hib ≠ 1 ∧ up.hibKeep = false ∧ keptInHibernate 0 = false ∧ up.regionState 5 ≠ frRELOCATING ∧
    (up.wr (frB 5) FR_RELOC_RES.ACKD 0).on (frB 5) FR_RELOC_RES.ACKD = false ∧ (up.region 5).napDue = false ∧
    storeAddr 5 ≤ 0x4000A00000 ∧ 0x4000A00000 < storeAddr 5 + 0x200000 := by decide +kernel
theorem witness_FaultHub : 127 < 128 ∧ up.fhPending 0 127 = false ∧ up.deviceSafe = false ∧ ({ up with safe := { extP := true } } : State).deviceSafe = true ∧
    up.safePLow = up.safeQLow ∧ ({ up with safe := { extP := true } } : State).safePLow ≠ ({ up with safe := { extP := true } } : State).safeQLow ∧
    up.answers .fh 3 0 = true ∧ State.reset.answers .fh 3 0 = false ∧ reservedSource 32 = false ∧ (2 ^ 31 ≤ (0x80000020#32).toNat) ∧
    (up.setFh (fhKey 0 3) { conds := [0] } |>.fh (fhKey 0 3)).conds = [0] ∧ up.ready 0 rdyOWL = true ∧
    ((List.range 4).any clockedAll.holdCause) = false ∧ ({ clockedAll with safe := { held := true } } : State).safe.held = true ∧
    seqDiff 32 (up.rd (fhB 0) FH_LOG_WR.V) 0 ≤ 256 ∧ 256 < seqDiff 32 (up.rd (fhB 0) FH_LOG_WR.V) 1 ∧ up.owlRuns 0 = true ∧
    max (up.severity 0 34) (up.fh (fhKey 0 34)).react < 5 ∧
    up.condPresent 0 32 = true ∧ up.condPresent 0 34 = false ∧ (up.setFhPending 0 32 true).fhPending 0 32 = true ∧
    5 ≤ max (up.severity 0 34) ((up.setFh (fhKey 0 34) { react := 6 }).fh (fhKey 0 34)).react ∧ down1.ready 0 rdyOWL = false ∧
    (BitVec.ofNat 32 (2 ^ 31 + 127)).toNat < 2 ^ 31 + 128 ∧ reservedSource 127 = true ∧
    3 ≤ (up.wr (fhB 0 + 34 * 4) FH_SEV.ESC 6).rd (fhB 0 + 34 * 4) FH_SEV.ESC ∧ up.severity 0 34 < 6 ∧
    (up.fh (fhKey 0 34)).since + up.rd (fhB 0) FH_ESC_TMO.MS * 4000000 ≤ ({ up with now := 10 ^ 12 } : State).now ∧ (up.fh (fhKey 0 34)).escd = false := by decide +kernel
/-- R519: an injected event counts once and is pending. -/
theorem test_inject : ∃ t, exec (.fhInject 0 0x80000020) up = .next t ∧ t.fhPending 0 32 = true ∧ t.rd (fhB 0 + 128) FH_CNT.V = 1 :=
  ⟨_, rfl, by decide +kernel⟩
theorem witness_StartUp : State.reset.por = true ∧ up.por = false ∧ up.answers .dctl 3 0 = true ∧ State.reset.answers .dctl 3 0 = false ∧
    (16383#32).toNat < 16384 ∧ up.on (dctlB 0) DCTL_DEVNUM.LOCKED = false ∧ up.owlRuns 0 = true ∧ up.on (dctlB 0) DCTL_DRST.BUSY = false ∧ up.hib = 0 ∧
    (hibIn 2).hib = 2 ∧ up.ready 0 rdyCKP = true ∧ up.ready 0 rdyARP = true ∧ up.allCal 0 = false ∧
    (State.reset.setSlot 0 2 1 1).slotState 0 2 1 = 1 ∧ ((up.setBundle (bundleNo 0 0 20) { mismatch := true }).bundle (bundleNo 0 0 20)).mismatch = true ∧ (hibIn 2).wakes .perst = true ∧ (hibIn 2).wakes (.pin 3) = false ∧
    ((List.range 4).all fun d => ({ clockedAll with hib := 2 } : State).refOk d) = true := by decide +kernel
theorem witness_DieAndBlockResets : (up.wr (dctlB 0) DCTL_DRST.BUSY 1).on (dctlB 0) DCTL_DRST.BUSY = true ∧ up.on (dctlB 0) DCTL_DRST.BUSY = false ∧
    up.answers .dctl 0 0 = true ∧ up.owlRuns 0 = true ∧ State.reset.owlRuns 0 = false ∧ up.answers .ckp 0 0 = true ∧ (2 ^ 22 ≤ gateMask 0) ∧
    gateMask 1 = 65535 ∧ gateMask 2 = 262143 := by decide +kernel

end Sys2Proof.Tests
end

namespace Sys2Proof.Machine

/-! ## What every command and every step keeps -/

/-- The set of fields of State, as `Frame` writes it: one bit for each field that is listed, in State's order. -/
def Part.mask (l : List Part) : Nat := l.foldr (fun p w => 2 ^ p.ctorIdx ||| w) 0

theorem Part.ctorIdx_injective : Function.Injective Part.ctorIdx := fun p q h => by
  rw [← Part.ofNat_ctorIdx p, h, Part.ofNat_ctorIdx]

/-- The bit of a field is set just when the field is listed. -/
theorem Part.testBit_mask (l : List Part) (p : Part) : (Part.mask l).testBit p.ctorIdx = decide (p ∈ l) := by
  induction l with
  | nil => simp [Part.mask]
  | cons q l ih =>
    have hcons : Part.mask (q :: l) = 2 ^ q.ctorIdx ||| Part.mask l := rfl
    rw [hcons, Nat.testBit_or, ih, Nat.testBit_two_pow]
    simp [Part.ctorIdx_injective.eq_iff, eq_comm]

/-- Every command lies within its frame: it changes no field but those listed for it, keeps the queue, and keeps the storage sound. -/
theorem exec_frame (c : Instr) (s : State) : FrameOut (Part.mask (mayChange c)) s (exec c s) := by
  cases c with
  | registerWrite => exact execRegisterWrite_frame
  | badSizeAccess => exact execBadSizeAccess_frame
  | commitGo => exact execCommitGo_frame
  | commitDiscard => exact execCommitDiscard_frame
  | tcbCommitApply => exact execTcbCommitApply_frame
  | porAssert => exact execPorAssert_frame
  | porRelease => exact execPorRelease_frame
  | readyPoll => exact execReadyPoll_frame
  | devnumWrite => exact execDevnumWrite_frame
  | safeNetLow => exact execSafeNetLow_frame
  | safeNetMismatch => exact execSafeNetMismatch_frame
  | epochStartPulse => exact execEpochStartPulse_frame
  | epochPulse => exact execEpochPulse_frame
  | guestDiscovery => exact execGuestDiscovery_frame
  | guestSidebandTimeout => exact execGuestSidebandTimeout_frame
  | guestAdmissionDone => exact execGuestAdmissionDone_frame
  | arpLinkDown => exact execArpLinkDown_frame
  | arpHeartbeatTimeout => exact execArpHeartbeatTimeout_frame
  | arpRetrainDone => exact execArpRetrainDone_frame
  | arpOverTemperature => exact execArpOverTemperature_frame
  | arpTempSample => exact execArpTempSample_frame
  | vccbOutOfWindow => exact execVccbOutOfWindow_frame
  | vccbReturn => exact execVccbReturn_frame
  | vttOvercurrent => exact execVttOvercurrent_frame
  | vttRecover => exact execVttRecover_frame
  | channelWordTake => exact execChannelWordTake_frame
  | failWordDelivery => exact execFailWordDelivery_frame
  | roleWrite => exact execRoleWrite_frame
  | roleMidpoint => exact execRoleMidpoint_frame
  | roleTransitionDone => exact execRoleTransitionDone_frame
  | tcbEnWrite => exact execTcbEnWrite_frame
  | tcbSafeWrite => exact execTcbSafeWrite_frame
  | blankEnd => exact execBlankEnd_frame
  | capptrWrite => exact execCapptrWrite_frame
  | etcGo => exact execEtcGo_frame
  | etcAck => exact execEtcAck_frame
  | etcTrigger => exact execEtcTrigger_frame
  | reflectStepLaunch => exact execReflectStepLaunch_frame
  | etcDone => exact execEtcDone_frame
  | etcTimeout => exact execEtcTimeout_frame
  | tcbCntClr => exact execTcbCntClr_frame
  | driftMeasure => exact execDriftMeasure_frame
  | driftApply => exact execDriftApply_frame
  | driftLate => exact execDriftLate_frame
  | calRecordLoad => exact execCalRecordLoad_frame
  | vttWrite => exact execVttWrite_frame
  | vrefbWrite => exact execVrefbWrite_frame
  | arpCommitApply => exact execArpCommitApply_frame
  | pmuGo => exact execPmuGo_frame
  | pmuAck => exact execPmuAck_frame
  | pmuSettleEnd => exact execPmuSettleEnd_frame
  | pmuMeasureDone => exact execPmuMeasureDone_frame
  | pmuOldRangeDisconnect => exact execPmuOldRangeDisconnect_frame
  | pmuRangeSettled => exact execPmuRangeSettled_frame
  | siteReset => exact execSiteReset_frame
  | siteQuiesced => exact execSiteQuiesced_frame
  | siteRelease => exact execSiteRelease_frame
  | psqNext => exact execPsqNext_frame
  | psqRepeat => exact execPsqRepeat_frame
  | psqLoop => exact execPsqLoop_frame
  | psqEndloop => exact execPsqEndloop_frame
  | psqJump => exact execPsqJump_frame
  | psqCall => exact execPsqCall_frame
  | psqRet => exact execPsqRet_frame
  | psqHalt => exact execPsqHalt_frame
  | psqJfail => exact execPsqJfail_frame
  | psqJpass => exact execPsqJpass_frame
  | psqClrf => exact execPsqClrf_frame
  | psqMatch => exact execPsqMatch_frame
  | matchResult => exact execMatchResult_frame
  | matchTimeout => exact execMatchTimeout_frame
  | psqSync => exact execPsqSync_frame
  | syncTickReached => exact execSyncTickReached_frame
  | psqPace => exact execPsqPace_frame
  | psqEndpace => exact execPsqEndpace_frame
  | paceSlotReached => exact execPaceSlotReached_frame
  | psqMark => exact execPsqMark_frame
  | psqTrig => exact execPsqTrig_frame
  | trigDelivery => exact execTrigDelivery_frame
  | psqStrm => exact execPsqStrm_frame
  | psqSret => exact execPsqSret_frame
  | psqLkstop => exact execPsqLkstop_frame
  | psqLkend => exact execPsqLkend_frame
  | psqIllegalWord => exact execPsqIllegalWord_frame
  | psqConditionSample => exact execPsqConditionSample_frame
  | segmentResident => exact execSegmentResident_frame
  | patternUnderrun => exact execPatternUnderrun_frame
  | urKeepExpire => exact execUrKeepExpire_frame
  | streamLineFill => exact execStreamLineFill_frame
  | sdWrite => exact execSdWrite_frame
  | sdScan => exact execSdScan_frame
  | sdScanDone => exact execSdScanDone_frame
  | localStoreWrite => exact execLocalStoreWrite_frame
  | psqArm => exact execPsqArm_frame
  | psqCmdAck => exact execPsqCmdAck_frame
  | psqCmdHalt => exact execPsqCmdHalt_frame
  | psqGstop => exact execPsqGstop_frame
  | psqStart => exact execPsqStart_frame
  | stopReceive => exact execStopReceive_frame
  | stopAtReached => exact execStopAtReached_frame
  | runningFall => exact execRunningFall_frame
  | psqCntClr => exact execPsqCntClr_frame
  | ptbBoundary => exact execPtbBoundary_frame
  | ptbDeferredStep => exact execPtbDeferredStep_frame
  | ptbSnap => exact execPtbSnap_frame
  | ptbReload => exact execPtbReload_frame
  | ptbRequestSend => exact execPtbRequestSend_frame
  | ptbRequestAnswer => exact execPtbRequestAnswer_frame
  | ptbResponse => exact execPtbResponse_frame
  | ptbExchangeMissed => exact execPtbExchangeMissed_frame
  | recoveredClockLost => exact execRecoveredClockLost_frame
  | ptbCntClr => exact execPtbCntClr_frame
  | fcuTagSample => exact execFcuTagSample_frame
  | fcuBackendEntry => exact execFcuBackendEntry_frame
  | fcuMarkerEntry => exact execFcuMarkerEntry_frame
  | fcuWriteback => exact execFcuWriteback_frame
  | fcuWriteResponse => exact execFcuWriteResponse_frame
  | fcuPartialLineTimeout => exact execFcuPartialLineTimeout_frame
  | fsFlush => exact execFsFlush_frame
  | fsFlushDone => exact execFsFlushDone_frame
  | fsFack => exact execFsFack_frame
  | fsFreset => exact execFsFreset_frame
  | fsCclr => exact execFsCclr_frame
  | fsBmclr => exact execFsBmclr_frame
  | fsRdptrWrite => exact execFsRdptrWrite_frame
  | fcuCclr => exact execFcuCclr_frame
  | rjGo => exact execRjGo_frame
  | rjCancel => exact execRjCancel_frame
  | rjAck => exact execRjAck_frame
  | raeJobStart => exact execRaeJobStart_frame
  | raeJobEnd => exact execRaeJobEnd_frame
  | raeBudgetExhausted => exact execRaeBudgetExhausted_frame
  | cellMov => exact execCellMov_frame
  | cellAdd => exact execCellAdd_frame
  | cellSub => exact execCellSub_frame
  | cellRsb => exact execCellRsb_frame
  | cellAddus => exact execCellAddus_frame
  | cellSubus => exact execCellSubus_frame
  | cellNeg => exact execCellNeg_frame
  | cellAbsd => exact execCellAbsd_frame
  | cellMinu => exact execCellMinu_frame
  | cellMaxu => exact execCellMaxu_frame
  | cellMins => exact execCellMins_frame
  | cellMaxs => exact execCellMaxs_frame
  | cellCmp => exact execCellCmp_frame
  | cellTst => exact execCellTst_frame
  | cellIncw => exact execCellIncw_frame
  | cellDecw => exact execCellDecw_frame
  | cellAnd => exact execCellAnd_frame
  | cellOr => exact execCellOr_frame
  | cellXor => exact execCellXor_frame
  | cellAndn => exact execCellAndn_frame
  | cellOrn => exact execCellOrn_frame
  | cellXnor => exact execCellXnor_frame
  | cellNot => exact execCellNot_frame
  | cellBitf => exact execCellBitf_frame
  | cellSelc => exact execCellSelc_frame
  | cellSelz => exact execCellSelz_frame
  | cellSeln => exact execCellSeln_frame
  | cellMuxb => exact execCellMuxb_frame
  | cellShl => exact execCellShl_frame
  | cellShr => exact execCellShr_frame
  | cellSar => exact execCellSar_frame
  | cellRol => exact execCellRol_frame
  | cellRor => exact execCellRor_frame
  | cellShlc => exact execCellShlc_frame
  | cellShrc => exact execCellShrc_frame
  | cellRev => exact execCellRev_frame
  | cellSwap => exact execCellSwap_frame
  | cellFshl => exact execCellFshl_frame
  | cellClz => exact execCellClz_frame
  | cellCtz => exact execCellCtz_frame
  | cellPopc => exact execCellPopc_frame
  | cellPmsk => exact execCellPmsk_frame
  | cellXscr => exact execCellXscr_frame
  | cellLfsr => exact execCellLfsr_frame
  | cellGray => exact execCellGray_frame
  | cellUgray => exact execCellUgray_frame
  | cellGstep => exact execCellGstep_frame
  | cellEq => exact execCellEq_frame
  | cellLtu => exact execCellLtu_frame
  | cellLts => exact execCellLts_frame
  | cellBset => exact execCellBset_frame
  | cellBclr => exact execCellBclr_frame
  | cellBtst => exact execCellBtst_frame
  | cellIllegalSlot => exact execCellIllegalSlot_frame
  | storePortAccess => exact execStorePortAccess_frame
  | storeServiceAccess => exact execStoreServiceAccess_frame
  | frFence => exact execFrFence_frame
  | frRreset => exact execFrRreset_frame
  | rresetEnd => exact execRresetEnd_frame
  | frReloc => exact execFrReloc_frame
  | relocSelftestDone => exact execRelocSelftestDone_frame
  | relocDone => exact execRelocDone_frame
  | frRack => exact execFrRack_frame
  | repairRecordWrite => exact execRepairRecordWrite_frame
  | memoryRequest => exact execMemoryRequest_frame
  | aor => exact execAor_frame
  | pageFillLine => exact execPageFillLine_frame
  | fillSlotFree => exact execFillSlotFree_frame
  | egInv => exact execEgInv_frame
  | invSweepDone => exact execInvSweepDone_frame
  | egCntClr => exact execEgCntClr_frame
  | cfeStart => exact execCfeStart_frame
  | cfeCont => exact execCfeCont_frame
  | cfeCancel => exact execCfeCancel_frame
  | cfeAck => exact execCfeAck_frame
  | cfePartReadDone => exact execCfePartReadDone_frame
  | cfeWaitTimeout => exact execCfeWaitTimeout_frame
  | cfeFrameRecord => exact execCfeFrameRecord_frame
  | cfeSignatureDone => exact execCfeSignatureDone_frame
  | cfeReleaseTick => exact execCfeReleaseTick_frame
  | cfeRelayOffer => exact execCfeRelayOffer_frame
  | bootLoadStart => exact execBootLoadStart_frame
  | bootFallback => exact execBootFallback_frame
  | recoveryFlashLoad => exact execRecoveryFlashLoad_frame
  | frameCheckRead => exact execFrameCheckRead_frame
  | frameRepair => exact execFrameRepair_frame
  | cfeChkClr => exact execCfeChkClr_frame
  | stage => exact execStage_frame
  | relay => exact execRelay_frame
  | activate => exact execActivate_frame
  | confirm => exact execConfirm_frame
  | recwrite => exact execRecwrite_frame
  | keyinst => exact execKeyinst_frame
  | inval => exact execInval_frame
  | stcAck => exact execStcAck_frame
  | settBlockWriteDone => exact execSettBlockWriteDone_frame
  | stageComplete => exact execStageComplete_frame
  | relayForward => exact execRelayForward_frame
  | settRelayOffer => exact execSettRelayOffer_frame
  | relayAnswer => exact execRelayAnswer_frame
  | retentionScan => exact execRetentionScan_frame
  | retentionRewrite => exact execRetentionRewrite_frame
  | owlSettingsWrite => exact execOwlSettingsWrite_frame
  | trialStart => exact execTrialStart_frame
  | confirmWindowExpire => exact execConfirmWindowExpire_frame
  | sacNop => exact execSacNop_frame
  | sacHalt => exact execSacHalt_frame
  | sacWait => exact execSacWait_frame
  | sacB => exact execSacB_frame
  | sacBc => exact execSacBc_frame
  | sacCall => exact execSacCall_frame
  | sacRet => exact execSacRet_frame
  | sacReti => exact execSacReti_frame
  | sacRpt => exact execSacRpt_frame
  | sacLoop => exact execSacLoop_frame
  | sacLoopEnd => exact execSacLoopEnd_frame
  | sacBlke => exact execSacBlke_frame
  | sacXgo => exact execSacXgo_frame
  | sacSevt => exact execSacSevt_frame
  | sacCmac => exact execSacCmac_frame
  | sacCmul => exact execSacCmul_frame
  | sacDmac => exact execSacDmac_frame
  | sacRmac => exact execSacRmac_frame
  | sacRmul => exact execSacRmul_frame
  | sacCpwr => exact execSacCpwr_frame
  | sacAccl => exact execSacAccl_frame
  | sacClra => exact execSacClra_frame
  | sacMva => exact execSacMva_frame
  | sacMvap => exact execSacMvap_frame
  | sacCadd => exact execSacCadd_frame
  | sacCsub => exact execSacCsub_frame
  | sacCaddh => exact execSacCaddh_frame
  | sacCsubh => exact execSacCsubh_frame
  | sacCxfm => exact execSacCxfm_frame
  | sacCmin => exact execSacCmin_frame
  | sacCmax => exact execSacCmax_frame
  | sacCsha => exact execSacCsha_frame
  | sacCand => exact execSacCand_frame
  | sacCor => exact execSacCor_frame
  | sacCxor => exact execSacCxor_frame
  | sacCcmp => exact execSacCcmp_frame
  | sacLir => exact execSacLir_frame
  | sacLii => exact execSacLii_frame
  | sacLdd => exact execSacLdd_frame
  | sacStd => exact execSacStd_frame
  | sacLd8 => exact execSacLd8_frame
  | sacPset => exact execSacPset_frame
  | sacMvs => exact execSacMvs_frame
  | sacMsv => exact execSacMsv_frame
  | sacReservedOpcode => exact execSacReservedOpcode_frame
  | sacInterruptEntry => exact execSacInterruptEntry_frame
  | sacTransferDone => exact execSacTransferDone_frame
  | sacBankAccess => exact execSacBankAccess_frame
  | sacRstWrite => exact execSacRstWrite_frame
  | sacDbell => exact execSacDbell_frame
  | sacHaltreq => exact execSacHaltreq_frame
  | sacStart => exact execSacStart_frame
  | coreHalted => exact execCoreHalted_frame
  | sacXcancel => exact execSacXcancel_frame
  | sacXack => exact execSacXack_frame
  | sacCntClr => exact execSacCntClr_frame
  | spInstruction => exact execSpInstruction_frame
  | owlInstruction => exact execOwlInstruction_frame
  | svpset => exact execSvpset_frame
  | svpclr => exact execSvpclr_frame
  | svptgl => exact execSvptgl_frame
  | svpout => exact execSvpout_frame
  | svpin => exact execSvpin_frame
  | dterm => exact execDterm_frame
  | dtx => exact execDtx_frame
  | drxRead => exact execDrxRead_frame
  | drxRelease => exact execDrxRelease_frame
  | dcclean => exact execDcclean_frame
  | dcflush => exact execDcflush_frame
  | dcinv => exact execDcinv_frame
  | ddin => exact execDdin_frame
  | mtimecmpMatch => exact execMtimecmpMatch_frame
  | spSwi => exact execSpSwi_frame
  | spRstWrite => exact execSpRstWrite_frame
  | spBootRelease => exact execSpBootRelease_frame
  | spXcopy => exact execSpXcopy_frame
  | owlFirmwareVerified => exact execOwlFirmwareVerified_frame
  | owlBoostGrant => exact execOwlBoostGrant_frame
  | owlWdogWrite => exact execOwlWdogWrite_frame
  | owlWatchdogExpire => exact execOwlWatchdogExpire_frame
  | telemetrySample => exact execTelemetrySample_frame
  | lockRead => exact execLockRead_frame
  | lockRelease => exact execLockRelease_frame
  | denPowerOn => exact execDenPowerOn_frame
  | trstN => exact execTrstN_frame
  | denTake => exact execDenTake_frame
  | denDrop => exact execDenDrop_frame
  | extest => exact execExtest_frame
  | samplePreload => exact execSamplePreload_frame
  | idcode => exact execIdcode_frame
  | highz => exact execHighz_frame
  | clamp => exact execClamp_frame
  | extestPulse => exact execExtestPulse_frame
  | extestTrain => exact execExtestTrain_frame
  | dbgaccRead => exact execDbgaccRead_frame
  | dbgaccWrite => exact execDbgaccWrite_frame
  | dbgaccNop => exact execDbgaccNop_frame
  | denstat => exact execDenstat_frame
  | bypass => exact execBypass_frame
  | denHalt => exact execDenHalt_frame
  | denResume => exact execDenResume_frame
  | denStep => exact execDenStep_frame
  | dfeed => exact execDfeed_frame
  | dtxack => exact execDtxack_frame
  | denDrxWrite => exact execDenDrxWrite_frame
  | denBmGo => exact execDenBmGo_frame
  | denBmDone => exact execDenBmDone_frame
  | nocRequestAdmit => exact execNocRequestAdmit_frame
  | nocResponse => exact execNocResponse_frame
  | nocTimeout => exact execNocTimeout_frame
  | nocPacketAtDownLink => exact execNocPacketAtDownLink_frame
  | nocLinkDown => exact execNocLinkDown_frame
  | nocCntClr => exact execNocCntClr_frame
  | nsClr => exact execNsClr_frame
  | ntClear => exact execNtClear_frame
  | d2dTraining => exact execD2dTraining_frame
  | d2dTrainingDone => exact execD2dTrainingDone_frame
  | d2dFlitReceive => exact execD2dFlitReceive_frame
  | d2dCrossingFrame => exact execD2dCrossingFrame_frame
  | d2dServiceSlot => exact execD2dServiceSlot_frame
  | laneWindowEnd => exact execLaneWindowEnd_frame
  | laneSwapTrained => exact execLaneSwapTrained_frame
  | laneSwapSwitch => exact execLaneSwapSwitch_frame
  | laneRecordWrite => exact execLaneRecordWrite_frame
  | laneRecal => exact execLaneRecal_frame
  | laneRecalDone => exact execLaneRecalDone_frame
  | d2dSwap => exact execD2dSwap_frame
  | d2dAck => exact execD2dAck_frame
  | mpTraining => exact execMpTraining_frame
  | mpTrainingDone => exact execMpTrainingDone_frame
  | mpRetrain => exact execMpRetrain_frame
  | mpRetrainDone => exact execMpRetrainDone_frame
  | mpAck => exact execMpAck_frame
  | mpDqsOscRead => exact execMpDqsOscRead_frame
  | mpZqCal => exact execMpZqCal_frame
  | mpThermalRead => exact execMpThermalRead_frame
  | mpTrackingForce => exact execMpTrackingForce_frame
  | mpCommandIssue => exact execMpCommandIssue_frame
  | requestUrgencyRise => exact execRequestUrgencyRise_frame
  | panicChange => exact execPanicChange_frame
  | trefiBoundary => exact execTrefiBoundary_frame
  | refsbIssue => exact execRefsbIssue_frame
  | catchupTimer => exact execCatchupTimer_frame
  | imeGen => exact execImeGen_frame
  | imeLoad => exact execImeLoad_frame
  | imeKill => exact execImeKill_frame
  | imeKeyDone => exact execImeKeyDone_frame
  | imeKeyAck => exact execImeKeyAck_frame
  | imeSweepGo => exact execImeSweepGo_frame
  | imeSweepResume => exact execImeSweepResume_frame
  | imeSweepAck => exact execImeSweepAck_frame
  | sweepLine => exact execSweepLine_frame
  | slotRetire => exact execSlotRetire_frame
  | gslTrainingAttempt => exact execGslTrainingAttempt_frame
  | gslTrainingDone => exact execGslTrainingDone_frame
  | lmgtFrame => exact execLmgtFrame_frame
  | lmgtRepeat => exact execLmgtRepeat_frame
  | gslFrameSend => exact execGslFrameSend_frame
  | gslDataFrame => exact execGslDataFrame_frame
  | gslStopFrame => exact execGslStopFrame_frame
  | relayImageData => exact execRelayImageData_frame
  | gslIdleFrame => exact execGslIdleFrame_frame
  | gslBadFrame => exact execGslBadFrame_frame
  | gslReservedFrame => exact execGslReservedFrame_frame
  | gslNak => exact execGslNak_frame
  | gslReplayTimeout => exact execGslReplayTimeout_frame
  | gslCreditReturnTimer => exact execGslCreditReturnTimer_frame
  | gslCreditStall => exact execGslCreditStall_frame
  | gslLockLoss => exact execGslLockLoss_frame
  | gslHoldExpire => exact execGslHoldExpire_frame
  | gslLifeExpire => exact execGslLifeExpire_frame
  | gslFrameAgeExpire => exact execGslFrameAgeExpire_frame
  | gslKeyLoad => exact execGslKeyLoad_frame
  | gslKeyKill => exact execGslKeyKill_frame
  | gslKeyAck => exact execGslKeyAck_frame
  | gslKeyRetire => exact execGslKeyRetire_frame
  | gslCntClr => exact execGslCntClr_frame
  | perstN => exact execPerstN_frame
  | pcieLinkUp => exact execPcieLinkUp_frame
  | pcieLinkDown => exact execPcieLinkDown_frame
  | pcieConfigRequest => exact execPcieConfigRequest_frame
  | pcieMemoryRequest => exact execPcieMemoryRequest_frame
  | pfFlr => exact execPfFlr_frame
  | vfFlr => exact execVfFlr_frame
  | vfEnableClear => exact execVfEnableClear_frame
  | dmaProdWrite => exact execDmaProdWrite_frame
  | dmaDescriptor => exact execDmaDescriptor_frame
  | dmaDescriptorDone => exact execDmaDescriptorDone_frame
  | dmaCancel => exact execDmaCancel_frame
  | dmaResume => exact execDmaResume_frame
  | domainSwitchDone => exact execDomainSwitchDone_frame
  | ckpGateWrite => exact execCkpGateWrite_frame
  | blockGated => exact execBlockGated_frame
  | domainDozeStop => exact execDomainDozeStop_frame
  | refclkLoss => exact execRefclkLoss_frame
  | refclkReturn => exact execRefclkReturn_frame
  | pllUnlock => exact execPllUnlock_frame
  | freqMonitorWindow => exact execFreqMonitorWindow_frame
  | pllLock => exact execPllLock_frame
  | domainRestore => exact execDomainRestore_frame
  | napEnter => exact execNapEnter_frame
  | napExit => exact execNapExit_frame
  | napPowerDone => exact execNapPowerDone_frame
  | napReload => exact execNapReload_frame
  | hibernateGo => exact execHibernateGo_frame
  | hibernateComplete => exact execHibernateComplete_frame
  | hibernateWake => exact execHibernateWake_frame
  | dieReset => exact execDieReset_frame
  | dieResetDone => exact execDieResetDone_frame
  | cdcReadyResume => exact execCdcReadyResume_frame
  | blockReset => exact execBlockReset_frame
  | fhInject => exact execFhInject_frame
  | fhPendClear => exact execFhPendClear_frame
  | fhRelease => exact execFhRelease_frame
  | faultEscalate => exact execFaultEscalate_frame
  | fhLogRdWrite => exact execFhLogRdWrite_frame
  | fhCntClr => exact execFhCntClr_frame
  | supplyOutOfWindow => exact execSupplyOutOfWindow_frame
  | dieTemperature => exact execDieTemperature_frame
  | svpInputChange => exact execSvpInputChange_frame
  | svpFilterAccept => exact execSvpFilterAccept_frame
  | svpTrigPulseEnd => exact execSvpTrigPulseEnd_frame
  | svpOutWrite => exact execSvpOutWrite_frame
  | svpLockWrite => exact execSvpLockWrite_frame
  | uartTxWrite => exact execUartTxWrite_frame
  | uartRxRead => exact execUartRxRead_frame
  | uartByteSent => exact execUartByteSent_frame
  | uartByteReceived => exact execUartByteReceived_frame
  | i2cGo => exact execI2cGo_frame
  | i2cAck => exact execI2cAck_frame
  | i2cDone => exact execI2cDone_frame
  | i2cSclTimeout => exact execI2cSclTimeout_frame
  | spiGo => exact execSpiGo_frame
  | spiAck => exact execSpiAck_frame
  | spiDone => exact execSpiDone_frame
  | systemLaneRecalibration => exact execSystemLaneRecalibration_frame
  | prbsBitError => exact execPrbsBitError_frame
  | supplyReturnToRange => exact execSupplyReturnToRange_frame
  | dieTemperatureReturn => exact execDieTemperatureReturn_frame

/-- A tick without a command changes only the clock, the time base with its fine steps, and the line registers. -/
theorem State.idleTick_frame {s : State} : Frame (Part.mask [.now, .ptb, .sync, .lineRegs]) s s.idleTick := by
  refine Frame.step State.lineEdges_frame (by decide) (Frame.each (Frame.upd_now.mono (by decide)) fun d t ht => ?_)
  dsimp only
  split
  · split
    · exact ht.trans (Frame.upd_sync.mono (by decide))
    · exact ht.trans (State.setTick_frame.mono (by decide))
  · exact ht

/-- A command that goes on keeps the storage sound. -/
theorem exec_inv {c : Instr} {s t : State} (h : exec c s = .next t) (hs : s.Inv) : t.Inv := ((exec_frame c s).keep t h).inv hs

/-- The queue is no part of the storage. -/
theorem State.inv_pending_iff (s : State) (q : List Instr) : ({ s with pending := q } : State).Inv ↔ s.Inv := Iff.rfl

/-- Settles O3: a step is a command on the state without its front entry, or a tick, and each lies within a frame that keeps the storage
sound. -/
theorem storageInvariant : Obligations.StorageInvariant := by
  intro s t hs hstep
  unfold step at hstep
  split at hstep
  next c rest _ => exact exec_inv hstep ((s.inv_pending_iff rest).2 hs)
  next => cases hstep; exact State.idleTick_frame.inv hs

/-! ## Counters, sequence numbers and field accesses (00_scope.md, R8, R15, R23) -/

theorem satAdd_lt (w v n : Nat) : satAdd w v n < 2 ^ w := by
  have := Nat.two_pow_pos w
  unfold satAdd; omega

theorem le_satAdd {w v : Nat} (n : Nat) (h : v < 2 ^ w) : v ≤ satAdd w v n := by unfold satAdd; omega

/-- Counting in two parts saturates as counting at once does. -/
theorem satAdd_satAdd (w v m n : Nat) : satAdd w (satAdd w v m) n = satAdd w v (m + n) := by unfold satAdd; omega

@[simp] theorem State.rd_count_self (s : State) (b : Nat) (f : Fld) (n : Nat) :
    (s.count b f n).rd b f = satAdd f.width (s.rd b f) n := by
  rw [State.count, State.rd_wr_self, Nat.mod_eq_of_lt (satAdd_lt ..)]

theorem State.rd_count_ne {b b' : Nat} {f f' : Fld} (s : State) (n : Nat) (h : f'.key b' ≠ f.key b) :
    (s.count b f n).rd b' f' = s.rd b' f' := State.rd_wr_ne _ h

@[simp] theorem State.rd_seqUp_self (s : State) (b : Nat) (f : Fld) :
    (s.seqUp b f).rd b f = (s.rd b f + 1) % 2 ^ f.width := State.rd_wr_self ..

theorem State.rd_seqUp_ne {b b' : Nat} {f f' : Fld} (s : State) (h : f'.key b' ≠ f.key b) :
    (s.seqUp b f).rd b' f' = s.rd b' f' := State.rd_wr_ne _ h

/-- A sequence number of at least one bit changes when it advances, at the wrap too. -/
theorem succ_mod_two_pow_ne {w x : Nat} (hw : 0 < w) (hx : x < 2 ^ w) : (x + 1) % 2 ^ w ≠ x := by
  have h1 : 1 < 2 ^ w := Nat.one_lt_two_pow (by omega)
  rcases Nat.lt_or_eq_of_le (Nat.succ_le_of_lt hx) with h | h
  · rw [Nat.mod_eq_of_lt h]; omega
  · rw [← Nat.succ_eq_add_one, h, Nat.mod_self]; omega

/-- The difference of two sequence numbers is the number of operations between them, also past the wrap. -/
theorem seqDiff_add {w x k : Nat} (hx : x < 2 ^ w) (hk : k < 2 ^ w) : seqDiff w ((x + k) % 2 ^ w) x = k := by
  unfold seqDiff
  rw [Nat.mod_eq_of_lt hx, Nat.add_sub_assoc (Nat.le_of_lt hx), Nat.mod_add_mod, show x + k + (2 ^ w - x) = k + 2 ^ w by omega,
    Nat.add_mod_right, Nat.mod_eq_of_lt hk]

/-- Settles O7, from what a counter and a sequence number read after they advance. -/
theorem countersAndSequences : Obligations.CountersAndSequences := by
  intro s b f hlt
  refine ⟨fun n => ⟨s.rd_count_self b f n, ?_⟩, fun m n => ?_, s.rd_seqUp_self b f, fun hw => ?_,
    fun w x k hx hk => seqDiff_add hx hk, fun b' f' h => ⟨fun n => s.rd_count_ne n h, s.rd_seqUp_ne h⟩⟩
  · rw [State.rd_count_self]; exact le_satAdd n hlt
  · simp only [State.rd_count_self, satAdd_satAdd]
  · rw [State.rd_seqUp_self]; exact succ_mod_two_pow_ne hw hlt

/-- Taking the bits of `x` out of `a` by subtraction clears exactly those bits. -/
theorem testBit_sub_and (a x i : Nat) : (a - (a &&& x)).testBit i = (a.testBit i && !x.testBit i) := by
  have hle : a &&& x ≤ a := Nat.and_le_left
  have hdiv : (a &&& x) / 2 = a / 2 &&& x / 2 := Nat.and_div_two
  have hmod : (a &&& x) % 2 = 1 ↔ a % 2 = 1 ∧ x % 2 = 1 := Nat.and_mod_two_eq_one
  induction i generalizing a x with
  | zero =>
    have hsub : (a - (a &&& x)) % 2 = 1 ↔ a % 2 = 1 ∧ ¬ x % 2 = 1 := by omega
    simp only [Nat.testBit_zero, hsub, Bool.decide_and, decide_not]
  | succ i ih =>
    have hsub : (a - (a &&& x)) / 2 = a / 2 - (a / 2 &&& x / 2) := by omega
    simp only [Nat.testBit_succ, hsub]
    exact ih _ _ Nat.and_le_left Nat.and_div_two Nat.and_mod_two_eq_one

/-- A write by any access code leaves the fields of other keys alone. -/
theorem State.rd_writeField_ne {b b' : Nat} {f f' : Fld} (s : State) (acc : Acc) (busy : Bool) (x : Nat)
    (h : f'.key b' ≠ f.key b) : (s.writeField b f acc busy x).rd b' f' = s.rd b' f' := by
  cases acc with
  | rw | rwl | w1c | w1s => exact State.rd_wr_ne _ h
  | ro | wo => rfl
  | rws => cases busy <;> rfl

/-- A write-one-to-clear field loses the bits written 1. -/
theorem State.testBit_writeField_w1c {b i : Nat} {f : Fld} (s : State) (busy : Bool) (x : Nat) (hi : i < f.width) :
    ((s.writeField b f .w1c busy x).rd b f).testBit i = ((s.rd b f).testBit i && !x.testBit i) := by
  rw [State.writeField, State.rd_wr_self, Nat.testBit_mod_two_pow, testBit_sub_and]
  simp [hi]

/-- Settles O12, access code by access code. -/
theorem fieldAccessCodes : Obligations.FieldAccessCodes := by
  intro s b f x
  refine ⟨fun busy => ⟨?rw, ?rwl, rfl, rfl, ?w1c, ?w1s⟩, ⟨?staged, ?active⟩,
    fun b' f' acc busy h => s.rd_writeField_ne acc busy x h, fun i hi busy _ => s.testBit_writeField_w1c busy x hi⟩
  case rw | rwl | w1c | w1s => exact State.rd_wr_self ..
  case staged => exact State.staged_stage_self ..
  case active => exact State.rd_stage ..

/-! ## Register accesses and commits (R3, R9 to R11, R555) -/

/-- An access that is admitted to the register space of a die does what it is to do there. -/
theorem RegReach.atRegister {s : State} {ini : Ini} {write : Bool} {a : BitVec 40} (h : RegReach s ini write a)
    (f : State → State) : s.atRegister ini write a f = f s := by
  obtain ⟨⟨d, hd⟩, t, out, back, hadm⟩ := h
  simp only [State.atRegister, hd, hadm, if_true]

/-- An admitted write reaches its register when it is aligned, a 64-bit one as two of 32 bits with the lower address first, and else
raises the reserved-write source (R3). -/
theorem RegReach.exec_registerWrite {s : State} {ini : Ini} {a : BitVec 40} (h : RegReach s ini true a) (wide : Bool) (v : BitVec 64)
    (r : Rsp) : exec (.registerWrite ini a wide v r) s = .next (
      if wide then
        if a.toNat % 8 = 0 then
          (s.topWrite ini false r a.toNat (v.truncate 32)).topWrite ini false r (a.toNat + 4) ((v >>> 32).truncate 32)
        else s.reservedWrite (dieOf a.toNat)
      else if a.toNat % 4 = 0 then s.topWrite ini false r a.toNat (v.truncate 32)
      else s.reservedWrite (dieOf a.toNat)) := by
  have hexec : exec (.registerWrite ini a wide v r) s = execRegisterWrite ini a wide v r s := rfl
  rw [hexec, execRegisterWrite, h.atRegister]

/-- An admitted access of a wrong size only raises the reserved-write source (R3). -/
theorem RegReach.exec_badSizeAccess {s : State} {ini : Ini} {write : Bool} {a : BitVec 40} (h : RegReach s ini write a)
    (hpor : s.por = false) : exec (.badSizeAccess ini write a) s = .next (s.reservedWrite (dieOf a.toNat)) := by
  have hexec : exec (.badSizeAccess ini write a) s = execBadSizeAccess ini write a s := rfl
  rw [hexec, execBadSizeAccess, hpor, h.atRegister, if_neg Bool.false_ne_true]

/-- GO and DISCARD are accesses to the BLK_COMMIT at their address. -/
theorem exec_commitGo (ini : Ini) (a : BitVec 40) (s : State) : exec (.commitGo ini a) s = .next (s.atCommit ini a 1) := rfl
theorem exec_commitDiscard (ini : Ini) (a : BitVec 40) (s : State) : exec (.commitDiscard ini a) s = .next (s.atCommit ini a 2) := rfl

/-- A write of GO alone commits, the Owl's as the Owl's. -/
theorem State.commitWrite_go (s : State) (ini : Ini) (p : Place) :
    s.commitWrite ini p 1 = s.commitGo p (match ini with | .owl _ => true | _ => false) := rfl

/-- A write of DISCARD alone discards. -/
theorem State.commitWrite_discard (s : State) (ini : Ini) (p : Place) : s.commitWrite ini p 2 = s.commitDiscard p := rfl

/-- GO or DISCARD written to the BLK_COMMIT of a block that answers. -/
theorem RegReach.atCommit_of_answers {s : State} {ini : Ini} {a : BitVec 40} {p : Place} (hr : RegReach s ini true a) (v : Nat)
    (hp : placeOf a.toNat = some p) (hoff : p.off = 8) (hpor : s.por = false) (hans : s.answersTo ini p = true) :
    s.atCommit ini a v = s.commitWrite ini p v := by
  simp [State.atCommit, hr.atRegister, hp, hoff, hpor, hans]

/-- GO or DISCARD written where the block does not answer is dropped (R48). -/
theorem RegReach.atCommit_of_not_answers {s : State} {ini : Ini} {a : BitVec 40} {p : Place} (hr : RegReach s ini true a)
    (v : Nat) (hp : placeOf a.toNat = some p) (hans : s.answersTo ini p = false) : s.atCommit ini a v = s := by
  simp [State.atCommit, hr.atRegister, hp, hans]

/-- While a commit is BUSY, GO and DISCARD only set COMMIT_ERR (R10). -/
theorem State.commitGo_of_busy {s : State} {p : Place} (hm : p.mirrorBlock = false) (hb : s.on p.base BLK_COMMIT.BUSY = true)
    (owl : Bool) : s.commitGo p owl = s.commitErr p.base := by simp [State.commitGo, hm, hb]
theorem State.commitDiscard_of_busy {s : State} {p : Place} (hm : p.mirrorBlock = false)
    (hb : s.on p.base BLK_COMMIT.BUSY = true) : s.commitDiscard p = s.commitErr p.base := by simp [State.commitDiscard, hm, hb]

/-- The state with the block's staged values taken for the commit. -/
def State.heldFor (s : State) (p : Place) : State :=
  { s with held := (KV.range (p.base * 32) ((p.base + p.k.pitch) * 32) s.stg).foldl (fun m (e : Nat × Nat) => KV.put e.1 e.2 m) s.held }

section Idle
variable {s : State} {p : Place} {owl : Bool} (hm : p.mirrorBlock = false) (hb : s.on p.base BLK_COMMIT.BUSY = false)
include hm hb

/-- DISCARD drops what the block has staged (R11). -/
theorem State.commitDiscard_of_idle :
    s.commitDiscard p = { s with stg := KV.dropRange (p.base * 32) ((p.base + p.k.pitch) * 32) s.stg } := by
  simp [State.commitDiscard, hm, hb]

/-- GO with values that fail the check changes nothing else than COMMIT_ERR (R9); a CKP records the refusal besides. -/
theorem State.commitGo_of_check_failed (hc : s.commitCheck p owl = false) (hk : p.k ≠ .ckp) :
    s.commitGo p owl = s.commitErr p.base := by
  simp [State.commitGo, hm, hb, hc, hk]

/-- GO with values that pass the check and change no table: a bank and a level mirror turn BUSY, any other block takes the values at
once. -/
theorem State.commitGo_of_check_passed (hc : s.commitCheck p owl = true) (ht : s.tableChanged p = false) :
    s.commitGo p owl = if p.k = .tcb ∨ p.k = .arp then (s.heldFor p).wr p.base BLK_COMMIT.BUSY 1
      else ((s.heldFor p).applyHeld p.base (p.base + p.k.pitch)).committed s p := by
  simp [State.commitGo, State.heldFor, hm, hb, hc, ht]
end Idle

/-- Settles O11, from what an admitted access reaches and what GO and DISCARD do to an idle and to a BUSY block. -/
theorem registerAccess : Obligations.RegisterAccess := by
  intro s ini a p
  refine ⟨fun hr => ⟨?write, ?writeWide, ?misaligned, ?misalignedWide, ?badSize, ?answers, ?silent⟩, ?badSizeRead,
    fun hm => ⟨?busy, fun hb => ⟨State.commitDiscard_of_idle hm hb, ?failed, ?passed⟩⟩⟩
  case write | writeWide | misaligned | misalignedWide =>
    intro v r ha
    simp [hr.exec_registerWrite, ha, State.reservedWrite]
  case badSize => exact hr.exec_badSizeAccess
  case badSizeRead => exact RegReach.exec_badSizeAccess
  case answers =>
    intro hp hoff hpor hans
    rw [exec_commitGo, exec_commitDiscard, hr.atCommit_of_answers 1 hp hoff hpor hans,
      hr.atCommit_of_answers 2 hp hoff hpor hans, State.commitWrite_discard]
    exact ⟨congrArg _ (s.commitWrite_go ini p), rfl⟩
  case silent =>
    intro hp hans
    rw [exec_commitGo, exec_commitDiscard, hr.atCommit_of_not_answers 1 hp hans, hr.atCommit_of_not_answers 2 hp hans]
    exact ⟨rfl, rfl⟩
  case busy => exact fun hb o => ⟨State.commitGo_of_busy hm hb o, State.commitDiscard_of_busy hm hb⟩
  case failed => exact fun o hc hk => State.commitGo_of_check_failed hm hb hc hk
  case passed =>
    rintro o _ hc ht rfl
    refine ⟨fun hk => ?_, fun htcb harp => ?_⟩
    · rw [State.commitGo_of_check_passed hm hb hc ht, if_pos hk]; rfl
    · rw [State.commitGo_of_check_passed hm hb hc ht, if_neg (not_or.2 ⟨htcb, harp⟩)]; rfl

end Sys2Proof.Machine

namespace Sys2Proof.Machine

/-! ## What a list of fields says of the register file -/

/-- The state with the fields of a list written, the last entry first: an entry overrides those after it. A state after
`wr`s is such a state by definition, with an entry `Fld.is` for each of them. -/
def State.wrs (s : State) (l : List (Nat × Nat)) : State := { s with act := l.foldr (fun e m => KV.put e.1 e.2 m) s.act }

/-- A field reads what the list gives it. -/
theorem State.rd_wrs (s : State) (l : List (Nat × Nat)) (b : Nat) (f : Fld) :
    (s.wrs l).rd b f = fieldAfter (s.rd b f) (f.key b) l := by
  induction l with
  | nil => rfl
  | cons e l ih =>
    have hput : (s.wrs (e :: l)).rd b f = if f.key b = e.1 then e.2 else (s.wrs l).rd b f := KV.get_put ..
    rw [hput, ih, fieldAfter]

/-- A command that ends with writes of registers on a state with the register file of before gives just those fields. -/
theorem gives_of_exec {c : Instr} {s u : State} {l : List (Nat × Nat)} (h : exec c s = .next (u.wrs l)) (hact : u.act = s.act) :
    Gives c s u l := by
  have hrd : ∀ b f, u.rd b f = s.rd b f := fun b f => congrArg (KV.get f.rst (f.key b)) hact
  exact ⟨u.wrs l, h, fun b f => by rw [State.rd_wrs, hrd], rfl⟩

/-! ## Bank monitors (R53, R55) -/

section BankMonitors
variable (b : Fin 72) (v : BitVec 11) (s : State)

/-- The measured supply is recorded; one that leaves the window while VCCB_OK = 1 latches the bank and raises source 32 (R53). -/
theorem exec_vccbOutOfWindow : exec (.vccbOutOfWindow b v) s = .next (
    if s.vccbOut b v.toNat && s.on (tcbB b) TCB_STAT.VCCB_OK then
      (((s.wr (tcbB b) TCB_VMON.VCCB v.toNat).wr (tcbB b) TCB_STAT.VCCB_OK 0).latchPins b 0xFFFFFFFF).raise (b / 18) 32 none b
    else s.wr (tcbB b) TCB_VMON.VCCB v.toNat) := rfl

/-- The measured supply is recorded; one inside the window sets VCCB_OK (R53). -/
theorem exec_vccbReturn : exec (.vccbReturn b v) s = .next (
    if s.vccbInside b v.toNat then (s.wr (tcbB b) TCB_VMON.VCCB v.toNat).wr (tcbB b) TCB_STAT.VCCB_OK 1
    else s.wr (tcbB b) TCB_VMON.VCCB v.toNat) := rfl

/-- The measured VTT current is recorded; one above 200 mA while VTT_OK = 1 latches the bank and raises source 33 (R55). -/
theorem exec_vttOvercurrent : exec (.vttOvercurrent b v) s = .next (
    if decide (200 < v.toNat) && s.on (tcbB b) TCB_STAT.VTT_OK then
      (((s.wr (tcbB b) TCB_VMON.VTTI v.toNat).wr (tcbB b) TCB_STAT.VTT_OK 0).latchPins b 0xFFFFFFFF).raise (b / 18) 33 none b
    else s.wr (tcbB b) TCB_VMON.VTTI v.toNat) := rfl

/-- The measured VTT current is recorded; one within 200 mA sets VTT_OK (R55). -/
theorem exec_vttRecover : exec (.vttRecover b v) s = .next (
    if v.toNat ≤ 200 then (s.wr (tcbB b) TCB_VMON.VTTI v.toNat).wr (tcbB b) TCB_STAT.VTT_OK 1
    else s.wr (tcbB b) TCB_VMON.VTTI v.toNat) := rfl
end BankMonitors

/-- Every bank is among the 18 of its die. -/
theorem any_bank_of_die {b : Nat} {P : Nat → Bool} (h : P b = true) : ((List.range 18).any fun k => P (b / 18 * 18 + k)) = true :=
  List.any_eq_true.2 ⟨b % 18, List.mem_range.2 (Nat.mod_lt _ (by decide)), by rwa [Nat.div_add_mod' b 18]⟩

/-- A bank without its supply keeps the condition of source 32 of its die present (R53). -/
theorem State.condPresent_of_vccb {s : State} {b : Nat} (h : s.on (tcbB b) TCB_STAT.VCCB_OK = false) :
    s.condPresent (b / 18) 32 = true := by
  have hany := any_bank_of_die (P := fun b => !s.on (tcbB b) TCB_STAT.VCCB_OK) (by rw [h]; rfl)
  simp [State.condPresent, hany]

/-- A bank without its VTT keeps the condition of source 33 of its die present (R55). -/
theorem State.condPresent_of_vtt {s : State} {b : Nat} (h : s.on (tcbB b) TCB_STAT.VTT_OK = false) :
    s.condPresent (b / 18) 33 = true := by
  have hany := any_bank_of_die (P := fun b => !s.on (tcbB b) TCB_STAT.VTT_OK) (by rw [h]; rfl)
  simp [State.condPresent, hany]

/-- Settles O13, from the outcome of each monitor command in and out of its window. -/
theorem bankMonitors : Obligations.BankMonitors := by
  intro s b v
  refine ⟨?vccbFalls, ?vccbKept, ?vccbRises, ?vccbStays, ?vttFalls, ?vttKept, ?vttRises, ?vttStays,
    State.condPresent_of_vccb, State.condPresent_of_vtt⟩
  case vccbFalls => intro hok hout; rw [exec_vccbOutOfWindow, hok, hout]; rfl
  case vccbKept =>
    intro h
    have hno : (s.vccbOut b v.toNat && s.on (tcbB b) TCB_STAT.VCCB_OK) = false := Bool.and_eq_false_iff.2 h
    exact gives_of_exec (by rw [exec_vccbOutOfWindow, hno]; rfl) rfl
  case vccbRises => intro h; exact gives_of_exec (by rw [exec_vccbReturn, if_pos h]; rfl) rfl
  case vccbStays => intro h; exact gives_of_exec (by rw [exec_vccbReturn, h]; rfl) rfl
  case vttFalls => intro hok hout; rw [exec_vttOvercurrent, hok, decide_eq_true hout]; rfl
  case vttKept =>
    intro h
    have hno : (decide (200 < v.toNat) && s.on (tcbB b) TCB_STAT.VTT_OK) = false :=
      Bool.and_eq_false_iff.2 (h.imp_left fun hle => decide_eq_false (Nat.not_lt.2 hle))
    exact gives_of_exec (by rw [exec_vttOvercurrent, hno]; rfl) rfl
  case vttRises => intro h; exact gives_of_exec (by rw [exec_vttRecover, if_pos h]; rfl) rfl
  case vttStays => intro h; exact gives_of_exec (by rw [exec_vttRecover, if_neg (Nat.not_le.2 h)]; rfl) rfl

/-! ## The end of an equivalent-time capture (R91) -/

/-- Changes of the compares on their way leave the registers alone. -/
@[simp] theorem State.rd_comps (s : State) (who : Nat → Bool) (g : Comp → Comp) (b : Nat) (f : Fld) :
    (s.comps who g).rd b f = s.rd b f := rfl

/-- The status that a result register takes is cut to its two bits: 0 OK, 1 PENDING, 2 ABORTED, 3 TIMEOUT (R91). -/
theorem State.rd_etcEnd_status {s : State} {b : Nat} (hbusy : s.on (tcbB b) TCB_STAT.ETC_BUSY = true) (k : Nat) :
    (s.etcEnd b k).rd (tcbB b) TCB_ETC_RES.STATUS = k % 4 := by
  have hkey : TCB_ETC_RES.STATUS.key (tcbB b) ≠ TCB_ETC_RES.VALID.key (tcbB b) := by
    simp [Fld.key, TCB_ETC_RES.STATUS, TCB_ETC_RES.VALID]
  rw [State.etcEnd, if_pos hbusy, State.rd_setBank, State.rd_comps, State.rd_wr_ne _ hkey, State.rd_wr_self]
  rfl

/-- Bank 0 after reset, with an equivalent-time capture under way. -/
def State.etcRunning : State := State.reset.wr (tcbB 0) TCB_STAT.ETC_BUSY 1

/-- Refutes O16: its last clause says that a run which ends with any status below 16 leaves that status in STATUS, but STATUS has two
bits, so that a run of bank 0 ended with 4 reads 0. -/
theorem not_equivalentTime : ¬ Obligations.EquivalentTime := by
  intro h
  have hbusy : State.etcRunning.on (tcbB 0) TCB_STAT.ETC_BUSY = true := by
    simp [State.on, State.etcRunning, TCB_STAT.ETC_BUSY]
  obtain ⟨_, _, _, _, _, _, _, hend⟩ := h State.etcRunning 0
  have hstatus : (State.etcRunning.etcEnd 0 4).rd (tcbB 0) TCB_ETC_RES.STATUS = 4 := (hend 4 hbusy (by decide)).1
  rw [State.rd_etcEnd_status hbusy] at hstatus
  exact absurd hstatus (by decide)

/-! ## The channel input word (R56, R61, R62, R66, R69, R156) -/

section ChannelWord
variable (s : State) (ch : Fin 2304) (w : BitVec 40) (poison : BitVec 5) (c : Nat) (v : Seen)

/-- A word that is not executed: it counts as substituted and raises its source, 34 for poison and 35 for a reserved encoding (R62). -/
def State.substituted (s : State) (ch src : Nat) : State :=
  (s.count (chB ch) CH_CNT_SUBST.V).raise (ch / 576) src (some (s.chanSite ch)) ch

/-- A PCLK that the cadence does not take, and the odd pin of a pair, take no word. -/
theorem exec_channelWordTake_none (h : s.takes (ch / 32) c = false ∨ (s.differential (ch / 32) = true ∧ ch.val % 2 = 1)) :
    exec (.channelWordTake ch w poison c v) s = .next s := by
  have hexec : exec (.channelWordTake ch w poison c v) s = execChannelWordTake ch w poison c v s := rfl
  rw [hexec, execChannelWordTake, if_pos (by simpa using h)]

variable {s ch c} (htake : s.takes (ch / 32) c = true) (heven : s.differential (ch / 32) = true → ch.val % 2 = 0)
include htake heven

/-- A word that is taken passes the check of its PCLK and its pin. -/
theorem State.word_not_dropped : ¬ (!s.takes (ch / 32) c || (s.differential (ch / 32) && decide (ch.val % 2 = 1))) = true := by
  simp only [htake, Bool.not_true, Bool.false_or, Bool.and_eq_true, decide_eq_true_eq, not_and]
  exact fun hd => by rw [heven hd]; decide

/-- What a taken word runs as in serial mode: the override's symbol, DZ for a poisoned or reserved word, or its own symbol. -/
theorem exec_channelWordTake_serial {k : Nat} (hmode : s.vecMode (ch / 32) = false)
    (hword : serialWord (s.cadM (ch / 32)) (s.cadN (ch / 32)) c = some k) :
    exec (.channelWordTake ch w poison c v) s = .next (
      if s.overrideAt ch c ≠ .none then
        s.serialWordExec ch k c (if s.overrideAt ch c = .keep then 2 else 1) (bits w.toNat 0 32) (bitAt w.toNat 36)
          (bitAt w.toNat 37) (bitAt w.toNat 38) true v
      else if poison ≠ 0 then
        (s.substituted ch 34).serialWordExec ch k c 1 (bits w.toNat 0 32) true (bitAt w.toNat 37) (bitAt w.toNat 38) false v
      else if bitAt w.toNat 39 = true ∨ 8 ≤ bits w.toNat 32 4 then
        (s.substituted ch 35).serialWordExec ch k c 1 (bits w.toNat 0 32) true false (bitAt w.toNat 38) false v
      else s.serialWordExec ch k c (bits w.toNat 32 4) (bits w.toNat 0 32) (bitAt w.toNat 36) (bitAt w.toNat 37)
        (bitAt w.toNat 38) false v) := by
  have hexec : exec (.channelWordTake ch w poison c v) s = execChannelWordTake ch w poison c v s := rfl
  rw [hexec, execChannelWordTake, if_neg (State.word_not_dropped htake heven)]
  by_cases hov : s.overrideAt ch c = .none
  · by_cases hp : poison = 0#5
    · by_cases hr : bitAt w.toNat 39 = true ∨ 8 ≤ bits w.toNat 32 4
      · have hres : (bitAt w.toNat 39 || decide (8 ≤ bits w.toNat 32 4)) = true := by simpa using hr
        simp [hov, hp, hr, hres, hmode, hword, State.substituted]
      · have hres : (bitAt w.toNat 39 || decide (8 ≤ bits w.toNat 32 4)) = false := by simpa using hr
        simp [hov, hp, hr, hres, hmode, hword]
    · have hbad : (poison.toNat != 0) = true := bne_iff_ne.2 fun h0 => hp (BitVec.eq_of_toNat_eq h0)
      simp [hov, hp, hbad, hmode, hword, State.substituted]
  · simp [hov, hmode, hword]

/-- What the entries of a taken word run as in vector mode: the override's symbol, DZ for a poisoned or reserved word, or their own. -/
theorem exec_channelWordTake_vector {k n : Nat} (hmode : s.vecMode (ch / 32) = true)
    (hstarts : vectorStarts (s.period (ch / 32)) c = (k, n)) :
    exec (.channelWordTake ch w poison c v) s = .next (
      if s.overrideAt ch c ≠ .none then
        s.vectorExec ch k n c (bits w.toNat 0 32) (bitAt w.toNat 36) (bitAt w.toNat 37) (bitAt w.toNat 38) false true
          (if s.overrideAt ch c = .keep then 2 else 1) v
      else if poison ≠ 0 then
        (s.substituted ch 34).vectorExec ch k n c (bits w.toNat 0 32) true (bitAt w.toNat 37) (bitAt w.toNat 38) true false 1 v
      else if bitAt w.toNat 39 = true then
        (s.substituted ch 35).vectorExec ch k n c (bits w.toNat 0 32) true false (bitAt w.toNat 38) true false 1 v
      else s.vectorExec ch k n c (bits w.toNat 0 32) (bitAt w.toNat 36) (bitAt w.toNat 37) (bitAt w.toNat 38) false false 1 v) := by
  have hexec : exec (.channelWordTake ch w poison c v) s = execChannelWordTake ch w poison c v s := rfl
  rw [hexec, execChannelWordTake, if_neg (State.word_not_dropped htake heven)]
  by_cases hov : s.overrideAt ch c = .none
  · by_cases hp : poison = 0#5
    · by_cases hr : bitAt w.toNat 39 = true
      · simp [hov, hp, hr, hmode, hstarts, State.substituted]
      · simp [hov, hp, hr, hmode, hstarts]
    · have hbad : (poison.toNat != 0) = true := bne_iff_ne.2 fun h0 => hp (BitVec.eq_of_toNat_eq h0)
      simp [hov, hp, hbad, hmode, hstarts, State.substituted]
  · simp [hov, hmode, hstarts]
end ChannelWord

/-- Settles O14, from what a taken word runs as in each mode. -/
theorem channelWords : Obligations.ChannelWords := by
  rintro s ch w poison c v _ _ _ _ _ rfl rfl rfl rfl rfl
  refine ⟨exec_channelWordTake_none s ch w poison c v, fun htake heven => ⟨fun hov u1 u2 hu1 hu2 => ⟨?serial, ?vector⟩, ?override⟩⟩
  case serial =>
    intro k hmode hword
    have hrun := exec_channelWordTake_serial w poison v htake heven hmode hword
    rw [if_neg (Classical.not_not.2 hov)] at hrun
    refine ⟨fun hp h39 hsym => ?clean, fun hp => ?poisoned, fun hp hr => ?reserved⟩
    case clean => rw [hrun, if_neg (Classical.not_not.2 hp), if_neg (not_or.2 ⟨ne_true_of_eq_false h39, Nat.not_le.2 hsym⟩)]
    case poisoned => rw [hrun, if_pos hp, hu1]; rfl
    case reserved => rw [hrun, if_neg (Classical.not_not.2 hp), if_pos hr, hu2]; rfl
  case vector =>
    intro k n hmode hstarts
    have hrun := exec_channelWordTake_vector w poison v htake heven hmode hstarts
    rw [if_neg (Classical.not_not.2 hov)] at hrun
    refine ⟨fun hp h39 => ?cleanVector, fun hp => ?poisonedVector, fun hp h39 => ?reservedVector⟩
    case cleanVector => rw [hrun, if_neg (Classical.not_not.2 hp), if_neg (ne_true_of_eq_false h39)]
    case poisonedVector => rw [hrun, if_pos hp, hu1]; rfl
    case reservedVector => rw [hrun, if_neg (Classical.not_not.2 hp), if_pos h39, hu2]; rfl
  case override =>
    rintro hov _ rfl
    refine ⟨fun k hmode hword => ?_, fun k n hmode hstarts => ?_⟩
    · rw [exec_channelWordTake_serial w poison v htake heven hmode hword, if_pos hov]
    · rw [exec_channelWordTake_vector w poison v htake heven hmode hstarts, if_pos hov]

/-! ## Pin roles, enable and safe state (R56, R78 to R86, R89) -/

/-- A register write reaches a block that answers (R48). -/
theorem State.atBlock_of_answers {s : State} {k : Blk} {d i : Nat} (h : s.answers k d i = true) (f : State → State) :
    s.atBlock k d i f = f s := if_pos h

/-- A register write that would change nothing changes nothing. -/
theorem State.atBlock_of_fixed {s : State} {k : Blk} {d i : Nat} {f : State → State} (h : f s = s) : s.atBlock k d i f = s := by
  rw [State.atBlock, h, ite_self]

/-- A written word that has none of the bits outside the mask sets nothing (R15). -/
theorem State.rsvBits_of_and_eq_zero {s : State} {blk mask v : Nat} (h : v &&& (2 ^ 32 - 1 - mask) = 0) : s.rsvBits blk mask v = s :=
  if_neg (Classical.not_not.2 h)

/-- A number below bit `k` and a multiple of bit `k` have no bit in common. -/
theorem and_two_pow_mul_eq_zero {n k : Nat} (c : Nat) (h : n < 2 ^ k) : n &&& (2 ^ k * c) = 0 := by
  refine Nat.eq_of_testBit_eq fun i => ?_
  rw [Nat.testBit_and, Nat.testBit_two_pow_mul, Nat.zero_testBit]
  by_cases hi : k ≤ i
  · rw [Nat.testBit_lt_two_pow (Nat.lt_of_lt_of_le h (Nat.pow_le_pow_right (by decide) hi)), Bool.false_and]
  · simp [hi]

section CommandsOfAPin
variable (ch : Fin 2304) (b : Fin 72) (v : Word) (s : State)
theorem exec_roleWrite : exec (.roleWrite ch v) s = .next (s.atBlock .tcb (ch / 576) (ch % 576 / 32) fun s => s.roleWrite ch v) := rfl
theorem exec_capptrWrite :
    exec (.capptrWrite ch v) s = .next (s.atBlock .tcb (ch / 576) (ch % 576 / 32) fun s => s.capptrWrite ch v) := rfl
theorem exec_tcbEnWrite : exec (.tcbEnWrite b v) s = .next (s.atBlock .tcb (b / 18) (b % 18) fun s => s.tcbEnWrite b v) := rfl
theorem exec_tcbSafeWrite : exec (.tcbSafeWrite b v) s = .next (s.atBlock .tcb (b / 18) (b % 18) fun s => s.tcbSafeWrite b v) := rfl
end CommandsOfAPin

/-! ### The role register -/

section Governing
variable {s : State} {ch : Nat} (hgov : ¬ (s.differential (ch / 32) = true ∧ ch % 2 = 1))

/-- The odd pin of a pair has no role and no capture pointer of its own (R56). -/
theorem State.roleWrite_of_odd (hodd : s.differential (ch / 32) = true ∧ ch % 2 = 1) (v : Word) : s.roleWrite ch v = s := by
  rw [State.roleWrite, if_pos hodd]
theorem State.capptrWrite_of_odd (hodd : s.differential (ch / 32) = true ∧ ch % 2 = 1) (v : Word) : s.capptrWrite ch v = s := by
  rw [State.capptrWrite, if_pos hodd]

include hgov

/-- The reserved role is discarded with RSVW (R16, R78). -/
theorem State.roleWrite_of_reserved {v : Word} (hv : v.toNat % 4 = 3) : s.roleWrite ch v = s.wr (tcbB (ch / 32)) BLK_STAT.RSVW 1 := by
  rw [State.roleWrite, if_neg hgov, if_pos hv]; rfl

/-- A write of a bare role: rejected during a transition, or when another pin has PARAM; recorded when it is held already; taken at
once on a safe pin; else the start of a transition (R78 to R82). -/
theorem State.roleWrite_of_code {r : Nat} (hr : r < 3) : s.roleWrite ch (BitVec.ofNat 32 r) =
    if s.on (chB ch) CH_ROLE.BUSY then s.wr (chB ch) CH_ROLE.REJ 1
    else if r = s.rd (chB ch) CH_ROLE.CUR then s.wr (chB ch) CH_ROLE.ROLE r
    else if r = 1 ∧ s.paramTaken ch then s.wr (chB ch) CH_ROLE.REJ 1
    else if s.pinSafe ch then (s.wr (chB ch) CH_ROLE.ROLE r).wr (chB ch) CH_ROLE.CUR r
    else s.startRole ch r := by
  have hval : (BitVec.ofNat 32 r).toNat = r := by rw [BitVec.toNat_ofNat]; omega
  have hmod : r % 4 = r := Nat.mod_eq_of_lt (by omega)
  have hrsv : r &&& (2 ^ 32 - 1 - 0x333) = 0 := and_two_pow_mul_eq_zero 0x3FFFFF33 (k := 2) (by omega)
  have hrej : bitAt r 9 = false := by rw [bitAt, Nat.div_eq_of_lt (by omega)]; rfl
  rw [State.roleWrite, hval, hmod, if_neg hgov, if_neg (by omega), State.rsvBits_of_and_eq_zero hrsv, hrej]
  rfl

/-- A role write marks reserved bits, clears REJ by its bit 9, and writes the bare role (R15, R78). -/
theorem State.roleWrite_of_word {v : Word} (hv : v.toNat % 4 ≠ 3) : s.roleWrite ch v =
    ((s.rsvBits (tcbB (ch / 32)) 0x333 v.toNat).when (bitAt v.toNat 9) fun s => s.wr (chB ch) CH_ROLE.REJ 0).roleWrite ch
      (BitVec.ofNat 32 (v.toNat % 4)) := by
  have hkeys : TCB_CTL.SIG.key (tcbB (ch / 32)) ≠ BLK_STAT.RSVW.key (tcbB (ch / 32)) ∧
      TCB_CTL.SIG.key (tcbB (ch / 32)) ≠ CH_ROLE.REJ.key (chB ch) := by
    simp only [Fld.key, TCB_CTL.SIG, BLK_STAT.RSVW, CH_ROLE.REJ, chB]; omega
  have hsig : ∀ c : Bool, ((s.rsvBits (tcbB (ch / 32)) 0x333 v.toNat).when c fun s => s.wr (chB ch) CH_ROLE.REJ 0).differential (ch / 32) =
      s.differential (ch / 32) := by
    have hrsv : (s.rsvBits (tcbB (ch / 32)) 0x333 v.toNat).differential (ch / 32) = s.differential (ch / 32) := by
      unfold State.rsvBits
      split
      · rw [State.differential, State.rsvw, State.rd_wr_ne _ hkeys.1]; rfl
      · rfl
    rintro (_ | _)
    · exact hrsv
    · rw [← hrsv, State.differential, State.when, if_pos rfl, State.rd_wr_ne _ hkeys.2]; rfl
  rw [State.roleWrite_of_code (by rwa [hsig]) (by omega), State.roleWrite, if_neg hgov, if_neg hv]
  rfl
end Governing

/-! ### The capture pointer -/

section CapturePointer
variable {s : State} {ch : Nat} (hgov : ¬ (s.differential (ch / 32) = true ∧ ch % 2 = 1))
include hgov

/-- A capture pointer beyond 2048 is a reserved encoding (R16, R89). -/
theorem State.capptrWrite_of_reserved {v : Word} (hv : 2048 < v.toNat % 4096) :
    s.capptrWrite ch v = s.wr (tcbB (ch / 32)) BLK_STAT.RSVW 1 := by
  rw [State.capptrWrite, if_neg hgov, if_pos hv]; rfl

/-- A capture pointer of 0 to 2048 is taken, the last one as a full buffer (R89). -/
theorem State.capptrWrite_of_le {n : Nat} (hn : n ≤ 2048) : s.capptrWrite ch (BitVec.ofNat 32 n) =
    (s.wr (chB ch) CH_CAPPTR.PTR n).wr (chB ch) CH_CAPPTR.FULL (if n = 2048 then 1 else 0) := by
  have hval : (BitVec.ofNat 32 n).toNat = n := by rw [BitVec.toNat_ofNat]; omega
  have hmod : n % 4096 = n := Nat.mod_eq_of_lt (by omega)
  have hfull : (decide (n = 2048)).toNat = if n = 2048 then 1 else 0 := by split <;> simp [*]
  have hrsv : n &&& (2 ^ 32 - 1 - 0x10FFF) = 0 := and_two_pow_mul_eq_zero 0xFFFEF (k := 12) (by omega)
  rw [State.capptrWrite, hval, hmod, if_neg hgov, if_neg (by omega), State.rsvBits_of_and_eq_zero hrsv, State.wrb, hfull]
end CapturePointer

/-! ### Transitions, blanking and the bank's enables -/

/-- A transition of a live pin of a single-ended bank that holds neither PARAM nor a running capture: ROLE recorded, BUSY set, the pin
in high impedance (R79). -/
theorem State.startRole_of_single {s : State} {ch : Nat} (hsingle : s.differential (ch / 32) = false)
    (hcur : s.rd (chB ch) CH_ROLE.CUR ≠ 1) (hetc : bitAt (s.bank (ch / 32)).etcPins (ch % 32) = false) (r : Nat) :
    s.startRole ch r = (((s.wr (chB ch) CH_ROLE.ROLE r).wr (chB ch) CH_ROLE.BUSY 1).maskPin ch).setPin ch { s.pin ch with
      src := s.rd (chB ch) CH_ROLE.CUR, tgt := r, enab := false, mid := false, drv := false, term := false, sw := false } := by
  have hsig : TCB_CTL.SIG.key (tcbB (ch / 32)) ≠ CH_ROLE.ROLE.key (chB ch) := by
    simp only [Fld.key, TCB_CTL.SIG, CH_ROLE.ROLE, chB]; omega
  have hpair : ((s.wr (chB ch) CH_ROLE.ROLE r).pair ch) = [ch] := by
    have hd : (s.wr (chB ch) CH_ROLE.ROLE r).differential (ch / 32) = false := by
      rw [State.differential, State.rd_wr_ne _ hsig]; exact hsingle
    rw [State.pair, hd]; rfl
  have hfilter : ∀ safe : Nat → Bool, [ch].filter (fun c => c == ch || !safe c) = [ch] := fun safe => by simp
  simp only [State.startRole, if_neg hcur, hetc, Bool.false_eq_true, if_false, hpair, hfilter]
  rfl

section Transition
variable {s : State} {ch : Fin 2304} (hbusy : s.on (chB ch) CH_ROLE.BUSY = true)
include hbusy

/-- The midpoint toward PARAM closes the switch (R79). -/
theorem exec_roleMidpoint_param (hmid : (s.pin ch).mid = false) (htgt : (s.pin ch).tgt = 1) :
    exec (.roleMidpoint ch) s = .next (s.setPin ch { s.pin ch with sw := true, mid := true }) := by
  have hexec : exec (.roleMidpoint ch) s = execRoleMidpoint ch s := rfl
  simp [hexec, execRoleMidpoint, hbusy, hmid, htgt]

/-- The midpoint away from PARAM, and that of the enable time of PATTERN, connects the termination (R79, R82). -/
theorem exec_roleMidpoint_term (hmid : (s.pin ch).mid = false) (htgt : (s.pin ch).tgt ≠ 1)
    (hterm : (s.pin ch).src = 1 ∨ ((s.pin ch).enab = true ∧ (s.pin ch).tgt = 0)) :
    exec (.roleMidpoint ch) s = .next (s.setPin ch { s.pin ch with term := s.hasTerm ch, mid := true }) := by
  have hexec : exec (.roleMidpoint ch) s = execRoleMidpoint ch s := rfl
  simp [hexec, execRoleMidpoint, hbusy, hmid, htgt, hterm]

/-- The end of a transition loads CUR and clears BUSY (R79, R82). -/
theorem exec_roleTransitionDone {u : State} (hu : u = (s.wr (chB ch) CH_ROLE.CUR (s.pin ch).tgt).wr (chB ch) CH_ROLE.BUSY 0) :
    exec (.roleTransitionDone ch) s = .next ((if (s.pin ch).tgt = 0 then u.unmaskPin ch else u).setPin ch { s.pin ch with
      enab := false, sw := (s.pin ch).tgt == 1, term := (s.pin ch).tgt != 1 && s.hasTerm ch, src := (s.pin ch).tgt }) := by
  have hexec : exec (.roleTransitionDone ch) s = execRoleTransitionDone ch s := rfl
  simp only [hexec, execRoleTransitionDone, hbusy, hu]
  rfl
end Transition

/-- The end of a bank's blanking clears its interval and BLANK (R86). -/
theorem exec_blankEnd_bank (b : Fin 72) (s : State) : exec (.blankEnd b none) s =
    .next ((s.setBank b { s.bank b with blankFrom := 0, blankTo := 0 }).wr (tcbB b) TCB_STAT.BLANK 0) := rfl

/-- The end of a pin's blanking clears its interval (R86). -/
theorem exec_blankEnd_pin (b : Fin 72) (p : Fin 32) (s : State) : exec (.blankEnd b (some p)) s =
    .next (s.setPin (b * 32 + p) { s.pin (b * 32 + p) with blankFrom := 0, blankTo := 0 }) := rfl

/-- Settles O15, command by command. -/
theorem pinRolesAndSafe : Obligations.PinRolesAndSafe := by
  intro s ch b v
  have hrole : ∀ w, s.answers .tcb (ch / 576) (ch % 576 / 32) = true → exec (.roleWrite ch w) s = .next (s.roleWrite ch w) :=
    fun w hans => by rw [exec_roleWrite, State.atBlock_of_answers hans]
  have hcapptr : ∀ w, s.answers .tcb (ch / 576) (ch % 576 / 32) = true → exec (.capptrWrite ch w) s = .next (s.capptrWrite ch w) :=
    fun w hans => by rw [exec_capptrWrite, State.atBlock_of_answers hans]
  have hgoverns : (s.differential (ch / 32) = true → ch.val % 2 = 0) → ¬ (s.differential (ch / 32) = true ∧ ch.val % 2 = 1) :=
    fun heven ⟨hd, hodd⟩ => by rw [heven hd] at hodd; exact absurd hodd (by decide)
  refine ⟨?code, fun hsingle hcur hetc r _ => State.startRole_of_single hsingle hcur hetc r, ?word, ?odd, exec_roleMidpoint_param,
    exec_roleMidpoint_term, fun hbusy u => exec_roleTransitionDone hbusy, ?enable, ?release, gives_of_exec (exec_blankEnd_bank b s) rfl,
    fun p => exec_blankEnd_pin b p s, ?pointer⟩
  case code =>
    rintro hans heven r _ rfl
    have hexec := (hrole _ hans).trans (congrArg _ (State.roleWrite_of_code (hgoverns heven) r.isLt))
    refine ⟨fun hbusy => ?busy, fun hbusy hcur => ?same, fun hbusy hcur => ⟨fun hone hparam => ?taken, fun hfree => ?free⟩⟩
    case busy => exact gives_of_exec (by rw [hexec, if_pos hbusy]; rfl) rfl
    all_goals rw [if_neg (ne_true_of_eq_false hbusy)] at hexec
    case same => exact gives_of_exec (by rw [hexec, if_pos hcur]; rfl) rfl
    all_goals rw [if_neg hcur] at hexec
    case taken => exact gives_of_exec (by rw [hexec, if_pos ⟨hone, hparam⟩]; rfl) rfl
    rw [if_neg fun ⟨hone, hparam⟩ => ne_true_of_eq_false (hfree hone) hparam] at hexec
    refine ⟨fun hsafe => ?safe, fun hlive => ?live⟩
    case safe => exact gives_of_exec (by rw [hexec, if_pos hsafe]; rfl) rfl
    case live => rw [hexec, if_neg (ne_true_of_eq_false hlive)]
  case word =>
    intro hans heven
    refine ⟨fun hv => gives_of_exec ?_ rfl, fun hv => ?_⟩
    · rw [hrole v hans, State.roleWrite_of_reserved (hgoverns heven) hv]; rfl
    · rw [hrole v hans, State.roleWrite_of_word (hgoverns heven) hv]
  case odd =>
    intro hd hodd
    rw [exec_roleWrite, exec_capptrWrite, State.atBlock_of_fixed (State.roleWrite_of_odd ⟨hd, hodd⟩ v),
      State.atBlock_of_fixed (State.capptrWrite_of_odd ⟨hd, hodd⟩ v)]
    exact ⟨rfl, rfl⟩
  case enable =>
    rintro hans _ _ rfl rfl
    rw [exec_tcbEnWrite, State.atBlock_of_answers hans]; rfl
  case release =>
    intro hans
    rw [exec_tcbSafeWrite, State.atBlock_of_answers hans]; rfl
  case pointer =>
    intro hans heven
    refine ⟨fun n => gives_of_exec ?_ rfl, fun hv => gives_of_exec ?_ rfl⟩
    · rw [hcapptr _ hans, State.capptrWrite_of_le (hgoverns heven) (Nat.le_of_lt_succ n.isLt)]; rfl
    · rw [hcapptr v hans, State.capptrWrite_of_reserved (hgoverns heven) hv]; rfl

/-! ## Counters, drift, calibration and the bank commit (R87, R88, R92 to R95) -/

/-- A flag reads as it was set. -/
theorem State.on_wrb_self (s : State) (b : Nat) {f : Fld} (hf : 0 < f.width) (x : Bool) : (s.wrb b f x).on b f = x := by
  have hx : x.toNat % 2 ^ f.width = x.toNat :=
    Nat.mod_eq_of_lt (Nat.lt_of_lt_of_le x.toNat_lt (Nat.pow_le_pow_right (by decide) hf : 2 ^ 1 ≤ 2 ^ f.width))
  rw [State.on, State.wrb, State.rd_wr_self, hx]
  cases x <;> rfl

/-! ### Changes of several pins of a bank -/

/-- The state with other pins. -/
def State.withPins (s : State) (P : KV PinX) : State := { s with pins := P }

/-- A loop over distinct pins of a bank that changes each by its own state alone: each pin of the loop is changed once, no other pin
and nothing but the pins. -/
theorem State.each_pin (s : State) (b : Nat) {f : Nat → State → State} {g : PinX → PinX}
    (hf : ∀ p P, f p (s.withPins P) = (s.withPins P).setPin (b * 32 + p) (g ((s.withPins P).pin (b * 32 + p))))
    {l : List Nat} (hl : l.Nodup) : ∃ P, s.each l f = s.withPins P ∧
      (∀ p ∈ l, (s.each l f).pin (b * 32 + p) = g (s.pin (b * 32 + p))) ∧
      ∀ q, (∀ p ∈ l, q ≠ b * 32 + p) → (s.each l f).pin q = s.pin q := by
  induction l generalizing s with
  | nil => exact ⟨s.pins, rfl, fun p hp => absurd hp List.not_mem_nil, fun _ _ => rfl⟩
  | cons p l ih =>
    obtain ⟨hp, hnd⟩ := List.nodup_cons.1 hl
    have hstep : s.each (p :: l) f = (s.setPin (b * 32 + p) (g (s.pin (b * 32 + p)))).each l f :=
      congrArg (fun u : State => u.each l f) (hf p s.pins)
    obtain ⟨P, hP, hin, hout⟩ := ih (s.setPin (b * 32 + p) (g (s.pin (b * 32 + p)))) hf hnd
    have hother : ∀ q, q ≠ b * 32 + p → (s.setPin (b * 32 + p) (g (s.pin (b * 32 + p)))).pin q = s.pin q :=
      fun q hq => by rw [State.pin_setPin, if_neg hq]
    have hdistinct : ∀ q ∈ l, b * 32 + q ≠ b * 32 + p := fun q hq heq => hp (by rwa [show p = q by omega])
    refine ⟨P, hstep.trans hP, fun q hq => ?_, fun q hq => ?_⟩
    · rw [hstep]
      rcases List.mem_cons.1 hq with rfl | hq
      · rw [hout _ fun r hr heq => hdistinct r hr heq.symm, State.pin_setPin_self]
      · rw [hin q hq, hother _ (hdistinct q hq)]
    · rw [hstep, hout q fun r hr => hq r (List.mem_cons_of_mem p hr), hother q (hq p List.mem_cons_self)]

/-! ### Drift corrections -/

/-- Some correction waits just when some pin of the bank lacks a part of it (R95). -/
theorem State.isSome_driftOldest (s : State) (b : Nat) :
    (s.driftOldest b).isSome = (List.range 32).any fun p => s.driftLeft b p != 0 := by
  have hfold : ∀ (l : List Nat) (h : Option Nat → Nat → Nat) (m : Option Nat),
      (l.foldl (fun m p => some (h m p)) m).isSome = (m.isSome || !l.isEmpty) := by
    intro l h
    induction l with
    | nil => simp
    | cons p l ih => intro m; rw [List.foldl_cons, ih]; simp
  rw [State.driftOldest, hfold, Bool.eq_iff_iff]
  simp

section Refresh
variable (s : State) (b : Nat) (was : Option Nat)

/-- The refresh of PEND writes PEND alone, to whether a correction waits. -/
theorem State.rd_driftRefresh (b' : Nat) (f : Fld) : (s.driftRefresh b was).rd b' f =
    (s.wrb (tcbB b) TCB_DRIFT.PEND (s.driftOldest b).isSome).rd b' f := by
  unfold State.driftRefresh; dsimp only; split <;> rfl

theorem State.on_driftRefresh_pend : (s.driftRefresh b was).on (tcbB b) TCB_DRIFT.PEND = (s.driftOldest b).isSome := by
  rw [State.on, State.rd_driftRefresh]
  exact s.on_wrb_self (tcbB b) (by decide) _

/-- The refresh leaves the pins and the bank's correction as they are. -/
theorem State.pin_driftRefresh (q : Nat) : (s.driftRefresh b was).pin q = s.pin q := by
  unfold State.driftRefresh; dsimp only; split <;> rfl
theorem State.drift_driftRefresh : ((s.driftRefresh b was).bank b).drift = (s.bank b).drift := by
  unfold State.driftRefresh; dsimp only; split
  · rfl
  · rw [State.bank_setBank_self]; rfl
end Refresh

/-- A measurement records the need, lets the waiting time of the pins that had nothing left start anew, and refreshes PEND (R94). -/
theorem exec_driftMeasure (b : Fin 72) (need : Int) (s : State) : ∃ was, exec (.driftMeasure b need) s = .next (
    ((s.setBank b { s.bank b with drift := need }).each ((List.range 32).filter fun p => s.driftLeft b p == 0) fun p s =>
      s.setPin (b * 32 + p) { s.pin (b * 32 + p) with driftAt := s.tick (b / 18) }).driftRefresh b was) := ⟨_, rfl⟩

/-- After a measurement every pin keeps its correction, PEND says whether one has another than the need (R94). -/
theorem leads_driftMeasure (s : State) (b : Fin 72) (need : Int) : Leads (.driftMeasure b need) s fun t => (t.bank b).drift = need ∧
    (∀ p, p < 32 → (t.pin (b * 32 + p)).corr = (s.pin (b * 32 + p)).corr ∧ (t.pin (b * 32 + p)).driftAt =
      if s.driftLeft b p = 0 then s.tick (b / 18) else (s.pin (b * 32 + p)).driftAt) ∧
    t.on (tcbB b) TCB_DRIFT.PEND = (List.range 32).any (fun p => need != (s.pin (b * 32 + p)).corr) := by
  obtain ⟨was, hexec⟩ := exec_driftMeasure b need s
  obtain ⟨P, hP, hfresh, hold⟩ := (s.setBank b { s.bank b with drift := need }).each_pin b
    (f := fun p s => s.setPin (b * 32 + p) { s.pin (b * 32 + p) with driftAt := s.tick (b / 18) })
    (g := fun x => { x with driftAt := s.tick (b / 18) }) (fun _ _ => rfl)
    (List.nodup_range.filter fun p => s.driftLeft b p == 0 : ((List.range 32).filter _).Nodup)
  rw [hP] at hexec hfresh hold
  have hpin : ∀ p, p < 32 → ((s.setBank b { s.bank b with drift := need }).withPins P).pin (b * 32 + p) =
      { s.pin (b * 32 + p) with driftAt := if s.driftLeft b p = 0 then s.tick (b / 18) else (s.pin (b * 32 + p)).driftAt } := by
    intro p hp
    split
    next h => exact hfresh p (by simp [hp, h])
    next h => exact hold _ fun q hq heq => h (by rw [show p = q by omega]; simpa using (List.mem_filter.1 hq).2)
  have hdrift : (((s.setBank b { s.bank b with drift := need }).withPins P).bank b).drift = need :=
    congrArg BankX.drift (s.bank_setBank_self b _)
  refine ⟨_, hexec, ?_, fun p hp => ?_, ?_⟩
  · rw [State.drift_driftRefresh, hdrift]
  · rw [State.pin_driftRefresh, hpin p hp]; exact ⟨rfl, rfl⟩
  · rw [State.on_driftRefresh_pend, State.isSome_driftOldest]
    rw [Bool.eq_iff_iff, List.any_eq_true, List.any_eq_true]
    refine exists_congr fun p => and_congr_right fun hp => ?_
    rw [State.driftLeft, hdrift, hpin p (List.mem_range.1 hp), bne_iff_ne, bne_iff_ne]
    show need - (s.pin (b * 32 + p)).corr ≠ 0 ↔ need ≠ (s.pin (b * 32 + p)).corr
    omega

/-- Without an application point nothing is applied (R94). -/
theorem exec_driftApply_of_no_point {s : State} {b : Fin 72} {st : Fin 16} {c : Nat} (h : s.driftPoint st c = false) :
    exec (.driftApply ⟨b, st, c⟩) s = .next s := by
  have hexec : exec (.driftApply ⟨b, st, c⟩) s = execDriftApply ⟨b, st, c⟩ s := rfl
  rw [hexec, execDriftApply]
  dsimp only
  split
  · rfl
  · rw [h]; rfl

/-- The pins of a site, in a bank, on which a part of the correction waits. -/
def State.driftPins (s : State) (b st : Nat) : List Nat :=
  (List.range 32).filter fun p => s.chanSite (b * 32 + p) == st && s.driftLeft b p != 0

/-- At an application point each of these pins takes one step toward the need, and LAST shows the step of the first (R94). -/
theorem exec_driftApply_of_point {s : State} {b : Fin 72} {st : Fin 16} {c p0 : Nat} {ps : List Nat}
    (hpins : s.driftPins b st = p0 :: ps) (h : s.driftPoint st c = true) :
    exec (.driftApply ⟨b, st, c⟩) s = .next ((((s.each (p0 :: ps) fun p s => s.setPin (b * 32 + p) { s.pin (b * 32 + p) with
        corr := (s.pin (b * 32 + p)).corr + driftStep (s.driftLeft b p), driftAt := s.tick (b / 18) }).wr (tcbB b) TCB_DRIFT.LAST
        (wrapI 8 (driftStep (s.driftLeft b p0)))).driftRefresh b (s.driftOldest b))) := by
  have hexec : exec (.driftApply ⟨b, st, c⟩) s = execDriftApply ⟨b, st, c⟩ s := rfl
  rw [hexec, execDriftApply]
  dsimp only
  split
  next hnil => exact absurd (hpins.symm.trans hnil) (List.cons_ne_nil p0 ps)
  next q qs hcons =>
    obtain ⟨rfl, rfl⟩ := List.cons.inj (hcons.symm.trans hpins)
    rw [h, hcons]; rfl

/-- An application moves each of the site's pins at most 4 steps toward the need, and no other pin (R94). -/
theorem leads_driftApply {s : State} {b : Fin 72} {st : Fin 16} {c p0 : Nat} {ps : List Nat}
    (hpins : s.driftPins b st = p0 :: ps) (h : s.driftPoint st c = true) : Leads (.driftApply ⟨b, st, c⟩) s fun t =>
      (∀ p ∈ p0 :: ps, (t.pin (b * 32 + p)).corr = (s.pin (b * 32 + p)).corr + driftStep (s.driftLeft b p) ∧
        (t.pin (b * 32 + p)).driftAt = s.tick (b / 18)) ∧
      (∀ q, (∀ p ∈ p0 :: ps, q ≠ b * 32 + p) → t.pin q = s.pin q) ∧
      t.rd (tcbB b) TCB_DRIFT.LAST = wrapI 8 (driftStep (s.driftLeft b p0)) % 2 ^ TCB_DRIFT.LAST.width := by
  obtain ⟨P, hP, hin, hout⟩ := s.each_pin b
    (f := fun p s => s.setPin (b * 32 + p) { s.pin (b * 32 + p) with
      corr := (s.pin (b * 32 + p)).corr + driftStep (s.driftLeft b p), driftAt := s.tick (b / 18) })
    (g := fun x => { x with corr := x.corr + driftStep ((s.bank b).drift - x.corr), driftAt := s.tick (b / 18) }) (fun _ _ => rfl)
    (l := p0 :: ps) (hpins ▸ List.nodup_range.filter _)
  have hexec := exec_driftApply_of_point hpins h
  rw [hP] at hexec hin hout
  have hlast : TCB_DRIFT.LAST.key (tcbB b) ≠ TCB_DRIFT.PEND.key (tcbB b) := by
    simp [Fld.key, TCB_DRIFT.LAST, TCB_DRIFT.PEND]
  refine ⟨_, hexec, fun p hp => ?_, fun q hq => ?_, ?_⟩
  · rw [State.pin_driftRefresh, State.wr_pin, hin p hp]; exact ⟨rfl, rfl⟩
  · rw [State.pin_driftRefresh, State.wr_pin, hout q hq]
  · rw [State.rd_driftRefresh, State.wrb, State.rd_wr_ne _ hlast, State.rd_wr_self]

/-- A correction that waits for more than a millisecond is late: DRIFT_LATE, one more in LATE_CNT for each further full millisecond, and
source 37 once in a deferral (R95). -/
theorem exec_driftLate {s : State} {b : Fin 72} {t : Nat} (ht : s.driftOldest b = some t) : exec (.driftLate b) s = .next (
    if s.tick (b / 18) - t ≤ ticksPerMs then s
    else
      let ms := (s.tick (b / 18) - t) / ticksPerMs - 1
      let u := ((s.wr (tcbB b) TCB_STAT.DRIFT_LATE 1).count (tcbB b) TCB_DRIFT.LATE_CNT (ms - (s.bank b).lateMs)).setBank b
        { s.bank b with driftLate := true, lateMs := max ms (s.bank b).lateMs }
      if (s.bank b).driftLate then u else u.raise (b / 18) 37 none b) := by
  have hexec : exec (.driftLate b) s = execDriftLate b s := rfl
  rw [hexec, execDriftLate, ht]

/-! ### The calibration record -/

section Calibration
variable {s : State} {b : Fin 72}

/-- After READY.TCB nothing is loaded (R92). -/
theorem exec_calRecordLoad_of_ready (h : s.ready (b / 18) rdyTCB = true) (errs : List (Fin 2097152 × Nat)) :
    exec (.calRecordLoad b errs) s = .next s := by
  have hexec : exec (.calRecordLoad b errs) s = execCalRecordLoad b errs s := rfl
  rw [hexec, execCalRecordLoad]
  exact congrArg _ (if_pos (Or.inr h))

variable (howl : s.owlRuns (b / 18) = true) (hready : s.ready (b / 18) rdyTCB = false) {errs : List (Fin 2097152 × Nat)}
  {m u : State} (hm : m = s.settMeets (b / 18) errs)
  (hu : u = m.settRead (b / 18) (halfBlock (m.sett (b / 18)).half * 0x10000) (m.sett (b / 18)).used)
include howl hready hm hu

/-- A record that passes loads every pin's trims (R92, R93). -/
theorem exec_calRecordLoad_of_good {r : SetRec} (hr : m.ownRec (b / 18) 0x0201 b = some r) (hok : calRecordOk b r.data = true) :
    exec (.calRecordLoad b errs) s = .next (((u.each (List.range 32) fun p s => s.calPin b p r.data).wr (tcbB b)
      TCB_STAT.CAL_LOADED 1).wr (tcbB b) TCB_STAT.CAL_DEFAULT 0) := by
  have hexec : exec (.calRecordLoad b errs) s = execCalRecordLoad b errs s := rfl
  subst hm hu
  simp [hexec, execCalRecordLoad, howl, hready, hr, hok, State.wrb]

/-- A missing or failing record leaves zeros, sets CAL_DEFAULT and raises source 36 (R93). -/
theorem exec_calRecordLoad_of_bad (hbad : ∀ r, m.ownRec (b / 18) 0x0201 b = some r → calRecordOk b r.data = false) :
    exec (.calRecordLoad b errs) s = .next ((((u.each (List.range 32) fun p s => s.calPin b p []).wr (tcbB b)
      TCB_STAT.CAL_LOADED 1).wr (tcbB b) TCB_STAT.CAL_DEFAULT 1).raise (b / 18) 36 none b) := by
  have hexec : exec (.calRecordLoad b errs) s = execCalRecordLoad b errs s := rfl
  subst hm hu
  cases hr : (s.settMeets (b / 18) errs).ownRec (b / 18) 0x0201 b with
  | none => simp [hexec, execCalRecordLoad, howl, hready, hr, State.wrb]
  | some r => simp [hexec, execCalRecordLoad, howl, hready, hr, hbad r hr, State.wrb]
end Calibration

/-- A held bank commit takes effect when no site that owns an enabled pin runs (R88). -/
theorem exec_tcbCommitApply (b : Fin 72) (s : State) : exec (.tcbCommitApply b) s =
    .next (if s.on (tcbB b) BLK_COMMIT.BUSY && !s.bankRunning b then s.tcbApply b else s) := rfl

/-- Settles O17, command by command. -/
theorem driftAndCalibration : Obligations.DriftAndCalibration := by
  intro s b
  refine ⟨?clear, leads_driftMeasure s b, fun st c => ⟨exec_driftApply_of_no_point, fun p0 ps => leads_driftApply⟩, ?inTime, ?late,
    ?load, exec_calRecordLoad_of_ready, ?commit, ?running⟩
  case clear =>
    intro hans v
    exact congrArg _ (State.atBlock_of_answers hans _)
  case inTime =>
    intro t ht hle
    have hwait : s.tick (b / 18) - t ≤ ticksPerMs := by simp only [ticksPerMs]; omega
    rw [exec_driftLate ht, if_pos hwait]
  case late =>
    rintro t _ ht hlt rfl u rfl
    have hwait : ¬ s.tick (b / 18) - t ≤ ticksPerMs := by simp only [ticksPerMs]; omega
    rw [exec_driftLate ht, if_neg hwait]; rfl
  case load =>
    intro howl hready errs m u hm hu
    exact ⟨fun r hr hok => exec_calRecordLoad_of_good howl hready hm hu hr hok, exec_calRecordLoad_of_bad howl hready hm hu⟩
  case commit =>
    intro hbusy hidle
    rw [exec_tcbCommitApply, hbusy, hidle]; rfl
  case running =>
    intro hrun
    rw [exec_tcbCommitApply, hrun, Bool.not_true, Bool.and_false]; rfl

end Sys2Proof.Machine

namespace Sys2Proof.Machine

/-! ## Several writes as one list of fields -/

theorem State.wr_eq_wrs (s : State) (b : Nat) (f : Fld) (v : Nat) : s.wr b f v = s.wrs [f.is b v] := rfl

theorem State.wrs_wrs (s : State) (l l' : List (Nat × Nat)) : (s.wrs l).wrs l' = s.wrs (l' ++ l) := by
  simp only [State.wrs, List.foldr_append]

/-- A loop whose every turn writes a list of fields writes the lists of all turns, that of the last turn first. -/
theorem State.each_wrs {α : Type} (s : State) (xs : List α) (g : α → List (Nat × Nat)) :
    (s.each xs fun x s => s.wrs (g x)) = s.wrs (xs.reverse.flatMap g) := by
  induction xs generalizing s with
  | nil => rfl
  | cons x xs ih =>
    have hstep : (s.each (x :: xs) fun x s => s.wrs (g x)) = (s.wrs (g x)).each xs fun x s => s.wrs (g x) := rfl
    rw [hstep, ih, State.wrs_wrs, List.reverse_cons, List.flatMap_append, List.flatMap_singleton]

/-! ## The guest port of a die (R96, R98 to R103, R119) -/

section GuestPort
variable {s : State} {d : Fin 4}

/-- Discovery starts the sideband of a guest that is not admitted (R98). -/
theorem exec_guestDiscovery (s : State) (d : Fin 4) :
    exec (.guestDiscovery d) s = .next (if s.guest d = .admitted then s else s.setGuest d .discover) := rfl

/-- Without a sideband answer the port is parked, and on LD0 and LD2 the ARP is absent (R100). -/
theorem exec_guestSidebandTimeout_of_discover (h : s.guest d = .discover) : exec (.guestSidebandTimeout d) s =
    .next (if d.val % 2 = 0 then (s.parkGuest d).arpFailed d 38 else s.parkGuest d) := congrArg _ (if_pos h)

/-- The capability registers of the guest, as the die holds them (R96). -/
def State.holdCaps (s : State) (d : Nat) (id : BitVec 16) (gver banks : BitVec 8) (caps : Nat) : State :=
  s.setArp d { s.arp d with id := id.toNat, gver := gver.toNat, banks := banks.toNat, caps := caps }

/-- An ARP is admitted: PRESENT and GVER, the link, the identity in both mirrors, and readiness (R96, R98, R101). -/
def State.admitArp (s : State) (d : Nat) (id : BitVec 16) (gver banks : BitVec 8) (link : GuestLink) : State :=
  ((((((s.wr (dctlB d) DCTL_GUEST.PRESENT 1).wr (dctlB d) DCTL_GUEST.GVER gver.toNat).arpUp d link).setReady d rdyGPT true).each
    [d, arpPartner d] fun e s => ((s.wr (arpB e) ARP_INFO.GUEST_ID id.toNat).wr (arpB e) ARP_INFO.GVER gver.toNat).wr (arpB e)
      ARP_INFO.BANKS banks.toNat).setReady d rdyARP true).arpPartnerReady d

/-- The end of the admission sequence holds the capability registers, and admits a guest with the ARP's identity whose links trained;
another one parks the port, source 39 (R98 to R100). -/
theorem exec_guestAdmissionDone_of_discover (h : s.guest d = .discover) (id : BitVec 16) (gver banks : BitVec 8) (caps : Nat)
    (trained : Bool) (link : GuestLink) : exec (.guestAdmissionDone d id gver banks caps trained link) s = .next (
      if id.toNat = 0x4152 ∧ gver.toNat / 16 = 1 ∧ banks.toNat = 36 ∧ trained = true then
        (s.holdCaps d id gver banks caps).admitArp d id gver banks link
      else ((s.holdCaps d id gver banks caps).parkGuest d).arpFailed d 39) :=
  congrArg _ (if_neg (Classical.not_not.2 h))

/-- The mainband of an admitted ARP goes down: the ARP is lost (R103). -/
theorem exec_arpLinkDown_of_admitted (h : s.guest d = .admitted) : exec (.arpLinkDown d) s = .next (s.arpLost d) :=
  congrArg _ (if_pos h)

/-- An admitted ARP has not been powered down. -/
theorem State.arpAlive_of_admitted {d : Nat} (h : s.guest d = .admitted) : s.arpAlive d = true := by rw [State.arpAlive, h]

/-- 100 µs without a heartbeat: an admitted ARP is lost, and every PMU of the ARP turns off (R103). -/
theorem exec_arpHeartbeatTimeout_of_alive (h : s.arpAlive d = true) : exec (.arpHeartbeatTimeout d) s = .next (
    (if s.guest d = .admitted then s.arpLost d else s).each (arpBanks d) fun b s => s.pmuForceOff b) := by
  have hexec : exec (.arpHeartbeatTimeout d) s = execArpHeartbeatTimeout d s := rfl
  rw [hexec, execArpHeartbeatTimeout, if_pos h]

/-- A retrain that succeeds brings both mirrors back, counts, and leaves every PMU of the ARP off (R101, R103). -/
theorem exec_arpRetrainDone_some {n : Nat} (h : s.guest d = .retrain n) (link : GuestLink) :
    exec (.arpRetrainDone d (some link)) s = .next (((((s.arpUp d link).each [d.val, arpPartner d] fun e s =>
      s.count (arpB e) ARP_LINK.RETRAIN).each (arpBanks d) fun b s => s.pmuForceOff b).setReady d rdyARP true).arpPartnerReady d) := by
  have hexec : exec (.arpRetrainDone d (some link)) s = execArpRetrainDone d (some link) s := rfl
  rw [hexec, execArpRetrainDone, h]

/-- A retrain that fails is tried again, and the third failure leaves the two dies without an ARP (R102, R103). -/
theorem exec_arpRetrainDone_none {n : Nat} (h : s.guest d = .retrain n) : exec (.arpRetrainDone d none) s =
    .next (if n < 2 then s.setGuest d (.retrain (n + 1)) else (s.setGuest d .lost).arpUnusable d) := by
  have hexec : exec (.arpRetrainDone d none) s = execArpRetrainDone d none s := rfl
  rw [hexec, execArpRetrainDone, h]

/-- A sensor above 110 °C turns every PMU of a live ARP off, source 41 (R119). -/
theorem exec_arpOverTemperature (s : State) (d : Fin 4) (t : BitVec 16) : exec (.arpOverTemperature d t) s = .next (
    if s.arpAlive d && decide (1100 < t.toInt) then (s.each (arpBanks d) fun b s => s.pmuForceOff b).raise d 41 none d else s) := rfl

/-- The four sensor readings of an admitted ARP go to both mirrors (R96). -/
theorem exec_arpTempSample_of_admitted (h : s.guest d = .admitted) (t0 t1 t2 t3 : BitVec 16) :
    exec (.arpTempSample d t0 t1 t2 t3) s = .next (s.wrs ([arpPartner d, d.val].flatMap fun e =>
      [(3, t3), (2, t2), (1, t1), (0, t0)].flatMap fun it =>
        [ARP_TEMP.TEMP.is (arpB e + it.1 * 4) it.2.toNat, ARP_TEMP.VALID.is (arpB e + it.1 * 4) 1])) := by
  have hexec : exec (.arpTempSample d t0 t1 t2 t3) s = execArpTempSample d t0 t1 t2 t3 s := rfl
  rw [hexec, execArpTempSample, if_neg (Classical.not_not.2 h)]
  simp only [State.wr_eq_wrs, State.wrs_wrs, State.each_wrs]
  rfl
end GuestPort

/-- Settles O18, command by command. -/
theorem guestPort : Obligations.GuestPort := by
  intro s d
  refine ⟨?discovery, ?absent, ?parked, ?admission, ?lost, ?silent, fun n h => ⟨exec_arpRetrainDone_some h, ?again, ?third⟩, ?hot, ?cool,
    ?sensors⟩
  case discovery => intro h; rw [exec_guestDiscovery, if_neg h]
  case absent => intro h heven; rw [exec_guestSidebandTimeout_of_discover h, if_pos heven]
  case parked => intro h hodd; rw [exec_guestSidebandTimeout_of_discover h, if_neg (by omega)]
  case admission =>
    rintro id gver banks caps link h _ _ rfl rfl
    refine ⟨fun hid hgver hbanks => ?_, fun trained hno => ?_⟩
    · rw [exec_guestAdmissionDone_of_discover h, if_pos ⟨hid, hgver, hbanks, rfl⟩]; rfl
    · rw [exec_guestAdmissionDone_of_discover h, if_neg hno]; rfl
  case lost =>
    rintro _ rfl h
    refine ⟨exec_arpLinkDown_of_admitted h, ?_⟩
    rw [exec_arpHeartbeatTimeout_of_alive (State.arpAlive_of_admitted h), if_pos h]; rfl
  case silent => intro halive h; rw [exec_arpHeartbeatTimeout_of_alive halive, if_neg h]
  case again => intro hn; rw [exec_arpRetrainDone_none h, if_pos hn]
  case third => intro hn; rw [exec_arpRetrainDone_none h, if_neg (Nat.not_lt.2 hn)]; rfl
  case hot => intro t halive ht; rw [exec_arpOverTemperature, halive, decide_eq_true ht]; rfl
  case cool =>
    intro t ht
    rw [exec_arpOverTemperature, decide_eq_false (Int.not_lt.2 ht), Bool.and_false]; rfl
  case sensors => intro t0 t1 t2 t3 h; exact gives_of_exec (exec_arpTempSample_of_admitted h t0 t1 t2 t3) rfl

/-! ## Level codes and the commit of a level mirror (R104 to R106, R108) -/

section Levels
variable {s : State} {b : Nat}

/-- A VTT code above 0xC350 is a reserved encoding (R16, R104). -/
theorem State.vttWrite_of_reserved {v : Word} (hv : 50000 < v.toNat % 65536) : s.vttWrite b v = s.wr (arpB (b / 18)) BLK_STAT.RSVW 1 := by
  rw [State.vttWrite, if_pos hv]; rfl

/-- A VTT code of at most 0xC350 is taken; other bits of the word mark RSVW (R15, R104). -/
theorem State.vttWrite_of_le {v : Word} (hv : v.toNat % 65536 ≤ 50000) :
    s.vttWrite b v = (s.rsvBits (arpB (b / 18)) 0xFFFF v.toNat).wr (abB b) AB_VTT.CODE (v.toNat % 65536) := by
  rw [State.vttWrite, if_neg (Nat.not_lt.2 hv)]

/-- A word that is a bare VTT code writes that code alone (R104). -/
theorem State.vttWrite_of_code {c : Nat} (hc : c ≤ 50000) : s.vttWrite b (BitVec.ofNat 32 c) = s.wr (abB b) AB_VTT.CODE c := by
  have hval : (BitVec.ofNat 32 c).toNat = c := by rw [BitVec.toNat_ofNat]; omega
  have hmod : c % 65536 = c := Nat.mod_eq_of_lt (by omega)
  rw [State.vttWrite_of_le (by rwa [hval, hmod]), hval, hmod, State.rsvBits_of_le _ _ c 16 rfl (by omega)]

/-- A VREFB write in the PCLK of a range change waits for it (R106). -/
theorem State.vrefbWrite_of_due (h : s.rangeDue b = true) (v : Word) :
    s.vrefbWrite b v = s.setBank b { s.bank b with vrefW := (s.bank b).vrefW ++ [v.toNat] } := by
  rw [State.vrefbWrite, if_pos h]

/-- A VREFB code within the window of the range in force is taken and blanks the bank (R86, R105). -/
theorem State.vrefbWrite_of_ok {v : Word} (h : s.rangeDue b = false) (hok : vrefbOk (s.rd (tcbB b) TCB_CTL.THR_RNG) (v.toNat % 65536) = true) :
    s.vrefbWrite b v =
      ((s.rsvBits (arpB (b / 18)) 0xFFFF v.toNat).wr (abB b) AB_VREFB.CODE (v.toNat % 65536)).blankBank b 4000 := by
  rw [State.vrefbWrite, if_neg (ne_true_of_eq_false h), State.vrefbTake]
  exact if_pos hok

/-- A VREFB code outside the window is a reserved encoding (R16, R105). -/
theorem State.vrefbWrite_of_reserved {v : Word} (h : s.rangeDue b = false)
    (hbad : vrefbOk (s.rd (tcbB b) TCB_CTL.THR_RNG) (v.toNat % 65536) = false) :
    s.vrefbWrite b v = s.wr (arpB (b / 18)) BLK_STAT.RSVW 1 := by
  rw [State.vrefbWrite, if_neg (ne_true_of_eq_false h), State.vrefbTake]
  exact if_neg (ne_true_of_eq_false hbad)
end Levels

/-- A register write to a block that does not answer is dropped (R48). -/
theorem State.atBlock_of_not_answers {s : State} {k : Blk} {d i : Nat} (h : s.answers k d i = false) (f : State → State) :
    s.atBlock k d i f = s := if_neg (ne_true_of_eq_false h)

section CommandsOfALevel
variable (b : Fin 72) (v : Word) (d : Fin 4) (s : State)
theorem exec_vttWrite : exec (.vttWrite b v) s = .next (s.atBlock .arp (b / 18) 0 fun s => s.vttWrite b v) := rfl
theorem exec_vrefbWrite : exec (.vrefbWrite b v) s = .next (s.atBlock .arp (b / 18) 0 fun s => s.vrefbWrite b v) := rfl
/-- A commit of the mirror that waits takes effect (R108). -/
theorem exec_arpCommitApply : exec (.arpCommitApply d) s = .next (if s.on (arpB d) BLK_COMMIT.BUSY then s.arpApply d else s) := rfl
end CommandsOfALevel

/-- Settles O19, command by command. -/
theorem levelCodes : Obligations.LevelCodes := by
  intro s b d
  refine ⟨?silent, fun hans => ?answers, ?commit, ?idle⟩
  case silent =>
    intro v hans
    rw [exec_vttWrite, exec_vrefbWrite, State.atBlock_of_not_answers hans, State.atBlock_of_not_answers hans]
    exact ⟨rfl, rfl⟩
  case answers =>
    have hvtt : ∀ v, exec (.vttWrite b v) s = .next (s.vttWrite b v) := fun v => by rw [exec_vttWrite, State.atBlock_of_answers hans]
    have hvrefb : ∀ v, exec (.vrefbWrite b v) s = .next (s.vrefbWrite b v) :=
      fun v => by rw [exec_vrefbWrite, State.atBlock_of_answers hans]
    refine ⟨?vttCode, ?vttReserved, ?vttWord, ?vrefbDue, ?vrefbOk, ?vrefbReserved⟩
    case vttCode =>
      intro c
      exact gives_of_exec (by rw [hvtt, State.vttWrite_of_code (Nat.le_of_lt_succ c.isLt)]; rfl) rfl
    case vttReserved => intro v hv; exact gives_of_exec (by rw [hvtt, State.vttWrite_of_reserved hv]; rfl) rfl
    case vttWord => intro v hv; rw [hvtt, State.vttWrite_of_le hv]
    case vrefbDue => intro v hdue; rw [hvrefb, State.vrefbWrite_of_due hdue]
    case vrefbOk => intro v hdue hok; rw [hvrefb, State.vrefbWrite_of_ok hdue hok]
    case vrefbReserved =>
      intro v hdue hbad
      exact gives_of_exec (by rw [hvrefb, State.vrefbWrite_of_reserved hdue hbad]; rfl) rfl
  case commit => intro hbusy; rw [exec_arpCommitApply, if_pos hbusy]
  case idle => intro hidle; rw [exec_arpCommitApply, if_neg (ne_true_of_eq_false hidle)]

/-! ## PMU measurements (R111 to R118) -/

/-- The order of a list of distinct fields does not matter. -/
theorem fieldAfter_perm {l l' : List (Nat × Nat)} (h : l.Perm l') (hnodup : (l.map Prod.fst).Nodup) (old k : Nat) :
    fieldAfter old k l = fieldAfter old k l' := by
  induction h with
  | nil => rfl
  | cons e _ ih => rw [fieldAfter, fieldAfter, ih (List.nodup_cons.1 hnodup).2]
  | swap e e' l =>
    have hne : e'.1 ≠ e.1 := fun heq => (List.nodup_cons.1 hnodup).1 (heq ▸ List.mem_cons_self)
    simp only [fieldAfter]
    by_cases hk : k = e'.1
    · rw [if_pos hk, if_neg (hk ▸ hne), if_pos hk]
    · rw [if_neg hk, if_neg hk]
  | trans h₁ _ ih₁ ih₂ => rw [ih₁ hnodup, ih₂ ((h₁.map Prod.fst).nodup_iff.1 hnodup)]

/-- A command that gives a list of distinct fields gives them in any order. -/
theorem Gives.perm {c : Instr} {s u : State} {l l' : List (Nat × Nat)} (h : Gives c s u l) (hperm : l.Perm l')
    (hnodup : (l.map Prod.fst).Nodup) : Gives c s u l' := by
  obtain ⟨t, hexec, hrd, hrest⟩ := h
  exact ⟨t, hexec, fun b f => (hrd b f).trans (fieldAfter_perm hperm hnodup ..), hrest⟩

/-- Fields at different places of a block have different keys, wherever the block lies. -/
theorem nodup_keys {fs : List Fld} (h : (fs.map fun f => f.off * 32 + f.lsb).Nodup) (b : Nat) : (fs.map fun f => f.key b).Nodup := by
  have hplace : ∀ f g : Fld, f.key b = g.key b → f.off * 32 + f.lsb = g.off * 32 + g.lsb := fun f g => by
    simp only [Fld.key]; omega
  exact List.pairwise_map.2 ((List.pairwise_map.1 h).imp fun {f g} hne heq => hne (hplace f g heq))

/-- A result code with the marks CLAMP (bit 18) and OVR (bit 19), as the model hands it to the result registers. -/
def markedCode (code : Nat) (clamp ovr : Bool) : Nat := code + (if clamp then 2 ^ 18 else 0) + if ovr then 2 ^ 19 else 0

theorem markedCode_fields {code : Nat} (hcode : code < 2 ^ 18) (clamp ovr : Bool) :
    markedCode code clamp ovr % 2 ^ 18 = code ∧ bitAt (markedCode code clamp ovr) 18 = clamp ∧
      bitAt (markedCode code clamp ovr) 19 = ovr := by
  cases clamp <;> cases ovr <;> simp [markedCode, bitAt] <;> omega

section Pmu
variable {s : State} {b : Nat}

/-- GO of a PMU that is busy, unacknowledged, off, without a mode, or whose bank changes a role is refused (R113). -/
theorem State.pmuGo_of_refused (h : s.on (abB b) PMU_STAT.BUSY = true ∨ s.on (abB b) PMU_RES_HI.ACKD = false ∨
      s.on (abB b) PMU_STAT.OFF = true ∨ s.rd (abB b) PMU_CFG.MODE = 0 ∨ s.bankRoleBusy b = true) :
    s.pmuGo b = s.wr (abB b) PMU_STAT.REJ 1 := by
  have hrefuse : (s.on (abB b) PMU_STAT.BUSY || !s.on (abB b) PMU_RES_HI.ACKD || s.on (abB b) PMU_STAT.OFF ||
      s.rd (abB b) PMU_CFG.MODE == 0 || s.bankRoleBusy b) = true := by
    simpa [or_assoc] using h
  exact if_pos hrefuse

/-- GO of any other PMU starts a measurement, whose SETTLE time waits for a change in progress (R113, R116). -/
theorem State.pmuGo_of_ready (hbusy : s.on (abB b) PMU_STAT.BUSY = false) (hackd : s.on (abB b) PMU_RES_HI.ACKD = true)
    (hoff : s.on (abB b) PMU_STAT.OFF = false) (hmode : s.rd (abB b) PMU_CFG.MODE ≠ 0) (hrole : s.bankRoleBusy b = false) :
    s.pmuGo b = ((((s.seqUp (abB b) PMU_RES_HI.SEQ).wr (abB b) PMU_RES_HI.STATUS 1).wr (abB b) PMU_RES_HI.VALID 0).wr (abB b)
      PMU_STAT.BUSY 1).setPmu b { s.pmu b with phase := if s.on (abB b) PMU_STAT.RCHG then .waitChange else .settle } := by
  have haccept : (s.on (abB b) PMU_STAT.BUSY || !s.on (abB b) PMU_RES_HI.ACKD || s.on (abB b) PMU_STAT.OFF ||
      s.rd (abB b) PMU_CFG.MODE == 0 || s.bankRoleBusy b) = false := by
    simp [hbusy, hackd, hoff, hmode, hrole]
  exact if_neg (ne_true_of_eq_false haccept)

/-- The result registers take a code of 18 bits with its two marks (R111, R112). -/
theorem State.pmuResult_markedCode {code : Nat} (hcode : code < 2 ^ 18) (clamp ovr : Bool) : s.pmuResult b (markedCode code clamp ovr) =
    ((s.wr (abB b) PMU_RES_LO.CODE code).wrb (abB b) PMU_RES_HI.CLAMP clamp).wrb (abB b) PMU_RES_HI.OVR ovr := by
  obtain ⟨hlow, hclamp, hovr⟩ := markedCode_fields hcode clamp ovr
  rw [State.pmuResult, hlow, hclamp, hovr]

/-- A measurement completes DONE with the result `r` (R114). -/
def State.pmuDone (s : State) (b r : Nat) : State :=
  (((((s.pmuResult b r).wr (abB b) PMU_RES_HI.STATUS 2).wr (abB b) PMU_RES_HI.VALID 1).wr (abB b) PMU_RES_HI.ACKD 0).wr (abB b)
    PMU_STAT.BUSY 0).setPmu b { s.pmu b with phase := .idle }

/-- The fields that the end of a measurement writes, the last one first. -/
def pmuResultFields : List Fld :=
  [PMU_STAT.BUSY, PMU_RES_HI.ACKD, PMU_RES_HI.VALID, PMU_RES_HI.STATUS, PMU_RES_HI.OVR, PMU_RES_HI.CLAMP, PMU_RES_LO.CODE]

/-- A command that completes a measurement gives the registers of its result. -/
theorem gives_of_pmuDone {c : Instr} {code : Nat} {clamp ovr : Bool} (hcode : code < 2 ^ 18)
    (h : exec c s = .next (s.pmuDone b (markedCode code clamp ovr))) :
    Gives c s (s.setPmu b { s.pmu b with phase := .idle })
      [PMU_STAT.BUSY.is (abB b) 0, PMU_RES_HI.OVR.is (abB b) ovr.toNat, PMU_RES_HI.CLAMP.is (abB b) clamp.toNat,
       PMU_RES_HI.ACKD.is (abB b) 0, PMU_RES_HI.VALID.is (abB b) 1, PMU_RES_HI.STATUS.is (abB b) 2, PMU_RES_LO.CODE.is (abB b) code] := by
  have hwritten : Gives c s (s.setPmu b { s.pmu b with phase := .idle })
      [PMU_STAT.BUSY.is (abB b) 0, PMU_RES_HI.ACKD.is (abB b) 0, PMU_RES_HI.VALID.is (abB b) 1, PMU_RES_HI.STATUS.is (abB b) 2,
       PMU_RES_HI.OVR.is (abB b) ovr.toNat, PMU_RES_HI.CLAMP.is (abB b) clamp.toNat, PMU_RES_LO.CODE.is (abB b) code] :=
    gives_of_exec (by
      rw [h, State.pmuDone, State.pmuResult_markedCode hcode]
      simp only [State.wrb, State.wr_eq_wrs, State.wrs_wrs]; rfl) rfl
  have hdistinct : (pmuResultFields.map fun f => f.key (abB b)).Nodup := nodup_keys (by decide) (abB b)
  exact hwritten.perm (.cons _ (List.perm_append_comm_assoc [_, _, _] [_, _] [_])) hdistinct
end Pmu

section CommandsOfAPmu
variable {s : State} {b : Fin 72}
theorem exec_pmuGo (b : Fin 72) (s : State) : exec (.pmuGo b) s = .next (s.atBlock .arp (b / 18) 0 fun s => s.pmuGo b) := rfl
theorem exec_pmuAck (b : Fin 72) (s : State) : exec (.pmuAck b) s = .next (s.atBlock .arp (b / 18) 0 fun s => s.pmuAck b) := rfl

/-- The end of SETTLE starts the conversions (R113). -/
theorem exec_pmuSettleEnd_of_settle (h : (s.pmu b).phase = .settle) :
    exec (.pmuSettleEnd b) s = .next (s.setPmu b { s.pmu b with phase := .convert }) := congrArg _ (if_pos h)

/-- The old range is dropped 1 µs into a change (R118). -/
theorem exec_pmuOldRangeDisconnect (b : Fin 72) (s : State) : exec (.pmuOldRangeDisconnect b) s =
    .next (if s.on (abB b) PMU_STAT.RCHG then s.setPmu b { s.pmu b with oldGone := true } else s) := rfl

/-- A change that settles clears RCHG and lets a waiting measurement start its SETTLE time (R116, R118). -/
theorem exec_pmuRangeSettled_of_change (h : s.on (abB b) PMU_STAT.RCHG = true) : exec (.pmuRangeSettled b) s =
    .next ((s.wr (abB b) PMU_STAT.RCHG 0).setPmu b { s.pmu b with
      phase := if (s.pmu b).phase = .waitChange then .settle else (s.pmu b).phase, oldGone := true }) := by
  have hexec : exec (.pmuRangeSettled b) s = execPmuRangeSettled b s := rfl
  rw [hexec, execPmuRangeSettled, if_pos h]
  by_cases hwait : (s.pmu b).phase = .waitChange
  · simp [hwait]
  · simp [hwait]

/-- Without a change nothing settles. -/
theorem exec_pmuRangeSettled_of_idle (h : s.on (abB b) PMU_STAT.RCHG = false) : exec (.pmuRangeSettled b) s = .next s :=
  congrArg _ (if_neg (ne_true_of_eq_false h))

section Measured
variable (hphase : (s.pmu b).phase = .convert) (amps volts uv code : Int)
include hphase

/-- In FVMI the measured current is the result, limited to full scale with OVR (R111). -/
theorem exec_pmuMeasureDone_current (hmode : s.rd (abB b) PMU_CFG.MODE = 1) :
    exec (.pmuMeasureDone b amps volts uv code) s = .next (s.pmuDone b (markedCode
      (max (-131072) (min 131071 amps) % 262144).toNat (s.pmuClamps b uv code) (decide (131071 < amps ∨ amps < -131072)))) := by
  have hexec : exec (.pmuMeasureDone b amps volts uv code) s = execPmuMeasureDone b amps volts uv code s := rfl
  rw [hexec, execPmuMeasureDone, if_neg (Classical.not_not.2 hphase)]
  simp only [hmode, if_true]
  rfl

/-- In every other mode the measured voltage is the result (R111). -/
theorem exec_pmuMeasureDone_voltage (hmode : s.rd (abB b) PMU_CFG.MODE ≠ 1) (hvolts : 0 ≤ volts ∧ volts < 262144) :
    exec (.pmuMeasureDone b amps volts uv code) s =
      .next (s.pmuDone b (markedCode volts.toNat (s.pmuClamps b uv code) false)) := by
  have hexec : exec (.pmuMeasureDone b amps volts uv code) s = execPmuMeasureDone b amps volts uv code s := rfl
  rw [hexec, execPmuMeasureDone, if_neg (Classical.not_not.2 hphase)]
  simp only [if_neg hmode, if_pos hvolts]
  rfl
end Measured
end CommandsOfAPmu

/-- Settles O20, command by command. -/
theorem pmuMeasurement : Obligations.PmuMeasurement := by
  intro s b
  refine ⟨fun hans => ?registers, exec_pmuSettleEnd_of_settle, fun amps volts uv code hphase => ⟨?current, ?voltage⟩, ?change, ?noChange⟩
  case registers =>
    have hgo : exec (.pmuGo b) s = .next (s.pmuGo b) := by rw [exec_pmuGo, State.atBlock_of_answers hans]
    have hack : exec (.pmuAck b) s = .next (s.pmuAck b) := by rw [exec_pmuAck, State.atBlock_of_answers hans]
    refine ⟨?start, ?refuse, ?ack, ?running⟩
    case start =>
      intro hbusy hackd hoff hmode hrole
      exact gives_of_exec (by rw [hgo, State.pmuGo_of_ready hbusy hackd hoff hmode hrole]; rfl) rfl
    case refuse => intro h; exact gives_of_exec (by rw [hgo, State.pmuGo_of_refused h]; rfl) rfl
    case ack => intro hidle; exact gives_of_exec (by rw [hack, State.pmuAck, if_neg (ne_true_of_eq_false hidle)]; rfl) rfl
    case running => intro hbusy; rw [hack, State.pmuAck, if_pos hbusy]
  case current =>
    intro hmode
    have hcode : (max (-131072) (min 131071 amps) % 262144).toNat < 2 ^ 18 := by omega
    have hovr : (decide (131071 < amps ∨ amps < -131072)).toNat = if 131071 < amps ∨ amps < -131072 then 1 else 0 := by
      split <;> simp [*]
    rw [← hovr]
    exact gives_of_pmuDone hcode (exec_pmuMeasureDone_current hphase amps volts uv code hmode)
  case voltage =>
    intro hmode hlo hhi
    exact gives_of_pmuDone (by omega) (exec_pmuMeasureDone_voltage hphase amps volts uv code hmode ⟨hlo, hhi⟩)
  case change =>
    intro hchange
    exact ⟨by rw [exec_pmuOldRangeDisconnect, if_pos hchange], gives_of_exec (exec_pmuRangeSettled_of_change hchange) rfl⟩
  case noChange =>
    intro hidle
    exact ⟨by rw [exec_pmuOldRangeDisconnect, if_neg (ne_true_of_eq_false hidle)], exec_pmuRangeSettled_of_idle hidle⟩

end Sys2Proof.Machine

namespace Sys2Proof.Machine

/-! ## The pattern word due (R134, R146, R152) -/

section PatternWord
variable {s : State} {p : Fin 16} {w : PWord}

/-- A sequencer that is not in RUN, or waits, has no word due. -/
theorem State.inPclk_of_idle (h : s.psqState p ≠ psqRUN ∨ (s.psq p).wait ≠ .none) (f : State) : s.inPclk p f = s := if_pos h

section InRun
variable (hrun : s.psqState p = psqRUN) (hwait : (s.psq p).wait = .none)
include hrun hwait

/-- A sequencer in RUN that does not wait has a word due. -/
theorem State.not_idle : ¬ (s.psqState p ≠ psqRUN ∨ (s.psq p).wait ≠ .none) :=
  not_or.2 ⟨fun h => h hrun, fun h => h hwait⟩

/-- A recorded stop that has come ends the run first (R152). -/
theorem State.inPclk_of_stop {t : Nat} (hstop : s.stopAt p = some t) (ht : t ≤ (s.psq p).tick) (f : State) :
    s.inPclk p f = s.stopNow p t := by
  refine (if_neg (State.not_idle hrun hwait)).trans ?_
  rw [hstop]
  exact if_pos ht

/-- Without a recorded stop that has come the word due decides. -/
theorem State.inPclk_of_no_stop (hstop : ∀ t, s.stopAt p = some t → (s.psq p).tick < t) (f : State) : s.inPclk p f = f := by
  refine (if_neg (State.not_idle hrun hwait)).trans ?_
  cases hat : s.stopAt p with
  | none => rfl
  | some t => exact if_neg (Nat.not_le.2 (hstop t hat))

section NoStop
variable (hstop : ∀ t, s.stopAt p = some t → (s.psq p).tick < t)
include hstop

/-- An illegal word ends the run ILLEGAL with its cause (R134). -/
theorem State.atWord_of_illegal {c : Nat} (hdue : s.due p = .illegal c) (op : Nat) (f : PWord → State) :
    s.atWord p op f = (s.countFetch p).illegal p c := by
  rw [State.atWord, State.inPclk_of_no_stop hrun hwait hstop, hdue]

/-- A missing word ends the run UNDERRUN in strict mode (R146). -/
theorem State.atWord_of_missing (hdue : s.due p = .missing) (hstrict : s.elasticMode p = false) (op : Nat) (f : PWord → State) :
    s.atWord p op f = s.underrun p := by
  rw [State.atWord, State.inPclk_of_no_stop hrun hwait hstop, hdue]
  exact if_neg (ne_true_of_eq_false hstrict)

/-- A legal word issues under the command of its opcode alone. -/
theorem State.atWord_of_word (hdue : s.due p = .word w) (op : Nat) (f : PWord → State) :
    s.atWord p op f = if w.op = op then f w else s := by
  rw [State.atWord, State.inPclk_of_no_stop hrun hwait hstop, hdue]
end NoStop
end InRun

/-- Each command that issues a pattern word does so at a word of its opcode (R135). -/
theorem exec_psqWord {k : Nat} {x : Nat × Instr} (hx : x ∈ psqWords p k) : ∃ f, exec x.2 s = .next (s.atWord p x.1 f) := by
  simp only [psqWords, List.mem_cons, List.not_mem_nil, or_false] at hx
  rcases hx with rfl | rfl | rfl | rfl | rfl | rfl | rfl | rfl | rfl | rfl | rfl | rfl | rfl | rfl | rfl | rfl | rfl | rfl | rfl |
    rfl | rfl <;> exact ⟨_, rfl⟩

theorem exec_psqIllegalWord (p : Fin 16) (s : State) : exec (.psqIllegalWord p) s = .next (s.inPclk p <|
    match s.due p with
    | .illegal c => (s.countFetch p).illegal p c
    | _ => s) := rfl
theorem exec_patternUnderrun (p : Fin 16) (s : State) : exec (.patternUnderrun p) s =
    .next (s.inPclk p (if !s.elasticMode p ∧ s.due p = .missing then s.underrun p else s)) := rfl
end PatternWord

/-- Settles O21, check by check. -/
theorem patternWordChecks : Obligations.PatternWordChecks := by
  intro s p
  refine ⟨fun k x hx => ?words, fun hrun hwait => ⟨fun t hat ht => ?stopped, fun hstop => ⟨?illegal, ?missing⟩⟩, ?halt⟩
  case words =>
    obtain ⟨f, hexec⟩ := exec_psqWord (s := s) hx
    rw [hexec]
    refine ⟨fun hidle => congrArg _ (State.inPclk_of_idle hidle _), fun hrun hwait =>
      ⟨fun t hat ht => congrArg _ (State.inPclk_of_stop hrun hwait hat ht _), fun hstop => ⟨?_, ?_, ?_⟩⟩⟩
    · exact fun c hdue => congrArg _ (State.atWord_of_illegal hrun hwait hstop hdue _ f)
    · exact fun hdue hstrict => congrArg _ (State.atWord_of_missing hrun hwait hstop hdue hstrict _ f)
    · exact fun w hdue hop => congrArg _ ((State.atWord_of_word hrun hwait hstop hdue _ f).trans (if_neg hop))
  case stopped =>
    rw [exec_psqIllegalWord, exec_patternUnderrun, State.inPclk_of_stop hrun hwait hat ht, State.inPclk_of_stop hrun hwait hat ht]
    exact ⟨rfl, rfl⟩
  case illegal =>
    intro c hdue
    rw [exec_psqIllegalWord, State.inPclk_of_no_stop hrun hwait hstop, hdue]
  case missing =>
    intro hdue hstrict
    rw [exec_patternUnderrun, State.inPclk_of_no_stop hrun hwait hstop, if_pos ⟨by rw [hstrict]; rfl, hdue⟩]
  case halt => rintro c _ rfl; rfl

/-! ## Words that issue (R135 to R137) -/

section IssuedWord
variable {s : State} {p : Fin 16} {w : PWord}

/-- At a word of its opcode a command does what it does with that word. -/
theorem PsqAt.exec_eq {t : State} {op : Nat} {c : Instr} {f : PWord → State} (h : PsqAt s p w) (hop : w.op = op)
    (hc : exec c s = .next (s.atWord p op f)) (ht : f w = t) : exec c s = .next t := by
  obtain ⟨hrun, hwait, hstop, hdue⟩ := h
  rw [hc, State.atWord_of_word hrun hwait hstop hdue, if_pos hop, ht]

/-- One command of a REPEAT makes the `k` issues of the `j` it may make that fall before the recorded stop, and goes on, or ends the
run, accordingly (R135, R152). -/
theorem PsqAt.exec_psqRepeat {m n j k : Nat} {t : State} (h : PsqAt s p w) (hop : w.op = 0x01)
    (hn : n = (s.psq p).rep.getD (s.countOf p w)) (hj : j = min n (max m 1)) (hk : s.issuesBefore p j = k)
    (ht : t = s.issue p k w (s.psq p).rep.isSome) : exec (.psqRepeat ⟨p, m⟩) s = .next (
      if k < j then t.stopNow p (t.psq p).tick
      else if !t.psqRunning p then t
      else if j < n then t.setPsq p { t.psq p with rep := some (n - j) }
      else (t.setPsq p { t.psq p with rep := none }).advance p) := by
  subst hn hj hk ht
  exact h.exec_eq hop rfl rfl

/-- A conditional clears SFF with X, issues, and jumps when it is taken (R137). -/
theorem State.conditional_of_issue {t : State} (ht : t = (if w.x then s.clearSff p else s).issue p 1 w) (take : Bool) :
    s.conditional p w take = if take then t.jump p w.opd else t.advance p := by rw [ht]; rfl
end IssuedWord

/-- Settles O22, opcode by opcode. -/
theorem patternFlow : Obligations.PatternFlow := by
  intro s p w hat
  refine ⟨?next, ?repeats, ?loop, ?loopFull, ?endloop, ?endloopWrong, ?jump, ?call, ?callFull, ?ret, ?retWrong, ?halt,
    ?conditionals, ?clrf⟩
  case next | jump | halt | clrf => exact fun hop => hat.exec_eq hop rfl rfl
  case repeats =>
    intro hop m n j t hn hj
    refine ⟨fun hk ht => ?whole, fun hk ht => ?cut⟩
    case whole =>
      have hexec := hat.exec_psqRepeat hop hn hj hk ht
      rw [if_neg (Nat.lt_irrefl j)] at hexec
      refine ⟨fun hended => ?_, fun hrun hmore => ?_, fun hrun hlast => ?_⟩
      · rwa [hended] at hexec
      · rwa [hrun, Bool.not_true, if_neg Bool.false_ne_true, if_pos hmore] at hexec
      · rwa [hrun, Bool.not_true, if_neg Bool.false_ne_true, if_neg (Nat.not_lt.2 hlast)] at hexec
    case cut => exact (hat.exec_psqRepeat hop hn hj rfl ht).trans (congrArg _ (if_pos hk))
  case loop => exact fun hop hroom => hat.exec_eq hop rfl (if_neg (Nat.not_le.2 hroom))
  case loopFull => exact fun hop hfull => hat.exec_eq hop rfl (if_pos hfull)
  case endloop =>
    intro hop e es hloops hkind
    have hloop : ¬ e.pace = true := ne_true_of_eq_false hkind
    refine ⟨fun hlast => hat.exec_eq hop rfl ?_, fun hmore => hat.exec_eq hop rfl ?_⟩
    · rw [hloops]; exact (if_neg hloop).trans (if_pos hlast)
    · rw [hloops]; exact (if_neg hloop).trans (if_neg (Nat.not_le.2 hmore))
  case endloopWrong =>
    intro hop hwrong
    refine hat.exec_eq hop rfl ?_
    cases hloops : (s.psq p).loops with
    | nil => rfl
    | cons e es => exact if_pos (hwrong e es hloops)
  case call => exact fun hop hroom => hat.exec_eq hop rfl (if_neg (Nat.not_le.2 hroom))
  case callFull => exact fun hop hfull => hat.exec_eq hop rfl (if_pos hfull)
  case ret =>
    intro hop c cs hcalls hkind
    refine hat.exec_eq hop rfl ?_
    rw [hcalls]
    exact if_neg (ne_true_of_eq_false hkind)
  case retWrong =>
    intro hop hwrong
    refine hat.exec_eq hop rfl ?_
    cases hcalls : (s.psq p).calls with
    | nil => rfl
    | cons c cs => exact if_pos (hwrong c cs hcalls)
  case conditionals =>
    intro t ht
    refine ⟨fun hop => hat.exec_eq hop rfl (State.conditional_of_issue ht _), fun hop => hat.exec_eq hop rfl ?_⟩
    rw [State.conditional_of_issue ht]
    cases s.sffAt p <;> rfl

/-! ## Words that wait or act on other agents (R135, R139 to R141, R143, R149, R151) -/

section WaitingWord
variable {s t : State} {p : Fin 16} {w : PWord}

/-- MATCH issues and waits for a pass of its n issues, unless its issue ended the run (R139). -/
theorem PsqAt.exec_psqMatch (h : PsqAt s p w) (hop : w.op = 0x0B) (ht : t = s.issue p 1 w) : exec (.psqMatch p) s = .next (
    if t.psqState p = psqRUN then
      (t.setPsq p { t.psq p with results := [] }).setWait p (.mtch (s.countOf p w) (s.psq p).tick)
    else t) := by
  subst ht
  exact h.exec_eq hop rfl rfl

/-- SYNC issues; its tick lies behind, within the next PCLK, or ahead (R140). -/
theorem PsqAt.exec_psqSync {target : Nat} (h : PsqAt s p w) (hop : w.op = 0x0C) (ht : t = s.issue p 1 w)
    (htarget : target = s.rd2 (psqB p + w.opd % 4 * 8) PSQ_SYNC_AT_LO.V PSQ_SYNC_AT_HI.V) : exec (.psqSync p) s = .next (
    if target ≤ (s.psq p).tick then (t.count (psqB p) PSQ_CNT_SYNCLATE.V).advance p
    else if target ≤ (s.psq p).tick + 8 ∨ t.psqState p ≠ psqRUN then t.advance p
    else t.setWait p (.sync target)) := by
  rw [ht, htarget]
  exact h.exec_eq hop rfl rfl

/-- ENDPACE of a paced entry issues; after the last iteration it continues, else the next one is waited for or late (R149). -/
theorem PsqAt.exec_psqEndpace {e : LoopEnt} {es : List LoopEnt} {at_ : Nat} (h : PsqAt s p w) (hop : w.op = 0x0E)
    (ht : t = s.issue p 1 w) (hloops : (s.psq p).loops = e :: es) (hpace : e.pace = true)
    (hat : at_ = e.t0 + (e.iter + 1) * e.period) : exec (.psqEndpace p) s = .next (
    if e.left ≤ 1 then (t.setPsq p { t.psq p with loops := es }).advance p
    else if t.psqState p ≠ psqRUN then t
    else if (t.psq p).tick < at_ then t.setWait p (.pace at_)
    else (t.count (psqB p) PSQ_CNT_PACELATE.V).nextIteration p) := by
  subst ht hat
  refine h.exec_eq hop rfl ?_
  rw [hloops]
  exact if_neg (by rw [hpace]; exact Bool.false_ne_true)
end WaitingWord

/-- Settles O23, opcode by opcode. -/
theorem patternWaits : Obligations.PatternWaits := by
  intro s p w t hat ht
  refine ⟨?mtch, ?sync, ?pace, ?endpace, ?paceFull, ?endpaceWrong, ?strmFull, ?sretWrong, ?mark, ?trig, ?strm, ?sret, ?lkstop, ?lkend⟩
  case mtch => exact fun hop hrun => (hat.exec_psqMatch hop ht).trans (congrArg _ (if_pos hrun))
  case sync =>
    intro hop
    have hexec := hat.exec_psqSync hop ht rfl
    refine ⟨fun hlate => ?_, fun hahead hnext => ?_, fun hahead hrun => ?_⟩
    · rwa [if_pos hlate] at hexec
    · rwa [if_neg (Nat.not_le.2 hahead), if_pos (.inl hnext)] at hexec
    · rwa [if_neg (by omega), if_neg (not_or.2 ⟨Nat.not_le.2 hahead, Classical.not_not.2 hrun⟩)] at hexec
  case pace => subst ht; exact fun hop hroom => hat.exec_eq hop rfl (if_neg (Nat.not_le.2 hroom))
  case paceFull => exact fun hop hfull => hat.exec_eq hop rfl (if_pos hfull)
  case endpace =>
    intro hop e es at_ hloops hpace hslot
    have hexec := hat.exec_psqEndpace hop ht hloops hpace hslot
    refine ⟨fun hlast => ?_, fun hmore hearly hrun => ?_, fun hmore hended => ?_, fun hmore hrun hlate => ?_⟩
    · rwa [if_pos hlast] at hexec
    · rwa [if_neg (Nat.not_le.2 hmore), if_neg (Classical.not_not.2 hrun), if_pos hearly] at hexec
    · rwa [if_neg (Nat.not_le.2 hmore), if_pos hended] at hexec
    · rwa [if_neg (Nat.not_le.2 hmore), if_neg (Classical.not_not.2 hrun), if_neg (Nat.not_lt.2 hlate)] at hexec
  case endpaceWrong =>
    intro hop hwrong
    refine hat.exec_eq hop rfl ?_
    cases hloops : (s.psq p).loops with
    | nil => rfl
    | cons e es => exact if_pos (by rw [hwrong e es hloops]; rfl)
  case strmFull => exact fun hop hfull => hat.exec_eq hop rfl (if_pos hfull)
  case strm =>
    subst ht
    rintro hop hroom _ _ rfl rfl
    exact hat.exec_eq hop rfl (if_neg (Nat.not_le.2 hroom))
  case sret =>
    subst ht
    intro hop c cs hcalls hkind
    refine hat.exec_eq hop rfl ?_
    rw [hcalls]
    exact if_neg (by rw [hkind]; exact Bool.false_ne_true)
  case sretWrong =>
    intro hop hwrong
    refine hat.exec_eq hop rfl ?_
    cases hcalls : (s.psq p).calls with
    | nil => rfl
    | cons c cs => exact if_pos (by rw [hwrong c cs hcalls]; rfl)
  case mark | trig | lkstop | lkend => subst ht; exact fun hop => hat.exec_eq hop rfl rfl

/-! ## The ends of waits, and the STOPs (R138 to R140, R146, R147, R149, R152, R157) -/

section WaitEnd
variable {s : State} {p : Fin 16}

/-- A pass comes too late when a recorded stop has come by then (R139, R152). -/
theorem State.matchPassed_of_stop {u : Nat} (hstop : s.stopAt p = some u) (t : Nat) : s.matchPassed p t =
    if u ≤ t then s.stopNow p u else (s.resume p (max t (s.psq p).last)).advance p := by
  rw [State.matchPassed, hstop]

/-- The pass of an input PCLK ends the MATCH (R139). -/
theorem exec_matchResult_of_pass {c t : Nat} (hpass : s.passOf p c = some t) :
    exec (.matchResult p c) s = .next (s.matchPassed p t) := by
  have hexec : exec (.matchResult p c) s = execMatchResult p c s := rfl
  rw [hexec, execMatchResult, hpass]

/-- A complete result that is no pass is forgotten (R139). -/
theorem exec_matchResult_of_no_pass {c : Nat} (hpass : s.passOf p c = none)
    (hcomplete : (s.fails.any fun f => f.c == c && s.matchWord p f) = false) : exec (.matchResult p c) s =
      .next (s.setPsq p { s.psq p with results := (s.psq p).results.filter fun r => r.c != c }) := by
  have hexec : exec (.matchResult p c) s = execMatchResult p c s := rfl
  rw [hexec, execMatchResult, hpass]
  exact congrArg _ (if_neg (ne_true_of_eq_false hcomplete))

section NoStop
variable (hstop : s.stopAt p = none)
include hstop

theorem State.matchPassed_of_no_stop (t : Nat) : s.matchPassed p t = (s.resume p (max t (s.psq p).last)).advance p := by
  rw [State.matchPassed, hstop]

/-- The n-th issue of a MATCH: the earliest pass ends it, else SFF is set and the time-out counted (R139). -/
theorem exec_matchTimeout_of_no_stop {n first : Nat} {ps : List MatchAcc} (hwait : (s.psq p).wait = .mtch n first)
    (hps : ps = (s.matchResults p).filter fun r => r.passes (s.psq p).start n first) : exec (.matchTimeout p) s =
      .next ((ps.map (·.tick)).min?.elim
        ((((s.wr (psqB p) PSQ_STAT.SFF 1).count (psqB p) PSQ_CNT_MTO.V).resume p (first + 8 * (n - 1))).advance p)
        fun t => (s.resume p (max t (s.psq p).last)).advance p) := by
  have hexec : exec (.matchTimeout p) s = execMatchTimeout p s := rfl
  rw [hexec, execMatchTimeout, hwait, hps]
  dsimp only
  cases hmin : (((s.matchResults p).filter fun r => r.passes (s.psq p).start n first).map (·.tick)).min? with
  | none => rw [hstop]; rfl
  | some t => exact congrArg _ (State.matchPassed_of_no_stop hstop t)

/-- The tick of a SYNC resumes the sequencer in the first PCLK at or after it (R140). -/
theorem exec_syncTickReached_of_no_stop {at_ : Nat} (hwait : (s.psq p).wait = .sync at_) :
    exec (.syncTickReached p) s = .next ((s.resume p (alignUp 8 at_ - 8)).advance p) := by
  have hexec : exec (.syncTickReached p) s = execSyncTickReached p s := rfl
  rw [hexec, execSyncTickReached, hwait, hstop]

/-- The slot of a paced loop starts its next iteration in the first PCLK at or after it (R149). -/
theorem exec_paceSlotReached_of_no_stop {at_ : Nat} (hwait : (s.psq p).wait = .pace at_) :
    exec (.paceSlotReached p) s = .next ((s.resume p (alignUp 8 at_ - 8)).nextIteration p) := by
  have hexec : exec (.paceSlotReached p) s = execPaceSlotReached p s := rfl
  rw [hexec, execPaceSlotReached, hwait, hstop]
end NoStop

/-- A condition sample acts in RUN and WAIT alone (R138). -/
theorem exec_psqConditionSample (p : Fin 16) (ffail poison : Bool) (s : State) : exec (.psqConditionSample p ffail poison) s = .next (
    if !s.psqRunning p then s
    else if poison then (if ffail || poison then s.wr (psqB p) PSQ_STAT.SFF 1 else s).raise (p / 4) 51 (s.siteOfPsq p) p
    else if ffail || poison then s.wr (psqB p) PSQ_STAT.SFF 1 else s) := rfl

theorem exec_runningFall (p : Fin 16) (s : State) :
    exec (.runningFall p) s = .next (if s.psqRunning p then s else s.wr (psqB p) PSQ_STAT.RUNNING 0) := rfl

/-- The oldest STOP on its way to a sequencer is taken: ignored where none runs as a member, recorded before its tick, and else late
(R152). -/
theorem exec_stopReceive_of_found {m : StopMsg} {t : State} (hfind : (s.stops.find? fun m => m.psq == p.val) = some m)
    (ht : t = { s with stops := s.stops.erase m }) : exec (.stopReceive p) s = .next (
      if !t.psqRunning p || (t.psq p).lkEnd then t
      else if t.haltTick p < m.stopAt then t.recordStop p m.stopAt
      else ((t.haltPsq p runGROUP 0 (t.haltTick p)).wr (psqB p) PSQ_STAT.STOP_LATE 1).raise (p / 4) 52 (t.siteOfPsq p) p) := by
  have hexec : exec (.stopReceive p) s = execStopReceive p s := rfl
  rw [hexec, execStopReceive, hfind, ht]

/-- The recorded tick ends a run (R152). -/
theorem exec_stopAtReached_of_stop {t : Nat} (hstop : s.stopAt p = some t) (hrun : s.psqRunning p = true) :
    exec (.stopAtReached p) s = .next (s.stopNow p t) := by
  have hexec : exec (.stopAtReached p) s = execStopAtReached p s := rfl
  rw [hexec, execStopAtReached, hstop]
  exact congrArg _ (if_pos hrun)
end WaitEnd

/-- Settles O24, command by command. -/
theorem patternWaitEnds : Obligations.PatternWaitEnds := by
  intro s p
  refine ⟨fun t u hstop => State.matchPassed_of_stop hstop t, fun c hpass hcomplete => exec_matchResult_of_no_pass hpass hcomplete,
    fun hstop => ⟨?pass, ?timeout, fun at_ hwait => exec_syncTickReached_of_no_stop hstop hwait,
      fun at_ hwait => exec_paceSlotReached_of_no_stop hstop hwait⟩, ?segment, fun hrun => ⟨?quiet, ?ffail, ?poison⟩,
    fun hidle => ⟨?idle, ?fall⟩, ?keep, ?receive, fun t hstop hrun => exec_stopAtReached_of_stop hstop hrun⟩
  case pass => exact fun c t hpass => by rw [exec_matchResult_of_pass hpass, State.matchPassed_of_no_stop hstop]
  case timeout =>
    intro n first ps hwait hps
    have hexec := exec_matchTimeout_of_no_stop hstop hwait hps
    refine ⟨fun hnone => ?_, fun t hmin => ?_⟩
    · rw [hexec, hnone]; rfl
    · rw [hexec, hmin]; rfl
  case segment =>
    rintro n _ _ rfl hwait hres rfl
    exact congrArg _ (if_pos ⟨hwait, hres⟩)
  case quiet => rw [exec_psqConditionSample, hrun]; rfl
  case ffail => exact gives_of_exec (by rw [exec_psqConditionSample, hrun]; rfl) rfl
  case poison =>
    intro f
    rw [exec_psqConditionSample, hrun, Bool.or_true]; rfl
  case idle => intro f q; rw [exec_psqConditionSample, hidle]; rfl
  case fall => exact gives_of_exec (by rw [exec_runningFall, hidle]; rfl) rfl
  case keep => exact fun b c hovr hstatus hcount => congrArg _ (if_pos ⟨hovr, hstatus, hcount⟩)
  case receive =>
    intro m t hfind ht
    have hexec := exec_stopReceive_of_found hfind ht
    refine ⟨fun hout => ?_, fun hrun hmember hearly => ?_, fun hrun hmember hlate => ?_⟩
    · have hcond : (!t.psqRunning p || (t.psq p).lkEnd) = true := by simpa only [Bool.or_eq_true, Bool.not_eq_true'] using hout
      rwa [if_pos hcond] at hexec
    · rwa [hrun, hmember, if_neg (by decide), if_pos hearly] at hexec
    · rwa [hrun, hmember, if_neg (by decide), if_neg (Nat.not_lt.2 hlate)] at hexec

/-! ## Fail words on their way to memory (R137, R139, R181 to R187, R190, R191, R195, R197, R202 to R204, R207) -/

section FailDelivery
variable {s : State}

/-- A fail entry of a COUNT site is counted alone. -/
theorem State.fcuEntry_of_count {d due : Nat} {e : FcuEnt} (h : s.fsMode d e.site = modeCOUNT) : s.fcuEntry d e due = s := if_pos h

/-- Without a fail word on its way none is delivered. -/
theorem exec_failWordDelivery_of_none (h : nextFail s.fails = none) : exec .failWordDelivery s = .next s := by
  have hexec : exec .failWordDelivery s = execFailWordDelivery s := rfl
  rw [hexec, execFailWordDelivery, h]

/-- A fail word reaches the sequencer of its site: its fail flag and its match result (R137, R139). -/
def State.failToPsq (s : State) (f : FailWord) : State :=
  match (List.range 16).find? fun p => s.siteOfPsq p == some f.site with
  | some p => (if f.bits ≠ 0 ∧ (s.psq p).clrAt ≤ f.due then s.wr (psqB p) PSQ_STAT.SFF 1 else s).matchDelivery p f
  | none => s

/-- The first delivery of a run clears the counters of its site with AUTOCLR (R184). -/
def State.failAutoclr (s : State) (f : FailWord) : State :=
  if (s.fsx (f.ch / 576 * 16 + f.site)).autoPend ∧ (s.fsx (f.ch / 576 * 16 + f.site)).runAt ≤ f.pclk then
    (s.setFsx (f.ch / 576 * 16 + f.site) { s.fsx (f.ch / 576 * 16 + f.site) with autoPend := false }).fsClear (f.ch / 576) f.site
  else s

/-- The tag sample that goes with a fail word (R182). -/
def State.failTag (s : State) (f : FailWord) : Nat := s.fcuTag (tagKey (f.ch / 576) f.site f.pclk)

/-- A fail word with a bit set counts for its site, and its poisoned tag besides (R183). -/
def State.failTotal (s : State) (f : FailWord) : State :=
  if bitAt (s.failTag f) 48 then ((s.count2 (fsB (f.ch / 576) f.site) FS_TOTAL_LO.V FS_TOTAL_HI.V).count (fsB (f.ch / 576) f.site)
    FS_TAGPOIS.V).raise (f.ch / 576) 57 (some f.site) (f.ch / 576) else s.count2 (fsB (f.ch / 576) f.site) FS_TOTAL_LO.V FS_TOTAL_HI.V

theorem State.fcuTag_count2 (s : State) (b : Nat) (lo hi : Fld) (n k : Nat) : (s.count2 b lo hi n).fcuTag k = s.fcuTag k := rfl

/-- The delivery of the fail word due first, in its steps: the sequencer, AUTOCLR, the channel's counter, the site's, the capture. -/
theorem exec_failWordDelivery_of_next {f : FailWord} {r a b x y : State} (h : nextFail s.fails = some f)
    (hr : r = { s with fails := s.fails.erase f }.countSuppressed f) (ha : a = r.failToPsq f) (hb : b = a.failAutoclr f)
    (hx : x = b.count2 (fcuB (f.ch / 576) + f.ch % 576 * 8) FC_LO.V FC_HI.V (popBits 32 f.bits)) (hy : y = x.failTotal f) :
    exec .failWordDelivery s = .next (
      if f.bits = 0 then x
      else if y.siteState f.site = siteRESETTING then y.count (fsB (f.ch / 576) f.site) FS_PURGED.V
      else y.fcuEntry (f.ch / 576) { kind := .fail, site := f.site, ch := f.ch, word := f.bits, c := f.c, tick := f.tick, pclk := f.pclk
                                     tag := x.failTag f % 2 ^ 48, tagPois := bitAt (x.failTag f) 48 } f.due) := by
  have hexec : exec .failWordDelivery s = execFailWordDelivery s := rfl
  rw [State.failToPsq] at ha
  rw [State.failAutoclr] at hb
  rw [State.failTotal, State.failTag] at hy
  rw [hexec, execFailWordDelivery, h]
  dsimp only
  rw [← hr]
  cases hfind : (List.range 16).find? fun p => r.siteOfPsq p == some f.site with
  | none | some p =>
    rw [hfind] at ha
    dsimp only at ha ⊢
    simp only [← ha, ← hb, ← hx, State.fcuTag_count2, ← hy, State.failTag]

/-- A sample replaces the tag of its PCLK alone (R182). -/
theorem exec_fcuTagSample (d : Fin 4) (st : Fin 16) (c : Nat) (tag : BitVec 48) (pois : BitVec 6) (s : State) :
    exec (.fcuTagSample d st c tag pois) s =
      .next (s.setFcuTag (tagKey d st ((s.psq (s.rd (siteB st) SITE_CFG.PSQ)).start + 64 + 8 * c))
        (tag.toNat + (if pois = 0 then 0 else 2 ^ 48))) := rfl
end FailDelivery

section Fcu
variable {s : State} {d : Fin 4} {st : Fin 16}

/-- The head entry that the back end processes, sites in rotation, with what comes of it (R186). -/
def State.backendPick (s : State) (d : Nat) : Option (FcuEnt × State × Option FcuEnt) :=
  (List.range 16).findSome? fun i => match (s.fcu d).fifo.find? fun e => e.site == ((s.fcu d).rotOut + i) % 16 with
    | some e => (s.fcuProcess d e).map fun t => (e, t)
    | none => none

/-- The FIFO after the back end's entry, with what is left of it (R186). -/
def FcuX.fifoAfter (x : FcuX) (e : FcuEnt) : Option FcuEnt → List FcuEnt
  | none => x.fifo.erase e
  | some e' => x.fifo.replace e e'

theorem exec_fcuBackendEntry (d : Fin 4) (s : State) : exec (.fcuBackendEntry d) s = .next (
    match (s.fcuMove d 16).backendPick d with
    | some (e, t, rest) => (t.setFcu d { t.fcu d with fifo := (t.fcu d).fifoAfter e rest, rotOut := (e.site + 1) % 16 }).fcuOcc d
    | none => (s.fcuMove d 16).fcuOcc d) := rfl

/-- Without a marker of the site none enters its stream. -/
theorem exec_fcuMarkerEntry_of_none (h : ((s.fcu d).markers.find? fun m => m.1 == st.val) = none) :
    exec (.fcuMarkerEntry d st) s = .next s := by
  have hexec : exec (.fcuMarkerEntry d st) s = execFcuMarkerEntry d st s := rfl
  rw [hexec, execFcuMarkerEntry]
  dsimp only
  rw [h]

/-- The oldest marker of a site is dropped in a site reset, may start a flush in BITMAP mode, and else joins the stream (R195). -/
theorem exec_fcuMarkerEntry_of_found {m : Nat × Nat × Nat × Nat} {u v : State} {e : FcuEnt}
    (h : ((s.fcu d).markers.find? fun m => m.1 == st.val) = some m)
    (hu : u = s.setFcu d { s.fcu d with markers := (s.fcu d).markers.erase m })
    (hv : v = u.setFsx (d * 16 + st) { u.fsx (d * 16 + st) with drops := 0 })
    (he : e = { kind := .marker, site := st, evt := m.2.1, c := m.2.2.1, tick := m.2.2.2, pclk := m.2.2.2
                drops := (u.fsx (d * 16 + st)).drops }) : exec (.fcuMarkerEntry d st) s = .next (
      if u.siteState st = siteRESETTING then u
      else if u.fsMode d st = modeBITMAP then if u.on (fsB d st) FS_CFG.MFLUSH && bitAt m.2.1 7 then u.fsFlush d st else u
      else v.setFcu d { v.fcu d with intake := (v.fcu d).intake ++ [e] }) := by
  have hexec : exec (.fcuMarkerEntry d st) s = execFcuMarkerEntry d st s := rfl
  rw [hexec, execFcuMarkerEntry]
  dsimp only
  rw [h, hv, he, hu]

/-- Without a line to write back nothing is written. -/
theorem exec_fcuWriteback_of_none (h : (s.fcu d).nextLine = none) : exec (.fcuWriteback d) s = .next s := by
  have hexec : exec (.fcuWriteback d) s = execFcuWriteback d s := rfl
  rw [hexec, execFcuWriteback, h]

/-- The next line is written back by line-OR; a refused one sets BMINVAL (R202, R207). -/
theorem exec_fcuWriteback_of_line {l : FcuLine} {x : FcuX} {e : Option Rsp} {t : State} (h : (s.fcu d).nextLine = some (l, x))
    (hor : (s.setFcu d x).lineOr (fcuWho d l.site) (l.line * 64) l.data false = (e, t)) :
    exec (.fcuWriteback d) s = .next ((if e.isSome then t.wr (fsB d l.site) FS_STAT.BMINVAL 1 else t).fcuOcc d) := by
  have hexec : exec (.fcuWriteback d) s = execFcuWriteback d s := rfl
  rw [hexec, execFcuWriteback, h]
  dsimp only
  rw [hor]

/-- RING_FULL follows a new write pointer (R191). -/
theorem State.ringFull_wr_wrptr (s : State) (d st v : Nat) : (s.wr (fsB d st) FS_WRPTR.WR v).ringFull d st =
    (s.wr (fsB d st) FS_WRPTR.WR v).wr (fsB d st) FS_STAT.RING_FULL
      (decide (2 ^ s.rd (fsB d st) FS_RSIZE.LOG2 ≤ seqDiff 32 (v % 2 ^ 32) (s.rd (fsB d st) FS_RDPTR.RD))).toNat := by
  have hsize : FS_RSIZE.LOG2.key (fsB d st) ≠ FS_WRPTR.WR.key (fsB d st) := by
    simp only [Fld.key, FS_RSIZE.LOG2, FS_WRPTR.WR]; omega
  have hread : FS_RDPTR.RD.key (fsB d st) ≠ FS_WRPTR.WR.key (fsB d st) := by
    simp only [Fld.key, FS_RDPTR.RD, FS_WRPTR.WR]; omega
  rw [State.ringFull, State.rd_wr_ne _ hsize, State.rd_wr_ne _ hread, State.rd_wr_self]
  rfl

/-- Without an outstanding record line no response moves anything. -/
theorem exec_fcuWriteResponse_of_nil (h : (s.fsx (d * 16 + st)).out = []) : exec (.fcuWriteResponse d st) s = .next s := by
  have hexec : exec (.fcuWriteResponse d st) s = execFcuWriteResponse d st s := rfl
  rw [hexec, execFcuWriteResponse]
  dsimp only
  rw [h]

/-- The response of the oldest record line moves the FIRST index or FS_WRPTR past its records (R190, R191, R197). -/
theorem exec_fcuWriteResponse_of_cons {l : RecLine} {ls : List RecLine} (h : (s.fsx (d * 16 + st)).out = l :: ls) :
    exec (.fcuWriteResponse d st) s = .next (
      if l.first then
        if s.rd (fsB d st) FS_FIRSTN.N ≤ l.next then
          (s.setFsx (d * 16 + st) { s.fsx (d * 16 + st) with out := ls, firstDone := l.next }).wr (fsB d st) FS_STAT.FIRST_DONE 1
        else s.setFsx (d * 16 + st) { s.fsx (d * 16 + st) with out := ls, firstDone := l.next }
      else ((s.setFsx (d * 16 + st) { s.fsx (d * 16 + st) with out := ls }).wr (fsB d st) FS_WRPTR.WR l.next).ringFull d st) := by
  have hexec : exec (.fcuWriteResponse d st) s = execFcuWriteResponse d st s := rfl
  rw [hexec, execFcuWriteResponse]
  dsimp only
  rw [h]
  rfl

theorem exec_fcuPartialLineTimeout (d : Fin 4) (st : Fin 16) (s : State) :
    exec (.fcuPartialLineTimeout d st) s = .next (s.emitPart d st) := rfl

/-- Without a partial line none is written. -/
theorem State.emitPart_of_none {d st : Nat} (h : (s.fsx (d * 16 + st)).part = none) : s.emitPart d st = s := by
  rw [State.emitPart, h]

/-- The partial line is written, and waits for its response (R197). -/
theorem State.emitPart_of_some {d st : Nat} {l : RecLine} (h : (s.fsx (d * 16 + st)).part = some l) : s.emitPart d st =
    ((s.setFsx (d * 16 + st) { s.fsx (d * 16 + st) with part := none, out := (s.fsx (d * 16 + st)).out ++ [l] }).storeBytes
      (fcuWho d st) l.addr l.data false).2 := by
  rw [State.emitPart, h]

/-- A flush is DONE when nothing of it is left on its way (R204). -/
theorem exec_fsFlushDone (d : Fin 4) (st : Fin 16) (s : State) : exec (.fsFlushDone d st) s = .next (
    if s.rd (fsB d st) FS_FLUSH_RES.STATUS = 1 ∧ (s.fsx (d * 16 + st)).flushAhead = false ∧ (s.fsx (d * 16 + st)).out = [] ∧
        (((s.fcu d).cache ++ (s.fcu d).wbq ++ (s.fcu d).marks).any fun l => l.site == st.val && l.flush) = false then
      (s.wr (fsB d st) FS_FLUSH_RES.STATUS 2).wr (fsB d st) FS_FLUSH_RES.VALID 1
    else s) := by
  have hexec : exec (.fsFlushDone d st) s = execFsFlushDone d st s := rfl
  rw [hexec, execFsFlushDone]
  simp only [List.any_append, Bool.not_eq_true', List.isEmpty_iff]
end Fcu

/-- Settles O28, command by command. -/
theorem failCapture : Obligations.FailCapture := by
  intro s d st
  refine ⟨?tag, exec_failWordDelivery_of_none, ?delivery, ?backend, exec_fcuMarkerEntry_of_none, ?marker, exec_fcuWriteback_of_none,
    fun l x e t hnext hor => exec_fcuWriteback_of_line hnext hor, exec_fcuWriteResponse_of_nil, ?response, ?noPart, ?part, ?flushDone⟩
  case tag =>
    rintro c tag pois _ rfl
    exact ⟨_, exec_fcuTagSample d st c tag pois s, State.fcuTag_setFcuTag_self ..,
      fun k hk => by rw [State.fcuTag_setFcuTag, if_neg hk], rfl⟩
  case delivery =>
    intro f n e k r a b x y hnext hn he hk hr ha hb hx hy
    subst hn he hk
    have hexec := exec_failWordDelivery_of_next hnext hr ha hb hx hy
    refine ⟨fun hclean => ?_, fun hbits hreset => ?_, fun hbits hlive hcount => ?_, fun hbits hlive => ?_⟩
    · rwa [if_pos hclean] at hexec
    · rwa [if_neg hbits, if_pos hreset] at hexec
    · rw [if_neg hbits, if_neg hlive, State.fcuEntry_of_count] at hexec
      · exact hexec
      · exact hcount
    · rwa [if_neg hbits, if_neg hlive] at hexec
  case backend =>
    intro y hy
    refine ⟨fun hpick => ?_, fun e t rest hpick => ?_⟩
    · have hpick : y.backendPick d = none := hpick
      rw [exec_fcuBackendEntry, ← hy, hpick]
    · have hpick : y.backendPick d = some (e, t, rest) := hpick
      rw [exec_fcuBackendEntry, ← hy, hpick]
      rfl
  case marker =>
    intro m u hfind hu
    refine ⟨fun hreset => ?_, fun hlive hmode => ?_, fun hlive hmode v e hv he => ?_⟩
    · rw [exec_fcuMarkerEntry_of_found hfind hu rfl rfl, if_pos hreset]
    · rw [exec_fcuMarkerEntry_of_found hfind hu rfl rfl, if_neg hlive, if_pos hmode]
    · rw [exec_fcuMarkerEntry_of_found hfind hu hv he, if_neg hlive, if_neg hmode]
  case response =>
    intro l ls hout
    have hexec := exec_fcuWriteResponse_of_cons hout
    refine ⟨fun hfirst hdone => ?_, fun hfirst hmore => ?_, fun hlist => ?_⟩
    · rw [if_pos hfirst, if_pos hdone] at hexec
      exact gives_of_exec hexec rfl
    · rwa [if_pos hfirst, if_neg (Nat.not_le.2 hmore)] at hexec
    · rw [if_neg (ne_true_of_eq_false hlist), State.ringFull_wr_wrptr] at hexec
      exact gives_of_exec hexec rfl
  case noPart => exact fun h => (exec_fcuPartialLineTimeout d st s).trans (congrArg _ (State.emitPart_of_none h))
  case part => exact fun l h => (exec_fcuPartialLineTimeout d st s).trans (congrArg _ (State.emitPart_of_some h))
  case flushDone =>
    intro b hb
    have hexec := exec_fsFlushDone d st s
    refine ⟨fun hpending hahead hout hlines => ?_, fun hleft => ?_⟩
    · rw [if_pos ⟨hpending, hahead, hout, hb.symm.trans hlines⟩] at hexec
      exact gives_of_exec hexec rfl
    · rw [if_neg] at hexec
      · exact hexec
      rintro ⟨hpending, hahead, hout, hlines⟩
      rcases hleft with h | h | h | h
      · exact h hpending
      · exact absurd h (ne_true_of_eq_false hahead)
      · exact h hout
      · exact absurd h (ne_true_of_eq_false (hb.trans hlines))

/-! ## The life of a site (R122, R125 to R130) -/

/-- A message to the host counts among those sent, and changes nothing else. -/
theorem State.sendMsix_eq (s : State) (v : Nat) : s.sendMsix v = { s with msix := (s.sendMsix v).msix } := by
  by_cases hd3 : (if v < 64 then 0 else 1 + (v - 64) / 8) ∈ s.host.d3
  · simp only [State.sendMsix, if_pos hd3]
  · simp only [State.sendMsix, if_neg hd3]

theorem State.rd_sendMsix (s : State) (v b : Nat) (f : Fld) : (s.sendMsix v).rd b f = s.rd b f := by
  rw [State.sendMsix_eq]; rfl

section Site
variable {s : State} {st : Fin 16}

theorem exec_siteReset (st : Fin 16) (s : State) : exec (.siteReset st) s = .next (s.atBlock .site 0 0 fun s => s.siteReset st false) := rfl
theorem exec_siteRelease (st : Fin 16) (s : State) : exec (.siteRelease st) s = .next (s.atBlock .site 0 0 fun s => s.siteRelease st) := rfl

/-- A site reset counts itself and warns the SPs of the site; an ACTIVE site then starts it (R125 to R127). -/
theorem State.siteReset_of_warned {st : Nat} {flr : Bool} {u v w : State}
    (hu : u = (s.count (siteB st) SITE_STAT.RCNT).each (List.range 16) fun n s =>
      if s.on (spB n) SP_CFG.ASSIGNED ∧ s.rd (spB n) SP_CFG.SITE = st then s.hubPend n 91 true else s)
    (hv : v = (u.wr (siteB st) SITE_STAT.STATE siteRESETTING).wrb (siteB st) SITE_STAT.FLR flr)
    (hw : w = (((v.haltPsq (v.rd (siteB st) SITE_CFG.PSQ) runRESET 0 (v.haltTick (v.rd (siteB st) SITE_CFG.PSQ))).siteChannelsSafe
      st).sitePurgeFlights st).each (List.range 4) fun d s => s.fcuPurge d st) : s.siteReset st flr =
    if u.siteState st ≠ siteACTIVE then u
    else (((w.each (List.range 8) fun r s => s.raeCancelSite r st).each (List.range 64) fun c s =>
      if (s.sacSite c).map (·.val) = some st then s.sacSiteReset c else s).each (List.range 32) fun c s =>
        if s.dmaSite c = some st then s.dmaCancel c else s).orphanOwner (ownerVF st) := by
  rw [State.siteReset, hw, hv, hu]

/-- RELEASE acts in QUIESCED alone (R130). -/
theorem State.siteRelease_of_quiesced {st : Nat} (h : s.siteState st = siteQUIESCED) : s.siteRelease st =
    (s.wr (siteB st) SITE_STAT.QUIESCED 0).wr (siteB st) SITE_STAT.STATE
      (if s.on (siteB st) SITE_CFG.EN then siteACTIVE else siteFREE) := if_pos h
theorem State.siteRelease_of_not_quiesced {st : Nat} (h : s.siteState st ≠ siteQUIESCED) : s.siteRelease st = s := if_neg h

/-- A drained resetting site becomes QUIESCED and tells its VF (R126). -/
theorem exec_siteQuiesced_of_drained (hstate : s.siteState st = siteRESETTING) (hdrained : s.siteDrained st = true) :
    exec (.siteQuiesced st) s = .next (((s.wr (siteB st) SITE_STAT.STATE siteQUIESCED).wr (siteB st) SITE_STAT.QUIESCED 1).sendMsix
      (vfVector st 1)) := congrArg _ (if_pos ⟨hstate, hdrained⟩)
theorem exec_siteQuiesced_of_busy (h : s.siteState st ≠ siteRESETTING ∨ s.siteDrained st = false) :
    exec (.siteQuiesced st) s = .next s := congrArg _ (if_neg fun ⟨hstate, hdrained⟩ =>
      h.elim (fun h => h hstate) fun h => ne_true_of_eq_false h hdrained)
end Site

/-- Settles O52, command by command. -/
theorem siteLife : Obligations.SiteLife := by
  intro s st
  refine ⟨fun hans => ⟨?silentReset, ?silentRelease⟩, fun hans => ⟨fun u v w hu => ⟨?waits, ?resets⟩, ?released, ?kept⟩, ?quiesced,
    exec_siteQuiesced_of_busy⟩
  case silentReset => rw [exec_siteReset, State.atBlock_of_not_answers hans]
  case silentRelease => rw [exec_siteRelease, State.atBlock_of_not_answers hans]
  case waits =>
    intro hstate
    rw [exec_siteReset, State.atBlock_of_answers hans, State.siteReset_of_warned hu rfl rfl, if_pos hstate]
  case resets =>
    intro hstate hv hw
    rw [exec_siteReset, State.atBlock_of_answers hans, State.siteReset_of_warned hu hv hw, if_neg (Classical.not_not.2 hstate)]
  case released =>
    intro hstate
    exact gives_of_exec (by rw [exec_siteRelease, State.atBlock_of_answers hans, State.siteRelease_of_quiesced hstate]; rfl) rfl
  case kept =>
    intro hstate
    rw [exec_siteRelease, State.atBlock_of_answers hans, State.siteRelease_of_not_quiesced hstate]
  case quiesced =>
    intro hstate hdrained
    have hkey : SITE_STAT.STATE.key (siteB st) ≠ SITE_STAT.QUIESCED.key (siteB st) := by
      simp only [Fld.key, SITE_STAT.STATE, SITE_STAT.QUIESCED]; omega
    refine ⟨_, exec_siteQuiesced_of_drained hstate hdrained, ?_, ?_, fun b f hst hq => ?_, ?_⟩
    · rw [State.siteState, State.rd_sendMsix, State.rd_wr_ne _ hkey, State.rd_wr_self]; rfl
    · rw [State.on, State.rd_sendMsix, State.rd_wr_self]; rfl
    · rw [State.rd_sendMsix, State.rd_wr_ne _ hq, State.rd_wr_ne _ hst]
    · rw [State.sendMsix_eq]; rfl

/-! ## Transfers at their targets (R134, R141, R143 to R145, R195, R330, R360 to R363, R434, R476, R558) -/

section Requests
variable {s : State} {id : Nat}

/-- A command for a flight that is over does nothing. -/
theorem exec_memoryRequest_of_none (h : (s.flights.find? fun f => f.id == id) = none) : exec (.memoryRequest id) s = .next s := by
  have hexec : exec (.memoryRequest id) s = execMemoryRequest id s := rfl
  rw [hexec, execMemoryRequest, h]
theorem exec_sacBankAccess_of_none (h : (s.flights.find? fun f => f.id == id) = none) (waited : Bool) :
    exec (.sacBankAccess id waited) s = .next s := by
  have hexec : exec (.sacBankAccess id waited) s = execSacBankAccess id waited s := rfl
  rw [hexec, execSacBankAccess, h]

/-- A request is taken once, in the order of its source (R434). -/
theorem exec_memoryRequest_of_found {f : Flight} (h : (s.flights.find? fun f => f.id == id) = some f) :
    exec (.memoryRequest id) s =
      .next (if f.rsp.isNone && !s.inPort id && !s.behindOwn f then s.takeRequest f else s) := by
  have hexec : exec (.memoryRequest id) s = execMemoryRequest id s := rfl
  rw [hexec, execMemoryRequest, h]

/-- An access to the data of a SAC is answered; the core stalls for one that has waited (R330). -/
theorem exec_sacBankAccess_of_found {f : Flight} {c d : Nat} {r : Rsp} {t u : State}
    (h : (s.flights.find? fun f => f.id == id) = some f) (hsac : sacOfDm f.req.addr.toNat = some c) (hdst : f.dst = .mem d)
    (hrsp : f.rsp = none) (horder : s.behindOwn f = false) (hserve : s.serve f.req (.mem d) = (r, t)) (hu : u = t.answer id r)
    (waited : Bool) : exec (.sacBankAccess id waited) s =
      .next (if waited && u.sacState c == sacRUN then u.count (sacB c) SAC_CNT_STALL.V else u) := by
  have hexec : exec (.sacBankAccess id waited) s = execSacBankAccess id waited s := rfl
  rw [hexec, execSacBankAccess, h]
  dsimp only
  rw [hsac, hdst]
  dsimp only
  rw [hrsp, horder, hserve, hu]
  rfl
end Requests

section SacTransfers
variable {s : State} {c : Fin 64}

/-- A BUSY channel's transfer ends REJECTED, DONE or in ERROR (R360 to R362). -/
theorem exec_sacTransferDone_of_xfer {ch : Fin 2} {w0 w1 w2 w3 off len a : Nat} {bad : Bool} {snap : List (Nat × Bool)}
    (h : KV.get none ch.val (s.sac c).xfers = some ⟨[w0, w1, w2, w3], snap⟩) (hoff : off = bits w2 0 17) (hlen : len = bits w3 0 18)
    (ha : a = w0 + bits w1 0 8 * 2 ^ 32) (hbad : bad = decide (bits w1 8 24 ≠ 0 ∨ bits w2 17 14 ≠ 0 ∨ bits w3 18 14 ≠ 0 ∨
      off % 8 ≠ 0 ∨ len % 8 ≠ 0 ∨ len < 8 ∨ 131072 < off + len)) : exec (.sacTransferDone c ch) s = .next (
      if KV.get 0 ch.val (s.sac c).xst ≠ xBUSY then s
      else if bad then s.sacXEnd c ch xREJECTED
      else
        let z := if bitAt w2 31 then s.drew.sacOut c (s.free (len / 4)) snap (len / 8) 0 a off else s.sacIn c (len / 8) a off
        z.2.sacXEnd c ch (if z.1 then xDONE else xERROR)) := by
  have hexec : exec (.sacTransferDone c ch) s = execSacTransferDone c ch s := rfl
  rw [hexec, execSacTransferDone, h, hbad, ha, hlen, hoff]
  simp only [decide_eq_true_eq]

/-- An inbound word that arrives is stored, and the rest goes on (R360). -/
theorem State.sacIn_of_data {n a off v p : Nat} {t : State} (h : s.nocAccess (s.sacReq c .rd a 0 false) .ack = (.data v p, t)) :
    s.sacIn c (n + 1) a off = (t.writeWord ((sacDmAddr c 0 + off) / 8) v 255 (p != 0)).sacIn c n (a + 8) (off + 8) := by
  rw [State.sacIn, h]

/-- An inbound word that ends in an error is not stored; the rest goes on all the same (R558). -/
theorem State.sacIn_of_error {n a off : Nat} {r : Rsp} {t : State} (h : s.nocAccess (s.sacReq c .rd a 0 false) .ack = (r, t))
    (hr : ∀ v p, r ≠ .data v p) : s.sacIn c (n + 1) a off = (false, (t.sacIn c n (a + 8) (off + 8)).2) := by
  rw [State.sacIn, h]
  cases r with
  | data v p => exact absurd rfl (hr v p)
  | _ => rfl

/-- An outbound word is read once and sent; the transfer is DONE only when every word was taken (R261, R361). -/
theorem State.sacOut_succ {n i a off pick : Nat} {snap : List (Nat × Bool)} {r : Rsp} {t : State} {w : Nat × Bool}
    (hw : w = s.sacWord c pick snap i off) (h : (s.countChip (sacDmAddr c 0 + off) 8 false).nocAccess
      ((s.countChip (sacDmAddr c 0 + off) 8 false).sacReq c .wr a w.1 w.2) .ack = (r, t)) : s.sacOut c pick snap (n + 1) i a off =
    (rspOk r && (t.sacOut c pick snap n (i + 1) (a + 8) (off + 8)).1, (t.sacOut c pick snap n (i + 1) (a + 8) (off + 8)).2) := by
  rw [State.sacOut, ← hw, h]
end SacTransfers

/-- A loop does what one with equal turns does. -/
theorem State.each_congr {α : Type} {s : State} {xs : List α} {f g : α → State → State} (h : ∀ x s, f x s = g x s) :
    s.each xs f = s.each xs g := by
  rw [funext fun x => funext (h x)]

section Trig
variable {s : State}

/-- Without an event on its way none is delivered. -/
theorem exec_trigDelivery_of_none (h : firstTrig s.trigs = none) : exec .trigDelivery s = .next s := by
  have hexec : exec .trigDelivery s = execTrigDelivery s := rfl
  rw [hexec, execTrigDelivery, h]

/-- A TRIG event reaches a SAC of its site that answers (R363). -/
def TrigMsg.toSac (m : TrigMsg) (site : Option Nat) (c : Nat) (s : State) : State :=
  match s.sacSite c, site with
  | some x, some y => if x.val = y ∧ s.answers .sac (c / 16) (c % 16) then s.sacEvent c m.evt else s
  | _, _ => s

/-- A TRIG event reaches the FCU of every die that holds a channel of its site (R195). -/
def State.trigMarkers (s : State) (m : TrigMsg) (st : Nat) : State :=
  s.each (List.range 4) fun d s => if s.siteOnDie d st then s.setFcu d { s.fcu d with
    markers := (s.fcu d).markers ++ [(st, m.evt, m.c, m.due)] } else s

/-- The event due first reaches the destinations that it names, one after the other (R141). -/
theorem exec_trigDelivery_of_first {m : TrigMsg} {u v w x : State} {site : Option Nat} {toSac : Nat → State → State}
    (h : firstTrig s.trigs = some m) (hu : u = { s with trigs := s.trigs.erase m }) (hsite : u.siteOfPsq m.psq = site)
    (hsac : ∀ c s, toSac c s = m.toSac site c s) (hv : v = if bitAt m.dest 0 then u.each (List.range 64) toSac else u)
    (hw : w = if bitAt m.dest 1 then v.hubEvent (v.rd (psqB m.psq) PSQ_TRIG.SP) m.psq m.evt else v)
    (hx : x = if bitAt m.dest 2 then w.svpTrig m.psq m.evt m.due else w) : exec .trigDelivery s = .next (
      if bitAt m.dest 3 then site.elim x fun st => x.trigMarkers m st else x) := by
  have hexec : exec .trigDelivery s = execTrigDelivery s := rfl
  rw [hexec, execTrigDelivery, h]
  dsimp only
  rw [← hu, hsite, State.each_congr (s := u) (xs := List.range 64) (g := toSac)]
  · rw [← hv, ← hw, ← hx]
    cases site with
    | none => rfl
    | some st => rw [Option.elim_some, State.trigMarkers]
  · intro c s
    rw [hsac]
    unfold TrigMsg.toSac
    cases s.sacSite c with
    | none => rfl
    | some x => cases site with
      | none | some st => rfl
end Trig

section Streams
variable {s : State} {p : Fin 16}

/-- A stream that is not being filled takes no line. -/
theorem exec_streamLineFill_of_off (h : (s.psq p).bufOn = false ∨ s.psqActive p = false) : exec (.streamLineFill p) s = .next s := by
  refine congrArg _ (if_pos ?_)
  rcases h with h | h
  · simp only [h, Bool.not_false, Bool.true_or]
  · simp only [h, Bool.not_false, Bool.or_true]

/-- The next line of a stream: what is issued makes room, and the words that fit enter the buffer (R134, R145). -/
theorem exec_streamLineFill_of_on {buf : List (Nat × Nat)} {bad : List Nat} {n : Nat} {ws : List (Option Nat)} {t : State}
    (hon : (s.psq p).bufOn = true) (hactive : s.psqActive p = true)
    (hbuf : buf = (s.psq p).buf.filter fun e => (s.psq p).floor ≤ e.1)
    (hbad : bad = (s.psq p).bufBad.filter fun o => (s.psq p).floor ≤ o)
    (hn : n = min (min (4 - (s.psq p).bufNext % 4) (s.sdLen p (s.psq p).bufSd - (s.psq p).bufNext)) (4096 - buf.length - bad.length))
    (hread : s.streamRead p (s.psq p).bufSd (s.psq p).bufNext n = (ws, t)) : exec (.streamLineFill p) s = .next (
      if n = 0 then s.setPsq p { s.psq p with buf := buf, bufBad := bad }
      else t.setPsq p { s.psq p with
        buf := buf ++ ((List.range n).zip ws).filterMap fun e => e.2.map fun w => ((s.psq p).bufNext + e.1, w)
        bufBad := bad ++ ((List.range n).zip ws).filterMap fun e => if e.2.isNone then some ((s.psq p).bufNext + e.1) else none
        bufNext := (s.psq p).bufNext + n }) := by
  have hexec : exec (.streamLineFill p) s = execStreamLineFill p s := rfl
  rw [hexec, execStreamLineFill]
  dsimp only
  rw [← hbuf, ← hbad, ← hn, hread, hon, hactive]
  rfl

/-- A descriptor that is not being scanned ends no scan. -/
theorem exec_sdScanDone_of_idle {n : Fin 8} (h : s.sdStatus p n ≠ 1) : exec (.sdScanDone p n) s = .next s := congrArg _ (if_pos h)

/-- A scan ends with its status; only a descriptor found OK serves elastic mode (R143, R144). -/
theorem exec_sdScanDone_of_scan {n : Fin 8} {x : ScanX} {t : State} {el : Bool} (h : s.sdStatus p n = 1)
    (hel : el = s.on (psqB p + n * 0x20) SD_CTL.ELASTIC)
    (hscan : s.scanLines p n el ((s.sdLen p n + 3) / 4) 0 {} = (x, t)) : exec (.sdScanDone p n) s =
      .next (((t.wr (psqB p + n * 0x20) SD_STAT.STATUS x.result.1).wr (psqB p + n * 0x20) SD_ERR.OFFSET x.result.2).setPsq p
        { t.psq p with elastic := putBit (t.psq p).elastic n (el && x.result.1 == 2) }) := by
  have hexec : exec (.sdScanDone p n) s = execSdScanDone p n s := rfl
  rw [hexec, execSdScanDone, if_neg (Classical.not_not.2 h)]
  dsimp only
  rw [← hel, hscan]
  rfl
end Streams

/-- Settles O55, transfer by transfer. -/
theorem transfers : Obligations.Transfers := by
  intro s id
  refine ⟨?gone, fun f hfound => ⟨?taken, ?waits, ?bank⟩, ?sac, ?words, exec_trigDelivery_of_none, ?trig, ?fill, ?scan⟩
  case gone => exact fun h => ⟨exec_memoryRequest_of_none h, exec_sacBankAccess_of_none h⟩
  case taken =>
    intro hrsp hport horder
    rw [exec_memoryRequest_of_found hfound, hrsp, hport, horder]; rfl
  case waits =>
    intro h
    rw [exec_memoryRequest_of_found hfound, if_neg]
    simp only [Bool.and_eq_true, Bool.not_eq_true', Option.isNone_iff_eq_none]
    rintro ⟨⟨hrsp, hport⟩, horder⟩
    rcases h with h | h | h
    · exact h hrsp
    · exact ne_true_of_eq_false hport h
    · exact ne_true_of_eq_false horder h
  case bank =>
    intro c d r t hsac hdst hrsp horder hserve u hu
    have hexec := exec_sacBankAccess_of_found hfound hsac hdst hrsp horder hserve hu
    refine ⟨hexec false, fun hrun => ?_, fun hrun => ?_⟩
    · rw [hexec true, hrun]; rfl
    · rw [hexec true, Bool.true_and, if_neg fun h => hrun (beq_iff_eq.1 h)]
  case sac =>
    intro c ch w0 w1 w2 w3 snap bad off len a hxfer hoff hlen ha hbad
    have hexec := exec_sacTransferDone_of_xfer hxfer hoff hlen ha hbad
    refine ⟨fun hidle => ?_, fun hbusy => ⟨fun hrej => ?_, fun hgood ok t hmove => ?_⟩⟩
    · rw [hexec, if_pos hidle]
    · rw [hexec, if_neg (Classical.not_not.2 hbusy), if_pos hrej]
    · rw [hexec, if_neg (Classical.not_not.2 hbusy), if_neg (ne_true_of_eq_false hgood), hmove]
  case words =>
    intro c n i a off pick snap r t w
    exact ⟨fun h => ⟨fun v p hr => State.sacIn_of_data (hr ▸ h), fun hr => State.sacIn_of_error h hr⟩,
      fun hw h => State.sacOut_succ hw h⟩
  case trig =>
    intro m u v hfirst hu hv w x hw hx
    have hexec := exec_trigDelivery_of_first hfirst hu rfl ?sacs hv hw hx
    refine ⟨fun h => ?_, fun st hdest hsite => ?_⟩
    · rcases h with h | h
      · rw [hexec, h]; rfl
      · rw [hexec, h]; exact congrArg _ (ite_self x)
    · rw [hexec, if_pos hdest, hsite, Option.elim_some, State.trigMarkers]
    case sacs =>
      intro c s
      unfold TrigMsg.toSac
      cases s.sacSite c with
      | none => rfl
      | some x => cases u.siteOfPsq m.psq with
        | none | some y => rfl
  case fill =>
    intro p buf bad n hbuf hbad hn
    refine ⟨exec_streamLineFill_of_off, fun hon hactive => ⟨fun hzero => ?_, fun hsome ws t hread => ?_⟩⟩
    · rw [exec_streamLineFill_of_on hon hactive hbuf hbad hn rfl, if_pos hzero]
    · rw [exec_streamLineFill_of_on hon hactive hbuf hbad hn hread, if_neg hsome]
  case scan =>
    exact fun p n => ⟨exec_sdScanDone_of_idle, fun hscan x t el hel hlines => exec_sdScanDone_of_scan hscan hel hlines⟩

end Sys2Proof.Machine

namespace Sys2Proof.Machine

/-! ## The time base on the dies (R161 to R165, R172, R174) -/

section TimeBase
variable {s : State}

/-- The first EPOCH pulse starts the count of every die when four TGMs are locked and no die counts (R162). -/
theorem exec_epochStartPulse (s : State) : exec .epochStartPulse s = .next (
    if (List.range 4).all (fun d => bitAt (s.rd (ckpB d) CKP_STAT.LOCK) 0 && !s.counting d) then
      s.each (List.range 4) fun d s => ((s.setTick d 0).setCounting d true).setReady d rdyPTB true
    else s) := rfl

/-- What a later EPOCH pulse does to a die: one whose low 20 bits differ from LD0's is misaligned (R163). -/
def State.epochAlign (s : State) (d : Nat) : State :=
  if s.counting 0 ∧ s.counting d ∧ s.tick d % 2 ^ 20 ≠ s.tick 0 % 2 ^ 20 then
    ((s.count (ptbB d) PTB_CNT_MISALIGN.V).raise d 54 none d).leaveSync causeMISALIGN ptbLOST
  else s

theorem exec_epochPulse (s : State) : exec .epochPulse s = .next (s.each (List.range 4) fun d s => s.epochAlign d) := rfl

theorem State.epochAlign_of_aligned {d : Nat} (h : s.counting d = true → s.tick d % 2 ^ 20 = s.tick 0 % 2 ^ 20) :
    s.epochAlign d = s := if_neg fun ⟨_, hcounts, hne⟩ => hne (h hcounts)

/-- A loop whose every turn leaves the state as it is leaves it as it is. -/
theorem State.each_fixed {α : Type} {f : α → State → State} {l : List α} (h : ∀ x ∈ l, f x s = s) : s.each l f = s := by
  induction l with
  | nil => rfl
  | cons x l ih =>
    have hstep : s.each (x :: l) f = (f x s).each l f := rfl
    rw [hstep, h x List.mem_cons_self, ih fun y hy => h y (List.mem_cons_of_mem x hy)]

/-! ### Boundaries -/

/-- The fine step of slew that a boundary applies: one toward the offset, none without an offset (R164). -/
def State.slewUnit (s : State) : Int := if s.sync.slew > 0 then 1 else if s.sync.slew < 0 then -1 else 0

/-- The slew of a boundary moves the dies of a list by one fine step, and a counting die without the decision raises source 54 (R164). -/
def State.slewStep (s : State) (dies : List Nat) : State :=
  (({ s with sync := { s.sync with slew := s.sync.slew - s.slewUnit, net := s.sync.net + s.slewUnit } } : State).each dies
    fun d u => u.fineStep d s.slewUnit).missedDecision

theorem exec_ptbBoundary_of_between (h : s.atBoundary = false) : exec .ptbBoundary s = .next s :=
  congrArg _ (if_neg (ne_true_of_eq_false h))

/-- A boundary slews the dies that hold the decision (R164). -/
theorem exec_ptbBoundary_of_none (hat : s.atBoundary = true) (hstep : s.sync.step = none) :
    exec .ptbBoundary s = .next (s.slewStep s.deciding) := by
  have hexec : exec .ptbBoundary s = execPtbBoundary s := rfl
  rw [hexec, execPtbBoundary, if_pos hat, hstep]; rfl

/-- A boundary takes the waiting step, or defers it while a PSQ is active, before it slews the dies that held the decision (R164, R174). -/
theorem exec_ptbBoundary_of_some {k : Int} (hat : s.atBoundary = true) (hstep : s.sync.step = some k) : exec .ptbBoundary s =
    .next ((if s.anyPsqActive then s.wr (ptbB 0) PTB_STAT.DEFER 1 else s.applyStep k).slewStep s.deciding) := by
  have hexec : exec .ptbBoundary s = execPtbBoundary s := rfl
  rw [hexec, execPtbBoundary, if_pos hat, hstep]; rfl

theorem exec_ptbDeferredStep_of_none (hstep : s.sync.step = none) : exec .ptbDeferredStep s = .next s := by
  have hexec : exec .ptbDeferredStep s = execPtbDeferredStep s := rfl
  rw [hexec, execPtbDeferredStep, hstep]

/-- The deferred step is applied at a boundary when every PSQ is idle (R174). -/
theorem exec_ptbDeferredStep_of_some {k : Int} (hstep : s.sync.step = some k) : exec .ptbDeferredStep s = .next (
    if s.on (ptbB 0) PTB_STAT.DEFER && !s.anyPsqActive && s.atBoundary then (s.applyStep k).missedDecision else s) := by
  have hexec : exec .ptbDeferredStep s = execPtbDeferredStep s := rfl
  rw [hexec, execPtbDeferredStep, hstep]

theorem exec_ptbDeferredStep_of_between (h : s.atBoundary = false) : exec .ptbDeferredStep s = .next s := by
  cases hstep : s.sync.step with
  | none => exact exec_ptbDeferredStep_of_none hstep
  | some k => rw [exec_ptbDeferredStep_of_some hstep, h, Bool.and_false]; rfl

/-- Short of 256 the fine steps of a die are kept and its count stays (R159, R164; notes/assumptions/108.md). -/
theorem State.fineStep_of_lt {d : Nat} {u : Int} (h : KV.get 0 d s.sync.fine + u < 256) : s.fineStep d u =
    { s with sync := { s.sync with fine := KV.set 0 d (KV.get 0 d s.sync.fine + u) s.sync.fine } } := by
  have hne : KV.get 0 d s.sync.fine + u ≠ 256 := Int.ne_of_lt h
  simp only [State.fineStep, if_neg hne]

/-! ### PTB_CMD and PTB_CNT_CLR -/

theorem exec_ptbSnap (d : Fin 4) (s : State) : exec (.ptbSnap d) s = .next (s.atBlock .ptb d 0 fun s => s.ptbSnap d) := rfl
theorem exec_ptbReload (d : Fin 4) (s : State) : exec (.ptbReload d) s = .next (s.atBlock .ptb d 0 fun s => s.ptbReload d) := rfl
theorem exec_ptbCntClr (d : Fin 4) (v : Word) (s : State) :
    exec (.ptbCntClr d v) s = .next (s.atBlock .ptb d 0 fun s => s.ptbCntClr d v) := rfl

/-- SNAP copies the count in its two halves (R161). -/
theorem State.ptbSnap_eq (s : State) (d : Nat) : s.ptbSnap d =
    s.wrs [PTB_SNAP_HI.V.is (ptbB d) (s.tick d / 2 ^ 32), PTB_SNAP_LO.V.is (ptbB d) (s.tick d)] := by
  have hlo : PTB_SNAP_LO.V.is (ptbB d) (s.tick d / 2 ^ PTB_SNAP_LO.V.lsb % 2 ^ PTB_SNAP_LO.V.width) =
      PTB_SNAP_LO.V.is (ptbB d) (s.tick d) := by
    simp only [Fld.is, PTB_SNAP_LO.V, Nat.pow_zero, Nat.div_one, Nat.mod_mod]
  rw [State.ptbSnap, State.wr2, State.wr_eq_wrs, State.wr_eq_wrs, State.wrs_wrs, hlo]
  rfl

/-- The counters that PTB_CNT_CLR clears on LD0, by their bits (R165). -/
theorem State.ptbCntClr_shared {v : Word} (hv : v.toNat ≤ 15) : s.ptbCntClr 0 v = 
    let u := if bitAt v.toNat 0 then s.wr (ptbB 0) PTB_CNT_LOST.V 0 else s
    let u := if bitAt v.toNat 1 then u.wr (ptbB 0) PTB_CNT_MISS.V 0 else u
    let u := if bitAt v.toNat 2 then u.wr (ptbB 0) PTB_CNT_DLYREJ.V 0 else u
    if bitAt v.toNat 3 then u.wr (ptbB 0) PTB_CNT_MISALIGN.V 0 else u := by
  rw [State.ptbCntClr, State.rsvBits_of_le _ 15 _ 4 rfl hv]
  rfl

/-- On LD1 to LD3 the bits of the shared counters set LOCKW, and MISALIGN alone is cleared (R165). -/
theorem State.ptbCntClr_own {d : Nat} (hd : d ≠ 0) {v : Word} (hv : v.toNat ≤ 15) : s.ptbCntClr d v =
    let u := if v.toNat % 8 ≠ 0 then s.lockw (ptbB d) else s
    if bitAt v.toNat 3 then u.wr (ptbB d) PTB_CNT_MISALIGN.V 0 else u := by
  rw [State.ptbCntClr, State.rsvBits_of_le _ 15 _ 4 rfl hv]
  simp only [if_neg hd]

/-- Bit 3 of PTB_CNT_CLR clears MISALIGN, on every die (R165). -/
theorem State.ptbCntClr_misalign (s : State) (d : Nat) : s.ptbCntClr d 8 = s.wr (ptbB d) PTB_CNT_MISALIGN.V 0 := by
  by_cases hd : d = 0
  · subst hd; rw [State.ptbCntClr_shared (by decide)]; rfl
  · rw [State.ptbCntClr_own hd (by decide)]; rfl
end TimeBase

/-- Settles O26, command by command. -/
theorem timeBase : Obligations.TimeBase := by
  intro s d
  refine ⟨?starts, ?aligned, exec_epochPulse s, fun h => ⟨exec_ptbBoundary_of_between h, exec_ptbDeferredStep_of_between h⟩, ?boundary,
    ?fine, fun hans => ⟨?snap, ?reloadActive, ?reloadIdle, ?misalign, ?shared, ?locked⟩, ?silent⟩
  case starts => intro h; rw [exec_epochStartPulse, if_pos h]
  case aligned =>
    intro h
    have hkept : ∀ e ∈ List.range 4, s.epochAlign e = s := fun e he => State.epochAlign_of_aligned (h e (List.mem_range.1 he))
    exact congrArg _ (State.each_fixed (f := fun e s => s.epochAlign e) hkept)
  case boundary =>
    rintro hat _ rfl
    refine ⟨?noStep, fun k hstep => ⟨fun hactive => ⟨?deferred, ?kept⟩, fun hidle => ⟨?applied, ?due, ?notDue⟩⟩⟩
    case noStep => intro hnone; rw [exec_ptbBoundary_of_none hat hnone]; rfl
    case deferred => rw [exec_ptbBoundary_of_some hat hstep, if_pos hactive]; rfl
    case kept => rw [exec_ptbDeferredStep_of_some hstep, hactive, Bool.not_true, Bool.and_false]; rfl
    case applied => rw [exec_ptbBoundary_of_some hat hstep, if_neg (ne_true_of_eq_false hidle)]; rfl
    case due => intro hdefer; rw [exec_ptbDeferredStep_of_some hstep, hdefer, hidle, hat]; rfl
    case notDue => intro hdefer; rw [exec_ptbDeferredStep_of_some hstep, hdefer]; rfl
  case fine =>
    intro e u hu
    rw [State.fineStep_of_lt hu]
    exact ⟨rfl, by simp only [KV.get_set, if_true]⟩
  case snap => exact gives_of_exec (by rw [exec_ptbSnap, State.atBlock_of_answers hans, State.ptbSnap_eq]) rfl
  case reloadActive =>
    intro h
    exact gives_of_exec (by rw [exec_ptbReload, State.atBlock_of_answers hans, State.ptbReload, if_pos h]; rfl) rfl
  case reloadIdle =>
    intro h
    exact gives_of_exec (by rw [exec_ptbReload, State.atBlock_of_answers hans, State.ptbReload, h]; rfl) rfl
  case misalign =>
    exact gives_of_exec (by rw [exec_ptbCntClr, State.atBlock_of_answers hans, State.ptbCntClr_misalign]; rfl) rfl
  case shared =>
    rintro rfl
    exact gives_of_exec (by rw [exec_ptbCntClr, State.atBlock_of_answers hans, Fin.val_zero, State.ptbCntClr_shared (by decide)]; rfl) rfl
  case locked =>
    intro hd
    have hne : d.val ≠ 0 := fun h0 => hd (Fin.ext h0)
    exact gives_of_exec (by rw [exec_ptbCntClr, State.atBlock_of_answers hans, State.ptbCntClr_own hne (by decide)]; rfl) rfl
  case silent =>
    intro hans v
    rw [exec_ptbSnap, exec_ptbReload, exec_ptbCntClr]
    simp only [State.atBlock_of_not_answers hans, and_self]

/-! ## A missed exchange of a follower (R23, R169) -/

/-- A command that gives two lists of fields gives each field what both lists say. -/
theorem Gives.fieldAfter_eq {c : Instr} {s u u' : State} {l l' : List (Nat × Nat)} (h : Gives c s u l) (h' : Gives c s u' l')
    (b : Nat) (f : Fld) : fieldAfter (s.rd b f) (f.key b) l = fieldAfter (s.rd b f) (f.key b) l' := by
  obtain ⟨t, hexec, hrd, _⟩ := h
  obtain ⟨t', hexec', hrd', _⟩ := h'
  obtain rfl : t = t' := by injection hexec.symm.trans hexec'
  rw [← hrd, hrd']

theorem exec_ptbExchangeMissed_of_sent {s : State} {t : Nat} (h : s.sync.t1 = some t) : exec .ptbExchangeMissed s =
    .next (((s.count (ptbB 0) PTB_CNT_MISS.V).wr (ptbB 0) PTB_STAT.PWAIT 1).badExchange) := by
  have hexec : exec .ptbExchangeMissed s = execPtbExchangeMissed s := rfl
  rw [hexec, execPtbExchangeMissed, h]

/-- Out of TRACK a bad exchange only ends the run of good ones (R171). -/
theorem State.badExchange_of_not_track {s : State} (h : s.ptbState ≠ ptbTRACK) : s.badExchange =
    { s with sync := { s.sync with t1 := none, bad := s.sync.bad + 1, good := 0, thetas := [], beyond := 0 } } :=
  if_neg fun ⟨htrack, _⟩ => h htrack

/-- Out of TRACK a missed exchange sets PWAIT and counts in PTB_CNT_MISS, which saturates at its 32 bits (R23, R169). -/
theorem gives_ptbExchangeMissed {s : State} {t : Nat} (ht : s.sync.t1 = some t) (hstate : s.ptbState ≠ ptbTRACK) :
    Gives .ptbExchangeMissed s { s with sync := { s.sync with t1 := none, bad := s.sync.bad + 1, good := 0, thetas := [], beyond := 0 } }
      [PTB_STAT.PWAIT.is (ptbB 0) 1, PTB_CNT_MISS.V.is (ptbB 0) (satAdd 32 (s.rd (ptbB 0) PTB_CNT_MISS.V) 1)] := by
  have hkept : ((s.count (ptbB 0) PTB_CNT_MISS.V).wr (ptbB 0) PTB_STAT.PWAIT 1).ptbState = s.ptbState := by
    rw [State.ptbState, State.rd_wr_ne _ (by decide), State.rd_count_ne _ _ (by decide)]; rfl
  exact gives_of_exec (by rw [exec_ptbExchangeMissed_of_sent ht, State.badExchange_of_not_track (hkept ▸ hstate)]; rfl) rfl

/-- A follower in ACQ with a request under way, of which 65,535 exchanges were missed before. -/
def State.requestWaits : State :=
  { ((State.reset.wr (ptbB 0) PTB_CFG.ROLE 2).wr (ptbB 0) PTB_STAT.STATE ptbACQ).wr (ptbB 0) PTB_CNT_MISS.V 65535 with
    por := false, sync := { State.reset.sync with t1 := some 0 } }

/-- Refutes O27: its clause of a missed exchange lets PTB_CNT_MISS saturate at 16 bits, but the counter has 32 bits (R23), so that the
exchange missed after 65,535 others counts to 65,536. -/
theorem not_timeExchange : ¬ Obligations.TimeExchange := by
  intro h
  have hcount : State.requestWaits.rd (ptbB 0) PTB_CNT_MISS.V = 65535 := State.rd_wr_self ..
  have hstate : State.requestWaits.ptbState ≠ ptbTRACK := by decide
  obtain ⟨_, _, _, _, hsent, _⟩ := h State.requestWaits
  obtain ⟨_, hmissed, _⟩ := hsent 0 rfl
  have hread := (hmissed hstate).fieldAfter_eq (gives_ptbExchangeMissed rfl hstate) (ptbB 0) PTB_CNT_MISS.V
  rw [hcount] at hread
  exact absurd hread (by decide)

/-! ## A DATA frame that has outlived GSL_LIFE (R471, R477, R488) -/

section OutlivedFrame
open Sys2Proof (GFrame GHdr Rsp)
variable {s : State}

/-- A port has taken a sequenced frame: the next number is due, and the credit of the frame's buffer is owed (R471, R472). -/
def State.gslTaken (s : State) (g vc : Nat) : State :=
  s.setGsl g { s.gsl g with rx := ((s.gsl g).rx + 1) % 65536, owed := KV.set 0 vc (KV.get 0 vc (s.gsl g).owed + 1) (s.gsl g).owed }

/-- The frame whose turn it is acts on the state in which the port has taken it (R469 to R472). -/
theorem State.gslTake_of_due {g vc : Nat} {h : GHdr} {hold : Bool} (hcarry : s.gslOpen g true = true)
    (hdev : s.on (dctlB 0) DCTL_DEVNUM.LOCKED = true) (hopen : s.gslOpen g hold = true) (hauth : s.gslAuth g h = true)
    (hseq : h.seq.toNat = ((s.gslHeader g h).gsl g).rx) (f : State → State) :
    s.gslTake g h hold (some vc) f = f ((s.gslHeader g h).gslTaken g vc) := by
  simp only [State.gslTake, State.gslTaken, hcarry, hdev, hopen, hauth, hseq, Bool.not_true, Bool.false_eq_true, if_false, ne_eq,
    not_true_eq_false]

/-- A DATA frame whose AGE has reached GSL_LIFE is lost, whatever its destination (R488). -/
theorem exec_gslDataFrame_of_outlived {g : Fin 24} {h : GHdr} {f : GFrame} {v : State} (hcarry : s.gslOpen g true = true)
    (hdev : s.on (dctlB 0) DCTL_DEVNUM.LOCKED = true) (hopen : s.gslOpen g false = true) (hauth : s.gslAuth g h = true)
    (hseq : h.seq.toNat = ((s.gslHeader g h).gsl g).rx) (hv : v = (s.gslHeader g h).gslTaken g f.vc)
    (hold : v.outlived { f with type := 1, at_ := 0 } = true) :
    exec (.gslDataFrame g h f) s = .next (v.gslLost g { f with type := 1, at_ := 0 }) := by
  have hexec : exec (.gslDataFrame g h f) s = execGslDataFrame g h f s := rfl
  rw [hexec, execGslDataFrame, State.gslTake_of_due hcarry hdev hopen hauth hseq, ← hv]
  exact congrArg _ (if_pos hold)

/-- A response that is lost with its frame reaches no flight: the flights stay as they are. -/
theorem State.flights_gslLost_of_rsp {g tag : Nat} {r : Rsp} {f : GFrame} (h : f.pkts = [.rsp tag r]) :
    (s.gslLost g f).flights = s.flights := by
  have hdrop : s.gslLost g f = s.gslDrop g f := by rw [State.gslLost, h]; rfl
  rw [hdrop]
  exact State.gslDrop_frame.flights (by decide)
end OutlivedFrame

/-- Port 0 is UP, the device number is set, and a read of another device awaits its response as flight 7. -/
def State.awaitsResponse : State :=
  { (State.reset.wr (gpB 0) GSL_PSTAT.STATE portUP).wr (dctlB 0) DCTL_DEVNUM.LOCKED 1 with
    por := false, flights := [⟨7, ⟨.pf, true, none, .rd, 0x40, 8, 0, 0, some 1⟩, .egress 0, 1, [], [], 0, none⟩] }

/-- The first header of a link without encryption, acknowledging nothing. -/
def firstHeader : Sys2Proof.GHdr := ⟨0, 0, false, 0, 0, false, 0, 0⟩

/-- The response of flight 7 in a DATA frame that has been under way for 65,535 µs, longer than GSL_LIFE at its reset value of 10 ms. -/
def outlivedResponse : Sys2Proof.GFrame := { type := 1, src := 1, age := 65535, pkts := [.rsp 7 .ack] }

/-- That frame is lost: flight 7 still awaits its response. -/
theorem exec_outlivedResponse : ∃ t, exec (.gslDataFrame 0 firstHeader outlivedResponse) State.awaitsResponse = .next t ∧
    t.flights = State.awaitsResponse.flights :=
  ⟨_, exec_gslDataFrame_of_outlived (by decide) (by decide) (by decide) (by decide) (by decide) rfl (by decide),
    State.flights_gslLost_of_rsp rfl⟩

/-- Refutes O50: its clause of a DATA frame delivers one to this device whatever its AGE, but a frame whose AGE has reached GSL_LIFE is lost
(R488), so that the flight which awaits the response in it stays without one. -/
theorem not_linkFrames : ¬ Obligations.LinkFrames := by
  intro h
  obtain ⟨t, hlost, hflights⟩ := exec_outlivedResponse
  obtain ⟨_, _, _, _, _, hframes⟩ := h State.awaitsResponse 0 firstHeader
  obtain ⟨_, _, hdev⟩ := hframes 0 0 [] outlivedResponse _ _ _ _ (List.mem_cons_of_mem _ (List.mem_cons_of_mem _ List.mem_cons_self))
  obtain ⟨_, _, htaken⟩ := hdev (by decide)
  obtain ⟨_, hdelivered⟩ := htaken (by decide) (by decide) _ rfl
  have hsame := hlost.symm.trans (hdelivered (by decide))
  injection hsame with hsame
  subst hsame
  have hanswered : [some Sys2Proof.Rsp.ack] = [none] := congrArg (List.map Flight.rsp) hflights
  exact absurd hanswered (by decide)

end Sys2Proof.Machine

namespace Sys2Proof.Machine

/-! ## The repair solver (R215 to R220) -/

theorem bitAt_eq_testBit (v i : Nat) : bitAt v i = v.testBit i := Nat.testBit_eq_decide_div_mod_eq.symm

/-- The mask of a list of columns has the bits of those columns, beside the bits it starts with. -/
theorem testBit_colMask (cs : List Nat) (m c : Nat) :
    (cs.foldl (fun m c => m ||| 2 ^ c) m).testBit c = (m.testBit c || decide (c ∈ cs)) := by
  induction cs generalizing m with
  | nil => simp
  | cons a cs ih =>
    rw [List.foldl_cons, ih, Nat.testBit_or, Nat.testBit_two_pow]
    simp [Bool.or_assoc, eq_comm]

section Repair
variable {P : Spares} {cells : List (Nat × Nat)}

/-- A node accounts for the failing cells of a block: each lies on an assigned line, or still remains. -/
def Node.Accounts (cells : List (Nat × Nat)) (x : Node) : Prop :=
  ∀ e ∈ cells, ∀ c, bitAt e.2 c = true → e.1 ∈ x.rows ∨ c ∈ x.cols ∨ ∃ m, (e.1, m) ∈ x.cells ∧ bitAt m c = true

/-- Rows and columns repair a block: they are within the spares, and every failing cell lies on one of them (R215). -/
def Spares.Repairs (P : Spares) (cells : List (Nat × Nat)) (rows cols : List Nat) : Prop :=
  rows.length ≤ P.sr ∧ cols.length ≤ P.sc ∧ ∀ e ∈ cells, ∀ c, bitAt e.2 c = true → e.1 ∈ rows ∨ c ∈ cols

/-- What a search has found so far is a repair. -/
def Search.Sound (P : Spares) (cells : List (Nat × Nat)) (z : Search) : Prop :=
  ∀ b, z.best = some b → P.Repairs cells b.1 b.2

/-- Before any assignment every failing cell remains. -/
theorem Node.accounts_start (cells : List (Nat × Nat)) : Node.Accounts cells ⟨cells, [], []⟩ :=
  fun e he _ hc => .inr (.inr ⟨e.2, he, hc⟩)

/-- A remaining cell on none of the lines that are assigned remains. -/
theorem Node.mem_cells_assign {x : Node} {rs cs : List Nat} {r m c : Nat} (hmem : (r, m) ∈ x.cells) (hbit : bitAt m c = true)
    (hr : r ∉ rs) (hc : c ∉ cs) : ∃ m', (r, m') ∈ (x.assign rs cs).cells ∧ bitAt m' c = true := by
  have hleft : bitAt (m - (m &&& cs.foldl (fun m c => m ||| 2 ^ c) 0)) c = true := by
    rw [bitAt_eq_testBit] at hbit ⊢
    rw [testBit_sub_and, testBit_colMask, hbit]
    simp [hc]
  have hne : m - (m &&& cs.foldl (fun m c => m ||| 2 ^ c) 0) ≠ 0 := by
    intro h
    rw [h, bitAt_eq_testBit, Nat.zero_testBit] at hleft
    exact absurd hleft Bool.false_ne_true
  refine ⟨_, List.mem_filterMap.2 ⟨(r, m), hmem, if_neg ?_⟩, hleft⟩
  rintro (h | h)
  · exact hr (List.contains_iff_mem.1 h)
  · exact hne h

/-- An assignment of lines accounts for what the node did. -/
theorem Node.Accounts.assign {x : Node} (h : x.Accounts cells) (rs cs : List Nat) : (x.assign rs cs).Accounts cells := by
  intro e he c hbit
  rcases h e he c hbit with hrow | hcol | ⟨m, hmem, hm⟩
  · exact .inl (List.mem_append_left rs hrow)
  · exact .inr (.inl (List.mem_append_left cs hcol))
  · by_cases hr : e.1 ∈ rs
    · exact .inl (List.mem_append_right x.rows hr)
    by_cases hc : c ∈ cs
    · exact .inr (.inl (List.mem_append_right x.cols hc))
    exact .inr (.inr (Node.mem_cells_assign hmem hm hr hc))

/-- Rounds of must-repair account for what the node did (R217). -/
theorem Node.Accounts.rounds {x : Node} (h : x.Accounts cells) (k : Nat) : (x.rounds P k).1.Accounts cells := by
  induction k generalizing x with
  | zero => exact h
  | succ k ih =>
    have hassign := h.assign (x.must P).1 (x.must P).2
    simp only [Node.rounds]
    split
    · exact h
    split
    · exact hassign
    · exact ih hassign

/-- A node within the spares on which no cell remains gives a repair. -/
theorem Node.Accounts.repairs {x : Node} (h : x.Accounts cells) (hspare : x.beyond P = none) (hdone : x.cells = []) :
    P.Repairs cells x.rows x.cols := by
  have hfits : ¬ (P.sr < x.rows.length ∨ P.sc < x.cols.length) := by
    intro hover
    rw [Node.beyond, if_pos hover] at hspare
    exact Option.some_ne_none 0 hspare
  refine ⟨by omega, by omega, fun e he c hbit => ?_⟩
  rcases h e he c hbit with hrow | hcol | ⟨m, hmem, _⟩
  · exact .inl hrow
  · exact .inr hcol
  · rw [hdone] at hmem
    exact absurd hmem List.not_mem_nil

/-- A search that solves a node has found that node's lines, or keeps what it had found. -/
theorem Search.best_solved {z : Search} {x : Node} {b : List Nat × List Nat} (h : (z.solved P x).best = some b) :
    b = (x.rows, x.cols) ∨ z.best = some b := by
  cases hbest : z.best with
  | none =>
    simp only [Search.solved, hbest, if_true] at h
    exact .inl (Option.some.inj h).symm
  | some a =>
    simp only [Search.solved, hbest] at h
    split at h
    · exact .inl (Option.some.inj h).symm
    · exact .inr h

/-- A branch that is taken or cut leaves a sound search in both cases. -/
theorem Search.Sound.branch {c : Prop} [Decidable c] {z w : Search} (hz : z.Sound P cells) (hw : w.Sound P cells) :
    (if c then w else z).Sound P cells := by
  split
  · exact hw
  · exact hz

/-- A visit finds repairs only (R219, R220). -/
theorem Search.Sound.visit {budget k : Nat} {x : Node} {z : Search} (hx : x.Accounts cells) (hz : z.Sound P cells) :
    (visit P budget k x z).Sound P cells := by
  induction k generalizing x z with
  | zero => exact hz
  | succ k ih =>
    have hy : (x.rounds P (P.sr + P.sc + 1)).1.Accounts cells := hx.rounds _
    simp only [Machine.visit]
    generalize (x.rounds P (P.sr + P.sc + 1)).1 = y at hy
    split
    · exact hz
    split
    · exact hz
    split
    · exact hz
    next hspare =>
      have hspare : y.beyond P = none := by simpa using hspare
      split
      next hdone =>
        intro b hb
        rcases Search.best_solved hb with rfl | hkept
        · exact hy.repairs hspare hdone
        · exact hz b hkept
      next e es hcells =>
        refine Search.Sound.branch ?_ (ih (hy.assign [] _) ?_)
        all_goals exact Search.Sound.branch hz (ih (hy.assign [e.1] []) hz)

/-- A REPAIRABLE verdict gives a repair: the forced lines alone where no cell remains, else the best solution of the search. -/
theorem repairs_of_solve {budget : Nat} {v : Verdict} (hv : v = solve P budget cells) (hcls : v.cls = classREPAIRABLE) :
    P.Repairs cells v.rows v.cols := by
  have hx := (Node.accounts_start cells).rounds (P := P) (P.sr + P.sc + 1)
  simp only [solve] at hv
  generalize (Node.rounds P (P.sr + P.sc + 1) ⟨cells, [], []⟩).1 = x at hv hx
  split at hv
  next => subst hv; exact absurd hcls (show classUNREPAIRABLE ≠ classREPAIRABLE by decide)
  next hspare =>
    split at hv
    next hdone => subst hv; exact hx.repairs hspare (List.isEmpty_iff.1 hdone)
    next =>
      have hz : (visit P budget (P.sr + P.sc + 1) x {}).Sound P cells :=
        Search.Sound.visit hx fun b hb => absurd hb.symm (Option.some_ne_none b)
      split at hv
      next b hbest => subst hv; exact hz b hbest
      next =>
        split at hv
        · subst hv; exact absurd hcls (show classUNDECIDED ≠ classREPAIRABLE by decide)
        · subst hv; exact absurd hcls (show classUNREPAIRABLE ≠ classREPAIRABLE by decide)

end Repair

/-- Settles O31: each node of the search accounts for every failing cell, so that a node on which no cell remains gives a repair. -/
theorem repairCovers : Obligations.RepairCovers := fun _ _ _ _ hv hcls => repairs_of_solve hv hcls

/-! ## Controls of a site's capture (R184, R190, R191, R204, R205) -/

/-- A field that a list does not name keeps its value. -/
theorem fieldAfter_of_notMem {old k : Nat} {l : List (Nat × Nat)} (h : k ∉ l.map Prod.fst) : fieldAfter old k l = old := by
  induction l with
  | nil => rfl
  | cons e l ih =>
    obtain ⟨hne, hrest⟩ := not_or.1 (fun hor => h (List.mem_cons.2 hor))
    rw [fieldAfter, if_neg hne, ih hrest]

/-- A field that a list of zeros names is zero. -/
theorem fieldAfter_of_zeros {old k : Nat} {l : List (Nat × Nat)} (hmem : k ∈ l.map Prod.fst) (hzero : ∀ e ∈ l, e.2 = 0) :
    fieldAfter old k l = 0 := by
  induction l with
  | nil => exact absurd hmem List.not_mem_nil
  | cons e l ih =>
    rw [fieldAfter]
    split
    · exact hzero e List.mem_cons_self
    next hne => exact ih ((List.mem_cons.1 hmem).resolve_left hne) fun e he => hzero e (List.mem_cons_of_mem _ he)

/-- A field that a list of distinct fields names has the value of its entry. -/
theorem fieldAfter_of_mem {old k v : Nat} {l : List (Nat × Nat)} (hnodup : (l.map Prod.fst).Nodup) (hmem : (k, v) ∈ l) :
    fieldAfter old k l = v := by
  induction l with
  | nil => exact absurd hmem List.not_mem_nil
  | cons e l ih =>
    obtain ⟨hne, hnodup⟩ := List.nodup_cons.1 hnodup
    rcases List.mem_cons.1 hmem with rfl | hmem
    · exact if_pos rfl
    · have hk : k ≠ e.1 := fun hk => hne (List.mem_map.2 ⟨(k, v), hmem, hk⟩)
      rw [fieldAfter, if_neg hk, ih hnodup hmem]

section FailControls
variable {s : State}

/-- The fields of `fs` at `b`, each with zero. -/
def zeroFields (b : Nat) (fs : List Fld) : List (Nat × Nat) := fs.map fun f => f.is b 0

theorem snd_of_mem_zeroFields {b : Nat} {fs : List Fld} {e : Nat × Nat} (h : e ∈ zeroFields b fs) : e.2 = 0 := by
  obtain ⟨f, _, rfl⟩ := List.mem_map.1 h
  exact Nat.zero_mod _

theorem key_mem_zeroFields {b : Nat} {fs : List Fld} {f : Fld} (h : f ∈ fs) : f.key b ∈ (zeroFields b fs).map Prod.fst :=
  List.mem_map_of_mem (List.mem_map_of_mem h)

/-- A counter in two registers is cleared in both. -/
theorem State.wr2_zero (s : State) (b : Nat) (lo hi : Fld) : s.wr2 b lo hi 0 = s.wrs (zeroFields b [hi, lo]) := by
  rw [State.wr2, Nat.zero_div, Nat.zero_div, Nat.zero_mod]; rfl

/-- Clearing field by field writes zero to all. -/
theorem State.each_wr_zero (s : State) (b : Nat) (fs : List Fld) :
    (s.each fs fun f s => s.wr b f 0) = s.wrs (zeroFields b fs.reverse) := by
  rw [zeroFields, List.map_eq_flatMap]
  exact s.each_wrs fs fun f => [f.is b 0]

/-- The counters of a site's partition that CCLR clears (R184). -/
def siteCounters : List Fld :=
  [FS_TOTAL_LO.V, FS_TOTAL_HI.V, FS_DROPPED_LO.V, FS_DROPPED_HI.V, FS_PURGED.V, FS_COARSE_ENT.V, FS_COARSE_ROWS.V, FS_UNMAPPED.V,
   FS_TAGPOIS.V, FS_PURGED_LINES.V]

theorem State.zero_siteCounters (s : State) (b : Nat) :
    ((s.wr2 b FS_TOTAL_LO.V FS_TOTAL_HI.V 0).wr2 b FS_DROPPED_LO.V FS_DROPPED_HI.V 0).each
      [FS_PURGED.V, FS_COARSE_ENT.V, FS_COARSE_ROWS.V, FS_UNMAPPED.V, FS_TAGPOIS.V, FS_PURGED_LINES.V] (fun f s => s.wr b f 0) =
      s.wrs (zeroFields b siteCounters.reverse) := by
  rw [State.wr2_zero, State.wr2_zero, State.each_wr_zero, State.wrs_wrs, State.wrs_wrs]
  rfl

/-- The counters of the channels in a list, all zero (R183, R184). -/
def zeroChannels (d : Nat) (is : List Nat) : List (Nat × Nat) :=
  is.reverse.flatMap fun i => zeroFields (fcuB d + i * 8) [FC_HI.V, FC_LO.V]

theorem snd_of_mem_zeroChannels {d : Nat} {is : List Nat} {e : Nat × Nat} (h : e ∈ zeroChannels d is) : e.2 = 0 := by
  obtain ⟨i, _, hi⟩ := List.mem_flatMap.1 h
  exact snd_of_mem_zeroFields hi

theorem key_mem_zeroChannels {d i : Nat} {is : List Nat} {f : Fld} (hi : i ∈ is) (hf : f ∈ [FC_HI.V, FC_LO.V]) :
    f.key (fcuB d + i * 8) ∈ (zeroChannels d is).map Prod.fst := by
  obtain ⟨e, he, hkey⟩ := List.mem_map.1 (key_mem_zeroFields (b := fcuB d + i * 8) hf)
  exact List.mem_map.2 ⟨e, List.mem_flatMap.2 ⟨i, List.mem_reverse.2 hi, he⟩, hkey⟩

/-- Clearing channel by channel writes zero to the counters of all. -/
theorem State.each_wr2_zero (s : State) (d : Nat) (is : List Nat) :
    (s.each is fun i s => s.wr2 (fcuB d + i * 8) FC_LO.V FC_HI.V 0) = s.wrs (zeroChannels d is) := by
  simp only [State.wr2_zero]
  exact s.each_wrs is _

/-- A site's counters and the site of a channel are fields of different registers. -/
theorem pinSite_key_notMem (d : Fin 4) (st : Fin 16) (ch : Nat) :
    (pinSiteFld (ch % 32)).key (tcbB (ch / 32)) ∉ (zeroFields (fsB d st) siteCounters.reverse).map Prod.fst := by
  intro h
  simp only [zeroFields, siteCounters, List.reverse_cons, List.reverse_nil, List.nil_append, List.cons_append, List.map_cons,
    List.map_nil, List.mem_cons, List.not_mem_nil, or_false, Fld.is, Fld.key, pinSiteFld, tcbB, fsB, fcuB, regBase, FS_TOTAL_LO.V,
    FS_TOTAL_HI.V, FS_DROPPED_LO.V, FS_DROPPED_HI.V, FS_PURGED.V, FS_COARSE_ENT.V, FS_COARSE_ROWS.V, FS_UNMAPPED.V, FS_TAGPOIS.V,
    FS_PURGED_LINES.V] at h
  omega

/-- CCLR clears the site's counters, then those of its channels (R184). -/
theorem State.fsClear_eq (s : State) (d : Fin 4) (st : Fin 16) : s.fsClear d st =
    s.wrs (zeroChannels d ((List.range 576).filter fun i => s.chanSite (d * 576 + i) == st) ++
      zeroFields (fsB d st) siteCounters.reverse) := by
  have hsite : ∀ ch, (s.wrs (zeroFields (fsB d st) siteCounters.reverse)).chanSite ch = s.chanSite ch := fun ch => by
    rw [State.chanSite, State.rd_wrs, fieldAfter_of_notMem (pinSite_key_notMem d st ch), State.chanSite]
  rw [State.fsClear, State.each_wr2_zero, State.zero_siteCounters, ← State.wrs_wrs]
  simp only [hsite]

theorem State.rd_fsClear_site {d : Fin 4} {st : Fin 16} {f : Fld} (h : f ∈ siteCounters) : (s.fsClear d st).rd (fsB d st) f = 0 := by
  rw [State.fsClear_eq, State.rd_wrs]
  refine fieldAfter_of_zeros ?_ fun e he => (List.mem_append.1 he).elim snd_of_mem_zeroChannels snd_of_mem_zeroFields
  rw [List.map_append]
  exact List.mem_append_right _ (key_mem_zeroFields (List.mem_reverse.2 h))

theorem State.rd_fsClear_chan {d : Fin 4} {st : Fin 16} {i : Nat} {f : Fld} (hi : i < 576) (hsite : s.chanSite (d * 576 + i) = st)
    (hf : f ∈ [FC_HI.V, FC_LO.V]) : (s.fsClear d st).rd (fcuB d + i * 8) f = 0 := by
  rw [State.fsClear_eq, State.rd_wrs]
  refine fieldAfter_of_zeros ?_ fun e he => (List.mem_append.1 he).elim snd_of_mem_zeroChannels snd_of_mem_zeroFields
  rw [List.map_append]
  exact List.mem_append_left _ (key_mem_zeroChannels (List.mem_filter.2 ⟨List.mem_range.2 hi, beq_iff_eq.2 hsite⟩) hf)

/-! ### FLUSH, FACK and FRESET -/

theorem State.fsFlush_of_pending {d st : Nat} (h : s.rd (fsB d st) FS_FLUSH_RES.STATUS = 1) : s.fsFlush d st = s := if_pos h

theorem State.fsFlush_of_unacknowledged {d st : Nat} (hidle : s.rd (fsB d st) FS_FLUSH_RES.STATUS ≠ 1)
    (hackd : s.on (fsB d st) FS_FLUSH_RES.ACKD = false) : s.fsFlush d st = s.wr (fsB d st) FS_STAT.CMD_REJ 1 := by
  rw [State.fsFlush, if_neg hidle, if_pos (by rw [hackd]; rfl)]

/-- A flush takes the next number and its place in the site's stream (R204). -/
theorem State.fsFlush_of_ready {d st : Nat} (hidle : s.rd (fsB d st) FS_FLUSH_RES.STATUS ≠ 1)
    (hackd : s.on (fsB d st) FS_FLUSH_RES.ACKD = true) : s.fsFlush d st =
      ((s.setFsx (d * 16 + st) { s.fsx (d * 16 + st) with flushAhead := true }).setFcu d
        { s.fcu d with intake := (s.fcu d).intake ++ [{ kind := .flush, site := st }] }).wrs
      [FS_FLUSH_RES.ACKD.is (fsB d st) 0, FS_FLUSH_RES.VALID.is (fsB d st) 0, FS_FLUSH_RES.STATUS.is (fsB d st) 1,
       FS_FLUSH_RES.SEQ.is (fsB d st) (s.rd (fsB d st) FS_FLUSH_RES.SEQ + 1)] := by
  rw [State.fsFlush, if_neg hidle, if_neg (by rw [hackd]; exact Bool.false_ne_true)]
  rfl

theorem State.fsFack_of_valid {d st : Nat} (h : s.on (fsB d st) FS_FLUSH_RES.VALID = true) :
    s.fsFack d st = s.wr (fsB d st) FS_FLUSH_RES.ACKD 1 := if_pos h
theorem State.fsFack_of_none {d st : Nat} (h : s.on (fsB d st) FS_FLUSH_RES.VALID = false) : s.fsFack d st = s :=
  if_neg (ne_true_of_eq_false h)

/-! ### BMCLR, FS_RDPTR and FCU_CCLR -/

theorem State.fsBmclr_of_busy {d st : Nat}
    (h : (s.siteRunning st || s.fcuHolds d st || s.fcuLines d st || s.rd (fsB d st) FS_FLUSH_RES.STATUS == 1) = true) :
    s.fsBmclr d st = s.wr (fsB d st) FS_STAT.CMD_REJ 1 := if_pos h

/-- BMCLR clears the site's block flags and its coarse status (R205). -/
theorem State.fsBmclr_of_idle {d st : Nat}
    (h : (s.siteRunning st || s.fcuHolds d st || s.fcuLines d st || s.rd (fsB d st) FS_FLUSH_RES.STATUS == 1) = false) :
    s.fsBmclr d st = (s.setFcu d { s.fcu d with flags := (s.fcu d).flags.filter fun f => f.1 != st }).wrs
      [FS_STAT.BMINVAL.is (fsB d st) 0, FS_STAT.TAGLOSS.is (fsB d st) 0, FS_STAT.BLKCOARSE.is (fsB d st) 0,
       FS_STAT.COARSENED.is (fsB d st) 0] := if_neg (ne_true_of_eq_false h)

theorem State.fsRdptr_of_outside {d st : Nat} {v : Word}
    (h : 2 ^ s.rd (fsB d st) FS_RSIZE.LOG2 < seqDiff 32 (s.rd (fsB d st) FS_WRPTR.WR) v.toNat) :
    s.fsRdptr d st v = s.wr (fcuB d) BLK_STAT.RSVW 1 := if_pos h

/-- RING_FULL follows a read pointer within the ring (R191). -/
theorem State.fsRdptr_of_inside {d st : Nat} {v : Word}
    (h : seqDiff 32 (s.rd (fsB d st) FS_WRPTR.WR) v.toNat ≤ 2 ^ s.rd (fsB d st) FS_RSIZE.LOG2) :
    s.fsRdptr d st v = s.wrs [FS_STAT.RING_FULL.is (fsB d st) (decide (2 ^ s.rd (fsB d st) FS_RSIZE.LOG2 ≤
      seqDiff 32 (s.rd (fsB d st) FS_WRPTR.WR) v.toNat)).toNat, FS_RDPTR.RD.is (fsB d st) v.toNat] := by
  have hsize : FS_RSIZE.LOG2.key (fsB d st) ≠ FS_RDPTR.RD.key (fsB d st) := by
    simp only [Fld.key, FS_RSIZE.LOG2, FS_RDPTR.RD]; omega
  have hwrite : FS_WRPTR.WR.key (fsB d st) ≠ FS_RDPTR.RD.key (fsB d st) := by
    simp only [Fld.key, FS_WRPTR.WR, FS_RDPTR.RD]; omega
  have hword : v.toNat % 2 ^ FS_RDPTR.RD.width = v.toNat := Nat.mod_eq_of_lt v.isLt
  rw [State.fsRdptr, if_neg (Nat.not_lt.2 h), State.ringFull, State.rd_wr_ne _ hsize, State.rd_wr_ne _ hwrite, State.rd_wr_self, hword]
  rfl

/-- IDX clears the two halves of one channel's counter. -/
theorem State.fcuCclr_of_index (s : State) (d : Nat) {i : Nat} (hi : i < 576) : s.fcuCclr d (BitVec.ofNat 32 i) =
    s.wrs [FC_HI.V.is (fcuB d + i * 8) 0, FC_LO.V.is (fcuB d + i * 8) 0] := by
  have hval : (BitVec.ofNat 32 i).toNat = i := by rw [BitVec.toNat_ofNat]; omega
  have hreserved : i &&& (2 ^ 32 - 1 - (2 ^ 31 + 0x3FF)) = 0 := and_two_pow_mul_eq_zero (2 ^ 21 - 1) (k := 10) (by omega)
  have hone : bitAt i 31 = false := by rw [bitAt, Nat.div_eq_of_lt (by omega)]; rfl
  have hpick : (List.range 576).filter (· == i % 1024) = [i] := by
    rw [Nat.mod_eq_of_lt (by omega), List.filter_beq, List.count_range]
    simp [hi]
  rw [State.fcuCclr, hval, State.rsvBits_of_and_eq_zero hreserved]
  simp only [hone, Bool.false_eq_true, if_false, hpick, State.each_wr2_zero]
  rfl

/-- ALL clears the counter of every channel. -/
theorem State.rd_fcuCclr_of_all {d : Nat} {v : Word} {i : Nat} {f : Fld} (hall : bitAt v.toNat 31 = true) (hi : i < 576)
    (hf : f ∈ [FC_HI.V, FC_LO.V]) : (s.fcuCclr d v).rd (fcuB d + i * 8) f = 0 := by
  rw [State.fcuCclr]
  simp only [hall, if_true, State.each_wr2_zero]
  rw [State.rd_wrs]
  exact fieldAfter_of_zeros (key_mem_zeroChannels (List.mem_range.2 hi) hf) fun e he => snd_of_mem_zeroChannels he
end FailControls

/-- Settles O29, command by command. -/
theorem failControls : Obligations.FailControls := by
  intro s d st
  refine ⟨fun hans => ?silent, fun hans => ?answers⟩
  case silent =>
    have hdrop : ∀ f, (.next (s.atBlock .fcu d 0 f) : Out) = .next s := fun f => congrArg _ (State.atBlock_of_not_answers hans f)
    exact ⟨hdrop _, hdrop _, hdrop _, hdrop _, hdrop _, fun _ => hdrop _, fun _ => hdrop _⟩
  case answers =>
    have hact : ∀ f, (.next (s.atBlock .fcu d 0 f) : Out) = .next (f s) := fun f => congrArg _ (State.atBlock_of_answers hans f)
    have hflush : exec (.fsFlush d st) s = .next (s.fsFlush d st) := hact _
    have hfack : exec (.fsFack d st) s = .next (s.fsFack d st) := hact _
    have hbmclr : exec (.fsBmclr d st) s = .next (s.fsBmclr d st) := hact _
    have hrdptr : ∀ v, exec (.fsRdptrWrite d st v) s = .next (s.fsRdptr d st v) := fun v => hact _
    have hcclr : ∀ v, exec (.fcuCclr d v) s = .next (s.fcuCclr d v) := fun v => hact _
    refine ⟨?merged, ?unacked, ?flush, ?acked, ?none, ?freset, ?cclr, ?refused, ?cleared, ?outside, ?inside, ?one, ?all⟩
    case merged => intro h; rw [hflush, State.fsFlush_of_pending h]
    case unacked => intro hidle h; exact gives_of_exec (by rw [hflush, State.fsFlush_of_unacknowledged hidle h]; rfl) rfl
    case flush => intro hidle h; exact gives_of_exec (by rw [hflush, State.fsFlush_of_ready hidle h]) rfl
    case acked => intro h; exact gives_of_exec (by rw [hfack, State.fsFack_of_valid h]; rfl) rfl
    case none => intro h; rw [hfack, State.fsFack_of_none h]
    case freset => exact gives_of_exec ((hact _).trans rfl) rfl
    case cclr =>
      refine ⟨_, hact _, fun f hf => State.rd_fsClear_site hf, fun i hi hsite => ?_⟩
      exact ⟨State.rd_fsClear_chan hi hsite (by simp), State.rd_fsClear_chan hi hsite (by simp)⟩
    case refused => intro h; exact gives_of_exec (by rw [hbmclr, State.fsBmclr_of_busy h]; rfl) rfl
    case cleared => intro h; exact gives_of_exec (by rw [hbmclr, State.fsBmclr_of_idle h]) rfl
    case outside => intro v h; exact gives_of_exec (by rw [hrdptr, State.fsRdptr_of_outside h]; rfl) rfl
    case inside => intro v h; exact gives_of_exec (by rw [hrdptr, State.fsRdptr_of_inside h]) rfl
    case one => intro i; exact gives_of_exec (by rw [hcclr, State.fcuCclr_of_index s d i.isLt]) rfl
    case all =>
      intro v h
      exact ⟨_, hcclr v, fun i hi => ⟨State.rd_fcuCclr_of_all h hi (by simp), State.rd_fcuCclr_of_all h hi (by simp)⟩⟩

/-! ## Repair jobs (R209, R211 to R216, R221 to R223) -/

section RepairJobs
variable {s : State} {r n : Nat}

/-! ### RJ_CTL -/

theorem State.rjGo_of_refused {st : Nat}
    (h : s.slotClass r n = classPENDING ∨ s.on (rjB r n) RJ_RES.ACKD = false ∨ s.siteState st ≠ siteACTIVE) :
    s.rjGo r n st = s.wr (raeB r) RAE_STAT.REJ 1 := if_pos (by rwa [Bool.not_eq_true'])

/-- A new job takes the next number and joins the queue; its number and class go into the descriptor (R209). -/
theorem State.rjGo_of_ready {st : Nat} {u v : State} (hclass : s.slotClass r n ≠ classPENDING) (hackd : s.on (rjB r n) RJ_RES.ACKD = true)
    (hsite : s.siteState st = siteACTIVE)
    (hu : u = ((((s.seqUp (rjB r n) RJ_RES.SEQ).wr (rjB r n) RJ_RES.CLASS classPENDING).wr (rjB r n) RJ_RES.VALID 0).wr (rjB r n)
      RJ_RES.ACKD 0).wr (rjB r n) RJ_RES.SITE st)
    (hv : v = u.setRae r { u.rae r with queue := (u.rae r).queue ++ [n] }) : s.rjGo r n st =
    (v.storeBytes (v.raeWho r n) (v.slotAddr r n + 0x68) (leBytes 2 (v.rd (rjB r n) RJ_RES.SEQ) ++ leBytes 1 classPENDING)
      false).2.raeStat r := by
  rw [State.rjGo, if_neg, hv, hu]
  rintro (h | h | h)
  · exact hclass h
  · rw [hackd] at h; exact Bool.false_ne_true h
  · exact h hsite

theorem State.rjCancel_of_pending (h : s.slotClass r n = classPENDING) :
    s.rjCancel r n = s.raeResult r n classCANCELLED 0 false false 0 0 0 := if_pos h
theorem State.rjCancel_of_ended (h : s.slotClass r n ≠ classPENDING) : s.rjCancel r n = s := if_neg h

theorem State.rjAck_of_valid (h : s.on (rjB r n) RJ_RES.VALID = true) : s.rjAck r n = s.wr (rjB r n) RJ_RES.ACKD 1 := if_pos h
theorem State.rjAck_of_none (h : s.on (rjB r n) RJ_RES.VALID = false) : s.rjAck r n = s := if_neg (ne_true_of_eq_false h)

/-! ### What a result leaves (R213) -/

/-- The fields of a slot's result registers. -/
def resultFields (r n cls sub : Nat) (coarse optimal : Bool) (nodes rused cused : Nat) : List (Nat × Nat) :=
  [RJ_RES.VALID.is (rjB r n) 1, RJ_INFO.CUSED.is (rjB r n) cused, RJ_INFO.RUSED.is (rjB r n) rused, RJ_NODES.V.is (rjB r n) nodes,
   RJ_RES.OPTIMAL.is (rjB r n) optimal.toNat, RJ_RES.COARSE.is (rjB r n) coarse.toNat, RJ_RES.SUB.is (rjB r n) sub,
   RJ_RES.CLASS.is (rjB r n) cls]

/-- RAE_STAT follows the queue; a field of another register keeps its value. -/
theorem State.rd_raeStat {b : Nat} {f : Fld} (hreg : b + f.off ≠ raeB r + 0x10) (hlsb : f.lsb < 32) :
    (s.raeStat r).rd b f = s.rd b f := by
  have hne : ∀ g : Fld, g.off = 0x10 → g.lsb < 32 → f.key b ≠ g.key (raeB r) := fun g hoff hg => by
    simp only [Fld.key, hoff]; omega
  rw [State.raeStat, State.rd_wr_ne _ (hne RAE_STAT.QUEUED rfl (by decide)), State.rd_wr_ne _ (hne RAE_STAT.RUNSLOT rfl (by decide)),
    State.wrb, State.rd_wr_ne _ (hne RAE_STAT.BUSY rfl (by decide))]

theorem State.rd_raeLeave (s : State) (r n b : Nat) (f : Fld) : (s.raeLeave r n).rd b f = s.rd b f := rfl

theorem State.run_raeLeave (s : State) (r n : Nat) : ((s.raeLeave r n).rae r).run ≠ some n := by
  rw [State.raeLeave, State.rae_setRae_self]
  split
  · exact (Option.some_ne_none n).symm
  next hrun => exact hrun

/-- A result writes the slot's fields, counts the job as ended, and takes it from the queue or the engine. -/
theorem State.raeResult_eq (s : State) (r n cls sub : Nat) (coarse optimal : Bool) (nodes rused cused : Nat) :
    s.raeResult r n cls sub coarse optimal nodes rused cused =
      (((s.wrs (resultFields r n cls sub coarse optimal nodes rused cused)).count (raeB r) RAE_CNT_JOBS.V).raeLeave r n).raeStat r := by
  simp only [State.raeResult, State.wrb, State.wr_eq_wrs, State.wrs_wrs, List.cons_append, List.nil_append, resultFields]

theorem State.rae_raeStat (s : State) (r i : Nat) : (s.raeStat r).rae i = s.rae i := rfl

/-- A field of another register than RAE_STAT reads after a result what the slot's fields and the count give it. -/
theorem State.rd_raeResult {cls sub nodes rused cused b : Nat} {coarse optimal : Bool} {f : Fld} (hreg : b + f.off ≠ raeB r + 0x10)
    (hlsb : f.lsb < 32) : (s.raeResult r n cls sub coarse optimal nodes rused cused).rd b f =
      ((s.wrs (resultFields r n cls sub coarse optimal nodes rused cused)).count (raeB r) RAE_CNT_JOBS.V).rd b f := by
  rw [State.raeResult_eq, State.rd_raeStat hreg hlsb, State.rd_raeLeave]

/-- A slot's field is none of the count. -/
theorem rj_key_ne {f : Fld} (hoff : 0x100 ≤ f.off) (hlsb : f.lsb < 32) : f.key (rjB r n) ≠ RAE_CNT_JOBS.V.key (raeB r) := by
  simp only [Fld.key, rjB, RAE_CNT_JOBS.V]; omega

theorem nodup_resultFields (r n cls sub : Nat) (coarse optimal : Bool) (nodes rused cused : Nat) :
    ((resultFields r n cls sub coarse optimal nodes rused cused).map Prod.fst).Nodup :=
  nodup_keys (fs := [RJ_RES.VALID, RJ_INFO.CUSED, RJ_INFO.RUSED, RJ_NODES.V, RJ_RES.OPTIMAL, RJ_RES.COARSE, RJ_RES.SUB, RJ_RES.CLASS])
    (by decide) (rjB r n)

/-- A field of the slot's result registers reads what the result writes to it. -/
theorem State.rd_raeResult_slot {cls sub nodes rused cused v : Nat} {coarse optimal : Bool} {f : Fld} (hoff : 0x100 ≤ f.off)
    (hlsb : f.lsb < 32) (hmem : f.is (rjB r n) v ∈ resultFields r n cls sub coarse optimal nodes rused cused) :
    (s.raeResult r n cls sub coarse optimal nodes rused cused).rd (rjB r n) f = v % 2 ^ f.width := by
  rw [State.rd_raeResult (by simp only [rjB]; omega) hlsb, State.rd_count_ne _ _ (rj_key_ne hoff hlsb), State.rd_wrs,
    fieldAfter_of_mem (nodup_resultFields ..) hmem]

theorem State.rd_raeResult_jobs (cls sub nodes rused cused : Nat) (coarse optimal : Bool) :
    (s.raeResult r n cls sub coarse optimal nodes rused cused).rd (raeB r) RAE_CNT_JOBS.V =
      satAdd RAE_CNT_JOBS.V.width (s.rd (raeB r) RAE_CNT_JOBS.V) 1 := by
  have hslot : RAE_CNT_JOBS.V.key (raeB r) ∉
      (resultFields r n cls sub coarse optimal nodes rused cused).map Prod.fst := by
    simp only [resultFields, List.map_cons, List.map_nil, List.mem_cons, List.not_mem_nil, or_false, Fld.is, not_or]
    refine ⟨?_, ?_, ?_, ?_, ?_, ?_, ?_, ?_⟩ <;> exact (rj_key_ne (by decide) (by decide)).symm
  rw [State.rd_raeResult (by simp only [RAE_CNT_JOBS.V]; omega) (by decide), State.rd_count_self, State.rd_wrs,
    fieldAfter_of_notMem hslot]

/-! ### The start of a job (R209, R211, R212) -/

/-- What the first job that does not wait comes to, by what its start meets. -/
def State.jobBegins (t : State) (r m site : Nat) : Start → State
  | .outside => t.raeResult r m classREJECTED 5 false false 0 0 0
  | .refused => t.raeError r m 1
  | .poison => (t.raise (r / 2) 59 (some site) (r % 2)).raeError r m 0
  | .aborted => t.raeError r m 2
  | .waits => t
  | .reads desc =>
    match t.descReject site desc with
    | some sub => t.raeReject r m sub
    | none => (t.setRae r { t.rae r with queue := (t.rae r).queue.filter (· != m), run := some m, desc := desc }).raeStat r

theorem exec_raeJobStart_of_running {r : Fin 8} (h : (s.rae r).run.isSome = true) : exec (.raeJobStart r) s = .next s :=
  congrArg _ (if_pos h)

theorem exec_raeJobStart_of_waiting {r : Fin 8} (hidle : (s.rae r).run = none)
    (h : ((s.rae r).queue.find? fun n => decide ((s.startOf r n).1 ≠ .waits)) = none) : exec (.raeJobStart r) s = .next s := by
  have hexec : exec (.raeJobStart r) s = execRaeJobStart r s := rfl
  rw [hexec, execRaeJobStart, if_neg (by rw [hidle]; exact Bool.false_ne_true), h]

theorem exec_raeJobStart_of_first {r : Fin 8} {m : Nat} {x : Start} {t : State} (hidle : (s.rae r).run = none)
    (hfirst : ((s.rae r).queue.find? fun n => decide ((s.startOf r n).1 ≠ .waits)) = some m) (hstart : s.startOf r m = (x, t)) :
    exec (.raeJobStart r) s = .next (t.jobBegins r m (s.slotSite r m) x) := by
  have hexec : exec (.raeJobStart r) s = execRaeJobStart r s := rfl
  rw [hexec, execRaeJobStart, if_neg (by rw [hidle]; exact Bool.false_ne_true), hfirst]
  dsimp only
  rw [hstart]
  cases x <;> rfl

/-! ### The end of a job (R213, R221, R222) -/

theorem State.raeFinish_of_idle (h : (s.rae r).run = none) (exhausted : Bool) : s.raeFinish r exhausted = s := by
  rw [State.raeFinish, h]

section Finish
variable {m : Nat} {desc : List Byte} {inp : RaeIn} {t : State} {v : Verdict} {exhausted : Bool}
  (hrun : (s.rae r).run = some m) (hdesc : desc = (s.rae r).desc) (hinp : s.raeInput r m desc = (inp, t))
  (hv : v = solve ⟨leAt desc 0x14 1, leAt desc 0x15 1, leAt desc 0x10 4, bitAt (leAt desc 0x06 2) 1⟩
    (if leAt desc 0x18 4 = 0 then 2 ^ 32 else leAt desc 0x18 4) inp.rows)
include hrun hdesc hinp hv

/-- The end of the other kind leaves the job running. -/
theorem State.raeFinish_of_other (hout : v.out ≠ exhausted) : s.raeFinish r exhausted = s := by
  rw [State.raeFinish, hrun]
  dsimp only
  rw [← hdesc, hinp, ← hv, if_pos hout]

/-- A refused access to the input ends the job ERROR (R214). -/
theorem State.raeFinish_of_error (hout : v.out = exhausted) (herr : inp.err = true) : s.raeFinish r exhausted = t.raeError r m 1 := by
  rw [State.raeFinish, hrun]
  dsimp only
  rw [← hdesc, hinp, ← hv, if_neg (not_not_intro hout), if_pos herr]

/-- The verdict is written to the lines and the results of the descriptor, then to the slot; a refused access ends the job ERROR. -/
theorem State.raeFinish_of_verdict {u w z : State} {cls sub : Nat} {lines : List Byte} {e : Option Rsp} {ok : Bool}
    (hout : v.out = exhausted) (herr : inp.err = false)
    (hu : u = t.each (List.range v.rescans) fun _ t => (t.raeInput r m desc).2)
    (hcls : cls = if inp.coarse ∧ (v.cls = classREPAIRABLE ∨ v.cls = classUNREPAIRABLE) then classCOARSE else v.cls)
    (hsub : sub = if inp.coarse ∧ v.cls = classUNREPAIRABLE then v.sub + 1 else v.sub)
    (hlines : lines = (sortedLines (leAt desc 0x0C 4) v.rows ++ sortedLines (leAt desc 0x10 4) v.cols).flatMap (leBytes 2))
    (hstore : (if v.cls = classREPAIRABLE then u.storeBytes (u.raeWho r m) (leAt desc 0x60 8)
      (if lines.length % 4 = 0 then lines else lines ++ [0, 0]) false else (none, u)) = (e, w))
    (hres : (if e.isSome then (false, w) else w.descResults r m cls sub (w.fit 32 v.nodes) (w.fit 16 v.rows.length)
      (w.fit 16 v.cols.length) (min ((inp.rows.map fun x => popBits (leAt desc 0x10 4) x.2).sum) (2 ^ 32 - 1)) (w.fit 16 v.mustr)
      (w.fit 16 v.mustc) (min inp.crows 65535)) = (ok, z)) : s.raeFinish r exhausted =
    (if ok then z.raeResult r m cls sub inp.coarse (v.optimal && cls == classREPAIRABLE) (w.fit 32 v.nodes) (z.fit 8 v.rows.length)
      (z.fit 8 v.cols.length) else z.raeError r m 1).drew := by
  rw [State.raeFinish, hrun]
  dsimp only
  rw [← hdesc, hinp, ← hv, if_neg (not_not_intro hout), if_neg (ne_true_of_eq_false herr)]
  dsimp only
  rw [← hu, ← hcls, ← hsub, ← hlines, hstore]
  dsimp only
  rw [hres]
  cases ok <;> rfl
end Finish
end RepairJobs

/-- Settles O30, command by command. -/
theorem repairJobs : Obligations.RepairJobs := by
  intro s r n st
  refine ⟨fun hans => ?silent, fun hans => ?answers, exec_raeJobStart_of_running,
    fun hidle => ⟨exec_raeJobStart_of_waiting hidle, fun m t hfirst => ?start⟩, fun hidle => ?idle, ?finish⟩
  case silent =>
    have hdrop : ∀ f, (.next (s.atBlock .rae (r / 2) (r % 2) f) : Out) = .next s :=
      fun f => congrArg _ (State.atBlock_of_not_answers hans f)
    exact ⟨hdrop _, hdrop _, hdrop _⟩
  case answers =>
    have hact : ∀ f, (.next (s.atBlock .rae (r / 2) (r % 2) f) : Out) = .next (f s) :=
      fun f => congrArg _ (State.atBlock_of_answers hans f)
    have hgo : exec (.rjGo r n st) s = .next (s.rjGo r n st) := hact _
    have hcancel : exec (.rjCancel r n) s = .next (s.rjCancel r n) := hact _
    have hack : exec (.rjAck r n) s = .next (s.rjAck r n) := hact _
    refine ⟨?refused, ?queued, ?cancelled, ?ended, ?acked, ?none⟩
    case refused => intro h; exact gives_of_exec (by rw [hgo, State.rjGo_of_refused h]; rfl) rfl
    case queued => intro hclass hackd hsite u v hu hv; rw [hgo, State.rjGo_of_ready hclass hackd hsite hu hv]
    case cancelled =>
      intro h
      rw [State.rjCancel_of_pending h] at hcancel
      refine ⟨_, hcancel, ?_, ?_, ?_, State.raeResult_frame.mem (by decide), ?_⟩
      · exact State.rd_raeResult_slot (by decide) (by decide) (v := classCANCELLED) (by simp [resultFields])
      · exact State.rd_raeResult_slot (by decide) (by decide) (v := 1) (by simp [resultFields])
      · exact State.rd_raeResult_jobs ..
      · rw [State.raeResult_eq, State.rae_raeStat]
        exact State.run_raeLeave _ _ _
    case ended => intro h; rw [hcancel, State.rjCancel_of_ended h]
    case acked => intro h; exact gives_of_exec (by rw [hack, State.rjAck_of_valid h]; rfl) rfl
    case none => intro h; rw [hack, State.rjAck_of_none h]
  case start =>
    have hexec : ∀ x, s.startOf r m = (x, t) → exec (.raeJobStart r) s = .next (t.jobBegins r m (s.slotSite r m) x) :=
      fun x hstart => exec_raeJobStart_of_first hidle hfirst hstart
    refine ⟨hexec _, hexec _, hexec _, hexec _, fun desc hstart => ⟨fun sub hreject => ?_, fun hgood => ?_⟩⟩
    · rw [hexec _ hstart, State.jobBegins, hreject]
    · rw [hexec _ hstart, State.jobBegins, hgood]
  case idle => exact ⟨congrArg _ (State.raeFinish_of_idle hidle false), congrArg _ (State.raeFinish_of_idle hidle true)⟩
  case finish =>
    intro m desc inp t v hrun hdesc hinp hv
    refine ⟨fun hout => ?_, fun hout => ?_, fun c hc hout => ?_⟩
    · exact congrArg _ (State.raeFinish_of_other hrun hdesc hinp hv (exhausted := false) (by rw [hout]; decide))
    · exact congrArg _ (State.raeFinish_of_other hrun hdesc hinp hv (exhausted := true) (by rw [hout]; decide))
    · have hexec : exec c.1 s = .next (s.raeFinish r c.2) := by
        rcases List.mem_cons.1 hc with rfl | hc
        · rfl
        · rw [List.mem_singleton.1 hc]; rfl
      rw [hexec]
      refine ⟨fun herr => congrArg _ (State.raeFinish_of_error hrun hdesc hinp hv hout herr), ?_⟩
      intro herr u cls sub lines e w ok z hu hcls hsub hlines hstore hres
      rw [State.raeFinish_of_verdict hrun hdesc hinp hv hout herr hu hcls hsub hlines hstore hres]
      exact ⟨fun hok => by rw [hok]; rfl, fun hok => by rw [hok]; rfl⟩

/-! ## A memory port at work (R202, R265 to R268, R430, R434 to R446) -/

section MemoryPorts
variable {s : State} {m : Fin 8}

/-! ### The port's queue (R434, R437, R438) -/

theorem exec_mpCommandIssue_of_none (h : s.preferred m = none) : exec (.mpCommandIssue m) s = .next s := by
  have hexec : exec (.mpCommandIssue m) s = execMpCommandIssue m s := rfl
  rw [hexec, execMpCommandIssue, h]

/-- The preferred request's command issues; a write that would start a 65th fill waits, with what its source has queued (R268, R434). -/
theorem exec_mpCommandIssue_of_some {i : Nat} {e : MpReq} (h : s.preferred m = some (i, e)) : exec (.mpCommandIssue m) s = .next (
    if isWrite e.req.op && s.fillBlocked m (e.pa / 64) then
      (s.count (mpB m) EG_FILLWAIT.V).setPort m { s.port m with
        queue := ((s.port m).queue.eraseIdx i).filter fun o => !sameSource o.req e.req
        waits := (s.port m).waits ++ e :: ((s.port m).queue.eraseIdx i).filter fun o => sameSource o.req e.req }
    else (s.setPort m { s.port m with queue := (s.port m).queue.eraseIdx i }).perform m e) := by
  have hexec : exec (.mpCommandIssue m) s = execMpCommandIssue m s := rfl
  rw [hexec, execMpCommandIssue, h]

/-- A fold that keeps its choice or takes the next element ends with an element of the list, or where it began. -/
theorem mem_of_foldl_pick {α : Type} {g : Option α → α → Option α} {l : List α} {b : Option α} {x : α} (h : l.foldl g b = some x)
    (hg : ∀ b c, g b c = b ∨ g b c = some c) : x ∈ l ∨ b = some x := by
  induction l generalizing b with
  | nil => exact .inr h
  | cons c l ih =>
    rcases ih h with hmem | hhead
    · exact .inl (List.mem_cons_of_mem c hmem)
    rcases hg b c with hkept | htaken
    · exact .inr (hkept ▸ hhead)
    · exact .inl (List.mem_cons.2 (.inl (Option.some.inj (hhead.symm.trans htaken))))

/-- The preferred entry stands at its place in the queue, and may issue (R434, R442, R443). -/
theorem State.preferred_mayIssue {m i : Nat} {e : MpReq} (h : s.preferred m = some (i, e)) :
    (s.port m).queue[i]? = some e ∧ s.mayIssue m ((s.port m).queue.take i) e = true := by
  have hmem := (mem_of_foldl_pick h fun b c => by
    cases b with
    | none => exact .inr rfl
    | some a =>
      dsimp only
      split
      · exact .inr rfl
      · exact .inl rfl).resolve_right (Option.some_ne_none _).symm
  obtain ⟨j, _, hj⟩ := List.mem_filterMap.1 hmem
  cases hget : (s.port m).queue[j]? with
  | none => rw [hget] at hj; exact absurd hj.symm (Option.some_ne_none _)
  | some a =>
    rw [hget] at hj
    dsimp only at hj
    split at hj
    next hissue =>
      obtain ⟨rfl, rfl⟩ := Prod.mk.inj (Option.some.inj hj)
      exact ⟨hget, hissue⟩
    next => exact absurd hj.symm (Option.some_ne_none _)

theorem exec_requestUrgencyRise_of_some {i : Nat} {e : MpReq} (h : (s.port m).queue[i]? = some e) : exec (.requestUrgencyRise m i) s =
    .next (s.setPort m { s.port m with queue := (s.port m).queue.set i { e with urg := max e.urg (s.ageUrgency m e) } }) := by
  have hexec : exec (.requestUrgencyRise m i) s = execRequestUrgencyRise m i s := rfl
  rw [hexec, execRequestUrgencyRise]
  dsimp only
  rw [h]

theorem exec_requestUrgencyRise_of_none {i : Nat} (h : (s.port m).queue[i]? = none) : exec (.requestUrgencyRise m i) s = .next s := by
  have hexec : exec (.requestUrgencyRise m i) s = execRequestUrgencyRise m i s := rfl
  rw [hexec, execRequestUrgencyRise]
  dsimp only
  rw [h]

/-- The ports see a group's panic output as it is now (R439). -/
theorem exec_panicChange (d : Fin 4) (g i : Fin 8) (s : State) : exec (.panicChange d g i) s = .next { s with
    panics := if s.panicOut d (g.val * 8 + i.val) then
        (d.val * 64 + (g.val * 8 + i.val)) :: s.panics.filter (· != d.val * 64 + (g.val * 8 + i.val))
      else s.panics.filter (· != d.val * 64 + (g.val * 8 + i.val)) } := rfl

/-- An entry is set in a list without repeating it, or taken out: it stands there as `b` says, and every other entry stays. -/
theorem mem_set_or_filter (l : List Nat) (b : Bool) (id k : Nat) :
    k ∈ (if b then id :: l.filter (· != id) else l.filter (· != id)) ↔ if k = id then b = true else k ∈ l := by
  by_cases hk : k = id
  · subst hk; cases b <;> simp
  · cases b <;> simp [hk]

theorem exec_fillSlotFree_of_nil (h : (s.port m).waits = []) : exec (.fillSlotFree m) s = .next s := by
  have hexec : exec (.fillSlotFree m) s = execFillSlotFree m s := rfl
  rw [hexec, execFillSlotFree]
  dsimp only
  rw [h]

/-- A free fill slot lets the oldest waiting write start, after what its source has queued before it (R268, R434). -/
theorem exec_fillSlotFree_of_cons {e : MpReq} {es : List MpReq} (h : (s.port m).waits = e :: es) : exec (.fillSlotFree m) s = .next (
    if s.filling m < 64 then
      (((s.setPort m { s.port m with queue := (s.port m).queue.filter fun o => !sameSource o.req e.req, waits := es }).each
        ((s.port m).queue.filter fun o => sameSource o.req e.req) fun o s => s.perform m o).perform m e).unblock m
    else s) := by
  have hexec : exec (.fillSlotFree m) s = execFillSlotFree m s := rfl
  rw [hexec, execFillSlotFree]
  dsimp only
  rw [h]

/-! ### Refresh (R441 to R445) -/

theorem State.port_refreshStat (s : State) (m i : Nat) : (s.refreshStat m).port i = s.port i := rfl

/-- One more for each key of a list without repetition. -/
theorem get_foldl_succ {l : List Nat} (hnodup : l.Nodup) (kv : KV Nat) (b : Nat) :
    KV.get 0 b (l.foldl (fun kv b => KV.set 0 b (KV.get 0 b kv + 1) kv) kv) = KV.get 0 b kv + if b ∈ l then 1 else 0 := by
  induction l generalizing kv with
  | nil => rfl
  | cons a l ih =>
    obtain ⟨ha, hnodup⟩ := List.nodup_cons.1 hnodup
    rw [List.foldl_cons, ih hnodup, KV.get_set]
    by_cases hb : b = a
    · subst hb; simp [ha]
    · simp [hb]

/-- A boundary first refreshes each rank of which a set owes four, then adds one to every debt (R441, R444). -/
theorem State.refreshDue_eq (s : State) (m : Nat) : ∃ f : Nat → State → State,
    (∀ r u, (∀ b ∈ s.bankSets m, u.debt m b < 4) → f r u = u) ∧ s.refreshDue m =
      ((s.each (List.range (s.ranks m)) f).setPort m { (s.each (List.range (s.ranks m)) f).port m with
        fast := ((s.each (List.range (s.ranks m)) f).port m).fastNext
        debts := (s.bankSets m).foldl (fun (kv : KV Nat) b => KV.set 0 b (KV.get 0 b kv + 1) kv)
          ((s.each (List.range (s.ranks m)) f).port m).debts }).refreshStat m := by
  refine ⟨_, fun r u hlow => if_neg (ne_true_of_eq_false (List.any_eq_false.2 fun b hb => ?_)), rfl⟩
  have := hlow b (List.mem_filter.1 hb).1
  simpa using this

/-- Without a set that owes four, a boundary adds one to the debt of each set (R441). -/
theorem State.debt_refreshDue {m b : Nat} (hlow : ∀ b ∈ s.bankSets m, s.debt m b < 4) (hb : b ∈ s.bankSets m) :
    (s.refreshDue m).debt m b = s.debt m b + 1 := by
  obtain ⟨f, hf, heq⟩ := s.refreshDue_eq m
  have hnodup : (s.bankSets m).Nodup := List.nodup_range
  rw [heq, State.each_fixed fun r _ => hf r s hlow, State.debt, State.port_refreshStat, State.port_setPort_self]
  dsimp only
  rw [get_foldl_succ hnodup, if_pos hb, State.debt]

theorem exec_trefiBoundary (m : Fin 8) (s : State) : exec (.trefiBoundary m) s =
    .next (if s.ready (m / 2) (rdyMP (m % 2)) then s.refreshDue m else s) := rfl

/-- The bank sets in catch-up after a REFsb of a set (R443). -/
def State.catchupAfter (s : State) (m set : Nat) : List Nat :=
  if s.debt m set - 1 = 0 then (s.port m).catchup.filter (· != set)
  else if s.setForced m set && !(s.port m).catchup.contains set then set :: (s.port m).catchup else (s.port m).catchup

/-- The port after a REFsb: the set's debt falls by one, and its banks are closed (R441 to R443). -/
def State.refreshed (s : State) (m set : Nat) : State :=
  (s.setPort m { s.port m with
    debts := KV.set 0 set (s.debt m set - 1) (s.port m).debts
    refAt := KV.set 0 set s.now (s.port m).refAt
    rows := (s.port m).rows.filter fun e => !(e.1 / 64 == set / 4 && e.1 % 64 / 16 == set % 4)
    catchup := s.catchupAfter m set
    forced := (s.port m).forced.filter (· != set) }).count (mpB m) MR_CNT_SB.V

/-- A set without debt, or one that is not forced and has an urgent request, is not refreshed (R442). -/
theorem State.refsb_of_held {m set : Nat} (h : s.debt m set = 0 ∨ (!s.setForced m set &&
    (s.port m).queue.any fun e => s.setNo m e.pa == set && decide (2 ≤ s.urgency m e)) = true) : s.refsb m set = s := if_pos h

/-- A set that owes a refresh and need not wait is refreshed, and counted as forced where it was (R441, R443). -/
theorem State.refsb_of_due {m set : Nat} (hdebt : s.debt m set ≠ 0) (hfree : s.setForced m set = true ∨
    ((s.port m).queue.any fun e => s.setNo m e.pa == set && decide (2 ≤ s.urgency m e)) = false) : s.refsb m set =
    (if s.setForced m set then (s.refreshed m set).count (mpB m) MR_CNT_FORCED.V else s.refreshed m set).refreshStat m := by
  refine if_neg ?_
  rintro (h | h)
  · exact hdebt h
  · obtain ⟨hforced, hurgent⟩ := Bool.and_eq_true_iff.1 h
    rcases hfree with hfree | hfree
    · rw [hfree] at hforced; exact Bool.false_ne_true hforced
    · exact ne_true_of_eq_false hfree hurgent

/-- What counts a refresh and shows the debts changes no port. -/
theorem State.port_of_refsb (u : State) (c : Bool) (m i : Nat) :
    ((if c then u.count (mpB m) MR_CNT_FORCED.V else u).refreshStat m).port i = u.port i := by
  rw [State.port_refreshStat]
  cases c <;> rfl

theorem State.rd_refreshStat_of_count (s : State) (m : Nat) : (s.refreshStat m).rd (mpB m) MR_CNT_SB.V = s.rd (mpB m) MR_CNT_SB.V := by
  have hne : ∀ f : Fld, f.off = 0x30 → f.lsb < 32 → MR_CNT_SB.V.key (mpB m) ≠ f.key (mpB m) := fun f hoff hlsb => by
    simp only [Fld.key, MR_CNT_SB.V, hoff]; omega
  rw [State.refreshStat, State.rd_wr_ne _ (hne _ rfl (by decide)), State.wrb, State.rd_wr_ne _ (hne _ rfl (by decide))]

theorem State.rd_sb_of_refsb (u : State) (c : Bool) (m : Nat) :
    ((if c then u.count (mpB m) MR_CNT_FORCED.V else u).refreshStat m).rd (mpB m) MR_CNT_SB.V = u.rd (mpB m) MR_CNT_SB.V := by
  have hne : MR_CNT_SB.V.key (mpB m) ≠ MR_CNT_FORCED.V.key (mpB m) := by simp only [Fld.key, MR_CNT_SB.V, MR_CNT_FORCED.V]; omega
  rw [State.rd_refreshStat_of_count]
  cases c with
  | false => rfl
  | true => exact State.rd_count_ne u _ hne

theorem exec_refsbIssue (m set : Fin 8) (s : State) : exec (.refsbIssue m set) s = .next (s.refsb m set) := rfl

/-- A REFsb pays one refresh of its set, closes the set's banks and is counted (R441). -/
theorem leads_refsbIssue {set : Fin 8} (hdebt : s.debt m set ≠ 0) (hfree : s.setForced m set = true ∨
    ((s.port m).queue.any fun e => s.setNo m e.pa == set.val && decide (2 ≤ s.urgency m e)) = false) :
    Leads (.refsbIssue m set) s fun t => t.debt m set + 1 = s.debt m set ∧ (∀ b, b ≠ set.val → t.debt m b = s.debt m b) ∧
      (∀ e ∈ (t.port m).rows, ¬(e.1 / 64 = set.val / 4 ∧ e.1 % 64 / 16 = set.val % 4)) ∧
      t.rd (mpB m) MR_CNT_SB.V = satAdd MR_CNT_SB.V.width (s.rd (mpB m) MR_CNT_SB.V) 1 := by
  refine ⟨_, (exec_refsbIssue m set s).trans (congrArg _ (State.refsb_of_due hdebt hfree)), ?_⟩
  have hport : ((s.refreshed m set).port m) = _ := State.port_setPort_self ..
  simp only [State.debt, State.port_of_refsb, State.rd_sb_of_refsb, hport]
  refine ⟨?_, fun b hb => KV.get_set_ne 0 _ _ hb, fun e he => ?_, State.rd_count_self ..⟩
  · rw [KV.get_set_self]
    exact Nat.succ_pred_eq_of_ne_zero hdebt
  · have hopen := (List.mem_filter.1 he).2
    rintro ⟨hrank, hset⟩
    rw [hrank, hset, beq_self_eq_true, beq_self_eq_true] at hopen
    exact Bool.false_ne_true hopen

theorem exec_catchupTimer (m set : Fin 8) (s : State) : exec (.catchupTimer m set) s = .next (
    if (s.port m).catchup.contains set.val = true ∧ 1 ≤ s.debt m set ∧ (!(s.port m).forced.contains set.val) = true ∧
        KV.get 0 set.val (s.port m).refAt + (s.port m).halfTrefi ≤ s.now then
      s.setPort m { s.port m with forced := set.val :: (s.port m).forced }
    else s) := rfl

/-! ### Tracking in service (R430, R445) -/

/-- A tracking action where the port is ready takes its rank with all banks idle. -/
def State.tracked (s : State) (m rank : Nat) (zq : Bool) : State :=
  (s.rankIdle m rank).setPort m (if zq then { (s.rankIdle m rank).port m with zqCals := ((s.rankIdle m rank).port m).zqCals + 1 }
    else { (s.rankIdle m rank).port m with dqsReads := ((s.rankIdle m rank).port m).dqsReads + 1 })

theorem exec_mpDqsOscRead (m : Fin 8) (r : Fin 2) (s : State) : exec (.mpDqsOscRead m r) s =
    .next (if s.ready (m / 2) (rdyMP (m % 2)) then s.tracked m r false else s) := rfl
theorem exec_mpZqCal (m : Fin 8) (r : Fin 2) (s : State) : exec (.mpZqCal m r) s =
    .next (if s.ready (m / 2) (rdyMP (m % 2)) then s.tracked m r true else s) := rfl
theorem exec_mpTrackingForce (m : Fin 8) (r : Fin 2) (zq : Bool) (s : State) : exec (.mpTrackingForce m r zq) s =
    .next (if s.ready (m / 2) (rdyMP (m % 2)) then s.tracked m r zq else s) := rfl

theorem State.tracked_eq {m r : Nat} {x : MpX} (hx : x = { s.port m with rows := (s.port m).rows.filter fun e => e.1 / 64 != r }) (zq : Bool) :
    s.tracked m r zq = s.setPort m (if zq then { x with zqCals := x.zqCals + 1 } else { x with dqsReads := x.dqsReads + 1 }) := by
  rw [State.tracked, State.rankIdle, State.port_setPort_self, State.setPort_setPort, hx]

/-- A sensor read is recorded; above 95 °C source 7 is held (R445). -/
theorem exec_mpThermalRead_of_ready {t : BitVec 16} {u : State} (hready : s.ready (m / 2) (rdyMP (m % 2)) = true)
    (hu : u = (((s.wr (mpB m) MP_TEMP.VALID 1).wr (mpB m) MP_TEMP.TEMP t.toNat).wrb (mpB m) MP_TEMP.HOT
      (decide (t.toInt > 950))).setPort m { s.port m with fastNext := decide (t.toInt > 850), thermReads := (s.port m).thermReads + 1 }) :
    exec (.mpThermalRead m t) s = .next (if t.toInt > 950 then u.condOn (m / 2) 7 none m else u.condOff (m / 2) 7 m) := by
  have hexec : exec (.mpThermalRead m t) s = execMpThermalRead m t s := rfl
  rw [hexec, execMpThermalRead, if_pos hready, hu]
  rfl

theorem exec_mpThermalRead_of_not_ready (hready : s.ready (m / 2) (rdyMP (m % 2)) = false) (t : BitVec 16) :
    exec (.mpThermalRead m t) s = .next s := congrArg _ (if_neg (ne_true_of_eq_false hready))

/-! ### ECC groups (R265) -/

variable {g : EGroup} {k : Blk} {d i : Nat}

theorem exec_egInv (h : egBlk g = (k, d, i)) : exec (.egInv g) s = .next (s.atBlock k d i fun s => s.egInv g) := by
  have hexec : exec (.egInv g) s = execEgInv g s := rfl
  rw [hexec, execEgInv, h]
theorem exec_egCntClr (h : egBlk g = (k, d, i)) (v : Word) :
    exec (.egCntClr g v) s = .next (s.atBlock k d i fun s => s.egCntClr g v) := by
  have hexec : exec (.egCntClr g v) s = execEgCntClr g v s := rfl
  rw [hexec, execEgCntClr, h]

theorem State.egInv_of_busy (hblk : egBlk g = (k, d, i)) (h : s.on (egBase g) EG_STAT.INVBUSY = true) :
    s.egInv g = s.wr (k.base d i) BLK_STAT.COMMIT_ERR 1 := by
  rw [State.egInv, hblk]
  exact if_pos h

section Invalidate
variable {lo hi : Nat} {u : State} (h : s.on (egBase g) EG_STAT.INVBUSY = false)
  (hlo : lo = if s.rd (egBase g) EG_ICNT.V = 0 then 0 else s.rd (egBase g) EG_IBASE.V)
  (hhi : hi = if s.rd (egBase g) EG_ICNT.V = 0 then (egMem g).2 / 4096
    else min ((egMem g).2 / 4096) (s.rd (egBase g) EG_IBASE.V + s.rd (egBase g) EG_ICNT.V))
  (hu : u = (s.settleGroup g).wr (egBase g) EG_STAT.INVBUSY 1)
include h hlo hhi hu

/-- INV settles what was admitted before it, then makes the named pages of a port INVALID. -/
theorem State.egInv_of_port {n : Fin 8} (hg : g = .mp n) : s.egInv g = u.invalidatePages n lo hi := by
  subst hg
  rw [hlo, hhi, hu]
  exact if_neg (ne_true_of_eq_false h)

/-- INV settles what was admitted before it, then makes the named bytes of an on-chip memory zero. -/
theorem State.egInv_of_chip (hg : ∀ n, g ≠ .mp n) :
    s.egInv g = u.invalidateChip ((egMem g).1 + lo * 4096) ((egMem g).1 + hi * 4096) := by
  rw [hlo, hhi, hu]
  cases g with
  | mp n => exact absurd rfl (hg n)
  | store _ | tcm _ | sacPm _ | sacDm _ | ls _ | owl _ => exact if_neg (ne_true_of_eq_false h)
end Invalidate

/-- EG_CNT_CLR clears the counters of its bits. -/
theorem State.egCntClr_of_le {v : Word} (hv : v.toNat ≤ 7) : s.egCntClr g v =
    let u := if bitAt v.toNat 0 then s.wr (egBase g) EG_CNT_CE.V 0 else s
    let u := if bitAt v.toNat 1 then u.wr (egBase g) EG_CNT_UE.V 0 else u
    if bitAt v.toNat 2 then u.wr (egBase g) EG_CNT_PSN.V 0 else u := by
  rw [State.egCntClr]
  dsimp only
  rw [State.rsvBits_of_le _ 7 _ 3 rfl hv]
end MemoryPorts

/-- Settles O36, command by command. -/
theorem memoryPorts : Obligations.MemoryPorts := by
  intro s m g
  refine ⟨exec_mpCommandIssue_of_none, ?issues, ?waits, fun i e => State.preferred_mayIssue, ?rises, ?noRequest, ?panic,
    exec_fillSlotFree_of_nil, ?fill, fun _ => rfl, fun _ _ _ _ _ => rfl, ?notReady, ?ready, ?sets, ?swept, fun k d i hblk =>
    ⟨fun hans => ?silent, fun hans => ⟨?invBusy, ?inv, ?clrAll, ?clrPsn, ?clrUe, ?clrCe⟩⟩⟩
  case issues =>
    intro i e hpick hblocked
    rw [exec_mpCommandIssue_of_some hpick, if_neg (ne_true_of_eq_false hblocked)]
  case waits =>
    intro i e hpick hblocked
    refine ⟨_, (exec_mpCommandIssue_of_some hpick).trans (congrArg _ (if_pos hblocked)), ?_, State.port_setPort_self ..⟩
    exact State.rd_count_self ..
  case rises =>
    rintro i e _ hget rfl
    exact exec_requestUrgencyRise_of_some hget
  case noRequest => exact fun i hi => exec_requestUrgencyRise_of_none (List.getElem?_eq_none hi)
  case panic =>
    rintro d g i _ rfl
    refine ⟨_, exec_panicChange d g i s, ?_, fun k hk => ?_, rfl⟩
    · exact (mem_set_or_filter ..).trans (by rw [if_pos rfl])
    · exact (mem_set_or_filter ..).trans (by rw [if_neg hk])
  case fill =>
    intro e es hwaits
    refine ⟨fun hfree => ?_, fun hfull => ?_⟩
    · rw [exec_fillSlotFree_of_cons hwaits, if_pos hfree]
    · rw [exec_fillSlotFree_of_cons hwaits, if_neg (Nat.not_lt.2 hfull)]
  case notReady =>
    intro hready
    have hdrop : ∀ t : State, (.next (if s.ready (m / 2) (rdyMP (m % 2)) then t else s) : Out) = .next s :=
      fun t => congrArg _ (if_neg (ne_true_of_eq_false hready))
    exact ⟨hdrop _, fun r => ⟨hdrop _, hdrop _, fun zq => hdrop _⟩, exec_mpThermalRead_of_not_ready hready⟩
  case ready =>
    intro hready
    have hact : ∀ t : State, (.next (if s.ready (m / 2) (rdyMP (m % 2)) then t else s) : Out) = .next t :=
      fun t => congrArg _ (if_pos hready)
    have hdue : exec (.trefiBoundary m) s = .next (s.refreshDue m) := hact _
    refine ⟨hdue, fun hlow => ⟨_, hdue, fun b hb => State.debt_refreshDue hlow hb⟩, fun r x hx => ?_, fun t u hu => ?_⟩
    · have htrack : ∀ zq, (.next (s.tracked m r zq) : Out) = _ := fun zq => congrArg _ (State.tracked_eq hx zq)
      exact ⟨(hact _).trans (htrack false), (hact _).trans (htrack true), (hact _).trans (htrack true), (hact _).trans (htrack false)⟩
    · rw [exec_mpThermalRead_of_ready hready hu]
      exact ⟨fun hhot => congrArg _ (if_pos hhot), fun hcool => congrArg _ (if_neg (Int.not_lt.2 hcool))⟩
  case sets =>
    intro set
    refine ⟨fun hnone => ?_, fun hforced hurgent => ?_, leads_refsbIssue, fun hcatch howes hnot hlate => ?_, fun h => ?_⟩
    · rw [exec_refsbIssue, State.refsb_of_held (.inl hnone)]
    · rw [exec_refsbIssue, State.refsb_of_held (.inr (by rw [hforced, hurgent]; rfl))]
    · rw [exec_catchupTimer, if_pos ⟨hcatch, howes, by rw [hnot]; rfl, hlate⟩]
    · rw [exec_catchupTimer, if_neg]
      rintro ⟨hcatch, howes, hnot, hlate⟩
      rcases h with h | h | h | h
      · exact ne_true_of_eq_false h hcatch
      · omega
      · rw [h] at hnot; exact Bool.false_ne_true hnot
      · omega
  case swept => exact gives_of_exec (l := [EG_STAT.INVBUSY.is (egBase g) 0]) rfl rfl
  case silent =>
    have hdrop : ∀ f, (.next (s.atBlock k d i f) : Out) = .next s := fun f => congrArg _ (State.atBlock_of_not_answers hans f)
    exact ⟨(exec_egInv hblk).trans (hdrop _), fun v => (exec_egCntClr hblk v).trans (hdrop _)⟩
  case invBusy =>
    intro h
    exact gives_of_exec (by rw [exec_egInv hblk, State.atBlock_of_answers hans, State.egInv_of_busy hblk h]; rfl) rfl
  case inv =>
    intro h lo hi u hlo hhi hu
    have hexec : exec (.egInv g) s = .next (s.egInv g) := by rw [exec_egInv hblk, State.atBlock_of_answers hans]
    exact ⟨fun n hg => hexec.trans (congrArg _ (State.egInv_of_port h hlo hhi hu hg)),
      fun hg => hexec.trans (congrArg _ (State.egInv_of_chip h hlo hhi hu hg))⟩
  case clrAll | clrPsn | clrUe | clrCe =>
    exact gives_of_exec (by rw [exec_egCntClr hblk, State.atBlock_of_answers hans, State.egCntClr_of_le (by decide)]; rfl) rfl

end Sys2Proof.Machine

namespace Sys2Proof.Machine

/-! ## A cycle of a fabric cell (R227 to R241) -/

section CellCycle
variable {s : State} {reg : Fin 256} {cell : Fin 8192} {k : Nat × Instr × (CellArgs → CellRes)}

/-- Each of the 53 commands of a cell is a step of the cell with its opcode and result function (R233). -/
theorem exec_of_mem_cellCommands (h : k ∈ cellCommands reg cell) :
    exec k.2.1 s = .next (s.cellStep (cellNo reg cell) k.1 k.2.2) := by
  have hmaps : (cellCommands reg cell).map (fun k => exec k.2.1 s) =
      (cellCommands reg cell).map fun k => .next (s.cellStep (cellNo reg cell) k.1 k.2.2) := rfl
  exact List.map_inj_left.1 hmaps k h

/-- None of their opcodes is reserved. -/
theorem isSome_cellUses_of_mem (h : k ∈ cellCommands reg cell) : (cellUses k.1).isSome = true := by
  have hall : ((cellCommands reg cell).all fun k => (cellUses k.1).isSome) = true := rfl
  exact List.all_eq_true.1 hall k h

variable {n op : Nat} {u : Uses} {f : CellArgs → CellRes} (hu : cellUses op = some u)
include hu

/-- A cell steps where its region runs and its selected slot holds the opcode in a legal word. -/
theorem State.cellStep_of_runs (h : (s.regionRuns (cellRegion n) (s.clusterClock (cellRegion n) (cellCol n) (cellRow n)) &&
      decide (insnOp (s.slotWord n) = op) && insnLegal (cellRow n) (cellPos n) (s.slotWord n)) = true) :
    s.cellStep n op f = s.setCell n (s.sampleCtx n (s.cellIn n)
      ((s.cell n).execute (s.cellIn n) (s.carryIn n) (s.slotWord n) u f)) := by
  simp only [Bool.and_eq_true, decide_eq_true_eq, and_assoc] at h
  rw [State.cellStep, hu]
  exact if_pos h

theorem State.cellStep_of_rests (h : (s.regionRuns (cellRegion n) (s.clusterClock (cellRegion n) (cellCol n) (cellRow n)) &&
      decide (insnOp (s.slotWord n) = op) && insnLegal (cellRow n) (cellPos n) (s.slotWord n)) = false) :
    s.cellStep n op f = s := by
  rw [State.cellStep, hu]
  refine if_neg fun hgo => ne_true_of_eq_false h ?_
  simpa only [Bool.and_eq_true, decide_eq_true_eq, and_assoc] using hgo

end CellCycle

/-- The sample at the end of a cycle sets the context and its poison alone (R236, R237). -/
theorem State.sampleCtx_eq (s : State) (n : Nat) (io : CellIn) (x : CellX) : ∃ c p, s.sampleCtx n io x = { x with ctx := c, ctxP := p } := by
  rw [State.sampleCtx]
  split
  · split
    · exact ⟨_, _, rfl⟩
    · exact ⟨_, _, rfl⟩
  · exact ⟨_, _, rfl⟩

/-- Settles O32: the commands are steps of one kind, of which `CellX.execute` says what they leave. -/
theorem cellCycle : Obligations.CellCycle := by
  refine ⟨?cycle, ?input, ?line⟩
  case cycle =>
    rintro s reg cell n io hn rfl k hk
    obtain ⟨u, hu⟩ := Option.isSome_iff_exists.1 (isSome_cellUses_of_mem hk)
    have hexec : exec k.2.1 s = .next (s.cellStep n k.1 k.2.2) := hn ▸ exec_of_mem_cellCommands hk
    refine ⟨u, hu, ?_⟩
    rintro _ rfl
    refine ⟨fun hrests => by rw [hexec, State.cellStep_of_rests hu hrests], ?_⟩
    rintro hruns w x a b c t r p y rfl rfl rfl rfl rfl rfl rfl rfl hy
    refine ⟨by rw [hexec, State.cellStep_of_runs hu hruns, hy], ?_⟩
    obtain ⟨ctx, ctxP, hctx⟩ := s.sampleCtx_eq n (s.cellIn n)
      ((s.cell n).execute (s.cellIn n) (s.carryIn n) (s.slotWord n) u k.2.2)
    rw [hctx] at hy
    subst hy
    refine ⟨fun h => ⟨if_pos h, if_pos h⟩, fun h => ⟨if_neg (ne_true_of_eq_false h), if_neg (ne_true_of_eq_false h)⟩,
      fun h => ⟨if_pos h, if_pos h⟩, fun h => ⟨if_neg (ne_true_of_eq_false h), if_neg (ne_true_of_eq_false h)⟩, rfl, rfl, rfl, rfl,
      fun h => ?_, fun h => ?_, fun h => ?_, fun h => ?_⟩
    all_goals simp only [CellX.execute, h]
  case input =>
    intro s c pos input
    rw [State.cellInput]
    cases Config.crossbar (s.columnSettings c.region c.col) c.row pos input <;> rfl
  case line =>
    intro s r m i v b q hq
    rw [State.globalLine, hq]
    cases Config.lineDriver (s.regionSettings r) v b i with
    | some src => rfl
    | none => simp only [Option.elim, Bool.or_eq_true]

/-! ## Results and flags of the cell opcodes (R233) -/

/-! ### Bytes by their bits -/

/-- Two bytes with the same eight bits are the same byte. -/
theorem byte_eq_of_testBit {x y : Nat} (hx : x < 256) (hy : y < 256) (h : ∀ i < 8, x.testBit i = y.testBit i) : x = y := by
  refine Nat.eq_of_testBit_eq fun i => ?_
  by_cases hi : i < 8
  · exact h i hi
  · have hpow : 256 ≤ 2 ^ i := Nat.pow_le_pow_right (n := 2) (by decide) (Nat.le_of_not_lt hi)
    rw [Nat.testBit_lt_two_pow (Nat.lt_of_lt_of_le hx hpow), Nat.testBit_lt_two_pow (Nat.lt_of_lt_of_le hy hpow)]

/-- A sum of the powers of two below `n` that a predicate picks is a number of `n` bits, those the predicate gives. -/
theorem bits_of_foldl_range (f : Nat → Bool) (n : Nat) : ((List.range n).foldl (fun x i => x + (f i).toNat * 2 ^ i) 0) < 2 ^ n ∧
    ∀ i < n, ((List.range n).foldl (fun x i => x + (f i).toNat * 2 ^ i) 0).testBit i = f i := by
  induction n with
  | zero => exact ⟨Nat.zero_lt_one, fun i hi => absurd hi (Nat.not_lt_zero i)⟩
  | succ n ih =>
    obtain ⟨hlt, hbits⟩ := ih
    rw [List.range_succ, List.foldl_append, List.foldl_cons, List.foldl_nil, Nat.add_comm, Nat.mul_comm]
    refine ⟨?_, fun i hi => ?_⟩
    · have htop : 2 ^ n * (f n).toNat ≤ 2 ^ n * 1 := Nat.mul_le_mul_left _ (Bool.toNat_le (f n))
      rw [Nat.pow_succ]
      omega
    · rw [Nat.testBit_two_pow_mul_add _ hlt]
      split
      next hlow => exact hbits i hlow
      next hlow =>
        obtain rfl : i = n := by omega
        rw [Nat.sub_self]
        cases f i <;> rfl

theorem byteOf_lt (f : Nat → Bool) : byteOf f < 256 := (bits_of_foldl_range f 8).1

theorem testBit_byteOf (f : Nat → Bool) {i : Nat} (hi : i < 8) : (byteOf f).testBit i = f i := (bits_of_foldl_range f 8).2 i hi

theorem testBit_not8 {x i : Nat} (hx : x < 256) (hi : i < 8) : (not8 x).testBit i = !x.testBit i := by
  have hsub : not8 x = 2 ^ 8 - (x + 1) := by unfold not8; omega
  rw [hsub, Nat.testBit_two_pow_sub_succ hx, decide_eq_true hi, Bool.true_and]

theorem not8_lt (x : Nat) : not8 x < 256 := by unfold not8; omega

theorem natCast_not8 {x : Nat} (hx : x < 256) : (not8 x : Int) = 255 - x := by unfold not8; omega

/-- The upper bit of a byte is its sign. -/
theorem testBit_seven {x : Nat} (hx : x < 256) : x.testBit 7 = decide (128 ≤ x) := by
  rw [Nat.testBit_eq_decide_div_mod_eq, decide_eq_decide]
  omega

theorem sgn_eq_toInt (w x : Nat) : sgn w x = (BitVec.ofNat w x).toInt := by
  rw [BitVec.toInt_eq_toNat_cond, BitVec.toNat_ofNat, Int.natCast_pow]
  rfl

theorem sgn_byte {x : Nat} (hx : x < 256) : sgn 8 x = if x < 128 then (x : Int) else x - 256 := by
  rw [sgn, Nat.mod_eq_of_lt (show x < 2 ^ 8 from hx)]
  split <;> split <;> omega

/-! ### Sums -/

/-- The overflow flag says that the sum of the signed values is no signed byte. -/
theorem overflow8_eq {y z ci : Nat} (hy : y < 256) (hz : z < 256) (hci : ci < 2) :
    overflow8 y z ci = !decide (-128 ≤ sgn 8 y + sgn 8 z + ci ∧ sgn 8 y + sgn 8 z + ci ≤ 127) := by
  rw [Bool.eq_iff_iff]
  simp only [overflow8, bitAt_eq_testBit, testBit_seven hy, testBit_seven hz, testBit_seven (Nat.mod_lt (y + z + ci) (by decide : 256 > 0)),
    sgn_byte hy, sgn_byte hz, Bool.and_eq_true, beq_iff_eq, bne_iff_ne, ne_eq, decide_eq_decide, Bool.not_eq_true',
    decide_eq_false_iff_not]
  split <;> split <;> omega

/-- What a sum leaves, its second summand given as an integer. -/
theorem sumRes_spec {y n ci : Nat} {z : Int} (hy : y < 256) (hn : n < 256) (hci : ci < 2) (hz : (n : Int) = z) :
    ((sumRes y n ci).r : Int) = (y + z + ci) % 256 ∧ (sumRes y n ci).c = some (decide (256 ≤ y + z + ci)) ∧
    (sumRes y n ci).v = some (!decide (-128 ≤ sgn 8 y + sgn 8 z.toNat + ci ∧ sgn 8 y + sgn 8 z.toNat + ci ≤ 127)) ∧
    (sumRes y n ci).z = some (decide ((sumRes y n ci).r = 0)) ∧ (sumRes y n ci).n = some (bitAt (sumRes y n ci).r 7) := by
  subst hz
  refine ⟨?_, ?_, ?_, rfl, rfl⟩
  · simp only [sumRes, resZN]; omega
  · simp only [sumRes, resZN, Option.some_inj, decide_eq_decide]; omega
  · simp only [sumRes, resZN, overflow8_eq hy hn hci, Int.toNat_natCast]

/-! ### Shifts -/

section Shifts
variable {x : CellArgs} {i : Nat}

theorem testBit_cellSWAP (ha : x.a < 256) (hi : i < 8) : (cellSWAP x).r.testBit i = x.a.testBit ((i + 4) % 8) := by
  have hsplit : (cellSWAP x).r = 2 ^ 4 * (x.a % 2 ^ 4) + x.a / 2 ^ 4 := by simp only [cellSWAP, resZN]; omega
  rw [hsplit, Nat.testBit_two_pow_mul_add _ (by omega)]
  split
  · rw [Nat.testBit_div_two_pow, Nat.mod_eq_of_lt (by omega)]
  · rw [Nat.testBit_mod_two_pow, decide_eq_true (by omega), Bool.true_and, show (i + 4) % 8 = i - 4 by omega]

theorem testBit_cellSHL (hi : i < 8) : (cellSHL x).r.testBit i = (decide (x.b % 8 ≤ i) && x.a.testBit (i - x.b % 8)) := by
  have hr : (cellSHL x).r = x.a * 2 ^ (x.b % 8) % 2 ^ 8 := rfl
  rw [hr, Nat.testBit_mod_two_pow, Nat.testBit_mul_two_pow, decide_eq_true hi, Bool.true_and]

theorem testBit_cellSHR (ha : x.a < 256) : (cellSHR x).r.testBit i = (decide (i + x.b % 8 < 8) && x.a.testBit (i + x.b % 8)) := by
  have hr : (cellSHR x).r = x.a / 2 ^ (x.b % 8) := rfl
  rw [hr, Nat.testBit_div_two_pow, ← Nat.testBit_mod_two_pow x.a 8, Nat.mod_eq_of_lt (show x.a < 2 ^ 8 from ha)]

theorem testBit_cellSAR (hi : i < 8) : (cellSAR x).r.testBit i = x.a.testBit (min (i + x.b % 8) 7) := by
  simp only [cellSAR, resZN, testBit_byteOf _ hi, bitAt_eq_testBit]
  split
  · rw [Nat.min_eq_left (by omega)]
  · rw [Nat.min_eq_right (by omega)]

theorem testBit_cellROR (hi : i < 8) : (cellROR x).r.testBit i = x.a.testBit ((i + x.b % 8) % 8) := by
  simp only [cellROR, resZN, testBit_byteOf _ hi, bitAt_eq_testBit]

theorem testBit_cellROL (hi : i < 8) : (cellROL x).r.testBit ((i + x.b % 8) % 8) = x.a.testBit i := by
  simp only [cellROL, resZN, testBit_byteOf _ (Nat.mod_lt _ (by decide : 8 > 0)), bitAt_eq_testBit]
  rw [show ((i + x.b % 8) % 8 + 8 - x.b % 8) % 8 = i by omega]

theorem testBit_cellBSET : (cellBSET x).r.testBit i = (x.a.testBit i || decide (i = x.b % 8)) := by
  have hr : (cellBSET x).r = x.a ||| 2 ^ (x.b % 8) := rfl
  rw [hr, Nat.testBit_or, Nat.testBit_two_pow, decide_eq_decide.2 eq_comm]

theorem testBit_cellBCLR (hi : i < 8) : (cellBCLR x).r.testBit i = (x.a.testBit i && !decide (i = x.b % 8)) := by
  have hr : (cellBCLR x).r = x.a &&& not8 (2 ^ (x.b % 8)) := rfl
  have hbit : 2 ^ (x.b % 8) < 256 := Nat.pow_lt_pow_right (a := 2) (n := 8) (by decide) (Nat.mod_lt _ (by decide))
  rw [hr, Nat.testBit_and, testBit_not8 hbit hi, Nat.testBit_two_pow, decide_eq_decide.2 eq_comm]

/-- The arithmetic shift is the one of signed bytes. -/
theorem cellSAR_eq_sshiftRight : (cellSAR x).r = ((BitVec.ofNat 8 x.a).sshiftRight (x.b % 8)).toNat := by
  have hlt : (cellSAR x).r < 256 := by simp only [cellSAR, resZN, byteOf_lt]
  refine byte_eq_of_testBit hlt (BitVec.isLt _) fun i hi => ?_
  rw [testBit_cellSAR hi, BitVec.testBit_toNat, BitVec.getLsbD_sshiftRight, BitVec.msb_eq_getLsbD_last, BitVec.getLsbD_ofNat,
    BitVec.getLsbD_ofNat, decide_eq_false (Nat.not_le.2 hi), Bool.not_false, Bool.true_and, Nat.add_comm]
  split
  · rw [Nat.min_eq_left (by omega), decide_eq_true ‹_›, Bool.true_and]
  · rw [Nat.min_eq_right (by omega)]; rfl

theorem sgn_cellSAR : sgn 8 (cellSAR x).r = sgn 8 x.a / 2 ^ (x.b % 8) := by
  rw [cellSAR_eq_sshiftRight, sgn_eq_toInt, sgn_eq_toInt, BitVec.ofNat_toNat, BitVec.setWidth_eq, BitVec.toInt_sshiftRight,
    Int.shiftRight_eq_div_pow, Int.natCast_pow]
  rfl
end Shifts

/-! ### Counts of zeros and ones -/

/-- What the search for the first number of a range tells: nothing below it qualifies, and it does unless it is the range's end. -/
theorem getD_find?_range (n : Nat) (p : Nat → Bool) :
    ((List.range n).find? p).getD n ≤ n ∧ (∀ j < ((List.range n).find? p).getD n, p j = false) ∧
    (((List.range n).find? p).getD n < n → p (((List.range n).find? p).getD n) = true) := by
  cases hfind : (List.range n).find? p with
  | none =>
    rw [List.find?_range_eq_none] at hfind
    exact ⟨Nat.le_refl n, fun j hj => (Bool.not_eq_true' _).mp (hfind j hj), fun h => absurd h (Nat.lt_irrefl n)⟩
  | some m =>
    obtain ⟨hm, hmem, hbelow⟩ := List.find?_range_eq_some.1 hfind
    exact ⟨Nat.le_of_lt (List.mem_range.1 hmem), fun j hj => (Bool.not_eq_true' _).mp (hbelow j hj), fun _ => hm⟩

/-- The bits above the leading one are clear, and it is set. -/
theorem clz8_spec {x : Nat} (hx : x < 256) : x < 2 ^ (8 - clz8 x) ∧ (x ≠ 0 → 2 ^ 7 ≤ x * 2 ^ clz8 x) := by
  obtain ⟨hle, hclear, hset⟩ := getD_find?_range 8 fun i => bitAt x (7 - i)
  have hlead : ∀ j < clz8 x, x.testBit (7 - j) = false := fun j hj => (bitAt_eq_testBit ..).symm.trans (hclear j hj)
  have hlt : x < 2 ^ (8 - clz8 x) := by
    refine Nat.lt_pow_two_of_testBit _ fun i hi => ?_
    by_cases h8 : 8 ≤ i
    · exact Nat.testBit_lt_two_pow (Nat.lt_of_lt_of_le hx (Nat.pow_le_pow_right (n := 2) (by decide) h8))
    · rw [show i = 7 - (7 - i) by omega]
      exact hlead _ (by omega)
  refine ⟨hlt, fun h0 => ?_⟩
  have hfirst : clz8 x < 8 := by
    refine Nat.lt_of_le_of_ne hle fun h8 : clz8 x = 8 => h0 ?_
    rw [h8] at hlt
    omega
  calc 2 ^ 7 = 2 ^ (7 - clz8 x) * 2 ^ clz8 x := by rw [← Nat.pow_add, Nat.sub_add_cancel (Nat.le_of_lt_succ hfirst)]
    _ ≤ x * 2 ^ clz8 x := Nat.mul_le_mul_right _ (Nat.ge_two_pow_of_testBit ((bitAt_eq_testBit ..).symm.trans (hset hfirst)))

/-- The bits below the trailing one are clear, and it is set. -/
theorem ctz8_spec {x : Nat} (hx : x < 256) : ctz8 x ≤ 8 ∧ (x ≠ 0 → x / 2 ^ ctz8 x % 2 = 1 ∧ x % 2 ^ ctz8 x = 0) ∧
    (x = 0 → ctz8 x = 8) := by
  obtain ⟨hle, hclear, hset⟩ := getD_find?_range 8 (bitAt x)
  have hmod : x % 2 ^ ctz8 x = 0 := by
    refine Nat.eq_of_testBit_eq fun i => ?_
    rw [Nat.testBit_mod_two_pow, Nat.zero_testBit]
    by_cases hi : i < ctz8 x
    · rw [← bitAt_eq_testBit, hclear i hi, Bool.and_false]
    · rw [decide_eq_false hi, Bool.false_and]
  refine ⟨hle, fun h0 => ⟨?_, hmod⟩, fun h0 => by rw [h0]; rfl⟩
  have hfirst : ctz8 x < 8 := by
    refine Nat.lt_of_le_of_ne hle fun h8 : ctz8 x = 8 => h0 ?_
    rwa [h8, Nat.mod_eq_of_lt (show x < 2 ^ 8 from hx)] at hmod
  exact beq_iff_eq.1 (hset hfirst)

/-- The number of ones among the low bits is that of the bit places that hold one. -/
theorem popBits_eq_length (n x : Nat) : popBits n x = ((List.range n).filter fun i => bitAt x i).length := by
  induction n generalizing x with
  | zero => rfl
  | succ n ih =>
    have hshift : (fun i => bitAt x i) ∘ Nat.succ = fun i => bitAt (x / 2) i := by
      funext i
      rw [Function.comp_apply, bitAt_eq_testBit, bitAt_eq_testBit, Nat.testBit_succ]
    rw [popBits, ih, List.range_succ_eq_map, List.filter_cons, List.filter_map, hshift]
    have hbit : bitAt x 0 = (x % 2 == 1) := by rw [bitAt, Nat.pow_zero, Nat.div_one]
    rw [hbit]
    rcases Nat.mod_two_eq_zero_or_one x with h | h <;> simp [h, Nat.add_comm]

/-- Parity as a number. -/
theorem toNat_parity8 (x : Nat) : (parity8 x).toNat = popBits 8 x % 2 := by
  rw [parity8]
  rcases Nat.mod_two_eq_zero_or_one (popBits 8 x) with h | h <;> rw [h] <;> rfl

/-! ### Gray codes -/

/-- The parity of the low bits of a Gray code telescopes: it is that of the lowest bit and the first one beyond. -/
theorem popBits_gray8_mod (n x : Nat) : popBits n (gray8 x) % 2 = (x + x / 2 ^ n) % 2 := by
  induction n generalizing x with
  | zero => rw [popBits, Nat.pow_zero, Nat.div_one]; omega
  | succ n ih =>
    have hlow : gray8 x % 2 = 1 ↔ ¬(x % 2 = 1 ↔ x / 2 % 2 = 1) := Nat.xor_mod_two_eq_one
    have hhigh : gray8 x / 2 = gray8 (x / 2) := Nat.xor_div_two
    have hdiv : x / 2 / 2 ^ n = x / 2 ^ (n + 1) := by rw [Nat.div_div_eq_div_mul, Nat.pow_succ, Nat.mul_comm]
    have hrest := ih (x / 2)
    rw [popBits, hhigh]
    omega

/-- The binary value of a Gray code undoes the code. -/
theorem ungray8_gray8 {x : Nat} (hx : x < 256) : ungray8 (gray8 x) = x := by
  refine byte_eq_of_testBit (byteOf_lt _) hx fun i hi => ?_
  have hdiv : gray8 x / 2 ^ i = gray8 (x / 2 ^ i) := by
    rw [gray8, gray8, Nat.xor_div_two_pow, Nat.div_div_eq_div_mul, Nat.div_div_eq_div_mul, Nat.mul_comm]
  have hbeyond : x / 2 ^ i / 2 ^ 8 = 0 := Nat.div_eq_of_lt (Nat.lt_of_le_of_lt (Nat.div_le_self ..) hx)
  rw [ungray8, testBit_byteOf _ hi, hdiv, parity8, popBits_gray8_mod, hbeyond, Nat.add_zero, Nat.testBit_eq_decide_div_mod_eq]
  rfl

/-- A number without a further bit has no further one to count. -/
theorem popBits_succ_of_lt {n x : Nat} (hx : x < 2 ^ n) : popBits (n + 1) x = popBits n x := by
  induction n generalizing x with
  | zero => rw [Nat.lt_one_iff.1 hx]; rfl
  | succ n ih => rw [popBits, ih (by omega), popBits]

theorem parity8_eq_xor {x : Nat} (hx : x < 256) : parity8 x = (x.testBit 0 ^^ parity8 (x / 2)) := by
  have hrest : popBits 8 x = x % 2 + popBits 8 (x / 2) := by rw [popBits_succ_of_lt (by omega : x / 2 < 2 ^ 7)]; rfl
  rw [parity8, parity8, hrest, Nat.testBit_zero]
  rcases Nat.mod_two_eq_zero_or_one x with h | h <;> rcases Nat.mod_two_eq_zero_or_one (popBits 8 (x / 2)) with h' | h' <;>
    simp [Nat.add_mod, h, h']

/-- The Gray code of the binary value is the code again. -/
theorem gray8_ungray8 {x : Nat} (hx : x < 256) : gray8 (ungray8 x) = x := by
  have hlt : ungray8 x < 2 ^ 8 := byteOf_lt _
  refine byte_eq_of_testBit (Nat.xor_lt_two_pow hlt (Nat.lt_of_le_of_lt (Nat.div_le_self ..) hlt)) hx fun i hi => ?_
  have hnext : (ungray8 x).testBit (i + 1) = parity8 (x / 2 ^ i / 2) := by
    rw [Nat.div_div_eq_div_mul, ← Nat.pow_succ]
    by_cases h7 : i + 1 < 8
    · exact testBit_byteOf _ h7
    · rw [Nat.div_eq_of_lt (Nat.lt_of_lt_of_le hx (Nat.pow_le_pow_right (n := 2) (by decide) (Nat.le_of_not_lt h7))),
        Nat.testBit_lt_two_pow (Nat.lt_of_lt_of_le hlt (Nat.pow_le_pow_right (by decide) (Nat.le_of_not_lt h7)))]
      rfl
  have hthis : (ungray8 x).testBit i = parity8 (x / 2 ^ i) := testBit_byteOf _ hi
  rw [gray8, Nat.testBit_xor, Nat.testBit_div_two, hnext, hthis, parity8_eq_xor (Nat.lt_of_le_of_lt (Nat.div_le_self ..) hx),
    Bool.xor_assoc, Bool.xor_self, Bool.xor_false, Nat.testBit_div_two_pow, Nat.zero_add]

/-! ### The table -/

/-- The bits of the bitwise functions, of a reversal and of a nibble swap. -/
theorem bitAt_bitwise {x : CellArgs} {i : Nat} {a b : Bool} (ha : x.a < 256) (hb : x.b < 256) (hi : i < 8) (hA : a = bitAt x.a i)
    (hB : b = bitAt x.b i) :
    bitAt (cellAND x).r i = (a && b) ∧ bitAt (cellOR x).r i = (a || b) ∧ bitAt (cellXOR x).r i = (a != b) ∧
    bitAt (cellANDN x).r i = (a && !b) ∧ bitAt (cellORN x).r i = (a || !b) ∧ bitAt (cellXNOR x).r i = (a == b) ∧
    bitAt (cellNOT x).r i = !a ∧ bitAt (cellXSCR x).r i = (a != (b && bitAt x.imm i)) ∧ bitAt (cellREV x).r i = bitAt x.a (7 - i) ∧
    bitAt (cellSWAP x).r i = bitAt x.a ((i + 4) % 8) ∧
    bitAt (cellBITF x).r i = bitAt x.imm (4 * a.toNat + 2 * b.toNat + (bitAt x.t i).toNat) := by
  subst hA hB
  have hxor : x.a ^^^ x.b < 256 := Nat.xor_lt_two_pow (n := 8) ha hb
  simp only [bitAt_eq_testBit, testBit_cellSWAP ha hi, and_true, true_and, cellAND, cellOR, cellXOR, cellANDN, cellORN, cellXNOR, cellNOT,
    cellXSCR, cellREV, cellBITF, resZN, Nat.testBit_and, Nat.testBit_or, Nat.testBit_xor, testBit_not8 ha hi, testBit_not8 hb hi,
    testBit_not8 hxor hi, testBit_byteOf _ hi]
  cases x.a.testBit i <;> cases x.b.testBit i <;> rfl

/-- Settles O33, row by row of the table: sums as integers, bitwise functions and shifts by their bits, counts and Gray codes by the lemmas
above. -/
theorem cellResults : Obligations.CellResults := by
  intro x ha hb ht himm hci
  refine ⟨?sums, ⟨rfl, rfl, rfl, rfl, rfl⟩, rfl, rfl, ?subus, ?subusC, ?neg, ?absd, ?extremes, ⟨rfl, rfl⟩, ?bits, ?carried,
    sgn_cellSAR, ?zeros, ?ones, ?gray, ⟨rfl, rfl, rfl⟩, ?rest⟩
  case sums =>
    intro f y z hf
    simp only [List.mem_cons, List.not_mem_nil, or_false, Prod.mk.injEq] at hf
    obtain ⟨rfl, rfl, rfl⟩ | ⟨rfl, rfl, rfl⟩ | ⟨rfl, rfl, rfl⟩ := hf
    · exact sumRes_spec ha hb hci rfl
    · exact sumRes_spec ha (not8_lt x.b) hci (natCast_not8 hb)
    · exact sumRes_spec hb (not8_lt x.a) hci (natCast_not8 ha)
  case subus => simp only [cellSUBUS, resZN]; omega
  case subusC => simp only [cellSUBUS, resZN, Option.some_inj, decide_eq_decide]; omega
  case neg =>
    refine ⟨?_, rfl, rfl⟩
    simp only [cellNEG, resZN, not8]
    omega
  case absd =>
    refine ⟨?_, rfl⟩
    simp only [cellABSD, resZN]
    omega
  case extremes =>
    refine ⟨rfl, rfl, ?_, ?_⟩
    · simp only [cellMINS, resZN, apply_ite (sgn 8)]; omega
    · simp only [cellMAXS, resZN, apply_ite (sgn 8)]; omega
  case bits =>
    intro i hi a b hA hB
    obtain ⟨hand, hor, hxor, handn, horn, hxnor, hnot, hxscr, hrev, hswap, hbitf⟩ := bitAt_bitwise ha hb hi hA hB
    refine ⟨hand, hor, hxor, handn, horn, hxnor, hnot, hxscr, hrev, hswap, hbitf, ?_⟩
    simp only [hA, bitAt_eq_testBit]
    exact ⟨testBit_cellSHL hi, testBit_cellSHR ha, testBit_cellSAR hi, testBit_cellROL hi, testBit_cellROR hi, testBit_cellBSET,
      testBit_cellBCLR hi⟩
  case carried =>
    refine ⟨?_, rfl, rfl, rfl, rfl⟩
    simp only [cellSHLC, resZN]
    omega
  case zeros =>
    obtain ⟨hlead, hset⟩ := clz8_spec ha
    exact ⟨hlead, hset, ctz8_spec ha⟩
  case ones =>
    refine ⟨popBits_eq_length 8 x.a, ?_, ?_⟩
    · simp only [cellPMSK, resZN, toNat_parity8, popBits_eq_length, bitAt_eq_testBit, Nat.testBit_and]
    · simp only [cellLFSR, cellPMSK, resZN]; omega
  case gray => exact ⟨ungray8_gray8 ha, gray8_ungray8 ha, ungray8_gray8 (Nat.mod_lt _ (by decide)), rfl⟩
  case rest => exact ⟨rfl, rfl, rfl, rfl, rfl, rfl, rfl, rfl, rfl, rfl, rfl⟩

end Sys2Proof.Machine

namespace Sys2Proof.Machine

/-! ## Store-block ports and service accesses (R247 to R252) -/

section StorePorts
variable {s : State}

theorem exec_storePortAccess_of_fenced {r : Fin 256} (h : s.on (frB r) FR_STAT.FENCED = true) (m : Fin 32) (a b : Option PortIn) :
    exec (.storePortAccess r m a b) s = .next s := congrArg _ (if_pos h)

variable {id : Nat}

theorem exec_storeServiceAccess_of_none (h : (s.flights.find? fun f => f.id == id) = none) : exec (.storeServiceAccess id) s = .next s := by
  change execStoreServiceAccess id s = _
  rw [execStoreServiceAccess, h]

variable {f : Flight} (hf : (s.flights.find? fun f => f.id == id) = some f)
include hf

/-- A flight that waits for a store block is answered (R251). -/
theorem exec_storeServiceAccess_of_waiting {k : Nat} (hrsp : f.rsp = none) (hdst : f.dst = .store k) : exec (.storeServiceAccess id) s =
    .next (if s.storeAnswers f.req.addr.toNat = true then (s.chipOp f.req).2.answer id (s.chipOp f.req).1 else s.answer id .decode) := by
  change execStoreServiceAccess id s = _
  rw [execStoreServiceAccess, hf]
  dsimp only
  rw [hrsp, hdst]

theorem exec_storeServiceAccess_of_other (h : f.rsp.isSome = true ∨ ∀ k, f.dst ≠ .store k) :
    exec (.storeServiceAccess id) s = .next s := by
  change execStoreServiceAccess id s = _
  rw [execStoreServiceAccess, hf]
  dsimp only
  split
  next k hrsp hdst =>
    rcases h with h | h
    · rw [hrsp] at h; cases h
    · exact absurd hdst (h k)
  next => rfl
end StorePorts

/-- Settles O34: the ports rest behind a fence and else follow the edge's pair of accesses; a service access goes by its flight. -/
theorem storePorts : Obligations.StorePorts := by
  intro s r m
  refine ⟨fun a b hfence => exec_storePortAccess_of_fenced hfence m a b, fun hfence => ?edge, fun id f hf => ⟨fun k hrsp hdst => ?waiting,
    exec_storeServiceAccess_of_other hf⟩, fun id => exec_storeServiceAccess_of_none⟩
  case edge =>
    rintro a b k x accA accB seen t u v rfl rfl hA hB hpair hu hv
    obtain rfl : _ = seen := congrArg Prod.fst hpair
    obtain rfl : _ = t := congrArg Prod.snd hpair
    subst hv hu hA hB
    exact congrArg _ (if_neg (ne_true_of_eq_false hfence))
  case waiting =>
    rw [exec_storeServiceAccess_of_waiting hf hrsp hdst]
    exact ⟨fun h => congrArg _ (if_pos h), fun h => congrArg _ (if_neg (ne_true_of_eq_false h))⟩

/-! ## Regions (R229, R252 to R257) -/

section Regions
variable {s : State}

/-! ### Fence, region reset and the result of a relocation -/

/-- FENCE is set as written, and FENCED follows it with the region's state and reset (R252). -/
theorem State.frFence_eq (r : Nat) (v : Bool) : s.frFence r v =
    (s.wr (frB r) FR_CTL.FENCE v.toNat).wr (frB r) FR_STAT.FENCED (s.regionState r != frLOADED || (s.region r).resetting || v).toNat := by
  have hkey : FR_STAT.STATE.key (frB r) ≠ FR_CTL.FENCE.key (frB r) := by simp only [Fld.key, FR_STAT.STATE, FR_CTL.FENCE]; omega
  have hstate : (s.wrb (frB r) FR_CTL.FENCE v).regionState r = s.regionState r := State.rd_wr_ne _ hkey
  rw [State.frFence, State.fenceRefresh, hstate, State.on_wrb_self s _ (by decide : 0 < FR_CTL.FENCE.width)]
  rfl

theorem State.frReset_of_not_loaded {r : Nat} (h : s.regionState r ≠ frLOADED) : s.frReset r = s.wr (frB r) FR_STAT.REJ 1 := if_pos h

theorem State.frReset_of_loaded {r : Nat} (h : s.regionState r = frLOADED) :
    s.frReset r = ((s.setRegion r { s.region r with resetting := true }).applyInitial r).fenceRefresh r := if_neg (not_not_intro h)

theorem State.frRack_of_valid {r : Nat} (h : s.on (frB r) FR_RELOC_RES.VALID = true) : s.frRack r = s.wr (frB r) FR_RELOC_RES.ACKD 1 :=
  if_pos h

theorem State.frRack_of_none {r : Nat} (h : s.on (frB r) FR_RELOC_RES.VALID = false) : s.frRack r = s := if_neg (ne_true_of_eq_false h)

/-! ### The start of a relocation (R254, R255) -/

section Reloc
variable {r : Nat} (col : Nat)

theorem State.frReloc_of_refused (h : (s.regionState r ≠ frLOADED ∧ s.regionState r ≠ frEMPTY) ∨ s.napped r = true ∨
      s.on (frB r) FR_RELOC_RES.ACKD = false) : s.frReloc r col = s.wr (frB r) FR_STAT.REJ 1 := by
  refine if_pos ?_
  rwa [Bool.not_eq_true']

/-- Taking up a relocation, RELOC_RES of a region says that no result is valid; FR_STAT stays. -/
theorem State.rd_stat_of_reloc {u : State}
    (hu : u = ((s.seqUp (frB r) FR_RELOC_RES.SEQ).wr (frB r) FR_RELOC_RES.VALID 0).wr (frB r) FR_RELOC_RES.ACKD 0)
    {f : Fld} (hoff : f.off = 0x10000) (hlsb : f.lsb < 32) : u.rd (frB r) f = s.rd (frB r) f := by
  have hkey : ∀ g : Fld, g.off = 0x1000c → f.key (frB r) ≠ g.key (frB r) := by
    intro g hg
    simp only [Fld.key, hoff, hg]
    omega
  rw [hu, State.rd_wr_ne _ (hkey _ rfl), State.rd_wr_ne _ (hkey _ rfl), State.rd_seqUp_ne _ (hkey _ rfl)]

section Taken
variable {u : State} (hstate : s.regionState r = frLOADED ∨ s.regionState r = frEMPTY) (hnap : s.napped r = false)
  (hackd : s.on (frB r) FR_RELOC_RES.ACKD = true)
  (hu : u = ((s.seqUp (frB r) FR_RELOC_RES.SEQ).wr (frB r) FR_RELOC_RES.VALID 0).wr (frB r) FR_RELOC_RES.ACKD 0)
include hstate hnap hackd hu

/-- A relocation that is not refused finds its spare in use, or starts. -/
theorem State.frReloc_of_taken : s.frReloc r col = if s.on (frB r) FR_STAT.SPARE_USED = true then u.relocResult r 5
    else (((((u.chkAbandon r).setRegion r { u.region r with
      reloc := some col, fromSett := s.regionState r == frLOADED && (s.region r).slot.isSome, tested := false
      resetting := false }).wr (frB r) FR_RELOC_RES.STATUS 1).cellsVoid r).setRegionState r frRELOCATING) := by
  have hgo : ¬ ((s.regionState r ≠ frLOADED ∧ s.regionState r ≠ frEMPTY) ∨ s.napped r = true ∨
      (!s.on (frB r) FR_RELOC_RES.ACKD) = true) := by
    rw [hnap, hackd]
    rintro (⟨hl, he⟩ | h | h)
    · exact hstate.elim hl he
    · cases h
    · cases h
  have hspare : u.on (frB r) FR_STAT.SPARE_USED = s.on (frB r) FR_STAT.SPARE_USED :=
    congrArg (· != 0) (State.rd_stat_of_reloc hu rfl (by decide))
  have hkept : u.regionState r = s.regionState r := State.rd_stat_of_reloc hu rfl (by decide)
  rw [← hspare, ← hkept]
  subst hu
  exact if_neg hgo
end Taken
end Reloc

/-! ### The self-test and the end of a relocation (R255 to R257) -/

theorem exec_rresetEnd (r : Fin 256) : exec (.rresetEnd r) s = .next (
    if (s.region r).resetting = true then (s.setRegion r { s.region r with resetting := false }).fenceRefresh r else s) := rfl

section RelocEnd
variable {r : Fin 256}

theorem exec_relocSelftestDone_of_idle (h : (s.region r).reloc = none ∨ (s.region r).tested = true) (pass : Bool) :
    exec (.relocSelftestDone r pass) s = .next s := by
  change execRelocSelftestDone r pass s = _
  rw [execRelocSelftestDone]
  dsimp only
  split
  next => rfl
  next c hreloc =>
    rw [hreloc] at h
    rw [if_pos (h.resolve_left (Option.some_ne_none c))]

theorem exec_relocSelftestDone_of_testing {c : Nat} (hreloc : (s.region r).reloc = some c) (htested : (s.region r).tested = false)
    (pass : Bool) : exec (.relocSelftestDone r pass) s = .next (
      if pass = true then
        (s.setRegion r { s.region r with tested := true }).wrs
          [FR_STAT.MAPSRC.is (frB r) 1, FR_STAT.BADCOL.is (frB r) c, FR_STAT.SPARE_USED.is (frB r) 1]
      else (((s.setRegion r { s.region r with reloc := none }).setCopy r none).regionEmpty r).relocResult r 4) := by
  change execRelocSelftestDone r pass s = _
  rw [execRelocSelftestDone]
  dsimp only
  rw [hreloc]
  dsimp only
  rw [if_neg (ne_true_of_eq_false htested)]
  rfl

theorem exec_relocDone_of_idle (h : (s.region r).reloc = none ∨ (s.region r).tested = false) : exec (.relocDone r) s = .next s := by
  refine congrArg _ (if_pos ?_)
  rcases h with h | h
  · exact .inl (by rw [h]; rfl)
  · exact .inr (by rw [h]; rfl)

section Tested
variable {u : State} (hreloc : (s.region r).reloc ≠ none) (htested : (s.region r).tested = true)
  (hu : u = s.setRegion r { s.region r with reloc := none, tested := false, recDue := true })
include hreloc htested hu

/-- What the end of a relocation does where the self-test has passed: the frames come back from the Sett copy, or the region is left
EMPTY. -/
theorem exec_relocDone_of_tested : exec (.relocDone r) s = .next (
    match (s.region r).fromSett, (s.region r).slot with
    | true, some k => ((u.framesFromSett r k).regionRelease r).relocResult r 2
    | _, _ => ((u.setCopy r none).regionEmpty r).relocResult r 3) := by
  subst hu
  refine congrArg _ (if_neg ?_)
  rintro (h | h)
  · exact hreloc (Option.isNone_iff_eq_none.1 h)
  · rw [htested] at h; cases h

theorem exec_relocDone_of_copy {k : Nat} (hfrom : (s.region r).fromSett = true) (hslot : (s.region r).slot = some k) :
    exec (.relocDone r) s = .next (((u.framesFromSett r k).regionRelease r).relocResult r 2) := by
  rw [exec_relocDone_of_tested hreloc htested hu, hfrom, hslot]

theorem exec_relocDone_of_no_copy (h : (s.region r).fromSett = false ∨ (s.region r).slot = none) :
    exec (.relocDone r) s = .next (((u.setCopy r none).regionEmpty r).relocResult r 3) := by
  rw [exec_relocDone_of_tested hreloc htested hu]
  split
  next k hfrom hslot =>
    rw [hfrom, hslot] at h
    rcases h with h | h <;> cases h
  next => rfl
end Tested
end RelocEnd

/-! ### An upset of a slot (R229) -/

theorem exec_cellIllegalSlot (reg : Fin 256) (cell : Fin 8192) (w : Word) {n no off : Nat} {u : State} (hn : n = reg.val * 8192 + cell.val)
    (hno : no = frameNo (cellRegion n) (cellCol n) (cellRow n / 4)) (hoff : off = (cellRow n % 4 * 16 + cellPos n) * 16 + (s.cell n).ctx * 4)
    (hu : u = s.setUpset no (s.upset no ^^^ (s.slotWord n ^^^ w.toNat) * 2 ^ (8 * off))) :
    exec (.cellIllegalSlot reg cell w) s = .next (if (insnLegal (cellRow n) (cellPos n) w.toNat ||
        !s.regionRuns (cellRegion n) (s.clusterClock (cellRegion n) (cellCol n) (cellRow n))) = true then s
      else u.setCell n (u.sampleCtx n (u.cellIn n) { u.cell n with out := 256, co := false, coP := true })) := by
  subst hu hoff hno hn
  rfl
end Regions

/-- Settles O35, command by command. -/
theorem regionControl : Obligations.RegionControl := by
  intro s r col
  refine ⟨fun hans => ?silent, fun hans => ?answers, fun h => ?resets, fun h => ?notReset, fun c hreloc htested => ?selftest,
    exec_relocSelftestDone_of_idle, exec_relocDone_of_idle, fun hreloc htested u hu =>
      ⟨fun k => exec_relocDone_of_copy hreloc htested hu, exec_relocDone_of_no_copy hreloc htested hu⟩, ?upset⟩
  case silent =>
    have hdrop : ∀ f, (.next (s.atBlock .cfe (r / 64) 0 f) : Out) = .next s := fun f => congrArg _ (State.atBlock_of_not_answers hans f)
    exact ⟨fun v => hdrop _, hdrop _, hdrop _, hdrop _⟩
  case answers =>
    have hact : ∀ f, (.next (s.atBlock .cfe (r / 64) 0 f) : Out) = .next (f s) := fun f => congrArg _ (State.atBlock_of_answers hans f)
    have hfence : ∀ v, exec (.frFence r v) s = .next (s.frFence r v) := fun v => hact _
    have hreset : exec (.frRreset r) s = .next (s.frReset r) := hact _
    have hreloc : exec (.frReloc r col) s = .next (s.frReloc r col) := hact _
    have hrack : exec (.frRack r) s = .next (s.frRack r) := hact _
    refine ⟨fun v => ?fence, fun h => ?rejected, fun h => ?reset, fun h => ?refused,
      fun hstate hnap hackd u hu => ⟨fun h => ?noSpare, fun h => ?starts⟩, fun h => ?acked, fun h => ?none⟩
    case fence => exact gives_of_exec (by rw [hfence, State.frFence_eq]; rfl) rfl
    case rejected => exact gives_of_exec (by rw [hreset, State.frReset_of_not_loaded h]; rfl) rfl
    case reset => rw [hreset, State.frReset_of_loaded h]
    case refused => exact gives_of_exec (by rw [hreloc, State.frReloc_of_refused col h]; rfl) rfl
    case noSpare => rw [hreloc, State.frReloc_of_taken col hstate hnap hackd hu, if_pos h]
    case starts => rw [hreloc, State.frReloc_of_taken col hstate hnap hackd hu, if_neg (ne_true_of_eq_false h)]
    case acked => exact gives_of_exec (by rw [hrack, State.frRack_of_valid h]; rfl) rfl
    case none => rw [hrack, State.frRack_of_none h]
  case resets => rw [exec_rresetEnd, if_pos h]
  case notReset => rw [exec_rresetEnd, if_neg (ne_true_of_eq_false h)]
  case selftest =>
    have hexec := exec_relocSelftestDone_of_testing hreloc htested
    exact ⟨gives_of_exec (hexec true) rfl, hexec false⟩
  case upset =>
    intro reg cell n w no off u hn hno hoff hu
    rw [exec_cellIllegalSlot reg cell w hn hno hoff hu]
    refine ⟨fun h => ?_, fun hillegal hruns => ?_⟩
    · rcases h with h | h
      · rw [h, Bool.true_or, if_pos rfl]
      · rw [h, Bool.not_false, Bool.or_true, if_pos rfl]
    · rw [hillegal, hruns]; rfl

end Sys2Proof.Machine

namespace Sys2Proof.Machine

/-! ## Commands of a configuration engine (R23, R288, R290, R292, R293, R499) -/

section LoadCommands
variable {s : State} {d : Nat}

theorem State.cfeStart_of_switching (h : s.cfgSwitching d = true) (flash : List Byte) :
    s.cfeStart d flash = s.cfeHold d (.start flash) := if_pos h

theorem State.cfeStart_of_refused (hrun : s.cfgSwitching d = false) (flash : List Byte)
    (h : s.cfeState d ≠ cfeIDLE ∨ s.on (cfeB d) CFE_RES.ACKD = false ∨ s.rd (cfeB d) CFE_SRC.KIND = 0 ∨ 5 ≤ s.rd (cfeB d) CFE_SRC.KIND ∨
      (s.rd (cfeB d) CFE_SRC.KIND = srcFLASH ∧ d ≠ 0)) : s.cfeStart d flash = s.wr (cfeB d) CFE_STAT.REJ 1 := by
  rw [State.cfeStart, if_neg (ne_true_of_eq_false hrun)]
  exact if_pos (by rwa [Bool.not_eq_true'])

/-- START on a free engine with a source that it can use begins a load (R290). -/
theorem State.cfeStart_of_free (hrun : s.cfgSwitching d = false) (flash : List Byte) (hidle : s.cfeState d = cfeIDLE)
    (hackd : s.on (cfeB d) CFE_RES.ACKD = true) (hone : 1 ≤ s.rd (cfeB d) CFE_SRC.KIND) (hfour : s.rd (cfeB d) CFE_SRC.KIND ≤ 4)
    (hflash : s.rd (cfeB d) CFE_SRC.KIND = srcFLASH → d = 0) : s.cfeStart d flash = s.cfeBegin d (s.rd (cfeB d) CFE_SRC.KIND)
      (s.cfeSource d (s.rd (cfeB d) CFE_SRC.KIND)).1 (s.cfeSource d (s.rd (cfeB d) CFE_SRC.KIND)).2 false flash := by
  rw [State.cfeStart, if_neg (ne_true_of_eq_false hrun)]
  refine if_neg ?_
  rintro (h | h | h | h | ⟨h, hd⟩)
  · exact h hidle
  · rw [hackd] at h; cases h
  · omega
  · omega
  · exact hd (hflash h)

theorem State.cfeCont_of_switching (h : s.cfgSwitching d = true) : s.cfeCont d = s.cfeHold d .cont := if_pos h

theorem State.cfeCont_of_not_waiting (hrun : s.cfgSwitching d = false) (h : s.cfeState d ≠ cfeWAIT) :
    s.cfeCont d = s.wr (cfeB d) CFE_STAT.REJ 1 := by
  rw [State.cfeCont, if_neg (ne_true_of_eq_false hrun), if_pos h]

/-- CONT in WAIT_MORE takes up the next part, of the header while that is not complete (R288). -/
theorem State.cfeCont_of_waiting {u : State} (hrun : s.cfgSwitching d = false) (h : s.cfeState d = cfeWAIT)
    (hu : u = s.setCfe d { s.cfe d with at_ := (s.cfeSource d srcMEM).1, left := (s.cfeSource d srcMEM).2 }) :
    s.cfeCont d = if (s.cfe d).img = [] then (u.wr (cfeB d) CFE_STAT.STATE cfeHEADER).cfeHeader d []
      else u.wr (cfeB d) CFE_STAT.STATE cfeFRAMES := by
  rw [State.cfeCont, if_neg (ne_true_of_eq_false hrun), if_neg (not_not_intro h), hu]

theorem State.cfeCancel_of_idle (h : s.cfeState d = cfeIDLE) : s.cfeCancel d = s := if_pos h
theorem State.cfeCancel_of_loading (h : s.cfeState d ≠ cfeIDLE) : s.cfeCancel d = (s.cfeFailAll d).cfeEnd d loadCANCELLED := if_neg h

theorem State.cfeAck_of_valid (h : s.on (cfeB d) CFE_RES.VALID = true) : s.cfeAck d = s.wr (cfeB d) CFE_RES.ACKD 1 := if_pos h
theorem State.cfeAck_of_none (h : s.on (cfeB d) CFE_RES.VALID = false) : s.cfeAck d = s := if_neg (ne_true_of_eq_false h)

/-- The counters of the frame check, in the order of their bits in CFE_CHK_CLR. -/
def chkCounter (c : Fin 4) : Fld :=
  if c = 0 then CFE_CHK_UPSET.V else if c = 1 then CFE_CHK_REPAIR.V else if c = 2 then CFE_CHK_HARD.V else CFE_CHK_NOCOPY.V

/-- Each bit of CFE_CHK_CLR clears its counter. -/
theorem State.cfeChkClr_of_bit (c : Fin 4) : s.cfeChkClr d (BitVec.ofNat 32 (2 ^ c.val)) = s.wr (cfeB d) (chkCounter c) 0 := by
  have hrsv : s.rsvBits (cfeB d) 15 (BitVec.ofNat 32 (2 ^ c.val)).toNat = s :=
    State.rsvBits_of_and_eq_zero (by revert c; decide)
  rw [State.cfeChkClr, hrsv]
  match c with
  | 0 | 1 | 2 | 3 => rfl
end LoadCommands

section LoadExec
variable (d : Fin 4) (s : State)
theorem exec_cfeStart (flash : List Byte) :
    exec (.cfeStart d flash) s = .next (s.atBlock .cfe d 0 fun s => s.cfeStart d flash) := rfl
theorem exec_cfeCont : exec (.cfeCont d) s = .next (s.atBlock .cfe d 0 fun s => s.cfeCont d) := rfl
theorem exec_cfeCancel : exec (.cfeCancel d) s = .next (s.atBlock .cfe d 0 fun s => s.cfeCancel d) := rfl
theorem exec_cfeAck : exec (.cfeAck d) s = .next (s.atBlock .cfe d 0 fun s => s.cfeAck d) := rfl
theorem exec_cfeChkClr (v : Word) : exec (.cfeChkClr d v) s = .next (s.atBlock .cfe d 0 fun s => s.cfeChkClr d v) := rfl
end LoadExec

/-! ## The course of a load (R283 to R288, R292) -/

section LoadCourse
variable {s : State} {d : Fin 4}

/-- A part of the image that ends before a header (256 bytes) or a record (1,072 bytes) is whole leaves the load in WAIT_MORE (R288). -/
theorem exec_cfePartReadDone_of_short (hsrc : (s.cfe d).src = srcMEM) (hleft : (s.cfe d).left = 0)
    (h : (s.cfeState d = cfeHEADER ∧ (s.cfe d).buf.length < 256) ∨ (s.cfeState d = cfeFRAMES ∧ (s.cfe d).buf.length < 1072)) :
    exec (.cfePartReadDone d) s =
      .next ((s.setCfe d { s.cfe d with since := s.now }).wr (cfeB d) CFE_STAT.STATE cfeWAIT) := by
  refine congrArg _ (if_pos ⟨hsrc, ?_, hleft, ?_⟩)
  · exact h.imp And.left And.left
  · rcases h with ⟨hstate, hlen⟩ | ⟨hstate, hlen⟩
    · rwa [if_pos hstate]
    · rwa [if_neg (by rw [hstate]; decide)]

theorem exec_cfeWaitTimeout (s : State) (d : Fin 4) : exec (.cfeWaitTimeout d) s = .next (
    if (s.cfeState d = cfeWAIT ∨ s.relayStarved d = true) ∧ (s.cfe d).since + 4000000000 ≤ s.now
    then (s.cfeFailAll d).cfeEnd d loadSOURCE else s) := rfl

theorem exec_cfeFrameRecord (s : State) (d : Fin 4) (flash : List Byte) :
    exec (.cfeFrameRecord d flash) s = .next (if s.cfeState d = cfeFRAMES then s.cfeRecord d flash else s) := rfl

/-- The end of the signature check by what the engine finds (R285, R286, R292). -/
theorem exec_cfeSignatureDone (s : State) (d : Fin 4) : exec (.cfeSignatureDone d) s = .next (
    if s.cfeState d ≠ cfeVERIFY then s
    else if ((s.cfe d).dies.any fun e => !s.reachable d e) = true then (s.cfeFailAll d).cfeEnd d loadSOURCE
    else if (!s.signatureOk (s.cfe d).img) = true then (s.cfeFailAll d).cfeEnd d loadSIGFAIL
    else if (s.cfe d).dies.length ≤ 1 then s.cfeRelease d
    else (s.drew.setCfe d { s.cfe d with release := some (s.tick d + 8000 + s.free 16) }).wr (cfeB d) CFE_STAT.STATE cfeRELEASE) := rfl

/-- The release tick by what the engine finds (R286, R292). -/
theorem exec_cfeReleaseTick (s : State) (d : Fin 4) : exec (.cfeReleaseTick d) s = .next (
    if s.cfeState d ≠ cfeRELEASE then s
    else if ((s.cfe d).dies.any fun e => !s.reachable d e) = true then (s.cfeFailAll d).cfeEnd d loadSOURCE
    else if ((s.cfe d).dies.all fun e => decide ((s.cfe d).release.getD 0 ≤ s.tick e)) = true then s.cfeRelease d
    else s) := rfl

section Verified
variable (hstate : s.cfeState d = cfeVERIFY) (hreach : ((s.cfe d).dies.any fun e => !s.reachable d e) = false)
include hstate hreach

theorem exec_cfeSignatureDone_of_failed (h : s.signatureOk (s.cfe d).img = false) :
    exec (.cfeSignatureDone d) s = .next ((s.cfeFailAll d).cfeEnd d loadSIGFAIL) := by
  rw [exec_cfeSignatureDone, if_neg (not_not_intro hstate), if_neg (ne_true_of_eq_false hreach), h]
  rfl

theorem exec_cfeSignatureDone_of_passed (h : s.signatureOk (s.cfe d).img = true) : exec (.cfeSignatureDone d) s = .next (
    if (s.cfe d).dies.length ≤ 1 then s.cfeRelease d
    else (s.drew.setCfe d { s.cfe d with release := some (s.tick d + 8000 + s.free 16) }).wr (cfeB d) CFE_STAT.STATE cfeRELEASE) := by
  rw [exec_cfeSignatureDone, if_neg (not_not_intro hstate), if_neg (ne_true_of_eq_false hreach), h]
  rfl

/-- An image over several dies waits in RELEASE for a tick that lies 2 µs ahead or more (R286). -/
theorem leads_cfeSignatureDone_of_several (h : s.signatureOk (s.cfe d).img = true) (hdies : 1 < (s.cfe d).dies.length) :
    Leads (.cfeSignatureDone d) s fun t => t.cfeState d = cfeRELEASE ∧ ∃ k, (t.cfe d).release = some k ∧ s.tick d + 8000 ≤ k := by
  have hexec := exec_cfeSignatureDone_of_passed hstate hreach h
  rw [if_neg (Nat.not_le.2 hdies)] at hexec
  exact ⟨_, hexec, State.rd_wr_self .., _, congrArg CfeX.release (State.cfe_setCfe_self ..), Nat.le_add_right ..⟩
end Verified

theorem exec_cfeReleaseTick_of_named {k : Nat} (hstate : s.cfeState d = cfeRELEASE)
    (hreach : ((s.cfe d).dies.any fun e => !s.reachable d e) = false) (hk : (s.cfe d).release = some k) :
    exec (.cfeReleaseTick d) s = .next (if ∀ e ∈ (s.cfe d).dies, k ≤ s.tick e then s.cfeRelease d else s) := by
  rw [exec_cfeReleaseTick, if_neg (not_not_intro hstate), if_neg (ne_true_of_eq_false hreach), hk]
  simp only [List.all_eq_true, decide_eq_true_eq, Option.getD_some]
end LoadCourse

/-! ## Relay offers (R290, R319) -/

section RelayOffer
variable {s : State} {d : Fin 4} (port : Fin 24)

theorem exec_cfeRelayOffer_of_disabled (h : s.on (cfeB d) CFE_CFG.RELAY_EN = false ∨ s.on (dctlB 0) DCTL_DEVNUM.LOCKED = false ∨
      s.answers .cfe d 0 = false) : exec (.cfeRelayOffer d port) s = .next (s.relayAnswer port 1 2) :=
  congrArg _ (if_pos (by simpa only [Bool.not_eq_true'] using h))

theorem exec_cfeRelayOffer_of_enabled (hen : s.on (cfeB d) CFE_CFG.RELAY_EN = true) (hlock : s.on (dctlB 0) DCTL_DEVNUM.LOCKED = true)
    (hans : s.answers .cfe d 0 = true) : exec (.cfeRelayOffer d port) s = .next (
      if s.cfgSwitching d = true then s.cfeHold d (.offer port)
      else if s.cfeState d ≠ cfeIDLE ∨ s.on (cfeB d) CFE_RES.ACKD = false then s.relayAnswer port 1 1
      else (s.relayAnswer port 1 0).cfeBegin d srcRELAY 0 0 false [] (some port.val)) := by
  have hexec : exec (.cfeRelayOffer d port) s = .next (s.cfeOffer d port) := rfl
  rw [hexec]
  simp only [State.cfeOffer, hen, hlock, hans, Bool.not_true, Bool.false_eq_true, or_self, if_false, Bool.not_eq_true']
end RelayOffer

/-! ## Boot loads (R291, R294, R295) -/

section Boot
variable {s : State} {d : Fin 4}

theorem exec_bootLoadStart_of_not_due (h : s.por = true ∨ s.boot d ≠ .none ∨ s.ready d rdyOWL = false ∨ s.cfeState d ≠ cfeIDLE ∨
      s.on (cfeB d) CFE_RES.ACKD = false) : exec (.bootLoadStart d) s = .next s :=
  congrArg _ (if_pos (by simpa only [Bool.not_eq_true'] using h))

section Due
variable {u : State} (hpor : s.por = false) (hboot : s.boot d = .none) (howl : s.ready d rdyOWL = true)
  (hidle : s.cfeState d = cfeIDLE) (hackd : s.on (cfeB d) CFE_RES.ACKD = true) (hu : u = s.setReady d rdyCFE true)
include hpor hboot howl hidle hackd hu

/-- A boot load that is due goes by the states of the two image slots (R294). -/
theorem exec_bootLoadStart_of_due : exec (.bootLoadStart d) s = .next (
    if u.slotState d 0 0 = 0 ∧ u.slotState d 0 1 = 0 then (u.setReady d rdyIMG true).setBoot d .ended
    else match u.bootSlot d with
      | some k => (u.setBoot d .first).cfeBegin d (k + 1) (imageSlot d k) 0 true []
      | none => u.setBoot d .first) := by
  subst hu
  refine congrArg _ (if_neg ?_)
  simp only [hpor, hboot, howl, hidle, hackd, Bool.not_true, Bool.false_eq_true, ne_eq, not_true_eq_false, or_self, not_false_eq_true]

theorem exec_bootLoadStart_of_slot {k : Nat} (hslots : u.slotState d 0 0 ≠ 0 ∨ u.slotState d 0 1 ≠ 0) (hk : u.bootSlot d = some k) :
    exec (.bootLoadStart d) s = .next ((u.setBoot d .first).cfeBegin d (k + 1) (imageSlot d k) 0 true []) := by
  rw [exec_bootLoadStart_of_due hpor hboot howl hidle hackd hu, if_neg (Classical.not_and_iff_not_or_not.2 hslots), hk]

theorem exec_bootLoadStart_of_no_slot (hslots : u.slotState d 0 0 ≠ 0 ∨ u.slotState d 0 1 ≠ 0) (hk : u.bootSlot d = none) :
    exec (.bootLoadStart d) s = .next (u.setBoot d .first) := by
  rw [exec_bootLoadStart_of_due hpor hboot howl hidle hackd hu, if_neg (Classical.not_and_iff_not_or_not.2 hslots), hk]
end Due

/-- An acknowledgement leaves the fields of the slots alone. -/
theorem State.slotState_cfeAck (s : State) (d k : Nat) : (s.cfeAck d).slotState d 0 k = s.slotState d 0 k := by
  have hkey : (slotFld 0 k).key (stcB d) ≠ CFE_RES.ACKD.key (cfeB d) := by
    have hplace : (slotFld 0 k).off = 0x34 ∧ (slotFld 0 k).lsb < 32 := by
      cases k with
      | zero => decide
      | succ k => exact (by decide : STC_SLOT.IMG_B.off = 0x34 ∧ STC_SLOT.IMG_B.lsb < 32)
    obtain ⟨hoff, hlsb⟩ := hplace
    simp only [Fld.key, hoff, stcB, cfeB, CFE_RES.ACKD]
    omega
  rw [State.cfeAck]
  split
  · exact State.rd_wr_ne _ hkey
  · rfl

theorem State.bootSlot_cfeAck (s : State) (d : Nat) : (s.cfeAck d).bootSlot d = s.bootSlot d := by
  simp only [State.bootSlot, State.slotState_cfeAck]

theorem State.boot_cfeAck (s : State) (d e : Nat) : (s.cfeAck d).boot e = s.boot e := by
  rw [State.cfeAck]
  split <;> rfl

theorem exec_bootFallback_of_busy (h : s.por = true ∨ s.cfeState d ≠ cfeIDLE) : exec (.bootFallback d) s = .next s :=
  congrArg _ (if_pos h)

section Fallback
variable (hpor : s.por = false) (hidle : s.cfeState d = cfeIDLE)
include hpor hidle

theorem not_por_or_busy : ¬ (s.por = true ∨ s.cfeState d ≠ cfeIDLE) := by
  rintro (h | h)
  · rw [hpor] at h; cases h
  · exact h hidle

theorem exec_bootFallback_of_settled (h : s.boot d = .none ∨ s.boot d = .ended) : exec (.bootFallback d) s = .next s := by
  change execBootFallback d s = _
  rw [execBootFallback, if_neg (not_por_or_busy hpor hidle)]
  rcases h with h | h <;> simp only [h, reduceCtorEq, or_self, if_false]

theorem exec_bootFallback_of_other (h : s.boot d = .other) : exec (.bootFallback d) s = .next ((s.cfeAck d).setBoot d .flash) := by
  change execBootFallback d s = _
  rw [execBootFallback, if_neg (not_por_or_busy hpor hidle)]
  simp only [h, or_true, if_true, State.boot_cfeAck]

/-- The other slot after a first load that failed: the one beside the slot in use, or without one the first usable slot (R295). -/
theorem exec_bootFallback_of_first {k : Nat} (h : s.boot d = .first) (hk : s.bootSlot d = some (1 - k) ∧ k < 2 ∨
      s.bootSlot d = none ∧ ([0, 1].find? fun k => slotUsable (s.slotState d 0 k)) = some k) :
    exec (.bootFallback d) s = .next (
      if slotUsable (s.slotState d 0 k) = true then ((s.cfeAck d).setBoot d .other).cfeBegin d (k + 1) (imageSlot d k) 0 true []
      else (s.cfeAck d).setBoot d .flash) := by
  change execBootFallback d s = _
  rw [execBootFallback, if_neg (not_por_or_busy hpor hidle)]
  simp only [h, true_or, if_true, State.boot_cfeAck, State.bootSlot_cfeAck, State.slotState_cfeAck]
  rcases hk with ⟨hslot, hlt⟩ | ⟨hslot, hfind⟩
  · have hother : 1 - (1 - k) = k := by omega
    simp only [hslot, hother]
  · simp only [hslot, hfind]

theorem exec_bootFallback_of_flash (h : s.boot d = .flash) : exec (.bootFallback d) s = .next (
    if s.on (svpB 0) SVP_STRAP.RECEN = false ∨
      (s.cfeState 0 = cfeIDLE ∧ s.rd (cfeB 0) CFE_RES.SRC = srcFLASH ∧ s.rd (cfeB 0) CFE_RES.STATUS ≠ loadDONE)
    then ((s.setFail d rdyIMG).setBoot d .ended).raise d 19 none d else s) := by
  change execBootFallback d s = _
  rw [execBootFallback, if_neg (not_por_or_busy hpor hidle)]
  simp only [h, reduceCtorEq, or_self, if_false, Bool.not_eq_true', State.bootFailed]
end Fallback

/-- The recovery flash serves the dies that wait for it, once LD0 is free and strap RECEN allows it (R291). -/
theorem exec_recoveryFlashLoad (s : State) (flash : List Byte) : exec (.recoveryFlashLoad flash) s = .next (
    if s.por = false ∧ s.cfeState 0 = cfeIDLE ∧ (s.on (cfeB 0) CFE_RES.ACKD && s.on (svpB 0) SVP_STRAP.RECEN &&
      (List.range 4).any fun d => decide (s.boot d = .flash)) = true
    then (s.setMode 3).cfeBegin 0 srcFLASH 0 0 true flash else s) := by
  change execRecoveryFlashLoad flash s = _
  rw [execRecoveryFlashLoad, ← ite_not]
  simp only [not_or, Classical.not_not, Bool.not_eq_true', Bool.not_eq_false, Bool.and_eq_true, ne_eq, and_assoc, Bool.not_eq_true]
end Boot

/-! ## The frame check (R297 to R301) -/

section FrameCheck
variable {s : State} {d : Fin 4}

theorem exec_frameCheckRead_of_off (h : s.on (cfeB d) CFE_CFG.FCHK_EN = false ∨ (s.chk d).repair.isSome = true ∨
      s.answers .cfe d 0 = false) (up : BitVec 8192) : exec (.frameCheckRead d up) s = .next s :=
  congrArg _ (if_pos (by simpa only [Bool.not_eq_true'] using h))

section Checking
variable (hans : s.answers .cfe d 0 = true) (hen : s.on (cfeB d) CFE_CFG.FCHK_EN = true) (hrepair : (s.chk d).repair = none)
  (up : BitVec 8192)
include hans hen hrepair

theorem not_frameCheck_off : ¬ ((!s.on (cfeB d) CFE_CFG.FCHK_EN) = true ∨ (s.chk d).repair.isSome = true ∨
    (!s.answers .cfe d 0) = true) := by
  rw [hans, hen, hrepair]; decide

/-- With no frame left to read the sweep ends, if it has read any (R297). -/
theorem exec_frameCheckRead_of_end (hnext : s.chkNext d (s.chk d).next = none) : exec (.frameCheckRead d up) s = .next (
    if (s.chk d).next = 0 then s else (s.setChk d {}).wrs
      [CFE_CHK_TIME.V.is (cfeB d) ((s.now - (s.chk d).start) / 4000), CFE_CHK_STAT.RUN.is (cfeB d) 0,
       CFE_CHK_STAT.SWEEPS.is (cfeB d) (satAdd CFE_CHK_STAT.SWEEPS.width (s.rd (cfeB d) CFE_CHK_STAT.SWEEPS) 1)]) := by
  change execFrameCheckRead d up s = _
  rw [execFrameCheckRead, if_neg (not_frameCheck_off hans hen hrepair), hnext]
  rfl

/-- A frame read: it agrees with its CRC, or its repair begins, or without a Sett copy it is only counted, and fenced if so configured
(R297 to R299). -/
theorem exec_frameCheckRead_of_frame {k no : Nat} {u v : State} {x : ChkX} (hnext : s.chkNext d (s.chk d).next = some k)
    (hno : no = d.val * 131072 + k) (hu : u = (s.wr (cfeB d) CFE_CHK_STAT.RUN 1).setUpset no (s.upset no ^^^ up.toNat))
    (hx : x = { s.chk d with next := k + 1, start := if (s.chk d).next = 0 then s.now else (s.chk d).start })
    (hv : v = ((u.chkUpset d no).count (cfeB d) CFE_CHK_NOCOPY.V).setChk d x) : exec (.frameCheckRead d up) s = .next (
      if u.frameMismatch no = false then u.setChk d x
      else if ((u.chkUpset d no).region (no / 2048)).slot.isSome = true then (u.chkUpset d no).setChk d { x with repair := some (no, 1) }
      else if v.on (cfeB d) CFE_CFG.NOCOPY_FENCE = true then (v.wr (frB (no / 2048)) FR_CTL.FENCE 1).fenceRefresh (no / 2048)
      else v) := by
  subst hv hx hu hno
  change execFrameCheckRead d up s = _
  rw [execFrameCheckRead, if_neg (not_frameCheck_off hans hen hrepair), hnext]
  simp only [Bool.not_eq_true']
  rfl
end Checking

section Repairing
variable (again : BitVec 8192) (errs : List (Fin 2097152 × Nat))

theorem exec_frameRepair_of_none (h : (s.chk d).repair = none) : exec (.frameRepair d again errs) s = .next s := by
  change execFrameRepair d again errs s = _
  rw [execFrameRepair]
  dsimp only
  rw [h]

variable {no n : Nat} (hrepair : (s.chk d).repair = some (no, n))
include hrepair

/-- A region that is no longer LOADED or has no copy ends the repair (R298, R301). -/
theorem exec_frameRepair_of_gone (h : s.regionState (no / 2048) ≠ frLOADED ∨ (s.region (no / 2048)).slot = none) :
    exec (.frameRepair d again errs) s = .next (s.setChk d { s.chk d with repair := none }) := by
  change execFrameRepair d again errs s = _
  rw [execFrameRepair]
  dsimp only
  rw [hrepair]
  dsimp only
  cases hslot : (s.region (no / 2048)).slot with
  | none => rfl
  | some k =>
    rw [hslot] at h
    exact congrArg _ (if_pos (h.resolve_right (Option.some_ne_none k)))

section Copy
variable {k : Nat} {v : State} (hstate : s.regionState (no / 2048) = frLOADED) (hslot : (s.region (no / 2048)).slot = some k)
include hstate hslot

theorem exec_frameRepair_of_bad_copy (hcopy : (s.settMeets d errs).settFrame k no = (none, v)) :
    exec (.frameRepair d again errs) s = .next ((v.setChk d { s.chk d with repair := none }).chkHard d no) := by
  change execFrameRepair d again errs s = _
  rw [execFrameRepair]
  dsimp only
  rw [hrepair]
  dsimp only
  rw [hslot]
  dsimp only
  rw [if_neg (not_not_intro hstate), hcopy]

/-- The frame is rewritten from its copy; the third mismatch is a hard error (R299, R300). -/
theorem exec_frameRepair_of_copy {content : List Byte} {u : State} (hcopy : (s.settMeets d errs).settFrame k no = (some content, v))
    (hu : u = ((v.frameWrite no content).setUpset no again.toNat).count (cfeB d) CFE_CHK_REPAIR.V) :
    exec (.frameRepair d again errs) s = .next (
      if u.frameMismatch no = false then u.setChk d { s.chk d with repair := none }
      else if n + 1 ≥ 3 then ((u.chkUpset d no).setChk d { s.chk d with repair := none }).chkHard d no
      else (u.chkUpset d no).setChk d { s.chk d with repair := some (no, n + 1) }) := by
  subst hu
  change execFrameRepair d again errs s = _
  rw [execFrameRepair]
  dsimp only
  rw [hrepair]
  dsimp only
  rw [hslot]
  dsimp only
  rw [if_neg (not_not_intro hstate), hcopy]
  simp only [Bool.not_eq_true']
end Copy
end Repairing
end FrameCheck

/-- Settles O38, command by command; the words' third rewrite is R300's third mismatch, which comes after two rewrites. -/
theorem configLoads : Obligations.ConfigLoads := by
  intro s d
  refine ⟨fun hans => ?silent, fun hans hsw => ?held, fun hans hrun => ?starts, fun hans => ?answers,
    fun again errs => exec_frameRepair_of_none again errs, fun again errs no n hrepair => ?repair, ?partRead, fun h hgap => ?timeout,
    fun h => ?inTime, fun fl => ?record, fun h => ?notVerifying, fun hstate hlost => ?verifyLost,
    fun hstate hreach => ⟨exec_cfeSignatureDone_of_failed hstate hreach, ?released, leads_cfeSignatureDone_of_several hstate hreach⟩,
    fun hstate hlost => ?releaseLost, fun hstate hreach k hk => ?tick, fun h => ?notReleasing, fun port => ?offer,
    exec_bootLoadStart_of_not_due, fun hpor hboot howl hidle hackd u hu => ?bootStart, exec_bootFallback_of_busy,
    fun hpor hidle => ?fallback, ?flash⟩
  case silent =>
    have hdrop : ∀ f, (.next (s.atBlock .cfe d 0 f) : Out) = .next s := fun f => congrArg _ (State.atBlock_of_not_answers hans f)
    exact ⟨fun fl => hdrop _, hdrop _, hdrop _, hdrop _, fun v => hdrop _, exec_frameCheckRead_of_off (.inr (.inr hans))⟩
  case held =>
    refine ⟨fun fl => ?_, ?_⟩
    · rw [exec_cfeStart, State.atBlock_of_answers hans, State.cfeStart_of_switching hsw]; rfl
    · rw [exec_cfeCont, State.atBlock_of_answers hans, State.cfeCont_of_switching hsw]; rfl
  case starts =>
    have hstart : ∀ fl, exec (.cfeStart d fl) s = .next (s.cfeStart d fl) := fun fl => by
      rw [exec_cfeStart, State.atBlock_of_answers hans]
    have hcont : exec (.cfeCont d) s = .next (s.cfeCont d) := by rw [exec_cfeCont, State.atBlock_of_answers hans]
    refine ⟨?start, fun h => ?contRefused, fun h u hu => ⟨fun himg => ?contHeader, fun himg => ?contFrames⟩⟩
    case start =>
      rintro fl _ rfl
      refine ⟨fun h => ?_, fun hidle hackd hone hfour hflash => ?_⟩
      · rw [ne_eq d, ← Fin.val_eq_zero_iff] at h
        exact gives_of_exec (by rw [hstart, State.cfeStart_of_refused hrun fl h]; rfl) rfl
      · rw [hstart, State.cfeStart_of_free hrun fl hidle hackd hone hfour fun h => Fin.val_eq_zero_iff.2 (hflash h)]
    case contRefused => exact gives_of_exec (by rw [hcont, State.cfeCont_of_not_waiting hrun h]; rfl) rfl
    case contHeader => rw [hcont, State.cfeCont_of_waiting hrun h hu, if_pos himg]
    case contFrames => rw [hcont, State.cfeCont_of_waiting hrun h hu, if_neg himg]
  case answers =>
    have hcancel : exec (.cfeCancel d) s = .next (s.cfeCancel d) := by rw [exec_cfeCancel, State.atBlock_of_answers hans]
    have hack : exec (.cfeAck d) s = .next (s.cfeAck d) := by rw [exec_cfeAck, State.atBlock_of_answers hans]
    refine ⟨fun h => ?loading, fun h => ?idle, fun h => ?valid, fun h => ?noResult, fun c => ?clear,
      fun up h => exec_frameCheckRead_of_off (h.imp_right .inl) up, fun up hen hrepair => ⟨fun hnext h => ?noSweep,
        fun hnext h => ?sweepEnd, fun k no u x hnext hno hu hx => ?frame⟩⟩
    case loading => rw [hcancel, State.cfeCancel_of_loading h]
    case idle => rw [hcancel, State.cfeCancel_of_idle h]
    case valid => exact gives_of_exec (by rw [hack, State.cfeAck_of_valid h]; rfl) rfl
    case noResult => rw [hack, State.cfeAck_of_none h]
    case clear =>
      exact gives_of_exec (by rw [exec_cfeChkClr, State.atBlock_of_answers hans, State.cfeChkClr_of_bit]; rfl) rfl
    case noSweep => rw [exec_frameCheckRead_of_end hans hen hrepair up hnext, if_pos h]
    case sweepEnd => exact gives_of_exec (by rw [exec_frameCheckRead_of_end hans hen hrepair up hnext, if_neg h]) rfl
    case frame =>
      have hread := exec_frameCheckRead_of_frame hans hen hrepair up hnext hno hu hx rfl
      refine ⟨fun h => ?_, fun h hslot => ?_, ?_⟩
      · rw [hread, if_pos h]
      · rw [hread, if_neg (ne_false_of_eq_true h), if_pos hslot]
      · rintro h hslot _ rfl
        rw [hread, if_neg (ne_false_of_eq_true h), if_neg (by rw [hslot]; exact Bool.false_ne_true)]
  case repair =>
    refine ⟨exec_frameRepair_of_gone again errs hrepair, ?_⟩
    rintro k ⟨copy, v⟩ _ hstate hslot hcopy rfl
    refine ⟨fun hnone => ?badCopy, fun content u hcontent hu => ?copy⟩
    case badCopy =>
      obtain rfl : copy = none := hnone
      exact exec_frameRepair_of_bad_copy again errs hrepair hstate hslot hcopy.symm
    case copy =>
      obtain rfl : copy = some content := hcontent
      rw [exec_frameRepair_of_copy again errs hrepair hstate hslot hcopy.symm hu]
      refine ⟨fun h => by rw [if_pos h], fun h hn => ?_, fun h hn => ?_⟩
      · rw [if_neg (ne_false_of_eq_true h), if_neg (Nat.not_le.2 (Nat.succ_lt_succ hn))]
      · rw [if_neg (ne_false_of_eq_true h), if_pos (Nat.succ_le_succ hn)]
  case partRead =>
    rintro hsrc hleft _ rfl
    exact ⟨fun hstate hlen => gives_of_exec (exec_cfePartReadDone_of_short hsrc hleft (.inl ⟨hstate, hlen⟩)) rfl,
      fun hstate hlen => gives_of_exec (exec_cfePartReadDone_of_short hsrc hleft (.inr ⟨hstate, hlen⟩)) rfl⟩
  case timeout => rw [exec_cfeWaitTimeout, if_pos ⟨h, hgap⟩]
  case inTime =>
    rw [exec_cfeWaitTimeout, if_neg]
    rintro ⟨hwait | hstarved, hgap⟩
    · exact h.elim (fun h => h.1 hwait) (Nat.not_lt.2 hgap)
    · exact h.elim (fun h => ne_true_of_eq_false h.2 hstarved) (Nat.not_lt.2 hgap)
  case record =>
    rw [exec_cfeFrameRecord]
    exact ⟨fun h => by rw [if_pos h], fun h => by rw [if_neg h]⟩
  case notVerifying => rw [exec_cfeSignatureDone, if_pos h]
  case verifyLost => rw [exec_cfeSignatureDone, if_neg (not_not_intro hstate), if_pos hlost]
  case released => intro hok hone; rw [exec_cfeSignatureDone_of_passed hstate hreach hok, if_pos hone]
  case releaseLost => rw [exec_cfeReleaseTick, if_neg (not_not_intro hstate), if_pos hlost]
  case tick =>
    rw [exec_cfeReleaseTick_of_named hstate hreach hk]
    exact ⟨fun h => by rw [if_pos h], fun e he hlt => by rw [if_neg fun h => Nat.not_le.2 hlt (h e he)]⟩
  case notReleasing => rw [exec_cfeReleaseTick, if_pos h]
  case offer =>
    refine ⟨exec_cfeRelayOffer_of_disabled port, fun hen hlock hans => ?_⟩
    rw [exec_cfeRelayOffer_of_enabled port hen hlock hans]
    refine ⟨fun hsw => ?holds, fun hrun h => ?busy, fun hrun hidle hackd => ?accepted⟩
    case holds => rw [if_pos hsw]; rfl
    case busy => rw [if_neg (ne_true_of_eq_false hrun), if_pos h]
    case accepted =>
      rw [if_neg (ne_true_of_eq_false hrun), if_neg]
      exact not_or.2 ⟨not_not_intro hidle, ne_false_of_eq_true hackd⟩
  case bootStart =>
    refine ⟨fun hA hB => ?_, fun h => ⟨fun k => exec_bootLoadStart_of_slot hpor hboot howl hidle hackd hu h,
      exec_bootLoadStart_of_no_slot hpor hboot howl hidle hackd hu h⟩⟩
    rw [exec_bootLoadStart_of_due hpor hboot howl hidle hackd hu, if_pos ⟨hA, hB⟩]
  case fallback =>
    refine ⟨exec_bootFallback_of_settled hpor hidle, exec_bootFallback_of_other hpor hidle, fun k hboot hk => ?first, fun hboot => ?last⟩
    case first =>
      rw [exec_bootFallback_of_first hpor hidle hboot hk]
      exact ⟨fun h => by rw [if_pos h], fun h => by rw [if_neg (ne_true_of_eq_false h)]⟩
    case last =>
      rw [exec_bootFallback_of_flash hpor hidle hboot]
      refine ⟨fun h => by rw [if_pos h], fun hrecen h => ?_⟩
      rw [if_neg]
      rintro (hno | ⟨hidle, hsrc, hstatus⟩)
      · rw [hrecen] at hno; cases hno
      · exact h.elim (· hidle) fun h => h.elim (· hsrc) hstatus
  case flash =>
    rintro fl _ rfl
    rw [exec_recoveryFlashLoad]
    refine ⟨fun hpor hidle hb => by rw [if_pos ⟨hpor, hidle, hb⟩], fun h => ?_⟩
    rw [if_neg]
    rintro ⟨hpor, hidle, hb⟩
    rcases h with h | h | h
    · rw [hpor] at h; cases h
    · exact h hidle
    · rw [hb] at h; cases h

end Sys2Proof.Machine

namespace Sys2Proof.Machine

/-! ## Block writes of Sett (R305 to R309) -/

section BlockWrites
variable {s : State} {d : Fin 4}

/-- Sett of a die once the part `p` of a write stands on the transfer block: the map takes that block, the block replaced is the next
transfer block, and the parts `ps` remain (R305, R306). -/
def SettX.moved (x : SettX) (c : SettCur) (p : SettPart) (ps : List SettPart) : SettX :=
  { x with
    map := KV.set p.blk p.blk x.transfer x.map
    transfer := x.phys p.blk
    wrote := KV.set 0 p.blk x.hours x.wrote
    lineErr := KV.dropRange (p.blk * 1024) (p.blk * 1024 + 1024) x.lineErr
    due := x.due.filter (· != p.blk)
    cur := if ps = [] then none else some { c with parts := ps, tries := 0 } }

/-- The part `p` stored, the map moved, and the count of its passes advanced (R305, R306). -/
def State.settPartStored (s : State) (d : Nat) (c : SettCur) (p : SettPart) (ps : List SettPart) : State :=
  ((s.setSett d ((s.sett d).moved c p ps)).putBytes (settAddr d + p.blk * 0x10000 + p.off) p.data).count
    (stcB d + c.tries * 4) STC_HIST.V

theorem exec_settBlockWriteDone (s : State) (d : Fin 4) (same : Bool) :
    exec (.settBlockWriteDone d same) s = execSettBlockWriteDone d same s := rfl

theorem exec_settBlockWriteDone_of_none (same : Bool) (hcur : (s.sett d).cur = none) :
    exec (.settBlockWriteDone d same) s = .next s := by
  rw [exec_settBlockWriteDone, execSettBlockWriteDone, hcur]

section Writing
variable {c : SettCur} (hcur : (s.sett d).cur = some c)
include hcur

theorem exec_settBlockWriteDone_of_no_parts (same : Bool) (hparts : c.parts = []) :
    exec (.settBlockWriteDone d same) s = .next s := by
  rw [exec_settBlockWriteDone, execSettBlockWriteDone, hcur]
  dsimp only
  rw [hparts]

section Part
variable {p : SettPart} {ps : List SettPart} (hparts : c.parts = p :: ps)
include hparts

/-- A comparison that agrees stores the part; the last part stores the request, and the next request is taken up (R305). -/
theorem exec_settBlockWriteDone_of_same : exec (.settBlockWriteDone d true) s = .next ((State.settKick
    (if ps = [] then ((s.settPass d).settPartStored d c p ps).settStored d c else (s.settPass d).settPartStored d c p ps) d).settRefresh d) := by
  rw [exec_settBlockWriteDone, execSettBlockWriteDone, hcur]
  dsimp only
  rw [hparts]
  rfl

/-- A comparison that differs: the pass is repeated up to 8 times; then a spare becomes the transfer block, or without one the write
fails (R306). -/
theorem exec_settBlockWriteDone_of_differs {u : State} (hu : u = s.settPass d) : exec (.settBlockWriteDone d false) s = .next (
    if c.tries < 8 then u.setSett d { u.sett d with cur := some { c with tries := c.tries + 1 } }
    else match (u.sett d).spares with
      | t :: ts => ((u.setSett d { u.sett d with transfer := t, spares := ts, cur := some { c with tries := 0 } }).raise d 25 none d).settSpares d
      | [] => (((u.setSett d { u.sett d with cur := none }).settFailed d c.req).settKick d).settRefresh d) := by
  subst hu
  rw [exec_settBlockWriteDone, execSettBlockWriteDone, hcur]
  dsimp only
  rw [hparts]
  rfl
end Part
end Writing
end BlockWrites

/-! ## Retention scans and rewrites (R304, R308, R309) -/

section Retention
variable {s : State} {d : Fin 4}

theorem exec_retentionScan_of_not_ready (hours : Nat) (found : ScanFound) (h : s.ready d rdySETT = false) :
    exec (.retentionScan d hours found) s = .next s :=
  congrArg _ (if_pos (by rw [h]; rfl))

/-- A scan adds its hours, and to the blocks due those it finds weak and those that have reached their refresh age (R308, R309). -/
theorem exec_retentionScan_of_ready {hours : Nat} {found : ScanFound} {u : State} (h : s.ready d rdySETT = true)
    (hu : u = (s.settMeets d found.errs).settRead d 0 0x8000000) :
    exec (.retentionScan d hours found) s = .next ((u.setSett d { u.sett d with
      hours := (u.sett d).hours + hours
      due := ((u.sett d).due ++ found.weak.map (·.val) ++ (List.range 2048).filter fun b =>
        refreshAge (KV.get 0 ((u.sett d).phys b) (u.sett d).writes) ≤
          (u.sett d).hours + hours - KV.get 0 b (u.sett d).wrote).eraseDups }).settRefresh d) := by
  subst hu
  exact congrArg _ (if_neg (by rw [h]; exact Bool.false_ne_true))

theorem exec_retentionRewrite (s : State) (d : Fin 4) : exec (.retentionRewrite d) s = execRetentionRewrite d s := rfl

theorem exec_retentionRewrite_of_none (h : (s.sett d).due = []) : exec (.retentionRewrite d) s = .next s := by
  rw [exec_retentionRewrite, execRetentionRewrite]
  dsimp only
  rw [h]

/-- The first block due is asked for once: while its refresh is queued nothing happens (R309). -/
theorem exec_retentionRewrite_of_due {b : Nat} {bs : List Nat} (h : (s.sett d).due = b :: bs) : exec (.retentionRewrite d) s = .next (
    if (s.sett d).queue.contains (.refresh b) = true then s
    else ((s.setSett d { s.sett d with due := bs }).settAsk d (.refresh b)).settRefresh d) := by
  rw [exec_retentionRewrite, execRetentionRewrite]
  dsimp only
  rw [h]
end Retention

/-! ## Records that the Owl writes (R255, R257, R310 to R312, R422) -/

section OwlRecords
variable {s : State} {d : Fin 4}

theorem exec_owlSettingsWrite (s : State) (d : Fin 4) (type key : BitVec 16) (data : List Byte) :
    exec (.owlSettingsWrite d type key data) s = .next (
      if s.owlRuns d = true ∧ 1 ≤ type.toNat ∧ type.toNat < 0x8000 ∧ 1 ≤ data.length ∧ data.length ≤ 65504
      then s.owlRecord d type.toNat key.toNat data else s) := rfl

/-- The byte of a region in the fabric repair record: its spare column, when the Owl's map names one (R255). -/
def State.repairByte (s : State) (r : Nat) : Byte :=
  if s.on (frB r) FR_STAT.SPARE_USED && s.on (frB r) FR_STAT.MAPSRC then BitVec.ofNat 8 (0x80 + s.rd (frB r) FR_STAT.BADCOL) else 0

/-- A running Owl writes the repair record of its die when a region's map has changed (R257). -/
theorem exec_repairRecordWrite {regions : List Nat} (hregions : regions = (List.range 64).map fun n => d.val * 64 + n) :
    exec (.repairRecordWrite d) s = .next (
      if (s.owlRuns d && regions.any fun r => (s.region r).recDue) = true then
        (s.each regions fun r s => s.setRegion r { s.region r with recDue := false }).owlRecord d 0x0301 0 (regions.map s.repairByte)
      else s) := by
  subst hregions
  rfl

/-- The data of a joint's lane record: for each direction, by the receiving die and edge, and each bundle the mask of its retired
lanes (R422). -/
def State.laneRecord (s : State) (dirs : List (Nat × Nat)) : List Byte :=
  dirs.flatMap fun p => (List.range 21).flatMap fun n => leBytes 2 ((List.range 11).foldl (fun m l =>
    if s.role p.1 p.2 n l = roleRETIRED then m + 2 ^ l else m) 0)

theorem exec_laneRecordWrite_of_not_due (h : s.laneRecDue.contains d.val = false) : exec (.laneRecordWrite d) s = .next s :=
  congrArg _ (if_pos (by rw [h]; rfl))

/-- A lane record that is due is written by the Owl of the joint's lower die (R422). -/
theorem exec_laneRecordWrite_of_due {b o : Nat} {dirs : List (Nat × Nat)} (hb : b = (d.val + 1) % 4) (ho : o = min d.val b)
    (hdirs : dirs = if d.val < b then [(b, 1), (d.val, 0)] else [(d.val, 0), (b, 1)]) (h : s.laneRecDue.contains d.val = true) :
    exec (.laneRecordWrite d) s = .next (
      if (!s.owlRuns o) = true then s
      else ({ s with laneRecDue := s.laneRecDue.filter (· != d.val) } : State).owlRecord o 0x0401 d (s.laneRecord dirs)) := by
  subst hb ho hdirs
  exact congrArg _ (if_neg (by rw [h]; exact Bool.false_ne_true))
end OwlRecords

/-! ## Relay of images (R317 to R319) -/

section Relay
variable {s : State}

theorem exec_relayForward (s : State) : exec .relayForward s = execRelayForward s := rfl

theorem exec_relayForward_of_none (h : s.relayOut = []) : exec .relayForward s = .next s := by
  rw [exec_relayForward, execRelayForward, h]

/-- Nothing leaves while four offers are without an answer (R318). -/
theorem exec_relayForward_of_full (h : 4 ≤ (s.sett 0).offers) : exec .relayForward s = .next s := by
  cases hout : s.relayOut with
  | nil => exact exec_relayForward_of_none hout
  | cons c cs =>
    rw [exec_relayForward, execRelayForward, hout]
    exact congrArg _ (if_pos h)

/-- The next child is offered the image through the port that reaches it, or else counts as refused (R318). -/
theorem exec_relayForward_of_free {c : Nat} {cs : List Nat} (hout : s.relayOut = c :: cs) (h : (s.sett 0).offers < 4) :
    exec .relayForward s = .next (match s.routePort c with
      | some p => (({ s with relayOut := cs } : State).setSett 0 { s.sett 0 with offers := (s.sett 0).offers + 1 }).relayAnswer p 2 c
      | none => ({ s with relayOut := cs } : State).count (stcB 0) STC_RELAY_RES.REFUSED) := by
  rw [exec_relayForward, execRelayForward, hout]
  exact congrArg _ (if_neg (Nat.not_le.2 h))

theorem exec_relayAnswer_of_no_offer (h : (s.sett 0).offers = 0) (accepted : Bool) : exec (.relayAnswer accepted) s = .next s :=
  congrArg _ (if_pos h)

/-- An answer ends one offer and is counted (R319). -/
theorem exec_relayAnswer_of_offer {n : Nat} (h : (s.sett 0).offers = n + 1) (accepted : Bool) : exec (.relayAnswer accepted) s =
    .next ((s.setSett 0 { s.sett 0 with offers := n }).count (stcB 0)
      (if accepted then STC_RELAY_RES.SENT else STC_RELAY_RES.REFUSED)) := by
  have hexec : exec (.relayAnswer accepted) s = execRelayAnswer accepted s := rfl
  rw [hexec, execRelayAnswer, h, if_neg (Nat.succ_ne_zero n), Nat.add_sub_cancel]

/-- KIND of a relayed image, from its header (R319). -/
def relayKind (img : List Byte) : Nat := if leAt img 0 4 = 0x4D495847 then 0 else if hdrKind img = 0x10 then 1 else 2

/-- The running command, if there is one, has come by relay. -/
def State.markRelayed (s : State) : State :=
  match s.stc with
  | some k => { s with stc := some { k with relayed := true } }
  | none => s

theorem State.markRelayed_of_none (h : s.stc = none) : s.markRelayed = s := by rw [State.markRelayed, h]
theorem State.markRelayed_of_some {k : StcCmd} (h : s.stc = some k) : s.markRelayed = { s with stc := some { k with relayed := true } } := by
  rw [State.markRelayed, h]

section Offer
variable {port : Fin 24} {len : Nat} {img list : List Byte} {u : State} (himg : img = (s.relayBuf port).take len)
  (hlist : list = (s.relayBuf port).drop len) (hu : u = s.setRelayBuf port [])

include hu in
theorem exec_settRelayOffer_of_closed (h : s.on (stcB 0) STC_CFG.RELAY_EN = false ∨ s.on (dctlB 0) DCTL_DEVNUM.LOCKED = false) :
    exec (.settRelayOffer port len) s = .next (u.relayAnswer port 0 2) := by
  subst hu
  have hclosed : (!s.on (stcB 0) STC_CFG.RELAY_EN) = true ∨ (!s.on (dctlB 0) DCTL_DEVNUM.LOCKED) = true := by
    simpa only [Bool.not_eq_true'] using h
  exact congrArg _ (if_pos hclosed)

include himg hlist hu in
/-- An offer to a device that takes relays: refused while its STC is busy, when the list does not name it once, and for another unit;
else accepted and staged (R319). -/
theorem exec_settRelayOffer_of_open (hen : s.on (stcB 0) STC_CFG.RELAY_EN = true) (hlock : s.on (dctlB 0) DCTL_DEVNUM.LOCKED = true) :
    exec (.settRelayOffer port len) s = .next (
      if (!s.stcFree) = true then u.relayAnswer port 0 1
      else if (relayIndex list s.devnum).isNone = true then u.relayAnswer port 0 3
      else if leAt img 0x0E 2 % 2 = 1 ∧ leAt img 0x10 8 ≠ Config.unitSerial.toNat then u.relayAnswer port 0 4
      else (((u.relayAnswer port 0 0).stcBegin (relayKind img) true).settStage (relayKind img) img list true).markRelayed) := by
  have hopen : ¬((!u.on (stcB 0) STC_CFG.RELAY_EN) = true ∨ (!u.on (dctlB 0) DCTL_DEVNUM.LOCKED) = true) := by
    have hen' : u.on (stcB 0) STC_CFG.RELAY_EN = true := by rw [hu]; exact hen
    have hlock' : u.on (dctlB 0) DCTL_DEVNUM.LOCKED = true := by rw [hu]; exact hlock
    rw [hen', hlock']
    decide
  have hfree : u.stcFree = s.stcFree := by rw [hu]; rfl
  have hdev : u.devnum = s.devnum := by rw [hu]; rfl
  have hexec : exec (.settRelayOffer port len) s = execSettRelayOffer port len s := rfl
  rw [hexec, execSettRelayOffer]
  dsimp only
  rw [← hu, ← himg, ← hlist, if_neg hopen, hfree, hdev, relayKind]
  generalize State.settStage _ _ _ _ _ = v
  rfl
end Offer
end Relay

/-- Settles O40, command by command; that a line's errors stay until its block is written is notes/assumptions/102.md. -/
theorem settStore : Obligations.SettStore := by
  intro s d
  refine ⟨fun same => exec_settBlockWriteDone_of_none same, fun c p ps u hcur hparts hu => ⟨?same, ?repeated, ?spent⟩,
    fun c same hcur => exec_settBlockWriteDone_of_no_parts hcur same, fun h found => exec_retentionScan_of_not_ready h found,
    fun h found u => exec_retentionScan_of_ready, exec_retentionRewrite_of_none, fun b bs hdue => ?rewrite,
    fun t k data hruns hone hlow hdata hmax => ?settings, fun t k data hruns => ?owlStopped, fun regions hregions hruns => ?repair,
    exec_laneRecordWrite_of_not_due, fun b o dirs hb ho hdirs hdue => ?lane, exec_relayForward_of_none, exec_relayForward_of_full,
    fun c cs hout hfree => ?forward, exec_relayAnswer_of_no_offer, fun n hn => ?answer, fun port len img list u himg hlist hu => ?offer⟩
  case same =>
    rintro _ _ _ rfl rfl rfl
    subst hu
    exact exec_settBlockWriteDone_of_same hcur hparts
  case repeated => intro h; rw [exec_settBlockWriteDone_of_differs hcur hparts hu, if_pos h]
  case spent =>
    intro h
    rw [exec_settBlockWriteDone_of_differs hcur hparts hu, if_neg (Nat.not_lt.2 h)]
    exact ⟨fun t ts hspares => by rw [hspares], fun hnone => by rw [hnone]⟩
  case rewrite =>
    rw [exec_retentionRewrite_of_due hdue]
    exact ⟨fun hmem => by rw [if_pos (List.contains_iff_mem.2 hmem)], fun hnew => by rw [if_neg (mt List.contains_iff_mem.1 hnew)]⟩
  case settings =>
    rw [exec_owlSettingsWrite, if_pos ⟨hruns, hone, hlow, hdata, hmax⟩]
    rfl
  case owlStopped =>
    rw [exec_owlSettingsWrite, exec_repairRecordWrite rfl, hruns]
    exact ⟨rfl, rfl⟩
  case repair =>
    rw [exec_repairRecordWrite hregions, hruns, Bool.true_and]
    exact ⟨fun hchanged => by rw [if_pos hchanged]; rfl, fun hnone => by rw [if_neg (ne_true_of_eq_false hnone)]⟩
  case lane =>
    rw [exec_laneRecordWrite_of_due hb ho hdirs hdue]
    exact ⟨fun hstopped => by rw [hstopped, Bool.not_false, if_pos rfl],
      fun hruns => by rw [hruns, Bool.not_true, if_neg Bool.false_ne_true, State.laneRecord]⟩
  case forward =>
    have hforward := exec_relayForward_of_free hout hfree
    refine ⟨fun p hport => ?_, fun hnone => ?_⟩
    · rw [hforward, hport]
    · exact gives_of_exec (by rw [hforward, hnone]; rfl) rfl
  case answer =>
    rintro _ rfl
    exact ⟨gives_of_exec (exec_relayAnswer_of_offer hn true) rfl, gives_of_exec (exec_relayAnswer_of_offer hn false) rfl⟩
  case offer =>
    refine ⟨exec_settRelayOffer_of_closed hu, fun hen hlock => ?_⟩
    rw [exec_settRelayOffer_of_open himg hlist hu hen hlock]
    refine ⟨fun hbusy => by rw [hbusy]; rfl, fun hfree hnone => by rw [hfree, hnone]; rfl, fun hfree hlisted => ?_⟩
    have hsome : (relayIndex list s.devnum).isNone = false := by rwa [Option.isNone_eq_false_iff, Option.isSome_iff_ne_none]
    rw [hfree, hsome, Bool.not_true, if_neg Bool.false_ne_true, if_neg Bool.false_ne_true]
    refine ⟨fun hbound hother => by rw [if_pos ⟨hbound, hother⟩], ?_⟩
    intro hown kd v hkind hv
    have hkd : relayKind img = kd := hkind.symm
    rw [if_neg hown, hkd, ← hv]
    exact ⟨fun hended => congrArg _ (State.markRelayed_of_none hended), fun k hrun => congrArg _ (State.markRelayed_of_some hrun)⟩

end Sys2Proof.Machine

namespace Sys2Proof.Machine

/-! ## Registers of the SACs under what other blocks do -/

/-- The key of a register of a SAC below its ECC groups: the SACs of a die fill sixteen windows of 64 KiB, the groups lie from 0x800. -/
def SacKey (k : Nat) : Prop :=
  0x3200000 ≤ k / 32 % 0x40000000 ∧ k / 32 % 0x40000000 < 0x3300000 ∧ k / 32 % 0x10000 < 0x800

/-- From `s` to `t` no such register changes. -/
structure KeepsSacRegs (s t : State) : Prop where
  rd_eq : ∀ b f, SacKey (f.key b) → t.rd b f = s.rd b f

theorem not_sacKey {b : Nat} {f : Fld} (hlsb : f.lsb < 32) (hout : (b + f.off) % 0x40000000 < 0x3200000 ∨
    0x3300000 ≤ (b + f.off) % 0x40000000 ∨ 0x800 ≤ (b + f.off) % 0x10000) : ¬ SacKey (f.key b) := by
  unfold SacKey Fld.key; omega

/-- A register of SAC `c` or of one of its two channels has such a key. -/
theorem sacKey_sacB {c n : Nat} {f : Fld} (hlsb : f.lsb < 32) (hoff : n + f.off < 0x800) : SacKey (f.key (sacB c + n)) := by
  unfold SacKey Fld.key sacB regBase; omega

section KeepsSacRegs
variable {s t u : State}

theorem KeepsSacRegs.refl (s : State) : KeepsSacRegs s s := ⟨fun _ _ _ => rfl⟩
theorem KeepsSacRegs.trans (h : KeepsSacRegs s t) (h' : KeepsSacRegs t u) : KeepsSacRegs s u :=
  ⟨fun b f hk => (h'.rd_eq b f hk).trans (h.rd_eq b f hk)⟩
/-- A change outside the register file. -/
theorem KeepsSacRegs.of_act (h : KeepsSacRegs s t) (hact : u.act = t.act) : KeepsSacRegs s u :=
  h.trans ⟨fun b f _ => congrArg (KV.get f.rst (f.key b)) hact⟩
theorem KeepsSacRegs.wr (h : KeepsSacRegs s t) {b : Nat} {f : Fld} (hk : ¬ SacKey (f.key b)) (v : Nat) : KeepsSacRegs s (t.wr b f v) :=
  h.trans ⟨fun _ _ hk' => State.rd_wr_ne v fun heq => hk (heq ▸ hk')⟩
theorem KeepsSacRegs.ite {c : Prop} [Decidable c] (ht : KeepsSacRegs s t) (hu : KeepsSacRegs s u) : KeepsSacRegs s (if c then t else u) := by
  split
  · exact ht
  · exact hu
theorem KeepsSacRegs.each {α : Type} {f : α → State → State} (h : KeepsSacRegs s t) (xs : List α)
    (hf : ∀ x ∈ xs, ∀ u, KeepsSacRegs u (f x u)) : KeepsSacRegs s (t.each xs f) := by
  induction xs generalizing t with
  | nil => exact h
  | cons x xs ih => exact ih (h.trans (hf x (.head _) t)) fun y hy => hf y (.tail _ hy)

variable {f : Fld}

theorem KeepsSacRegs.rd_sacB (h : KeepsSacRegs s t) (c : Nat) (hlsb : f.lsb < 32 := by decide) (hoff : f.off < 0x800 := by decide) :
    t.rd (sacB c) f = s.rd (sacB c) f :=
  h.rd_eq _ _ (sacKey_sacB (n := 0) hlsb (by omega))

/-- Writes of registers of a sequencer, a bank, a bank's levels and a die's fault handler. -/
theorem KeepsSacRegs.wrPsq (h : KeepsSacRegs s t) (p v : Nat) (hlsb : f.lsb < 32 := by decide) (hoff : f.off < 0x40000 := by decide) :
    KeepsSacRegs s (t.wr (psqB p) f v) :=
  h.wr (not_sacKey hlsb (by unfold psqB regBase; omega)) v
theorem KeepsSacRegs.wrTcb (h : KeepsSacRegs s t) (b v : Nat) (hlsb : f.lsb < 32 := by decide) (hoff : f.off < 0x10000 := by decide) :
    KeepsSacRegs s (t.wr (tcbB b) f v) :=
  h.wr (not_sacKey hlsb (by unfold tcbB regBase; omega)) v
theorem KeepsSacRegs.wrCh (h : KeepsSacRegs s t) (ch v : Nat) (hlsb : f.lsb < 32 := by decide) (hoff : f.off < 0x20000 := by decide) :
    KeepsSacRegs s (t.wr (chB ch) f v) :=
  h.wr (not_sacKey hlsb (by unfold chB tcbB regBase; omega)) v
theorem KeepsSacRegs.wrAb (h : KeepsSacRegs s t) (b v : Nat) (hlsb : f.lsb < 32 := by decide) (hoff : f.off < 0x10000 := by decide) :
    KeepsSacRegs s (t.wr (abB b) f v) :=
  h.wr (not_sacKey hlsb (by unfold abB arpB regBase; omega)) v
theorem KeepsSacRegs.wrFh (h : KeepsSacRegs s t) (d v : Nat) {n : Nat} (hn : n < 0x10000) (hlsb : f.lsb < 32 := by decide)
    (hoff : f.off < 0x10000 := by decide) : KeepsSacRegs s (t.wr (fhB d + n) f v) :=
  h.wr (not_sacKey hlsb (by unfold fhB regBase; omega)) v

end KeepsSacRegs

/-! ### Halts and the safe state -/

theorem State.sendMsix_keepsSacRegs (s : State) (v : Nat) : KeepsSacRegs s (s.sendMsix v) := ⟨fun _ _ _ => State.rd_sendMsix ..⟩

theorem State.act_sendStop (s : State) (p f : Nat) : (s.sendStop p f).act = s.act := by
  rw [State.sendStop]; split <;> rfl

theorem State.haltPsq_keepsSacRegs (s : State) (p status cause f : Nat) : KeepsSacRegs s (s.haltPsq p status cause f) := by
  rw [State.haltPsq]
  refine .ite ?_ (.refl s)
  extract_lets x b s0 s1 s2 s3 s4 s5 s6 s7 s8 s9 o last idle c0 s10 c s11 s12
  have h0 : KeepsSacRegs s s0 := .ite ((KeepsSacRegs.refl s).of_act (s.act_sendStop p f)) (.refl s)
  have h7 : KeepsSacRegs s s7 := ((((((h0.wrPsq p _).wrPsq p _).wrPsq p _).wrPsq p _).wrPsq p _).wrPsq p _).wrPsq p _
  have h9 : KeepsSacRegs s s9 := ((h7.wrPsq p _).wrPsq p _).wrPsq p _
  have h11 : KeepsSacRegs s s11 := .trans (.ite h9 ((h9.wrPsq p _).wrPsq p _)) (s10.sendMsix_keepsSacRegs _)
  have h12 : KeepsSacRegs s s12 := by
    unfold s12
    split
    · exact h11.trans (s11.sendMsix_keepsSacRegs _)
    · exact h11
  exact h12.of_act rfl

theorem State.pmuEnd_keepsSacRegs (s : State) (b status : Nat) : KeepsSacRegs s (s.pmuEnd b status) := by
  unfold State.pmuEnd
  extract_lets x s1 s2 s3
  have h1 : KeepsSacRegs s s1 := (KeepsSacRegs.refl s).of_act rfl
  exact .ite (.refl s) (((h1.wrAb b _).wrAb b _).wrAb b _)

theorem State.etcEnd_keepsSacRegs (s : State) (b status : Nat) : KeepsSacRegs s (s.etcEnd b status) := by
  rw [State.etcEnd]
  exact .ite (((((KeepsSacRegs.refl s).wrTcb b _).wrTcb b _).wrTcb b _).of_act rfl) (.refl s)

theorem State.pinToSafe_keepsSacRegs (s : State) (ch : Nat) : KeepsSacRegs s (s.pinToSafe ch) := by
  unfold State.pinToSafe
  extract_lets b x s1 s2 s3 s4
  have h1 : KeepsSacRegs s s1 := .ite (s.pmuEnd_keepsSacRegs b 4) (.refl s)
  have h2 : KeepsSacRegs s s2 := .ite (h1.trans (s1.etcEnd_keepsSacRegs b 2)) h1
  have h3 : KeepsSacRegs s s3 := .ite ((h2.wrCh ch _).wrCh ch _) h2
  exact h3.of_act rfl

theorem State.latchPins_keepsSacRegs (s : State) (b mask : Nat) : KeepsSacRegs s (s.latchPins b mask) := by
  rw [State.latchPins]
  exact .ite (.refl s) (((KeepsSacRegs.refl s).wrTcb b _).each _ fun p _ u => u.pinToSafe_keepsSacRegs _)

theorem State.siteSafe_keepsSacRegs (s : State) (st : Nat) : KeepsSacRegs s (s.siteSafe st) := by
  rw [State.siteSafe, State.siteChannelsSafe]
  exact (KeepsSacRegs.ite (s.haltPsq_keepsSacRegs ..) (.refl s)).each _ fun b _ u => .ite (.refl u) (u.latchPins_keepsSacRegs ..)

theorem State.pmuForceOff_keepsSacRegs (s : State) (b : Nat) : KeepsSacRegs s (s.pmuForceOff b) := by
  rw [State.pmuForceOff]
  exact ((s.pmuEnd_keepsSacRegs b 4).wrAb b _).wrAb b _

theorem State.dieSafe_keepsSacRegs (s : State) (d : Nat) : KeepsSacRegs s (s.dieSafe d) := by
  rw [State.dieSafe]
  have hbanks := (KeepsSacRegs.refl s).each (List.range 18) (f := fun k s => (s.latchPins (d * 18 + k) (2 ^ 32 - 1)).pmuForceOff (d * 18 + k))
    fun k _ u => (u.latchPins_keepsSacRegs ..).trans (State.pmuForceOff_keepsSacRegs ..)
  exact (hbanks.each _ fun n _ u => u.haltPsq_keepsSacRegs ..).each _ fun st _ u => u.siteSafe_keepsSacRegs st

/-! ### Fault sources -/

theorem State.packageSafe_keepsSacRegs (s : State) : KeepsSacRegs s s.packageSafe :=
  (KeepsSacRegs.refl s).each _ fun d _ u => u.dieSafe_keepsSacRegs d

theorem State.react_keepsSacRegs (s : State) (d sev : Nat) (sites : List Nat) : KeepsSacRegs s (s.react d sev sites) := by
  unfold State.react
  extract_lets safe s1
  have h1 : KeepsSacRegs s s1 := .ite ((KeepsSacRegs.refl s).of_act rfl) (.refl s)
  exact .ite (h1.trans s1.packageSafe_keepsSacRegs) (.ite (s.dieSafe_keepsSacRegs d)
    (.ite ((KeepsSacRegs.refl s).each _ fun st _ u => u.siteSafe_keepsSacRegs st) (.refl s)))

theorem State.fhLog_keepsSacRegs (s : State) (d src sev : Nat) (site : Option Nat) (inst : Nat) (force esc : Bool) :
    KeepsSacRegs s (s.fhLog d src sev site inst force esc) := by
  unfold State.fhLog
  extract_lets b wp t e w2 s1 s2 s3 s4
  have he : ∀ {t : State} (n v : Nat), n < 16 → KeepsSacRegs s t → KeepsSacRegs s (t.wr (fhB d + (wp % 256 * 16 + n)) FH_LOG.V v) :=
    fun n v hn h => h.wrFh d v (by omega)
  have h4 : KeepsSacRegs s s4 := he 12 _ (by decide) (he 8 _ (by decide) (he 4 _ (by decide) (he 0 _ (by decide) (.refl s))))
  exact .ite ((KeepsSacRegs.refl s).wrFh d _ (n := 0) (by decide)) (h4.wrFh d _ (n := 0) (by decide))

theorem State.fhRefresh_keepsSacRegs (s : State) : KeepsSacRegs s s.fhRefresh := by
  unfold State.fhRefresh
  extract_lets s0
  have h0 : KeepsSacRegs s s0 := .ite ((KeepsSacRegs.refl s).each _ fun d _ u => (KeepsSacRegs.refl u).of_act rfl) (.refl s)
  refine h0.each _ fun d _ u => ?_
  extract_lets was own r irq u1 u2 u3 u4
  have h1 : KeepsSacRegs u u1 := (KeepsSacRegs.refl u).wrFh d _ (n := 0) (by decide)
  have h2 : KeepsSacRegs u u2 := h1.wrFh d _ (n := 0) (by decide)
  have h3 : KeepsSacRegs u u3 := h2.wrFh d _ (n := 0) (by decide)
  have h4 : KeepsSacRegs u u4 := h3.wrFh d _ (n := 0) (by decide)
  exact .ite (h4.trans (u4.sendMsix_keepsSacRegs d)) h4

theorem State.raise_keepsSacRegs (s : State) (d src : Nat) (site : Option Nat) (inst : Nat) : KeepsSacRegs s (s.raise d src site inst) := by
  rw [State.raise]
  split
  case isTrue => exact .refl s
  case isFalse hsrc =>
    have hlt : src < 114 := by simp only [reservedSource, Bool.or_eq_true, decide_eq_true_eq] at hsrc; omega
    unfold State.faultEvent
    extract_lets k x was sites mask x1 x2 s1 s2 s3 s4
    have h1 : KeepsSacRegs s s1 := (KeepsSacRegs.refl s).of_act rfl
    have h2 : KeepsSacRegs s s2 := h1.wrFh d _ (n := src / 32 * 4) (by omega)
    have h3 : KeepsSacRegs s s3 := h2.wrFh d _ (n := src * 4) (by omega)
    have h4 : KeepsSacRegs s s4 := .ite (h3.trans (s3.fhLog_keepsSacRegs ..)) h3
    exact (h4.trans (s4.react_keepsSacRegs ..)).trans (State.fhRefresh_keepsSacRegs _)

/-! ### ECC groups, locks and interrupt hubs -/

/-- Where the registers of an ECC group may lie: below the SACs' windows, above them, or from 0x800 of one. -/
def EgWindow (g : Nat) : Prop := ∃ d m, g = regBase d + m ∧
  (m < 0x3000000 ∨ 0x3300000 ≤ m ∧ m < 0x3310000 ∨ 0x3200000 ≤ m ∧ m < 0x3300000 ∧ 0x800 ≤ m % 0x10000 ∧ m % 0x10000 < 0x900)

theorem egWindow_sac (c : Nat) {k : Nat} (hk : k ≤ 0x60) : EgWindow (sacB c + (0x800 + k)) :=
  ⟨c / 16, 0x3200000 + c % 16 * 0x10000 + (0x800 + k), by unfold sacB; omega, by omega⟩

theorem egroupOf_window {a : Nat} {e : Nat × Nat × Nat} (h : egroupOf a = some e) : EgWindow e.1 := by
  unfold egroupOf at h
  split at h
  case isTrue =>
    extract_lets r at h
    cases h
    exact ⟨r / 64, 0x400000 + 0x10040 + r % 64 * 0x100, by simp only [cfeB]; omega, by omega⟩
  case isFalse => 
    split at h
    case isTrue =>
      extract_lets d o n q at h
      split at h
      case isTrue hsp =>
        cases h
        exact ⟨d, 0x3300000 + 0x800 + o / 0x100000 * 0x60, by simp only [spcB]; omega, by omega⟩
      case isFalse =>
        split at h
        case isTrue =>
          split at h
          case isTrue => cases h; exact egWindow_sac _ (k := 0) (by decide)
          case isFalse =>
            split at h
            case isTrue => cases h; exact egWindow_sac _ (k := 0x60) (by decide)
            case isFalse => cases h
        case isFalse => cases h
    case isFalse =>
      split at h
      case isTrue =>
        extract_lets p at h
        cases h
        exact ⟨p / 4, 0xE00000 + p % 4 * 0x40000 + 0x800, by simp only [psqB]; omega, by omega⟩
      case isFalse =>
        split at h
        case isTrue =>
          extract_lets d at h
          cases h
          exact ⟨d, 0x800, rfl, by omega⟩
        case isFalse => cases h

theorem EgWindow.not_sacKey {g : Nat} (h : EgWindow g) {f : Fld} (hlsb : f.lsb < 32) (hoff : f.off < 0x60) : ¬ SacKey (f.key g) := by
  obtain ⟨d, m, rfl, hm⟩ := h
  exact Machine.not_sacKey hlsb (by unfold regBase; omega)

theorem KeepsSacRegs.wrEg {s t : State} (h : KeepsSacRegs s t) {g : Nat} (hg : EgWindow g) {f : Fld} (v : Nat)
    (hlsb : f.lsb < 32 := by decide) (hoff : f.off < 0x60 := by decide) : KeepsSacRegs s (t.wr g f v) :=
  h.wr (hg.not_sacKey hlsb hoff) v

theorem State.egEvent_keepsSacRegs (s : State) {g : Nat} (hg : EgWindow g) (kind syn addr : Nat) :
    KeepsSacRegs s (s.egEvent g kind syn addr) := by
  unfold State.egEvent
  extract_lets s1 s2 s3
  have hrefl := KeepsSacRegs.refl s
  have h1 : KeepsSacRegs s s1 := .ite (hrefl.wrEg hg _) (.ite (hrefl.wrEg hg _) (hrefl.wrEg hg _))
  have h2 : KeepsSacRegs s s2 := ((h1.wrEg hg _).wrEg hg _).wrEg hg _
  have h3 : KeepsSacRegs s s3 := .ite h1 ((h2.wrEg hg _).wrEg hg _)
  exact h3.trans (s3.raise_keepsSacRegs ..)

theorem State.readWord_keepsSacRegs (s : State) (w : Nat) (noc : Bool) : KeepsSacRegs s (s.readWord w noc) := by
  unfold State.readWord
  split
  · exact .refl s
  next g base n hgroup =>
    have hg : EgWindow g := egroupOf_window hgroup
    have hcount : KeepsSacRegs s (s.eccCount g (s.syndrome w) (w * 8)) := by
      unfold State.eccCount
      split
      · exact s.egEvent_keepsSacRegs hg ..
      · exact .refl s
    exact .ite (.refl s) (.ite (.ite ((KeepsSacRegs.refl s).wrEg hg _) (.refl s)) hcount)

theorem State.countChip_keepsSacRegs (s : State) (a n : Nat) (noc : Bool) : KeepsSacRegs s (s.countChip a n noc) :=
  (KeepsSacRegs.refl s).each _ fun w _ u => u.readWord_keepsSacRegs w noc

theorem State.orphanOwner_keepsSacRegs (s : State) (o : Nat) : KeepsSacRegs s (s.orphanOwner o) := by
  refine (KeepsSacRegs.refl s).each _ fun i _ u => .ite ?_ (.refl u)
  have hlck : ∀ {t : State} {f : Fld} (n v : Nat), f.lsb < 32 → f.off < 0x1000 → n < 0x1000 → KeepsSacRegs u t →
      KeepsSacRegs u (t.wr (lckB (i / 64) + n) f v) :=
    fun n v hlsb hoff hn h => h.wr (not_sacKey hlsb (by unfold lckB regBase; omega)) v
  unfold State.orphanLock
  extract_lets u1
  have h1 : KeepsSacRegs u u1 := hlck _ _ (by decide) (by decide) (by omega) (hlck _ _ (by decide) (by decide) (by omega) (.refl u))
  exact (hlck 0 _ (by decide) (by decide) (by decide) h1).trans (State.raise_keepsSacRegs ..)

theorem State.hubEvent_keepsSacRegs (s : State) (sp code : Nat) {line : Nat} (hline : line < 80) : KeepsSacRegs s (s.hubEvent sp line code) := by
  have hih : ∀ {t : State} {f : Fld} (n v : Nat), f.lsb < 32 → f.off < 0x10000 → n < 0x1000 → KeepsSacRegs s t →
      KeepsSacRegs s (t.wr (ihB sp + n) f v) :=
    fun n v hlsb hoff hn h => h.wr (not_sacKey hlsb (by unfold ihB spcB regBase; omega)) v
  exact hih (line * 4) _ (by decide) (by decide) (by omega) (hih (line * 4) _ (by decide) (by decide) (by omega)
    (hih (line / 32 * 4) _ (by decide) (by decide) (by omega) (.refl s)))

end Sys2Proof.Machine

namespace Sys2Proof.Machine

/-! ## The issue of a SAC's instruction (R338, R345 to R347, R389) -/

theorem bits_eq_zero_of_mod {w k l n : Nat} (h : w % 2 ^ k = 0) (hk : l + n ≤ k) : bits w l n = 0 := by
  obtain ⟨q, rfl⟩ := Nat.dvd_of_mod_eq_zero h
  obtain ⟨m, rfl⟩ := Nat.exists_eq_add_of_le hk
  rw [bits, show 2 ^ (l + n + m) * q = 2 ^ l * (2 ^ n * (2 ^ m * q)) by ring, Nat.mul_div_cancel_left _ (Nat.two_pow_pos l),
    Nat.mul_mod_right]

theorem bits_zero_left (w n : Nat) : bits w 0 n = w % 2 ^ n := by rw [bits, Nat.pow_zero, Nat.div_one]

theorem bitAt_putBit_self (v i : Nat) : bitAt (putBit v i true) i = true := by
  have hpos := Nat.two_pow_pos i
  have hle : v / 2 ^ i % 2 ≤ v / 2 ^ i := Nat.mod_le ..
  have hdiv : (v - v / 2 ^ i % 2 * 2 ^ i + 2 ^ i) / 2 ^ i = v / 2 ^ i - v / 2 ^ i % 2 + 1 := by
    rw [Nat.add_div_right _ hpos, Nat.mul_comm, Nat.sub_mul_div]
  simp only [bitAt, putBit, putBits, bits, Bool.toNat_true, pow_one, Nat.one_mod, Nat.one_mul, hdiv, beq_iff_eq]
  omega

section Issue
variable {s : State} {c : Fin 64} {w op : Nat} {i : Instr} {f : SacFn}

/-- The core as an instruction finds it: a boundary passed (R356, R389). -/
def SacX.fetched (x : SacX) : SacX := { x with point := false, passCmp := false }

/-- Each of the 44 commands issues the word at the pc if it has the command's opcode. -/
theorem SacCommand.exec_eq (h : SacCommand c op i f) : exec i s = .next (s.sacIssue c (· == op) f) := by
  refine (List.map_inj_left (f := fun k : Nat × Instr × SacFn => exec k.2.1 s) (g := fun k => .next (s.sacIssue c (· == k.1) k.2.2))).1 ?_ _ h
  rfl

theorem exec_sacReservedOpcode : exec (.sacReservedOpcode c) s = .next (s.sacIssue c (fun op => (sacMeaning op).isNone) opReserved) := rfl

theorem State.sac_sacFetch (s : State) (c : Nat) : (s.sacFetch c).sac c = (s.sac c).fetched := State.sac_setSac_self ..

theorem State.sacFetch_keepsSacRegs (s : State) (c : Nat) : KeepsSacRegs s (s.sacFetch c) :=
  (s.countChip_keepsSacRegs ..).of_act (State.setSac_act ..)

/-- A word that the core is about to execute, and that the command admits, runs its meaning. -/
theorem SacAt.sacIssue_eq (h : SacAt s c w) {is : Nat → Bool} (his : is (bits w 26 6) = true) :
    s.sacIssue c is f = State.sacAfter c ((s.sacFetch c).sac c) (f (s.sacFetch c) c w) := by
  obtain ⟨hclk, hrun, hend, hpoint, hcmp, hword⟩ := h
  have hgo : ¬ ((!s.sacClocked c) = true ∨ s.sacState c ≠ sacRUN ∨ ((s.sac c).lact = true ∧ (s.sac c).pc = (s.sac c).past) ∨
      ((s.sac c).atPoint = true ∧ ((s.sac c).takeable = true ∨ (s.sac c).haltReq = true)) ∨ (!is (bits w 26 6)) = true) := by
    rintro (hc | hr | ⟨hl, hp⟩ | ⟨ha, ht | hh⟩ | hi)
    · rw [hclk] at hc; cases hc
    · exact hr hrun
    · exact hend hl hp
    · rw [(hpoint ha).1] at ht; cases ht
    · rw [(hpoint ha).2] at hh; cases hh
    · rw [his] at hi; cases hi
  have hreq : ((s.sac c).haltReq || (none : Option Nat) == some 0) = (s.sac c).haltReq := Bool.or_false _
  unfold State.sacIssue
  simp only [hword, hcmp, if_neg hgo, reduceCtorEq, false_and, if_false, Bool.false_eq_true, hreq]
  rw [State.sac_sacFetch, State.sacFetch, SacX.fetched]

/-- Of another word it does nothing. -/
theorem SacAt.sacIssue_of_other (h : SacAt s c w) {is : Nat → Bool} (his : is (bits w 26 6) = false) : s.sacIssue c is f = s := by
  obtain ⟨-, -, -, -, -, hword⟩ := h
  unfold State.sacIssue
  exact if_pos (.inr (.inr (.inr (.inr (by rw [hword, his]; rfl)))))

theorem State.sacIssue_of_rest (is : Nat → Bool) (h : s.sacClocked c = false ∨ s.sacState c ≠ sacRUN ∨
    ((s.sac c).lact = true ∧ (s.sac c).pc = (s.sac c).past) ∨
    ((s.sac c).atPoint = true ∧ ((s.sac c).takeable = true ∨ (s.sac c).haltReq = true))) : s.sacIssue c is f = s := by
  unfold State.sacIssue
  refine if_pos ?_
  rw [Bool.not_eq_true']
  rcases h with hclk | hrun | hend | hpoint
  · exact .inl hclk
  · exact .inr (.inl hrun)
  · exact .inr (.inr (.inl hend))
  · exact .inr (.inr (.inr (.inl hpoint)))

theorem SacAt.exec_eq (h : SacAt s c w) (hi : exec i s = .next (s.sacIssue c (· == op) f)) (hop : op = bits w 26 6) :
    exec i s = .next (State.sacAfter c (s.sac c).fetched (f (s.sacFetch c) c w)) := by
  rw [hi, h.sacIssue_eq (is := (· == op)) (beq_iff_eq.2 hop.symm), State.sac_sacFetch]

theorem State.sacStepEnd_of_running (h : (s.sac c).stepping = false) : s.sacStepEnd c = s :=
  if_neg fun hs => ne_true_of_eq_false h hs.1

end Issue

/-! ## The pipeline behind an instruction (R345) -/

section Pipeline
variable {x y : SacX} {r v pc : Nat}

/-- The writes that still wait after one instruction more. -/
def SacX.waiting (x : SacX) : List SacPend := (x.pend.filter fun p => !decide (p.left ≤ 1)).map fun p => { p with left := p.left - 1 }

theorem SacX.foldl_apply_eq (ps : List SacPend) (x : SacX) : ps.foldl SacX.apply x = { x with regs := (ps.foldl SacX.apply x).regs } := by
  induction ps generalizing x with
  | nil => rfl
  | cons p ps ih => rw [List.foldl_cons, ih (x.apply p)]; rfl

/-- One instruction further, registers and waiting writes alone have changed. -/
theorem SacX.advance_eq (x : SacX) : x.advance = { x with regs := x.advance.regs, pend := x.waiting } :=
  SacX.foldl_apply_eq ..

theorem SacX.pc_advance (x : SacX) : x.advance.pc = x.pc := by rw [SacX.advance_eq]
theorem SacX.pc_drain (x : SacX) : x.drain.pc = x.pc :=
  (SacX.pc_advance _).trans ((SacX.pc_advance _).trans (SacX.pc_advance x))

/-- Whatever follows, the end of an instruction leaves EXC and the sticky bits. -/
theorem SacX.next_keeps (x y : SacX) : (x.next y).exc = y.exc ∧ (x.next y).sticky = y.sticky := by
  unfold SacX.next
  rw [SacX.advance_eq]
  dsimp only
  repeat' split
  all_goals exact ⟨rfl, rfl⟩

/-- The core `x` after an instruction that leaves it as `y` and continues at `pc`. -/
def SacX.retire (x y : SacX) (pc : Nat) : SacX := { ({ y with accOld := x.acc } : SacX).advance with pc := pc }

theorem SacX.retire_eq (x y : SacX) (pc : Nat) : x.retire y pc = { y with
    accOld := x.acc, regs := (x.retire y pc).regs, pend := y.waiting, pc := pc } := by
  unfold SacX.retire; rw [SacX.advance_eq]; rfl

@[simp] theorem SacX.retire_acc : (x.retire y pc).acc = y.acc := by rw [SacX.retire_eq]
@[simp] theorem SacX.retire_accOld : (x.retire y pc).accOld = x.acc := by rw [SacX.retire_eq]
@[simp] theorem SacX.retire_ptrs : (x.retire y pc).ptrs = y.ptrs := by rw [SacX.retire_eq]
@[simp] theorem SacX.retire_pend : (x.retire y pc).pend = y.waiting := by rw [SacX.retire_eq]
@[simp] theorem SacX.retire_pc : (x.retire y pc).pc = pc := by rw [SacX.retire_eq]
@[simp] theorem SacX.retire_shift : (x.retire y pc).shift = y.shift := by rw [SacX.retire_eq]
@[simp] theorem SacX.retire_esum : (x.retire y pc).esum = y.esum := by rw [SacX.retire_eq]
@[simp] theorem SacX.retire_big : (x.retire y pc).big = y.big := by rw [SacX.retire_eq]
@[simp] theorem SacX.retire_rrb : (x.retire y pc).rrb = y.rrb := by rw [SacX.retire_eq]
@[simp] theorem SacX.retire_lc : (x.retire y pc).lc = y.lc := by rw [SacX.retire_eq]
@[simp] theorem SacX.retire_flags : (x.retire y pc).flags = y.flags := by rw [SacX.retire_eq]
@[simp] theorem SacX.retire_sticky : (x.retire y pc).sticky = y.sticky := by rw [SacX.retire_eq]
@[simp] theorem SacX.retire_exc : (x.retire y pc).exc = y.exc := by rw [SacX.retire_eq]
@[simp] theorem SacX.retire_lact : (x.retire y pc).lact = y.lact := by rw [SacX.retire_eq]
@[simp] theorem SacX.retire_epc : (x.retire y pc).epc = y.epc := by rw [SacX.retire_eq]
@[simp] theorem SacX.retire_ien : (x.retire y pc).ien = y.ien := by rw [SacX.retire_eq]
@[simp] theorem SacX.retire_gie : (x.retire y pc).gie = y.gie := by rw [SacX.retire_eq]
@[simp] theorem SacX.retire_xst : (x.retire y pc).xst = y.xst := by rw [SacX.retire_eq]
@[simp] theorem SacX.retire_slots : (x.retire y pc).slots = y.slots := by rw [SacX.retire_eq]
@[simp] theorem SacX.retire_rpt : (x.retire y pc).rpt = y.rpt := by rw [SacX.retire_eq]
@[simp] theorem SacX.retire_first : (x.retire y pc).first = y.first := by rw [SacX.retire_eq]
@[simp] theorem SacX.retire_past : (x.retire y pc).past = y.past := by rw [SacX.retire_eq]
@[simp] theorem SacX.retire_point : (x.retire y pc).point = y.point := by rw [SacX.retire_eq]
@[simp] theorem SacX.retire_stack : (x.retire y pc).stack = y.stack := by rw [SacX.retire_eq]
@[simp] theorem SacX.retire_stepping : (x.retire y pc).stepping = y.stepping := by rw [SacX.retire_eq]
@[simp] theorem SacX.phys_retire : (x.retire y pc).phys r = y.phys r := by rw [SacX.phys, SacX.retire_rrb, SacX.phys]
@[simp] theorem SacX.half_retire (k h : Nat) : (x.retire y pc).half k h = y.half k h := by rw [SacX.half, SacX.retire_acc, SacX.half]
@[simp] theorem SacX.ptr_retire (k : Nat) : (x.retire y pc).ptr k = y.ptr k := by rw [SacX.ptr, SacX.retire_ptrs, SacX.ptr]

theorem SacX.next_of_straight (h : x.inUnit = false) (y : SacX) : x.next y = x.retire y ((x.pc + 1) % 8192) := by
  obtain ⟨hslots, hrpt⟩ := Bool.or_eq_false_iff.1 h
  rw [Option.isSome_eq_false_iff, Option.isNone_iff_eq_none] at hslots hrpt
  rw [SacX.next, hslots, hrpt]
  rfl

/-- A write that takes effect sets both halves or one. -/
theorem SacX.regs_apply_self (x : SacX) (p : SacPend) : ∃ old, KV.get 0 p.reg (x.apply p).regs =
    (if p.part % 2 = 1 then p.val % 2 ^ 16 else old % 2 ^ 16) + (if p.part ≥ 2 then bits p.val 16 16 else bits old 16 16) * 2 ^ 16 :=
  ⟨_, KV.get_set_self ..⟩

/-- Of the writes that take effect together the one issued last stays. -/
theorem SacX.reg_retire_send (x y : SacX) (r v pc part : Nat) : ∃ old, (x.retire (y.send r v 1 part) pc).reg r =
    (if part % 2 = 1 then v % 2 ^ 16 else old % 2 ^ 16) + (if part ≥ 2 then bits v 16 16 else bits old 16 16) * 2 ^ 16 := by
  have hlast : (y.send r v 1 part).pend.filter (fun p => decide (p.left ≤ 1)) =
      (y.pend.filter fun p => decide (p.left ≤ 1)) ++ [⟨y.phys r, v, part, 1⟩] := List.filter_append ..
  have hdue : ∃ z : SacX, (x.retire (y.send r v 1 part) pc).regs = (z.apply ⟨y.phys r, v, part, 1⟩).regs := by
    unfold SacX.retire SacX.advance
    simp only [hlast, List.foldl_append]
    exact ⟨_, rfl⟩
  obtain ⟨z, hz⟩ := hdue
  rw [SacX.reg, hz, SacX.phys_retire]
  exact z.regs_apply_self ⟨y.phys r, v, part, 1⟩

theorem SacX.reg_retire_send_whole (x y : SacX) (r v pc : Nat) : (x.retire (y.send r v 1) pc).reg r = v % 2 ^ 32 := by
  obtain ⟨old, h⟩ := SacX.reg_retire_send x y r v pc 3
  rw [h, if_pos (by decide), if_pos (by decide), bits]
  omega

/-- A write that is not yet due waits on, one instruction nearer. -/
theorem SacX.mem_waiting {p : SacPend} (h : p ∈ x.pend) (hl : 1 < p.left) : { p with left := p.left - 1 } ∈ x.waiting :=
  List.mem_map.2 ⟨p, List.mem_filter.2 ⟨h, by simpa using hl⟩, rfl⟩

theorem SacX.mem_waiting_send (x : SacX) (r v : Nat) {l : Nat} (hl : 0 < l) : ⟨x.phys r, v, 3, l⟩ ∈ (x.send r v (l + 1)).waiting :=
  SacX.mem_waiting (p := ⟨x.phys r, v, 3, l + 1⟩) (List.mem_append_right _ (.head _)) (Nat.succ_lt_succ hl)

end Pipeline

section Leads
variable {s u : State} {c : Fin 64} {w op pc : Nat} {i : Instr} {f : SacFn} {P : State → Prop} (h : SacAt s c w)
include h

/-- An instruction outside delay slots and repetitions that is done: its core goes on to the next word. -/
theorem SacAt.leads_ok (hi : exec i s = .next (s.sacIssue c (· == op) f)) (hop : op = bits w 26 6) (hunit : (s.sac c).inUnit = false)
    (hf : f (s.sacFetch c) c w = .ok u) (hstep : (u.sac c).stepping = false)
    (hP : P (u.setSac c ((s.sac c).retire (u.sac c) (((s.sac c).pc + 1) % 8192)))) : Leads i s P := by
  refine ⟨_, h.exec_eq hi hop, ?_⟩
  have hnext : (s.sac c).fetched.next (u.sac c) = (s.sac c).retire (u.sac c) (((s.sac c).pc + 1) % 8192) := SacX.next_of_straight hunit _
  rw [hf, State.sacAfter, hnext, State.sacStepEnd_of_running]
  · exact hP
  · rw [State.sac_setSac_self, SacX.retire_stepping]; exact hstep

/-- One that continues elsewhere. -/
theorem SacAt.leads_go (hi : exec i s = .next (s.sacIssue c (· == op) f)) (hop : op = bits w 26 6)
    (hf : f (s.sacFetch c) c w = .go u pc) (hstep : (u.sac c).stepping = false)
    (hP : P (u.setSac c ((s.sac c).retire (u.sac c) pc))) : Leads i s P := by
  refine ⟨_, h.exec_eq hi hop, ?_⟩
  have hafter : State.sacAfter c (s.sac c).fetched (.go u pc) = (u.setSac c ((s.sac c).retire (u.sac c) pc)).sacStepEnd c := rfl
  rw [hf, hafter, State.sacStepEnd_of_running]
  · exact hP
  · rw [State.sac_setSac_self, SacX.retire_stepping]; exact hstep

/-- One that raises an exception. -/
theorem SacAt.exec_bad {cause d : Nat} (hi : exec i s = .next (s.sacIssue c (· == op) f)) (hop : op = bits w 26 6)
    (hf : f (s.sacFetch c) c w = .bad u cause d) : exec i s = .next ((u.sacExcept c cause d).sacStepEnd c) := by
  rw [h.exec_eq hi hop, hf, State.sacAfter]

variable {ok : Bool} {g : SacX → SacX}

/-- One that touches the core's registers alone. -/
theorem SacAt.leads_core {y : SacX} (hi : exec i s = .next (s.sacIssue c (· == op) f)) (hop : op = bits w 26 6)
    (hunit : (s.sac c).inUnit = false) (hf : f (s.sacFetch c) c w = .ok (u.setSac c y)) (hstep : y.stepping = false)
    (hP : ∀ t, t.sac c = (s.sac c).retire y (((s.sac c).pc + 1) % 8192) → P t) : Leads i s P := by
  refine h.leads_ok hi hop hunit hf ?_ (hP _ ?_)
  · rw [State.sac_setSac_self]; exact hstep
  · rw [State.sac_setSac_self, State.sac_setSac_self]

theorem SacAt.leads_pure (hi : exec i s = .next (s.sacIssue c (· == op) f)) (hop : op = bits w 26 6)
    (hunit : (s.sac c).inUnit = false) (hf : f (s.sacFetch c) c w = sacPure ok g (s.sacFetch c) c w) (hok : ok = true)
    (hstep : (g (s.sac c).fetched).stepping = false)
    (hP : ∀ t, t.sac c = (s.sac c).retire (g (s.sac c).fetched) (((s.sac c).pc + 1) % 8192) → P t) : Leads i s P := by
  refine h.leads_core (u := s.sacFetch c) hi hop hunit ?_ hstep hP
  rw [hf, sacPure, if_pos hok, State.sac_sacFetch]

end Leads
end Sys2Proof.Machine

namespace Sys2Proof.Machine

/-! ## What the computing instructions leave (R332 to R345, R364) -/

section Values
variable {x : SacX}

theorem satI_self_iff {n : Nat} {v : Int} : (satI n v != v) = true ↔ v < -2 ^ (n - 1) ∨ 2 ^ (n - 1) ≤ v := by
  have hpos : (0 : Int) < 2 ^ (n - 1) := by positivity
  rw [bne_iff_ne, satI]; omega

theorem cplx_mod (r m : Int) : cplx r m % 2 ^ 32 = cplx r m := by
  refine Nat.mod_eq_of_lt ?_
  have h (v : Int) : wrapI 16 v < 2 ^ 16 := by unfold wrapI; omega
  have := h r; have := h m
  unfold cplx; omega

theorem SacX.mark_eq (x : SacX) (i : Nat) (b : Bool) : x.mark i b = { x with sticky := if b then putBit x.sticky i true else x.sticky } := by
  cases b <;> rfl

theorem bitAt_sticky_mark (x : SacX) (i : Nat) (b : Bool) : bitAt (x.mark i b).sticky i = true ↔ bitAt x.sticky i = true ∨ b = true := by
  rw [SacX.mark_eq]
  cases b
  · simp
  · simp [bitAt_putBit_self]

/-- The two halves set, every other as before (R342). -/
theorem SacX.get_acc_setAcc (x : SacX) (i j : Nat) (r m : Int) : KV.get 0 j (x.setAcc i r m).acc =
    if j = 2 * i + 1 then satI 40 m else if j = 2 * i then satI 40 r else KV.get 0 j x.acc := by
  rw [SacX.setAcc, SacX.mark_eq]
  exact (KV.get_set ..).trans (by rw [KV.get_set])

theorem SacX.half_setAcc_re (x : SacX) (i : Nat) (r m : Int) : (x.setAcc i r m).half i 0 = satI 40 r := by
  rw [SacX.half, SacX.get_acc_setAcc, if_neg (by omega), if_pos (by omega)]
theorem SacX.half_setAcc_im (x : SacX) (i : Nat) (r m : Int) : (x.setAcc i r m).half i 1 = satI 40 m := by
  rw [SacX.half, SacX.get_acc_setAcc, if_pos rfl]
theorem SacX.half_setAcc_ne (x : SacX) {i j h : Nat} (hj : j ≠ i) (hh : h < 2) (r m : Int) : (x.setAcc i r m).half j h = x.half j h := by
  rw [SacX.half, SacX.get_acc_setAcc, if_neg (by omega), if_neg (by omega)]; rfl
theorem SacX.stepping_setAcc (x : SacX) (i : Nat) (r m : Int) : (x.setAcc i r m).stepping = x.stepping := by
  rw [SacX.setAcc, SacX.mark_eq]

theorem satI_eq_self {n : Nat} {v : Int} (h : -2 ^ (n - 1) ≤ v ∧ v < 2 ^ (n - 1)) : satI n v = v := by unfold satI; omega

theorem re_bound (v : Nat) : -32768 ≤ re v ∧ re v < 32768 := by unfold re sgn; dsimp only; split <;> omega
theorem im_bound (v : Nat) : -32768 ≤ im v ∧ im v < 32768 := re_bound (v / 2 ^ 16)

end Values

/-- Four conditions as FLAGS holds them (R338). -/
theorem bitAt_flags (p q r u : Bool) : let v := p.toNat + q.toNat * 2 + r.toNat * 4 + u.toNat * 8
    bitAt v 0 = p ∧ bitAt v 1 = q ∧ bitAt v 2 = r ∧ bitAt v 3 = u := by
  revert p q r u; decide

theorem SacX.half_foldl_clear {p : Nat → Bool} {k h : Nat} (hh : h < 2) (l : List Nat) (x : SacX) (hk : x.half k h = 0 ∨ k ∈ l ∧ p k = true) :
    (l.foldl (fun x i => if p i then x.setAcc i 0 0 else x) x).half k h = 0 := by
  induction l generalizing x with
  | nil => exact hk.resolve_right fun hmem => nomatch hmem.1
  | cons j l ih =>
    rw [List.foldl_cons]
    refine ih _ ?_
    by_cases hj : p j = true ∧ j = k
    · obtain ⟨hp, rfl⟩ := hj
      rw [if_pos hp]
      interval_cases h
      · exact .inl (SacX.half_setAcc_re ..)
      · exact .inl (SacX.half_setAcc_im ..)
    · have hhalf : (if p j = true then x.setAcc j 0 0 else x).half k h = x.half k h := by
        split
        next hp => exact SacX.half_setAcc_ne x (fun hkj => hj ⟨hp, hkj.symm⟩) hh 0 0
        next => rfl
      rw [hhalf]
      refine hk.imp_right fun ⟨hmem, hp⟩ => ⟨(List.mem_cons.1 hmem).resolve_left fun hkj => hj ⟨hkj ▸ hp, hkj.symm⟩, hp⟩

theorem SacX.stepping_foldl_clear (p : Nat → Bool) (l : List Nat) (x : SacX) :
    (l.foldl (fun x i => if p i then x.setAcc i 0 0 else x) x).stepping = x.stepping := by
  induction l generalizing x with
  | nil => rfl
  | cons j l ih =>
    rw [List.foldl_cons, ih]
    split
    · exact SacX.stepping_setAcc ..
    · rfl

/-- What one accumulator's move sends, and what it notes (R343 to R345). -/
def SacX.moved (x : SacX) (k : Nat) : Nat :=
  cplx (satI 16 (x.scaled (KV.get 0 (2 * k) x.accOld))) (satI 16 (x.scaled (KV.get 0 (2 * k + 1) x.accOld)))

theorem SacX.moveOut_eq (x : SacX) (k r : Nat) : x.moveOut k r = { x with
    big := (x.moveOut k r).big, sticky := (x.moveOut k r).sticky, pend := x.pend ++ [⟨x.phys r, x.moved k, 3, 2⟩] } := by
  simp only [SacX.moveOut, SacX.mark_eq]
  rfl

theorem SacX.moveOut_sov (x : SacX) (k r : Nat) : bitAt (x.moveOut k r).sticky stSOV = true ↔ bitAt x.sticky stSOV = true ∨
    ∃ j < 2, ∃ h : Int, h = x.scaled (KV.get 0 (2 * k + j) x.accOld) ∧ (h < -32768 ∨ 32767 < h) := by
  have hout (v : Int) : (satI 16 v != v) = true ↔ v < -32768 ∨ 32767 < v := by
    rw [satI_self_iff]; omega
  refine (bitAt_sticky_mark ..).trans (or_congr .rfl ?_)
  rw [Bool.or_eq_true, hout, hout]
  constructor
  · rintro (hre | him)
    · exact ⟨0, by decide, _, rfl, hre⟩
    · exact ⟨1, by decide, _, rfl, him⟩
  · rintro ⟨j, hj, v, rfl, hv⟩
    interval_cases j
    · exact .inl hv
    · exact .inr hv

/-! ### Special registers (R335) -/

section SpecialRegisters
variable {x : SacX} {n v : Nat}

/-- A pointer with its field number `f` set (R337). -/
def SacPtr.withField (q : SacPtr) (f v : Nat) : SacPtr :=
  match f with
  | 0 => { q with p := v }
  | 1 => { q with ps := v }
  | 2 => { q with pb := v }
  | 3 => { q with pl := v }
  | _ => { q with cfg := v }

theorem SacX.ptr_setPtr_self (x : SacX) (k : Nat) (q : SacPtr) : (x.setPtr k q).ptr k = q := KV.get_set_self ..

theorem SacX.rrb_writeSR (x : SacX) (v : Nat) : (x.writeSR 1 v).rrb = v % 32 := by rw [SacX.writeSR, SacX.mark_eq]
theorem SacX.lc_writeSR (x : SacX) (v : Nat) : (x.writeSR 2 v).lc = v % 2 ^ 16 := by rw [SacX.writeSR, SacX.mark_eq]
theorem SacX.flags_writeSR (x : SacX) (v : Nat) : (x.writeSR 3 v).flags = v % 16 := by rw [SacX.writeSR, SacX.mark_eq]
theorem SacX.epc_writeSR (x : SacX) (v : Nat) : (x.writeSR 4 v).epc = v % 2 ^ 13 := by rw [SacX.writeSR, SacX.mark_eq]
theorem SacX.ien_writeSR (x : SacX) (v : Nat) : (x.writeSR 7 v).ien = v % 16 ∧ (x.writeSR 7 v).gie = bitAt v 31 := by
  rw [SacX.writeSR, SacX.mark_eq]; exact ⟨rfl, rfl⟩

/-- From 16 on, the special registers are the pointers' addresses and steps. -/
theorem SacX.ptrs_writeSR (x : SacX) (v : Nat) (hn : 16 ≤ n) : (x.writeSR n v).ptrs = (if n < 24 then
    x.setPtr (n - 16) { x.ptr (n - 16) with p := v % 2 ^ 15 } else x.setPtr (n - 24) { x.ptr (n - 24) with ps := v % 2 ^ 16 }).ptrs := by
  rw [SacX.writeSR, SacX.mark_eq]
  all_goals omega

theorem SacX.stepping_writeSR (x : SacX) (n v : Nat) : (x.writeSR n v).stepping = x.stepping := by
  unfold SacX.writeSR
  rw [SacX.mark_eq]
  dsimp only
  repeat' split
  all_goals rfl

theorem State.sacSR_of_keeps {s t : State} (h : KeepsSacRegs s t) (c : Nat) (x : SacX) (n : Nat) : t.sacSR c x n = s.sacSR c x n := by
  unfold State.sacSR
  rw [h.rd_sacB c, h.rd_sacB c]

end SpecialRegisters

section Formats
variable {s : State} {c w : Nat}

/-- Access codes 0 and 1 leave the pointers alone (R333). -/
theorem State.postModify_of_keep (s : State) (x : SacX) (pa pb : Nat) {ma mb : Nat} (ha : ma < 2) (hb : mb < 2) :
    s.postModify x pa ma pb mb = (x, s) := by
  simp [State.postModify, Nat.not_le.2 ha, Nat.not_le.2 hb]

theorem State.bankStall_of_one (s : State) (c : Nat) (x : SacX) (pa ma pb : Nat) : s.bankStall c x pa ma pb 0 = s :=
  if_neg fun h => h.2.1 rfl

theorem State.sacLoad2_of_none (s : State) (c : Nat) (x : SacX) (ra pa rb pb : Nat) :
    s.sacLoad2 c x ra pa 0 rb pb 0 = .ok (s.setSac c x) := by
  simp [State.sacLoad2, State.postModify_of_keep, State.bankStall_of_one]

/-- One access that leaves its pointer alone (R333, R345). -/
theorem State.sacLoad2_of_one {x : SacX} {pa v : Nat} (hsee : s.sacSee c (x.ptr pa).p = (v, false)) (ra rb pb : Nat) :
    s.sacLoad2 c x ra pa 1 rb pb 0 = .ok ((s.sacCount c (x.ptr pa).p).setSac c (x.send ra v 3)) := by
  simp [State.sacLoad2, State.postModify_of_keep, State.bankStall_of_one, hsee]

/-- C format without memory accesses: only the accumulators change (R338, R342). -/
theorem sacC_of_no_access {okF : Nat → Nat → Bool} {useRB : Bool} {f : SacX → Nat → Nat → Nat → Nat → SacX} (hw : w % 2 ^ 10 = 0)
    (hok : okF (bits w 24 2) (bits w 22 2) = true) (hrb : useRB = true ∨ bits w 10 6 = 0) : sacC okF useRB f s c w = .ok (s.setSac c
      (f (s.sac c) (bits w 24 2) (bits w 22 2) ((s.sac c).reg (bits w 16 6)) ((s.sac c).reg (bits w 10 6)))) := by
  have hlow (l n : Nat) (hk : l + n ≤ 10) : bits w l n = 0 := bits_eq_zero_of_mod hw hk
  have hfields : (!okF (bits w 24 2) (bits w 22 2) || bits w 5 2 == 0 && bits w 7 3 != 0 || bits w 0 2 == 0 && bits w 2 3 != 0 ||
      !useRB && bits w 0 2 == 0 && bits w 10 6 != 0) = false := by
    rw [hok, hlow 7 3 (by decide), hlow 2 3 (by decide)]
    rcases hrb with rfl | hrb
    · simp
    · simp [hrb]
  unfold sacC
  extract_lets acc cm ra rb pa ma pb mb x
  rw [if_neg (ne_true_of_eq_false hfields)]
  have hma : ma = 0 := hlow 5 2 (by decide)
  have hmb : mb = 0 := hlow 0 2 (by decide)
  rw [hma, hmb]
  exact State.sacLoad2_of_none ..

/-- D format with one access, to a bank of its own, that leaves its pointer alone (R334, R339). -/
theorem dOk_of_one (hm : bits w 9 2 = 1) (hlow : w % 2 ^ 9 = 0) (hra : fRA w = 0) : dOk w = true := by
  have h0 (l n : Nat) (hk : l + n ≤ 9) : bits w l n = 0 := bits_eq_zero_of_mod hlow hk
  rw [dOk, h0 0 4 (by decide), h0 4 2 (by decide), h0 6 3 (by decide), hm, hra]
  rfl

theorem opLdd_of_one {v : Nat} (hm : bits w 9 2 = 1) (hlow : w % 2 ^ 9 = 0) (hra : fRA w = 0)
    (hsee : s.sacSee c ((s.sac c).ptr (bits w 11 3)).p = (v, false)) : opLdd s c w =
      .ok ((s.sacCount c ((s.sac c).ptr (bits w 11 3)).p).setSac c ((s.sac c).send (fRD w) v 3)) := by
  rw [opLdd, if_neg (by rw [dOk_of_one hm hlow hra]; decide), hm, bits_eq_zero_of_mod (l := 4) (n := 2) hlow (by decide)]
  exact State.sacLoad2_of_one hsee ..

theorem opStd_of_one (hm : bits w 9 2 = 1) (hlow : w % 2 ^ 9 = 0) (hra : fRA w = 0) : opStd s c w =
    .ok ((s.writeChip (sacWord c ((s.sac c).ptr (bits w 11 3)).p) 4 ((s.sac c).reg (fRD w))).setSac c (s.sac c)) := by
  have hmb : bits w 4 2 = 0 := bits_eq_zero_of_mod hlow (by decide)
  have hpost (t : State) (x : SacX) (pa pb : Nat) : t.postModify x pa 1 pb 0 = (x, t) := t.postModify_of_keep x pa pb (by decide) (by decide)
  unfold opStd
  rw [if_neg (by rw [dOk_of_one hm hlow hra]; decide), hm, hmb]
  simp only [hpost, State.bankStall_of_one, ne_eq, one_ne_zero, not_true_eq_false, not_false_eq_true, if_true, if_false, false_and, and_false]

theorem opLd8_of_one {v : Nat} (hm : bits w 15 2 = 1) (hlow : w % 2 ^ 13 = 0)
    (hsee : s.sacSee c ((s.sac c).ptr (bits w 17 3)).p = (v, false)) : opLd8 s c w =
      .ok ((s.sacCount c ((s.sac c).ptr (bits w 17 3)).p).setSac c ((s.sac c).send (fRD w)
        (cplx (occupancy (bits w 13 1) (bits v (16 * bits w 14 1) 8)) (occupancy (bits w 13 1) (bits v (16 * bits w 14 1 + 8) 8))) 3)) := by
  unfold opLd8
  rw [if_neg (by rw [bits_zero_left, hm]; omega), hm]
  simp only [hsee, State.postModify_of_keep _ _ _ _ (show 1 < 2 by decide) (show 0 < 2 by decide), Bool.false_eq_true, if_false]

/-- R format (R338). -/
theorem sacR_eq (okF : Nat → Nat → Nat → Bool) (f : Nat → Nat → Nat → Nat) : sacR okF f s c w =
    sacPure (okF (fAUX w) (fRD w) (fRB w) && bits w 0 3 == 0)
      (fun x => x.send (fRD w) (f (fAUX w) (x.reg (fRA w)) (x.reg (fRB w))) 1) s c w := rfl

end Formats

section Results
variable {s : State} {c : Fin 64} {w : Nat} (h : SacAt s c w) (hunit : (s.sac c).inUnit = false) (hstep : (s.sac c).stepping = false)
include h hunit hstep

theorem SacAt.leads_sacR {op : Nat} {i : Instr} {okF : Nat → Nat → Nat → Bool} {f : Nat → Nat → Nat → Nat} {P : State → Prop}
    (hi : exec i s = .next (s.sacIssue c (· == op) (sacR okF f))) (hop : op = bits w 26 6) (hok : okF (fAUX w) (fRD w) (fRB w) = true)
    (hlow : w % 2 ^ 3 = 0) (hP : ∀ t v, v = f (fAUX w) ((s.sac c).reg (fRA w)) ((s.sac c).reg (fRB w)) →
      (t.sac c).reg (fRD w) = v % 2 ^ 32 → (t.sac c).pc = ((s.sac c).pc + 1) % 8192 → (t.sac c).acc = (s.sac c).acc →
      (t.sac c).ptrs = (s.sac c).ptrs → (t.sac c).flags = (s.sac c).flags → P t) : Leads i s P := by
  refine h.leads_pure hi hop hunit (sacR_eq okF f) ?_ hstep fun t ht => hP t _ rfl ?_ ?_ ?_ ?_ ?_
  · rw [hok, bits_zero_left, hlow]; rfl
  all_goals rw [ht]
  · exact SacX.reg_retire_send_whole ..
  all_goals simp only [SacX.retire_pc, SacX.retire_acc, SacX.retire_ptrs, SacX.retire_flags] <;> rfl

/-- C format without memory accesses, whose arithmetic `f` touches ACC alone. -/
theorem SacAt.leads_sacC {op : Nat} {i : Instr} {okF : Nat → Nat → Bool} {useRB : Bool} {f : SacX → Nat → Nat → Nat → Nat → SacX}
    {P : State → Prop} (hi : exec i s = .next (s.sacIssue c (· == op) (sacC okF useRB f))) (hop : op = bits w 26 6) (hw : w % 2 ^ 10 = 0)
    (hok : okF (bits w 24 2) (bits w 22 2) = true) (hrb : useRB = true ∨ bits w 10 6 = 0)
    (hf : ∀ k cm p q, (f (s.sac c).fetched k cm p q).stepping = (s.sac c).stepping)
    (hP : ∀ t, t.sac c = (s.sac c).retire (f (s.sac c).fetched (bits w 24 2) (bits w 22 2) ((s.sac c).reg (bits w 16 6))
      ((s.sac c).reg (bits w 10 6))) (((s.sac c).pc + 1) % 8192) → P t) : Leads i s P := by
  refine h.leads_core (u := s.sacFetch c) hi hop hunit ?_ ((hf ..).trans hstep) hP
  rw [sacC_of_no_access hw hok hrb, State.sac_sacFetch]
  rfl

theorem SacAt.leads_setAcc {op : Nat} {i : Instr} {okF : Nat → Nat → Bool} {useRB : Bool} {R M : SacX → Nat → Nat → Nat → Nat → Int}
    {P : State → Prop} (hi : exec i s = .next (s.sacIssue c (· == op) (sacC okF useRB fun x k cm p q => x.setAcc k (R x k cm p q) (M x k cm p q))))
    (hop : op = bits w 26 6) (hw : w % 2 ^ 10 = 0) (hok : okF (bits w 24 2) (bits w 22 2) = true) (hrb : useRB = true ∨ bits w 10 6 = 0)
    (hP : ∀ t, (t.sac c).half (bits w 24 2) 0 = satI 40 (R (s.sac c).fetched (bits w 24 2) (bits w 22 2) ((s.sac c).reg (bits w 16 6))
        ((s.sac c).reg (bits w 10 6))) → (t.sac c).half (bits w 24 2) 1 = satI 40 (M (s.sac c).fetched (bits w 24 2) (bits w 22 2)
        ((s.sac c).reg (bits w 16 6)) ((s.sac c).reg (bits w 10 6))) → (t.sac c).accOld = (s.sac c).acc → P t) : Leads i s P := by
  refine h.leads_sacC hunit hstep hi hop hw hok hrb (fun _ _ _ _ => SacX.stepping_setAcc ..) fun t ht => hP t ?_ ?_ ?_
  · rw [ht, SacX.half_retire, SacX.half_setAcc_re]
  · rw [ht, SacX.half_retire, SacX.half_setAcc_im]
  · rw [ht, SacX.retire_accOld]

/-- PSET of a field with a value that it takes (R337). -/
theorem SacAt.leads_sacPset {f v : Nat} {q : SacPtr} (hop : 0x35 = bits w 26 6) (hhigh : bits w 16 4 = 0) (hf : bits w 20 3 = f)
    (hv : v = w % 65536) (hbad : ¬ (f ≥ 5 ∨ ((f = 0 ∨ f = 2) ∧ v ≥ 32768) ∨ (f = 3 ∧ (v = 0 ∨ v > 32768)) ∨
      (f = 4 ∧ (bits v 2 2 ≠ 0 ∨ bits v 8 8 ≠ 0 ∨ bits v 0 2 = 3))))
    (hq : ((s.sac c).ptr (bits w 23 3)).withField f v = q) : Leads (.sacPset c) s fun t => (t.sac c).ptr (bits w 23 3) = q := by
  subst hf hq
  obtain rfl : v = bits w 0 16 := hv.trans (bits_zero_left w 16).symm
  refine h.leads_pure rfl hop hunit (by rw [opPset]) ?_ ?_ fun t ht => ?_
  · rw [Bool.not_eq_true', decide_eq_false_iff_not]
    exact fun hb => hb.elim (· hhigh) hbad
  · exact hstep
  · rw [ht, SacX.ptr_retire]
    exact SacX.ptr_setPtr_self ..

end Results

/-- Settles O42: the accumulator instructions of the C format touch ACC alone, those of the R format send one register write, and
the others are single updates of the core; CPWR's second operand with RB = 0 is notes/assumptions/19.md. -/
theorem sacResults : Obligations.SacResults := by
  intro s c w x h hx hunit hlact hstep op d a b aux hop hd ha hb haux
  subst hx hd ha hb haux
  refine ⟨?halves, ?logic, ?xfm, ?sha, ?cmp, ?accs, ?sat, ?clra, ?move, ?scaled, ?blke, ?lir, ?lii, ?data, ?ld8, ?pset, ?special, ?rsvd⟩
  case halves =>
    have run {n : Nat} {i : Instr} {f g : Int → Int → Int} (hi : exec i s = .next (s.sacIssue c (· == n) (sacR noAux (halves f))))
        (hfg : ∀ p q, f p q = g p q) (hn : op = n) (haux : fAUX w = 0) (hlow : w % 8 = 0) : Leads i s fun t =>
        (t.sac c).pc = ((s.sac c).pc + 1) % 8192 ∧ (t.sac c).reg (fRD w) = cplx
          (satI 16 (g (re ((s.sac c).reg (fRA w))) (re ((s.sac c).reg (fRB w)))))
          (satI 16 (g (im ((s.sac c).reg (fRA w))) (im ((s.sac c).reg (fRB w))))) ∧
        (t.sac c).acc = (s.sac c).acc ∧ (t.sac c).ptrs = (s.sac c).ptrs ∧ (t.sac c).flags = (s.sac c).flags :=
      h.leads_sacR hunit hstep hi (hn.symm.trans hop) (beq_iff_eq.2 haux) hlow fun t v hv hreg hpc hacc hptrs hflags =>
        ⟨hpc, by rw [hreg, hv, halves, cplx_mod, hfg, hfg], hacc, hptrs, hflags⟩
    intro e he
    simp only [List.mem_cons, List.not_mem_nil, or_false] at he
    rcases he with rfl | rfl | rfl | rfl | rfl | rfl
    · exact run rfl fun _ _ => rfl
    · exact run rfl fun _ _ => rfl
    · exact run rfl fun _ _ => rfl
    · exact run rfl fun _ _ => rfl
    · exact run rfl fun _ _ => rfl
    · exact run rfl fun _ _ => rfl
  case logic =>
    have run {n : Nat} {i : Instr} {g : Nat → Nat → Nat} (hi : exec i s = .next (s.sacIssue c (· == n) (sacR noAux fun _ a b => g a b)))
        (hn : op = n) (haux : fAUX w = 0) (hlow : w % 8 = 0) : Leads i s fun t => (t.sac c).pc = ((s.sac c).pc + 1) % 8192 ∧
        (t.sac c).reg (fRD w) = g ((s.sac c).reg (fRA w)) ((s.sac c).reg (fRB w)) % 2 ^ 32 ∧ (t.sac c).acc = (s.sac c).acc :=
      h.leads_sacR hunit hstep hi (hn.symm.trans hop) (beq_iff_eq.2 haux) hlow fun t v hv hreg hpc hacc _ _ => ⟨hpc, by rw [hreg, hv], hacc⟩
    intro e he
    simp only [List.mem_cons, List.not_mem_nil, or_false] at he
    rcases he with rfl | rfl | rfl
    · exact run rfl
    · exact run rfl
    · exact run rfl
  case xfm =>
    intro hn haux hrb hlow
    refine h.leads_sacR hunit hstep rfl (hn.symm.trans hop) ?_ hlow fun t v hv hreg _ _ _ _ => by rw [hreg, hv]; rfl
    rw [decide_eq_true haux, hrb]; rfl
  case sha =>
    intro hn haux hrb hlow
    refine h.leads_sacR hunit hstep rfl (hn.symm.trans hop) ?_ hlow fun t v hv hreg _ _ _ _ => by rw [hreg, hv, cplx_mod]
    rw [hrb, bne_iff_ne.2 haux]; rfl
  case cmp =>
    intro hn haux hrd hlow
    refine h.leads_pure rfl (hn.symm.trans hop) hunit rfl ?_ hstep fun t ht => ?_
    · rw [haux, hrd, bits_zero_left]; exact beq_iff_eq.2 hlow
    · obtain ⟨h0, h1, h2, h3⟩ := bitAt_flags (decide (re ((s.sac c).reg (fRA w)) < re ((s.sac c).reg (fRB w))))
        (decide (im ((s.sac c).reg (fRA w)) < im ((s.sac c).reg (fRB w)))) (re ((s.sac c).reg (fRA w)) == re ((s.sac c).reg (fRB w)))
        (im ((s.sac c).reg (fRA w)) == im ((s.sac c).reg (fRB w)))
      rw [ht, SacX.retire_flags]
      exact ⟨(Bool.eq_iff_iff.1 h0).trans decide_eq_true_iff, (Bool.eq_iff_iff.1 h1).trans decide_eq_true_iff,
        (Bool.eq_iff_iff.1 h2).trans beq_iff_eq, (Bool.eq_iff_iff.1 h3).trans beq_iff_eq⟩
  case accs =>
    intro k cm p q hk hcm hp hq hw
    subst hk hcm hp hq
    refine ⟨fun hn => ?_, fun hn => ?_, fun hn hk => ?_, fun hn hcm => ?_, fun hn hcm => ?_, fun hn hcm hrb => ?_, fun hn hcm hrb => ?_⟩
    · exact h.leads_setAcc hunit hstep rfl (hn.symm.trans hop) hw rfl (.inl rfl) fun t hre him hold => ⟨hre, him, hold⟩
    · exact h.leads_setAcc hunit hstep rfl (hn.symm.trans hop) hw rfl (.inl rfl) fun t hre him _ => ⟨hre, him⟩
    · refine h.leads_sacC hunit hstep rfl (hn.symm.trans hop) hw (beq_iff_eq.2 hk) (.inl rfl)
        (fun _ _ _ _ => (SacX.stepping_setAcc ..).trans (SacX.stepping_setAcc ..)) fun t ht => ?_
      rw [ht, SacX.half_retire, SacX.half_retire, SacX.half_retire]
      refine ⟨(SacX.half_setAcc_ne _ (by omega) (by decide) ..).trans (SacX.half_setAcc_re ..), (SacX.half_setAcc_re ..).trans ?_,
        (SacX.half_setAcc_im ..).trans ?_⟩
      · rw [SacX.addAcc, SacX.half_setAcc_ne _ (by omega) (by decide)]; rfl
      · rw [SacX.addAcc, SacX.half_setAcc_ne _ (by omega) (by decide)]; rfl
    · exact h.leads_setAcc hunit hstep rfl (hn.symm.trans hop) hw (beq_iff_eq.2 hcm) (.inl rfl) fun t hre him _ => ⟨hre, him⟩
    · exact h.leads_setAcc hunit hstep rfl (hn.symm.trans hop) hw (beq_iff_eq.2 hcm) (.inl rfl) fun t hre him _ => ⟨hre, him⟩
    · exact h.leads_setAcc hunit hstep rfl (hn.symm.trans hop) hw (beq_iff_eq.2 hcm) (.inr hrb) fun t hre him _ => ⟨hre, him⟩
    · refine h.leads_sacC hunit hstep rfl (hn.symm.trans hop) hw (by rw [hcm]; rfl) (.inr hrb) (fun _ _ _ _ => ?_) fun t ht => ?_
      · dsimp only
        split
        · exact (SacX.stepping_setAcc ..).trans (SacX.stepping_setAcc ..)
        · exact SacX.stepping_setAcc ..
      · have hre := re_bound ((s.sac c).reg (bits w 16 6))
        have him := im_bound ((s.sac c).reg (bits w 16 6))
        rw [ht, SacX.half_retire, SacX.half_retire, if_neg (by omega), SacX.half_setAcc_re, SacX.half_setAcc_im]
        exact ⟨satI_eq_self (by omega), satI_eq_self (by omega)⟩
  case sat =>
    intro y k r m
    refine ⟨SacX.half_setAcc_re .., SacX.half_setAcc_im .., (bitAt_sticky_mark ..).trans (or_congr .rfl ?_)⟩
    rw [Bool.or_eq_true, satI_self_iff, satI_self_iff, or_assoc]
  case clra =>
    intro hn hlow
    refine h.leads_pure rfl (hn.symm.trans hop) hunit rfl ?_ ((SacX.stepping_foldl_clear ..).trans hstep) fun t ht k hk hbit => ?_
    · rw [bits_zero_left]; exact beq_iff_eq.2 hlow
    · rw [ht, SacX.half_retire, SacX.half_retire]
      exact ⟨SacX.half_foldl_clear (p := fun i => bitAt w (22 + i)) (by decide) _ _ (.inr ⟨List.mem_range.2 hk, hbit⟩),
        SacX.half_foldl_clear (p := fun i => bitAt w (22 + i)) (by decide) _ _ (.inr ⟨List.mem_range.2 hk, hbit⟩)⟩
  case move =>
    intro v hv
    refine ⟨fun hn hlow => ?_, fun hn hlow hrd => ?_⟩
    · have hmove := (s.sac c).fetched.moveOut_eq (bits w 18 2) (fRD w)
      refine h.leads_pure rfl (hn.symm.trans hop) hunit rfl ?_ ((congrArg SacX.stepping hmove).trans hstep) fun t ht => ?_
      · rw [bits_zero_left]; exact beq_iff_eq.2 hlow
      · rw [ht, SacX.retire_pend, SacX.retire_sticky, hv]
        refine ⟨SacX.mem_waiting (p := ⟨_, _, 3, 2⟩) ?_ (Nat.lt_succ_self 1), SacX.moveOut_sov ..⟩
        rw [hmove]
        exact List.mem_append_right _ (.head _)
    · have hfirst := (s.sac c).fetched.moveOut_eq (2 * bits w 19 1) (fRD w)
      have hsecond := ((s.sac c).fetched.moveOut (2 * bits w 19 1) (fRD w)).moveOut_eq (2 * bits w 19 1 + 1) (fRD w + 1)
      have hpend : (((s.sac c).fetched.moveOut (2 * bits w 19 1) (fRD w)).moveOut (2 * bits w 19 1 + 1) (fRD w + 1)).pend =
          (s.sac c).pend ++ [⟨(s.sac c).phys (fRD w), v (2 * bits w 19 1), 3, 2⟩] ++
            [⟨(s.sac c).phys (fRD w + 1), v (2 * bits w 19 1 + 1), 3, 2⟩] := by
        rw [hsecond, hfirst, hv, hv]; rfl
      refine h.leads_pure rfl (hn.symm.trans hop) hunit rfl ?_ ?_ fun t ht => ?_
      · rw [bits_zero_left, show w % 2 ^ 19 = 0 from hlow]; exact bne_iff_ne.2 hrd
      · exact (congrArg SacX.stepping hsecond).trans ((congrArg SacX.stepping hfirst).trans hstep)
      · rw [ht, SacX.retire_pend]
        refine ⟨SacX.mem_waiting (p := ⟨_, _, 3, 2⟩) ?_ (Nat.lt_succ_self 1), SacX.mem_waiting (p := ⟨_, _, 3, 2⟩) ?_ (Nat.lt_succ_self 1)⟩
        · rw [hpend]; exact List.mem_append_left _ (List.mem_append_right _ (.head _))
        · rw [hpend]; exact List.mem_append_right _ (.head _)
  case scaled =>
    intro v n hn h1
    refine ⟨?_, fun hshift => ?_⟩
    · rw [SacX.scaled, ← hn, roundShift, if_neg (by omega)]
    · have h15 : (15 + (s.sac c).shift).toNat = 15 := by omega
      rw [SacX.scaled, h15, roundShift, if_neg (by decide)]
      omega
  case blke =>
    intro hn hlow
    refine h.leads_pure rfl (hn.symm.trans hop) hunit rfl ?_ hstep fun t ht => ?_
    · rw [bits_zero_left]; exact beq_iff_eq.2 hlow
    · rw [ht, SacX.retire_esum, SacX.retire_big, SacX.retire_shift]
      exact ⟨rfl, rfl, rfl⟩
  case lir =>
    intro hn hlow
    refine h.leads_pure rfl (hn.symm.trans hop) hunit rfl (beq_iff_eq.2 hlow) hstep fun t ht => ?_
    obtain ⟨old, hreg⟩ := SacX.reg_retire_send (s.sac c) (s.sac c).fetched (fRD w) (bits w 0 16) (((s.sac c).pc + 1) % 8192) 1
    rw [ht, hreg, if_pos (by decide), if_neg (by decide), bits_zero_left]
    omega
  case lii =>
    intro hn hlow
    refine h.leads_pure rfl (hn.symm.trans hop) hunit rfl (beq_iff_eq.2 hlow) hstep fun t ht => ?_
    obtain ⟨old, hreg⟩ := SacX.reg_retire_send (s.sac c) (s.sac c).fetched (fRD w) (bits w 0 16 * 2 ^ 16) (((s.sac c).pc + 1) % 8192) 2
    rw [ht, hreg, if_neg (by decide), if_pos (by decide), bits_zero_left]
    unfold bits
    omega
  case data =>
    intro p q hp hq hm hlow hra
    subst hp hq
    refine ⟨fun hn v hsee => ?_, fun hn => ?_⟩
    · have hsee' : (s.sacFetch c).sacSee c (((s.sacFetch c).sac c).ptr (bits w 11 3)).p = (v, false) := by rw [State.sac_sacFetch]; exact hsee
      refine h.leads_core rfl (hn.symm.trans hop) hunit (opLdd_of_one hm hlow hra hsee') ?_ fun t ht => ?_
      · rw [State.sac_sacFetch]; exact hstep
      · rw [ht, SacX.retire_pend, SacX.retire_ptrs, State.sac_sacFetch]
        exact ⟨SacX.mem_waiting_send _ _ _ (Nat.zero_lt_succ 1), rfl⟩
    · refine h.leads_ok rfl (hn.symm.trans hop) hunit (opStd_of_one hm hlow hra) ?_ fun m => ?_
      · rw [State.sac_setSac_self, State.sac_sacFetch]; exact hstep
      · rw [State.byte_setSac, State.byte_setSac, State.sac_sacFetch]; rfl
  case ld8 =>
    intro p q v hp hq hm hlow hsee hn
    subst hp hq
    have hsee' : (s.sacFetch c).sacSee c (((s.sacFetch c).sac c).ptr (bits w 17 3)).p = (v, false) := by rw [State.sac_sacFetch]; exact hsee
    refine h.leads_core rfl (hn.symm.trans hop) hunit (opLd8_of_one hm hlow hsee') ?_ fun t ht => ?_
    · rw [State.sac_sacFetch]; exact hstep
    · rw [ht, SacX.retire_pend, State.sac_sacFetch]
      exact SacX.mem_waiting_send _ _ _ (Nat.zero_lt_succ 1)
  case pset =>
    intro p v hp hv hn hhigh
    subst hp
    have hop' : 0x35 = bits w 26 6 := hn.symm.trans hop
    refine ⟨fun hf hlt => ?_, fun hf => ?_, fun hf hlt => ?_, fun hf hpos hle => ?_, fun hf hmid hlt hmode => ?_⟩
    · exact h.leads_sacPset hunit hstep hop' hhigh hf hv (by omega) rfl
    · exact h.leads_sacPset hunit hstep hop' hhigh hf hv (by omega) rfl
    · exact h.leads_sacPset hunit hstep hop' hhigh hf hv (by omega) rfl
    · exact h.leads_sacPset hunit hstep hop' hhigh hf hv (by omega) rfl
    · have htop : bits v 8 8 = 0 := by unfold bits; omega
      have hlast : bits v 0 2 ≠ 3 := by rwa [bits_zero_left]
      exact h.leads_sacPset hunit hstep hop' hhigh hf hv (by omega) rfl
  case special =>
    intro n hn hlow hrange
    subst hn
    have hok : (bits w 0 15 == 0 && !decide (11 ≤ bits w 15 5 ∧ bits w 15 5 ≤ 15)) = true := by
      rw [bits_zero_left, hlow, decide_eq_false (by omega)]; rfl
    refine ⟨fun hn => ?_, fun hn v hv => ?_⟩
    · refine h.leads_pure (g := fun x => x.send (fRD w) ((s.sacFetch c).sacSR c x (bits w 15 5)) 1) rfl (hn.symm.trans hop) hunit rfl
        hok hstep fun t ht => ?_
      rw [ht, SacX.reg_retire_send_whole, State.sacSR_of_keeps (s.sacFetch_keepsSacRegs c)]
      rfl
    · have run {P : State → Prop} (hP : ∀ t, t.sac c = (s.sac c).retire ((s.sac c).fetched.writeSR (bits w 15 5) v)
          (((s.sac c).pc + 1) % 8192) → P t) : Leads (.sacMsv c) s P := by
        subst hv
        exact h.leads_pure (g := fun x => x.writeSR (bits w 15 5) (x.reg (fRD w))) rfl (hn.symm.trans hop) hunit rfl hok
          ((SacX.stepping_writeSR ..).trans hstep) hP
      have hptr {k : Nat} {q : SacPtr} (hq : ((s.sac c).fetched.writeSR (bits w 15 5) v).ptrs = ((s.sac c).setPtr k q).ptrs) :
          Leads (.sacMsv c) s fun t => (t.sac c).ptr k = q :=
        run fun t ht => by rw [ht, SacX.ptr_retire, SacX.ptr, hq]; exact SacX.ptr_setPtr_self ..
      refine ⟨fun h1 => run fun t ht => ?_, fun h2 => run fun t ht => ?_, fun h3 => run fun t ht => ?_, fun h4 => run fun t ht => ?_,
        fun h7 => run fun t ht => ?_, fun hge hlt => hptr ?_, fun hge => hptr ?_⟩
      · rw [ht, SacX.retire_rrb, h1, SacX.rrb_writeSR]
      · rw [ht, SacX.retire_lc, h2, SacX.lc_writeSR]
      · rw [ht, SacX.retire_flags, h3, SacX.flags_writeSR]
      · rw [ht, SacX.retire_epc, h4, SacX.epc_writeSR]
      · rw [ht, SacX.retire_ien, SacX.retire_gie, h7]; exact SacX.ien_writeSR ..
      · rw [SacX.ptrs_writeSR _ _ hge, if_pos hlt]; rfl
      · rw [SacX.ptrs_writeSR _ _ (by omega), if_neg (by omega)]; rfl
  case rsvd =>
    intro hn hbad
    refine h.exec_bad rfl (hn.symm.trans hop) ?_
    rw [opCadd, sacR_eq, sacPure, if_neg]
    rw [noAux, bits_zero_left, Bool.and_eq_true, beq_iff_eq, beq_iff_eq]
    exact fun hz => hbad.elim (· hz.1) (· hz.2)

end Sys2Proof.Machine

namespace Sys2Proof.Machine

/-! ## Exceptions of a SAC (R352 to R354) -/

section Except
variable {s : State} {c : Nat} {cause word : Nat}

/-- The registers' record of an exception; a poisoned word raises source 68 (R352). -/
def State.sacNoted (s : State) (c cause word : Nat) : State :=
  let u := (if cause = cPLOAD then s.wr (sacB c) SAC_EDADDR.WORD word else s).wr (sacB c) SAC_EXC.ADDR (s.sac c).pc
  if cause = cPLOAD ∨ cause = cPFETCH then u.raise (c / 16) 68 none c else u

theorem State.sacExcept_of_unit (h : (s.sac c).inUnit = true) : s.sacExcept c cause word =
    (if cause = cPLOAD ∨ cause = cPFETCH then s.sacNoted c cause word else (s.sacNoted c cause word).raise (c / 16) 97 none c).setSac c
      ((s.sac c).next ((s.sac c).mark (if cause = cPLOAD ∨ cause = cPFETCH then stDPSN else stDILL))) := if_pos h

theorem State.sacExcept_of_handler (h : (s.sac c).inUnit = false) (hexc : (s.sac c).exc = true) : s.sacExcept c cause word =
    ((((s.sacNoted c cause word).wr (sacB c) SAC_EXC.CAUSE cause).setSac c (s.sac c).drain).setSacState c sacDFAULT).raise (c / 16) 98
      none c :=
  (if_neg (ne_true_of_eq_false h)).trans (if_pos hexc)

theorem State.sacExcept_of_free (h : (s.sac c).inUnit = false) (hexc : (s.sac c).exc = false) : s.sacExcept c cause word =
    ((s.sacNoted c cause word).wr (sacB c) SAC_EXC.CAUSE cause).setSac c { (s.sac c).enter 4 (s.sac c).pc with
      ecause := if cause = cPLOAD then cause + word * 2 ^ 16 else cause } :=
  (if_neg (ne_true_of_eq_false h)).trans (if_neg (ne_true_of_eq_false hexc))

theorem State.sac_raise (s : State) (d src : Nat) (site : Option Nat) (inst c : Nat) : (s.raise d src site inst).sac c = s.sac c :=
  congrArg (KV.get ({} : SacX) c) (State.raise_frame.sacs rfl)

theorem State.sacNoted_keepsSacRegs : KeepsSacRegs
    ((if cause = cPLOAD then s.wr (sacB c) SAC_EDADDR.WORD word else s).wr (sacB c) SAC_EXC.ADDR (s.sac c).pc) (s.sacNoted c cause word) :=
  .ite (State.raise_keepsSacRegs ..) (.refl _)

theorem State.rd_sacNoted_addr (hpc : (s.sac c).pc < 8192) : (s.sacNoted c cause word).rd (sacB c) SAC_EXC.ADDR = (s.sac c).pc := by
  rw [State.sacNoted_keepsSacRegs.rd_sacB c, State.rd_wr_self]
  exact Nat.mod_eq_of_lt hpc

theorem State.sacState_sacNoted : (s.sacNoted c cause word).sacState c = s.sacState c := by
  have hword : SAC_STAT.STATE.key (sacB c) ≠ SAC_EDADDR.WORD.key (sacB c) := by simp only [Fld.key, SAC_STAT.STATE, SAC_EDADDR.WORD]; omega
  have haddr : SAC_STAT.STATE.key (sacB c) ≠ SAC_EXC.ADDR.key (sacB c) := by simp only [Fld.key, SAC_STAT.STATE, SAC_EXC.ADDR]; omega
  rw [State.sacState, State.sacNoted_keepsSacRegs.rd_sacB c, State.rd_wr_ne _ haddr]
  split
  · exact State.rd_wr_ne _ hword
  · rfl

end Except

/-! ## The issue of an instruction -/

theorem sacMeaning_isNone_iff {op : Nat} : (sacMeaning op).isNone = true ↔ ∀ e ∈ sacMeanings, e.1 ≠ op := by
  rw [sacMeaning, Option.isNone_map, Option.isNone_iff_eq_none, List.find?_eq_none]
  simp only [beq_iff_eq, ne_eq]

/-- Settles O41: the record of an exception is `State.sacNoted`, and each of the three ways on is one equation; LACT cleared at the
handler's entry and the double fault's record are notes/assumptions/19.md. -/
theorem sacIssue : Obligations.SacIssue := by
  intro s c op i f hi
  refine ⟨fun w h => ⟨fun hop => ?own, fun hop => ?other, fun hnone => ?reserved, fun ⟨e, he, hop⟩ => ?meant⟩, fun hrest => ?rest,
    ?except⟩
  case own => rw [State.sac_sacFetch, h.exec_eq hi.exec_eq hop.symm]
  case other => rw [hi.exec_eq, h.sacIssue_of_other (is := (· == op)) (beq_eq_false_iff_ne.2 hop)]
  case reserved => rw [exec_sacReservedOpcode, h.sacIssue_eq (sacMeaning_isNone_iff.2 hnone)]; rfl
  case meant =>
    rw [exec_sacReservedOpcode, h.sacIssue_of_other]
    exact Bool.eq_false_iff.2 fun hnone => sacMeaning_isNone_iff.1 hnone e he hop
  case rest =>
    rw [hi.exec_eq, exec_sacReservedOpcode, State.sacIssue_of_rest _ hrest, State.sacIssue_of_rest _ hrest]
    exact ⟨rfl, rfl⟩
  case except =>
    intro cause word t ht hcause hword hpc
    subst ht
    have hstate : SAC_STAT.STATE.key (sacB c) ≠ SAC_EXC.CAUSE.key (sacB c) := by simp only [Fld.key, SAC_STAT.STATE, SAC_EXC.CAUSE]; omega
    have haddr : SAC_EXC.ADDR.key (sacB c) ≠ SAC_EXC.CAUSE.key (sacB c) := by simp only [Fld.key, SAC_EXC.ADDR, SAC_EXC.CAUSE]; omega
    have haddrState : SAC_EXC.ADDR.key (sacB c) ≠ SAC_STAT.STATE.key (sacB c) := by simp only [Fld.key, SAC_EXC.ADDR, SAC_STAT.STATE]; omega
    have hnoted := State.rd_sacNoted_addr (cause := cause) (word := word) hpc
    cases hunit : (s.sac c).inUnit with
    | true =>
      obtain ⟨hexc, hsticky⟩ := (s.sac c).next_keeps ((s.sac c).mark (if cause = cPLOAD ∨ cause = cPFETCH then stDPSN else stDILL))
      have hkeep : KeepsSacRegs (s.sacNoted c cause word) (s.sacExcept c cause word) := by
        rw [State.sacExcept_of_unit hunit]
        exact (KeepsSacRegs.ite (.refl _) (State.raise_keepsSacRegs ..)).of_act (State.setSac_act ..)
      refine ⟨(hkeep.rd_sacB c).trans hnoted, nofun, fun _ => ⟨(hkeep.rd_sacB c).trans State.sacState_sacNoted, ?_, ?_⟩⟩
      · rw [State.sacExcept_of_unit hunit, State.sac_setSac_self, hexc, SacX.mark_eq]
      · rw [State.sacExcept_of_unit hunit, State.sac_setSac_self, hsticky]
        exact (bitAt_sticky_mark ..).2 (.inr rfl)
    | false =>
      cases hexc : (s.sac c).exc with
      | true =>
        have hfault : KeepsSacRegs ((((s.sacNoted c cause word).wr (sacB c) SAC_EXC.CAUSE cause).setSac c (s.sac c).drain).setSacState c
            sacDFAULT) (s.sacExcept c cause word) := by
          rw [State.sacExcept_of_handler hunit hexc]
          exact State.raise_keepsSacRegs ..
        refine ⟨?_, fun _ => ⟨?_, nofun, fun _ => ⟨?_, ?_⟩⟩, nofun⟩
        · rw [hfault.rd_sacB c, State.setSacState, State.rd_wr_ne _ haddrState, State.rd_setSac, State.rd_wr_ne _ haddr, hnoted]
        · rw [hfault.rd_sacB c, State.setSacState, State.rd_wr_ne _ hstate.symm, State.rd_setSac, State.rd_wr_self]
          exact Nat.mod_eq_of_lt hcause
        · rw [State.sacState, hfault.rd_sacB c, State.setSacState, State.rd_wr_self]; rfl
        · rw [State.sacExcept_of_handler hunit hexc, State.sac_raise, State.setSacState, State.wr_sac, State.sac_setSac_self, SacX.pc_drain]
      | false =>
        rw [State.sacExcept_of_free hunit hexc]
        refine ⟨(State.rd_wr_ne _ haddr).trans hnoted, fun _ => ⟨(State.rd_wr_self ..).trans (Nat.mod_eq_of_lt hcause), fun _ => ?_, nofun⟩, nofun⟩
        rw [State.sac_setSac_self]
        refine ⟨rfl, rfl, rfl, rfl, rfl, ?_, (State.rd_wr_ne _ hstate).trans State.sacState_sacNoted⟩
        dsimp only
        split
        · omega
        · omega

end Sys2Proof.Machine

namespace Sys2Proof.Machine

/-! ## Control flow of a SAC (R348 to R351, R359) -/

section ControlFlow
variable {s u : State} {c : Fin 64} {w op pc : Nat} {i : Instr} {f : SacFn} {P : State → Prop}

theorem sacCtl_of_ok {fields : Bool} {place : SacX → Bool} {g : State → Nat → SacX → SacRes} {r : SacRes} (hfields : fields = true)
    (hplace : place (s.sac c).fetched = false) (hr : g (s.sacFetch c) c (s.sac c).fetched = r) :
    sacCtl fields place g (s.sacFetch c) c w = r := by
  rw [sacCtl, hfields, State.sac_sacFetch, hplace]
  exact hr

theorem bits_zero_beq {n : Nat} (h : w % 2 ^ n = 0) : (bits w 0 n == 0) = true := by rw [bits_zero_left]; exact beq_iff_eq.2 h

theorem branchPlace_of_straight {x : SacX} (hunit : x.inUnit = false) (hlact : x.lact = false) : branchPlace x = false := by
  rw [branchPlace, hunit, SacX.nearEnd, hlact]; rfl

/-- A count of RPT and LOOP is legal if exactly one of COUNT and SRC is used (R349, R350). -/
theorem countOk_of_iff {src n : Nat} (hsrc : src < 2) (h : src = 1 ↔ n = 0) : countOk src n = true := by
  unfold countOk
  split
  case isTrue h0 => exact bne_iff_ne.2 fun hn => by have := h.2 hn; omega
  case isFalse h0 => exact beq_iff_eq.2 (h.1 (by omega))

theorem SacAt.leads_goCore {y : SacX} (h : SacAt s c w) (hi : exec i s = .next (s.sacIssue c (· == op) f)) (hop : op = bits w 26 6)
    (hf : f (s.sacFetch c) c w = .go (u.setSac c y) pc) (hstep : y.stepping = false)
    (hP : ∀ t, t.sac c = (s.sac c).retire y pc → P t) : Leads i s P := by
  refine h.leads_go hi hop hf ?_ (hP _ ?_)
  · rw [State.sac_setSac_self]; exact hstep
  · rw [State.sac_setSac_self, State.sac_setSac_self]

/-- Delay slots count down, and the branch's target follows the last; one out of the loop ends it (R348, R350). -/
theorem SacX.next_of_slots {y : SacX} (y' : SacX) {k target : Nat} (hrpt : y.rpt = none) (hslots : y.slots = some (k, target)) :
    (2 ≤ k → (y.next y').slots = some (k - 1, target) ∧ (y.next y').pc = (y.pc + 1) % 8192) ∧
    (k ≤ 1 → (y.next y').slots = none ∧ (y.next y').pc = target ∧
      (y'.lact = true → y'.inBody target = false → (y.next y').lact = false ∧ (y.next y').lc = 0) ∧
      (y'.inBody target = true → (y.next y').lact = y'.lact ∧ (y.next y').lc = y'.lc)) := by
  unfold SacX.next
  rw [hrpt, hslots, SacX.advance_eq]
  dsimp only
  refine ⟨fun hk => ?_, fun hk => ?_⟩
  · rw [if_neg (by omega)]; exact ⟨rfl, rfl⟩
  · rw [if_pos hk]
    unfold SacX.inBody
    refine ⟨rfl, rfl, fun hlact hbody => ?_, fun hbody => ?_⟩
    · rw [hbody, hlact]; exact ⟨rfl, rfl⟩
    · rw [hbody]; cases hlact : y'.lact <;> exact ⟨rfl, rfl⟩

/-- A repetition stays at its word until its last (R349). -/
theorem SacX.next_of_rpt {y : SacX} (y' : SacX) {n : Nat} (hrpt : y.rpt = some n) :
    (n ≤ 1 → (y.next y').rpt = none ∧ (y.next y').pc = (y.pc + 1) % 8192) ∧
    (2 ≤ n → (y.next y').rpt = some (n - 1) ∧ (y.next y').pc = y'.pc) := by
  unfold SacX.next
  rw [hrpt, SacX.advance_eq]
  dsimp only
  refine ⟨fun hn => ?_, fun hn => ?_⟩
  · rw [if_pos hn]; exact ⟨rfl, rfl⟩
  · rw [if_neg (by omega)]; exact ⟨rfl, rfl⟩

end ControlFlow

section StateRules
variable {s : State} {c : Fin 64}

theorem State.sacState_setSac (s : State) (c i : Nat) (x : SacX) : (s.setSac i x).sacState c = s.sacState c := rfl
theorem State.sacState_setSacState (s : State) (c v : Nat) : (s.setSacState c v).sacState c = v % 8 := State.rd_wr_self ..
theorem State.sac_setSacState (s : State) (i c v : Nat) : (s.setSacState i v).sac c = s.sac c := rfl
theorem State.sacState_sacFetch (s : State) (c i : Nat) : (s.sacFetch i).sacState c = s.sacState c :=
  (s.sacFetch_keepsSacRegs i).rd_sacB c

end StateRules

section ControlWords
variable {s : State} {c : Fin 64} {w op : Nat} (h : SacAt s c w) (hunit : (s.sac c).inUnit = false) (hlact : (s.sac c).lact = false)
  (hstep : (s.sac c).stepping = false) (hop : op = bits w 26 6)
include h hop

include hunit hstep in
theorem SacAt.leads_sacNop (hn : op = 0x00) (hlow : w % 2 ^ 26 = 0) : Leads (.sacNop c) s fun t =>
    (t.sac c).pc = ((s.sac c).pc + 1) % 8192 ∧ (t.sac c).acc = (s.sac c).acc ∧ (t.sac c).ptrs = (s.sac c).ptrs ∧
    (t.sac c).flags = (s.sac c).flags ∧ t.sacState c = sacRUN := by
  have hf : opNop (s.sacFetch c) c w = .ok ((s.sacFetch c).setSac c (s.sac c).fetched) := by
    rw [opNop, sacPure, if_pos (bits_zero_beq hlow), State.sac_sacFetch]; rfl
  refine h.leads_ok rfl (hn.symm.trans hop) hunit hf ?_ ?_
  · rw [State.sac_setSac_self]; exact hstep
  · obtain ⟨-, hrun, -⟩ := h
    rw [State.sac_setSac_self, State.sac_setSac_self, State.sacState_setSac, State.sacState_setSac, State.sacState_sacFetch]
    exact ⟨SacX.retire_pc, SacX.retire_acc, SacX.retire_ptrs, SacX.retire_flags, hrun⟩

include hunit hstep in
theorem SacAt.leads_sacHalt (hn : op = 0x01) (hlow : w % 2 ^ 26 = 0) : Leads (.sacHalt c) s fun t =>
    t.sacState c = sacHALTED ∧ (t.sac c).pc = ((s.sac c).pc + 1) % 8192 := by
  have hsac : ((s.sacFetch c).setSacState c sacHALTED).sac c = (s.sac c).fetched := by
    rw [State.sac_setSacState, State.sac_sacFetch]
  refine h.leads_ok rfl (hn.symm.trans hop) hunit (sacCtl_of_ok (bits_zero_beq hlow) hunit rfl) ?_ ?_
  · rw [hsac]; exact hstep
  · rw [State.sacState_setSac, State.sacState_setSacState, State.sac_setSac_self]
    exact ⟨rfl, SacX.retire_pc⟩

include hunit hstep in
theorem SacAt.leads_sacWait (hn : op = 0x02) (hlow : w % 2 ^ 26 = 0) : Leads (.sacWait c) s fun t =>
    (t.sac c).point = true ∧ t.sacState c = (if (s.sac c).ipend &&& (s.sac c).ien = 0 then sacWAIT else sacRUN) := by
  refine h.leads_ok rfl (hn.symm.trans hop) hunit (sacCtl_of_ok (bits_zero_beq hlow) hunit rfl) ?_ ?_
  · rw [State.sac_setSac_self]; exact hstep
  · obtain ⟨-, hrun, -⟩ := h
    rw [State.sac_setSac_self, State.sac_setSac_self, State.sacState_setSac, State.sacState_setSac]
    refine ⟨SacX.retire_point, ?_⟩
    show State.sacState (if (s.sac c).ipend &&& (s.sac c).ien = 0 then _ else _) c = _
    split
    · rw [State.sacState_setSacState]; rfl
    · rw [State.sacState_sacFetch, hrun]

include hunit hlact hstep

theorem SacAt.leads_sacB {target : Nat} (htarget : target = bits w 13 13) (hn : op = 0x03) (hlow : w % 2 ^ 13 = 0) :
    Leads (.sacB c) s fun t => (t.sac c).slots = some (2, target) ∧ (t.sac c).pc = ((s.sac c).pc + 1) % 8192 := by
  refine h.leads_goCore rfl (hn.symm.trans hop) (sacCtl_of_ok (bits_zero_beq hlow) (branchPlace_of_straight hunit hlact) rfl) hstep
    fun t ht => ?_
  rw [ht, SacX.retire_slots, SacX.retire_pc, htarget]
  exact ⟨rfl, rfl⟩

theorem SacAt.leads_sacBc {target : Nat} (htarget : target = bits w 13 13) (hn : op = 0x04) (hlow : w % 512 = 0) (hcond : bits w 9 4 ≠ 15) :
    Leads (.sacBc c) s fun t => (t.sac c).pc = ((s.sac c).pc + 1) % 8192 ∧
      (t.sac c).slots = some (2, if (s.sac c).cond (bits w 9 4) then target else ((s.sac c).pc + 3) % 8192) := by
  have hfields : (bits w 0 9 == 0 && bits w 9 4 != 15) = true := by rw [bits_zero_beq hlow, bne_iff_ne.2 hcond]; rfl
  refine h.leads_goCore rfl (hn.symm.trans hop) (sacCtl_of_ok hfields (branchPlace_of_straight hunit hlact) rfl) hstep fun t ht => ?_
  have hcnd : (s.sac c).fetched.cond (bits w 9 4) = (s.sac c).cond (bits w 9 4) := rfl
  rw [ht, SacX.retire_slots, SacX.retire_pc, htarget, hcnd]
  refine ⟨rfl, ?_⟩
  cases (s.sac c).cond (bits w 9 4) <;> rfl

theorem SacAt.leads_sacCall {target : Nat} (htarget : target = bits w 13 13) (hn : op = 0x05) (hlow : w % 2 ^ 13 = 0)
    (hroom : (s.sac c).stack.length < 8) :
    Leads (.sacCall c) s fun t => (t.sac c).slots = some (2, target) ∧ (t.sac c).stack = ((s.sac c).pc + 3) % 8192 :: (s.sac c).stack := by
  refine h.leads_goCore rfl (hn.symm.trans hop) (sacCtl_of_ok (bits_zero_beq hlow) (branchPlace_of_straight hunit hlact)
    (if_neg (Nat.not_le.2 hroom))) hstep fun t ht => ?_
  rw [ht, SacX.retire_slots, SacX.retire_stack, htarget]
  exact ⟨rfl, rfl⟩

omit hstep in
theorem SacAt.exec_sacCall_of_full (hn : op = 0x05) (hlow : w % 2 ^ 13 = 0) (hfull : 8 ≤ (s.sac c).stack.length) :
    exec (.sacCall c) s = .next (((s.sacFetch c).sacExcept c cSTACK 0).sacStepEnd c) :=
  h.exec_bad rfl (hn.symm.trans hop) (sacCtl_of_ok (bits_zero_beq hlow) (branchPlace_of_straight hunit hlact) (if_pos hfull))

/-- RET with a return address on the stack. -/
theorem SacAt.leads_sacRet (hn : op = 0x06) (hlow : w % 2 ^ 26 = 0) {r : Nat} {rest : List Nat} (hstack : (s.sac c).stack = r :: rest) :
    Leads (.sacRet c) s fun t => (t.sac c).slots = some (2, r) ∧ (t.sac c).stack = rest := by
  have hf : opRet (s.sacFetch c) c w = sacBranch (s.sacFetch c) c { (s.sac c).fetched with stack := rest } (some r) := by
    refine sacCtl_of_ok (bits_zero_beq hlow) (branchPlace_of_straight hunit hlact) ?_
    have hfetched : (s.sac c).fetched.stack = r :: rest := hstack
    rw [hfetched]
  refine h.leads_goCore rfl (hn.symm.trans hop) hf hstep fun t ht => ?_
  rw [ht, SacX.retire_slots, SacX.retire_stack]
  exact ⟨rfl, rfl⟩

omit hstep in
theorem SacAt.exec_sacRet_of_empty (hn : op = 0x06) (hlow : w % 2 ^ 26 = 0) (hstack : (s.sac c).stack = []) :
    exec (.sacRet c) s = .next (((s.sacFetch c).sacExcept c cSTACK 0).sacStepEnd c) := by
  refine h.exec_bad rfl (hn.symm.trans hop) (sacCtl_of_ok (bits_zero_beq hlow) (branchPlace_of_straight hunit hlact) ?_)
  have hfetched : (s.sac c).fetched.stack = [] := hstack
  rw [hfetched]

theorem SacAt.leads_sacReti (hn : op = 0x07) (hlow : w % 2 ^ 26 = 0) : Leads (.sacReti c) s fun t =>
    (t.sac c).pc = (s.sac c).epc ∧ (t.sac c).exc = false ∧ (t.sac c).gie = true ∧ (t.sac c).lc = (s.sac c).shadow.lc ∧
    (t.sac c).first = (s.sac c).shadow.first ∧ (t.sac c).past = (s.sac c).shadow.past ∧ (t.sac c).lact = (s.sac c).shadow.lact ∧
    (t.sac c).rrb = (s.sac c).shadow.rrb := by
  refine h.leads_goCore rfl (hn.symm.trans hop) (sacCtl_of_ok (bits_zero_beq hlow) (branchPlace_of_straight hunit hlact) rfl) hstep
    fun t ht => ?_
  rw [ht]
  exact ⟨SacX.retire_pc, SacX.retire_exc, SacX.retire_gie, SacX.retire_lc, SacX.retire_first, SacX.retire_past, SacX.retire_lact,
    SacX.retire_rrb⟩

end ControlWords

/-! ## Counts: RPT and LOOP (R349, R350) -/

section Counts
variable {s : State} {c : Fin 64} {w op n : Nat} (h : SacAt s c w) (hunit : (s.sac c).inUnit = false) (hlact : (s.sac c).lact = false)
  (hstep : (s.sac c).stepping = false) (hop : op = bits w 26 6)
include h hunit hlact hstep hop

section Rpt
variable (hn : n = (if bits w 16 1 = 1 then (s.sac c).lc else w % 65536)) (hrpt : op = 0x08) (hzero : bits w 17 9 = 0)
  (hcount : bits w 16 1 = 1 ↔ w % 65536 = 0)
include hn hrpt hzero hcount

omit h hstep hop hrpt in
theorem opRpt_of_legal : opRpt (s.sacFetch c) c w =
    if n ≠ 0 then .go ((s.sacFetch c).setSac c { (s.sac c).fetched with rpt := some n }) (((s.sac c).pc + 1) % 8192)
    else .go (s.sacFetch c) (((s.sac c).pc + 2) % 8192) := by
  have hcnt : countOk (bits w 16 1) (bits w 0 16) = true := countOk_of_iff (Nat.mod_lt _ (by decide)) (by rwa [bits_zero_left])
  have hfields : (bits w 17 9 == 0 && countOk (bits w 16 1) (bits w 0 16)) = true := by rw [hzero, hcnt]; rfl
  rw [opRpt]
  refine sacCtl_of_ok hfields hunit ?_
  have hval : (if bits w 16 1 = 1 then (s.sac c).fetched.lc else bits w 0 16) = n := by rw [bits_zero_left, hn]; rfl
  have hskip : ¬ ((s.sac c).fetched.lact = true ∧ ((s.sac c).fetched.pc + 1) % 8192 = (s.sac c).fetched.past) := by
    rintro ⟨hl, -⟩; exact ne_true_of_eq_false hlact hl
  dsimp only
  rw [hval, if_neg hskip]
  rfl

theorem SacAt.leads_sacRpt (hn0 : n ≠ 0) : Leads (.sacRpt c) s fun t => (t.sac c).rpt = some n ∧ (t.sac c).pc = ((s.sac c).pc + 1) % 8192 := by
  refine h.leads_goCore rfl (hrpt.symm.trans hop) ((opRpt_of_legal hunit hlact hn hzero hcount).trans (if_pos hn0)) hstep
    fun t ht => ?_
  rw [ht]
  exact ⟨SacX.retire_rpt, SacX.retire_pc⟩

theorem SacAt.leads_sacRpt_zero (hn0 : n = 0) : Leads (.sacRpt c) s fun t => (t.sac c).rpt = none ∧ (t.sac c).pc = ((s.sac c).pc + 2) % 8192 := by
  refine h.leads_go rfl (hrpt.symm.trans hop) ((opRpt_of_legal hunit hlact hn hzero hcount).trans (if_neg (not_not.2 hn0))) ?_ ?_
  · rw [State.sac_sacFetch]; exact hstep
  · rw [State.sac_setSac_self, State.sac_sacFetch, SacX.retire_rpt]
    exact ⟨Option.isNone_iff_eq_none.1 (Option.isSome_eq_false_iff.1 (Bool.or_eq_false_iff.1 hunit).2), SacX.retire_pc⟩

end Rpt

section Loop
variable {len : Nat} (hn : n = (if bits w 13 1 = 1 then (s.sac c).lc else w % 2 ^ 13)) (hlen : len = bits w 14 12 + 1) (hloop : op = 0x09)
  (hlen1 : len ≠ 1) (hcount : bits w 13 1 = 1 ↔ w % 2 ^ 13 = 0)
include hn hlen hloop hlen1 hcount

omit h hstep hop hloop in
theorem opLoop_of_legal : opLoop (s.sacFetch c) c w =
    if n = 0 then .go ((s.sacFetch c).setSac c { (s.sac c).fetched with lc := 0 }) (((s.sac c).pc + 1 + len) % 8192)
    else .ok ((s.sacFetch c).setSac c { (s.sac c).fetched with
      lc := n, lact := true, first := ((s.sac c).pc + 1) % 8192, past := ((s.sac c).pc + 1 + len) % 8192 }) := by
  have hcnt : countOk (bits w 13 1) (bits w 0 13) = true := countOk_of_iff (Nat.mod_lt _ (by decide)) (by rwa [bits_zero_left])
  have hplace : ((s.sac c).fetched.inUnit || (s.sac c).fetched.lact) = false := Bool.or_eq_false_iff.2 ⟨hunit, hlact⟩
  subst hlen
  have hfields : (bits w 14 12 + 1 != 1 && countOk (bits w 13 1) (bits w 0 13)) = true := by rw [hcnt, bne_iff_ne.2 hlen1]; rfl
  rw [opLoop]
  refine sacCtl_of_ok hfields hplace ?_
  have hval : (if bits w 13 1 = 1 then (s.sac c).fetched.lc else bits w 0 13) = n := by rw [bits_zero_left, hn]; rfl
  dsimp only
  rw [hval]
  rfl

theorem SacAt.leads_sacLoop (hn0 : n ≠ 0) : Leads (.sacLoop c) s fun t => (t.sac c).lc = n ∧ (t.sac c).lact = true ∧
    (t.sac c).first = ((s.sac c).pc + 1) % 8192 ∧ (t.sac c).past = ((s.sac c).pc + 1 + len) % 8192 ∧ (t.sac c).pc = ((s.sac c).pc + 1) % 8192 := by
  refine h.leads_core rfl (hloop.symm.trans hop) hunit
    ((opLoop_of_legal hunit hlact hn hlen hlen1 hcount).trans (if_neg hn0)) hstep fun t ht => ?_
  rw [ht]
  exact ⟨SacX.retire_lc, SacX.retire_lact, SacX.retire_first, SacX.retire_past, SacX.retire_pc⟩

theorem SacAt.leads_sacLoop_zero (hn0 : n = 0) : Leads (.sacLoop c) s fun t => (t.sac c).lc = 0 ∧ (t.sac c).lact = false ∧
    (t.sac c).rrb = (s.sac c).rrb ∧ (t.sac c).pc = ((s.sac c).pc + 1 + len) % 8192 := by
  refine h.leads_goCore rfl (hloop.symm.trans hop)
    ((opLoop_of_legal hunit hlact hn hlen hlen1 hcount).trans (if_pos hn0)) hstep fun t ht => ?_
  rw [ht]
  exact ⟨SacX.retire_lc, SacX.retire_lact.trans hlact, SacX.retire_rrb, SacX.retire_pc⟩

end Loop
end Counts
end Sys2Proof.Machine

namespace Sys2Proof.Machine

/-! ## Transfers and events of a SAC (R360, R361, R363) -/

section Transfers
variable {s : State} {c : Fin 64} {w op ch : Nat} (h : SacAt s c w) (hunit : (s.sac c).inUnit = false)
  (hstep : (s.sac c).stepping = false) (hop : op = bits w 26 6)

theorem not_bits_ne_zero (h : w % 2 ^ 22 = 0) : ¬ bits w 0 22 ≠ 0 := by rw [bits_zero_left, not_not]; exact h

/-- A channel that takes a descriptor is BUSY, and its result is no longer valid. -/
theorem State.rd_xgoStart (s : State) (c ch : Nat) (x : SacX) (words : List Nat) (snap : List (Nat × Bool)) :
    (s.xgoStart c ch x words snap).rd (xresB c ch) SAC_XRES.STATUS = xBUSY ∧
    (s.xgoStart c ch x words snap).rd (xresB c ch) SAC_XRES.VALID = 0 := by
  have hack : SAC_XRES.VALID.key (xresB c ch) ≠ SAC_XRES.ACKD.key (xresB c ch) := by simp only [Fld.key, SAC_XRES.VALID, SAC_XRES.ACKD]; omega
  have hst : SAC_XRES.VALID.key (xresB c ch) ≠ SAC_XRES.STATUS.key (xresB c ch) := by
    simp only [Fld.key, SAC_XRES.VALID, SAC_XRES.STATUS]; omega
  unfold State.xgoStart
  rw [State.rd_setSac, State.rd_setSac, State.rd_wr_self, State.rd_wr_ne _ hst, State.rd_wr_ne _ hack, State.rd_wr_self]
  exact ⟨rfl, rfl⟩

theorem State.sac_hubEvent (s : State) (sp line code c : Nat) : (s.hubEvent sp line code).sac c = s.sac c := rfl

include h hunit hstep hop

theorem SacAt.leads_sacXgo_busy (hch : ch = bits w 25 1) (hn : op = 0x0B) (hlow : w % 2 ^ 22 = 0) (hbusy : KV.get 0 ch (s.sac c).xst = xBUSY) :
    Leads (.sacXgo c) s fun t => bitAt (t.sac c).sticky stXREJ = true := by
  subst hch
  have hf : opXgo (s.sacFetch c) c w = .ok ((s.sacFetch c).setSac c ((s.sac c).fetched.mark stXREJ)) := by
    rw [opXgo, State.sac_sacFetch, if_neg (not_bits_ne_zero hlow)]
    exact if_pos hbusy
  refine h.leads_core rfl (hn.symm.trans hop) hunit hf (by rw [SacX.mark_eq]; exact hstep) fun t ht => ?_
  rw [ht, SacX.retire_sticky]
  exact (bitAt_sticky_mark ..).2 (.inr rfl)

theorem SacAt.leads_sacXgo (hch : ch = bits w 25 1) (hn : op = 0x0B) (hlow : w % 2 ^ 22 = 0) (hfree : KV.get 0 ch (s.sac c).xst ≠ xBUSY)
    (hsee : ∀ k, k < 4 → ((s.sacFetch c).sacSee c ((((s.sac c).ptr (bits w 22 3)).p + k) % 32768)).2 = false) :
    Leads (.sacXgo c) s fun t => KV.get 0 ch (t.sac c).xst = xBUSY ∧ t.rd (xresB c ch) SAC_XRES.STATUS = xBUSY ∧
      t.rd (xresB c ch) SAC_XRES.VALID = 0 := by
  subst hch
  have hfind : ((List.range 4).map fun i => (((s.sac c).fetched.ptr (bits w 22 3)).p + i) % 32768).find?
      (fun a => ((s.sacFetch c).sacSee c a).2) = none := by
    rw [List.find?_eq_none]
    intro a ha
    obtain ⟨i, hi, rfl⟩ := List.mem_map.1 ha
    exact ne_true_of_eq_false (hsee i (List.mem_range.1 hi))
  have hidle : ¬ KV.get 0 (bits w 25 1) (s.sac c).fetched.xst = xBUSY := hfree
  have hf : ∃ u words snap, opXgo (s.sacFetch c) c w = .ok (State.xgoStart u c (bits w 25 1) (s.sac c).fetched words snap) := by
    rw [opXgo, State.sac_sacFetch, if_neg (not_bits_ne_zero hlow), if_neg hidle, State.xgo, hfind]
    exact ⟨_, _, _, rfl⟩
  obtain ⟨u, words, snap, hf⟩ := hf
  have hsac : (u.xgoStart c (bits w 25 1) (s.sac c).fetched words snap).sac c = { (s.sac c).fetched with
      xst := KV.set 0 (bits w 25 1) xBUSY (s.sac c).fetched.xst,
      xfers := KV.set none (bits w 25 1) (some ⟨words, snap⟩) (s.sac c).fetched.xfers } := State.sac_setSac_self ..
  obtain ⟨hstatus, hvalid⟩ := u.rd_xgoStart c (bits w 25 1) (s.sac c).fetched words snap
  refine h.leads_ok rfl (hn.symm.trans hop) hunit hf ?_ ?_
  · rw [hsac]; exact hstep
  · rw [State.sac_setSac_self, hsac, SacX.retire_xst, State.rd_setSac, State.rd_setSac]
    exact ⟨KV.get_set_self (v := xBUSY) .., hstatus, hvalid⟩

theorem SacAt.leads_sacSevt (hn : op = 0x0C) (hlow : w % 2 ^ 18 = 0) : Leads (.sacSevt c) s fun t =>
    t.rd (sacB c) SAC_EVOUT.CODE = bits w 18 8 ∧
    t.rd (ihB (s.rd (sacB c) SAC_CFG.SP) + (16 + c) * 4) IH_EVT.CODE = bits w 18 8 := by
  have hcode : bits w 18 8 % 2 ^ 8 = bits w 18 8 := Nat.mod_mod ..
  have hf : opSevt (s.sacFetch c) c w = .ok ((((s.sacFetch c).seqUp (sacB c) SAC_EVOUT.SEQ).wr (sacB c) SAC_EVOUT.CODE (bits w 18 8)).hubEvent
      ((s.sacFetch c).rd (sacB c) SAC_CFG.SP) (16 + c) (bits w 18 8)) := by
    rw [opSevt]
    exact if_neg (by rw [bits_zero_left, not_not]; exact hlow)
  rw [(s.sacFetch_keepsSacRegs c).rd_sacB c] at hf
  have hcnt : ∀ b, IH_EVT.CODE.key b ≠ IH_EVT.CNT.key b := fun b => by simp only [Fld.key, IH_EVT.CODE, IH_EVT.CNT]; omega
  refine h.leads_ok rfl (hn.symm.trans hop) hunit hf ?_ ?_
  · rw [State.sac_hubEvent, State.wr_sac, State.seqUp, State.wr_sac, State.sac_sacFetch]
    exact hstep
  · rw [State.rd_setSac, State.rd_setSac, (State.hubEvent_keepsSacRegs _ _ _ (by omega)).rd_sacB c, State.rd_wr_self]
    refine ⟨hcode, ?_⟩
    rw [State.hubEvent, State.count, State.rd_wr_ne _ (hcnt _), State.rd_wr_self]
    exact hcode

end Transfers

/-! ## Iteration ends, interrupts and the host's commands (R350, R355, R358, R361 to R363) -/

section Boundary
variable {s : State} {c : Fin 64}

theorem leads_sacLoopEnd (hclk : s.sacClocked c = true) (hstate : s.sacState c = sacRUN ∨ s.sacState c = sacWAIT ∨ s.sacState c = sacHALTED)
    (hlact : (s.sac c).lact = true) (hpc : (s.sac c).pc = (s.sac c).past) (hskip : (s.sac c).skip = false) (hlc : (s.sac c).lc < 2 ^ 16)
    (hfirst : (s.sac c).first < 8192) (hpast : (s.sac c).past < 8192) : Leads (.sacLoopEnd c) s fun t =>
      (t.sac c).lc = (if (s.sac c).lc = 0 then 65535 else (s.sac c).lc - 1) ∧ (t.sac c).rrb = ((s.sac c).rrb + 31) % 32 ∧
      (t.sac c).pc = (if (s.sac c).lc = 1 then (s.sac c).past else (s.sac c).first) ∧ (t.sac c).lact = decide ((s.sac c).lc ≠ 1) := by
  have hdec : ((s.sac c).lc + 2 ^ 16 - 1) % 2 ^ 16 = if (s.sac c).lc = 0 then 65535 else (s.sac c).lc - 1 := by split <;> omega
  have hone : ((if (s.sac c).lc = 0 then 65535 else (s.sac c).lc - 1) = 0) ↔ (s.sac c).lc = 1 := by split <;> omega
  refine ⟨_, congrArg Host.Outcome.next (if_pos ⟨hclk, hstate, hlact, hpc⟩), ?_⟩
  dsimp only
  rw [State.sac_setSac_self]
  dsimp only
  rw [hdec, hskip]
  refine ⟨rfl, rfl, ?_, ?_⟩
  · simp only [hone, Bool.toNat_false, Nat.add_zero]
    split
    · exact Nat.mod_eq_of_lt hpast
    · exact Nat.mod_eq_of_lt hfirst
  · rw [Bool.eq_iff_iff, bne_iff_ne, decide_eq_true_iff, ne_eq, hone]

theorem exec_sacLoopEnd_of_inside (h : (s.sac c).lact = false ∨ (s.sac c).pc ≠ (s.sac c).past) : exec (.sacLoopEnd c) s = .next s := by
  refine congrArg Host.Outcome.next (if_neg ?_)
  rintro ⟨-, -, hlact, hpc⟩
  exact h.elim (ne_true_of_eq_false · hlact) (· hpc)

theorem leads_sacInterruptEntry (hclk : s.sacClocked c = true) (hstate : s.sacState c = sacRUN ∨ s.sacState c = sacWAIT)
    (hpoint : (s.sac c).atPoint = true) (htake : (s.sac c).takeable = true) (lat : BitVec 32) :
    Leads (.sacInterruptEntry c lat) s fun t => (t.sac c).pc = 8 ∧ (t.sac c).epc = (s.sac c).pc ∧ (t.sac c).exc = true ∧
      (t.sac c).gie = false ∧ (t.sac c).lact = false ∧
      (t.sac c).shadow = ⟨(s.sac c).lc, (s.sac c).first, (s.sac c).past, (s.sac c).lact, (s.sac c).rrb⟩ ∧ t.sacState c = sacRUN := by
  refine ⟨_, congrArg Host.Outcome.next (if_pos ⟨hclk, hstate, hpoint, htake⟩), ?_⟩
  dsimp only
  rw [State.sacState_setSacState, State.sac_setSacState, State.sac_setSac_self]
  exact ⟨rfl, rfl, rfl, rfl, rfl, rfl, rfl⟩

theorem exec_sacInterruptEntry_of_none (h : (s.sac c).atPoint = false ∨ (s.sac c).takeable = false) (lat : BitVec 32) :
    exec (.sacInterruptEntry c lat) s = .next s := by
  refine congrArg Host.Outcome.next (if_neg ?_)
  rintro ⟨-, -, hpoint, htake⟩
  exact h.elim (ne_true_of_eq_false · hpoint) (ne_true_of_eq_false · htake)

end Boundary
end Sys2Proof.Machine

namespace Sys2Proof.Machine

/-! ## Pending bits, ends of transfers, core reset (R328, R355, R359 to R362) -/

section Pending
variable {s : State} {c ch i b k status : Nat} {f : Fld}

theorem State.sac_sacWake (s : State) (c i : Nat) : (s.sacWake c).sac i = s.sac i := by
  unfold State.sacWake
  split <;> rfl

/-- Waking a core touches its state alone. -/
theorem State.rd_sacWake (s : State) (h : f.key b ≠ SAC_STAT.STATE.key (sacB c)) : (s.sacWake c).rd b f = s.rd b f := by
  unfold State.sacWake
  split
  · exact State.rd_wr_ne _ h
  · rfl

theorem State.sacState_sacWake (h : s.sacState c ≠ sacWAIT) : (s.sacWake c).sacState c = s.sacState c := by
  rw [State.sacWake, if_neg fun hw => h hw.1]

theorem State.sac_sacPendSet (s : State) (c i : Nat) :
    (s.sacPendSet c i).sac c = { s.sac c with ipend := putBit (s.sac c).ipend i true } := by
  rw [State.sacPendSet, State.sac_sacWake, State.sac_setSac_self]

theorem State.ipend_sacPendSet (s : State) (c i : Nat) : bitAt ((s.sacPendSet c i).sac c).ipend i = true := by
  rw [State.sac_sacPendSet]
  exact bitAt_putBit_self ..

theorem State.rd_sacPendSet (s : State) (i : Nat) (h : f.key b ≠ SAC_STAT.STATE.key (sacB c)) : (s.sacPendSet c i).rd b f = s.rd b f := by
  rw [State.sacPendSet, State.rd_sacWake _ h, State.rd_setSac]

theorem State.sacState_sacPendSet (i : Nat) (h : s.sacState c ≠ sacWAIT) : (s.sacPendSet c i).sacState c = s.sacState c := by
  rw [State.sacPendSet, State.sacState_sacWake] <;> rw [State.sacState_setSac]
  exact h

theorem State.xst_sacXEnd (s : State) (c ch status : Nat) : ((s.sacXEnd c ch status).sac c).xst = KV.set 0 ch status (s.sac c).xst := by
  rw [State.sacXEnd, State.sac_sacPendSet, State.sac_setSac_self]
  rfl

theorem State.ipend_sacXEnd (s : State) (c ch status : Nat) : bitAt ((s.sacXEnd c ch status).sac c).ipend (2 + ch) = true :=
  State.ipend_sacPendSet ..

/-- The end of a transfer touches its channel's result and the core's state. -/
theorem State.rd_sacXEnd_ne (s : State) (status : Nat) (h : f.key b ≠ SAC_STAT.STATE.key (sacB c))
    (hstatus : f.key b ≠ SAC_XRES.STATUS.key (xresB c ch)) (hvalid : f.key b ≠ SAC_XRES.VALID.key (xresB c ch)) :
    (s.sacXEnd c ch status).rd b f = s.rd b f := by
  rw [State.sacXEnd, State.rd_sacPendSet _ _ h, State.rd_setSac, State.rd_wr_ne _ hvalid, State.rd_wr_ne _ hstatus]

theorem State.rd_sacXEnd (s : State) (c ch status : Nat) :
    (s.sacXEnd c ch status).rd (xresB c ch) SAC_XRES.STATUS = status % 8 ∧ (s.sacXEnd c ch status).on (xresB c ch) SAC_XRES.VALID = true := by
  have hstatus : SAC_XRES.STATUS.key (xresB c ch) ≠ SAC_STAT.STATE.key (sacB c) := by
    simp only [Fld.key, SAC_XRES.STATUS, SAC_STAT.STATE, xresB]; omega
  have hvalid : SAC_XRES.VALID.key (xresB c ch) ≠ SAC_STAT.STATE.key (sacB c) := by
    simp only [Fld.key, SAC_XRES.VALID, SAC_STAT.STATE, xresB]; omega
  have hne : SAC_XRES.STATUS.key (xresB c ch) ≠ SAC_XRES.VALID.key (xresB c ch) := by simp only [Fld.key, SAC_XRES.VALID, SAC_XRES.STATUS]; omega
  rw [State.on, State.sacXEnd, State.rd_sacPendSet _ _ hstatus, State.rd_sacPendSet _ _ hvalid, State.rd_setSac, State.rd_setSac,
    State.rd_wr_ne _ hne, State.rd_wr_self, State.rd_wr_self]
  exact ⟨rfl, rfl⟩

theorem State.sacState_sacXEnd (ch status : Nat) (h : s.sacState c ≠ sacWAIT) : (s.sacXEnd c ch status).sacState c = s.sacState c := by
  have hstatus : SAC_STAT.STATE.key (sacB c) ≠ SAC_XRES.STATUS.key (xresB c ch) := by
    simp only [Fld.key, SAC_XRES.STATUS, SAC_STAT.STATE, xresB]; omega
  have hvalid : SAC_STAT.STATE.key (sacB c) ≠ SAC_XRES.VALID.key (xresB c ch) := by
    simp only [Fld.key, SAC_XRES.VALID, SAC_STAT.STATE, xresB]; omega
  have hwr : ((s.wr (xresB c ch) SAC_XRES.STATUS status).wr (xresB c ch) SAC_XRES.VALID 1).sacState c = s.sacState c := by
    rw [State.sacState, State.rd_wr_ne _ hvalid, State.rd_wr_ne _ hstatus, State.sacState]
  rw [State.sacXEnd, State.sacState_sacPendSet] <;> rw [State.sacState_setSac, hwr]
  exact h

theorem State.sacXCancel_of_busy (h : KV.get 0 ch (s.sac c).xst = xBUSY) : s.sacXCancel c ch = s.sacXEnd c ch xCANCELLED := if_pos h
theorem State.sacXCancel_of_idle (h : KV.get 0 ch (s.sac c).xst ≠ xBUSY) : s.sacXCancel c ch = s := if_neg h

theorem State.sacXCancel_spec (h : KV.get 0 ch (s.sac c).xst = xBUSY) :
    (s.sacXCancel c ch).rd (xresB c ch) SAC_XRES.STATUS = xCANCELLED ∧ (s.sacXCancel c ch).on (xresB c ch) SAC_XRES.VALID = true ∧
    KV.get 0 ch ((s.sacXCancel c ch).sac c).xst = xCANCELLED ∧ bitAt ((s.sacXCancel c ch).sac c).ipend (2 + ch) = true := by
  obtain ⟨hstatus, hvalid⟩ := s.rd_sacXEnd c ch xCANCELLED
  rw [State.sacXCancel_of_busy h, State.xst_sacXEnd]
  exact ⟨hstatus, hvalid, KV.get_set_self .., s.ipend_sacXEnd c ch xCANCELLED⟩

/-- A cancelled channel is not BUSY, and no other becomes so. -/
theorem State.xst_sacXCancel (s : State) (c : Nat) {ch k : Nat} (h : k = ch ∨ KV.get 0 k (s.sac c).xst ≠ xBUSY) :
    KV.get 0 k ((s.sacXCancel c ch).sac c).xst ≠ xBUSY := by
  by_cases hbusy : KV.get 0 ch (s.sac c).xst = xBUSY
  · rw [State.sacXCancel_of_busy hbusy, State.xst_sacXEnd, KV.get_set]
    split
    case isTrue heq => decide
    case isFalse hne => exact h.resolve_left hne
  · rw [State.sacXCancel_of_idle hbusy]
    rcases h with rfl | hk
    · exact hbusy
    · exact hk

theorem State.sacState_sacXCancel (ch : Nat) (h : s.sacState c ≠ sacWAIT) : (s.sacXCancel c ch).sacState c = s.sacState c := by
  unfold State.sacXCancel
  split
  · exact State.sacState_sacXEnd _ _ h
  · rfl

theorem State.rst_sacXCancel (s : State) (c ch : Nat) : (s.sacXCancel c ch).rd (sacB c) SAC_CTL.RST = s.rd (sacB c) SAC_CTL.RST := by
  unfold State.sacXCancel
  split
  · refine State.rd_sacXEnd_ne _ _ ?_ ?_ ?_
    · simp only [Fld.key, SAC_CTL.RST, SAC_STAT.STATE]; omega
    · simp only [Fld.key, SAC_CTL.RST, SAC_XRES.STATUS, xresB]; omega
    · simp only [Fld.key, SAC_CTL.RST, SAC_XRES.VALID, xresB]; omega
  · rfl

theorem State.sac_orphanOwner (s : State) (o c : Nat) : (s.orphanOwner o).sac c = s.sac c :=
  congrArg (KV.get ({} : SacX) c) (State.orphanOwner_frame.sacs rfl)

theorem SAC_CTL.rst_ne_state : SAC_CTL.RST.key (sacB c) ≠ SAC_STAT.STATE.key (sacB c) := by
  simp only [Fld.key, SAC_CTL.RST, SAC_STAT.STATE]; omega

theorem State.sacReset_spec (s : State) (c : Nat) : (s.sacReset c).on (sacB c) SAC_CTL.RST = true ∧ (s.sacReset c).sacState c = sacRESET ∧
    ∀ ch < 2, KV.get 0 ch ((s.sacReset c).sac c).xst ≠ xBUSY := by
  unfold State.sacReset
  extract_lets s0
  have hstate : s0.sacState c = sacRESET := State.sacState_setSacState ..
  have hwait : s0.sacState c ≠ sacWAIT := by rw [hstate]; decide
  have hstate1 : (s0.sacXCancel c 0).sacState c = sacRESET := (State.sacState_sacXCancel 0 hwait).trans hstate
  have hwait1 : (s0.sacXCancel c 0).sacState c ≠ sacWAIT := by rw [hstate1]; decide
  have hkeep := ((s0.sacXCancel c 0).sacXCancel c 1).orphanOwner_keepsSacRegs (ownerSAC c)
  have hrst : s0.rd (sacB c) SAC_CTL.RST = 1 := (State.rd_wr_ne _ SAC_CTL.rst_ne_state).trans (State.rd_wr_self ..)
  refine ⟨?_, ?_, fun ch hch => ?_⟩
  · rw [State.on, hkeep.rd_sacB c, State.rst_sacXCancel, State.rst_sacXCancel, hrst]; rfl
  · rw [State.sacState, hkeep.rd_sacB c]
    exact (State.sacState_sacXCancel 1 hwait1).trans hstate1
  · rw [State.sac_orphanOwner]
    refine State.xst_sacXCancel _ c ?_
    obtain rfl | rfl : ch = 0 ∨ ch = 1 := by omega
    · exact .inr (State.xst_sacXCancel _ c (.inl rfl))
    · exact .inl rfl

/-- A SAC's register is no register of the debug block. -/
theorem denB_ne_sacB {d e : Nat} {f g : Fld} (hf : f.off < 0x10000 ∧ f.lsb < 32) (hg : g.off < 0x10000 ∧ g.lsb < 32) :
    f.key (denB d) ≠ g.key (sacB e) := by
  simp only [Fld.key, denB, sacB, regBase]; omega

theorem State.haltOnReset_wr_sacB (s : State) (d c v : Nat) (f : Fld) (hf : f.off < 0x10000 ∧ f.lsb < 32) :
    (s.wr (sacB c) f v).haltOnReset d = s.haltOnReset d :=
  congrArg (· != 0) (State.rd_wr_ne v (denB_ne_sacB (by decide) hf))

theorem State.sacRelease_spec (hrst : s.on (sacB c) SAC_CTL.RST = true) (hfree : s.on (sacB c) SAC_CFG.ASSIGNED = false) :
    (s.sacRelease c).on (sacB c) SAC_CTL.RST = false ∧
    (s.sacRelease c).sacState c = (if s.haltOnReset (c / 16) then sacHALTED else sacRUN) ∧ ((s.sacRelease c).sac c).pc = 0 ∧
    ((s.sacRelease c).sac c).regs = [] ∧ ((s.sacRelease c).sac c).acc = [] ∧ ((s.sacRelease c).sac c).pend = [] := by
  have hsite : s.sacSite c = none := if_neg (ne_true_of_eq_false hfree)
  have hgo : ¬ ((!true) = true ∨ false = true) := by decide
  unfold State.sacRelease
  rw [hsite, hrst, if_neg hgo]
  extract_lets x s1 s2
  have hhalt : s2.haltOnReset (c / 16) = s.haltOnReset (c / 16) := by
    have hset : s2.haltOnReset (c / 16) = (s1.wr (sacB c) SAC_CTL.RST 0).haltOnReset (c / 16) := congrArg (· != 0) (State.rd_setSac ..)
    rw [hset, State.haltOnReset_wr_sacB _ _ _ _ _ (by decide), State.haltOnReset_wr_sacB _ _ _ _ _ (by decide),
      State.haltOnReset_wr_sacB _ _ _ _ _ (by decide)]
  have hsac : s2.sac c = { dtx := x.dtx, drx := x.drx, dtxOvf := x.dtxOvf, drxOvf := x.drxOvf } := State.sac_setSac_self ..
  have hrst2 : s2.rd (sacB c) SAC_CTL.RST = 0 := (State.rd_setSac ..).trans (State.rd_wr_self ..)
  rw [State.sacState_setSacState, State.sac_setSacState, hsac, hhalt, State.on, State.setSacState, State.rd_wr_ne _ SAC_CTL.rst_ne_state, hrst2]
  refine ⟨rfl, ?_, rfl, rfl, rfl, rfl⟩
  cases s.haltOnReset (c / 16) <;> rfl

theorem State.sacHaltreq_of_clocked (h : s.sacState c = sacRUN ∨ s.sacState c = sacWAIT) :
    s.sacHaltreq c = s.setSac c { s.sac c with haltReq := true } := if_pos h
theorem State.sacStart_of_halted (h : s.sacState c = sacHALTED) :
    (s.sacStart c).sacState c = sacRUN ∧ ((s.sacStart c).sac c).pc = (s.sac c).pc := by
  rw [State.sacStart, if_pos h, State.sacState_setSacState, State.sac_setSacState, State.sac_setSac_self]
  exact ⟨rfl, rfl⟩
theorem State.sacStart_of_not_halted (h : s.sacState c ≠ sacHALTED) : s.sacStart c = s := if_neg h

end Pending

/-! ## The obligation -/

/-- Settles O43: one rule per word and per command; the delay slots and repetitions are the rules of `SacX.next`. LC wrapping from 0 to
65535, LACT cleared at a handler's entry, and the loop that a branch leaves only after its delay slots are notes/assumptions/19.md. -/
theorem SacX.sacControl : Obligations.SacControl := by
  intro s c x hx
  subst hx
  refine ⟨fun w h hunit hlact hstep op target hop htarget => ?words, fun y y' k target hrpt hslots => SacX.next_of_slots y' hrpt hslots,
    fun y y' n hrpt => SacX.next_of_rpt y' hrpt, leads_sacLoopEnd, exec_sacLoopEnd_of_inside, leads_sacInterruptEntry,
    exec_sacInterruptEntry_of_none, fun hans v ch k => ?silent, fun hans => ?answers⟩
  case words =>
    exact ⟨h.leads_sacNop hunit hstep hop, h.leads_sacHalt hunit hstep hop, h.leads_sacWait hunit hstep hop,
      h.leads_sacB hunit hlact hstep hop htarget, h.leads_sacBc hunit hlact hstep hop htarget,
      h.leads_sacCall hunit hlact hstep hop htarget, h.exec_sacCall_of_full hunit hlact hop,
      fun hn hlow r rest hstack => h.leads_sacRet hunit hlact hstep hop hn hlow hstack, h.exec_sacRet_of_empty hunit hlact hop,
      h.leads_sacReti hunit hlact hstep hop,
      fun n hn hrpt hzero hcount => ⟨h.leads_sacRpt hunit hlact hstep hop hn hrpt hzero hcount,
        h.leads_sacRpt_zero hunit hlact hstep hop hn hrpt hzero hcount⟩,
      fun n len hn hlen hloop hlen1 hcount => ⟨h.leads_sacLoop hunit hlact hstep hop hn hlen hloop hlen1 hcount,
        h.leads_sacLoop_zero hunit hlact hstep hop hn hlen hloop hlen1 hcount⟩,
      fun ch hch hn hlow => ⟨h.leads_sacXgo_busy hunit hstep hop hch hn hlow, h.leads_sacXgo hunit hstep hop hch hn hlow⟩,
      h.leads_sacSevt hunit hstep hop⟩
  case silent =>
    have hdrop : ∀ f, (.next (s.atBlock .sac (c / 16) (c % 16) f) : Out) = .next s := fun f => congrArg _ (State.atBlock_of_not_answers hans f)
    exact ⟨hdrop _, hdrop _, hdrop _, hdrop _, hdrop _, hdrop _, hdrop _⟩
  case answers =>
    have hact : ∀ f, (.next (s.atBlock .sac (c / 16) (c % 16) f) : Out) = .next (f s) := fun f => congrArg _ (State.atBlock_of_answers hans f)
    have hreset : exec (.sacRstWrite c true) s = .next (s.sacReset c) := hact _
    have hrelease : exec (.sacRstWrite c false) s = .next (s.sacRelease c) := hact _
    have hbell : exec (.sacDbell c) s = .next (s.sacPendSet c 1) := hact _
    have hhalt : exec (.sacHaltreq c) s = .next (s.sacHaltreq c) := hact _
    have hstart : exec (.sacStart c) s = .next (s.sacStart c) := hact _
    have hcancel : ∀ ch : Fin 2, exec (.sacXcancel c ch) s = .next (s.sacXCancel c ch) := fun ch => hact _
    have hack : ∀ ch : Fin 2, exec (.sacXack c ch) s = .next (s.sacXAck c ch) := fun ch => hact _
    have hclr : ∀ k : BitVec 2, exec (.sacCntClr c k) s = .next (s.sacCntClr c k.toNat) := fun k => hact _
    refine ⟨⟨_, hreset, s.sacReset_spec c⟩, fun hrst hfree => ⟨_, hrelease, State.sacRelease_spec hrst hfree⟩,
      ⟨_, hbell, s.ipend_sacPendSet c 1⟩, fun hrun => by rw [hhalt, State.sacHaltreq_of_clocked hrun],
      fun hhalted => ⟨_, hstart, State.sacStart_of_halted hhalted⟩,
      fun hother => by rw [hstart, State.sacStart_of_not_halted hother],
      fun ch => ⟨fun hbusy => ⟨_, hcancel ch, State.sacXCancel_spec hbusy⟩, fun hidle => by rw [hcancel, State.sacXCancel_of_idle hidle], ?ack, ?noack⟩,
      gives_of_exec (hclr 1) rfl, gives_of_exec (hclr 2) rfl, gives_of_exec (hclr 3) rfl⟩
    case ack =>
      intro hvalid
      exact gives_of_exec (by rw [hack, State.sacXAck, if_pos hvalid]; rfl) rfl
    case noack =>
      intro hvalid
      rw [hack, State.sacXAck, if_neg (ne_true_of_eq_false hvalid)]

end Sys2Proof.Machine
